-- ==== Sys2Proof/Word.lean ====
section
/-!
DEFINITION. The word types of the model and their plainest arithmetic (R2: bits are numbered from 0 at the
least significant end).
-/

namespace Sys2Proof

/-- A byte. -/
abbrev Byte := BitVec 8
/-- A general register of a thread, and every 32-bit quantity the spec treats as bits. -/
abbrev Word32 := BitVec 32
/-- A register of the device as the bus carries it; a 32-bit register uses the low half. -/
abbrev Word64 := BitVec 64

/-- Bits [lo + w - 1 : lo] of a number. -/
def bitsOf (x lo w : Nat) : Nat := x / 2 ^ lo % 2 ^ w

/-- Bit `i` of a number. -/
def bitAt (x i : Nat) : Bool := x / 2 ^ i % 2 == 1

/-- 1 for true, 0 for false. -/
def b2n (b : Bool) : Nat := if b then 1 else 0

/-- The signed value of the low `w` bits of a number. -/
def toSigned (w x : Nat) : Int := if x % 2 ^ w < 2 ^ (w - 1) then (x % 2 ^ w : Nat) else (x % 2 ^ w : Nat) - (2 ^ w : Nat)

/-- The `w`-bit two's complement pattern of an integer. -/
def ofSigned (w : Nat) (x : Int) : Nat := (x % ((2 ^ w : Nat) : Int)).toNat

/-- A number with bit `i` set to `b`. -/
def withBit (x i : Nat) (b : Bool) : Nat := x - (x / 2 ^ i % 2) * 2 ^ i + b2n b * 2 ^ i

end Sys2Proof
end

