-- ==== Sys2Proof/Syntax.lean ====
section
/-!
DEFINITION. The commands of the block, one constructor for each row of the opcode table, and the types of what they carry.
-/
namespace Sys2Proof
/-- What the ECC of a Seam burst shows (R389): no error, one device corrected, or errors in more than one device. -/
inductive Ecc
  | good
  | corrected (dev : Fin 18)
  | lost (dev : Fin 18)
  deriving DecidableEq, Repr

/-- Who makes a register access: a requester of the service bus (R511), or a gallery's supervisor at its own registers. -/
inductive Src
  | relief
  | overman
  | background
  /-- the PCIe controller, for a request of the host to a function; `ide`: it came inside the function's IDE stream -/
  | host (fn : Fin 64) (ide : Bool)
  | tap
  | supervisor (g : Fin 26)
  deriving DecidableEq, Repr

/-- A record with a word in error that a Lode operation meets, if any (R262): corrected (true), or uncorrectable. -/
abbrev LodeErr := Option (Fin 33554432 × Bool)

/-- The record by its number. -/
def LodeErr.at (e : LodeErr) : Option (Nat × Bool) := e.map (fun x => (x.1.val, x.2))

/-- What the ECC of a word of on-die memory shows. -/
inductive MemEcc
  | good
  | corrected
  | lost
  deriving DecidableEq, Repr

/-- A party whose chains and reservations Bin reclaims (R333). -/
inductive Party
  | gallery (g : Fin 26)
  | host
  | function (fn : Fin 64)
  | overman
  deriving DecidableEq, Repr

/-- What fails a self-check (R404, R405): a copy of Draught's admission logic or of the Token board, or the unit in a
clock island. -/
inductive CheckUnit
  | draughtCopy
  | tokenCopy
  | island (isl : Fin 100)
  deriving DecidableEq, Repr

/-- A soft error in a table, which the lookups of a frame may meet before the scrub does: the parity of a rule entry is bad, or a bit of a
station or stream entry has changed (R103, R119, R120). -/
inductive Upset
  | rule (idx : Fin 32768)
  | station (p : Fin 4) (idx : Fin 262144) (bit : Fin 128)
  | stream (idx : Fin 65536) (bit : Fin 128)
  deriving DecidableEq, Repr

/-- What one step of the background scrub visits, and what it finds there (R469, R470). -/
inductive ScrubItem
  /-- a word of a gallery's memories, by its address within the gallery: 0 instruction memory, 1 private data, 2 shared -/
  | gallery (g : Fin 26) (mem : Fin 3) (core : Fin 8) (word : Fin 524288) (ecc : MemEcc)
  /-- a word of the Overman's memories -/
  | overman (ecc : MemEcc)
  /-- a way of a pipe's station table; an entry of the stream table, of the rule banks, of XC_GRP: its parity is bad or good -/
  | station (p : Fin 4) (idx : Fin 262144) (bad : Bool)
  | stream (idx : Fin 65536) (bad : Bool)
  | rule (idx : Fin 32768) (bad : Bool)
  | group (idx : Fin 65536) (bad : Bool)
  /-- a word of the template memory -/
  | template (ecc : MemEcc)
  /-- the words of a Lode record -/
  | lode (rec : Fin 33554432) (ecc : MemEcc)
  /-- a burst of a logical channel of Seam -/
  | seam (log : Fin 4) (burst : Fin 536870912) (ecc : Ecc)
  /-- a paired register, PT_TSDLY of a port: its complement disagrees or agrees -/
  | paired (p : Fin 32) (bad : Bool)
  /-- a NOR area: 0 and 1 image slots, 2 the calibration set, 3 the ledger -/
  | nor (area : Fin 4) (bad : Bool)
  /-- no unit is due at this step; a soft error comes into an entry that the scrub has yet to reach -/
  | elsewhere (upset : Upset)
  deriving DecidableEq, Repr

/-- What a calibration cycle works on (R471): a lane's equaliser, the OCXO thermistor in 1/16 °C, the junction sensor of an island
with its distance from the reference diode in 1/16 °C. -/
inductive CalItem
  | equaliser (lane : Fin 32)
  | ocxo (temp : Int)
  | sensor (isl : Fin 100) (off : Int)
  deriving DecidableEq, Repr

/-- What the end of a start-up stage brings with it from outside the state (R455 to R464). -/
inductive StageEnd
  | straps
  /-- for slot A and slot B, whether the key has the fused hash and the signature verifies; whether cores A and B agree, and
  whether core C starts -/
  | verify (signedA signedB lockstep coreC : Bool)
  | calib
  /-- every rail ramps its domains -/
  | ramp (ok : Bool)
  /-- the physical channels that train -/
  | train (passed : BitVec 5)
  /-- the quadrants whose self-test fails; a bucket of each row that it finds to repair -/
  | lode (bad : BitVec 4) (rows : List (Fin 8388608))
  /-- the galleries whose memory self-test fails; a self-check that fails: 0 Bin, 1 Hoist, 2 the timebase core, 3 both copies of
  the central logic -/
  | selftest (bad : BitVec 26) (fail : Option (Fin 4))
  /-- the instruction images and the bitstreams that the image holds for the galleries -/
  | config (imgs bits : List (Fin 26 × List Byte))
  | ready
  /-- the requests of the start-up configuration, by code and body, and the ports it enables -/
  | apply (reqs : List (BitVec 16 × List Byte)) (ports : BitVec 32)
  deriving DecidableEq, Repr

/-- The commands of the block: one constructor for each row of the opcode table, with what the command carries. -/
inductive Instr
  /-- REGISTER_WRITE (R8) -/
  | registerWrite (src : Src) (a : Fin 4296015872) (size : Fin 9) (v : Word64)
  /-- RC_READ (R6) -/
  | rcRead (src : Src) (a : Fin 4296015872) (size : Fin 9)
  /-- PT_TSDLY_WRITE (R5) -/
  | ptTsdlyWrite (src : Src) (p : Fin 32) (size : Fin 9) (v : Word64)
  /-- UNMAPPED_ACCESS (R508) -/
  | unmappedAccess (src : Src) (a : Fin 4296015872) (size : Fin 9) (v : Option Word64)
  /-- TB_NOW_LO_READ (R10) -/
  | tbNowLoRead (src : Src)
  /-- GL_FREC2_READ (R166) -/
  | glFrec2Read (src : Src) (g : Fin 26)
  /-- LD_ANQ1_READ (R256) -/
  | ldAnq1Read (src : Src)
  /-- TK_RREC1_READ (R279) -/
  | tkRrec1Read (src : Src)
  /-- COLD_RESET (R460) -/
  | coldReset
  /-- STRAP_SAMPLE (R455) -/
  | strapSample (bootSel : Bool) (lullEn : Bool)
  /-- STARTUP_STAGE_END (R460) -/
  | startupStageEnd (e : StageEnd)
  /-- STAGE_TIMEOUT (R465) -/
  | stageTimeout
  /-- WARM_RESET_BEGIN (R467) -/
  | warmResetBegin
  /-- PERST_N_ASSERT (R358) -/
  | perstNAssert
  /-- PERST_N_RELEASE (R358) -/
  | perstNRelease
  /-- FLR (R356) -/
  | flr (fn : Fin 64)
  /-- FRAME_RECEIVE (R31) -/
  | frameReceive (p : Fin 32) (data : List Byte) (sec : Option Bool)
  /-- PIPE_ACCEPT (R75) -/
  | pipeAccept (p : Fin 4)
  /-- BODY_COMPLETE (R16) -/
  | bodyComplete (h : Nat)
  /-- PARSE_START (R76) -/
  | parseStart (p : Fin 4) (a : Fin 16)
  /-- ASSAY_EXT (R77) -/
  | assayExt (p : Fin 4) (a : Fin 16)
  /-- LDR (R77) -/
  | ldr (p : Fin 4) (a : Fin 16)
  /-- ADVI (R77) -/
  | advi (p : Fin 4) (a : Fin 16)
  /-- ADVR (R77) -/
  | advr (p : Fin 4) (a : Fin 16)
  /-- BEQ (R77) -/
  | beq (p : Fin 4) (a : Fin 16)
  /-- BNE (R77) -/
  | bne (p : Fin 4) (a : Fin 16)
  /-- BSET (R77) -/
  | bset (p : Fin 4) (a : Fin 16)
  /-- JMP (R77) -/
  | jmp (p : Fin 4) (a : Fin 16)
  /-- SETB (R77) -/
  | setb (p : Fin 4) (a : Fin 16)
  /-- PUTR (R77) -/
  | putr (p : Fin 4) (a : Fin 16)
  /-- KEYP (R77) -/
  | keyp (p : Fin 4) (a : Fin 16)
  /-- HDR (R77) -/
  | hdr (p : Fin 4) (a : Fin 16)
  /-- LDM (R77) -/
  | ldm (p : Fin 4) (a : Fin 16)
  /-- DONE (R81) -/
  | done (p : Fin 4) (a : Fin 16)
  /-- FAIL (R78) -/
  | fail (p : Fin 4) (a : Fin 16)
  /-- PARSE_OVERRUN (R78) -/
  | parseOverrun (p : Fin 4) (a : Fin 16)
  /-- TUB_ISSUE (R87) -/
  | tubIssue (p : Fin 4)
  /-- EXCEPTION_DELIVER (R96) -/
  | exceptionDeliver (h : Nat)
  /-- EXC_TOKEN_CREDIT (R97) -/
  | excTokenCredit
  /-- COMMIT_EFFECT (R90) -/
  | commitEffect (p : Fin 4)
  /-- STAGING_COPY_DONE (R91) -/
  | stagingCopyDone
  /-- EDDY_ENQUEUE (R93) -/
  | eddyEnqueue
  /-- LEARN_APPLY (R109) -/
  | learnApply (p : Fin 4)
  /-- STATION_SWEEP_VISIT (R112) -/
  | stationSweepVisit (p : Fin 4)
  /-- ST_DMACTL_START (R121) -/
  | stDmactlStart (src : Src) (op : Bool) (tbl : Fin 8) (index : Fin 262144) (count : Fin 524288)
  /-- ST_DMA_DONE (R121) -/
  | stDmaDone
  /-- ST_DMACTL_LOCK (R122) -/
  | stDmactlLock (src : Src) (tbl : Fin 8) (lock : Bool)
  /-- LOCK_TIMEOUT (R122) -/
  | lockTimeout
  /-- TABLE_CLEAR_DONE (R124) -/
  | tableClearDone
  /-- DR_TCTL_EN (R128) -/
  | drTctlEn (src : Src) (t : Fin 256) (en : Bool)
  /-- ADMISSION (R130) -/
  | admission (p : Fin 4) (c7 : Bool)
  /-- NODE_DISPATCH (R136) -/
  | nodeDispatch (g : Fin 26)
  /-- THREAD_TAKE_NODE (R161) -/
  | threadTakeNode (k : Fin 1664)
  /-- NODE_COMPLETE (R135) -/
  | nodeComplete
  /-- HELPER_TIMEOUT (R141) -/
  | helperTimeout (g : Fin 26) (slot : Fin 2048) (node : Fin 16)
  /-- DELAY_FIRE (R71) -/
  | delayFire (g : Fin 26)
  /-- JOB_VOID (R140) -/
  | jobVoid (g : Fin 26) (slot : Fin 2048)
  /-- DISPATCH_TRACE_DRAIN (R145) -/
  | dispatchTraceDrain
  /-- LODE_HELPER (R243) -/
  | lodeHelper (g : Fin 26) (bad : LodeErr)
  /-- STREAM_HELPER (R114) -/
  | streamHelper (g : Fin 26)
  /-- RULE_HELPER (R82) -/
  | ruleHelper (g : Fin 26)
  /-- DDR_FETCH (R127) -/
  | ddrFetch (g : Fin 26)
  /-- RELEASE_NODE_COMPLETE (R296) -/
  | releaseNodeComplete (g : Fin 26)
  /-- HOIST_RELEASE (R292) -/
  | hoistRelease
  /-- BARE_VOID (R293) -/
  | bareVoid (p : Fin 4) (c7 : Bool)
  /-- REORDER_LIMIT (R294) -/
  | reorderLimit (t : Fin 16384)
  /-- HOIST_RECLAIM (R298) -/
  | hoistReclaim (g : Fin 26)
  /-- ENQUEUE_REQUEST (R304) -/
  | enqueueRequest
  /-- COLUMN_MOVE (R312) -/
  | columnMove (col : Fin 12)
  /-- TRANSMIT_OPPORTUNITY (R43) -/
  | transmitOpportunity (p : Fin 32)
  /-- EGRESS_EDIT (R313) -/
  | egressEdit (p : Fin 32)
  /-- FRAME_SENT (R313) -/
  | frameSent (p : Fin 32)
  /-- CAPTURE_WRITE (R320) -/
  | captureWrite
  /-- HOLD_WINDOW_END (R317) -/
  | holdWindowEnd (p : Fin 32)
  /-- XC_PLMAP_WRITE (R310) -/
  | xcPlmapWrite (src : Src) (v : Word64)
  /-- PLANE_MOVE_DONE (R310) -/
  | planeMoveDone (e : Fin 64)
  /-- THRESHOLD_TUNE (R321) -/
  | thresholdTune
  /-- ALLOC (R328) -/
  | alloc (h : Nat)
  /-- RESERVE (R330) -/
  | reserve (row : Fin 12) (tag : Fin 1048576) (n : Nat) (cls7 : Bool)
  /-- TAKE (R328) -/
  | take (row : Fin 12) (tag : Fin 1048576)
  /-- UNRESERVE (R328) -/
  | unreserve (row : Fin 12) (tag : Fin 1048576) (n : Nat)
  /-- XFER (R329) -/
  | xfer (ptr : Fin 16777216) (old : Fin 1048576) (new : Fin 1048576)
  /-- APPEND (R328) -/
  | append (ptr : Fin 16777216) (hdr : Fin 16777216)
  /-- SETREF (R308) -/
  | setref (ptr : Fin 16777216) (tag : Fin 1048576) (k : Fin 256)
  /-- ADDREF (R328) -/
  | addref (ptr : Fin 16777216)
  /-- DROPREF (R328) -/
  | dropref (ptr : Fin 16777216)
  /-- FREE (R329) -/
  | free (ptr : Fin 16777216) (tag : Fin 1048576)
  /-- BIN_RECLAIM_SCAN (R333) -/
  | binReclaimScan (p : Party)
  /-- FREE_LIST_REBUILD_DONE (R336) -/
  | freeListRebuildDone (row : Fin 12)
  /-- CONSERVATION_CHECK (R337) -/
  | conservationCheck (bad : Bool)
  /-- GL_GENCMD_GO (R334) -/
  | glGencmdGo (src : Src) (g : Fin 26) (v : Word64)
  /-- GENERATOR_COPY_DONE (R334) -/
  | generatorCopyDone (g : Fin 26)
  /-- PT_PCFG_WRITE (R29) -/
  | ptPcfgWrite (src : Src) (p : Fin 32) (v : Word32)
  /-- LINK_LOSS (R49) -/
  | linkLoss (p : Fin 32) (lock : Bool) (loc : Bool) (rem : Bool)
  /-- LINK_CONDITION_CLEARS (R49) -/
  | linkConditionClears (p : Fin 32)
  /-- DEBOUNCE_EXPIRY (R49) -/
  | debounceExpiry (p : Fin 32)
  /-- LINK_UP (R49) -/
  | linkUp (p : Fin 32)
  /-- LINK_FAULT_SIGNALLED (R49) -/
  | linkFaultSignalled (p : Fin 32) (loc : Bool) (rem : Bool)
  /-- FAULT_CLEAR (R49) -/
  | faultClear (p : Fin 32)
  /-- LOCK_LOST (R49) -/
  | lockLost (p : Fin 32)
  /-- TS_CAL_DONE (R38) -/
  | tsCalDone (p : Fin 32)
  /-- PAUSE_FRAME_RX (R32) -/
  | pauseFrameRx (p : Fin 32) (pfc : Bool) (hold : Fin 256) (release : Fin 256)
  /-- PAUSE_REFRESH (R33) -/
  | pauseRefresh (row : Fin 8)
  /-- PAUSE_WATCHDOG (R34) -/
  | pauseWatchdog (p : Fin 32) (q : Fin 8)
  /-- WATCHDOG_DISCARD_END (R34) -/
  | watchdogDiscardEnd (p : Fin 32) (q : Fin 8)
  /-- PT_GCLCTL_COMMIT (R46) -/
  | ptGclctlCommit (src : Src) (p : Fin 32) (cycle : Word32) (length : Fin 2048)
  /-- GATE_CHANGEOVER (R46) -/
  | gateChangeover (p : Fin 32)
  /-- GATE_ENTRY_BOUNDARY (R44) -/
  | gateEntryBoundary (p : Fin 32)
  /-- PRP_SUPERVISION_SEND (R42) -/
  | prpSupervisionSend (p : Fin 32)
  /-- CROSSING_TOKEN (R53) -/
  | crossingToken (isl : Fin 100) (bad : Bool)
  /-- ISLAND_CLOCK_RESTART (R55) -/
  | islandClockRestart (isl : Fin 100)
  /-- REF_MEASUREMENT (R56) -/
  | refMeasurement (b : Fin 2) (ok : Bool)
  /-- REF_EDGE_LOSS (R56) -/
  | refEdgeLoss (b : Fin 2)
  /-- REF_REVERT (R57) -/
  | refRevert
  /-- PPS_IN_EDGE (R58) -/
  | ppsInEdge (wide : Bool)
  /-- PPS_IN_LOSS (R58) -/
  | ppsInLoss
  /-- IRIG_FRAME (R59) -/
  | irigFrame (soy : Nat) (year : Option Nat) (ext : Option (BitVec 16 × Fin 3 × BitVec 32 × BitVec 4))
  /-- IRIG_MISSING (R59) -/
  | irigMissing
  /-- PTP_MEASUREMENT (R60) -/
  | ptpMeasurement (off : BitVec 64) (late : Bool) (stale : Bool) (ann : Option (BitVec 16 × Fin 3 × BitVec 32))
  /-- PTP_TIMEOUT (R60) -/
  | ptpTimeout
  /-- HOLD_VALID_SET (R62) -/
  | holdValidSet
  /-- HOLDOVER_EXPIRY (R62) -/
  | holdoverExpiry
  /-- OVEN_READY (R72) -/
  | ovenReady
  /-- TB_CTL_WRITE (R62) -/
  | tbCtlWrite (src : Src) (v : Word32)
  /-- TB_STEP_WRITE (R63) -/
  | tbStepWrite (src : Src) (v : Word64)
  /-- STEP_TAKES_EFFECT (R63) -/
  | stepTakesEffect
  /-- TB_FREQ_WRITE (R61) -/
  | tbFreqWrite (src : Src) (v : Word32)
  /-- TB_UTC_WRITE (R66) -/
  | tbUtcWrite (src : Src) (v : Word64)
  /-- LEAP_TAKES_EFFECT (R66) -/
  | leapTakesEffect
  /-- TICK_CHANGE (R70) -/
  | tickChange
  /-- PPS_OUT_RISE (R65) -/
  | ppsOutRise
  /-- PPS_OUT_FALL (R65) -/
  | ppsOutFall
  /-- DVFS_COMPLETE (R171) -/
  | dvfsComplete (g : Fin 26)
  /-- INTERRUPT_LATCH (R163) -/
  | interruptLatch (k : Fin 1664)
  /-- SUP_TIMEOUT (R167) -/
  | supTimeout (g : Fin 26)
  /-- GL_TCTL_RST (R168) -/
  | glTctlRst (src : Src) (g : Fin 26) (c : Fin 8) (t : Fin 8)
  /-- GL_TCTL_KILL (R165) -/
  | glTctlKill (src : Src) (g : Fin 26) (c : Fin 8) (t : Fin 8)
  /-- GL_CTL_CORE_RST (R168) -/
  | glCtlCoreRst (src : Src) (g : Fin 26) (mask : Fin 256)
  /-- GL_CTL_GAL_RST (R168) -/
  | glCtlGalRst (src : Src) (g : Fin 26)
  /-- GALLERY_RESET_DONE (R170) -/
  | galleryResetDone (g : Fin 26)
  /-- GL_CTL_SUP_RUN (R160) -/
  | glCtlSupRun (src : Src) (g : Fin 26)
  /-- GL_TSOFT (R162) -/
  | glTsoft (src : Src) (g : Fin 26) (thread : Fin 64)
  /-- GL_ROSECTL_COMMIT (R158) -/
  | glRosectlCommit (src : Src) (g : Fin 26) (c : Fin 8)
  /-- ROSE_CHANGEOVER (R158) -/
  | roseChangeover (g : Fin 26) (c : Fin 8)
  /-- ADD (R183) -/
  | add (k : Fin 1664) (dst : Fin 16) (src : Fin 16)
  /-- SUB (R183) -/
  | sub (k : Fin 1664) (dst : Fin 16) (src : Fin 16)
  /-- AND (R183) -/
  | andR (k : Fin 1664) (dst : Fin 16) (src : Fin 16)
  /-- OR (R183) -/
  | orR (k : Fin 1664) (dst : Fin 16) (src : Fin 16)
  /-- XOR (R183) -/
  | xorR (k : Fin 1664) (dst : Fin 16) (src : Fin 16)
  /-- MOV (R183) -/
  | mov (k : Fin 1664) (dst : Fin 16) (src : Fin 16)
  /-- ADC (R183) -/
  | adc (k : Fin 1664) (dst : Fin 16) (src : Fin 16)
  /-- SBC (R183) -/
  | sbc (k : Fin 1664) (dst : Fin 16) (src : Fin 16)
  /-- CMP (R183) -/
  | cmp (k : Fin 1664) (dst : Fin 16) (src : Fin 16)
  /-- TST (R183) -/
  | tst (k : Fin 1664) (dst : Fin 16) (src : Fin 16)
  /-- MUL (R183) -/
  | mul (k : Fin 1664) (dst : Fin 16) (src : Fin 16)
  /-- MULH (R183) -/
  | mulh (k : Fin 1664) (dst : Fin 16) (src : Fin 16)
  /-- MULHU (R183) -/
  | mulhu (k : Fin 1664) (dst : Fin 16) (src : Fin 16)
  /-- SHL (R183) -/
  | shl (k : Fin 1664) (dst : Fin 16) (src : Fin 16)
  /-- SHR (R183) -/
  | shr (k : Fin 1664) (dst : Fin 16) (src : Fin 16)
  /-- SAR (R183) -/
  | sar (k : Fin 1664) (dst : Fin 16) (src : Fin 16)
  /-- ROR (R183) -/
  | ror (k : Fin 1664) (dst : Fin 16) (src : Fin 16)
  /-- ADDI (R183) -/
  | addi (k : Fin 1664) (dst : Fin 16) (imm : Fin 64)
  /-- MOVI (R183) -/
  | movi (k : Fin 1664) (dst : Fin 16) (imm : Fin 64)
  /-- CMPI (R183) -/
  | cmpi (k : Fin 1664) (dst : Fin 16) (imm : Fin 64)
  /-- SHLI (R183) -/
  | shli (k : Fin 1664) (dst : Fin 16) (n : Fin 16)
  /-- SHRI (R183) -/
  | shri (k : Fin 1664) (dst : Fin 16) (n : Fin 16)
  /-- SARI (R183) -/
  | sari (k : Fin 1664) (dst : Fin 16) (n : Fin 16)
  /-- RORI (R183) -/
  | rori (k : Fin 1664) (dst : Fin 16) (n : Fin 16)
  /-- LDB (R183) -/
  | ldb (k : Fin 1664) (dst : Fin 16) (b : Fin 16)
  /-- LDH (R183) -/
  | ldh (k : Fin 1664) (dst : Fin 16) (b : Fin 16)
  /-- LDW (R183) -/
  | ldw (k : Fin 1664) (dst : Fin 16) (b : Fin 16)
  /-- LDHS (R183) -/
  | ldhs (k : Fin 1664) (dst : Fin 16) (b : Fin 16)
  /-- STB (R183) -/
  | stb (k : Fin 1664) (src : Fin 16) (b : Fin 16)
  /-- STH (R183) -/
  | sth (k : Fin 1664) (src : Fin 16) (b : Fin 16)
  /-- STW (R183) -/
  | stw (k : Fin 1664) (src : Fin 16) (b : Fin 16)
  /-- BCC (R185) -/
  | bcc (k : Fin 1664) (cond : Fin 16) (off : Fin 64)
  /-- CALL (R183) -/
  | call (k : Fin 1664) (off : Fin 512)
  /-- JR (R183) -/
  | jr (k : Fin 1664) (src : Fin 16)
  /-- CALLR (R183) -/
  | callr (k : Fin 1664) (src : Fin 16)
  /-- RET (R183) -/
  | ret (k : Fin 1664)
  /-- MFS (R173) -/
  | mfs (k : Fin 1664) (dst : Fin 16) (num : Fin 16)
  /-- MTS (R173) -/
  | mts (k : Fin 1664) (num : Fin 16) (src : Fin 16)
  /-- NOP (R183) -/
  | nop (k : Fin 1664)
  /-- END (R187) -/
  | endNode (k : Fin 1664)
  /-- RTI (R183) -/
  | rti (k : Fin 1664)
  /-- FENCE (R187) -/
  | fence (k : Fin 1664)
  /-- BRK (R501) -/
  | brk (k : Fin 1664)
  /-- NOT (R183) -/
  | notR (k : Fin 1664) (r : Fin 16)
  /-- NEG (R183) -/
  | neg (k : Fin 1664) (r : Fin 16)
  /-- CLZ (R183) -/
  | clz (k : Fin 1664) (r : Fin 16)
  /-- BSWAP (R183) -/
  | bswap (k : Fin 1664) (r : Fin 16)
  /-- SXB (R183) -/
  | sxb (k : Fin 1664) (r : Fin 16)
  /-- SXH (R183) -/
  | sxh (k : Fin 1664) (r : Fin 16)
  /-- POPC (R183) -/
  | popc (k : Fin 1664) (r : Fin 16)
  /-- IMW (R190) -/
  | imw (k : Fin 1664) (a : Fin 16) (b : Fin 16)
  /-- MIN (R183) -/
  | minR (k : Fin 1664) (dst : Fin 16) (src : Fin 16)
  /-- MAX (R183) -/
  | maxR (k : Fin 1664) (dst : Fin 16) (src : Fin 16)
  /-- EXT (R178) -/
  | ext (k : Fin 1664) (imm : Fin 1024)
  /-- STORE_PERFORM (R187) -/
  | storePerform (k : Fin 1664)
  /-- LONG_LOAD_RETURN (R191) -/
  | longLoadReturn (k : Fin 1664) (n : Fin 16) (ecc : MemEcc)
  /-- LKA (R269) -/
  | lka (k : Fin 1664) (r : Fin 16)
  /-- LKT (R269) -/
  | lkt (k : Fin 1664) (r : Fin 16)
  /-- LKR (R274) -/
  | lkr (k : Fin 1664) (r : Fin 16)
  /-- WLA (R271) -/
  | wla (k : Fin 1664) (r : Fin 16)
  /-- WLT (R271) -/
  | wlt (k : Fin 1664) (r : Fin 16)
  /-- WLR (R271) -/
  | wlr (k : Fin 1664) (r : Fin 16)
  /-- EVW (R280) -/
  | evw (k : Fin 1664) (r : Fin 16)
  /-- EVS (R280) -/
  | evs (k : Fin 1664) (r : Fin 16)
  /-- CHP (R281) -/
  | chp (k : Fin 1664) (r : Fin 16)
  /-- CHC (R281) -/
  | chc (k : Fin 1664) (r : Fin 16)
  /-- CHG (R282) -/
  | chg (k : Fin 1664) (r : Fin 16)
  /-- EVW_TIMEOUT (R280) -/
  | evwTimeout (k : Fin 1664)
  /-- TK_FREL (R277) -/
  | tkFrel (src : Src) (lock : Fin 4096)
  /-- TK_CHAN_WRITE (R283) -/
  | tkChanWrite (src : Src) (c : Fin 1024) (v : Word64)
  /-- TOKEN_RECLAIM (R278) -/
  | tokenReclaim (g : Fin 26)
  /-- DOLDRUMS_FIRE (R284) -/
  | doldrumsFire (g : Fin 26) (w : Fin 8)
  /-- DOLDRUMS_ANSWER (R285) -/
  | doldrumsAnswer (g : Fin 26) (mask : BitVec 8)
  /-- DOLDRUMS_ESCALATE (R285) -/
  | doldrumsEscalate (g : Fin 26) (w : Fin 8)
  /-- SEL (R200) -/
  | sel (k : Fin 1664) (r : Fin 16)
  /-- ACB (R200) -/
  | acb (k : Fin 1664) (r : Fin 16)
  /-- ACH (R200) -/
  | ach (k : Fin 1664) (r : Fin 16)
  /-- ACW (R200) -/
  | acw (k : Fin 1664) (r : Fin 16)
  /-- ACM (R200) -/
  | acm (k : Fin 1664) (r : Fin 16)
  /-- FIN (R200) -/
  | fin (k : Fin 1664) (r : Fin 16)
  /-- CSU (R200) -/
  | csu (k : Fin 1664) (r : Fin 16)
  /-- HSH (R200) -/
  | hsh (k : Fin 1664) (r : Fin 16)
  /-- LDA (R200) -/
  | lda (k : Fin 1664) (r : Fin 16)
  /-- LER (R198) -/
  | ler (k : Fin 1664) (r : Fin 16)
  /-- MACK (R201) -/
  | mack (k : Fin 1664) (i : Fin 4) (r : Fin 16)
  /-- ADV (R201) -/
  | adv (k : Fin 1664)
  /-- SPH (R201) -/
  | sph (k : Fin 1664) (r : Fin 16)
  /-- SDP (R201) -/
  | sdp (k : Fin 1664) (r : Fin 16)
  /-- CLR (R201) -/
  | clr (k : Fin 1664) (r : Fin 16)
  /-- RDR (R201) -/
  | rdr (k : Fin 1664) (r : Fin 16)
  /-- RDI (R201) -/
  | rdi (k : Fin 1664) (r : Fin 16)
  /-- RST (R201) -/
  | rst (k : Fin 1664) (r : Fin 16)
  /-- CP2_COMPLETE (R202) -/
  | cp2Complete (k : Fin 1664) (n : Fin 4) (bad : LodeErr)
  /-- CP2_TIMEOUT (R204) -/
  | cp2Timeout (k : Fin 1664) (n : Fin 4)
  /-- LATE_ERROR (R198) -/
  | lateError (g : Fin 26)
  /-- FACE_OPERATION (R207) -/
  | faceOperation (k : Fin 1664) (op : Fin 16) (r : Fin 16)
  /-- FACE_REPLY (R207) -/
  | faceReply (g : Fin 26) (tag : BitVec 8) (data : Word32) (err : Fin 16)
  /-- FACE_TIMEOUT (R207) -/
  | faceTimeout (g : Fin 26) (tag : BitVec 8)
  /-- FC_IRQ (R206) -/
  | fcIrq (g : Fin 26)
  /-- GL_FCCTL_LOAD (R208) -/
  | glFcctlLoad (src : Src) (g : Fin 26)
  /-- FACE_LOAD_DONE (R210) -/
  | faceLoadDone (g : Fin 26)
  /-- GL_FCCTL_CLEAR (R210) -/
  | glFcctlClear (src : Src) (g : Fin 26)
  /-- GL_FCCTL_RUN (R210) -/
  | glFcctlRun (src : Src) (g : Fin 26) (run : Bool)
  /-- FACE_FRAME_SCRUB (R211) -/
  | faceFrameScrub (g : Fin 26) (ecc : MemEcc)
  /-- FACE_RESTART (R210) -/
  | faceRestart (g : Fin 26)
  /-- STEP (R219) -/
  | step (g : Fin 26)
  /-- STATE (R216) -/
  | state (g : Fin 26)
  /-- WINDOW_DEADLINE (R219) -/
  | windowDeadline (g : Fin 26) (slot : Fin 1536) (set : Fin 3)
  /-- BLOCK_ARRIVE (R225) -/
  | blockArrive
  /-- FRAME_EMISSION (R225) -/
  | frameEmission (o : Fin 1024)
  /-- CFG_CHG_END (R228) -/
  | cfgChgEnd (o : Fin 1024)
  /-- LOOKUP (R240) -/
  | lookup (bad : LodeErr)
  /-- INSERT (R235) -/
  | insert (bad : LodeErr)
  /-- DISPLACEMENT_MOVE (R236) -/
  | displacementMove (n : Fin 1024)
  /-- LODE_ADD (R240) -/
  | lodeAdd (bad : LodeErr)
  /-- SUPV (R253) -/
  | supv (bad : LodeErr)
  /-- LODE_MAX (R240) -/
  | lodeMax (bad : LodeErr)
  /-- CAS (R240) -/
  | cas (bad : LodeErr)
  /-- SEQ (R250) -/
  | seq (bad : LodeErr)
  /-- DELETE (R240) -/
  | delete (bad : LodeErr)
  /-- GEN (R252) -/
  | gen (bad : LodeErr)
  /-- RDX (R240) -/
  | rdx (bad : LodeErr)
  /-- WRX (R240) -/
  | wrx (bad : LodeErr)
  /-- WATCH_EXPIRY (R255) -/
  | watchExpiry (slot : Fin 65536)
  /-- LODE_SWEEP_VISIT (R257) -/
  | lodeSweepVisit
  /-- LD_SWEEP_FLUSH (R257) -/
  | ldSweepFlush (src : Src) (kind : Fin 256) (pinned : Bool)
  /-- EXPORT_WRITE (R260) -/
  | exportWrite
  /-- REPAIR_STEP (R263) -/
  | repairStep (k : Fin 1049600)
  /-- ANOMALY_DRAIN (R256) -/
  | anomalyDrain
  /-- AGE_POLICY_STEP (R259) -/
  | agePolicyStep
  /-- CAGE_DOORBELL (R362) -/
  | cageDoorbell (src : Src) (fn : Fin 64) (v : Word32)
  /-- IDENTIFY (R371) -/
  | identify (fn : Fin 64)
  /-- CAGE_NOP (R371) -/
  | cageNop (fn : Fin 64)
  /-- DEVICE_STATUS (R371) -/
  | deviceStatus (fn : Fin 64)
  /-- EVENT_MASK (R377) -/
  | eventMask (fn : Fin 64)
  /-- EXPERT_GRANT (R367) -/
  | expertGrant (fn : Fin 64)
  /-- EXPERT_RELEASE (R367) -/
  | expertRelease (fn : Fin 64)
  /-- FUNCTION_RIGHTS (R366) -/
  | functionRights (fn : Fin 64)
  /-- FW_UPDATE (R457) -/
  | fwUpdate (fn : Fin 64) (ok : Bool)
  /-- FW_ACTIVATE (R371) -/
  | fwActivate (fn : Fin 64) (ok : Bool)
  /-- WARM_RESET (R467) -/
  | warmReset (fn : Fin 64)
  /-- SY_RST_WARM (R467) -/
  | syRstWarm (src : Src)
  /-- QUEUE_ASSIGN (R345) -/
  | queueAssign (fn : Fin 64)
  /-- QUEUE_SETUP (R345) -/
  | queueSetup (fn : Fin 64)
  /-- QUEUE_ENABLE (R352) -/
  | queueEnable (fn : Fin 64)
  /-- QUEUE_STATS (R371) -/
  | queueStats (fn : Fin 64)
  /-- LINK_STATUS (R371) -/
  | linkStatus (fn : Fin 64)
  /-- HOST_CONFIG (R371) -/
  | hostConfig (fn : Fin 64)
  /-- PORT_CONFIG (R29) -/
  | portConfig (fn : Fin 64)
  /-- PORT_STATUS (R372) -/
  | portStatus (fn : Fin 64)
  /-- PORT_STATS (R372) -/
  | portStats (fn : Fin 64)
  /-- GATE_LIST_LOAD (R46) -/
  | gateListLoad (fn : Fin 64)
  /-- MACSEC_SA_SET (R36) -/
  | macsecSaSet (fn : Fin 64)
  /-- PTP_CONFIG (R40) -/
  | ptpConfig (fn : Fin 64)
  /-- RED_PAIR_SET (R41) -/
  | redPairSet (fn : Fin 64)
  /-- TIME_CONFIG (R62) -/
  | timeConfig (fn : Fin 64)
  /-- TIME_STATUS (R372) -/
  | timeStatus (fn : Fin 64)
  /-- UTC_SET (R66) -/
  | utcSet (fn : Fin 64)
  /-- TIME_STEP (R63) -/
  | timeStep (fn : Fin 64)
  /-- RULE_WRITE (R89) -/
  | ruleWrite (fn : Fin 64)
  /-- RULE_FLAG (R89) -/
  | ruleFlag (fn : Fin 64)
  /-- RULE_READ (R372) -/
  | ruleRead (fn : Fin 64)
  /-- KEY_PROFILE_SET (R81) -/
  | keyProfileSet (fn : Fin 64)
  /-- PARSE_LOAD (R76) -/
  | parseLoad (fn : Fin 64)
  /-- RULE_COMMIT (R90) -/
  | ruleCommit (fn : Fin 64)
  /-- RULE_STATUS (R372) -/
  | ruleStatus (fn : Fin 64)
  /-- RULE_RETIRE (R92) -/
  | ruleRetire (fn : Fin 64)
  /-- EXC_CONFIG (R96) -/
  | excConfig (fn : Fin 64)
  /-- EXC_STATS (R372) -/
  | excStats (fn : Fin 64)
  /-- EDDY_CONFIG (R93) -/
  | eddyConfig (fn : Fin 64)
  /-- ASSAY_STATS (R372) -/
  | assayStats (fn : Fin 64)
  /-- STATION_ADD (R372) -/
  | stationAdd (fn : Fin 64)
  /-- STATION_DEL (R372) -/
  | stationDel (fn : Fin 64)
  /-- STATION_FLUSH (R372) -/
  | stationFlush (fn : Fin 64)
  /-- STATION_READ (R372) -/
  | stationRead (fn : Fin 64)
  /-- STATION_CONFIG (R372) -/
  | stationConfig (fn : Fin 64)
  /-- STREAM_SET (R122) -/
  | streamSet (fn : Fin 64)
  /-- STREAM_GET (R372) -/
  | streamGet (fn : Fin 64)
  /-- METER_SET (R118) -/
  | meterSet (fn : Fin 64)
  /-- TABLE_STATS (R372) -/
  | tableStats (fn : Fin 64)
  /-- TEMPLATE_LOAD (R373) -/
  | templateLoad (fn : Fin 64)
  /-- TEMPLATE_ENABLE (R128) -/
  | templateEnable (fn : Fin 64)
  /-- TEMPLATE_STATUS (R373) -/
  | templateStatus (fn : Fin 64)
  /-- AFFINITY_SET (R132) -/
  | affinitySet (fn : Fin 64)
  /-- TWIN_CONFIG (R133) -/
  | twinConfig (fn : Fin 64)
  /-- SCHED_STATS (R144) -/
  | schedStats (fn : Fin 64)
  /-- TRACE_START (R145) -/
  | traceStart (fn : Fin 64)
  /-- TRACE_STOP (R145) -/
  | traceStop (fn : Fin 64)
  /-- DRAUGHT_CONFIG (R373) -/
  | draughtConfig (fn : Fin 64)
  /-- GALLERY_LOAD (R149) -/
  | galleryLoad (fn : Fin 64) (img : Option (List Byte))
  /-- GALLERY_STATUS (R373) -/
  | galleryStatus (fn : Fin 64)
  /-- ROSE_SET (R158) -/
  | roseSet (fn : Fin 64)
  /-- FAULT_READ (R373) -/
  | faultRead (fn : Fin 64)
  /-- GALLERY_RESET (R168) -/
  | galleryReset (fn : Fin 64)
  /-- THREAD_RESET (R168) -/
  | threadReset (fn : Fin 64)
  /-- FACE_LOAD (R208) -/
  | faceLoad (fn : Fin 64)
  /-- FACE_RUN (R210) -/
  | faceRun (fn : Fin 64)
  /-- FACE_STATUS (R373) -/
  | faceStatus (fn : Fin 64)
  /-- CP_STATS (R373) -/
  | cpStats (fn : Fin 64)
  /-- PHASOR_BIND (R215) -/
  | phasorBind (fn : Fin 64)
  /-- PHASOR_UNBIND (R373) -/
  | phasorUnbind (fn : Fin 64)
  /-- PHASOR_ENABLE (R373) -/
  | phasorEnable (fn : Fin 64)
  /-- PMU_OUTPUT_SET (R226) -/
  | pmuOutputSet (fn : Fin 64)
  /-- PHASOR_STATUS (R373) -/
  | phasorStatus (fn : Fin 64)
  /-- PMU_STATS (R373) -/
  | pmuStats (fn : Fin 64)
  /-- LODE_OP (R374) -/
  | lodeOp (fn : Fin 64) (bad : LodeErr)
  /-- LODE_READ (R374) -/
  | lodeRead (fn : Fin 64) (bad : LodeErr)
  /-- LODE_WRITE (R374) -/
  | lodeWrite (fn : Fin 64)
  /-- LODE_FLUSH (R257) -/
  | lodeFlush (fn : Fin 64)
  /-- LODE_EXPORT_SET (R260) -/
  | lodeExportSet (fn : Fin 64)
  /-- LODE_ANOMALY_READ (R374) -/
  | lodeAnomalyRead (fn : Fin 64)
  /-- LODE_STATS (R374) -/
  | lodeStats (fn : Fin 64)
  /-- LODE_AGE_SET (R259) -/
  | lodeAgeSet (fn : Fin 64)
  /-- LODE_CONFIG (R374) -/
  | lodeConfig (fn : Fin 64)
  /-- LOCK_GROUP_SET (R268) -/
  | lockGroupSet (fn : Fin 64)
  /-- LOCK_STATUS (R374) -/
  | lockStatus (fn : Fin 64)
  /-- CHANNEL_SET (R283) -/
  | channelSet (fn : Fin 64)
  /-- DOLDRUMS_CONFIG (R284) -/
  | doldrumsConfig (fn : Fin 64)
  /-- TOKEN_STATS (R374) -/
  | tokenStats (fn : Fin 64)
  /-- LOCK_FORCE_RELEASE (R277) -/
  | lockForceRelease (fn : Fin 64)
  /-- HOIST_STATS (R374) -/
  | hoistStats (fn : Fin 64)
  /-- HOIST_DOMAIN_READ (R374) -/
  | hoistDomainRead (fn : Fin 64)
  /-- HOIST_CONFIG (R374) -/
  | hoistConfig (fn : Fin 64)
  /-- MCAST_GROUP_SET (R308) -/
  | mcastGroupSet (fn : Fin 64)
  /-- MCAST_GROUP_GET (R374) -/
  | mcastGroupGet (fn : Fin 64)
  /-- MIRROR_SET (R319) -/
  | mirrorSet (fn : Fin 64)
  /-- SWITCH_PORT_SET (R374) -/
  | switchPortSet (fn : Fin 64)
  /-- CAPTURE_SET (R320) -/
  | captureSet (fn : Fin 64)
  /-- CAPTURE_STATUS (R374) -/
  | captureStatus (fn : Fin 64)
  /-- PLANE_STATUS (R374) -/
  | planeStatus (fn : Fin 64)
  /-- SWITCH_STATS (R374) -/
  | switchStats (fn : Fin 64)
  /-- SWITCH_THRESH_SET (R307) -/
  | switchThreshSet (fn : Fin 64)
  /-- PLANE_MAP_SET (R310) -/
  | planeMapSet (fn : Fin 64)
  /-- SWITCH_CONFIG (R374) -/
  | switchConfig (fn : Fin 64)
  /-- BIN_STATS (R374) -/
  | binStats (fn : Fin 64)
  /-- BIN_QUOTA_SET (R330) -/
  | binQuotaSet (fn : Fin 64)
  /-- SEAM_STATUS (R375) -/
  | seamStatus (fn : Fin 64)
  /-- SEAM_SPARE (R391) -/
  | seamSpare (fn : Fin 64)
  /-- RELIEF_STATUS (R375) -/
  | reliefStatus (fn : Fin 64)
  /-- RELIEF_FORCE (R412) -/
  | reliefForce (fn : Fin 64) (ok : Bool)
  /-- POWER_STATUS (R477) -/
  | powerStatus (fn : Fin 64)
  /-- POLICY_SET (R476) -/
  | policySet (fn : Fin 64)
  /-- POLICY_STATUS (R375) -/
  | policyStatus (fn : Fin 64)
  /-- LEDGER_READ (R375) -/
  | ledgerRead (fn : Fin 64)
  /-- CALIB_READ (R375) -/
  | calibRead (fn : Fin 64)
  /-- CALIB_WRITE (R484) -/
  | calibWrite (fn : Fin 64)
  /-- TALLY_READ (R375) -/
  | tallyRead (fn : Fin 64)
  /-- TALLY_STATUS (R375) -/
  | tallyStatus (fn : Fin 64)
  /-- TALLY_LIMIT (R489) -/
  | tallyLimit (fn : Fin 64)
  /-- DEBUG_CHALLENGE (R498) -/
  | debugChallenge (fn : Fin 64)
  /-- DEBUG_UNLOCK (R498) -/
  | debugUnlock (fn : Fin 64) (ok : Bool)
  /-- DEBUG_LOCK (R498) -/
  | debugLock (fn : Fin 64)
  /-- EVENT_WRITE (R377) -/
  | eventWrite
  /-- GRANT_EXPIRY (R367) -/
  | grantExpiry (k : Fin 4)
  /-- COUNTER_POLL (R368) -/
  | counterPoll (a : Fin 67108864)
  /-- CANARY_EXPIRY (R380) -/
  | canaryExpiry
  /-- LOCKSTEP_MISMATCH (R380) -/
  | lockstepMismatch
  /-- TAKEOVER_COMPLETE (R380) -/
  | takeoverComplete
  /-- TX_DOORBELL (R346) -/
  | txDoorbell (by_ : Fin 64) (fn : Fin 64) (i : Fin 512) (tail : BitVec 16) (wide : Bool) (ide : Bool)
  /-- RX_DOORBELL (R346) -/
  | rxDoorbell (by_ : Fin 64) (fn : Fin 64) (i : Fin 512) (tail : BitVec 16) (wide : Bool) (ide : Bool)
  /-- TX_DESCRIPTOR (R348) -/
  | txDescriptor (q : Fin 1024) (desc : BitVec 192) (data : List Byte)
  /-- TX_RETRY (R348) -/
  | txRetry (q : Fin 1024)
  /-- HOST_DELIVER (R350) -/
  | hostDeliver (addrs : List (BitVec 64))
  /-- HOST_WATCHDOG (R352) -/
  | hostWatchdog (q : Fin 1024)
  /-- DMA_ERROR (R352) -/
  | dmaError (q : Fin 1024) (tx : Bool)
  /-- MSIX_MESSAGE (R354) -/
  | msixMessage (q : Fin 1024)
  /-- ITR_EXPIRY (R354) -/
  | itrExpiry (q : Fin 1024)
  /-- HI_QCFG_WRITE (R345) -/
  | hiQcfgWrite (src : Src) (q : Fin 1024) (v : Word64)
  /-- BAR2_ACCESS (R344) -/
  | bar2Access (off : Nat) (n : Nat) (data : Option (List Byte)) (poisoned : Bool) (ide : Bool)
  /-- IDE_INTEGRITY_FAIL (R357) -/
  | ideIntegrityFail (fn : Fin 64)
  /-- REFRESH (R386) -/
  | refresh (c : Fin 5)
  /-- TEMP_POLL (R386) -/
  | tempPoll (c : Fin 5) (hot : Bool) (therm : Int)
  /-- TRACKING_STEP (R385) -/
  | trackingStep (c : Fin 5) (width : Fin 256) (dev : Fin 18) (moved : Nat)
  /-- NEIGHBOUR_REFRESH (R387) -/
  | neighbourRefresh (log : Fin 4)
  /-- CREDIT_WINDOW (R393) -/
  | creditWindow
  /-- SLOT_GRANT (R394) -/
  | slotGrant (log : Fin 4) (ecc : Ecc)
  /-- SM_SPARE_START (R391) -/
  | smSpareStart (src : Src) (chan : Fin 8)
  /-- SPARING_COMPLETE (R391) -/
  | sparingComplete
  /-- CHANNEL_ABRUPT_FAIL (R392) -/
  | channelAbruptFail (c : Fin 5)
  /-- PLL_LOCK_LOSS (R406) -/
  | pllLockLoss (isl : Fin 100)
  /-- SELF_CHECK_FAIL (R405) -/
  | selfCheckFail (u : CheckUnit)
  /-- UNIT_FENCE (R406) -/
  | unitFence
  /-- DRAUGHT_RECLAIM (R407) -/
  | draughtReclaim (g : Fin 26)
  /-- GALLERY_TAKEOVER (R408) -/
  | galleryTakeover
  /-- RL_FORCE_GO (R412) -/
  | rlForceGo (src : Src) (kind : Fin 4) (ret : Bool) (unit : Fin 32) (pass : Bool)
  /-- SWAP_DRAIN_DONE (R412) -/
  | swapDrainDone
  /-- PHASE_SHED (R417) -/
  | phaseShed (rail : Fin 6) (low : List (Fin 100 × Fin 4096)) (dead : Bool)
  /-- DRAIN_TIMEOUT (R422) -/
  | drainTimeout (g : Fin 26) (slot : Fin 2048)
  /-- ALARM_CAUSE_EXPIRY (R424) -/
  | alarmCauseExpiry (b : Fin 16)
  /-- VMAIN_FALL (R440) -/
  | vmainFall
  /-- VMAIN_DIP (R440) -/
  | vmainDip
  /-- SHED_COMPLETE (R443) -/
  | shedComplete
  /-- VMAIN_RISE (R440) -/
  | vmainRise
  /-- RESTORE_COMPLETE (R444) -/
  | restoreComplete
  /-- STORE_LOW (R440) -/
  | storeLow
  /-- VMAIN_INVALID (R448) -/
  | vmainInvalid
  /-- STORE_CHARGED (R438) -/
  | storeCharged
  /-- VKEEP_LOSS (R445) -/
  | vkeepLoss
  /-- PW_DOM_REQ (R448) -/
  | pwDomReq (src : Src) (dom : Fin 50) (req : Fin 4)
  /-- DOMAIN_RAMP_DONE (R448) -/
  | domainRampDone (dom : Fin 50) (ok : Bool)
  /-- THERMAL_STEP (R451) -/
  | thermalStep (isl : Fin 100)
  /-- THERMAL_TRIP (R451) -/
  | thermalTrip
  /-- SCRUB_STEP (R469) -/
  | scrubStep (item : ScrubItem)
  /-- SCRUB_PASS_LATE (R470) -/
  | scrubPassLate (region : Fin 9)
  /-- CALIBRATION_CYCLE (R471) -/
  | calibrationCycle (item : CalItem)
  /-- AGEING_MEASURE (R472) -/
  | ageingMeasure (slow : List (Fin 100 × Fin 10001))
  /-- STRESS_ACCRUE (R473) -/
  | stressAccrue (g : Fin 26) (p : Fin 65537) (tj : Fin 4096)
  /-- ROTATION_STEP (R474) -/
  | rotationStep
  /-- THERMAL_POLICY_STEP (R475) -/
  | thermalPolicyStep (g : Fin 26) (tj : Int)
  /-- REFRESH_POLICY_STEP (R475) -/
  | refreshPolicyStep (count : Nat)
  /-- FREEZE_POLICY_STEP (R475) -/
  | freezePolicyStep (p : Fin 4) (count : Nat)
  /-- TELEMETRY_SNAPSHOT (R477) -/
  | telemetrySnapshot (vmon : Word64) (therm : Word32) (rest : List Byte)
  /-- CALENDAR_SECOND (R478) -/
  | calendarSecond
  /-- LEDGER_WRITE (R480) -/
  | ledgerWrite
  /-- TALLY_RECORD (R487) -/
  | tallyRecord
  /-- TALLY_CREDIT (R489) -/
  | tallyCredit
  /-- SUPPRESSION_RECORD (R490) -/
  | suppressionRecord (code : Fin 4864)
  /-- CHUNK_PROGRAM (R492) -/
  | chunkProgram
  /-- BLOCK_RETIRE (R493) -/
  | blockRetire (b : Fin 4096) (erase : Bool)
  /-- TALLY_CLOSE (R494) -/
  | tallyClose
  /-- TALLY_OPEN (R495) -/
  | tallyOpen (torn : Fin 17)
  /-- SMB_STATUS_READ (R497) -/
  | smbStatusRead
  /-- SMB_POINTER_WRITE (R497) -/
  | smbPointerWrite (area : Fin 256) (index : Word32)
  /-- SMB_RECORD_READ (R497) -/
  | smbRecordRead
  /-- SMB_COUNT_READ (R497) -/
  | smbCountRead
  /-- BYPASS (R500) -/
  | bypass (tdi : List Bool)
  /-- IDCODE (R500) -/
  | idcode
  /-- SAMPLE_PRELOAD (R500) -/
  | samplePreload (pins : BitVec 14) (load : BitVec 14)
  /-- EXTEST (R500) -/
  | extest (load : BitVec 14)
  /-- CHALLENGE (R498) -/
  | challenge
  /-- UNLOCK (R498) -/
  | unlock (verifies : Bool)
  /-- LOCK (R498) -/
  | lock
  /-- DBACC (R500) -/
  | dbacc (write : Bool) (off : Fin 67108864) (data : Word32)
  /-- NONCE_EXPIRY (R498) -/
  | nonceExpiry
  /-- DB_TCMD_HALT (R501) -/
  | dbTcmdHalt (src : Src) (thread : Fin 2048) (all : Bool)
  /-- DB_TCMD_RESUME (R502) -/
  | dbTcmdResume (src : Src) (thread : Fin 2048) (all : Bool)
  /-- DB_TCMD_STEP (R502) -/
  | dbTcmdStep (src : Src) (thread : Fin 2048) (all : Bool)
  /-- DB_TCMD_KILL (R502) -/
  | dbTcmdKill (src : Src) (thread : Fin 2048) (all : Bool)
  /-- TRACE_SYNC (R505) -/
  | traceSync
  /-- GALLERY_TRACE_DRAIN (R505) -/
  | galleryTraceDrain
  /-- CP2_OPERATION (R202) -/
  | cp2Operation (k : Fin 1664) (op : Fin 16) (r : Fin 16)
  /-- ILLEGAL_INSTRUCTION (R183) -/
  | illegalInstruction (k : Fin 1664)
  /-- ASSAYER_ILLEGAL_OP (R78) -/
  | assayerIllegalOp (p : Fin 4) (a : Fin 16)
  /-- AREA_WRITE (R509) -/
  | areaWrite (src : Src) (a : Fin 4296015872) (size : Fin 9) (v : Word64)
  /-- AS_RVER_COMMIT (R90) -/
  | asRverCommit (src : Src)
  /-- AS_RVER_RETIRE (R92) -/
  | asRverRetire (src : Src) (commit : Bool)
  /-- AS_RCMD_START (R89) -/
  | asRcmdStart (src : Src) (op : Fin 4) (index : Fin 32768) (flag : Bool)
  /-- BAD_REQUEST (R363) -/
  | badRequest (fn : Fin 64)
  /-- OVERMAN_TAKES_FRAME (R421) -/
  | overmanTakesFrame (full : Bool)
  /-- PTP_MESSAGE_SEND (R40) -/
  | ptpMessageSend (p : Fin 32) (kind : Fin 16)
  /-- PTP_PARENT_CHANGE (R60) -/
  | ptpParentChange (p : Fin 32)
  /-- PAUSE_QUANTA_EXPIRY (R32) -/
  | pauseQuantaExpiry (p : Fin 32) (mask : Fin 256)
  /-- CONFIGURATION_WRITE (R352) -/
  | configurationWrite (fn : Fin 64) (bme : Bool) (d3 : Bool) (vf : Option (Bool × Fin 64))
  /-- MSIX_UNMASK (R354) -/
  | msixUnmask (fn : Fin 64) (e : Fin 2048)
  /-- IDE_KM (R357) -/
  | ideKm (fn : Fin 64)
  /-- OVERMAN_MEMORY_ERROR (R380) -/
  | overmanMemoryError
  /-- CORE_C_FAILURE (R416) -/
  | coreCFailure
  /-- PHASOR_BLOCK_REWRITE (R224) -/
  | phasorBlockRewrite (b : Fin 32768)
  /-- TEST_LOGIC_RESET (R500) -/
  | testLogicReset
  deriving DecidableEq, Repr

end Sys2Proof
end

