-- ==== Sys2Proof/Decode.lean ====
section
/-!
DEFINITION. The opcode table gives no row any bits: a command is an event at the block's edge and no word spells it.
-/

namespace Sys2Proof

/-- The command that a word spells by the table's bits: no row of the table has bits, so no word spells a command. -/
def decodeTableWord (_nbits _w : Nat) : Option Instr := none

end Sys2Proof
end

