-- ==== Sys2Proof/Config.lean ====
section
/-!
DEFINITION. The values the spec leaves open. Each is an opaque constant with no body: nothing proved about the
model can rest on what it is.
-/

namespace Sys2Proof

/-- A value that nothing constrains: which one, is told by its tag and by the model's own counter. The users cut it
to the width of the field it fills. -/
opaque Config.freeNat : Nat → Nat → Nat

/-- The part of a stamp's error that changes from frame to frame, in units of 0.25 ns, by the model's own counter (used modulo its
bound of R39). -/
opaque Config.stampError : Nat → Nat

/-- The part of a stamp's error that stays for a port (first), in a mode (second), through one link-up (third), in units of 0.25 ns
(used modulo its bound of R39). -/
opaque Config.stampFixed : Nat → Word64 → Nat → Nat

/-- The verify procedure of IEEE 802.3br has succeeded on a port (first) in a link-up (second): the link partner decides (R45). -/
opaque Config.verified : Nat → Nat → Bool

/-- The eight EtherTypes of a port's MACsec bypass list (R35): no register or command of the spec sets them. -/
opaque Config.macBypass : Nat → Nat → Nat

/-- Which of the three confidentiality offsets an association of a port uses (R35): no field of a command names it. -/
opaque Config.confOffset : Nat → Nat → Fin 3

/-- The lowest voltage, in mV, at which an island runs at a frequency in MHz (R171): the spec gives no figures. -/
opaque Config.minVolt : Nat → Nat → Nat

/-- Bank and row (bank × 2^18 + row) of a channel address of Seam: the spec gives the sizes, not the bits (R382, R388). -/
opaque Config.bankRow : Nat → Nat

/-- The module serial in the fuses and in the calibration set as shipped (R482, R498). -/
opaque Config.serial : BitVec 64

end Sys2Proof
end

