-- ==== Sys2Proof/Machine/Tab.lean ====
section
/-!
DEFINITION. Sparse tables: the form in which State holds an array most of whose entries stand at one value.
A table lists (key, value) pairs with strictly rising keys and never lists the value an absent key stands for, so
two tables with the same contents are the same list.
-/

namespace Sys2Proof.Machine

/-- A sparse table. -/
abbrev Tab (α : Type) := List (Nat × α)

/-- The listed value at `k`. -/
def Tab.find {α : Type} : Tab α → Nat → Option α
  | [], _ => none
  | (i, v) :: r, k => if i = k then some v else Tab.find r k

/-- The value at `k`, where an absent key stands for `d`. -/
def Tab.get {α : Type} (m : Tab α) (d : α) (k : Nat) : α := (m.find k).getD d

/-- List `v` at `k`, keeping the keys rising. -/
def Tab.put {α : Type} : Tab α → Nat → α → Tab α
  | [], k, v => [(k, v)]
  | (i, w) :: r, k, v =>
    if i = k then (k, v) :: r else if k < i then (k, v) :: (i, w) :: r else (i, w) :: Tab.put r k v

/-- Strike `k` from the list. -/
def Tab.del {α : Type} : Tab α → Nat → Tab α
  | [], _ => []
  | (i, w) :: r, k => if i = k then r else (i, w) :: Tab.del r k

/-- Set the value at `k`; writing the value an absent key stands for strikes the entry. -/
def Tab.set {α : Type} [DecidableEq α] : Tab α → α → Nat → α → Tab α
  | [], d, k, v => if v = d then [] else [(k, v)]
  | (i, w) :: r, d, k, v =>
    if i = k then (if v = d then Tab.set r d k v else (k, v) :: r)
    else if k < i then (if v = d then (i, w) :: Tab.set r d k v else (k, v) :: (i, w) :: r)
    else (i, w) :: Tab.set r d k v

/-- Change the value at `k` by `f`. -/
def Tab.upd {α : Type} [DecidableEq α] (m : Tab α) (d : α) (k : Nat) (f : α → α) : Tab α :=
  m.set d k (f (m.get d k))

/-- Keys strictly rise, starting at or above `lo`. -/
def Tab.risesFrom {α : Type} : Nat → Tab α → Bool
  | _, [] => true
  | lo, (i, _) :: r => decide (lo ≤ i) && Tab.risesFrom (i + 1) r

/-- The canonical form: rising keys, and no entry holds the absent value `d`. -/
def Tab.wf {α : Type} [DecidableEq α] (d : α) (m : Tab α) : Bool :=
  Tab.risesFrom 0 m && m.all (fun e => decide (e.2 ≠ d))

end Sys2Proof.Machine
end

