-- ==== Sys2Proof/Machine/RegTypes.lean ====
section
/-!
DEFINITION. What a register is to this model: an address and a reset value, with fields of the access types of R4.
Beside it, the reset values that depend on the instance (the entries that R513 marks "var").
-/

namespace Sys2Proof.Machine

/-- The access types of R4. `xpwo` is a field marked XP, WO: an XP action. `mark lo w` is an RC field that is a
low-water or high-water mark of the quantity shown in bits [lo + w - 1 : lo] of the same register (w = 0: the
quantity stands elsewhere in the machine). -/
inductive Acc
  | ro | rw | wo | rw1c | rc | rwp | xp | xpwo
  | mark (lo w : Nat)
  deriving DecidableEq, Repr

/-- A field: its lowest bit, its width, its access type, and whether it is a counter that saturates. -/
structure Fld where
  lo : Nat
  w : Nat
  acc : Acc
  sat : Bool
  deriving DecidableEq, Repr

/-- A register: the address the register file is keyed by (its BAR0 offset; a BAR4 register of function n lies at
2^32 + n × 0x4000 + offset) and its value after a cold reset. -/
structure Reg where
  addr : Nat
  reset : Word64
  deriving DecidableEq, Repr

/-- A row of the index R513: base address, the strides and counts of its instance numbers (falling strides),
whether it is 64 bits wide, and its fields other than reserved. -/
structure RegRow where
  base : Nat
  dims : List (Nat × Nat)
  wide : Bool
  flds : List Fld
  deriving DecidableEq, Repr

/-- A field's value in a register's contents. -/
def Fld.get (f : Fld) (v : Word64) : Nat := bitsOf v.toNat f.lo f.w

/-- A register's contents with a field replaced; the value is cut to the field's width. -/
def Fld.put (f : Fld) (v : Word64) (x : Nat) : Word64 :=
  BitVec.ofNat 64 (v.toNat - f.get v * 2 ^ f.lo + x % 2 ^ f.w * 2 ^ f.lo)

/-- The largest value a field holds. -/
def Fld.max (f : Fld) : Nat := 2 ^ f.w - 1

/-- Cells of each row memory (R20, R325). -/
def rowCells (r : Nat) : Nat := if r < 8 then 24576 else 16384

/-- The highest frequency of each island in MHz (R51); 1,328.125 MHz shows as 1,328 (DEDUCED, log entry 8). -/
def islandTop (n : Nat) : Nat :=
  if n < 26 then 1750 else if n < 34 then 1328 else if n < 44 then 1600 else if n < 48 then 1750
  else if n < 74 then 1600 else if n < 78 then 1000 else if n < 84 then 800 else if n < 86 then 1000
  else if n < 88 then 800 else if n < 90 then 1000 else 400

/-- The rail PW_DOM.rail names for a domain (R446): 0 VCG, 1 VCF, 2 VSR, 3 VDQ, 4 VSD, 5 VSV. A port-quad domain
has two rails, VSD and VCF; the field shows the first (DEDUCED, log entry 9). -/
def railOf (d : Nat) : Nat :=
  if d < 26 then 0 else if d < 34 then 4 else if d < 42 then 1 else if d < 46 then 2
  else if d = 46 then 3 else if d = 47 then 4 else 5

/-- Reset of BN_QUOTA: limit 0x1000 for galleries, the row's cells for the others. -/
def quotaReset (q r : Nat) : Word64 := if q < 26 then 0x1000 else BitVec.ofNat 64 (rowCells r)

/-- Reset of BN_ROWSTAT: free and free_min are the row's cells. -/
def rowStatReset (r : Nat) : Word64 := BitVec.ofNat 64 (rowCells r * 2 ^ 16 + rowCells r)

/-- Reset of HI_QCFG: pairs 0 to 511 are assigned to function 0. -/
def qcfgReset (q : Nat) : Word64 :=
  BitVec.ofNat 64 ((if q ≤ 511 then 2 ^ 63 + q * 2 ^ 48 + (2 + q) * 2 ^ 37 else 0) + 2 ^ 29 + 8 * 2 ^ 23)

/-- The default caps of R393. -/
def agentCap (a : Nat) : Word64 :=
  match a with
  | 0 => 100 | 1 => 1300 | 2 => 800 | 3 => 300 | 4 => 150 | 5 => 150 | 6 => 100 | _ => 300

/-- The protected Tally codes of R488. -/
def tallyProtected (c : Nat) : Bool :=
  (1 ≤ c && c ≤ 5) || c == 0x0202 || c == 0x0203 || c == 0x0E03 || c == 0x0F03 || c == 0x0F04 || c == 0x0F07
    || c == 0x1004 || (0x1101 ≤ c && c ≤ 0x1103) || c == 0x1201

/-- Reset of TL_LIM. -/
def limReset (c : Nat) : Word64 := if tallyProtected c then 0xFFFF0020 else 0x000A0020

end Sys2Proof.Machine
end

