-- ==== Sys2Proof/Machine/RegNames.lean ====
section
/-!
DEFINITION. Every register of the device by name (R507, R510, R513): its address, its reset value, and the
place, width and access type of each of its fields, as the register tables of the spec give them.
A register in an array takes its instance numbers in the order of falling stride.
-/

namespace Sys2Proof.Machine

/-- AS_EDDYCFG (32 bits). -/
def R.AS_EDDYCFG : Reg := ⟨0x400200, 0x2000⟩
/-- AS_EDDYSTAT (64 bits). -/
def R.AS_EDDYSTAT : Reg := ⟨0x400208, 0⟩
/-- AS_EXCCFG (64 bits). -/
def R.AS_EXCCFG (c : Nat) : Reg := ⟨0x406000 + 0x8 * c, 0x27100400000000⟩
/-- AS_EXCCNT (64 bits). -/
def R.AS_EXCCNT (c : Nat) : Reg := ⟨0x407000 + 0x8 * c, 0⟩
/-- AS_KSEL (32 bits). -/
def R.AS_KSEL (s : Nat) (k : Nat) (c : Nat) : Reg := ⟨0x404000 + 0x400 * s + 0x80 * k + 0x4 * c, 0x40⟩
/-- AS_PCFG (32 bits). -/
def R.AS_PCFG (p : Nat) : Reg := ⟨0x400100 + 0x20 * p, 0x300101⟩
/-- AS_PSTAT (64 bits). -/
def R.AS_PSTAT (p : Nat) : Reg := ⟨0x400108 + 0x20 * p, 0⟩
/-- AS_RCMD (32 bits). -/
def R.AS_RCMD : Reg := ⟨0x400010, 0⟩
/-- AS_RSTAT (64 bits). -/
def R.AS_RSTAT : Reg := ⟨0x400020, 0⟩
/-- AS_RVER (64 bits). -/
def R.AS_RVER : Reg := ⟨0x400000, 0x200000⟩
/-- BG_AGE (32 bits). -/
def R.BG_AGE : Reg := ⟨0x1100010, 0⟩
/-- BG_CFG (32 bits). -/
def R.BG_CFG : Reg := ⟨0x1100000, 0x1F⟩
/-- BG_KA (32 bits). -/
def R.BG_KA : Reg := ⟨0x1100020, 0⟩
/-- BG_LIFE (64 bits). -/
def R.BG_LIFE : Reg := ⟨0x1100018, 0⟩
/-- BG_SCRUB (64 bits). -/
def R.BG_SCRUB : Reg := ⟨0x1100008, 0⟩
/-- BN_BAD (64 bits). -/
def R.BN_BAD : Reg := ⟨0xA00208, 0⟩
/-- BN_ERR (64 bits). -/
def R.BN_ERR : Reg := ⟨0xA00200, 0⟩
/-- BN_QUOTA (64 bits). -/
def R.BN_QUOTA (q : Nat) (r : Nat) : Reg := ⟨0xA01000 + 0x80 * q + 0x8 * r, quotaReset q r⟩
/-- BN_ROWCFG (64 bits). -/
def R.BN_ROWCFG (r : Nat) : Reg := ⟨0xA00000 + 0x20 * r, 0x10018001000⟩
/-- BN_ROWSTAT (64 bits). -/
def R.BN_ROWSTAT (r : Nat) : Reg := ⟨0xA00008 + 0x20 * r, rowStatReset r⟩
/-- CG_CTL (32 bits). -/
def R.CG_CTL : Reg := ⟨0xE00000, 0xA0000⟩
/-- CG_GRANT (64 bits). -/
def R.CG_GRANT (k : Nat) : Reg := ⟨0xE00010 + 0x8 * k, 0⟩
/-- CG_RIGHTS (32 bits). -/
def R.CG_RIGHTS (n : Nat) : Reg := ⟨0xE00100 + 0x4 * n, (if n = 0 then 0xF else 0x5)⟩
/-- CG_DOOR (32 bits). -/
def R.CG_DOOR (n : Nat) : Reg := ⟨0x100000000 + 0x4000 * n, 0⟩
/-- CG_EVIDX (32 bits). -/
def R.CG_EVIDX (n : Nat) : Reg := ⟨0x100000018 + 0x4000 * n, 0⟩
/-- CG_EVLOST (32 bits). -/
def R.CG_EVLOST (n : Nat) : Reg := ⟨0x100000020 + 0x4000 * n, 0⟩
/-- CG_GSTAT (32 bits). -/
def R.CG_GSTAT (n : Nat) : Reg := ⟨0x100000010 + 0x4000 * n, (if n = 0 then 0xF0000 else 0x50000)⟩
/-- CG_STAT (32 bits). -/
def R.CG_STAT (n : Nat) : Reg := ⟨0x100000008 + 0x4000 * n, 0⟩
/-- CK_ISLCFG (32 bits). -/
def R.CK_ISLCFG (n : Nat) : Reg := ⟨0x200000 + 0x10 * n, islandTop n⟩
/-- CK_ISLSTAT (32 bits). -/
def R.CK_ISLSTAT (n : Nat) : Reg := ⟨0x200008 + 0x10 * n, 0⟩
/-- TB_CTL (32 bits). -/
def R.TB_CTL : Reg := ⟨0x208010, 0x5C11064⟩
/-- TB_FREQ (32 bits). -/
def R.TB_FREQ : Reg := ⟨0x208028, 0⟩
/-- TB_NOW_HI (32 bits). -/
def R.TB_NOW_HI : Reg := ⟨0x208008, 0⟩
/-- TB_NOW_LO (64 bits). -/
def R.TB_NOW_LO : Reg := ⟨0x208000, 0⟩
/-- TB_PPS (32 bits). -/
def R.TB_PPS : Reg := ⟨0x208038, 0x3200⟩
/-- TB_STAT (32 bits). -/
def R.TB_STAT : Reg := ⟨0x208018, 0⟩
/-- TB_STEP (64 bits). -/
def R.TB_STEP : Reg := ⟨0x208020, 0⟩
/-- TB_TICK (32 bits). -/
def R.TB_TICK : Reg := ⟨0x208040, 0x3⟩
/-- TB_UTC (64 bits). -/
def R.TB_UTC : Reg := ⟨0x208030, 0⟩
/-- DB_BP (64 bits). -/
def R.DB_BP (n : Nat) : Reg := ⟨0x1300100 + 0x8 * n, 0⟩
/-- DB_CTL (32 bits). -/
def R.DB_CTL : Reg := ⟨0x1300000, 0⟩
/-- DB_GTRCFG (32 bits). -/
def R.DB_GTRCFG : Reg := ⟨0x1300218, 0⟩
/-- DB_GTRCTL (64 bits). -/
def R.DB_GTRCTL : Reg := ⟨0x1300200, 0⟩
/-- DB_GTRRING (64 bits). -/
def R.DB_GTRRING : Reg := ⟨0x1300208, 0x3000000000000000⟩
/-- DB_GTRSTAT (64 bits). -/
def R.DB_GTRSTAT : Reg := ⟨0x1300210, 0⟩
/-- DB_STAT (32 bits). -/
def R.DB_STAT : Reg := ⟨0x1300008, 0⟩
/-- DB_TCMD (32 bits). -/
def R.DB_TCMD : Reg := ⟨0x1300010, 0⟩
/-- DB_WP (64 bits). -/
def R.DB_WP (n : Nat) : Reg := ⟨0x1300180 + 0x8 * n, 0x300000000000000⟩
/-- DR_AFF (32 bits). -/
def R.DR_AFF (m : Nat) (e : Nat) : Reg := ⟨0x601000 + 0x400 * m + 0x4 * e, (0x20 + e % 24)⟩
/-- DR_CFG (32 bits). -/
def R.DR_CFG : Reg := ⟨0x600000, 0x80002⟩
/-- DR_CHIST (64 bits). -/
def R.DR_CHIST (g : Nat) (c : Nat) (k : Nat) : Reg := ⟨0x620110 + 0x400 * g + 0x40 * c + 0x8 * k, 0⟩
/-- DR_CLOAD (64 bits). -/
def R.DR_CLOAD (g : Nat) (c : Nat) : Reg := ⟨0x620108 + 0x400 * g + 0x40 * c, 0⟩
/-- DR_CQ (32 bits). -/
def R.DR_CQ (g : Nat) (c : Nat) : Reg := ⟨0x620100 + 0x400 * g + 0x40 * c, 0⟩
/-- DR_GSTAT (64 bits). -/
def R.DR_GSTAT (g : Nat) : Reg := ⟨0x620000 + 0x400 * g, 0⟩
/-- DR_HTO (32 bits). -/
def R.DR_HTO : Reg := ⟨0x600008, 0x14⟩
/-- DR_PCNT (64 bits). -/
def R.DR_PCNT (p : Nat) : Reg := ⟨0x600108 + 0x20 * p, 0⟩
/-- DR_PSTAT (64 bits). -/
def R.DR_PSTAT (p : Nat) : Reg := ⟨0x600100 + 0x20 * p, 0⟩
/-- DR_TCTL (64 bits). -/
def R.DR_TCTL (t : Nat) : Reg := ⟨0x603000 + 0x8 * t, 0⟩
/-- DR_TRCTL (64 bits). -/
def R.DR_TRCTL : Reg := ⟨0x600200, 0⟩
/-- DR_TRRING (64 bits). -/
def R.DR_TRRING : Reg := ⟨0x600208, 0x3000000000000000⟩
/-- DR_TRSTAT (64 bits). -/
def R.DR_TRSTAT : Reg := ⟨0x600210, 0⟩
/-- DR_TWIN (32 bits). -/
def R.DR_TWIN (g : Nat) : Reg := ⟨0x602000 + 0x4 * g, ((if g ≤ 23 then 0x20 else 0) + (g + 8) % 24)⟩
/-- GL_CCTL (32 bits). -/
def R.GL_CCTL (g : Nat) (c : Nat) : Reg := ⟨0x2001028 + 0x80000 * g + 0x100 * c, 0⟩
/-- GL_CTL (32 bits). -/
def R.GL_CTL (g : Nat) : Reg := ⟨0x2000000 + 0x80000 * g, 0⟩
/-- GL_ECC (32 bits). -/
def R.GL_ECC (g : Nat) : Reg := ⟨0x2000038 + 0x80000 * g, 0⟩
/-- GL_FREC0 (64 bits). -/
def R.GL_FREC0 (g : Nat) : Reg := ⟨0x2000010 + 0x80000 * g, 0⟩
/-- GL_FREC1 (64 bits). -/
def R.GL_FREC1 (g : Nat) : Reg := ⟨0x2000018 + 0x80000 * g, 0⟩
/-- GL_FREC2 (64 bits). -/
def R.GL_FREC2 (g : Nat) : Reg := ⟨0x2000020 + 0x80000 * g, 0⟩
/-- GL_ROSE0 (64 bits). -/
def R.GL_ROSE0 (g : Nat) (c : Nat) : Reg := ⟨0x2001000 + 0x80000 * g + 0x100 * c, 0⟩
/-- GL_ROSE1 (64 bits). -/
def R.GL_ROSE1 (g : Nat) (c : Nat) : Reg := ⟨0x2001008 + 0x80000 * g + 0x100 * c, (if c = 0 then 0x1700000000000000 else 0)⟩
/-- GL_ROSECTL (32 bits). -/
def R.GL_ROSECTL (g : Nat) (c : Nat) : Reg := ⟨0x2001020 + 0x80000 * g + 0x100 * c, 0⟩
/-- GL_ROSELIVE0 (64 bits). -/
def R.GL_ROSELIVE0 (g : Nat) (c : Nat) : Reg := ⟨0x2001010 + 0x80000 * g + 0x100 * c, 0⟩
/-- GL_ROSELIVE1 (64 bits). -/
def R.GL_ROSELIVE1 (g : Nat) (c : Nat) : Reg := ⟨0x2001018 + 0x80000 * g + 0x100 * c, (if c = 0 then 0x1700000000000000 else 0)⟩
/-- GL_SMBASE (32 bits). -/
def R.GL_SMBASE (g : Nat) : Reg := ⟨0x2000030 + 0x80000 * g, 0⟩
/-- GL_STAT (32 bits). -/
def R.GL_STAT (g : Nat) : Reg := ⟨0x2000008 + 0x80000 * g, 0x1⟩
/-- GL_SUPTO (32 bits). -/
def R.GL_SUPTO (g : Nat) : Reg := ⟨0x2000028 + 0x80000 * g, 0x3E8⟩
/-- GL_TCTL (32 bits). -/
def R.GL_TCTL (g : Nat) (c : Nat) (t : Nat) : Reg := ⟨0x2001040 + 0x80000 * g + 0x100 * c + 0x8 * t, (if c = 0 ∧ t = 7 then 0x3FD else 0x103)⟩
/-- GL_TSOFT (32 bits). -/
def R.GL_TSOFT (g : Nat) : Reg := ⟨0x2000040 + 0x80000 * g, 0⟩
/-- GL_TSTAT (64 bits). -/
def R.GL_TSTAT (g : Nat) (c : Nat) (t : Nat) : Reg := ⟨0x2001080 + 0x80000 * g + 0x100 * c + 0x8 * t, 0⟩
/-- GL_CP2CFG (32 bits). -/
def R.GL_CP2CFG (g : Nat) : Reg := ⟨0x2020008 + 0x80000 * g, 0x14⟩
/-- GL_CP2STAT (32 bits). -/
def R.GL_CP2STAT (g : Nat) : Reg := ⟨0x2020010 + 0x80000 * g, 0⟩
/-- GL_CPSTAT (64 bits). -/
def R.GL_CPSTAT (g : Nat) : Reg := ⟨0x2020000 + 0x80000 * g, 0⟩
/-- GL_FCCTL (32 bits). -/
def R.GL_FCCTL (g : Nat) : Reg := ⟨0x2020100 + 0x80000 * g, 0x181000⟩
/-- GL_FCID (64 bits). -/
def R.GL_FCID (g : Nat) : Reg := ⟨0x2020118 + 0x80000 * g, 0⟩
/-- GL_FCINFO (64 bits). -/
def R.GL_FCINFO (g : Nat) : Reg := ⟨0x2020120 + 0x80000 * g, 0⟩
/-- GL_FCLOAD (64 bits). -/
def R.GL_FCLOAD (g : Nat) : Reg := ⟨0x2020110 + 0x80000 * g, 0⟩
/-- GL_FCSTAT (64 bits). -/
def R.GL_FCSTAT (g : Nat) : Reg := ⟨0x2020108 + 0x80000 * g, 0⟩
/-- GL_GENCMD (64 bits). -/
def R.GL_GENCMD (g : Nat) : Reg := ⟨0x2003000 + 0x80000 * g, 0⟩
/-- GL_GENSTAT (64 bits). -/
def R.GL_GENSTAT (g : Nat) : Reg := ⟨0x2003008 + 0x80000 * g, 0⟩
/-- HI_BAR2 (32 bits). -/
def R.HI_BAR2 : Reg := ⟨0xD00018, 0x22⟩
/-- HI_CFG (32 bits). -/
def R.HI_CFG : Reg := ⟨0xD00000, 0xA0002⟩
/-- HI_ERR (64 bits). -/
def R.HI_ERR : Reg := ⟨0xD00010, 0⟩
/-- HI_LINK (32 bits). -/
def R.HI_LINK : Reg := ⟨0xD00008, 0⟩
/-- HI_QCFG (64 bits). -/
def R.HI_QCFG (q : Nat) : Reg := ⟨0xD10000 + 0x40 * q, qcfgReset q⟩
/-- HI_QCNT (64 bits). -/
def R.HI_QCNT (q : Nat) : Reg := ⟨0xD10028 + 0x40 * q, 0⟩
/-- HI_QIDX (64 bits). -/
def R.HI_QIDX (q : Nat) : Reg := ⟨0xD10018 + 0x40 * q, 0⟩
/-- HI_QITR (32 bits). -/
def R.HI_QITR (q : Nat) : Reg := ⟨0xD10030 + 0x40 * q, 0x1⟩
/-- HI_QRXBASE (64 bits). -/
def R.HI_QRXBASE (q : Nat) : Reg := ⟨0xD10010 + 0x40 * q, 0⟩
/-- HI_QSTAT (64 bits). -/
def R.HI_QSTAT (q : Nat) : Reg := ⟨0xD10020 + 0x40 * q, 0⟩
/-- HI_QTXBASE (64 bits). -/
def R.HI_QTXBASE (q : Nat) : Reg := ⟨0xD10008 + 0x40 * q, 0⟩
/-- HO_CFG (32 bits). -/
def R.HO_CFG : Reg := ⟨0x700000, 0x32⟩
/-- HO_CNT (64 bits). -/
def R.HO_CNT : Reg := ⟨0x700018, 0⟩
/-- HO_DOMSEL (32 bits). -/
def R.HO_DOMSEL : Reg := ⟨0x700100, 0⟩
/-- HO_DOMSTAT (64 bits). -/
def R.HO_DOMSTAT : Reg := ⟨0x700108, 0⟩
/-- HO_ERR (64 bits). -/
def R.HO_ERR : Reg := ⟨0x700030, 0⟩
/-- HO_LATE (64 bits). -/
def R.HO_LATE : Reg := ⟨0x700038, 0⟩
/-- HO_OCC (64 bits). -/
def R.HO_OCC : Reg := ⟨0x700010, 0⟩
/-- HO_PART (32 bits). -/
def R.HO_PART : Reg := ⟨0x700008, 0x400⟩
/-- HO_VCNT0 (64 bits). -/
def R.HO_VCNT0 : Reg := ⟨0x700020, 0⟩
/-- HO_VCNT1 (64 bits). -/
def R.HO_VCNT1 : Reg := ⟨0x700028, 0⟩
/-- LD_ANQ0 (64 bits). -/
def R.LD_ANQ0 : Reg := ⟨0x800300, 0⟩
/-- LD_ANQ1 (64 bits). -/
def R.LD_ANQ1 : Reg := ⟨0x800308, 0⟩
/-- LD_ANSTAT (32 bits). -/
def R.LD_ANSTAT : Reg := ⟨0x800310, 0⟩
/-- LD_CFG (32 bits). -/
def R.LD_CFG : Reg := ⟨0x800000, 0x3FE000E⟩
/-- LD_ECC (64 bits). -/
def R.LD_ECC : Reg := ⟨0x800400, 0⟩
/-- LD_EXPIDX (64 bits). -/
def R.LD_EXPIDX : Reg := ⟨0x800208, 0⟩
/-- LD_EXPRING (64 bits). -/
def R.LD_EXPRING : Reg := ⟨0x800200, 0x3000000000000000⟩
/-- LD_EXPSTAT (64 bits). -/
def R.LD_EXPSTAT : Reg := ⟨0x800210, 0⟩
/-- LD_KIND (32 bits). -/
def R.LD_KIND (k : Nat) : Reg := ⟨0x800800 + 0x8 * k, 0x1900000⟩
/-- LD_OCC (64 bits). -/
def R.LD_OCC : Reg := ⟨0x800010, 0⟩
/-- LD_QSTAT (64 bits). -/
def R.LD_QSTAT (q : Nat) : Reg := ⟨0x800500 + 0x8 * q, 0⟩
/-- LD_REPAIR (64 bits). -/
def R.LD_REPAIR (q : Nat) : Reg := ⟨0x800480 + 0x8 * q, 0x1020000010⟩
/-- LD_STAT (64 bits). -/
def R.LD_STAT : Reg := ⟨0x800008, 0⟩
/-- LD_SWCMD (32 bits). -/
def R.LD_SWCMD : Reg := ⟨0x800600, 0⟩
/-- LD_SWEEP (64 bits). -/
def R.LD_SWEEP : Reg := ⟨0x800018, 0x402710⟩
/-- LD_TDEF (32 bits). -/
def R.LD_TDEF (t : Nat) : Reg := ⟨0x801000 + 0x4 * t, 0⟩
/-- LD_TMO (32 bits). -/
def R.LD_TMO (c : Nat) : Reg := ⟨0x800100 + 0x8 * c, ((if c = 0 then 0x100 else 0x110) + c)⟩
/-- PH_BIND (64 bits). -/
def R.PH_BIND (b : Nat) : Reg := ⟨0xC40000 + 0x8 * b, 0⟩
/-- PH_CFG (32 bits). -/
def R.PH_CFG : Reg := ⟨0xC00000, 0⟩
/-- PH_OCNT (64 bits). -/
def R.PH_OCNT (o : Nat) : Reg := ⟨0xC10008 + 0x40 * o, 0⟩
/-- PH_OUT (64 bits). -/
def R.PH_OUT (o : Nat) : Reg := ⟨0xC10000 + 0x40 * o, 0x180000000FA00000⟩
/-- PH_STAT (64 bits). -/
def R.PH_STAT : Reg := ⟨0xC00008, 0⟩
/-- PT_GCLBASE (64 bits). -/
def R.PT_GCLBASE (p : Nat) : Reg := ⟨0x300088 + 0x4000 * p, 0⟩
/-- PT_GCLCTL (64 bits). -/
def R.PT_GCLCTL (p : Nat) : Reg := ⟨0x300080 + 0x4000 * p, 0⟩
/-- PT_PCFG (32 bits). -/
def R.PT_PCFG (p : Nat) : Reg := ⟨0x300000 + 0x4000 * p, 0x1090⟩
/-- PT_PSTAT (32 bits). -/
def R.PT_PSTAT (p : Nat) : Reg := ⟨0x300008 + 0x4000 * p, 0⟩
/-- PT_QSCH (32 bits). -/
def R.PT_QSCH (p : Nat) (q : Nat) : Reg := ⟨0x300040 + 0x4000 * p + 0x8 * q, 0x100000⟩
/-- PT_RED (32 bits). -/
def R.PT_RED (p : Nat) : Reg := ⟨0x3000A0 + 0x4000 * p, 0⟩
/-- PT_TMR (32 bits). -/
def R.PT_TMR (p : Nat) : Reg := ⟨0x300010 + 0x4000 * p, 0x14⟩
/-- PT_TSDLY (64 bits). -/
def R.PT_TSDLY (p : Nat) : Reg := ⟨0x300018 + 0x4000 * p, 0xFFFFFFFF00000000⟩
/-- PW_CFG (32 bits). -/
def R.PW_CFG : Reg := ⟨0x100000, 0x4001414⟩
/-- PW_DOM (32 bits). -/
def R.PW_DOM (d : Nat) : Reg := ⟨0x100100 + 0x8 * d, (railOf d * 256 + 1)⟩
/-- PW_LSHED (32 bits). -/
def R.PW_LSHED : Reg := ⟨0x100028, 0⟩
/-- PW_LSTAT (64 bits). -/
def R.PW_LSTAT : Reg := ⟨0x100008, 0⟩
/-- PW_THERM (32 bits). -/
def R.PW_THERM : Reg := ⟨0x100018, 0⟩
/-- PW_TLIM (32 bits). -/
def R.PW_TLIM : Reg := ⟨0x100020, 0x69⟩
/-- PW_VMON (64 bits). -/
def R.PW_VMON : Reg := ⟨0x100010, 0⟩
/-- RL_ALARM (32 bits). -/
def R.RL_ALARM : Reg := ⟨0x1000030, 0⟩
/-- RL_ALMASK (32 bits). -/
def R.RL_ALMASK : Reg := ⟨0x1000038, 0xFFFF⟩
/-- RL_CNT (64 bits). -/
def R.RL_CNT : Reg := ⟨0x1000028, 0⟩
/-- RL_CTL (32 bits). -/
def R.RL_CTL : Reg := ⟨0x1000010, 0x1020003⟩
/-- RL_FAULT (32 bits). -/
def R.RL_FAULT : Reg := ⟨0x1000040, 0⟩
/-- RL_FENCE (64 bits). -/
def R.RL_FENCE : Reg := ⟨0x1000008, 0⟩
/-- RL_FORCE (32 bits). -/
def R.RL_FORCE : Reg := ⟨0x1000018, 0⟩
/-- RL_GALSTAT (64 bits). -/
def R.RL_GALSTAT : Reg := ⟨0x1000000, 0x300000000000000⟩
/-- RL_PHASE (64 bits). -/
def R.RL_PHASE : Reg := ⟨0x1000048, 0⟩
/-- RL_TKSTAT (64 bits). -/
def R.RL_TKSTAT : Reg := ⟨0x1000020, 0⟩
/-- SM_AGCFG (64 bits). -/
def R.SM_AGCFG (a : Nat) : Reg := ⟨0xF00200 + 0x8 * a, agentCap a⟩
/-- SM_AGCNT (64 bits). -/
def R.SM_AGCNT (a : Nat) : Reg := ⟨0xF00280 + 0x8 * a, 0⟩
/-- SM_CFG (32 bits). -/
def R.SM_CFG : Reg := ⟨0xF00000, 0x10530702⟩
/-- SM_CHMAP (32 bits). -/
def R.SM_CHMAP : Reg := ⟨0xF00008, 0x688⟩
/-- SM_CHSTAT (64 bits). -/
def R.SM_CHSTAT (c : Nat) : Reg := ⟨0xF00100 + 0x20 * c, 0⟩
/-- SM_RDCFG (32 bits). -/
def R.SM_RDCFG : Reg := ⟨0xF00010, 0x800⟩
/-- SM_RDSTAT (64 bits). -/
def R.SM_RDSTAT : Reg := ⟨0xF00018, 0⟩
/-- SM_SPARE (64 bits). -/
def R.SM_SPARE : Reg := ⟨0xF00020, 0⟩
/-- ST_AGE (32 bits). -/
def R.ST_AGE (p : Nat) : Reg := ⟨0x500100 + 0x40 * p, 0xF0004E20⟩
/-- ST_DMAADDR (64 bits). -/
def R.ST_DMAADDR : Reg := ⟨0x500208, 0⟩
/-- ST_DMACTL (64 bits). -/
def R.ST_DMACTL : Reg := ⟨0x500200, 0⟩
/-- ST_DMASTAT (64 bits). -/
def R.ST_DMASTAT : Reg := ⟨0x500210, 0⟩
/-- ST_MOVE (64 bits). -/
def R.ST_MOVE (p : Nat) : Reg := ⟨0x500108 + 0x40 * p, 0x753003E800000008⟩
/-- ST_MTR (64 bits). -/
def R.ST_MTR (m : Nat) : Reg := ⟨0x508000 + 0x8 * m, 0⟩
/-- ST_PCFG (64 bits). -/
def R.ST_PCFG (p : Nat) : Reg := ⟨0x500000 + 0x40 * p, 0xF000000000183003⟩
/-- ST_PCNT (64 bits). -/
def R.ST_PCNT (p : Nat) : Reg := ⟨0x500008 + 0x40 * p, 0⟩
/-- ST_PERR (64 bits). -/
def R.ST_PERR (p : Nat) : Reg := ⟨0x500018 + 0x40 * p, 0⟩
/-- ST_PMOV (64 bits). -/
def R.ST_PMOV (p : Nat) : Reg := ⟨0x500010 + 0x40 * p, 0⟩
/-- ST_SPERR (32 bits). -/
def R.ST_SPERR : Reg := ⟨0x500308, 0⟩
/-- ST_SSTAT (64 bits). -/
def R.ST_SSTAT : Reg := ⟨0x500300, 0⟩
/-- SY_BOOT (64 bits). -/
def R.SY_BOOT : Reg := ⟨0x10, 0x100000000⟩
/-- SY_BUSERR (64 bits). -/
def R.SY_BUSERR : Reg := ⟨0x20, 0⟩
/-- SY_IDENT (32 bits). -/
def R.SY_IDENT : Reg := ⟨0x0, 0x41310100⟩
/-- SY_RST (32 bits). -/
def R.SY_RST : Reg := ⟨0x18, 0⟩
/-- TK_CFG (32 bits). -/
def R.TK_CFG : Reg := ⟨0xB00810, 0⟩
/-- TK_CHAN (64 bits). -/
def R.TK_CHAN (c : Nat) : Reg := ⟨0xB02000 + 0x8 * c, 0xFFFFFFC000000000⟩
/-- TK_DOLCFG (32 bits). -/
def R.TK_DOLCFG (g : Nat) : Reg := ⟨0xB08000 + 0x40 * g, 0x80010064⟩
/-- TK_DOLSTAT (64 bits). -/
def R.TK_DOLSTAT (g : Nat) : Reg := ⟨0xB08008 + 0x40 * g, 0⟩
/-- TK_FREL (32 bits). -/
def R.TK_FREL : Reg := ⟨0xB00800, 0⟩
/-- TK_GRP (64 bits). -/
def R.TK_GRP (g : Nat) : Reg := ⟨0xB00000 + 0x8 * g, (0x3FFFFFF * 2 ^ 38 + 0x40 + g)⟩
/-- TK_LOCK (64 bits). -/
def R.TK_LOCK (n : Nat) : Reg := ⟨0xB10000 + 0x8 * n, 0⟩
/-- TK_RREC0 (64 bits). -/
def R.TK_RREC0 : Reg := ⟨0xB00900, 0⟩
/-- TK_RREC1 (64 bits). -/
def R.TK_RREC1 : Reg := ⟨0xB00908, 0⟩
/-- TK_RSTAT (32 bits). -/
def R.TK_RSTAT : Reg := ⟨0xB00820, 0⟩
/-- TK_STAT (64 bits). -/
def R.TK_STAT : Reg := ⟨0xB00818, 0⟩
/-- TK_WGRP (32 bits). -/
def R.TK_WGRP (g : Nat) (c : Nat) : Reg := ⟨0xB08010 + 0x40 * g + 0x4 * c, 0⟩
/-- TL_LIM (32 bits). -/
def R.TL_LIM (c : Nat) : Reg := ⟨0x1201000 + 0x4 * c, limReset c⟩
/-- TL_LOST (64 bits). -/
def R.TL_LOST : Reg := ⟨0x1200008, 0⟩
/-- TL_STAT (64 bits). -/
def R.TL_STAT : Reg := ⟨0x1200000, 0⟩
/-- TL_WEAR (32 bits). -/
def R.TL_WEAR : Reg := ⟨0x1200010, 0⟩
/-- XC_CAPIDX (64 bits). -/
def R.XC_CAPIDX : Reg := ⟨0x900908, 0⟩
/-- XC_CAPRING (64 bits). -/
def R.XC_CAPRING : Reg := ⟨0x900900, 0x3000000000000000⟩
/-- XC_CAPSTAT (64 bits). -/
def R.XC_CAPSTAT : Reg := ⟨0x900910, 0⟩
/-- XC_CFG (32 bits). -/
def R.XC_CFG : Reg := ⟨0x900000, 0x640000⟩
/-- XC_COL (64 bits). -/
def R.XC_COL (c : Nat) : Reg := ⟨0x900300 + 0x8 * c, 0⟩
/-- XC_ERR (64 bits). -/
def R.XC_ERR : Reg := ⟨0x900020, 0⟩
/-- XC_LENERR (32 bits). -/
def R.XC_LENERR : Reg := ⟨0x900028, 0⟩
/-- XC_GRP (64 bits). -/
def R.XC_GRP (g : Nat) : Reg := ⟨0x910000 + 0x8 * g, 0⟩
/-- XC_MIRCNT (64 bits). -/
def R.XC_MIRCNT (s : Nat) : Reg := ⟨0x900880 + 0x8 * s, 0⟩
/-- XC_MIRSES (64 bits). -/
def R.XC_MIRSES (s : Nat) : Reg := ⟨0x900800 + 0x8 * s, 0x100000000⟩
/-- XC_PCNT (64 bits). -/
def R.XC_PCNT (p : Nat) : Reg := ⟨0x900408 + 0x10 * p, 0⟩
/-- XC_PLLOST (32 bits). -/
def R.XC_PLLOST : Reg := ⟨0x900018, 0⟩
/-- XC_PLMAP (64 bits). -/
def R.XC_PLMAP : Reg := ⟨0x900008, 0xAAAAAAAAAAAAAAAA⟩
/-- XC_PLMOVE (64 bits). -/
def R.XC_PLMOVE : Reg := ⟨0x900010, 0⟩
/-- XC_PORT (64 bits). -/
def R.XC_PORT (p : Nat) : Reg := ⟨0x900400 + 0x10 * p, 0x100A⟩
/-- XC_RESLIM (32 bits). -/
def R.XC_RESLIM (c : Nat) : Reg := ⟨0x900280 + 0x4 * c, (if c = 7 then 0x0FA0 else 0x2710)⟩
/-- XC_ROWREF (64 bits). -/
def R.XC_ROWREF (r : Nat) : Reg := ⟨0x900200 + 0x8 * r, 0⟩
/-- XC_ROWSTAT (64 bits). -/
def R.XC_ROWSTAT (r : Nat) : Reg := ⟨0x900180 + 0x8 * r, (rowCells r * 2 ^ 16 + rowCells r)⟩
/-- XC_ROWTHR (64 bits). -/
def R.XC_ROWTHR (r : Nat) : Reg := ⟨0x900100 + 0x8 * r, 0x2000000000107F00⟩

def F.AS_EDDYCFG_credit : Fld := ⟨0, 14, .xp, false⟩
def F.AS_EDDYSTAT_full_drop : Fld := ⟨32, 32, .rc, false⟩
def F.AS_EDDYSTAT_pass_drop : Fld := ⟨16, 16, .rc, true⟩
def F.AS_EDDYSTAT_in_use : Fld := ⟨0, 14, .ro, false⟩
def F.AS_EXCCFG_rate : Fld := ⟨40, 24, .xp, false⟩
def F.AS_EXCCFG_burst : Fld := ⟨28, 12, .xp, false⟩
def F.AS_EXCCFG_target : Fld := ⟨26, 2, .xp, false⟩
def F.AS_EXCCFG_qp : Fld := ⟨16, 10, .xp, false⟩
def F.AS_EXCCFG_template : Fld := ⟨8, 8, .xp, false⟩
def F.AS_EXCCNT_passed : Fld := ⟨32, 32, .rc, false⟩
def F.AS_EXCCNT_dropped : Fld := ⟨0, 32, .rc, false⟩
def F.AS_KSEL_zero : Fld := ⟨6, 1, .xp, false⟩
def F.AS_KSEL_src : Fld := ⟨0, 6, .xp, false⟩
def F.AS_PCFG_step_max : Fld := ⟨16, 8, .xp, false⟩
def F.AS_PCFG_eddy_w : Fld := ⟨8, 8, .xp, false⟩
def F.AS_PCFG_host_w : Fld := ⟨0, 8, .xp, false⟩
def F.AS_PSTAT_in_cnt : Fld := ⟨32, 32, .rc, false⟩
def F.AS_PSTAT_fail_cnt : Fld := ⟨16, 16, .rc, true⟩
def F.AS_PSTAT_ovf_cnt : Fld := ⟨0, 16, .rc, true⟩
def F.AS_RCMD_start : Fld := ⟨31, 1, .xpwo, false⟩
def F.AS_RCMD_busy : Fld := ⟨30, 1, .ro, false⟩
def F.AS_RCMD_op : Fld := ⟨28, 2, .xp, false⟩
def F.AS_RCMD_flag : Fld := ⟨27, 1, .xp, false⟩
def F.AS_RCMD_err : Fld := ⟨15, 1, .rw1c, false⟩
def F.AS_RCMD_index : Fld := ⟨0, 15, .xp, false⟩
def F.AS_RSTAT_ver_forced : Fld := ⟨48, 16, .rc, true⟩
def F.AS_RSTAT_live_wr : Fld := ⟨32, 16, .rc, true⟩
def F.AS_RSTAT_bad : Fld := ⟨31, 1, .rw1c, false⟩
def F.AS_RSTAT_bad_idx : Fld := ⟨0, 15, .ro, false⟩
def F.AS_RVER_prev_cnt : Fld := ⟨32, 32, .ro, false⟩
def F.AS_RVER_cur_ver : Fld := ⟨28, 4, .ro, false⟩
def F.AS_RVER_prev_ver : Fld := ⟨24, 4, .ro, false⟩
def F.AS_RVER_prev_live : Fld := ⟨23, 1, .ro, false⟩
def F.AS_RVER_cur_slot : Fld := ⟨22, 1, .ro, false⟩
def F.AS_RVER_stage_ready : Fld := ⟨21, 1, .ro, false⟩
def F.AS_RVER_retire : Fld := ⟨2, 1, .xpwo, false⟩
def F.AS_RVER_err : Fld := ⟨1, 1, .rw1c, false⟩
def F.AS_RVER_commit : Fld := ⟨0, 1, .xpwo, false⟩
def F.BG_AGE_slow_max : Fld := ⟨20, 12, .ro, true⟩
def F.BG_AGE_margin_mv : Fld := ⟨0, 8, .ro, false⟩
def F.BG_CFG_nor_en : Fld := ⟨4, 1, .xp, false⟩
def F.BG_CFG_ddr_en : Fld := ⟨3, 1, .xp, false⟩
def F.BG_CFG_lode_en : Fld := ⟨2, 1, .xp, false⟩
def F.BG_CFG_table_en : Fld := ⟨1, 1, .xp, false⟩
def F.BG_CFG_sram_en : Fld := ⟨0, 1, .xp, false⟩
def F.BG_KA_cal_lost : Fld := ⟨1, 1, .rw1c, false⟩
def F.BG_KA_ka_valid : Fld := ⟨0, 1, .ro, false⟩
def F.BG_LIFE_life_ppm : Fld := ⟨32, 32, .ro, false⟩
def F.BG_LIFE_powered_h : Fld := ⟨0, 32, .ro, false⟩
def F.BG_SCRUB_corr : Fld := ⟨48, 16, .rc, true⟩
def F.BG_SCRUB_uncorr : Fld := ⟨32, 16, .rc, true⟩
def F.BG_SCRUB_pass_late : Fld := ⟨24, 8, .rc, true⟩
def F.BG_SCRUB_nor_bad : Fld := ⟨1, 1, .rw1c, true⟩
def F.BN_BAD_req : Fld := ⟨60, 4, .ro, false⟩
def F.BN_BAD_tag : Fld := ⟨40, 20, .ro, false⟩
def F.BN_BAD_ptr : Fld := ⟨0, 24, .ro, false⟩
def F.BN_ERR_ptr_range : Fld := ⟨48, 16, .rc, true⟩
def F.BN_ERR_owner_err : Fld := ⟨32, 16, .rc, true⟩
def F.BN_ERR_dbl_free : Fld := ⟨16, 16, .rc, true⟩
def F.BN_ERR_link_fault : Fld := ⟨0, 16, .rc, true⟩
def F.BN_QUOTA_used : Fld := ⟨32, 15, .ro, false⟩
def F.BN_QUOTA_limit : Fld := ⟨0, 15, .xp, false⟩
def F.BN_ROWCFG_c7_cells : Fld := ⟨32, 15, .xp, false⟩
def F.BN_ROWCFG_xon_free : Fld := ⟨16, 15, .xp, false⟩
def F.BN_ROWCFG_xoff_free : Fld := ⟨0, 15, .xp, false⟩
def F.BN_ROWSTAT_no_cell : Fld := ⟨48, 16, .rc, true⟩
def F.BN_ROWSTAT_rebuild : Fld := ⟨47, 1, .ro, false⟩
def F.BN_ROWSTAT_reserved_cnt : Fld := ⟨32, 15, .ro, false⟩
def F.BN_ROWSTAT_free_min : Fld := ⟨16, 15, (.mark 0 15), false⟩
def F.BN_ROWSTAT_free : Fld := ⟨0, 15, .ro, false⟩
def F.CG_CTL_can_to : Fld := ⟨16, 8, .xp, false⟩
def F.CG_GRANT_lease_end : Fld := ⟨32, 32, .ro, false⟩
def F.CG_GRANT_valid : Fld := ⟨6, 1, .ro, false⟩
def F.CG_GRANT_fn : Fld := ⟨0, 6, .ro, false⟩
def F.CG_RIGHTS_expert_ok : Fld := ⟨3, 1, .xp, false⟩
def F.CG_RIGHTS_queue : Fld := ⟨2, 1, .xp, false⟩
def F.CG_RIGHTS_change : Fld := ⟨1, 1, .xp, false⟩
def F.CG_RIGHTS_read : Fld := ⟨0, 1, .xp, false⟩
def F.CG_DOOR_go : Fld := ⟨0, 1, .wo, false⟩
def F.CG_EVIDX_ev_wr : Fld := ⟨16, 16, .ro, false⟩
def F.CG_EVIDX_ev_rd : Fld := ⟨0, 16, .rw, false⟩
def F.CG_EVLOST_lost : Fld := ⟨0, 32, .rc, false⟩
def F.CG_GSTAT_rights : Fld := ⟨16, 4, .ro, false⟩
def F.CG_GSTAT_om : Fld := ⟨8, 2, .ro, false⟩
def F.CG_GSTAT_alarm : Fld := ⟨7, 1, .ro, false⟩
def F.CG_GSTAT_fault : Fld := ⟨6, 1, .ro, false⟩
def F.CG_GSTAT_expert : Fld := ⟨5, 1, .ro, false⟩
def F.CG_GSTAT_dev_state : Fld := ⟨0, 4, .ro, false⟩
def F.CG_STAT_tag : Fld := ⟨24, 8, .ro, false⟩
def F.CG_STAT_db_ref : Fld := ⟨16, 8, .rc, true⟩
def F.CG_STAT_err : Fld := ⟨2, 1, .rw1c, false⟩
def F.CG_STAT_done : Fld := ⟨1, 1, .rw1c, false⟩
def F.CG_STAT_busy : Fld := ⟨0, 1, .ro, false⟩
def F.CK_ISLCFG_gate_req : Fld := ⟨16, 1, .xp, false⟩
def F.CK_ISLCFG_freq_req : Fld := ⟨0, 12, .xp, false⟩
def F.CK_ISLSTAT_xerr_cnt : Fld := ⟨16, 16, .rc, true⟩
def F.CK_ISLSTAT_gated : Fld := ⟨13, 1, .ro, false⟩
def F.CK_ISLSTAT_lock : Fld := ⟨12, 1, .ro, false⟩
def F.CK_ISLSTAT_freq_mhz : Fld := ⟨0, 12, .ro, false⟩
def F.TB_CTL_revert : Fld := ⟨27, 1, .xp, false⟩
def F.TB_CTL_step_en : Fld := ⟨26, 1, .xp, false⟩
def F.TB_CTL_pps_force : Fld := ⟨25, 1, .xp, false⟩
def F.TB_CTL_pps_out_en : Fld := ⟨24, 1, .xp, false⟩
def F.TB_CTL_ref_out_en : Fld := ⟨23, 1, .xp, false⟩
def F.TB_CTL_irig_ext : Fld := ⟨22, 1, .xp, false⟩
def F.TB_CTL_tsrc : Fld := ⟨20, 2, .xp, false⟩
def F.TB_CTL_refb_25 : Fld := ⟨19, 1, .xp, false⟩
def F.TB_CTL_refa_25 : Fld := ⟨18, 1, .xp, false⟩
def F.TB_CTL_fsrc : Fld := ⟨16, 2, .xp, false⟩
def F.TB_CTL_lock_cnt : Fld := ⟨8, 8, .xp, false⟩
def F.TB_CTL_lock_thr : Fld := ⟨0, 8, .xp, false⟩
def F.TB_FREQ_steer : Fld := ⟨0, 32, .xp, false⟩
def F.TB_NOW_HI_sec_hi : Fld := ⟨0, 32, .ro, false⟩
def F.TB_NOW_LO_sec_lo : Fld := ⟨48, 16, .ro, false⟩
def F.TB_NOW_LO_ns : Fld := ⟨16, 32, .ro, false⟩
def F.TB_NOW_LO_frac : Fld := ⟨0, 16, .ro, false⟩
def F.TB_PPS_pps_in_dly : Fld := ⟨16, 16, .xp, false⟩
def F.TB_PPS_pps_width : Fld := ⟨7, 9, .xp, false⟩
def F.TB_STAT_hold_min : Fld := ⟨21, 11, .ro, true⟩
def F.TB_STAT_ptp_qual : Fld := ⟨20, 1, .ro, false⟩
def F.TB_STAT_step_cnt : Fld := ⟨12, 8, .rc, true⟩
def F.TB_STAT_hold_valid : Fld := ⟨11, 1, .ro, false⟩
def F.TB_STAT_oven_ready : Fld := ⟨10, 1, .ro, false⟩
def F.TB_STAT_pps_qual : Fld := ⟨9, 1, .ro, false⟩
def F.TB_STAT_irig_qual : Fld := ⟨8, 1, .ro, false⟩
def F.TB_STAT_refb_qual : Fld := ⟨7, 1, .ro, false⟩
def F.TB_STAT_refa_qual : Fld := ⟨6, 1, .ro, false⟩
def F.TB_STAT_fsel : Fld := ⟨4, 2, .ro, false⟩
def F.TB_STAT_step_ref : Fld := ⟨3, 1, .rw1c, false⟩
def F.TB_STAT_state : Fld := ⟨0, 3, .ro, false⟩
def F.TB_STEP_offset : Fld := ⟨0, 64, .xpwo, false⟩
def F.TB_TICK_tick_exp : Fld := ⟨0, 5, .xp, false⟩
def F.TB_UTC_leap_tai : Fld := ⟨32, 32, .xp, false⟩
def F.TB_UTC_leap : Fld := ⟨16, 2, .xp, false⟩
def F.TB_UTC_utc_offset : Fld := ⟨0, 16, .xp, false⟩
def F.DB_BP_en : Fld := ⟨63, 1, .xp, false⟩
def F.DB_BP_gal : Fld := ⟨58, 5, .xp, false⟩
def F.DB_BP_cores : Fld := ⟨50, 8, .xp, false⟩
def F.DB_BP_threads : Fld := ⟨42, 8, .xp, false⟩
def F.DB_BP_pc : Fld := ⟨0, 14, .xp, false⟩
def F.DB_CTL_lim_freeze : Fld := ⟨0, 1, .xp, false⟩
def F.DB_GTRCFG_gal : Fld := ⟨27, 5, .xp, false⟩
def F.DB_GTRCFG_ev_mask : Fld := ⟨16, 11, .xp, false⟩
def F.DB_GTRCFG_wrap : Fld := ⟨1, 1, .xp, false⟩
def F.DB_GTRCFG_en : Fld := ⟨0, 1, .xp, false⟩
def F.DB_GTRCTL_thr_mask : Fld := ⟨0, 64, .xp, false⟩
def F.DB_GTRRING_size_log2 : Fld := ⟨58, 6, .xp, false⟩
def F.DB_GTRRING_base : Fld := ⟨12, 25, .xp, false⟩
def F.DB_GTRSTAT_wr_idx : Fld := ⟨32, 32, .ro, false⟩
def F.DB_GTRSTAT_lost : Fld := ⟨0, 32, .rc, false⟩
def F.DB_STAT_ref_cnt : Fld := ⟨16, 16, .rc, true⟩
def F.DB_STAT_fail_cnt : Fld := ⟨12, 4, .ro, true⟩
def F.DB_STAT_nonce : Fld := ⟨1, 1, .ro, false⟩
def F.DB_STAT_unlocked : Fld := ⟨0, 1, .ro, false⟩
def F.DB_TCMD_op : Fld := ⟨30, 2, .xpwo, false⟩
def F.DB_TCMD_all : Fld := ⟨29, 1, .xpwo, false⟩
def F.DB_TCMD_thread : Fld := ⟨0, 11, .xpwo, false⟩
def F.DB_WP_en : Fld := ⟨63, 1, .xp, false⟩
def F.DB_WP_gal : Fld := ⟨58, 5, .xp, false⟩
def F.DB_WP_kind : Fld := ⟨56, 2, .xp, false⟩
def F.DB_WP_size_log2 : Fld := ⟨48, 5, .xp, false⟩
def F.DB_WP_addr : Fld := ⟨0, 32, .xp, false⟩
def F.DR_AFF_valid : Fld := ⟨5, 1, .xp, false⟩
def F.DR_AFF_gallery : Fld := ⟨0, 5, .xp, false⟩
def F.DR_CFG_c7_slots : Fld := ⟨16, 8, .xp, false⟩
def F.DR_CFG_twin_en : Fld := ⟨1, 1, .xp, false⟩
def F.DR_CFG_adm_en : Fld := ⟨0, 1, .xp, false⟩
def F.DR_CHIST_bin_3 : Fld := ⟨48, 16, .rc, true⟩
def F.DR_CHIST_bin_2 : Fld := ⟨32, 16, .rc, true⟩
def F.DR_CHIST_bin_1 : Fld := ⟨16, 16, .rc, true⟩
def F.DR_CHIST_bin_0 : Fld := ⟨0, 16, .rc, true⟩
def F.DR_CLOAD_used : Fld := ⟨32, 32, .rc, false⟩
def F.DR_CLOAD_cycles : Fld := ⟨0, 32, .rc, false⟩
def F.DR_CQ_q_max : Fld := ⟨16, 5, (.mark 0 5), false⟩
def F.DR_CQ_busy : Fld := ⟨8, 4, .ro, false⟩
def F.DR_CQ_q_depth : Fld := ⟨0, 5, .ro, false⟩
def F.DR_GSTAT_dly_full : Fld := ⟨48, 16, .rc, true⟩
def F.DR_GSTAT_late : Fld := ⟨32, 16, .rc, true⟩
def F.DR_GSTAT_dly_max : Fld := ⟨19, 13, (.mark 64 0), false⟩
def F.DR_GSTAT_drain : Fld := ⟨0, 12, .ro, false⟩
def F.DR_HTO_hto_us : Fld := ⟨0, 16, .xp, false⟩
def F.DR_PCNT_admitted : Fld := ⟨32, 32, .rc, false⟩
def F.DR_PCNT_twin_single : Fld := ⟨16, 16, .rc, true⟩
def F.DR_PCNT_tmpl_off : Fld := ⟨0, 16, .rc, true⟩
def F.DR_PSTAT_no_slot : Fld := ⟨48, 16, .rc, true⟩
def F.DR_PSTAT_no_ticket : Fld := ⟨32, 16, .rc, true⟩
def F.DR_PSTAT_no_quota : Fld := ⟨16, 16, .rc, true⟩
def F.DR_PSTAT_q7_depth : Fld := ⟨8, 8, .ro, true⟩
def F.DR_PSTAT_q_depth : Fld := ⟨0, 8, .ro, true⟩
def F.DR_TCTL_live : Fld := ⟨32, 16, .ro, false⟩
def F.DR_TCTL_wr_ref : Fld := ⟨2, 1, .rw1c, false⟩
def F.DR_TCTL_bad : Fld := ⟨1, 1, .rw1c, false⟩
def F.DR_TCTL_en : Fld := ⟨0, 1, .xp, false⟩
def F.DR_TRCTL_gal_mask : Fld := ⟨38, 26, .xp, false⟩
def F.DR_TRCTL_tmpl : Fld := ⟨20, 8, .xp, false⟩
def F.DR_TRCTL_tmpl_any : Fld := ⟨19, 1, .xp, false⟩
def F.DR_TRCTL_ev_mask : Fld := ⟨4, 9, .xp, false⟩
def F.DR_TRCTL_wrap : Fld := ⟨3, 1, .xp, false⟩
def F.DR_TRCTL_en : Fld := ⟨0, 1, .xp, false⟩
def F.DR_TRRING_size_log2 : Fld := ⟨58, 6, .xp, false⟩
def F.DR_TRRING_base : Fld := ⟨12, 25, .xp, false⟩
def F.DR_TRSTAT_wr_idx : Fld := ⟨32, 32, .ro, false⟩
def F.DR_TRSTAT_lost : Fld := ⟨0, 32, .rc, false⟩
def F.DR_TWIN_en : Fld := ⟨5, 1, .xp, false⟩
def F.DR_TWIN_partner : Fld := ⟨0, 5, .xp, false⟩
def F.GL_CCTL_sup_entry : Fld := ⟨16, 14, .xp, false⟩
def F.GL_CCTL_vec_base : Fld := ⟨0, 14, .xp, false⟩
def F.GL_CTL_core_rst : Fld := ⟨16, 8, .xpwo, false⟩
def F.GL_CTL_gal_rst : Fld := ⟨8, 1, .xpwo, false⟩
def F.GL_CTL_sup_run : Fld := ⟨0, 1, .xp, false⟩
def F.GL_ECC_corr : Fld := ⟨16, 16, .rc, true⟩
def F.GL_ECC_uncorr : Fld := ⟨0, 16, .rc, true⟩
def F.GL_FREC0_lo : Fld := ⟨0, 64, .ro, false⟩
def F.GL_FREC1_mid : Fld := ⟨0, 64, .ro, false⟩
def F.GL_FREC2_hi : Fld := ⟨0, 64, .ro, false⟩
def F.GL_ROSE0_ent : Fld := ⟨0, 64, .xp, false⟩
def F.GL_ROSE1_ent : Fld := ⟨0, 64, .xp, false⟩
def F.GL_ROSECTL_err : Fld := ⟨2, 1, .rw1c, false⟩
def F.GL_ROSECTL_pending : Fld := ⟨1, 1, .ro, false⟩
def F.GL_ROSECTL_commit : Fld := ⟨0, 1, .xpwo, false⟩
def F.GL_ROSELIVE0_ent : Fld := ⟨0, 64, .ro, false⟩
def F.GL_ROSELIVE1_ent : Fld := ⟨0, 64, .ro, false⟩
def F.GL_SMBASE_win : Fld := ⟨0, 5, .xp, false⟩
def F.GL_STAT_f_lost : Fld := ⟨16, 16, .rc, true⟩
def F.GL_STAT_f_depth : Fld := ⟨3, 5, .ro, false⟩
def F.GL_STAT_state : Fld := ⟨0, 3, .ro, false⟩
def F.GL_SUPTO_sup_to : Fld := ⟨0, 16, .xp, false⟩
def F.GL_TCTL_rst : Fld := ⟨31, 1, .xpwo, false⟩
def F.GL_TCTL_kill : Fld := ⟨30, 1, .xpwo, false⟩
def F.GL_TCTL_ddr_win : Fld := ⟨16, 7, .xp, false⟩
def F.GL_TCTL_prio : Fld := ⟨8, 2, .xp, false⟩
def F.GL_TCTL_imask : Fld := ⟨0, 8, .xp, false⟩
def F.GL_TSOFT_thread : Fld := ⟨0, 6, .xpwo, false⟩
def F.GL_TSTAT_epoch : Fld := ⟨56, 8, .ro, false⟩
def F.GL_TSTAT_pend : Fld := ⟨48, 8, .ro, false⟩
def F.GL_TSTAT_in_hnd : Fld := ⟨47, 1, .ro, false⟩
def F.GL_TSTAT_pc : Fld := ⟨28, 14, .ro, false⟩
def F.GL_TSTAT_node : Fld := ⟨24, 4, .ro, false⟩
def F.GL_TSTAT_job_slot : Fld := ⟨13, 11, .ro, false⟩
def F.GL_TSTAT_state : Fld := ⟨0, 3, .ro, false⟩
def F.GL_CP2CFG_cp2_to : Fld := ⟨0, 16, .xp, false⟩
def F.GL_CP2STAT_to_cnt : Fld := ⟨24, 8, .rc, true⟩
def F.GL_CP2STAT_in_flight : Fld := ⟨16, 8, .ro, false⟩
def F.GL_CP2STAT_max : Fld := ⟨8, 8, (.mark 16 8), false⟩
def F.GL_CPSTAT_refused : Fld := ⟨48, 16, .rc, true⟩
def F.GL_CPSTAT_late : Fld := ⟨32, 16, .rc, true⟩
def F.GL_CPSTAT_orphan : Fld := ⟨16, 16, .rc, true⟩
def F.GL_CPSTAT_late_lost : Fld := ⟨0, 16, .rc, true⟩
def F.GL_FCCTL_load : Fld := ⟨31, 1, .xpwo, false⟩
def F.GL_FCCTL_clear : Fld := ⟨30, 1, .xpwo, false⟩
def F.GL_FCCTL_face_div : Fld := ⟨20, 2, .xp, false⟩
def F.GL_FCCTL_auto_restart : Fld := ⟨19, 1, .xp, false⟩
def F.GL_FCCTL_run : Fld := ⟨18, 1, .xp, false⟩
def F.GL_FCCTL_face_to : Fld := ⟨0, 16, .xp, false⟩
def F.GL_FCID_user_id : Fld := ⟨0, 64, .ro, false⟩
def F.GL_FCINFO_fn_mask : Fld := ⟨48, 16, .ro, false⟩
def F.GL_FCINFO_res_mask : Fld := ⟨32, 16, .ro, false⟩
def F.GL_FCINFO_fmax_mhz : Fld := ⟨0, 16, .ro, false⟩
def F.GL_FCLOAD_addr : Fld := ⟨6, 31, .xp, false⟩
def F.GL_FCSTAT_cfg_corr : Fld := ⟨48, 16, .rc, true⟩
def F.GL_FCSTAT_cfg_uncorr : Fld := ⟨40, 8, .rc, true⟩
def F.GL_FCSTAT_bad_tag : Fld := ⟨32, 8, .rc, true⟩
def F.GL_FCSTAT_late_rsp : Fld := ⟨16, 16, .rc, true⟩
def F.GL_FCSTAT_load_err : Fld := ⟨8, 4, .ro, true⟩
def F.GL_FCSTAT_user_irq : Fld := ⟨7, 1, .rw1c, true⟩
def F.GL_FCSTAT_state : Fld := ⟨0, 3, .ro, true⟩
def F.GL_GENCMD_go : Fld := ⟨63, 1, .xpwo, false⟩
def F.GL_GENCMD_busy : Fld := ⟨62, 1, .ro, false⟩
def F.GL_GENCMD_dcol : Fld := ⟨56, 4, .xp, false⟩
def F.GL_GENCMD_queue : Fld := ⟨53, 3, .xp, false⟩
def F.GL_GENCMD_length : Fld := ⟨32, 14, .xp, false⟩
def F.GL_GENCMD_src : Fld := ⟨0, 32, .xp, false⟩
def F.GL_GENSTAT_sent : Fld := ⟨32, 32, .rc, false⟩
def F.GL_GENSTAT_dropped : Fld := ⟨16, 16, .rc, true⟩
def F.HI_BAR2_base : Fld := ⟨6, 7, .xp, false⟩
def F.HI_BAR2_size_log2 : Fld := ⟨0, 6, .xp, false⟩
def F.HI_CFG_host_wd_ms : Fld := ⟨16, 16, .xp, false⟩
def F.HI_CFG_err : Fld := ⟨2, 1, .rw1c, false⟩
def F.HI_CFG_ro_en : Fld := ⟨1, 1, .xp, false⟩
def F.HI_CFG_en : Fld := ⟨0, 1, .xp, false⟩
def F.HI_ERR_db_bad : Fld := ⟨48, 16, .rc, true⟩
def F.HI_ERR_rx_noq : Fld := ⟨32, 16, .rc, true⟩
def F.HI_ERR_dma_err : Fld := ⟨16, 16, .rc, true⟩
def F.HI_ERR_bar2_err : Fld := ⟨0, 16, .rc, true⟩
def F.HI_LINK_width : Fld := ⟨8, 5, .ro, false⟩
def F.HI_LINK_speed : Fld := ⟨4, 4, .ro, false⟩
def F.HI_LINK_flit : Fld := ⟨3, 1, .ro, false⟩
def F.HI_LINK_up : Fld := ⟨0, 1, .ro, false⟩
def F.HI_QCFG_asg : Fld := ⟨63, 1, .xp, false⟩
def F.HI_QCFG_fn : Fld := ⟨57, 6, .xp, false⟩
def F.HI_QCFG_lidx : Fld := ⟨48, 9, .xp, false⟩
def F.HI_QCFG_vec : Fld := ⟨37, 11, .xp, false⟩
def F.HI_QCFG_weight : Fld := ⟨29, 8, .xp, false⟩
def F.HI_QCFG_rx_buf : Fld := ⟨23, 6, .xp, false⟩
def F.HI_QCFG_rx_size : Fld := ⟨19, 4, .xp, false⟩
def F.HI_QCFG_tx_size : Fld := ⟨15, 4, .xp, false⟩
def F.HI_QCFG_rx_en : Fld := ⟨1, 1, .xp, false⟩
def F.HI_QCFG_tx_en : Fld := ⟨0, 1, .xp, false⟩
def F.HI_QCNT_tx_frames : Fld := ⟨32, 32, .rc, false⟩
def F.HI_QCNT_rx_frames : Fld := ⟨0, 32, .rc, false⟩
def F.HI_QIDX_tx_head : Fld := ⟨48, 16, .ro, false⟩
def F.HI_QIDX_tx_tail : Fld := ⟨32, 16, .ro, false⟩
def F.HI_QIDX_rx_head : Fld := ⟨16, 16, .ro, false⟩
def F.HI_QIDX_rx_tail : Fld := ⟨0, 16, .ro, false⟩
def F.HI_QITR_itr_us : Fld := ⟨16, 16, .xp, false⟩
def F.HI_QITR_itr_cnt : Fld := ⟨0, 8, .xp, false⟩
def F.HI_QRXBASE_base : Fld := ⟨6, 58, .xp, false⟩
def F.HI_QSTAT_tx_state : Fld := ⟨61, 3, .ro, true⟩
def F.HI_QSTAT_rx_state : Fld := ⟨58, 3, .ro, true⟩
def F.HI_QSTAT_wd_drop : Fld := ⟨32, 16, .rc, true⟩
def F.HI_QSTAT_rx_drop : Fld := ⟨16, 16, .rc, true⟩
def F.HI_QSTAT_tx_lerr : Fld := ⟨0, 16, .rc, true⟩
def F.HI_QTXBASE_base : Fld := ⟨6, 58, .xp, false⟩
def F.HO_CFG_unord_mask : Fld := ⟨16, 8, .xp, false⟩
def F.HO_CFG_limit_us : Fld := ⟨0, 16, .xp, false⟩
def F.HO_CNT_released : Fld := ⟨32, 32, .rc, false⟩
def F.HO_CNT_voided : Fld := ⟨0, 32, .rc, false⟩
def F.HO_DOMSEL_domain : Fld := ⟨0, 16, .rw, false⟩
def F.HO_DOMSTAT_head : Fld := ⟨44, 20, .ro, false⟩
def F.HO_DOMSTAT_pending : Fld := ⟨29, 15, .ro, false⟩
def F.HO_DOMSTAT_head_state : Fld := ⟨26, 3, .ro, false⟩
def F.HO_DOMSTAT_head_wait : Fld := ⟨0, 16, .ro, true⟩
def F.HO_ERR_seq_err : Fld := ⟨48, 16, .rc, true⟩
def F.HO_ERR_eddy_late : Fld := ⟨32, 16, .rc, true⟩
def F.HO_LATE_domain : Fld := ⟨48, 16, .ro, false⟩
def F.HO_LATE_sequence : Fld := ⟨28, 20, .ro, false⟩
def F.HO_LATE_gallery : Fld := ⟨23, 5, .ro, false⟩
def F.HO_LATE_job_slot : Fld := ⟨12, 11, .ro, false⟩
def F.HO_LATE_valid : Fld := ⟨0, 1, .rw1c, false⟩
def F.HO_OCC_c7_max : Fld := ⟨48, 14, (.mark 16 14), false⟩
def F.HO_OCC_occ_max : Fld := ⟨32, 15, (.mark 0 15), false⟩
def F.HO_OCC_c7_used : Fld := ⟨16, 14, .ro, false⟩
def F.HO_OCC_used : Fld := ⟨0, 15, .ro, false⟩
def F.HO_PART_c7_tickets : Fld := ⟨0, 14, .xp, false⟩
def F.HO_VCNT0_late : Fld := ⟨48, 16, .rc, true⟩
def F.HO_VCNT0_twin_lose : Fld := ⟨32, 16, .rc, true⟩
def F.HO_VCNT0_reclaim : Fld := ⟨16, 16, .rc, true⟩
def F.HO_VCNT0_job : Fld := ⟨0, 16, .rc, true⟩
def F.HO_VCNT1_drop : Fld := ⟨48, 16, .rc, true⟩
def F.HO_VCNT1_fcs : Fld := ⟨32, 16, .rc, true⟩
def F.HO_VCNT1_bare : Fld := ⟨16, 16, .rc, true⟩
def F.HO_VCNT1_eddy : Fld := ⟨0, 16, .rc, true⟩
def F.LD_ANQ0_lo : Fld := ⟨0, 64, .ro, false⟩
def F.LD_ANQ1_hi : Fld := ⟨0, 64, .ro, false⟩
def F.LD_ANSTAT_lost : Fld := ⟨16, 16, .rc, true⟩
def F.LD_ANSTAT_depth : Fld := ⟨0, 13, .ro, false⟩
def F.LD_CFG_anom_en : Fld := ⟨16, 16, .xp, false⟩
def F.LD_CFG_hot_en : Fld := ⟨3, 1, .xp, false⟩
def F.LD_CFG_watch_en : Fld := ⟨2, 1, .xp, false⟩
def F.LD_CFG_sweep_en : Fld := ⟨1, 1, .xp, false⟩
def F.LD_CFG_en : Fld := ⟨0, 1, .xp, false⟩
def F.LD_ECC_corr : Fld := ⟨48, 16, .rc, true⟩
def F.LD_ECC_uncorr : Fld := ⟨32, 16, .rc, true⟩
def F.LD_ECC_bad : Fld := ⟨25, 1, .rw1c, false⟩
def F.LD_ECC_bad_idx : Fld := ⟨0, 25, .ro, false⟩
def F.LD_EXPIDX_wr_idx : Fld := ⟨32, 32, .ro, false⟩
def F.LD_EXPIDX_rd_idx : Fld := ⟨0, 32, .xp, false⟩
def F.LD_EXPRING_size_log2 : Fld := ⟨58, 6, .xp, false⟩
def F.LD_EXPRING_base : Fld := ⟨12, 25, .xp, false⟩
def F.LD_EXPRING_en : Fld := ⟨0, 1, .xp, false⟩
def F.LD_EXPSTAT_exported : Fld := ⟨32, 32, .rc, false⟩
def F.LD_EXPSTAT_lost : Fld := ⟨0, 32, .rc, false⟩
def F.LD_KIND_forget_ms : Fld := ⟨16, 16, .xp, false⟩
def F.LD_KIND_active_sw : Fld := ⟨8, 8, .xp, false⟩
def F.LD_KIND_exp_rm : Fld := ⟨0, 1, .xp, false⟩
def F.LD_OCC_occ_max : Fld := ⟨32, 26, (.mark 0 26), false⟩
def F.LD_OCC_occ : Fld := ⟨0, 26, .ro, false⟩
def F.LD_QSTAT_ops : Fld := ⟨32, 32, .rc, false⟩
def F.LD_QSTAT_q_full : Fld := ⟨16, 16, .rc, true⟩
def F.LD_QSTAT_fenced : Fld := ⟨15, 1, .ro, false⟩
def F.LD_QSTAT_q_depth : Fld := ⟨0, 11, .ro, false⟩
def F.LD_REPAIR_row_fix : Fld := ⟨48, 16, .rc, true⟩
def F.LD_REPAIR_thr : Fld := ⟨32, 8, .xp, false⟩
def F.LD_REPAIR_rows_left : Fld := ⟨16, 14, .ro, false⟩
def F.LD_REPAIR_banks_left : Fld := ⟨0, 5, .ro, false⟩
def F.LD_STAT_ins_fail : Fld := ⟨48, 16, .rc, true⟩
def F.LD_STAT_hdr_wr : Fld := ⟨32, 16, .rc, true⟩
def F.LD_STAT_watch_full : Fld := ⟨16, 16, .rc, true⟩
def F.LD_STAT_bad_arg : Fld := ⟨0, 16, .rc, true⟩
def F.LD_SWCMD_start : Fld := ⟨31, 1, .xpwo, false⟩
def F.LD_SWCMD_busy : Fld := ⟨30, 1, .ro, false⟩
def F.LD_SWCMD_pair_out : Fld := ⟨29, 1, .xp, false⟩
def F.LD_SWCMD_status : Fld := ⟨20, 4, .ro, false⟩
def F.LD_SWCMD_fn : Fld := ⟨12, 8, .xp, false⟩
def F.LD_SWEEP_flush_kind : Fld := ⟨56, 8, .xp, false⟩
def F.LD_SWEEP_flush_pin : Fld := ⟨55, 1, .xp, false⟩
def F.LD_SWEEP_flush : Fld := ⟨54, 1, .xpwo, false⟩
def F.LD_SWEEP_flushing : Fld := ⟨53, 1, .ro, false⟩
def F.LD_SWEEP_kick_max : Fld := ⟨20, 3, .xp, false⟩
def F.LD_SWEEP_period_ms : Fld := ⟨0, 20, .xp, false⟩
def F.LD_TDEF_action : Fld := ⟨0, 2, .xp, false⟩
def F.LD_TMO_floor : Fld := ⟨8, 4, .xp, false⟩
def F.LD_TMO_adapt : Fld := ⟨4, 1, .xp, false⟩
def F.LD_TMO_limit : Fld := ⟨0, 4, .xp, false⟩
def F.PH_BIND_sh : Fld := ⟨32, 16, .xp, false⟩
def F.PH_BIND_gallery : Fld := ⟨27, 5, .xp, false⟩
def F.PH_BIND_slot : Fld := ⟨16, 11, .xp, false⟩
def F.PH_BIND_cfg_chg : Fld := ⟨1, 1, .ro, false⟩
def F.PH_BIND_valid : Fld := ⟨0, 1, .xp, false⟩
def F.PH_CFG_en : Fld := ⟨0, 1, .xp, false⟩
def F.PH_OCNT_sent : Fld := ⟨32, 32, .rc, false⟩
def F.PH_OCNT_late : Fld := ⟨16, 16, .rc, true⟩
def F.PH_OCNT_missing : Fld := ⟨0, 16, .rc, true⟩
def F.PH_OUT_en : Fld := ⟨63, 1, .xp, false⟩
def F.PH_OUT_f60 : Fld := ⟨62, 1, .xp, false⟩
def F.PH_OUT_fr : Fld := ⟨58, 4, .xp, false⟩
def F.PH_OUT_idcode : Fld := ⟨32, 16, .xp, false⟩
def F.PH_OUT_hold_us : Fld := ⟨16, 16, .xp, false⟩
def F.PH_OUT_dcol : Fld := ⟨12, 4, .xp, false⟩
def F.PH_OUT_queue : Fld := ⟨9, 3, .xp, false⟩
def F.PH_OUT_hdr_len : Fld := ⟨2, 7, .xp, false⟩
def F.PH_OUT_l4 : Fld := ⟨0, 2, .xp, false⟩
def F.PH_STAT_sent : Fld := ⟨32, 32, .rc, false⟩
def F.PH_STAT_late : Fld := ⟨16, 16, .rc, true⟩
def F.PH_STAT_missing : Fld := ⟨0, 16, .rc, true⟩
def F.PT_GCLBASE_base_ns : Fld := ⟨32, 30, .xp, false⟩
def F.PT_GCLBASE_base_s : Fld := ⟨0, 32, .xp, false⟩
def F.PT_GCLCTL_cycle : Fld := ⟨32, 32, .xp, false⟩
def F.PT_GCLCTL_length : Fld := ⟨11, 11, .xp, false⟩
def F.PT_GCLCTL_err : Fld := ⟨2, 1, .rw1c, false⟩
def F.PT_GCLCTL_pending : Fld := ⟨1, 1, .ro, false⟩
def F.PT_GCLCTL_commit : Fld := ⟨0, 1, .wo, false⟩
def F.PT_PCFG_pfc_mask : Fld := ⟨24, 8, .xp, false⟩
def F.PT_PCFG_verify_dis : Fld := ⟨23, 1, .xp, false⟩
def F.PT_PCFG_add_frag : Fld := ⟨21, 2, .xp, false⟩
def F.PT_PCFG_pre_en : Fld := ⟨20, 1, .xp, false⟩
def F.PT_PCFG_ld_mode : Fld := ⟨18, 2, .xp, false⟩
def F.PT_PCFG_fc_mode : Fld := ⟨16, 2, .xp, false⟩
def F.PT_PCFG_fec : Fld := ⟨11, 2, .xp, false⟩
def F.PT_PCFG_width : Fld := ⟨8, 3, .xp, false⟩
def F.PT_PCFG_lane_rate : Fld := ⟨5, 3, .xp, false⟩
def F.PT_PCFG_an_en : Fld := ⟨4, 1, .xp, false⟩
def F.PT_PCFG_loopback : Fld := ⟨2, 2, .xp, false⟩
def F.PT_PCFG_enable : Fld := ⟨0, 1, .xp, false⟩
def F.PT_PSTAT_paused_mask : Fld := ⟨16, 8, .ro, false⟩
def F.PT_PSTAT_pause_wd_mask : Fld := ⟨8, 8, .ro, false⟩
def F.PT_PSTAT_ts_cal_valid : Fld := ⟨7, 1, .ro, false⟩
def F.PT_PSTAT_fec_lock : Fld := ⟨6, 1, .ro, false⟩
def F.PT_PSTAT_align : Fld := ⟨5, 1, .ro, false⟩
def F.PT_PSTAT_remote_fault : Fld := ⟨4, 1, .ro, false⟩
def F.PT_PSTAT_local_fault : Fld := ⟨3, 1, .ro, false⟩
def F.PT_PSTAT_state : Fld := ⟨0, 3, .ro, false⟩
def F.PT_QSCH_mode : Fld := ⟨30, 2, .xp, false⟩
def F.PT_QSCH_preemptable : Fld := ⟨29, 1, .xp, false⟩
def F.PT_QSCH_weight : Fld := ⟨20, 8, .xp, false⟩
def F.PT_QSCH_idle_slope : Fld := ⟨0, 20, .xp, false⟩
def F.PT_RED_peer : Fld := ⟨8, 5, .xp, false⟩
def F.PT_RED_lan_b : Fld := ⟨7, 1, .xp, false⟩
def F.PT_RED_pair_err : Fld := ⟨3, 1, .ro, false⟩
def F.PT_RED_role : Fld := ⟨0, 3, .xp, false⟩
def F.PT_TMR_ld_debounce : Fld := ⟨16, 8, .xp, false⟩
def F.PT_TMR_pause_wd : Fld := ⟨0, 16, .xp, false⟩
def F.PT_TSDLY_complement : Fld := ⟨32, 32, .rwp, false⟩
def F.PT_TSDLY_eg_delay : Fld := ⟨16, 16, .rwp, false⟩
def F.PT_TSDLY_in_delay : Fld := ⟨0, 16, .rwp, false⟩
def F.PW_CFG_lull_gal1 : Fld := ⟨23, 5, .xp, false⟩
def F.PW_CFG_lull_gal0 : Fld := ⟨18, 5, .xp, false⟩
def F.PW_CFG_lull_pipe : Fld := ⟨16, 2, .xp, false⟩
def F.PW_CFG_exit_ds : Fld := ⟨8, 8, .xp, false⟩
def F.PW_CFG_lull_db : Fld := ⟨0, 8, .xp, false⟩
def F.PW_DOM_rail : Fld := ⟨8, 4, .ro, false⟩
def F.PW_DOM_err : Fld := ⟨7, 1, .rw1c, false⟩
def F.PW_DOM_state : Fld := ⟨4, 3, .ro, false⟩
def F.PW_DOM_req : Fld := ⟨0, 2, .xp, false⟩
def F.PW_LSHED_shed_drop : Fld := ⟨0, 32, .rc, false⟩
def F.PW_LSTAT_lull_cnt : Fld := ⟨48, 16, .rc, true⟩
def F.PW_LSTAT_dip_cnt : Fld := ⟨32, 16, .rc, true⟩
def F.PW_LSTAT_col_off : Fld := ⟨16, 16, .rc, true⟩
def F.PW_LSTAT_lull_en : Fld := ⟨8, 1, .ro, true⟩
def F.PW_LSTAT_store_ok : Fld := ⟨7, 1, .ro, true⟩
def F.PW_LSTAT_mode : Fld := ⟨0, 3, .ro, true⟩
def F.PW_THERM_tcp : Fld := ⟨16, 16, .ro, false⟩
def F.PW_THERM_tj_max : Fld := ⟨0, 16, .ro, false⟩
def F.PW_TLIM_trip_cnt : Fld := ⟨16, 16, .ro, false⟩
def F.PW_TLIM_thr_c : Fld := ⟨0, 8, .xp, false⟩
def F.PW_VMON_vmain_mv : Fld := ⟨48, 16, .ro, false⟩
def F.PW_VMON_vkeep_mv : Fld := ⟨32, 16, .ro, false⟩
def F.PW_VMON_store_cv : Fld := ⟨16, 16, .ro, false⟩
def F.PW_VMON_pin_cw : Fld := ⟨0, 16, .ro, false⟩
def F.RL_ALARM_calib : Fld := ⟨15, 1, .ro, false⟩
def F.RL_ALARM_lull : Fld := ⟨14, 1, .ro, false⟩
def F.RL_ALARM_thermal : Fld := ⟨13, 1, .ro, false⟩
def F.RL_ALARM_time : Fld := ⟨12, 1, .ro, false⟩
def F.RL_ALARM_cmpl : Fld := ⟨11, 1, .ro, false⟩
def F.RL_ALARM_unit : Fld := ⟨10, 1, .ro, false⟩
def F.RL_ALARM_lode_q : Fld := ⟨9, 1, .ro, false⟩
def F.RL_ALARM_lode_spare : Fld := ⟨8, 1, .ro, false⟩
def F.RL_ALARM_phase_cap : Fld := ⟨7, 1, .ro, false⟩
def F.RL_ALARM_phase : Fld := ⟨6, 1, .ro, false⟩
def F.RL_ALARM_om_single : Fld := ⟨5, 1, .ro, false⟩
def F.RL_ALARM_seam_marked : Fld := ⟨4, 1, .ro, false⟩
def F.RL_ALARM_seam_spare : Fld := ⟨3, 1, .ro, false⟩
def F.RL_ALARM_plane_single : Fld := ⟨2, 1, .ro, false⟩
def F.RL_ALARM_gal_short : Fld := ⟨1, 1, .ro, false⟩
def F.RL_ALARM_no_relief : Fld := ⟨0, 1, .ro, false⟩
def F.RL_ALMASK_calib : Fld := ⟨15, 1, .xp, false⟩
def F.RL_ALMASK_lull : Fld := ⟨14, 1, .xp, false⟩
def F.RL_ALMASK_thermal : Fld := ⟨13, 1, .xp, false⟩
def F.RL_ALMASK_time : Fld := ⟨12, 1, .xp, false⟩
def F.RL_ALMASK_cmpl : Fld := ⟨11, 1, .xp, false⟩
def F.RL_ALMASK_unit : Fld := ⟨10, 1, .xp, false⟩
def F.RL_ALMASK_lode_q : Fld := ⟨9, 1, .xp, false⟩
def F.RL_ALMASK_lode_spare : Fld := ⟨8, 1, .xp, false⟩
def F.RL_ALMASK_phase_cap : Fld := ⟨7, 1, .xp, false⟩
def F.RL_ALMASK_phase : Fld := ⟨6, 1, .xp, false⟩
def F.RL_ALMASK_om_single : Fld := ⟨5, 1, .xp, false⟩
def F.RL_ALMASK_seam_marked : Fld := ⟨4, 1, .xp, false⟩
def F.RL_ALMASK_seam_spare : Fld := ⟨3, 1, .xp, false⟩
def F.RL_ALMASK_plane_single : Fld := ⟨2, 1, .xp, false⟩
def F.RL_ALMASK_gal_short : Fld := ⟨1, 1, .xp, false⟩
def F.RL_ALMASK_no_relief : Fld := ⟨0, 1, .xp, false⟩
def F.RL_CNT_gal : Fld := ⟨48, 16, .rc, true⟩
def F.RL_CNT_plane : Fld := ⟨32, 16, .rc, true⟩
def F.RL_CNT_seam : Fld := ⟨16, 16, .rc, true⟩
def F.RL_CNT_kill : Fld := ⟨0, 16, .rc, true⟩
def F.RL_CTL_drain_ms : Fld := ⟨24, 8, .xp, false⟩
def F.RL_CTL_sup_flt : Fld := ⟨16, 8, .xp, false⟩
def F.RL_CTL_auto_pl : Fld := ⟨1, 1, .xp, false⟩
def F.RL_CTL_auto_gal : Fld := ⟨0, 1, .xp, false⟩
def F.RL_FAULT_central : Fld := ⟨8, 1, .ro, false⟩
def F.RL_FAULT_rail : Fld := ⟨7, 1, .ro, false⟩
def F.RL_FAULT_boot : Fld := ⟨6, 1, .ro, false⟩
def F.RL_FAULT_seam : Fld := ⟨5, 1, .ro, false⟩
def F.RL_FAULT_planes : Fld := ⟨4, 1, .ro, false⟩
def F.RL_FAULT_overman : Fld := ⟨3, 1, .ro, false⟩
def F.RL_FAULT_timebase : Fld := ⟨2, 1, .ro, false⟩
def F.RL_FAULT_hoist : Fld := ⟨1, 1, .ro, false⟩
def F.RL_FAULT_bin : Fld := ⟨0, 1, .ro, false⟩
def F.RL_FENCE_om_c : Fld := ⟨44, 1, .ro, false⟩
def F.RL_FENCE_om_ab : Fld := ⟨43, 1, .ro, false⟩
def F.RL_FENCE_lode_q : Fld := ⟨39, 4, .ro, false⟩
def F.RL_FENCE_seam_ch : Fld := ⟨34, 5, .ro, false⟩
def F.RL_FENCE_plane_b : Fld := ⟨33, 1, .ro, false⟩
def F.RL_FENCE_plane_a : Fld := ⟨32, 1, .ro, false⟩
def F.RL_FENCE_gallery : Fld := ⟨0, 26, .ro, false⟩
def F.RL_FORCE_go : Fld := ⟨31, 1, .xpwo, false⟩
def F.RL_FORCE_busy : Fld := ⟨30, 1, .ro, false⟩
def F.RL_FORCE_err : Fld := ⟨29, 1, .rw1c, false⟩
def F.RL_FORCE_kind : Fld := ⟨24, 2, .xp, false⟩
def F.RL_FORCE_ret : Fld := ⟨16, 1, .xp, false⟩
def F.RL_FORCE_unit : Fld := ⟨0, 5, .xp, false⟩
def F.RL_GALSTAT_relief : Fld := ⟨32, 26, .ro, false⟩
def F.RL_GALSTAT_active : Fld := ⟨0, 26, .ro, false⟩
def F.RL_PHASE_vcg : Fld := ⟨24, 5, .ro, false⟩
def F.RL_PHASE_vcf : Fld := ⟨20, 4, .ro, false⟩
def F.RL_PHASE_vsr : Fld := ⟨16, 4, .ro, false⟩
def F.RL_PHASE_vdq : Fld := ⟨12, 4, .ro, false⟩
def F.RL_PHASE_vsd : Fld := ⟨8, 4, .ro, false⟩
def F.RL_PHASE_vsv : Fld := ⟨4, 4, .ro, false⟩
def F.RL_TKSTAT_dur_us : Fld := ⟨48, 16, .ro, true⟩
def F.RL_TKSTAT_cause : Fld := ⟨40, 8, .ro, false⟩
def F.RL_TKSTAT_step : Fld := ⟨37, 3, .ro, false⟩
def F.RL_TKSTAT_busy : Fld := ⟨36, 1, .ro, false⟩
def F.RL_TKSTAT_kind : Fld := ⟨34, 2, .ro, false⟩
def F.RL_TKSTAT_unit : Fld := ⟨29, 5, .ro, false⟩
def F.RL_TKSTAT_relief : Fld := ⟨24, 5, .ro, false⟩
def F.SM_AGCFG_stale : Fld := ⟨48, 16, .rc, true⟩
def F.SM_AGCFG_wait_max : Fld := ⟨32, 16, .rc, true⟩
def F.SM_AGCFG_mask : Fld := ⟨16, 1, .xp, false⟩
def F.SM_AGCFG_cap : Fld := ⟨0, 12, .xp, false⟩
def F.SM_AGCNT_bursts : Fld := ⟨0, 64, .rc, false⟩
def F.SM_CFG_dev_thr : Fld := ⟨24, 8, .xp, false⟩
def F.SM_CFG_dbl_c : Fld := ⟨16, 8, .xp, false⟩
def F.SM_CFG_pnr_exp : Fld := ⟨8, 4, .xp, false⟩
def F.SM_CFG_track_en : Fld := ⟨1, 1, .xp, false⟩
def F.SM_CFG_en : Fld := ⟨0, 1, .xp, false⟩
def F.SM_CHMAP_log3 : Fld := ⟨9, 3, .ro, false⟩
def F.SM_CHMAP_log2 : Fld := ⟨6, 3, .ro, false⟩
def F.SM_CHMAP_log1 : Fld := ⟨3, 3, .ro, false⟩
def F.SM_CHMAP_log0 : Fld := ⟨0, 3, .ro, false⟩
def F.SM_CHSTAT_corr : Fld := ⟨48, 16, .rc, true⟩
def F.SM_CHSTAT_uncorr : Fld := ⟨32, 16, .rc, true⟩
def F.SM_CHSTAT_temp_c : Fld := ⟨24, 8, .ro, false⟩
def F.SM_CHSTAT_dev_mark : Fld := ⟨13, 5, .ro, false⟩
def F.SM_CHSTAT_marked : Fld := ⟨12, 1, .ro, false⟩
def F.SM_CHSTAT_margin : Fld := ⟨4, 8, .ro, false⟩
def F.SM_CHSTAT_dbl : Fld := ⟨3, 1, .ro, false⟩
def F.SM_CHSTAT_state : Fld := ⟨0, 3, .ro, false⟩
def F.SM_RDCFG_act_thr : Fld := ⟨0, 16, .xp, false⟩
def F.SM_RDSTAT_nr_issued : Fld := ⟨32, 32, .rc, false⟩
def F.SM_RDSTAT_act_trig : Fld := ⟨16, 16, .rc, true⟩
def F.SM_RDSTAT_nr_full : Fld := ⟨0, 16, .rc, true⟩
def F.SM_SPARE_done : Fld := ⟨32, 30, .ro, false⟩
def F.SM_SPARE_err : Fld := ⟨7, 1, .rw1c, false⟩
def F.SM_SPARE_busy : Fld := ⟨6, 1, .ro, false⟩
def F.SM_SPARE_start : Fld := ⟨5, 1, .xpwo, false⟩
def F.SM_SPARE_src : Fld := ⟨0, 3, .xp, false⟩
def F.ST_AGE_age_lim : Fld := ⟨28, 4, .xp, false⟩
def F.ST_AGE_sweep_ms : Fld := ⟨0, 20, .xp, false⟩
def F.ST_DMAADDR_addr : Fld := ⟨6, 31, .xp, false⟩
def F.ST_DMACTL_count : Fld := ⟨45, 19, .xp, false⟩
def F.ST_DMACTL_index : Fld := ⟨26, 18, .xp, false⟩
def F.ST_DMACTL_tbl : Fld := ⟨9, 3, .xp, false⟩
def F.ST_DMACTL_lock : Fld := ⟨8, 1, .xp, false⟩
def F.ST_DMACTL_err : Fld := ⟨3, 1, .rw1c, false⟩
def F.ST_DMACTL_busy : Fld := ⟨2, 1, .ro, false⟩
def F.ST_DMACTL_op : Fld := ⟨1, 1, .xp, false⟩
def F.ST_DMACTL_start : Fld := ⟨0, 1, .xpwo, false⟩
def F.ST_DMASTAT_done : Fld := ⟨45, 19, .ro, false⟩
def F.ST_DMASTAT_skip_key : Fld := ⟨16, 16, .rc, true⟩
def F.ST_DMASTAT_lock_to : Fld := ⟨0, 1, .rw1c, false⟩
def F.ST_MOVE_hold_ms : Fld := ⟨48, 16, .xp, false⟩
def F.ST_MOVE_win_ms : Fld := ⟨32, 16, .xp, false⟩
def F.ST_MOVE_move_thr : Fld := ⟨0, 8, .xp, false⟩
def F.ST_MTR_cir : Fld := ⟨44, 20, .xp, false⟩
def F.ST_MTR_cbs : Fld := ⟨32, 12, .xp, false⟩
def F.ST_MTR_eir : Fld := ⟨12, 20, .xp, false⟩
def F.ST_MTR_ebs : Fld := ⟨0, 12, .xp, false⟩
def F.ST_PCFG_flood_base : Fld := ⟨48, 16, .xp, false⟩
def F.ST_PCFG_fid_zero : Fld := ⟨24, 1, .xp, false⟩
def F.ST_PCFG_fid_chunk : Fld := ⟨18, 6, .xp, false⟩
def F.ST_PCFG_sa_chunk : Fld := ⟨12, 6, .xp, false⟩
def F.ST_PCFG_da_chunk : Fld := ⟨6, 6, .xp, false⟩
def F.ST_PCFG_same_drop : Fld := ⟨1, 1, .xp, false⟩
def F.ST_PCFG_learn_en : Fld := ⟨0, 1, .xp, false⟩
def F.ST_PCNT_flood : Fld := ⟨32, 32, .rc, false⟩
def F.ST_PCNT_learned : Fld := ⟨0, 32, .rc, false⟩
def F.ST_PERR_par_cnt : Fld := ⟨48, 16, .rc, true⟩
def F.ST_PERR_bad : Fld := ⟨18, 1, .rw1c, false⟩
def F.ST_PERR_set : Fld := ⟨2, 16, .ro, false⟩
def F.ST_PERR_way : Fld := ⟨0, 2, .ro, false⟩
def F.ST_PMOV_moves : Fld := ⟨48, 16, .rc, true⟩
def F.ST_PMOV_ins_fail : Fld := ⟨32, 16, .rc, true⟩
def F.ST_PMOV_freeze : Fld := ⟨16, 16, .rc, true⟩
def F.ST_PMOV_learn_ovf : Fld := ⟨0, 16, .rc, true⟩
def F.ST_SPERR_par_cnt : Fld := ⟨24, 8, .rc, true⟩
def F.ST_SPERR_bad : Fld := ⟨16, 1, .rw1c, false⟩
def F.ST_SPERR_handle : Fld := ⟨0, 16, .ro, false⟩
def F.ST_SSTAT_inval : Fld := ⟨48, 16, .rc, true⟩
def F.ST_SSTAT_sdu_drop : Fld := ⟨32, 16, .rc, true⟩
def F.ST_SSTAT_gate_drop : Fld := ⟨16, 16, .rc, true⟩
def F.ST_SSTAT_red_drop : Fld := ⟨0, 16, .rc, true⟩
def F.SY_BOOT_ready_ms : Fld := ⟨48, 16, .ro, false⟩
def F.SY_BOOT_fail : Fld := ⟨40, 8, .ro, false⟩
def F.SY_BOOT_stage : Fld := ⟨32, 8, .ro, false⟩
def F.SY_BOOT_sec_ver : Fld := ⟨24, 8, .ro, false⟩
def F.SY_BOOT_fuse_ver : Fld := ⟨16, 8, .ro, false⟩
def F.SY_BOOT_boot_sel : Fld := ⟨7, 1, .ro, false⟩
def F.SY_BOOT_warm : Fld := ⟨6, 1, .ro, false⟩
def F.SY_BOOT_fallback : Fld := ⟨5, 1, .ro, false⟩
def F.SY_BOOT_slot : Fld := ⟨4, 1, .ro, false⟩
def F.SY_BOOT_calib_def : Fld := ⟨3, 1, .ro, false⟩
def F.SY_BOOT_calib_half : Fld := ⟨2, 1, .ro, false⟩
def F.SY_BUSERR_unmapped : Fld := ⟨48, 16, .rc, true⟩
def F.SY_BUSERR_width : Fld := ⟨40, 8, .rc, true⟩
def F.SY_BUSERR_fenced : Fld := ⟨32, 8, .rc, true⟩
def F.SY_BUSERR_last_src : Fld := ⟨29, 3, .ro, true⟩
def F.SY_BUSERR_last_off : Fld := ⟨0, 26, .ro, true⟩
def F.SY_IDENT_rev_letter : Fld := ⟨24, 8, .ro, false⟩
def F.SY_IDENT_rev_digit : Fld := ⟨16, 8, .ro, false⟩
def F.SY_IDENT_fw_major : Fld := ⟨8, 8, .ro, false⟩
def F.SY_IDENT_fw_minor : Fld := ⟨0, 8, .ro, false⟩
def F.SY_RST_warm_ign : Fld := ⟨16, 16, .rc, true⟩
def F.SY_RST_warm : Fld := ⟨0, 1, .xpwo, false⟩
def F.TK_CFG_err : Fld := ⟨1, 1, .rw1c, false⟩
def F.TK_CFG_rec_all : Fld := ⟨0, 1, .xp, false⟩
def F.TK_CHAN_gal_mask : Fld := ⟨38, 26, .xp, false⟩
def F.TK_CHAN_count : Fld := ⟨16, 7, .ro, false⟩
def F.TK_CHAN_depth : Fld := ⟨0, 7, .xp, false⟩
def F.TK_DOLCFG_en : Fld := ⟨31, 1, .xp, false⟩
def F.TK_DOLCFG_esc_ms : Fld := ⟨16, 8, .xp, false⟩
def F.TK_DOLCFG_thr_us : Fld := ⟨0, 16, .xp, false⟩
def F.TK_DOLSTAT_fire_cnt : Fld := ⟨48, 16, .rc, true⟩
def F.TK_DOLSTAT_esc_cnt : Fld := ⟨32, 16, .rc, true⟩
def F.TK_DOLSTAT_escalated : Fld := ⟨16, 8, .ro, false⟩
def F.TK_DOLSTAT_fired : Fld := ⟨0, 8, .rw1c, false⟩
def F.TK_FREL_lock : Fld := ⟨0, 12, .xpwo, false⟩
def F.TK_GRP_gal_mask : Fld := ⟨38, 26, .xp, false⟩
def F.TK_GRP_en : Fld := ⟨6, 1, .xp, false⟩
def F.TK_GRP_rank : Fld := ⟨0, 6, .xp, false⟩
def F.TK_LOCK_waiters : Fld := ⟨40, 12, .ro, false⟩
def F.TK_LOCK_gallery : Fld := ⟨35, 5, .ro, false⟩
def F.TK_LOCK_job_slot : Fld := ⟨24, 11, .ro, false⟩
def F.TK_LOCK_job_held : Fld := ⟨23, 1, .ro, false⟩
def F.TK_LOCK_owner : Fld := ⟨12, 11, .ro, false⟩
def F.TK_LOCK_abandoned : Fld := ⟨1, 1, .ro, false⟩
def F.TK_LOCK_held : Fld := ⟨0, 1, .ro, false⟩
def F.TK_RREC0_lo : Fld := ⟨0, 64, .ro, false⟩
def F.TK_RREC1_hi : Fld := ⟨0, 64, .ro, false⟩
def F.TK_RSTAT_rec_lost : Fld := ⟨16, 16, .rc, true⟩
def F.TK_RSTAT_depth : Fld := ⟨0, 9, .ro, false⟩
def F.TK_STAT_rank_flt : Fld := ⟨48, 16, .rc, true⟩
def F.TK_STAT_denied : Fld := ⟨36, 12, .rc, true⟩
def F.TK_STAT_bad_arg : Fld := ⟨24, 12, .rc, true⟩
def F.TK_STAT_no_room : Fld := ⟨16, 8, .rc, true⟩
def F.TK_STAT_stage_drop : Fld := ⟨8, 8, .rc, true⟩
def F.TK_WGRP_group : Fld := ⟨0, 24, .xp, false⟩
def F.TL_LIM_rate : Fld := ⟨16, 16, .xp, false⟩
def F.TL_LIM_burst : Fld := ⟨0, 16, .xp, false⟩
def F.TL_LOST_suppressed : Fld := ⟨32, 32, .rc, false⟩
def F.TL_LOST_q_lost : Fld := ⟨16, 16, .rc, true⟩
def F.TL_LOST_torn : Fld := ⟨0, 16, .rc, true⟩
def F.TL_STAT_next_idx : Fld := ⟨32, 32, .ro, false⟩
def F.TL_STAT_first_cnt : Fld := ⟨15, 17, .ro, false⟩
def F.TL_STAT_bad_blk : Fld := ⟨3, 12, .ro, false⟩
def F.TL_STAT_first_short : Fld := ⟨2, 1, .ro, false⟩
def F.TL_STAT_short : Fld := ⟨1, 1, .ro, false⟩
def F.TL_STAT_open : Fld := ⟨0, 1, .ro, false⟩
def F.TL_WEAR_erase_max : Fld := ⟨0, 32, .ro, false⟩
def F.XC_CAPIDX_wr_idx : Fld := ⟨32, 32, .ro, false⟩
def F.XC_CAPIDX_rd_idx : Fld := ⟨0, 32, .xp, false⟩
def F.XC_CAPRING_size_log2 : Fld := ⟨58, 6, .xp, false⟩
def F.XC_CAPRING_base : Fld := ⟨12, 25, .xp, false⟩
def F.XC_CAPRING_wrap : Fld := ⟨1, 1, .xp, false⟩
def F.XC_CAPRING_en : Fld := ⟨0, 1, .xp, false⟩
def F.XC_CAPSTAT_written : Fld := ⟨32, 32, .rc, false⟩
def F.XC_CAPSTAT_lost : Fld := ⟨0, 32, .rc, false⟩
def F.XC_CFG_tune_ms : Fld := ⟨16, 16, .xp, false⟩
def F.XC_CFG_fenced_b : Fld := ⟨3, 1, .ro, false⟩
def F.XC_CFG_fenced_a : Fld := ⟨2, 1, .ro, false⟩
def F.XC_CFG_en : Fld := ⟨0, 1, .xp, false⟩
def F.XC_COL_occ_max : Fld := ⟨32, 15, (.mark 0 15), false⟩
def F.XC_COL_occ : Fld := ⟨16, 15, .ro, false⟩
def F.XC_COL_dflt_psel : Fld := ⟨0, 2, .xp, false⟩
def F.XC_ERR_cmpl_in : Fld := ⟨48, 16, .rc, true⟩
def F.XC_ERR_cmpl_eg : Fld := ⟨32, 16, .rc, true⟩
def F.XC_ERR_bad_col : Fld := ⟨16, 16, .rc, true⟩
def F.XC_ERR_desc_full : Fld := ⟨0, 16, .rc, true⟩
def F.XC_LENERR_long_drop : Fld := ⟨16, 16, .rc, true⟩
def F.XC_LENERR_short_pad : Fld := ⟨0, 16, .rc, true⟩
def F.XC_GRP_valid : Fld := ⟨63, 1, .xp, false⟩
def F.XC_GRP_excl_in : Fld := ⟨62, 1, .xp, false⟩
def F.XC_GRP_host : Fld := ⟨61, 1, .xp, false⟩
def F.XC_GRP_overman : Fld := ⟨60, 1, .xp, false⟩
def F.XC_GRP_qp : Fld := ⟨50, 10, .xp, false⟩
def F.XC_GRP_par : Fld := ⟨49, 1, .ro, false⟩
def F.XC_GRP_ports : Fld := ⟨0, 32, .xp, false⟩
def F.XC_MIRCNT_copies : Fld := ⟨32, 32, .rc, false⟩
def F.XC_MIRCNT_dropped : Fld := ⟨0, 32, .rc, false⟩
def F.XC_MIRSES_en : Fld := ⟨63, 1, .xp, false⟩
def F.XC_MIRSES_sample : Fld := ⟨48, 15, .xp, false⟩
def F.XC_MIRSES_trunc : Fld := ⟨40, 8, .xp, false⟩
def F.XC_MIRSES_dport : Fld := ⟨33, 5, .xp, false⟩
def F.XC_MIRSES_to_cap : Fld := ⟨32, 1, .xp, false⟩
def F.XC_MIRSES_queue : Fld := ⟨0, 3, .xp, false⟩
def F.XC_PCNT_mc_part : Fld := ⟨48, 16, .rc, true⟩
def F.XC_PCNT_link_drop : Fld := ⟨32, 16, .rc, true⟩
def F.XC_PCNT_hold_drop : Fld := ⟨16, 16, .rc, true⟩
def F.XC_PCNT_thr_drop : Fld := ⟨0, 16, .rc, true⟩
def F.XC_PLLOST_lost : Fld := ⟨0, 32, .rc, false⟩
def F.XC_PLMAP_map : Fld := ⟨0, 64, .xp, false⟩
def F.XC_PLMOVE_moving : Fld := ⟨0, 64, .ro, false⟩
def F.XC_PORT_wd_drop : Fld := ⟨48, 16, .rc, true⟩
def F.XC_PORT_queued : Fld := ⟨24, 24, .ro, false⟩
def F.XC_PORT_emir : Fld := ⟨20, 4, .xp, false⟩
def F.XC_PORT_imir : Fld := ⟨16, 4, .xp, false⟩
def F.XC_PORT_hstate : Fld := ⟨12, 2, .ro, false⟩
def F.XC_PORT_hold_ms : Fld := ⟨0, 4, .xp, false⟩
def F.XC_RESLIM_res_us : Fld := ⟨0, 16, .xp, false⟩
def F.XC_ROWREF_refused_c : Fld := ⟨0, 64, .rc, true⟩
def F.XC_ROWSTAT_refused : Fld := ⟨48, 16, .rc, true⟩
def F.XC_ROWSTAT_free_min : Fld := ⟨16, 15, (.mark 0 15), false⟩
def F.XC_ROWSTAT_free : Fld := ⟨0, 15, .ro, false⟩
def F.XC_ROWTHR_alpha_exp : Fld := ⟨32, 32, .xp, false⟩
def F.XC_ROWTHR_min_cells : Fld := ⟨16, 16, .xp, false⟩
def F.XC_ROWTHR_auto : Fld := ⟨8, 8, .xp, false⟩

end Sys2Proof.Machine
end

