-- ==== Sys2Proof/Machine/RegTable.lean ====
section
/-!
DEFINITION. The register index R513 as a table: which register, if any, an offset names (R507 to R510),
with its width and its fields.
-/

namespace Sys2Proof.Machine

/-- The registers of R513 by name. -/
inductive RegId
  | AS_EDDYCFG
  | AS_EDDYSTAT
  | AS_EXCCFG
  | AS_EXCCNT
  | AS_KSEL
  | AS_PCFG
  | AS_PSTAT
  | AS_RCMD
  | AS_RSTAT
  | AS_RVER
  | BG_AGE
  | BG_CFG
  | BG_KA
  | BG_LIFE
  | BG_SCRUB
  | BN_BAD
  | BN_ERR
  | BN_QUOTA
  | BN_ROWCFG
  | BN_ROWSTAT
  | CG_CTL
  | CG_GRANT
  | CG_RIGHTS
  | CG_DOOR
  | CG_EVIDX
  | CG_EVLOST
  | CG_GSTAT
  | CG_STAT
  | CK_ISLCFG
  | CK_ISLSTAT
  | TB_CTL
  | TB_FREQ
  | TB_NOW_HI
  | TB_NOW_LO
  | TB_PPS
  | TB_STAT
  | TB_STEP
  | TB_TICK
  | TB_UTC
  | DB_BP
  | DB_CTL
  | DB_GTRCFG
  | DB_GTRCTL
  | DB_GTRRING
  | DB_GTRSTAT
  | DB_STAT
  | DB_TCMD
  | DB_WP
  | DR_AFF
  | DR_CFG
  | DR_CHIST
  | DR_CLOAD
  | DR_CQ
  | DR_GSTAT
  | DR_HTO
  | DR_PCNT
  | DR_PSTAT
  | DR_TCTL
  | DR_TRCTL
  | DR_TRRING
  | DR_TRSTAT
  | DR_TWIN
  | GL_CCTL
  | GL_CTL
  | GL_ECC
  | GL_FREC0
  | GL_FREC1
  | GL_FREC2
  | GL_ROSE0
  | GL_ROSE1
  | GL_ROSECTL
  | GL_ROSELIVE0
  | GL_ROSELIVE1
  | GL_SMBASE
  | GL_STAT
  | GL_SUPTO
  | GL_TCTL
  | GL_TSOFT
  | GL_TSTAT
  | GL_CP2CFG
  | GL_CP2STAT
  | GL_CPSTAT
  | GL_FCCTL
  | GL_FCID
  | GL_FCINFO
  | GL_FCLOAD
  | GL_FCSTAT
  | GL_GENCMD
  | GL_GENSTAT
  | HI_BAR2
  | HI_CFG
  | HI_ERR
  | HI_LINK
  | HI_QCFG
  | HI_QCNT
  | HI_QIDX
  | HI_QITR
  | HI_QRXBASE
  | HI_QSTAT
  | HI_QTXBASE
  | HO_CFG
  | HO_CNT
  | HO_DOMSEL
  | HO_DOMSTAT
  | HO_ERR
  | HO_LATE
  | HO_OCC
  | HO_PART
  | HO_VCNT0
  | HO_VCNT1
  | LD_ANQ0
  | LD_ANQ1
  | LD_ANSTAT
  | LD_CFG
  | LD_ECC
  | LD_EXPIDX
  | LD_EXPRING
  | LD_EXPSTAT
  | LD_KIND
  | LD_OCC
  | LD_QSTAT
  | LD_REPAIR
  | LD_STAT
  | LD_SWCMD
  | LD_SWEEP
  | LD_TDEF
  | LD_TMO
  | PH_BIND
  | PH_CFG
  | PH_OCNT
  | PH_OUT
  | PH_STAT
  | PT_GCLBASE
  | PT_GCLCTL
  | PT_PCFG
  | PT_PSTAT
  | PT_QSCH
  | PT_RED
  | PT_TMR
  | PT_TSDLY
  | PW_CFG
  | PW_DOM
  | PW_LSHED
  | PW_LSTAT
  | PW_THERM
  | PW_TLIM
  | PW_VMON
  | RL_ALARM
  | RL_ALMASK
  | RL_CNT
  | RL_CTL
  | RL_FAULT
  | RL_FENCE
  | RL_FORCE
  | RL_GALSTAT
  | RL_PHASE
  | RL_TKSTAT
  | SM_AGCFG
  | SM_AGCNT
  | SM_CFG
  | SM_CHMAP
  | SM_CHSTAT
  | SM_RDCFG
  | SM_RDSTAT
  | SM_SPARE
  | ST_AGE
  | ST_DMAADDR
  | ST_DMACTL
  | ST_DMASTAT
  | ST_MOVE
  | ST_MTR
  | ST_PCFG
  | ST_PCNT
  | ST_PERR
  | ST_PMOV
  | ST_SPERR
  | ST_SSTAT
  | SY_BOOT
  | SY_BUSERR
  | SY_IDENT
  | SY_RST
  | TK_CFG
  | TK_CHAN
  | TK_DOLCFG
  | TK_DOLSTAT
  | TK_FREL
  | TK_GRP
  | TK_LOCK
  | TK_RREC0
  | TK_RREC1
  | TK_RSTAT
  | TK_STAT
  | TK_WGRP
  | TL_LIM
  | TL_LOST
  | TL_STAT
  | TL_WEAR
  | XC_CAPIDX
  | XC_CAPRING
  | XC_CAPSTAT
  | XC_CFG
  | XC_COL
  | XC_ERR
  | XC_LENERR
  | XC_GRP
  | XC_MIRCNT
  | XC_MIRSES
  | XC_PCNT
  | XC_PLLOST
  | XC_PLMAP
  | XC_PLMOVE
  | XC_PORT
  | XC_RESLIM
  | XC_ROWREF
  | XC_ROWSTAT
  | XC_ROWTHR
  deriving DecidableEq, Repr

def Row.AS_EDDYCFG : RegRow := ⟨0x400200, [], false, [F.AS_EDDYCFG_credit]⟩
def Row.AS_EDDYSTAT : RegRow := ⟨0x400208, [], true, [F.AS_EDDYSTAT_full_drop, F.AS_EDDYSTAT_pass_drop, F.AS_EDDYSTAT_in_use]⟩
def Row.AS_EXCCFG : RegRow := ⟨0x406000, [(0x8, 256)], true, [F.AS_EXCCFG_rate, F.AS_EXCCFG_burst, F.AS_EXCCFG_target, F.AS_EXCCFG_qp, F.AS_EXCCFG_template]⟩
def Row.AS_EXCCNT : RegRow := ⟨0x407000, [(0x8, 256)], true, [F.AS_EXCCNT_passed, F.AS_EXCCNT_dropped]⟩
def Row.AS_KSEL : RegRow := ⟨0x404000, [(0x400, 2), (0x80, 8), (0x4, 32)], false, [F.AS_KSEL_zero, F.AS_KSEL_src]⟩
def Row.AS_PCFG : RegRow := ⟨0x400100, [(0x20, 4)], false, [F.AS_PCFG_step_max, F.AS_PCFG_eddy_w, F.AS_PCFG_host_w]⟩
def Row.AS_PSTAT : RegRow := ⟨0x400108, [(0x20, 4)], true, [F.AS_PSTAT_in_cnt, F.AS_PSTAT_fail_cnt, F.AS_PSTAT_ovf_cnt]⟩
def Row.AS_RCMD : RegRow := ⟨0x400010, [], false, [F.AS_RCMD_start, F.AS_RCMD_busy, F.AS_RCMD_op, F.AS_RCMD_flag, F.AS_RCMD_err, F.AS_RCMD_index]⟩
def Row.AS_RSTAT : RegRow := ⟨0x400020, [], true, [F.AS_RSTAT_ver_forced, F.AS_RSTAT_live_wr, F.AS_RSTAT_bad, F.AS_RSTAT_bad_idx]⟩
def Row.AS_RVER : RegRow := ⟨0x400000, [], true, [F.AS_RVER_prev_cnt, F.AS_RVER_cur_ver, F.AS_RVER_prev_ver, F.AS_RVER_prev_live, F.AS_RVER_cur_slot, F.AS_RVER_stage_ready, F.AS_RVER_retire, F.AS_RVER_err, F.AS_RVER_commit]⟩
def Row.BG_AGE : RegRow := ⟨0x1100010, [], false, [F.BG_AGE_slow_max, F.BG_AGE_margin_mv]⟩
def Row.BG_CFG : RegRow := ⟨0x1100000, [], false, [F.BG_CFG_nor_en, F.BG_CFG_ddr_en, F.BG_CFG_lode_en, F.BG_CFG_table_en, F.BG_CFG_sram_en]⟩
def Row.BG_KA : RegRow := ⟨0x1100020, [], false, [F.BG_KA_cal_lost, F.BG_KA_ka_valid]⟩
def Row.BG_LIFE : RegRow := ⟨0x1100018, [], true, [F.BG_LIFE_life_ppm, F.BG_LIFE_powered_h]⟩
def Row.BG_SCRUB : RegRow := ⟨0x1100008, [], true, [F.BG_SCRUB_corr, F.BG_SCRUB_uncorr, F.BG_SCRUB_pass_late, F.BG_SCRUB_nor_bad]⟩
def Row.BN_BAD : RegRow := ⟨0xA00208, [], true, [F.BN_BAD_req, F.BN_BAD_tag, F.BN_BAD_ptr]⟩
def Row.BN_ERR : RegRow := ⟨0xA00200, [], true, [F.BN_ERR_ptr_range, F.BN_ERR_owner_err, F.BN_ERR_dbl_free, F.BN_ERR_link_fault]⟩
def Row.BN_QUOTA : RegRow := ⟨0xA01000, [(0x80, 34), (0x8, 12)], true, [F.BN_QUOTA_used, F.BN_QUOTA_limit]⟩
def Row.BN_ROWCFG : RegRow := ⟨0xA00000, [(0x20, 12)], true, [F.BN_ROWCFG_c7_cells, F.BN_ROWCFG_xon_free, F.BN_ROWCFG_xoff_free]⟩
def Row.BN_ROWSTAT : RegRow := ⟨0xA00008, [(0x20, 12)], true, [F.BN_ROWSTAT_no_cell, F.BN_ROWSTAT_rebuild, F.BN_ROWSTAT_reserved_cnt, F.BN_ROWSTAT_free_min, F.BN_ROWSTAT_free]⟩
def Row.CG_CTL : RegRow := ⟨0xE00000, [], false, [F.CG_CTL_can_to]⟩
def Row.CG_GRANT : RegRow := ⟨0xE00010, [(0x8, 4)], true, [F.CG_GRANT_lease_end, F.CG_GRANT_valid, F.CG_GRANT_fn]⟩
def Row.CG_RIGHTS : RegRow := ⟨0xE00100, [(0x4, 64)], false, [F.CG_RIGHTS_expert_ok, F.CG_RIGHTS_queue, F.CG_RIGHTS_change, F.CG_RIGHTS_read]⟩
def Row.CG_DOOR : RegRow := ⟨0x100000000, [(0x4000, 64)], false, [F.CG_DOOR_go]⟩
def Row.CG_EVIDX : RegRow := ⟨0x100000018, [(0x4000, 64)], false, [F.CG_EVIDX_ev_wr, F.CG_EVIDX_ev_rd]⟩
def Row.CG_EVLOST : RegRow := ⟨0x100000020, [(0x4000, 64)], false, [F.CG_EVLOST_lost]⟩
def Row.CG_GSTAT : RegRow := ⟨0x100000010, [(0x4000, 64)], false, [F.CG_GSTAT_rights, F.CG_GSTAT_om, F.CG_GSTAT_alarm, F.CG_GSTAT_fault, F.CG_GSTAT_expert, F.CG_GSTAT_dev_state]⟩
def Row.CG_STAT : RegRow := ⟨0x100000008, [(0x4000, 64)], false, [F.CG_STAT_tag, F.CG_STAT_db_ref, F.CG_STAT_err, F.CG_STAT_done, F.CG_STAT_busy]⟩
def Row.CK_ISLCFG : RegRow := ⟨0x200000, [(0x10, 100)], false, [F.CK_ISLCFG_gate_req, F.CK_ISLCFG_freq_req]⟩
def Row.CK_ISLSTAT : RegRow := ⟨0x200008, [(0x10, 100)], false, [F.CK_ISLSTAT_xerr_cnt, F.CK_ISLSTAT_gated, F.CK_ISLSTAT_lock, F.CK_ISLSTAT_freq_mhz]⟩
def Row.TB_CTL : RegRow := ⟨0x208010, [], false, [F.TB_CTL_revert, F.TB_CTL_step_en, F.TB_CTL_pps_force, F.TB_CTL_pps_out_en, F.TB_CTL_ref_out_en, F.TB_CTL_irig_ext, F.TB_CTL_tsrc, F.TB_CTL_refb_25, F.TB_CTL_refa_25, F.TB_CTL_fsrc, F.TB_CTL_lock_cnt, F.TB_CTL_lock_thr]⟩
def Row.TB_FREQ : RegRow := ⟨0x208028, [], false, [F.TB_FREQ_steer]⟩
def Row.TB_NOW_HI : RegRow := ⟨0x208008, [], false, [F.TB_NOW_HI_sec_hi]⟩
def Row.TB_NOW_LO : RegRow := ⟨0x208000, [], true, [F.TB_NOW_LO_sec_lo, F.TB_NOW_LO_ns, F.TB_NOW_LO_frac]⟩
def Row.TB_PPS : RegRow := ⟨0x208038, [], false, [F.TB_PPS_pps_in_dly, F.TB_PPS_pps_width]⟩
def Row.TB_STAT : RegRow := ⟨0x208018, [], false, [F.TB_STAT_hold_min, F.TB_STAT_ptp_qual, F.TB_STAT_step_cnt, F.TB_STAT_hold_valid, F.TB_STAT_oven_ready, F.TB_STAT_pps_qual, F.TB_STAT_irig_qual, F.TB_STAT_refb_qual, F.TB_STAT_refa_qual, F.TB_STAT_fsel, F.TB_STAT_step_ref, F.TB_STAT_state]⟩
def Row.TB_STEP : RegRow := ⟨0x208020, [], true, [F.TB_STEP_offset]⟩
def Row.TB_TICK : RegRow := ⟨0x208040, [], false, [F.TB_TICK_tick_exp]⟩
def Row.TB_UTC : RegRow := ⟨0x208030, [], true, [F.TB_UTC_leap_tai, F.TB_UTC_leap, F.TB_UTC_utc_offset]⟩
def Row.DB_BP : RegRow := ⟨0x1300100, [(0x8, 16)], true, [F.DB_BP_en, F.DB_BP_gal, F.DB_BP_cores, F.DB_BP_threads, F.DB_BP_pc]⟩
def Row.DB_CTL : RegRow := ⟨0x1300000, [], false, [F.DB_CTL_lim_freeze]⟩
def Row.DB_GTRCFG : RegRow := ⟨0x1300218, [], false, [F.DB_GTRCFG_gal, F.DB_GTRCFG_ev_mask, F.DB_GTRCFG_wrap, F.DB_GTRCFG_en]⟩
def Row.DB_GTRCTL : RegRow := ⟨0x1300200, [], true, [F.DB_GTRCTL_thr_mask]⟩
def Row.DB_GTRRING : RegRow := ⟨0x1300208, [], true, [F.DB_GTRRING_size_log2, F.DB_GTRRING_base]⟩
def Row.DB_GTRSTAT : RegRow := ⟨0x1300210, [], true, [F.DB_GTRSTAT_wr_idx, F.DB_GTRSTAT_lost]⟩
def Row.DB_STAT : RegRow := ⟨0x1300008, [], false, [F.DB_STAT_ref_cnt, F.DB_STAT_fail_cnt, F.DB_STAT_nonce, F.DB_STAT_unlocked]⟩
def Row.DB_TCMD : RegRow := ⟨0x1300010, [], false, [F.DB_TCMD_op, F.DB_TCMD_all, F.DB_TCMD_thread]⟩
def Row.DB_WP : RegRow := ⟨0x1300180, [(0x8, 8)], true, [F.DB_WP_en, F.DB_WP_gal, F.DB_WP_kind, F.DB_WP_size_log2, F.DB_WP_addr]⟩
def Row.DR_AFF : RegRow := ⟨0x601000, [(0x400, 4), (0x4, 256)], false, [F.DR_AFF_valid, F.DR_AFF_gallery]⟩
def Row.DR_CFG : RegRow := ⟨0x600000, [], false, [F.DR_CFG_c7_slots, F.DR_CFG_twin_en, F.DR_CFG_adm_en]⟩
def Row.DR_CHIST : RegRow := ⟨0x620110, [(0x400, 26), (0x40, 8), (0x8, 4)], true, [F.DR_CHIST_bin_3, F.DR_CHIST_bin_2, F.DR_CHIST_bin_1, F.DR_CHIST_bin_0]⟩
def Row.DR_CLOAD : RegRow := ⟨0x620108, [(0x400, 26), (0x40, 8)], true, [F.DR_CLOAD_used, F.DR_CLOAD_cycles]⟩
def Row.DR_CQ : RegRow := ⟨0x620100, [(0x400, 26), (0x40, 8)], false, [F.DR_CQ_q_max, F.DR_CQ_busy, F.DR_CQ_q_depth]⟩
def Row.DR_GSTAT : RegRow := ⟨0x620000, [(0x400, 26)], true, [F.DR_GSTAT_dly_full, F.DR_GSTAT_late, F.DR_GSTAT_dly_max, F.DR_GSTAT_drain]⟩
def Row.DR_HTO : RegRow := ⟨0x600008, [], false, [F.DR_HTO_hto_us]⟩
def Row.DR_PCNT : RegRow := ⟨0x600108, [(0x20, 4)], true, [F.DR_PCNT_admitted, F.DR_PCNT_twin_single, F.DR_PCNT_tmpl_off]⟩
def Row.DR_PSTAT : RegRow := ⟨0x600100, [(0x20, 4)], true, [F.DR_PSTAT_no_slot, F.DR_PSTAT_no_ticket, F.DR_PSTAT_no_quota, F.DR_PSTAT_q7_depth, F.DR_PSTAT_q_depth]⟩
def Row.DR_TCTL : RegRow := ⟨0x603000, [(0x8, 256)], true, [F.DR_TCTL_live, F.DR_TCTL_wr_ref, F.DR_TCTL_bad, F.DR_TCTL_en]⟩
def Row.DR_TRCTL : RegRow := ⟨0x600200, [], true, [F.DR_TRCTL_gal_mask, F.DR_TRCTL_tmpl, F.DR_TRCTL_tmpl_any, F.DR_TRCTL_ev_mask, F.DR_TRCTL_wrap, F.DR_TRCTL_en]⟩
def Row.DR_TRRING : RegRow := ⟨0x600208, [], true, [F.DR_TRRING_size_log2, F.DR_TRRING_base]⟩
def Row.DR_TRSTAT : RegRow := ⟨0x600210, [], true, [F.DR_TRSTAT_wr_idx, F.DR_TRSTAT_lost]⟩
def Row.DR_TWIN : RegRow := ⟨0x602000, [(0x4, 26)], false, [F.DR_TWIN_en, F.DR_TWIN_partner]⟩
def Row.GL_CCTL : RegRow := ⟨0x2001028, [(0x80000, 26), (0x100, 8)], false, [F.GL_CCTL_sup_entry, F.GL_CCTL_vec_base]⟩
def Row.GL_CTL : RegRow := ⟨0x2000000, [(0x80000, 26)], false, [F.GL_CTL_core_rst, F.GL_CTL_gal_rst, F.GL_CTL_sup_run]⟩
def Row.GL_ECC : RegRow := ⟨0x2000038, [(0x80000, 26)], false, [F.GL_ECC_corr, F.GL_ECC_uncorr]⟩
def Row.GL_FREC0 : RegRow := ⟨0x2000010, [(0x80000, 26)], true, [F.GL_FREC0_lo]⟩
def Row.GL_FREC1 : RegRow := ⟨0x2000018, [(0x80000, 26)], true, [F.GL_FREC1_mid]⟩
def Row.GL_FREC2 : RegRow := ⟨0x2000020, [(0x80000, 26)], true, [F.GL_FREC2_hi]⟩
def Row.GL_ROSE0 : RegRow := ⟨0x2001000, [(0x80000, 26), (0x100, 8)], true, [F.GL_ROSE0_ent]⟩
def Row.GL_ROSE1 : RegRow := ⟨0x2001008, [(0x80000, 26), (0x100, 8)], true, [F.GL_ROSE1_ent]⟩
def Row.GL_ROSECTL : RegRow := ⟨0x2001020, [(0x80000, 26), (0x100, 8)], false, [F.GL_ROSECTL_err, F.GL_ROSECTL_pending, F.GL_ROSECTL_commit]⟩
def Row.GL_ROSELIVE0 : RegRow := ⟨0x2001010, [(0x80000, 26), (0x100, 8)], true, [F.GL_ROSELIVE0_ent]⟩
def Row.GL_ROSELIVE1 : RegRow := ⟨0x2001018, [(0x80000, 26), (0x100, 8)], true, [F.GL_ROSELIVE1_ent]⟩
def Row.GL_SMBASE : RegRow := ⟨0x2000030, [(0x80000, 26)], false, [F.GL_SMBASE_win]⟩
def Row.GL_STAT : RegRow := ⟨0x2000008, [(0x80000, 26)], false, [F.GL_STAT_f_lost, F.GL_STAT_f_depth, F.GL_STAT_state]⟩
def Row.GL_SUPTO : RegRow := ⟨0x2000028, [(0x80000, 26)], false, [F.GL_SUPTO_sup_to]⟩
def Row.GL_TCTL : RegRow := ⟨0x2001040, [(0x80000, 26), (0x100, 8), (0x8, 8)], false, [F.GL_TCTL_rst, F.GL_TCTL_kill, F.GL_TCTL_ddr_win, F.GL_TCTL_prio, F.GL_TCTL_imask]⟩
def Row.GL_TSOFT : RegRow := ⟨0x2000040, [(0x80000, 26)], false, [F.GL_TSOFT_thread]⟩
def Row.GL_TSTAT : RegRow := ⟨0x2001080, [(0x80000, 26), (0x100, 8), (0x8, 8)], true, [F.GL_TSTAT_epoch, F.GL_TSTAT_pend, F.GL_TSTAT_in_hnd, F.GL_TSTAT_pc, F.GL_TSTAT_node, F.GL_TSTAT_job_slot, F.GL_TSTAT_state]⟩
def Row.GL_CP2CFG : RegRow := ⟨0x2020008, [(0x80000, 26)], false, [F.GL_CP2CFG_cp2_to]⟩
def Row.GL_CP2STAT : RegRow := ⟨0x2020010, [(0x80000, 26)], false, [F.GL_CP2STAT_to_cnt, F.GL_CP2STAT_in_flight, F.GL_CP2STAT_max]⟩
def Row.GL_CPSTAT : RegRow := ⟨0x2020000, [(0x80000, 26)], true, [F.GL_CPSTAT_refused, F.GL_CPSTAT_late, F.GL_CPSTAT_orphan, F.GL_CPSTAT_late_lost]⟩
def Row.GL_FCCTL : RegRow := ⟨0x2020100, [(0x80000, 26)], false, [F.GL_FCCTL_load, F.GL_FCCTL_clear, F.GL_FCCTL_face_div, F.GL_FCCTL_auto_restart, F.GL_FCCTL_run, F.GL_FCCTL_face_to]⟩
def Row.GL_FCID : RegRow := ⟨0x2020118, [(0x80000, 26)], true, [F.GL_FCID_user_id]⟩
def Row.GL_FCINFO : RegRow := ⟨0x2020120, [(0x80000, 26)], true, [F.GL_FCINFO_fn_mask, F.GL_FCINFO_res_mask, F.GL_FCINFO_fmax_mhz]⟩
def Row.GL_FCLOAD : RegRow := ⟨0x2020110, [(0x80000, 26)], true, [F.GL_FCLOAD_addr]⟩
def Row.GL_FCSTAT : RegRow := ⟨0x2020108, [(0x80000, 26)], true, [F.GL_FCSTAT_cfg_corr, F.GL_FCSTAT_cfg_uncorr, F.GL_FCSTAT_bad_tag, F.GL_FCSTAT_late_rsp, F.GL_FCSTAT_load_err, F.GL_FCSTAT_user_irq, F.GL_FCSTAT_state]⟩
def Row.GL_GENCMD : RegRow := ⟨0x2003000, [(0x80000, 26)], true, [F.GL_GENCMD_go, F.GL_GENCMD_busy, F.GL_GENCMD_dcol, F.GL_GENCMD_queue, F.GL_GENCMD_length, F.GL_GENCMD_src]⟩
def Row.GL_GENSTAT : RegRow := ⟨0x2003008, [(0x80000, 26)], true, [F.GL_GENSTAT_sent, F.GL_GENSTAT_dropped]⟩
def Row.HI_BAR2 : RegRow := ⟨0xD00018, [], false, [F.HI_BAR2_base, F.HI_BAR2_size_log2]⟩
def Row.HI_CFG : RegRow := ⟨0xD00000, [], false, [F.HI_CFG_host_wd_ms, F.HI_CFG_err, F.HI_CFG_ro_en, F.HI_CFG_en]⟩
def Row.HI_ERR : RegRow := ⟨0xD00010, [], true, [F.HI_ERR_db_bad, F.HI_ERR_rx_noq, F.HI_ERR_dma_err, F.HI_ERR_bar2_err]⟩
def Row.HI_LINK : RegRow := ⟨0xD00008, [], false, [F.HI_LINK_width, F.HI_LINK_speed, F.HI_LINK_flit, F.HI_LINK_up]⟩
def Row.HI_QCFG : RegRow := ⟨0xD10000, [(0x40, 1024)], true, [F.HI_QCFG_asg, F.HI_QCFG_fn, F.HI_QCFG_lidx, F.HI_QCFG_vec, F.HI_QCFG_weight, F.HI_QCFG_rx_buf, F.HI_QCFG_rx_size, F.HI_QCFG_tx_size, F.HI_QCFG_rx_en, F.HI_QCFG_tx_en]⟩
def Row.HI_QCNT : RegRow := ⟨0xD10028, [(0x40, 1024)], true, [F.HI_QCNT_tx_frames, F.HI_QCNT_rx_frames]⟩
def Row.HI_QIDX : RegRow := ⟨0xD10018, [(0x40, 1024)], true, [F.HI_QIDX_tx_head, F.HI_QIDX_tx_tail, F.HI_QIDX_rx_head, F.HI_QIDX_rx_tail]⟩
def Row.HI_QITR : RegRow := ⟨0xD10030, [(0x40, 1024)], false, [F.HI_QITR_itr_us, F.HI_QITR_itr_cnt]⟩
def Row.HI_QRXBASE : RegRow := ⟨0xD10010, [(0x40, 1024)], true, [F.HI_QRXBASE_base]⟩
def Row.HI_QSTAT : RegRow := ⟨0xD10020, [(0x40, 1024)], true, [F.HI_QSTAT_tx_state, F.HI_QSTAT_rx_state, F.HI_QSTAT_wd_drop, F.HI_QSTAT_rx_drop, F.HI_QSTAT_tx_lerr]⟩
def Row.HI_QTXBASE : RegRow := ⟨0xD10008, [(0x40, 1024)], true, [F.HI_QTXBASE_base]⟩
def Row.HO_CFG : RegRow := ⟨0x700000, [], false, [F.HO_CFG_unord_mask, F.HO_CFG_limit_us]⟩
def Row.HO_CNT : RegRow := ⟨0x700018, [], true, [F.HO_CNT_released, F.HO_CNT_voided]⟩
def Row.HO_DOMSEL : RegRow := ⟨0x700100, [], false, [F.HO_DOMSEL_domain]⟩
def Row.HO_DOMSTAT : RegRow := ⟨0x700108, [], true, [F.HO_DOMSTAT_head, F.HO_DOMSTAT_pending, F.HO_DOMSTAT_head_state, F.HO_DOMSTAT_head_wait]⟩
def Row.HO_ERR : RegRow := ⟨0x700030, [], true, [F.HO_ERR_seq_err, F.HO_ERR_eddy_late]⟩
def Row.HO_LATE : RegRow := ⟨0x700038, [], true, [F.HO_LATE_domain, F.HO_LATE_sequence, F.HO_LATE_gallery, F.HO_LATE_job_slot, F.HO_LATE_valid]⟩
def Row.HO_OCC : RegRow := ⟨0x700010, [], true, [F.HO_OCC_c7_max, F.HO_OCC_occ_max, F.HO_OCC_c7_used, F.HO_OCC_used]⟩
def Row.HO_PART : RegRow := ⟨0x700008, [], false, [F.HO_PART_c7_tickets]⟩
def Row.HO_VCNT0 : RegRow := ⟨0x700020, [], true, [F.HO_VCNT0_late, F.HO_VCNT0_twin_lose, F.HO_VCNT0_reclaim, F.HO_VCNT0_job]⟩
def Row.HO_VCNT1 : RegRow := ⟨0x700028, [], true, [F.HO_VCNT1_drop, F.HO_VCNT1_fcs, F.HO_VCNT1_bare, F.HO_VCNT1_eddy]⟩
def Row.LD_ANQ0 : RegRow := ⟨0x800300, [], true, [F.LD_ANQ0_lo]⟩
def Row.LD_ANQ1 : RegRow := ⟨0x800308, [], true, [F.LD_ANQ1_hi]⟩
def Row.LD_ANSTAT : RegRow := ⟨0x800310, [], false, [F.LD_ANSTAT_lost, F.LD_ANSTAT_depth]⟩
def Row.LD_CFG : RegRow := ⟨0x800000, [], false, [F.LD_CFG_anom_en, F.LD_CFG_hot_en, F.LD_CFG_watch_en, F.LD_CFG_sweep_en, F.LD_CFG_en]⟩
def Row.LD_ECC : RegRow := ⟨0x800400, [], true, [F.LD_ECC_corr, F.LD_ECC_uncorr, F.LD_ECC_bad, F.LD_ECC_bad_idx]⟩
def Row.LD_EXPIDX : RegRow := ⟨0x800208, [], true, [F.LD_EXPIDX_wr_idx, F.LD_EXPIDX_rd_idx]⟩
def Row.LD_EXPRING : RegRow := ⟨0x800200, [], true, [F.LD_EXPRING_size_log2, F.LD_EXPRING_base, F.LD_EXPRING_en]⟩
def Row.LD_EXPSTAT : RegRow := ⟨0x800210, [], true, [F.LD_EXPSTAT_exported, F.LD_EXPSTAT_lost]⟩
def Row.LD_KIND : RegRow := ⟨0x800800, [(0x8, 256)], false, [F.LD_KIND_forget_ms, F.LD_KIND_active_sw, F.LD_KIND_exp_rm]⟩
def Row.LD_OCC : RegRow := ⟨0x800010, [], true, [F.LD_OCC_occ_max, F.LD_OCC_occ]⟩
def Row.LD_QSTAT : RegRow := ⟨0x800500, [(0x8, 4)], true, [F.LD_QSTAT_ops, F.LD_QSTAT_q_full, F.LD_QSTAT_fenced, F.LD_QSTAT_q_depth]⟩
def Row.LD_REPAIR : RegRow := ⟨0x800480, [(0x8, 4)], true, [F.LD_REPAIR_row_fix, F.LD_REPAIR_thr, F.LD_REPAIR_rows_left, F.LD_REPAIR_banks_left]⟩
def Row.LD_STAT : RegRow := ⟨0x800008, [], true, [F.LD_STAT_ins_fail, F.LD_STAT_hdr_wr, F.LD_STAT_watch_full, F.LD_STAT_bad_arg]⟩
def Row.LD_SWCMD : RegRow := ⟨0x800600, [], false, [F.LD_SWCMD_start, F.LD_SWCMD_busy, F.LD_SWCMD_pair_out, F.LD_SWCMD_status, F.LD_SWCMD_fn]⟩
def Row.LD_SWEEP : RegRow := ⟨0x800018, [], true, [F.LD_SWEEP_flush_kind, F.LD_SWEEP_flush_pin, F.LD_SWEEP_flush, F.LD_SWEEP_flushing, F.LD_SWEEP_kick_max, F.LD_SWEEP_period_ms]⟩
def Row.LD_TDEF : RegRow := ⟨0x801000, [(0x4, 256)], false, [F.LD_TDEF_action]⟩
def Row.LD_TMO : RegRow := ⟨0x800100, [(0x8, 16)], false, [F.LD_TMO_floor, F.LD_TMO_adapt, F.LD_TMO_limit]⟩
def Row.PH_BIND : RegRow := ⟨0xC40000, [(0x8, 32768)], true, [F.PH_BIND_sh, F.PH_BIND_gallery, F.PH_BIND_slot, F.PH_BIND_cfg_chg, F.PH_BIND_valid]⟩
def Row.PH_CFG : RegRow := ⟨0xC00000, [], false, [F.PH_CFG_en]⟩
def Row.PH_OCNT : RegRow := ⟨0xC10008, [(0x40, 1024)], true, [F.PH_OCNT_sent, F.PH_OCNT_late, F.PH_OCNT_missing]⟩
def Row.PH_OUT : RegRow := ⟨0xC10000, [(0x40, 1024)], true, [F.PH_OUT_en, F.PH_OUT_f60, F.PH_OUT_fr, F.PH_OUT_idcode, F.PH_OUT_hold_us, F.PH_OUT_dcol, F.PH_OUT_queue, F.PH_OUT_hdr_len, F.PH_OUT_l4]⟩
def Row.PH_STAT : RegRow := ⟨0xC00008, [], true, [F.PH_STAT_sent, F.PH_STAT_late, F.PH_STAT_missing]⟩
def Row.PT_GCLBASE : RegRow := ⟨0x300088, [(0x4000, 32)], true, [F.PT_GCLBASE_base_ns, F.PT_GCLBASE_base_s]⟩
def Row.PT_GCLCTL : RegRow := ⟨0x300080, [(0x4000, 32)], true, [F.PT_GCLCTL_cycle, F.PT_GCLCTL_length, F.PT_GCLCTL_err, F.PT_GCLCTL_pending, F.PT_GCLCTL_commit]⟩
def Row.PT_PCFG : RegRow := ⟨0x300000, [(0x4000, 32)], false, [F.PT_PCFG_pfc_mask, F.PT_PCFG_verify_dis, F.PT_PCFG_add_frag, F.PT_PCFG_pre_en, F.PT_PCFG_ld_mode, F.PT_PCFG_fc_mode, F.PT_PCFG_fec, F.PT_PCFG_width, F.PT_PCFG_lane_rate, F.PT_PCFG_an_en, F.PT_PCFG_loopback, F.PT_PCFG_enable]⟩
def Row.PT_PSTAT : RegRow := ⟨0x300008, [(0x4000, 32)], false, [F.PT_PSTAT_paused_mask, F.PT_PSTAT_pause_wd_mask, F.PT_PSTAT_ts_cal_valid, F.PT_PSTAT_fec_lock, F.PT_PSTAT_align, F.PT_PSTAT_remote_fault, F.PT_PSTAT_local_fault, F.PT_PSTAT_state]⟩
def Row.PT_QSCH : RegRow := ⟨0x300040, [(0x4000, 32), (0x8, 8)], false, [F.PT_QSCH_mode, F.PT_QSCH_preemptable, F.PT_QSCH_weight, F.PT_QSCH_idle_slope]⟩
def Row.PT_RED : RegRow := ⟨0x3000A0, [(0x4000, 32)], false, [F.PT_RED_peer, F.PT_RED_lan_b, F.PT_RED_pair_err, F.PT_RED_role]⟩
def Row.PT_TMR : RegRow := ⟨0x300010, [(0x4000, 32)], false, [F.PT_TMR_ld_debounce, F.PT_TMR_pause_wd]⟩
def Row.PT_TSDLY : RegRow := ⟨0x300018, [(0x4000, 32)], true, [F.PT_TSDLY_complement, F.PT_TSDLY_eg_delay, F.PT_TSDLY_in_delay]⟩
def Row.PW_CFG : RegRow := ⟨0x100000, [], false, [F.PW_CFG_lull_gal1, F.PW_CFG_lull_gal0, F.PW_CFG_lull_pipe, F.PW_CFG_exit_ds, F.PW_CFG_lull_db]⟩
def Row.PW_DOM : RegRow := ⟨0x100100, [(0x8, 50)], false, [F.PW_DOM_rail, F.PW_DOM_err, F.PW_DOM_state, F.PW_DOM_req]⟩
def Row.PW_LSHED : RegRow := ⟨0x100028, [], false, [F.PW_LSHED_shed_drop]⟩
def Row.PW_LSTAT : RegRow := ⟨0x100008, [], true, [F.PW_LSTAT_lull_cnt, F.PW_LSTAT_dip_cnt, F.PW_LSTAT_col_off, F.PW_LSTAT_lull_en, F.PW_LSTAT_store_ok, F.PW_LSTAT_mode]⟩
def Row.PW_THERM : RegRow := ⟨0x100018, [], false, [F.PW_THERM_tcp, F.PW_THERM_tj_max]⟩
def Row.PW_TLIM : RegRow := ⟨0x100020, [], false, [F.PW_TLIM_trip_cnt, F.PW_TLIM_thr_c]⟩
def Row.PW_VMON : RegRow := ⟨0x100010, [], true, [F.PW_VMON_vmain_mv, F.PW_VMON_vkeep_mv, F.PW_VMON_store_cv, F.PW_VMON_pin_cw]⟩
def Row.RL_ALARM : RegRow := ⟨0x1000030, [], false, [F.RL_ALARM_calib, F.RL_ALARM_lull, F.RL_ALARM_thermal, F.RL_ALARM_time, F.RL_ALARM_cmpl, F.RL_ALARM_unit, F.RL_ALARM_lode_q, F.RL_ALARM_lode_spare, F.RL_ALARM_phase_cap, F.RL_ALARM_phase, F.RL_ALARM_om_single, F.RL_ALARM_seam_marked, F.RL_ALARM_seam_spare, F.RL_ALARM_plane_single, F.RL_ALARM_gal_short, F.RL_ALARM_no_relief]⟩
def Row.RL_ALMASK : RegRow := ⟨0x1000038, [], false, [F.RL_ALMASK_calib, F.RL_ALMASK_lull, F.RL_ALMASK_thermal, F.RL_ALMASK_time, F.RL_ALMASK_cmpl, F.RL_ALMASK_unit, F.RL_ALMASK_lode_q, F.RL_ALMASK_lode_spare, F.RL_ALMASK_phase_cap, F.RL_ALMASK_phase, F.RL_ALMASK_om_single, F.RL_ALMASK_seam_marked, F.RL_ALMASK_seam_spare, F.RL_ALMASK_plane_single, F.RL_ALMASK_gal_short, F.RL_ALMASK_no_relief]⟩
def Row.RL_CNT : RegRow := ⟨0x1000028, [], true, [F.RL_CNT_gal, F.RL_CNT_plane, F.RL_CNT_seam, F.RL_CNT_kill]⟩
def Row.RL_CTL : RegRow := ⟨0x1000010, [], false, [F.RL_CTL_drain_ms, F.RL_CTL_sup_flt, F.RL_CTL_auto_pl, F.RL_CTL_auto_gal]⟩
def Row.RL_FAULT : RegRow := ⟨0x1000040, [], false, [F.RL_FAULT_central, F.RL_FAULT_rail, F.RL_FAULT_boot, F.RL_FAULT_seam, F.RL_FAULT_planes, F.RL_FAULT_overman, F.RL_FAULT_timebase, F.RL_FAULT_hoist, F.RL_FAULT_bin]⟩
def Row.RL_FENCE : RegRow := ⟨0x1000008, [], true, [F.RL_FENCE_om_c, F.RL_FENCE_om_ab, F.RL_FENCE_lode_q, F.RL_FENCE_seam_ch, F.RL_FENCE_plane_b, F.RL_FENCE_plane_a, F.RL_FENCE_gallery]⟩
def Row.RL_FORCE : RegRow := ⟨0x1000018, [], false, [F.RL_FORCE_go, F.RL_FORCE_busy, F.RL_FORCE_err, F.RL_FORCE_kind, F.RL_FORCE_ret, F.RL_FORCE_unit]⟩
def Row.RL_GALSTAT : RegRow := ⟨0x1000000, [], true, [F.RL_GALSTAT_relief, F.RL_GALSTAT_active]⟩
def Row.RL_PHASE : RegRow := ⟨0x1000048, [], true, [F.RL_PHASE_vcg, F.RL_PHASE_vcf, F.RL_PHASE_vsr, F.RL_PHASE_vdq, F.RL_PHASE_vsd, F.RL_PHASE_vsv]⟩
def Row.RL_TKSTAT : RegRow := ⟨0x1000020, [], true, [F.RL_TKSTAT_dur_us, F.RL_TKSTAT_cause, F.RL_TKSTAT_step, F.RL_TKSTAT_busy, F.RL_TKSTAT_kind, F.RL_TKSTAT_unit, F.RL_TKSTAT_relief]⟩
def Row.SM_AGCFG : RegRow := ⟨0xF00200, [(0x8, 8)], true, [F.SM_AGCFG_stale, F.SM_AGCFG_wait_max, F.SM_AGCFG_mask, F.SM_AGCFG_cap]⟩
def Row.SM_AGCNT : RegRow := ⟨0xF00280, [(0x8, 8)], true, [F.SM_AGCNT_bursts]⟩
def Row.SM_CFG : RegRow := ⟨0xF00000, [], false, [F.SM_CFG_dev_thr, F.SM_CFG_dbl_c, F.SM_CFG_pnr_exp, F.SM_CFG_track_en, F.SM_CFG_en]⟩
def Row.SM_CHMAP : RegRow := ⟨0xF00008, [], false, [F.SM_CHMAP_log3, F.SM_CHMAP_log2, F.SM_CHMAP_log1, F.SM_CHMAP_log0]⟩
def Row.SM_CHSTAT : RegRow := ⟨0xF00100, [(0x20, 5)], true, [F.SM_CHSTAT_corr, F.SM_CHSTAT_uncorr, F.SM_CHSTAT_temp_c, F.SM_CHSTAT_dev_mark, F.SM_CHSTAT_marked, F.SM_CHSTAT_margin, F.SM_CHSTAT_dbl, F.SM_CHSTAT_state]⟩
def Row.SM_RDCFG : RegRow := ⟨0xF00010, [], false, [F.SM_RDCFG_act_thr]⟩
def Row.SM_RDSTAT : RegRow := ⟨0xF00018, [], true, [F.SM_RDSTAT_nr_issued, F.SM_RDSTAT_act_trig, F.SM_RDSTAT_nr_full]⟩
def Row.SM_SPARE : RegRow := ⟨0xF00020, [], true, [F.SM_SPARE_done, F.SM_SPARE_err, F.SM_SPARE_busy, F.SM_SPARE_start, F.SM_SPARE_src]⟩
def Row.ST_AGE : RegRow := ⟨0x500100, [(0x40, 4)], false, [F.ST_AGE_age_lim, F.ST_AGE_sweep_ms]⟩
def Row.ST_DMAADDR : RegRow := ⟨0x500208, [], true, [F.ST_DMAADDR_addr]⟩
def Row.ST_DMACTL : RegRow := ⟨0x500200, [], true, [F.ST_DMACTL_count, F.ST_DMACTL_index, F.ST_DMACTL_tbl, F.ST_DMACTL_lock, F.ST_DMACTL_err, F.ST_DMACTL_busy, F.ST_DMACTL_op, F.ST_DMACTL_start]⟩
def Row.ST_DMASTAT : RegRow := ⟨0x500210, [], true, [F.ST_DMASTAT_done, F.ST_DMASTAT_skip_key, F.ST_DMASTAT_lock_to]⟩
def Row.ST_MOVE : RegRow := ⟨0x500108, [(0x40, 4)], true, [F.ST_MOVE_hold_ms, F.ST_MOVE_win_ms, F.ST_MOVE_move_thr]⟩
def Row.ST_MTR : RegRow := ⟨0x508000, [(0x8, 4096)], true, [F.ST_MTR_cir, F.ST_MTR_cbs, F.ST_MTR_eir, F.ST_MTR_ebs]⟩
def Row.ST_PCFG : RegRow := ⟨0x500000, [(0x40, 4)], true, [F.ST_PCFG_flood_base, F.ST_PCFG_fid_zero, F.ST_PCFG_fid_chunk, F.ST_PCFG_sa_chunk, F.ST_PCFG_da_chunk, F.ST_PCFG_same_drop, F.ST_PCFG_learn_en]⟩
def Row.ST_PCNT : RegRow := ⟨0x500008, [(0x40, 4)], true, [F.ST_PCNT_flood, F.ST_PCNT_learned]⟩
def Row.ST_PERR : RegRow := ⟨0x500018, [(0x40, 4)], true, [F.ST_PERR_par_cnt, F.ST_PERR_bad, F.ST_PERR_set, F.ST_PERR_way]⟩
def Row.ST_PMOV : RegRow := ⟨0x500010, [(0x40, 4)], true, [F.ST_PMOV_moves, F.ST_PMOV_ins_fail, F.ST_PMOV_freeze, F.ST_PMOV_learn_ovf]⟩
def Row.ST_SPERR : RegRow := ⟨0x500308, [], false, [F.ST_SPERR_par_cnt, F.ST_SPERR_bad, F.ST_SPERR_handle]⟩
def Row.ST_SSTAT : RegRow := ⟨0x500300, [], true, [F.ST_SSTAT_inval, F.ST_SSTAT_sdu_drop, F.ST_SSTAT_gate_drop, F.ST_SSTAT_red_drop]⟩
def Row.SY_BOOT : RegRow := ⟨0x10, [], true, [F.SY_BOOT_ready_ms, F.SY_BOOT_fail, F.SY_BOOT_stage, F.SY_BOOT_sec_ver, F.SY_BOOT_fuse_ver, F.SY_BOOT_boot_sel, F.SY_BOOT_warm, F.SY_BOOT_fallback, F.SY_BOOT_slot, F.SY_BOOT_calib_def, F.SY_BOOT_calib_half]⟩
def Row.SY_BUSERR : RegRow := ⟨0x20, [], true, [F.SY_BUSERR_unmapped, F.SY_BUSERR_width, F.SY_BUSERR_fenced, F.SY_BUSERR_last_src, F.SY_BUSERR_last_off]⟩
def Row.SY_IDENT : RegRow := ⟨0x0, [], false, [F.SY_IDENT_rev_letter, F.SY_IDENT_rev_digit, F.SY_IDENT_fw_major, F.SY_IDENT_fw_minor]⟩
def Row.SY_RST : RegRow := ⟨0x18, [], false, [F.SY_RST_warm_ign, F.SY_RST_warm]⟩
def Row.TK_CFG : RegRow := ⟨0xB00810, [], false, [F.TK_CFG_err, F.TK_CFG_rec_all]⟩
def Row.TK_CHAN : RegRow := ⟨0xB02000, [(0x8, 1024)], true, [F.TK_CHAN_gal_mask, F.TK_CHAN_count, F.TK_CHAN_depth]⟩
def Row.TK_DOLCFG : RegRow := ⟨0xB08000, [(0x40, 26)], false, [F.TK_DOLCFG_en, F.TK_DOLCFG_esc_ms, F.TK_DOLCFG_thr_us]⟩
def Row.TK_DOLSTAT : RegRow := ⟨0xB08008, [(0x40, 26)], true, [F.TK_DOLSTAT_fire_cnt, F.TK_DOLSTAT_esc_cnt, F.TK_DOLSTAT_escalated, F.TK_DOLSTAT_fired]⟩
def Row.TK_FREL : RegRow := ⟨0xB00800, [], false, [F.TK_FREL_lock]⟩
def Row.TK_GRP : RegRow := ⟨0xB00000, [(0x8, 64)], true, [F.TK_GRP_gal_mask, F.TK_GRP_en, F.TK_GRP_rank]⟩
def Row.TK_LOCK : RegRow := ⟨0xB10000, [(0x8, 4096)], true, [F.TK_LOCK_waiters, F.TK_LOCK_gallery, F.TK_LOCK_job_slot, F.TK_LOCK_job_held, F.TK_LOCK_owner, F.TK_LOCK_abandoned, F.TK_LOCK_held]⟩
def Row.TK_RREC0 : RegRow := ⟨0xB00900, [], true, [F.TK_RREC0_lo]⟩
def Row.TK_RREC1 : RegRow := ⟨0xB00908, [], true, [F.TK_RREC1_hi]⟩
def Row.TK_RSTAT : RegRow := ⟨0xB00820, [], false, [F.TK_RSTAT_rec_lost, F.TK_RSTAT_depth]⟩
def Row.TK_STAT : RegRow := ⟨0xB00818, [], true, [F.TK_STAT_rank_flt, F.TK_STAT_denied, F.TK_STAT_bad_arg, F.TK_STAT_no_room, F.TK_STAT_stage_drop]⟩
def Row.TK_WGRP : RegRow := ⟨0xB08010, [(0x40, 26), (0x4, 8)], false, [F.TK_WGRP_group]⟩
def Row.TL_LIM : RegRow := ⟨0x1201000, [(0x4, 4864)], false, [F.TL_LIM_rate, F.TL_LIM_burst]⟩
def Row.TL_LOST : RegRow := ⟨0x1200008, [], true, [F.TL_LOST_suppressed, F.TL_LOST_q_lost, F.TL_LOST_torn]⟩
def Row.TL_STAT : RegRow := ⟨0x1200000, [], true, [F.TL_STAT_next_idx, F.TL_STAT_first_cnt, F.TL_STAT_bad_blk, F.TL_STAT_first_short, F.TL_STAT_short, F.TL_STAT_open]⟩
def Row.TL_WEAR : RegRow := ⟨0x1200010, [], false, [F.TL_WEAR_erase_max]⟩
def Row.XC_CAPIDX : RegRow := ⟨0x900908, [], true, [F.XC_CAPIDX_wr_idx, F.XC_CAPIDX_rd_idx]⟩
def Row.XC_CAPRING : RegRow := ⟨0x900900, [], true, [F.XC_CAPRING_size_log2, F.XC_CAPRING_base, F.XC_CAPRING_wrap, F.XC_CAPRING_en]⟩
def Row.XC_CAPSTAT : RegRow := ⟨0x900910, [], true, [F.XC_CAPSTAT_written, F.XC_CAPSTAT_lost]⟩
def Row.XC_CFG : RegRow := ⟨0x900000, [], false, [F.XC_CFG_tune_ms, F.XC_CFG_fenced_b, F.XC_CFG_fenced_a, F.XC_CFG_en]⟩
def Row.XC_COL : RegRow := ⟨0x900300, [(0x8, 12)], true, [F.XC_COL_occ_max, F.XC_COL_occ, F.XC_COL_dflt_psel]⟩
def Row.XC_ERR : RegRow := ⟨0x900020, [], true, [F.XC_ERR_cmpl_in, F.XC_ERR_cmpl_eg, F.XC_ERR_bad_col, F.XC_ERR_desc_full]⟩
def Row.XC_LENERR : RegRow := ⟨0x900028, [], false, [F.XC_LENERR_long_drop, F.XC_LENERR_short_pad]⟩
def Row.XC_GRP : RegRow := ⟨0x910000, [(0x8, 65536)], true, [F.XC_GRP_valid, F.XC_GRP_excl_in, F.XC_GRP_host, F.XC_GRP_overman, F.XC_GRP_qp, F.XC_GRP_par, F.XC_GRP_ports]⟩
def Row.XC_MIRCNT : RegRow := ⟨0x900880, [(0x8, 16)], true, [F.XC_MIRCNT_copies, F.XC_MIRCNT_dropped]⟩
def Row.XC_MIRSES : RegRow := ⟨0x900800, [(0x8, 16)], true, [F.XC_MIRSES_en, F.XC_MIRSES_sample, F.XC_MIRSES_trunc, F.XC_MIRSES_dport, F.XC_MIRSES_to_cap, F.XC_MIRSES_queue]⟩
def Row.XC_PCNT : RegRow := ⟨0x900408, [(0x10, 32)], true, [F.XC_PCNT_mc_part, F.XC_PCNT_link_drop, F.XC_PCNT_hold_drop, F.XC_PCNT_thr_drop]⟩
def Row.XC_PLLOST : RegRow := ⟨0x900018, [], false, [F.XC_PLLOST_lost]⟩
def Row.XC_PLMAP : RegRow := ⟨0x900008, [], true, [F.XC_PLMAP_map]⟩
def Row.XC_PLMOVE : RegRow := ⟨0x900010, [], true, [F.XC_PLMOVE_moving]⟩
def Row.XC_PORT : RegRow := ⟨0x900400, [(0x10, 32)], true, [F.XC_PORT_wd_drop, F.XC_PORT_queued, F.XC_PORT_emir, F.XC_PORT_imir, F.XC_PORT_hstate, F.XC_PORT_hold_ms]⟩
def Row.XC_RESLIM : RegRow := ⟨0x900280, [(0x4, 8)], false, [F.XC_RESLIM_res_us]⟩
def Row.XC_ROWREF : RegRow := ⟨0x900200, [(0x8, 12)], true, [F.XC_ROWREF_refused_c]⟩
def Row.XC_ROWSTAT : RegRow := ⟨0x900180, [(0x8, 12)], true, [F.XC_ROWSTAT_refused, F.XC_ROWSTAT_free_min, F.XC_ROWSTAT_free]⟩
def Row.XC_ROWTHR : RegRow := ⟨0x900100, [(0x8, 12)], true, [F.XC_ROWTHR_alpha_exp, F.XC_ROWTHR_min_cells, F.XC_ROWTHR_auto]⟩

/-- The row of the index for each register. -/
def regRow : RegId → RegRow
  | .AS_EDDYCFG => Row.AS_EDDYCFG
  | .AS_EDDYSTAT => Row.AS_EDDYSTAT
  | .AS_EXCCFG => Row.AS_EXCCFG
  | .AS_EXCCNT => Row.AS_EXCCNT
  | .AS_KSEL => Row.AS_KSEL
  | .AS_PCFG => Row.AS_PCFG
  | .AS_PSTAT => Row.AS_PSTAT
  | .AS_RCMD => Row.AS_RCMD
  | .AS_RSTAT => Row.AS_RSTAT
  | .AS_RVER => Row.AS_RVER
  | .BG_AGE => Row.BG_AGE
  | .BG_CFG => Row.BG_CFG
  | .BG_KA => Row.BG_KA
  | .BG_LIFE => Row.BG_LIFE
  | .BG_SCRUB => Row.BG_SCRUB
  | .BN_BAD => Row.BN_BAD
  | .BN_ERR => Row.BN_ERR
  | .BN_QUOTA => Row.BN_QUOTA
  | .BN_ROWCFG => Row.BN_ROWCFG
  | .BN_ROWSTAT => Row.BN_ROWSTAT
  | .CG_CTL => Row.CG_CTL
  | .CG_GRANT => Row.CG_GRANT
  | .CG_RIGHTS => Row.CG_RIGHTS
  | .CG_DOOR => Row.CG_DOOR
  | .CG_EVIDX => Row.CG_EVIDX
  | .CG_EVLOST => Row.CG_EVLOST
  | .CG_GSTAT => Row.CG_GSTAT
  | .CG_STAT => Row.CG_STAT
  | .CK_ISLCFG => Row.CK_ISLCFG
  | .CK_ISLSTAT => Row.CK_ISLSTAT
  | .TB_CTL => Row.TB_CTL
  | .TB_FREQ => Row.TB_FREQ
  | .TB_NOW_HI => Row.TB_NOW_HI
  | .TB_NOW_LO => Row.TB_NOW_LO
  | .TB_PPS => Row.TB_PPS
  | .TB_STAT => Row.TB_STAT
  | .TB_STEP => Row.TB_STEP
  | .TB_TICK => Row.TB_TICK
  | .TB_UTC => Row.TB_UTC
  | .DB_BP => Row.DB_BP
  | .DB_CTL => Row.DB_CTL
  | .DB_GTRCFG => Row.DB_GTRCFG
  | .DB_GTRCTL => Row.DB_GTRCTL
  | .DB_GTRRING => Row.DB_GTRRING
  | .DB_GTRSTAT => Row.DB_GTRSTAT
  | .DB_STAT => Row.DB_STAT
  | .DB_TCMD => Row.DB_TCMD
  | .DB_WP => Row.DB_WP
  | .DR_AFF => Row.DR_AFF
  | .DR_CFG => Row.DR_CFG
  | .DR_CHIST => Row.DR_CHIST
  | .DR_CLOAD => Row.DR_CLOAD
  | .DR_CQ => Row.DR_CQ
  | .DR_GSTAT => Row.DR_GSTAT
  | .DR_HTO => Row.DR_HTO
  | .DR_PCNT => Row.DR_PCNT
  | .DR_PSTAT => Row.DR_PSTAT
  | .DR_TCTL => Row.DR_TCTL
  | .DR_TRCTL => Row.DR_TRCTL
  | .DR_TRRING => Row.DR_TRRING
  | .DR_TRSTAT => Row.DR_TRSTAT
  | .DR_TWIN => Row.DR_TWIN
  | .GL_CCTL => Row.GL_CCTL
  | .GL_CTL => Row.GL_CTL
  | .GL_ECC => Row.GL_ECC
  | .GL_FREC0 => Row.GL_FREC0
  | .GL_FREC1 => Row.GL_FREC1
  | .GL_FREC2 => Row.GL_FREC2
  | .GL_ROSE0 => Row.GL_ROSE0
  | .GL_ROSE1 => Row.GL_ROSE1
  | .GL_ROSECTL => Row.GL_ROSECTL
  | .GL_ROSELIVE0 => Row.GL_ROSELIVE0
  | .GL_ROSELIVE1 => Row.GL_ROSELIVE1
  | .GL_SMBASE => Row.GL_SMBASE
  | .GL_STAT => Row.GL_STAT
  | .GL_SUPTO => Row.GL_SUPTO
  | .GL_TCTL => Row.GL_TCTL
  | .GL_TSOFT => Row.GL_TSOFT
  | .GL_TSTAT => Row.GL_TSTAT
  | .GL_CP2CFG => Row.GL_CP2CFG
  | .GL_CP2STAT => Row.GL_CP2STAT
  | .GL_CPSTAT => Row.GL_CPSTAT
  | .GL_FCCTL => Row.GL_FCCTL
  | .GL_FCID => Row.GL_FCID
  | .GL_FCINFO => Row.GL_FCINFO
  | .GL_FCLOAD => Row.GL_FCLOAD
  | .GL_FCSTAT => Row.GL_FCSTAT
  | .GL_GENCMD => Row.GL_GENCMD
  | .GL_GENSTAT => Row.GL_GENSTAT
  | .HI_BAR2 => Row.HI_BAR2
  | .HI_CFG => Row.HI_CFG
  | .HI_ERR => Row.HI_ERR
  | .HI_LINK => Row.HI_LINK
  | .HI_QCFG => Row.HI_QCFG
  | .HI_QCNT => Row.HI_QCNT
  | .HI_QIDX => Row.HI_QIDX
  | .HI_QITR => Row.HI_QITR
  | .HI_QRXBASE => Row.HI_QRXBASE
  | .HI_QSTAT => Row.HI_QSTAT
  | .HI_QTXBASE => Row.HI_QTXBASE
  | .HO_CFG => Row.HO_CFG
  | .HO_CNT => Row.HO_CNT
  | .HO_DOMSEL => Row.HO_DOMSEL
  | .HO_DOMSTAT => Row.HO_DOMSTAT
  | .HO_ERR => Row.HO_ERR
  | .HO_LATE => Row.HO_LATE
  | .HO_OCC => Row.HO_OCC
  | .HO_PART => Row.HO_PART
  | .HO_VCNT0 => Row.HO_VCNT0
  | .HO_VCNT1 => Row.HO_VCNT1
  | .LD_ANQ0 => Row.LD_ANQ0
  | .LD_ANQ1 => Row.LD_ANQ1
  | .LD_ANSTAT => Row.LD_ANSTAT
  | .LD_CFG => Row.LD_CFG
  | .LD_ECC => Row.LD_ECC
  | .LD_EXPIDX => Row.LD_EXPIDX
  | .LD_EXPRING => Row.LD_EXPRING
  | .LD_EXPSTAT => Row.LD_EXPSTAT
  | .LD_KIND => Row.LD_KIND
  | .LD_OCC => Row.LD_OCC
  | .LD_QSTAT => Row.LD_QSTAT
  | .LD_REPAIR => Row.LD_REPAIR
  | .LD_STAT => Row.LD_STAT
  | .LD_SWCMD => Row.LD_SWCMD
  | .LD_SWEEP => Row.LD_SWEEP
  | .LD_TDEF => Row.LD_TDEF
  | .LD_TMO => Row.LD_TMO
  | .PH_BIND => Row.PH_BIND
  | .PH_CFG => Row.PH_CFG
  | .PH_OCNT => Row.PH_OCNT
  | .PH_OUT => Row.PH_OUT
  | .PH_STAT => Row.PH_STAT
  | .PT_GCLBASE => Row.PT_GCLBASE
  | .PT_GCLCTL => Row.PT_GCLCTL
  | .PT_PCFG => Row.PT_PCFG
  | .PT_PSTAT => Row.PT_PSTAT
  | .PT_QSCH => Row.PT_QSCH
  | .PT_RED => Row.PT_RED
  | .PT_TMR => Row.PT_TMR
  | .PT_TSDLY => Row.PT_TSDLY
  | .PW_CFG => Row.PW_CFG
  | .PW_DOM => Row.PW_DOM
  | .PW_LSHED => Row.PW_LSHED
  | .PW_LSTAT => Row.PW_LSTAT
  | .PW_THERM => Row.PW_THERM
  | .PW_TLIM => Row.PW_TLIM
  | .PW_VMON => Row.PW_VMON
  | .RL_ALARM => Row.RL_ALARM
  | .RL_ALMASK => Row.RL_ALMASK
  | .RL_CNT => Row.RL_CNT
  | .RL_CTL => Row.RL_CTL
  | .RL_FAULT => Row.RL_FAULT
  | .RL_FENCE => Row.RL_FENCE
  | .RL_FORCE => Row.RL_FORCE
  | .RL_GALSTAT => Row.RL_GALSTAT
  | .RL_PHASE => Row.RL_PHASE
  | .RL_TKSTAT => Row.RL_TKSTAT
  | .SM_AGCFG => Row.SM_AGCFG
  | .SM_AGCNT => Row.SM_AGCNT
  | .SM_CFG => Row.SM_CFG
  | .SM_CHMAP => Row.SM_CHMAP
  | .SM_CHSTAT => Row.SM_CHSTAT
  | .SM_RDCFG => Row.SM_RDCFG
  | .SM_RDSTAT => Row.SM_RDSTAT
  | .SM_SPARE => Row.SM_SPARE
  | .ST_AGE => Row.ST_AGE
  | .ST_DMAADDR => Row.ST_DMAADDR
  | .ST_DMACTL => Row.ST_DMACTL
  | .ST_DMASTAT => Row.ST_DMASTAT
  | .ST_MOVE => Row.ST_MOVE
  | .ST_MTR => Row.ST_MTR
  | .ST_PCFG => Row.ST_PCFG
  | .ST_PCNT => Row.ST_PCNT
  | .ST_PERR => Row.ST_PERR
  | .ST_PMOV => Row.ST_PMOV
  | .ST_SPERR => Row.ST_SPERR
  | .ST_SSTAT => Row.ST_SSTAT
  | .SY_BOOT => Row.SY_BOOT
  | .SY_BUSERR => Row.SY_BUSERR
  | .SY_IDENT => Row.SY_IDENT
  | .SY_RST => Row.SY_RST
  | .TK_CFG => Row.TK_CFG
  | .TK_CHAN => Row.TK_CHAN
  | .TK_DOLCFG => Row.TK_DOLCFG
  | .TK_DOLSTAT => Row.TK_DOLSTAT
  | .TK_FREL => Row.TK_FREL
  | .TK_GRP => Row.TK_GRP
  | .TK_LOCK => Row.TK_LOCK
  | .TK_RREC0 => Row.TK_RREC0
  | .TK_RREC1 => Row.TK_RREC1
  | .TK_RSTAT => Row.TK_RSTAT
  | .TK_STAT => Row.TK_STAT
  | .TK_WGRP => Row.TK_WGRP
  | .TL_LIM => Row.TL_LIM
  | .TL_LOST => Row.TL_LOST
  | .TL_STAT => Row.TL_STAT
  | .TL_WEAR => Row.TL_WEAR
  | .XC_CAPIDX => Row.XC_CAPIDX
  | .XC_CAPRING => Row.XC_CAPRING
  | .XC_CAPSTAT => Row.XC_CAPSTAT
  | .XC_CFG => Row.XC_CFG
  | .XC_COL => Row.XC_COL
  | .XC_ERR => Row.XC_ERR
  | .XC_LENERR => Row.XC_LENERR
  | .XC_GRP => Row.XC_GRP
  | .XC_MIRCNT => Row.XC_MIRCNT
  | .XC_MIRSES => Row.XC_MIRSES
  | .XC_PCNT => Row.XC_PCNT
  | .XC_PLLOST => Row.XC_PLLOST
  | .XC_PLMAP => Row.XC_PLMAP
  | .XC_PLMOVE => Row.XC_PLMOVE
  | .XC_PORT => Row.XC_PORT
  | .XC_RESLIM => Row.XC_RESLIM
  | .XC_ROWREF => Row.XC_ROWREF
  | .XC_ROWSTAT => Row.XC_ROWSTAT
  | .XC_ROWTHR => Row.XC_ROWTHR

/-- The register named by an id and its instance numbers. -/
def regOf : RegId → List Nat → Reg
  | .AS_EDDYCFG, _ => R.AS_EDDYCFG
  | .AS_EDDYSTAT, _ => R.AS_EDDYSTAT
  | .AS_EXCCFG, ix => R.AS_EXCCFG (ix.getD 0 0)
  | .AS_EXCCNT, ix => R.AS_EXCCNT (ix.getD 0 0)
  | .AS_KSEL, ix => R.AS_KSEL (ix.getD 0 0) (ix.getD 1 0) (ix.getD 2 0)
  | .AS_PCFG, ix => R.AS_PCFG (ix.getD 0 0)
  | .AS_PSTAT, ix => R.AS_PSTAT (ix.getD 0 0)
  | .AS_RCMD, _ => R.AS_RCMD
  | .AS_RSTAT, _ => R.AS_RSTAT
  | .AS_RVER, _ => R.AS_RVER
  | .BG_AGE, _ => R.BG_AGE
  | .BG_CFG, _ => R.BG_CFG
  | .BG_KA, _ => R.BG_KA
  | .BG_LIFE, _ => R.BG_LIFE
  | .BG_SCRUB, _ => R.BG_SCRUB
  | .BN_BAD, _ => R.BN_BAD
  | .BN_ERR, _ => R.BN_ERR
  | .BN_QUOTA, ix => R.BN_QUOTA (ix.getD 0 0) (ix.getD 1 0)
  | .BN_ROWCFG, ix => R.BN_ROWCFG (ix.getD 0 0)
  | .BN_ROWSTAT, ix => R.BN_ROWSTAT (ix.getD 0 0)
  | .CG_CTL, _ => R.CG_CTL
  | .CG_GRANT, ix => R.CG_GRANT (ix.getD 0 0)
  | .CG_RIGHTS, ix => R.CG_RIGHTS (ix.getD 0 0)
  | .CG_DOOR, ix => R.CG_DOOR (ix.getD 0 0)
  | .CG_EVIDX, ix => R.CG_EVIDX (ix.getD 0 0)
  | .CG_EVLOST, ix => R.CG_EVLOST (ix.getD 0 0)
  | .CG_GSTAT, ix => R.CG_GSTAT (ix.getD 0 0)
  | .CG_STAT, ix => R.CG_STAT (ix.getD 0 0)
  | .CK_ISLCFG, ix => R.CK_ISLCFG (ix.getD 0 0)
  | .CK_ISLSTAT, ix => R.CK_ISLSTAT (ix.getD 0 0)
  | .TB_CTL, _ => R.TB_CTL
  | .TB_FREQ, _ => R.TB_FREQ
  | .TB_NOW_HI, _ => R.TB_NOW_HI
  | .TB_NOW_LO, _ => R.TB_NOW_LO
  | .TB_PPS, _ => R.TB_PPS
  | .TB_STAT, _ => R.TB_STAT
  | .TB_STEP, _ => R.TB_STEP
  | .TB_TICK, _ => R.TB_TICK
  | .TB_UTC, _ => R.TB_UTC
  | .DB_BP, ix => R.DB_BP (ix.getD 0 0)
  | .DB_CTL, _ => R.DB_CTL
  | .DB_GTRCFG, _ => R.DB_GTRCFG
  | .DB_GTRCTL, _ => R.DB_GTRCTL
  | .DB_GTRRING, _ => R.DB_GTRRING
  | .DB_GTRSTAT, _ => R.DB_GTRSTAT
  | .DB_STAT, _ => R.DB_STAT
  | .DB_TCMD, _ => R.DB_TCMD
  | .DB_WP, ix => R.DB_WP (ix.getD 0 0)
  | .DR_AFF, ix => R.DR_AFF (ix.getD 0 0) (ix.getD 1 0)
  | .DR_CFG, _ => R.DR_CFG
  | .DR_CHIST, ix => R.DR_CHIST (ix.getD 0 0) (ix.getD 1 0) (ix.getD 2 0)
  | .DR_CLOAD, ix => R.DR_CLOAD (ix.getD 0 0) (ix.getD 1 0)
  | .DR_CQ, ix => R.DR_CQ (ix.getD 0 0) (ix.getD 1 0)
  | .DR_GSTAT, ix => R.DR_GSTAT (ix.getD 0 0)
  | .DR_HTO, _ => R.DR_HTO
  | .DR_PCNT, ix => R.DR_PCNT (ix.getD 0 0)
  | .DR_PSTAT, ix => R.DR_PSTAT (ix.getD 0 0)
  | .DR_TCTL, ix => R.DR_TCTL (ix.getD 0 0)
  | .DR_TRCTL, _ => R.DR_TRCTL
  | .DR_TRRING, _ => R.DR_TRRING
  | .DR_TRSTAT, _ => R.DR_TRSTAT
  | .DR_TWIN, ix => R.DR_TWIN (ix.getD 0 0)
  | .GL_CCTL, ix => R.GL_CCTL (ix.getD 0 0) (ix.getD 1 0)
  | .GL_CTL, ix => R.GL_CTL (ix.getD 0 0)
  | .GL_ECC, ix => R.GL_ECC (ix.getD 0 0)
  | .GL_FREC0, ix => R.GL_FREC0 (ix.getD 0 0)
  | .GL_FREC1, ix => R.GL_FREC1 (ix.getD 0 0)
  | .GL_FREC2, ix => R.GL_FREC2 (ix.getD 0 0)
  | .GL_ROSE0, ix => R.GL_ROSE0 (ix.getD 0 0) (ix.getD 1 0)
  | .GL_ROSE1, ix => R.GL_ROSE1 (ix.getD 0 0) (ix.getD 1 0)
  | .GL_ROSECTL, ix => R.GL_ROSECTL (ix.getD 0 0) (ix.getD 1 0)
  | .GL_ROSELIVE0, ix => R.GL_ROSELIVE0 (ix.getD 0 0) (ix.getD 1 0)
  | .GL_ROSELIVE1, ix => R.GL_ROSELIVE1 (ix.getD 0 0) (ix.getD 1 0)
  | .GL_SMBASE, ix => R.GL_SMBASE (ix.getD 0 0)
  | .GL_STAT, ix => R.GL_STAT (ix.getD 0 0)
  | .GL_SUPTO, ix => R.GL_SUPTO (ix.getD 0 0)
  | .GL_TCTL, ix => R.GL_TCTL (ix.getD 0 0) (ix.getD 1 0) (ix.getD 2 0)
  | .GL_TSOFT, ix => R.GL_TSOFT (ix.getD 0 0)
  | .GL_TSTAT, ix => R.GL_TSTAT (ix.getD 0 0) (ix.getD 1 0) (ix.getD 2 0)
  | .GL_CP2CFG, ix => R.GL_CP2CFG (ix.getD 0 0)
  | .GL_CP2STAT, ix => R.GL_CP2STAT (ix.getD 0 0)
  | .GL_CPSTAT, ix => R.GL_CPSTAT (ix.getD 0 0)
  | .GL_FCCTL, ix => R.GL_FCCTL (ix.getD 0 0)
  | .GL_FCID, ix => R.GL_FCID (ix.getD 0 0)
  | .GL_FCINFO, ix => R.GL_FCINFO (ix.getD 0 0)
  | .GL_FCLOAD, ix => R.GL_FCLOAD (ix.getD 0 0)
  | .GL_FCSTAT, ix => R.GL_FCSTAT (ix.getD 0 0)
  | .GL_GENCMD, ix => R.GL_GENCMD (ix.getD 0 0)
  | .GL_GENSTAT, ix => R.GL_GENSTAT (ix.getD 0 0)
  | .HI_BAR2, _ => R.HI_BAR2
  | .HI_CFG, _ => R.HI_CFG
  | .HI_ERR, _ => R.HI_ERR
  | .HI_LINK, _ => R.HI_LINK
  | .HI_QCFG, ix => R.HI_QCFG (ix.getD 0 0)
  | .HI_QCNT, ix => R.HI_QCNT (ix.getD 0 0)
  | .HI_QIDX, ix => R.HI_QIDX (ix.getD 0 0)
  | .HI_QITR, ix => R.HI_QITR (ix.getD 0 0)
  | .HI_QRXBASE, ix => R.HI_QRXBASE (ix.getD 0 0)
  | .HI_QSTAT, ix => R.HI_QSTAT (ix.getD 0 0)
  | .HI_QTXBASE, ix => R.HI_QTXBASE (ix.getD 0 0)
  | .HO_CFG, _ => R.HO_CFG
  | .HO_CNT, _ => R.HO_CNT
  | .HO_DOMSEL, _ => R.HO_DOMSEL
  | .HO_DOMSTAT, _ => R.HO_DOMSTAT
  | .HO_ERR, _ => R.HO_ERR
  | .HO_LATE, _ => R.HO_LATE
  | .HO_OCC, _ => R.HO_OCC
  | .HO_PART, _ => R.HO_PART
  | .HO_VCNT0, _ => R.HO_VCNT0
  | .HO_VCNT1, _ => R.HO_VCNT1
  | .LD_ANQ0, _ => R.LD_ANQ0
  | .LD_ANQ1, _ => R.LD_ANQ1
  | .LD_ANSTAT, _ => R.LD_ANSTAT
  | .LD_CFG, _ => R.LD_CFG
  | .LD_ECC, _ => R.LD_ECC
  | .LD_EXPIDX, _ => R.LD_EXPIDX
  | .LD_EXPRING, _ => R.LD_EXPRING
  | .LD_EXPSTAT, _ => R.LD_EXPSTAT
  | .LD_KIND, ix => R.LD_KIND (ix.getD 0 0)
  | .LD_OCC, _ => R.LD_OCC
  | .LD_QSTAT, ix => R.LD_QSTAT (ix.getD 0 0)
  | .LD_REPAIR, ix => R.LD_REPAIR (ix.getD 0 0)
  | .LD_STAT, _ => R.LD_STAT
  | .LD_SWCMD, _ => R.LD_SWCMD
  | .LD_SWEEP, _ => R.LD_SWEEP
  | .LD_TDEF, ix => R.LD_TDEF (ix.getD 0 0)
  | .LD_TMO, ix => R.LD_TMO (ix.getD 0 0)
  | .PH_BIND, ix => R.PH_BIND (ix.getD 0 0)
  | .PH_CFG, _ => R.PH_CFG
  | .PH_OCNT, ix => R.PH_OCNT (ix.getD 0 0)
  | .PH_OUT, ix => R.PH_OUT (ix.getD 0 0)
  | .PH_STAT, _ => R.PH_STAT
  | .PT_GCLBASE, ix => R.PT_GCLBASE (ix.getD 0 0)
  | .PT_GCLCTL, ix => R.PT_GCLCTL (ix.getD 0 0)
  | .PT_PCFG, ix => R.PT_PCFG (ix.getD 0 0)
  | .PT_PSTAT, ix => R.PT_PSTAT (ix.getD 0 0)
  | .PT_QSCH, ix => R.PT_QSCH (ix.getD 0 0) (ix.getD 1 0)
  | .PT_RED, ix => R.PT_RED (ix.getD 0 0)
  | .PT_TMR, ix => R.PT_TMR (ix.getD 0 0)
  | .PT_TSDLY, ix => R.PT_TSDLY (ix.getD 0 0)
  | .PW_CFG, _ => R.PW_CFG
  | .PW_DOM, ix => R.PW_DOM (ix.getD 0 0)
  | .PW_LSHED, _ => R.PW_LSHED
  | .PW_LSTAT, _ => R.PW_LSTAT
  | .PW_THERM, _ => R.PW_THERM
  | .PW_TLIM, _ => R.PW_TLIM
  | .PW_VMON, _ => R.PW_VMON
  | .RL_ALARM, _ => R.RL_ALARM
  | .RL_ALMASK, _ => R.RL_ALMASK
  | .RL_CNT, _ => R.RL_CNT
  | .RL_CTL, _ => R.RL_CTL
  | .RL_FAULT, _ => R.RL_FAULT
  | .RL_FENCE, _ => R.RL_FENCE
  | .RL_FORCE, _ => R.RL_FORCE
  | .RL_GALSTAT, _ => R.RL_GALSTAT
  | .RL_PHASE, _ => R.RL_PHASE
  | .RL_TKSTAT, _ => R.RL_TKSTAT
  | .SM_AGCFG, ix => R.SM_AGCFG (ix.getD 0 0)
  | .SM_AGCNT, ix => R.SM_AGCNT (ix.getD 0 0)
  | .SM_CFG, _ => R.SM_CFG
  | .SM_CHMAP, _ => R.SM_CHMAP
  | .SM_CHSTAT, ix => R.SM_CHSTAT (ix.getD 0 0)
  | .SM_RDCFG, _ => R.SM_RDCFG
  | .SM_RDSTAT, _ => R.SM_RDSTAT
  | .SM_SPARE, _ => R.SM_SPARE
  | .ST_AGE, ix => R.ST_AGE (ix.getD 0 0)
  | .ST_DMAADDR, _ => R.ST_DMAADDR
  | .ST_DMACTL, _ => R.ST_DMACTL
  | .ST_DMASTAT, _ => R.ST_DMASTAT
  | .ST_MOVE, ix => R.ST_MOVE (ix.getD 0 0)
  | .ST_MTR, ix => R.ST_MTR (ix.getD 0 0)
  | .ST_PCFG, ix => R.ST_PCFG (ix.getD 0 0)
  | .ST_PCNT, ix => R.ST_PCNT (ix.getD 0 0)
  | .ST_PERR, ix => R.ST_PERR (ix.getD 0 0)
  | .ST_PMOV, ix => R.ST_PMOV (ix.getD 0 0)
  | .ST_SPERR, _ => R.ST_SPERR
  | .ST_SSTAT, _ => R.ST_SSTAT
  | .SY_BOOT, _ => R.SY_BOOT
  | .SY_BUSERR, _ => R.SY_BUSERR
  | .SY_IDENT, _ => R.SY_IDENT
  | .SY_RST, _ => R.SY_RST
  | .TK_CFG, _ => R.TK_CFG
  | .TK_CHAN, ix => R.TK_CHAN (ix.getD 0 0)
  | .TK_DOLCFG, ix => R.TK_DOLCFG (ix.getD 0 0)
  | .TK_DOLSTAT, ix => R.TK_DOLSTAT (ix.getD 0 0)
  | .TK_FREL, _ => R.TK_FREL
  | .TK_GRP, ix => R.TK_GRP (ix.getD 0 0)
  | .TK_LOCK, ix => R.TK_LOCK (ix.getD 0 0)
  | .TK_RREC0, _ => R.TK_RREC0
  | .TK_RREC1, _ => R.TK_RREC1
  | .TK_RSTAT, _ => R.TK_RSTAT
  | .TK_STAT, _ => R.TK_STAT
  | .TK_WGRP, ix => R.TK_WGRP (ix.getD 0 0) (ix.getD 1 0)
  | .TL_LIM, ix => R.TL_LIM (ix.getD 0 0)
  | .TL_LOST, _ => R.TL_LOST
  | .TL_STAT, _ => R.TL_STAT
  | .TL_WEAR, _ => R.TL_WEAR
  | .XC_CAPIDX, _ => R.XC_CAPIDX
  | .XC_CAPRING, _ => R.XC_CAPRING
  | .XC_CAPSTAT, _ => R.XC_CAPSTAT
  | .XC_CFG, _ => R.XC_CFG
  | .XC_COL, ix => R.XC_COL (ix.getD 0 0)
  | .XC_ERR, _ => R.XC_ERR
  | .XC_LENERR, _ => R.XC_LENERR
  | .XC_GRP, ix => R.XC_GRP (ix.getD 0 0)
  | .XC_MIRCNT, ix => R.XC_MIRCNT (ix.getD 0 0)
  | .XC_MIRSES, ix => R.XC_MIRSES (ix.getD 0 0)
  | .XC_PCNT, ix => R.XC_PCNT (ix.getD 0 0)
  | .XC_PLLOST, _ => R.XC_PLLOST
  | .XC_PLMAP, _ => R.XC_PLMAP
  | .XC_PLMOVE, _ => R.XC_PLMOVE
  | .XC_PORT, ix => R.XC_PORT (ix.getD 0 0)
  | .XC_RESLIM, ix => R.XC_RESLIM (ix.getD 0 0)
  | .XC_ROWREF, ix => R.XC_ROWREF (ix.getD 0 0)
  | .XC_ROWSTAT, ix => R.XC_ROWSTAT (ix.getD 0 0)
  | .XC_ROWTHR, ix => R.XC_ROWTHR (ix.getD 0 0)

/-- The registers of the 1 MiB block (R507), of a gallery window (0x20) or of a BAR4 function area (0x40). -/
def blockRegs : Nat → List RegId
  | 0x0 => [.SY_BOOT, .SY_BUSERR, .SY_IDENT, .SY_RST]
  | 0x1 => [.PW_CFG, .PW_DOM, .PW_LSHED, .PW_LSTAT, .PW_THERM, .PW_TLIM, .PW_VMON]
  | 0x2 => [.CK_ISLCFG, .CK_ISLSTAT, .TB_CTL, .TB_FREQ, .TB_NOW_HI, .TB_NOW_LO, .TB_PPS, .TB_STAT, .TB_STEP, .TB_TICK, .TB_UTC]
  | 0x3 => [.PT_GCLBASE, .PT_GCLCTL, .PT_PCFG, .PT_PSTAT, .PT_QSCH, .PT_RED, .PT_TMR, .PT_TSDLY]
  | 0x4 => [.AS_EDDYCFG, .AS_EDDYSTAT, .AS_EXCCFG, .AS_EXCCNT, .AS_KSEL, .AS_PCFG, .AS_PSTAT, .AS_RCMD, .AS_RSTAT, .AS_RVER]
  | 0x5 => [.ST_AGE, .ST_DMAADDR, .ST_DMACTL, .ST_DMASTAT, .ST_MOVE, .ST_MTR, .ST_PCFG, .ST_PCNT, .ST_PERR, .ST_PMOV, .ST_SPERR, .ST_SSTAT]
  | 0x6 => [.DR_AFF, .DR_CFG, .DR_CHIST, .DR_CLOAD, .DR_CQ, .DR_GSTAT, .DR_HTO, .DR_PCNT, .DR_PSTAT, .DR_TCTL, .DR_TRCTL, .DR_TRRING, .DR_TRSTAT, .DR_TWIN]
  | 0x7 => [.HO_CFG, .HO_CNT, .HO_DOMSEL, .HO_DOMSTAT, .HO_ERR, .HO_LATE, .HO_OCC, .HO_PART, .HO_VCNT0, .HO_VCNT1]
  | 0x8 => [.LD_ANQ0, .LD_ANQ1, .LD_ANSTAT, .LD_CFG, .LD_ECC, .LD_EXPIDX, .LD_EXPRING, .LD_EXPSTAT, .LD_KIND, .LD_OCC, .LD_QSTAT, .LD_REPAIR, .LD_STAT, .LD_SWCMD, .LD_SWEEP, .LD_TDEF, .LD_TMO]
  | 0x9 => [.XC_CAPIDX, .XC_CAPRING, .XC_CAPSTAT, .XC_CFG, .XC_COL, .XC_ERR, .XC_LENERR, .XC_GRP, .XC_MIRCNT, .XC_MIRSES, .XC_PCNT, .XC_PLLOST, .XC_PLMAP, .XC_PLMOVE, .XC_PORT, .XC_RESLIM, .XC_ROWREF, .XC_ROWSTAT, .XC_ROWTHR]
  | 0xA => [.BN_BAD, .BN_ERR, .BN_QUOTA, .BN_ROWCFG, .BN_ROWSTAT]
  | 0xB => [.TK_CFG, .TK_CHAN, .TK_DOLCFG, .TK_DOLSTAT, .TK_FREL, .TK_GRP, .TK_LOCK, .TK_RREC0, .TK_RREC1, .TK_RSTAT, .TK_STAT, .TK_WGRP]
  | 0xC => [.PH_BIND, .PH_CFG, .PH_OCNT, .PH_OUT, .PH_STAT]
  | 0xD => [.HI_BAR2, .HI_CFG, .HI_ERR, .HI_LINK, .HI_QCFG, .HI_QCNT, .HI_QIDX, .HI_QITR, .HI_QRXBASE, .HI_QSTAT, .HI_QTXBASE]
  | 0xE => [.CG_CTL, .CG_GRANT, .CG_RIGHTS]
  | 0xF => [.SM_AGCFG, .SM_AGCNT, .SM_CFG, .SM_CHMAP, .SM_CHSTAT, .SM_RDCFG, .SM_RDSTAT, .SM_SPARE]
  | 0x10 => [.RL_ALARM, .RL_ALMASK, .RL_CNT, .RL_CTL, .RL_FAULT, .RL_FENCE, .RL_FORCE, .RL_GALSTAT, .RL_PHASE, .RL_TKSTAT]
  | 0x11 => [.BG_AGE, .BG_CFG, .BG_KA, .BG_LIFE, .BG_SCRUB]
  | 0x12 => [.TL_LIM, .TL_LOST, .TL_STAT, .TL_WEAR]
  | 0x13 => [.DB_BP, .DB_CTL, .DB_GTRCFG, .DB_GTRCTL, .DB_GTRRING, .DB_GTRSTAT, .DB_STAT, .DB_TCMD, .DB_WP]
  | 0x20 => [.GL_CCTL, .GL_CTL, .GL_ECC, .GL_FREC0, .GL_FREC1, .GL_FREC2, .GL_ROSE0, .GL_ROSE1, .GL_ROSECTL, .GL_ROSELIVE0, .GL_ROSELIVE1, .GL_SMBASE, .GL_STAT, .GL_SUPTO, .GL_TCTL, .GL_TSOFT, .GL_TSTAT, .GL_CP2CFG, .GL_CP2STAT, .GL_CPSTAT, .GL_FCCTL, .GL_FCID, .GL_FCINFO, .GL_FCLOAD, .GL_FCSTAT, .GL_GENCMD, .GL_GENSTAT]
  | 0x40 => [.CG_DOOR, .CG_EVIDX, .CG_EVLOST, .CG_GSTAT, .CG_STAT]
  | _ => []

end Sys2Proof.Machine
end

