-- ==== Sys2Proof/Machine/State.lean ====
section
/-!
DEFINITION. The state of the block as plain data, the reasons a command can stop, and the state after reset.
Registers stand in one sparse register file keyed by address; every memory of the device stands in one list of
bytes, each memory in an address space of its own (Ops.lean); each block of the device has a structure for what
the spec gives it beyond its registers and memories.
-/

namespace Sys2Proof.Machine

/-- What the block shows the outside world (the model's own record of its outputs). -/
inductive Out
  /-- a frame leaves a port; the MAC appends its new FCS (R313) and, under a MACsec association (its number, the packet number and the
  confidentiality offset), protects it (R35): the model does not compute the cipher -/
  | wire (port : Nat) (bytes : List Byte) (sec : Option (Nat × Nat × Nat))
  /-- an 802.3 pause or PFC frame leaves a port: the priorities it names and the quanta it gives each (R33) -/
  | pause (port : Nat) (mask : Nat) (quanta : Nat)
  /-- a posted write into host memory, and whether it carries Relaxed Ordering (R350, R353) -/
  | hostWrite (addr : Nat) (bytes : List Byte) (relaxed : Bool)
  /-- an MSI-X message of a function's entry (R354, R377) -/
  | msix (fn : Nat) (entry : Nat)
  /-- the answer to a read over the bus, PCIe or the TAP -/
  | data (src : Nat) (value : Word64)
  /-- a PCIe completion other than success (R344) -/
  | completion (fn : Nat) (kind : Nat)
  /-- an SMBus block read (R497) -/
  | smb (bytes : List Byte)
  /-- a request crosses the port of a Face tile (R206): gallery, tag, function, the two operands, posted -/
  | faceReq (g : Nat) (tag : Nat) (fn : Nat) (a : Nat) (b : Nat) (post : Bool)
  /-- bits shifted out of the TAP (R500) -/
  | tdo (bits : List Bool)
  /-- a pin of J1 to J3 takes a level: its number in the pin table of the model -/
  | pin (name : Nat) (level : Bool)
  /-- a frame reaches the Overman's receive buffer (R421) -/
  | overman (code : Nat) (bytes : List Byte)
  deriving DecidableEq, Repr

/-- A 32-byte tub (R17), bits numbered as the spec numbers them. -/
abbrev Tub := BitVec 256

/-- Where a frame stands between its arrival and its tub (the packet path, R13 to R16). -/
inductive FStage
  /-- received by a MAC, not yet accepted by a pipe -/
  | wire
  /-- in a pipe's input FIFO (R75) -/
  | fifo
  /-- taken by an assayer (R76) -/
  | parsing
  /-- parse and lookups ended; waiting in the in-order stage (R87) -/
  | parsed
  /-- took an exception; waiting for its token and its body (R96) -/
  | excepted
  /-- a tub in a Draught admission queue (R129) -/
  | queued
  /-- a job (R131) -/
  | job
  /-- handed to Crosscut (R304) -/
  | switched
  /-- waiting in row 9 to re-enter a pipe (R93) -/
  | eddy
  /-- a host frame held in the transmit engine (R348) -/
  | held
  /-- ended while its body still arrives: the rest of it is only checked and counted -/
  | ending
  deriving DecidableEq, Repr

/-- One learn request (R108). -/
structure Learn where
  mac : Nat := 0
  fid : Nat := 0
  port : Nat := 0
  tclass : Nat := 0
  /-- ms time of the request (R110) -/
  at_ : Nat := 0
  deriving DecidableEq, Repr

/-- One frame in the device, under the model's own handle. -/
structure Frame where
  stage : FStage := .wire
  /-- row memory that holds the body (R14) -/
  row : Nat := 0
  /-- R19 encoding -/
  inPort : Nat := 0
  pipe : Nat := 0
  /-- bytes from destination address to FCS -/
  data : List Byte := []
  /-- bytes written into cells so far -/
  stored : Nat := 0
  /-- first cell (R20) -/
  cell : Option Nat := none
  bodyDone : Bool := false
  fcsOk : Bool := true
  beyond : Bool := false
  trunc : Bool := false
  /-- short stamp (R11) -/
  stamp : Nat := 0
  tsValid : Bool := false
  secOk : Bool := false
  /-- arrival index (R75) -/
  idx : Nat := 0
  /-- header window length n recorded at the first admission (R15) -/
  winLen : Nat := 0
  /-- edited header of a frame that re-enters from Eddy (R95) -/
  eh : List Byte := []
  ver : Nat := 0
  /-- its version was retired, so its end changes no count (R92) -/
  retired : Bool := false
  pass : Nat := 0
  eddyNew : Bool := false
  /-- order domain and sequence, once it has them (R87) -/
  dom : Nat := 0
  seq : Nat := 0
  hasSeq : Bool := false
  /-- the EDDY ticket it holds (R297) -/
  ticket : Option Nat := none
  /-- it holds an Eddy credit (R93) -/
  credit : Bool := false
  /-- row-9 cell that holds its edited header (R93) -/
  eddyCell : Option Nat := none
  /-- the field vector (R79) -/
  fv : BitVec 1024 := 0
  /-- action of the winning rule (R84) -/
  act : Word64 := 0
  tub : Tub := 0
  /-- the sequence that Lode's GEN gave its job (R252) -/
  gen : Option Nat := none
  /-- job-context words 30 and 31 (R153) -/
  word30 : Word64 := 0
  word31 : Word64 := 0
  /-- the exception it took (R96) -/
  exc : Option Nat := none
  /-- dropped at the pipe, waiting for its turn in the in-order stage (R85) -/
  dropped : Bool := false
  /-- learn request to make when its FCS is verified good (R108) -/
  learn : Option Learn := none
  /-- indexed before the first commit took effect in its pipe (R102) -/
  notReady : Bool := false
  /-- the job template's host queue pair on the exception path or on a host-directed frame -/
  qp : Nat := 0
  /-- the winning rule asked for twin dispatch (R84) -/
  twin : Bool := false
  /-- mirror session of the winning rule (R84) -/
  mirror : Nat := 0
  /-- the host queue pair that sent it (R347) -/
  txQp : Nat := 0
  /-- the low 128 bits of its transmit descriptor (R347) -/
  txDesc : Nat := 0
  deriving DecidableEq, Repr

/-- State of one assayer (R75), with the frame it parses. -/
structure Assayer where
  frame : Nat := 0
  pc : Nat := 0
  cur : Nat := 0
  p0 : BitVec 16 := 0
  p1 : BitVec 16 := 0
  p2 : BitVec 16 := 0
  p3 : BitVec 16 := 0
  prof : Nat := 0
  steps : Nat := 0
  /-- header window -/
  wv : List Byte := []
  fv : BitVec 1024 := 0
  ver : Nat := 0
  deriving DecidableEq, Repr

/-- A rule entry of the rule banks, which hold the same rules in all four pipes (R82, R83). -/
structure Rule where
  key : BitVec 512 := 0
  mask : BitVec 512 := 0
  action : Word64 := 0
  profile : Nat := 0
  inA : Bool := false
  inB : Bool := false
  /-- the entry's parity is good (R103) -/
  parity : Bool := true
  deriving DecidableEq, Repr

/-- Assay (R73 to R103). Registers AS_RVER, AS_EDDYSTAT and the rest hold their own fields. -/
structure Assay where
  /-- header windows waiting, oldest first, per pipe -/
  fifo : Tab (List Nat) := []
  /-- next arrival index per pipe -/
  nextIdx : Tab Nat := []
  /-- frames accepted and not yet issued, in arrival order, per pipe (R87) -/
  order : Tab (List Nat) := []
  /-- assayers at work, keyed pipe × 16 + assayer -/
  assayers : Tab Assayer := []
  rules : Tab Rule := []
  /-- the rule version in force in each pipe (R90) -/
  pipeVer : Tab Nat := []
  /-- pipes in which no commit has taken effect since reset answer false (R102) -/
  ready : Tab Bool := []
  /-- the staging copy of R91 is running -/
  copying : Bool := false
  /-- tokens of each exception bucket in millionths, less the full bucket (R97): a missing entry is a full bucket -/
  excTokens : Tab (Option Nat) := []
  /-- exceptions dropped since the last record per code -/
  excDrops : Tab Nat := []
  /-- next sequence per order domain (R87) -/
  nextSeq : Tab Nat := []
  /-- weighted round robin of Eddy and host per pipe (R74): twice the frames served in a row, plus 1 for the host -/
  wrr : Tab Nat := []
  /-- frames that each rule dropped, keyed pipe × 32,768 + rule (R85) -/
  dropCnt : Tab Nat := []
  deriving DecidableEq, Repr

/-- The station and stream tables (R104 to R124) beyond their registers. -/
structure Tables where
  /-- station entries (R106), keyed pipe × 262,144 + index; a missing entry is clear with good parity -/
  station : Tab (BitVec 128) := []
  /-- stream entries (R115) -/
  stream : Tab (BitVec 128) := []
  learnQ : Tab (List Learn) := []
  /-- next index each pipe's sweep visits (R112) -/
  sweepAt : Tab Nat := []
  /-- committed and excess tokens of each meter in bits; a missing entry is full (R118) -/
  meters : Tab (Option (Nat × Nat × Nat)) := []
  /-- stream writes staged under the lock, oldest first -/
  staged : List (Nat × BitVec 128) := []
  /-- the DMA job in progress: op, table, index, count, Seam address -/
  dma : Option (Nat × Nat × Nat × Nat × Nat) := none
  /-- the clear of R124 has not ended -/
  clearing : Bool := true
  /-- the Overman's own copies of static station entries and of stream entries (R119, R120) -/
  stationCopy : Tab (BitVec 128) := []
  /-- static station entries lost to bad parity that the Overman has not rewritten yet (R119), keyed as `station` -/
  lost : List Nat := []
  streamCopy : Tab (BitVec 128) := []
  deriving DecidableEq, Repr

/-- Bin (R324 to R339). Free and reserved counts stand in BN_ROWSTAT, quota use in BN_QUOTA. -/
structure Bin where
  /-- cell entries (R325), keyed row × 32,768 + cell; a missing entry is a free cell -/
  cells : Tab Word64 := []
  /-- head of the threaded part of each row's free list -/
  head : Tab (Option Nat) := []
  /-- the unthreaded rest of each row's free list: intervals of free cells in ascending order; none: every cell -/
  rest : Tab (Option (List (Nat × Nat))) := []
  /-- unused reservations, keyed row × 2^20 + owner tag (R326) -/
  resv : Tab Nat := []
  /-- rows whose ports hold their link partners with pause or PFC (R33) -/
  pausing : Tab Bool := []
  /-- Bin has stopped granting (R337) -/
  stopped : Bool := false
  /-- host receive buffers posted per queue pair (R324) -/
  posted : Tab Nat := []
  /-- parties whose reclaim scan is due outside the order of R407 (R333) -/
  due : List Party := []
  deriving DecidableEq, Repr

/-- A Crosscut descriptor (R303) with what the model keeps beside its 256 bits: the cells it accounts for, the
port or queue pair it is bound for, its capture fields and whether a Hold checks its residence (R317). -/
structure Desc where
  w : BitVec 256 := 0
  n : Nat := 0
  port : Nat := 63
  qp : Nat := 0
  trunc : Nat := 0
  dom : Nat := 0
  seq : Nat := 0
  /-- exception code of a frame from the exception path (R96), else the tub's template (R349) -/
  exc : Nat := 0
  /-- direction of a capture (R320) -/
  dir : Nat := 0
  check : Bool := false
  /-- sent once already and interrupted by a Hold (R317): no second mirror copy -/
  again : Bool := false
  frame : Nat := 0
  /-- the sequence that Lode's GEN gave the frame's job (R42, R252) -/
  gen : Option Nat := none
  /-- the frame's stream asks for sequence generation (R115): the sequence goes out in an R-tag -/
  rtag : Bool := false
  deriving DecidableEq, Repr

/-- A tub handed to Crosscut (R304). -/
structure EnqReq where
  /-- 0 Hoist, 1 row 10, 2 row 11, 3 exception path (R309) -/
  src : Nat := 0
  tub : Tub := 0
  eh : List Byte := []
  winLen : Nat := 0
  orig : Bool := true
  psel : Nat := 0
  frame : Nat := 0
  /-- owner tag of the frame's cells (R326) -/
  tag : Nat := 0
  /-- header cell that holds the edited header (R304, R93) -/
  hdr : Nat := 0
  qp : Nat := 0
  exc : Nat := 0
  mirror : Nat := 0
  deriving DecidableEq, Repr

/-- Crosscut (R302 to R323). -/
structure Crosscut where
  /-- enqueue requests waiting, oldest first -/
  reqs : List EnqReq := []
  /-- requests bound for column 9, waiting for their Eddy enqueue (R93) -/
  eddy : List EnqReq := []
  /-- crosspoint queues, keyed ((plane × 12 + row) × 12 + column) × 8 + class -/
  xp : Tab (List Desc) := []
  /-- port egress queues, keyed port × 8 + queue; columns 8 to 11 deliver from keys (24 + column) × 8 + queue -/
  pq : Tab (List Desc) := []
  /-- accounted cells (R307), keyed (row × 12 + column) × 8 + class -/
  q : Tab Nat := []
  /-- rotation of each column over its crosspoint queues (R312) -/
  turn : Tab Nat := []
  /-- station time at which a port's hold window ends (R317) -/
  holdEnd : Tab Nat := []
  /-- matching frames seen by each mirror session since en := 1 (R319) -/
  samples : Tab Nat := []
  /-- ring units of the capture records between rd_idx and wr_idx, oldest first (R320) -/
  capRecs : List Nat := []
  /-- the Overman's own copies of group entries (R308) -/
  groupCopy : Tab Word64 := []
  /-- XC_ROWREF refusals of the tuning period, keyed row × 8 + class (R321) -/
  refused : Tab Nat := []
  /-- lowest free count of each row in the tuning period -/
  freeMin : Tab (Option Nat) := []
  deriving DecidableEq, Repr

/-- A Hoist ticket (R288). -/
structure Ticket where
  dom : Nat := 0
  seq : Nat := 0
  cls : Nat := 0
  /-- R290 code; 0 is FREE -/
  st : Nat := 0
  /-- the jobs that hold it, gallery × 2,048 + slot -/
  jobs : List Nat := []
  frame : Nat := 0
  /-- order of admission -/
  order : Nat := 0
  /-- the limit timer: RUN and EDDY time used, in 2^-16 ns, and the instant from which the present run counts (R294) -/
  used : Nat := 0
  since : Nat := 0
  /-- the timer pauses for a thread in HOLD of a job that holds the ticket, under lim_freeze (R504) -/
  paused : Bool := false
  /-- a twin ticket owns the frame's cells itself (R296) -/
  twin : Bool := false
  /-- the release taken: tub, edited header, port select, and the job it came from -/
  rel : Option (Tub × List Byte × Nat × Nat) := none
  deriving DecidableEq, Repr

/-- Hoist (R288 to R301). -/
structure Hoist where
  tickets : Tab Ticket := []
  heads : Tab Nat := []
  /-- station time at which each domain's head last advanced -/
  headAt : Tab Nat := []
  order : Nat := 0
  deriving DecidableEq, Repr

/-- A node named in a queue: job slot, node number, the slot's generation, and when it became ready. -/
structure NodeRef where
  slot : Nat := 0
  node : Nat := 0
  gen : Nat := 0
  at_ : Nat := 0
  deriving DecidableEq, Repr

/-- A helper operation or release that Draught has dispatched (R136): gallery, kind and operand of the node, and the
rule version of the job. -/
structure EngineOp where
  g : Nat := 0
  kind : Nat := 0
  op : Nat := 0
  ref : NodeRef := {}
  ver : Nat := 0
  frame : Nat := 0
  /-- a Lode helper's number in the order of its gallery's port, and its home quadrant (R245, R249) -/
  num : Nat := 0
  quad : Nat := 0
  deriving DecidableEq, Repr

/-- A job slot that is not FREE (R142). -/
structure Job where
  /-- R142 code -/
  st : Nat := 1
  /-- Draught's own copy of the tub -/
  tub : Tub := 0
  tmpl : Nat := 0
  frame : Nat := 0
  /-- node counters 0 to 15 (R135) -/
  cnt : List Nat := []
  /-- nodes dispatched and not complete, with their dispatch instants -/
  out : List (Nat × Nat) := []
  /-- nodes complete, bit per node -/
  done : Nat := 0
  /-- thread nodes now on a thread -/
  running : Nat := 0
  ticket : Nat := 0
  /-- unused reserved cells -/
  resv : Nat := 0
  row : Nat := 0
  winLen : Nat := 0
  /-- the void came from Hoist (R140) -/
  hoistVoid : Bool := false
  /-- station time at which DRAIN began (R422) -/
  drainAt : Nat := 0
  pipe : Nat := 0
  /-- the frame's cells belong to the ticket (R296) -/
  twin : Bool := false
  /-- the exception code under which the frame goes on when the job has ended (R244) -/
  leave : Option Nat := none
  deriving DecidableEq, Repr

/-- An entry of a gallery's delay list (R139): the deadline in 2^-16 ns of station time. -/
structure Delay where
  due : Nat := 0
  /-- instant of entry -/
  entered : Nat := 0
  ref : NodeRef := {}
  deriving DecidableEq, Repr

/-- Draught (R125 to R148). -/
structure Draught where
  /-- admission queues of frame handles, keyed pipe × 2 + 1 for class 7 and pipe × 2 for main -/
  adm : Tab (List Nat) := []
  /-- round-robin pointer of each pipe; missing: 6 × pipe (R132) -/
  rr : Tab (Option Nat) := []
  jobs : Tab Job := []
  gens : Tab Nat := []
  /-- ready nodes of each gallery, oldest first -/
  ready : Tab (List NodeRef) := []
  /-- core queues, keyed gallery × 8 + core -/
  cq : Tab (List NodeRef) := []
  delays : Tab (List Delay) := []
  /-- gallery cycles at the last read of each core's load (R144), keyed gallery × 8 + core -/
  loadAt : Tab Nat := []
  /-- job-trace records waiting for the ring -/
  trace : List (BitVec 128) := []
  /-- records lost since the last gap record -/
  gap : Nat := 0
  /-- operations handed to an engine, or releases handed to Hoist, and not yet run, oldest first -/
  engine : List EngineOp := []
  /-- completions on their way back: gallery, node, kind, status -/
  returns : List (Nat × NodeRef × Nat × Nat) := []
  deriving DecidableEq, Repr

/-- A record on its way to Tally (R487): code, unit, data words, count, station time. -/
structure TallyReq where
  code : Nat := 0
  unit : Nat := 0
  data : List Nat := []
  count : Nat := 1
  time : Nat := 0
  deriving DecidableEq, Repr

/-- Tally (R486 to R497). -/
structure Tally where
  /-- records on their way, oldest first -/
  transit : List TallyReq := []
  /-- tokens of each code's bucket in thousandths; missing: full (R489) -/
  tokens : Tab (Option Nat) := []
  /-- TL_LIM entries still in force after a write, until the next credit (R489) -/
  limIn : Tab (Option Word64) := []
  /-- suppressed in the present second, per code: count, first and last instants -/
  supp : Tab (Nat × Nat × Nat) := []
  /-- records with their seq, in the input queue or the chunk not yet programmed, oldest first -/
  queue : List (Nat × BitVec 512) := []
  /-- records in the last area and in the first area, by seq -/
  nand : Tab (BitVec 512) := []
  first : Tab (BitVec 512) := []
  nextSeq : Nat := 0
  /-- pool block that the ring writes, and the chunks written in it -/
  block : Nat := 72
  chunks : Nat := 0
  /-- first and last seq that each pool block holds -/
  held : Tab (Nat × Nat) := []
  retired : List Nat := []
  erases : Tab Nat := []
  /-- records lost at a full queue since the last code-0x0004 record -/
  lost : Nat := 0
  /-- the SMBus read pointer: area, index -/
  ptr : Nat × Nat := (0, 0)
  /-- the power state from which DOWN was entered -/
  downFrom : Nat := 0
  /-- Tally has been opened and not closed: a loss of power may leave a chunk torn -/
  lossy : Bool := false
  deriving DecidableEq, Repr
/-- States of a thread (R159). -/
inductive TState
  | free | ready | stall | sleep | hold | fault
  deriving DecidableEq, Repr

/-- The R159 code of a thread state. -/
def TState.code : TState → Nat
  | .free => 0 | .ready => 1 | .stall => 2 | .sleep => 3 | .hold => 4 | .fault => 5

/-- A change of a thread's mode on its way to effect (R164). -/
inductive ModeChange
  | agm (v : BitVec 4)
  | ctl (imask : BitVec 8) (prio : Nat) (win : Nat)
  deriving DecidableEq, Repr

/-- The three regions whose stores are buffered (R182). -/
inductive Region
  | shared | lode | ddr
  deriving DecidableEq, Repr

/-- An entry of a thread's store buffer (R187): a buffered store with the code of its place, or a CP2 operation that waits to read its
argument block (R203). -/
inductive SbEntry
  | store (addr : Nat) (bytes : List Byte)
  | cp2 (id : Nat)
  deriving DecidableEq, Repr

/-- A long load in flight (R182, R187). -/
structure LongLoad where
  dst : Nat := 0
  addr : Nat := 0
  /-- the code of its place -/
  code : Nat := 0
  size : Nat := 4
  signed : Bool := false
  pc : Nat := 0
  /-- entries of the store buffer that must be performed before it is made to memory (R187) -/
  held : Nat := 0
  /-- the bytes, once read or forwarded from the store buffer -/
  data : Option (List Byte) := none
  /-- the bytes met poison or an uncorrectable word -/
  bad : Bool := false
  deriving DecidableEq, Repr

/-- A CP2 or CP3 operation in flight (R196, R202, R207). -/
structure CpOp where
  id : Nat := 0
  cp : Nat := 2
  fn : Nat := 0
  posted : Bool := false
  r : Nat := 0
  a : Nat := 0
  b : Nat := 0
  tag : Nat := 0
  epoch : Nat := 0
  pc : Nat := 0
  /-- argument bytes once the block has been read, and from then on its number in the order of the gallery's port (R245) -/
  args : Option (List Byte) := none
  num : Nat := 0
  /-- home quadrant in whose queue a CP2 operation holds a place (R249) -/
  quad : Nat := 0
  /-- a CP3 request that the logic has taken over its port (R206) -/
  sent : Bool := false
  /-- it has completed at the thread, and a later answer is discarded (R204, R207) -/
  dead : Bool := false
  deriving DecidableEq, Repr

/-- What a sleeping thread waits on (R269, R271, R280, R282). -/
inductive TokWait
  | lock (n : Nat) (r : Nat)
  | word (key : Nat) (r : Nat)
  | event (mask : Nat) (r : Nat) (timed : Bool)
  | channel (c : Nat) (k : Nat) (pop : Bool) (r : Nat)
  deriving DecidableEq, Repr

/-- CP0 state of a thread (R199). -/
structure Cp0 where
  fsel : Nat := 0
  acc : Word32 := 0xFFFFFFFF
  poison : Bool := false
  /-- the next byte under fsel 2 is the second of its pair -/
  odd : Bool := false
  deriving DecidableEq, Repr

/-- CP1 state of a thread (R201): phase, step, accumulators and saturation bits. -/
structure Cp1 where
  ph : Word32 := 0
  dph : Word32 := 0
  a0 : Int × Int := (0, 0)
  a1 : Int × Int := (0, 0)
  a2 : Int × Int := (0, 0)
  a3 : Int × Int := (0, 0)
  sat : BitVec 4 := 0
  deriving DecidableEq, Repr

/-- A hardware thread (R159 to R168, R173 to R191). -/
structure Thread where
  st : TState := .free
  /-- g0 to g15 -/
  g : Vector Word32 16 := Vector.replicate 16 0
  z : Bool := false
  n : Bool := false
  c : Bool := false
  v : Bool := false
  /-- AGM as written, and as addressing uses it (R175) -/
  agm : BitVec 4 := 0
  agmLive : BitVec 4 := 0
  ab0 : Word32 := 0
  al0 : Word32 := 0
  as0 : Word32 := 0
  ab1 : Word32 := 0
  al1 : Word32 := 0
  as1 : Word32 := 0
  ipc : BitVec 14 := 0
  itsw : BitVec 4 := 0
  pc : BitVec 14 := 0
  /-- the word fetched for the next instruction (R154, R190), and whether it came with an uncorrectable error (R191) -/
  fetched : BitVec 14 := 0
  fetchBad : Bool := false
  /-- fields of the EXT words of a running bundle, first EXT first, and the address of the first (R178, R180) -/
  ext : List (BitVec 10) := []
  extPc : BitVec 14 := 0
  sb : List SbEntry := []
  /-- scoreboard bits of g0 to g15 whose result comes with an event (R181) -/
  score : BitVec 16 := 0
  /-- results that come with the cycles: a register, 16 for TSW, and the gallery cycle from which its bit is clear (R181, R184) -/
  busy : List (Nat × Nat) := []
  /-- why the thread is in STALL (R160): the registers it needs, and what has no room: 1 the store buffer, 2 CP2, 3 CP3; 4 the store
  buffer is to drain, 5 a TOK waits -/
  need : List Nat := []
  why : Nat := 0
  /-- gallery cycle of its last issue in an open cycle (R156) -/
  lastOpen : Nat := 0
  loads : List LongLoad := []
  /-- pending interrupt sources (R162) -/
  pend : BitVec 8 := 0
  inHnd : Bool := false
  /-- GL_TCTL's mode fields as they are in force; none: as the register holds them (R164) -/
  ctlLive : Option (BitVec 8 × Nat × Nat) := none
  /-- mode changes with the own instructions still to run under the old mode -/
  delayed : List (Nat × ModeChange) := []
  epoch : BitVec 8 := 0
  /-- the node it runs: job slot, node, generation; none for a thread without a node -/
  node : Option NodeRef := none
  /-- the node has not ended -/
  nodeLive : Bool := false
  /-- issue slots used by the node (R138, R173) -/
  slots : Nat := 0
  cap : Nat := 0
  wait : Option TokWait := none
  /-- a release-kind TOK that waits for the stores before it: function, operand, register, entries to wait for (R187) -/
  rel : Option (Nat × Nat × Nat × Nat) := none
  /-- FENCE or END waits for the store buffer and the scoreboard (R187): 1 FENCE, 2 END -/
  draining : Nat := 0
  cp0 : Cp0 := {}
  cp1 : Cp1 := {}
  late : Word32 := 0
  ops : List CpOp := []
  /-- the state a debugger's halt left (R160) -/
  heldFrom : TState := .ready
  /-- released for one instruction (R502) -/
  stepping : Bool := false
  /-- a reset (0) or a kill (its fault code) that waits for an operation in flight (R196) -/
  owed : Option Nat := none
  deriving DecidableEq, Repr

/-- A Face tile's configuration beyond its registers (R208). -/
structure Face where
  /-- load in progress from this Seam address -/
  loading : Option Nat := none
  bits : Option Nat := none
  /-- configuration frame next to be checked (R211) -/
  scrubAt : Nat := 0
  /-- uncorrectable frames to be rewritten, as they were found -/
  bad : List Nat := []
  deriving DecidableEq, Repr

/-- A gallery (R149 to R172) beyond its registers, memories and threads. -/
structure Gallery where
  /-- fault records, oldest first (R166), at most 16 -/
  faults : List (BitVec 192) := []
  /-- instant at which the record at the head came there (R167) -/
  headAt : Nat := 0
  face : Face := {}
  /-- the generator's copy in progress (R334): its cells' head and the value written to GL_GENCMD -/
  gen : Option (Nat × Word64) := none
  /-- the gallery cycle counter (R154) -/
  cycle : Nat := 0
  /-- instants of the supervisor's faults (R406) -/
  supFaults : List Nat := []
  /-- a change of frequency and voltage on its way (R171): the new frequency -/
  dvfs : Option Nat := none
  /-- core resets that wait for an operation in flight (R196) -/
  owedCore : List Nat := []
  /-- memory words marked uncorrectable, by the address of their first byte (R151) -/
  badWords : List Nat := []
  /-- late errors on their way (R198): thread, carried epoch, coprocessor, code, detail, pc -/
  late : List (Nat × Nat × Nat × Nat × Nat × Nat) := []
  /-- number of the next coprocessor operation -/
  nextOp : Nat := 0
  deriving DecidableEq, Repr

/-- A hardware lock (R268 to R277). -/
structure Lock where
  held : Bool := false
  abandoned : Bool := false
  jobHeld : Bool := false
  /-- owning global thread, or gallery × 2,048 + slot when held by a job -/
  owner : Nat := 0
  /-- waiting threads with their operand registers, oldest first -/
  waiters : List (Nat × Nat) := []
  deriving DecidableEq, Repr

/-- An entry of the held-word table (R271), keyed by the word's identity. -/
structure HeldWord where
  jobHeld : Bool := false
  owner : Nat := 0
  waiters : List (Nat × Nat) := []
  deriving DecidableEq, Repr

/-- The Token board (R266 to R287). -/
structure Token where
  locks : Tab Lock := []
  words : Tab (Option HeldWord) := []
  /-- pending event bits per global thread (R280) -/
  events : Tab (BitVec 16) := []
  /-- staging areas per global thread (R281) -/
  staging : Tab (List Word32) := []
  /-- committed messages per channel, oldest first -/
  chans : Tab (List (List Word32)) := []
  /-- sleeping receivers per channel, oldest first -/
  receivers : Tab (List Nat) := []
  records : List (BitVec 128) := []
  deriving DecidableEq, Repr

/-- A MACsec association (R35, R36): a transmit one (rx = false) or one of a receive channel. Its key cannot be read by
any path; the model holds it to say so. -/
structure MacSa where
  suite : Nat := 0
  sci : Nat := 0
  pn : Nat := 0
  ssci : Nat := 0
  salt : Nat := 0
  key : Nat := 0
  deriving DecidableEq, Repr

/-- PTP role of a port, or of the clock (PTP_CONFIG, R40). -/
structure PtpCfg where
  role : Nat := 0
  profile : Nat := 0
  flags : Nat := 0
  logSync : Nat := 0
  asym : Nat := 0
  inLat : Nat := 0
  egLat : Nat := 0
  deriving DecidableEq, Repr

/-- What a port reports of a two-step event message (R40): its type, sequenceId and the port identity it names, its egress stamp in
0.25 ns, and the correction owed to the message that follows, in 2^-16 ns. -/
structure PtpReport where
  kind : Nat
  seqId : Nat
  ident : Nat
  stamp : Int
  corr : Int
  deriving DecidableEq, Repr

/-- A port beyond its registers (R28 to R50): the running gate list (R46), shaper state (R43), the frame on the wire,
and the configuration that commands set. -/
structure Port where
  /-- running gate list as (gates, interval in 8 ns); empty: every gate open -/
  run : List (Nat × Nat) := []
  /-- instant at which entry 0 starts a cycle -/
  runBase : Nat := 0
  /-- base time of the running list (R46), from which a step of station time starts it again (R63) -/
  listBase : Nat := 0
  /-- running cycle in 2^-16 ns -/
  runCycle : Nat := 0
  /-- after a step: the entry that runs on, until this instant (R63) -/
  keep : Option (Nat × Nat) := none
  /-- entry in force at the last boundary -/
  entry : Nat := 0
  /-- instant of the commit that waits for its changeover -/
  commitAt : Nat := 0
  /-- CBS credit of each queue in bits × 65,536,000 (R43), as of `creditAt` -/
  credit : List Int := List.replicate 8 0
  creditAt : Nat := 0
  deficit : List Nat := List.replicate 8 0
  /-- queue the deficit round robin serves next -/
  turn : Nat := 0
  /-- that queue has had its quantum in this round -/
  served : Bool := false
  /-- the frame in transmission, with its queue -/
  sending : Option (Desc × Nat) := none
  /-- the egress editor has taken it, and its bytes are on their way out: port, bytes, and what MACsec adds (R313) -/
  edited : Bool := false
  tx : List (Nat × List Byte × Option (Nat × Nat × Nat)) := []
  /-- instant at which the frame in transmission, or its present fragment, began -/
  sendAt : Nat := 0
  /-- of the frame in transmission: bytes gone in earlier fragments, and its minimum fragment, 0 for an express frame (R45) -/
  part : Nat × Nat := (0, 0)
  /-- a preemptable frame cut at a fragment boundary (R45) -/
  frag : Option (Desc × Nat) := none
  /-- the same two figures of that frame -/
  cut : Nat × Nat := (0, 0)
  /-- a fragment of a preemptable frame has been sent and the frame waits to resume -/
  resumed : Bool := false
  txCut : List (Nat × List Byte × Option (Nat × Nat × Nat)) := []
  /-- associations: receive × 256 + channel × 4 + association -/
  sas : Tab MacSa := []
  /-- transmit association in use -/
  txAn : Nat := 0
  ptp : PtpCfg := {}
  /-- redundancy sequence of a DAN pair (R42) -/
  redSeq : Nat := 0
  /-- link-ups so far: each has its own alignment error (R39) and its own verify procedure (R45) -/
  linkUps : Nat := 0
  /-- what the port has reported of two-step event messages, for the messages that follow them (R40) -/
  reports : List PtpReport := []
  deriving DecidableEq, Repr

/-- The ports (R28 to R50). -/
structure Ports where
  port : Tab Port := []
  /-- PORT_STATS accumulators, keyed port × 16 + place in the command's reply -/
  stats : Tab Nat := []
  /-- PTP configuration of the clock as a whole -/
  clock : PtpCfg := {}
  /-- the port the servo is slave on, once the best master clock algorithm has chosen a parent (R60) -/
  parent : Option Nat := none
  deriving DecidableEq, Repr

/-- A burst that waits for a data slot of a logical channel (R394). -/
structure SmReq where
  agent : Nat := 0
  chan : Nat := 0
  burst : Nat := 0
  /-- cancelled by a fence, or its agent masked, after the request was made (R396) -/
  stale : Bool := false
  /-- slots waited -/
  wait : Nat := 0
  deriving DecidableEq, Repr

/-- Seam (R382 to R403) beyond its registers. Contents stand in memory by Seam address. -/
structure Seam where
  /-- bursts waiting for a slot, oldest first -/
  reqs : List SmReq := []
  /-- bursts used in the present window, keyed agent × 4 + logical channel, and the number of that window of 10 µs (R393) -/
  used : Tab Nat := []
  window : Nat := 0
  /-- a logical channel whose every burst reads as poison unless listed (R392) -/
  allBad : Tab Bool := []
  /-- burst numbers that differ from their channel's entry in allBad: poison, or good in a poisoned channel -/
  odd : Tab Bool := []
  /-- row open in each bank, keyed logical channel × 16 + bank -/
  opened : Tab (Option Nat) := []
  /-- neighbour queues, keyed by logical channel: (bank, row) (R387) -/
  nq : Tab (List (Nat × Nat)) := []
  /-- channels whose neighbour queue has filled and not yet fallen to 32 -/
  nqFull : Tab Bool := []
  /-- host-window activate tables, keyed logical channel × 16 + bank: (row, count) (R388) -/
  acts : Tab (List (Nat × Nat)) := []
  /-- refreshes since the tables were last cleared, by physical channel -/
  refs : Tab Nat := []
  /-- instant since which every poll has found a doubled channel cool (R386) -/
  cool : Tab (Option Nat) := []
  /-- distinct corrected bursts of each device with the instant of each, keyed physical channel × 18 + device, and the devices that are
  marked, by the same key (R389) -/
  corrs : Tab (List (Nat × Nat)) := []
  marks : List Nat := []
  /-- lane centres moved, by physical channel (R385) -/
  steps : Tab Nat := []
  /-- sparing: logical place being copied, and whether it was started by command (R391, R415) -/
  sparing : Option (Nat × Nat × Bool) := none
  deriving DecidableEq, Repr

/-- Who has asked for a Lode operation (R245): a gallery's port, with the operation's number there, or the software port. -/
inductive LodeBy
  | gallery (g num : Nat)
  | port
  deriving DecidableEq, Repr

/-- A displacement path under way (R236): the argument block it serves, the moves still to make, far end first, as
(from, to) record indices, and whether a recheck failed. -/
structure Kick where
  who : LodeBy := .port
  moves : List (Nat × Nat) := []
  failed : Bool := false
  deriving DecidableEq, Repr

/-- Lode (R232 to R265) beyond its registers. Records stand in memory. -/
structure Lode where
  kicks : List Kick := []
  /-- watch table: record index and deadline of each slot in use (R255) -/
  watch : Tab (Nat × Nat) := []
  anoms : List (BitVec 128) := []
  /-- the Overman's own queue of forwarded anomalies -/
  fwd : List (BitVec 128) := []
  /-- export entries on their way to the ring (R260) -/
  exports : List (List Byte) := []
  /-- next bucket of the sweep, passes made, and whether this pass flushes (R257) -/
  sweepAt : Nat := 0
  passes : Nat := 0
  flushPass : Bool := false
  /-- a flush has been asked for that no pass has taken up -/
  flushAsk : Bool := false
  /-- limits as last written, by class; missing: the reset value (R259) -/
  tmo : Tab (Option Nat) := []
  /-- station times of the corrected errors of the last 24 h per row, keyed bank × 1,024 + row (R263) -/
  rowErrs : Tab (List Nat) := []
  /-- ready Lode helpers of each gallery that a full quadrant queue has turned away (R249) -/
  turned : Tab (List NodeRef) := []
  /-- repairs under way, with the buckets moved: a row by its key, a bank by 2^20 + its number -/
  repairs : Tab (Option Nat) := []
  /-- spare rows used in each bank, rows of each bank with uncorrectable errors, and channels whose spare bank is used -/
  rowsUsed : Tab Nat := []
  badRows : Tab (List Nat) := []
  spareBank : Tab Bool := []
  /-- repairs in effect that the full repair log does not hold, by their keys (R480) -/
  unlogged : List Nat := []
  /-- pinned records lost, which the Overman rewrites from its own copies (R262) -/
  lostPins : List Nat := []
  /-- the Overman's copies of pinned records and of their extensions -/
  pinCopy : Tab (BitVec 512) := []
  deriving DecidableEq, Repr

/-- A fence or a takeover on its way (R406, R418): kind 0 gallery, 1 plane, 2 Seam channel, 3 Overman (0 cores A and B,
1 core C), 4 a unit of group L by its island, 5 Lode quadrant; the unit, the RL_TKSTAT cause, and whether a gallery was
ACTIVE before its fence. -/
structure TkReq where
  kind : Nat := 0
  unit : Nat := 0
  cause : Nat := 0
  was : Bool := false
  deriving DecidableEq, Repr

/-- The relief controller (R404 to R428) beyond its registers. -/
structure Relief where
  /-- faults detected whose units are not fenced yet, in order of detection -/
  detected : List TkReq := []
  /-- fenced units whose reclaim and relief wait (R420), at most 8 -/
  queue : List TkReq := []
  /-- fenced units beyond the queue, which the Overman starts (R420) -/
  beyond : List TkReq := []
  /-- the takeover in progress -/
  cur : Option TkReq := none
  /-- managers of R407 that have reclaimed for the gallery in RECLAIM -/
  reclaimed : Nat := 0
  /-- station time of the fence, for dur_us -/
  since : Nat := 0
  /-- the old gallery of a planned swap, Draught no longer choosing it (R412) -/
  swapOld : Option Nat := none
  /-- galleries that become STANDBY once their slots have drained (R412) -/
  leaving : List Nat := []
  /-- XC_PLMAP before a plane was fenced (R414) -/
  plWas : Option Word64 := none
  /-- last occurrence of each cause of RL_ALARM raised by a single occurrence (R424) -/
  lastAlarm : Tab (Option Nat) := []
  /-- islands fenced that no bit of RL_FENCE shows (R404, group L) -/
  isles : List Nat := []
  /-- copies of Draught's admission logic and of the Token board that have failed (R405) -/
  draughtLost : Nat := 0
  tokenLost : Nat := 0
  /-- the Overman's copy in Seam of each gallery's instruction image (R409): the 16-bit words of its eight cores in order -/
  images : Tab (List Byte) := []
  /-- takeovers since the last cold reset (RELIEF_STATUS) -/
  takeovers : Nat := 0
  deriving DecidableEq, Repr

/-- Debug and trace (R498 to R506) beyond its registers. -/
structure Debug where
  /-- gallery-trace records waiting for the ring -/
  trace : List (BitVec 128) := []
  gap : Nat := 0
  /-- the nonce that stands, and when it was issued (R498) -/
  nonce : Option (Nat × Nat) := none
  /-- the TAP (R500): the code in its instruction register, the boundary register over the pins of J3 in the order of
  their numbers, and EXTEST in force -/
  ir : Nat := 1
  boundary : BitVec 14 := 0
  extest : Bool := false
  deriving DecidableEq, Repr


/-- Background work, the keep-alive island and the ledger (R469 to R485) beyond their registers. -/
structure Background where
  /-- a ledger record is due (R480) -/
  ledgerDue : Bool := false
  /-- KA: the calendar in TAI seconds and the crystal count (R478) -/
  calSec : Nat := 0
  calTick : Nat := 0
  poweredS : Nat := 0
  cycles : Nat := 0
  /-- KA has kept its contents since the last cold reset; BG_KA.ka_valid shows this at a cold reset -/
  kaHeld : Bool := false
  /-- KA's copy of TB_UTC -/
  kaUtc : Word64 := 0
  /-- the thermal-cycle detector (R479), in 1/16 °C: the last minimum, and the maximum since a rise of 20 °C -/
  coldMin : Option Int := none
  coldMax : Option Int := none
  /-- sum and count of the hour's cold-plate samples, in 1/16 °C -/
  hourSum : Int := 0
  hourN : Nat := 0
  /-- powered hours in each band of R479 -/
  bands : Tab Nat := []
  /-- stress of each gallery in 2^-16 equivalent hours (R473) -/
  stress : Tab Nat := []
  rotations : Nat := 0
  calWrites : Nat := 0
  /-- ledger records written and the seq of the newest; its place in the ring -/
  ledgerSeq : Nat := 0
  /-- ageing margin of each island in mV (R472) -/
  margin : Tab Nat := []
  /-- galleries the ledger records as failed -/
  galFailed : Nat := 0
  /-- POLICY_SET: modes that are fixed, parameters where set, stamps of the last changes (R475, R476) -/
  fixed : Tab Bool := []
  param : Tab (Option Nat) := []
  stamps : Tab Nat := []
  /-- hours since any channel went over the refresh policy's count; minutes since a pipe's last freeze -/
  coolHours : Nat := 0
  quiet : Tab Nat := []
  /-- last-written values that policies drive: freq_req of galleries, dbl_c, hold_ms of pipes -/
  freqSet : Tab (Option Nat) := []
  dblSet : Option Nat := none
  holdSet : Tab (Option Nat) := []
  /-- the instant of the last step of a policy (R474, R475): rotation 1, refresh 4, freezes of pipe p 8 + p, thermal of gallery g 16 + g -/
  paced : Tab Nat := []
  /-- junction sensors marked failed, by island (R471) -/
  badSensors : List Nat := []
  /-- the newest telemetry snapshot (R477) -/
  snapshot : List Byte := []
  /-- entries of the repair log (R480) -/
  repairLog : List Nat := []
  /-- bytes staged by CALIB_WRITE (R484) -/
  staged : Tab Byte := []
  deriving DecidableEq, Repr

/-- The timebase and the clock islands (R51 to R72) beyond their registers. -/
structure Timebase where
  /-- tick_exp in force up to the second boundary after the last write of TB_TICK, and the station time of that write (R70) -/
  tick : Nat := 3
  tickSet : Option Nat := none
  /-- consecutive measurements within lock_thr (R62) -/
  okCnt : Nat := 0
  /-- a step at a measurement is still allowed in this ACQUIRE (R63) -/
  mayStep : Bool := true
  /-- steps on their way to effect, oldest first: the instant of arrival at the core, and the step in 2^-16 ns (R63) -/
  steps : List (Nat × Int) := []
  /-- station time at which HOLDOVER was entered -/
  holdAt : Nat := 0
  /-- station time from which the timebase has been LOCKED with the oven ready (R62) -/
  holdFrom : Option Nat := none
  /-- consecutive good 1 s measurements of REFA and REFB (R56) -/
  refRun : Tab Nat := []
  /-- station time at which each of them last qualified (R57) -/
  refAt : Tab Nat := []
  /-- the timebase has left a reference that failed (R57) -/
  moved : Bool := false
  /-- consecutive pulses of 1PPS_IN, and the stamp of the last in 2^-16 ns (R58) -/
  ppsRun : Nat := 0
  ppsLast : Option Int := none
  /-- consecutive IRIG frames, with the TAI second and stamp of the last (R59) -/
  irigRun : Nat := 0
  irigLast : Option (Int × Int) := none
  /-- time quality of the last control-function extension decoded (R59) -/
  irigTq : Option (BitVec 4) := none
  /-- consecutive PTP measurements (R60) -/
  ptpRun : Nat := 0
  /-- level of 1PPS_OUT, and the station time of its last rise -/
  ppsHigh : Bool := false
  ppsRise : Nat := 0
  /-- voltage of each ranged island in mV (R171) -/
  volt : Tab Nat := []
  /-- failures in a row of the tokens of each island (R53) -/
  xfails : Tab Nat := []
  /-- station time at which the timebase last left LOCKED (R223) -/
  leftAt : Option Nat := none
  /-- station time at which the last leap second took effect, and whether a second was deleted (R227) -/
  leapAt : Option Nat := none
  leapDel : Bool := false
  /-- TAI - UTC offsets that have ceased to be in force, each with the station time at which it did, newest first; those of the last
  second are kept (R227) -/
  offs : List (Nat × Int) := []
  /-- correction for the OCXO's temperature in 2^-8 ppb, used in HOLDOVER (R471) -/
  ocxo : Int := 0
  deriving DecidableEq, Repr

/-- A PMU block on its way to the frame builder or held there (R223, R225): its report index with full seconds, STAT without
the bits of the timebase and of the output, magnitude and angle of eight phasors, FREQ and DFREQ as IEEE singles. -/
structure PmuBlock where
  g : Nat := 0
  slot : Nat := 0
  k : Nat := 0
  stat : Nat := 0
  phasors : List (Nat × Nat) := []
  freq : Nat := 0
  dfreq : Nat := 0
  valid : Bool := false
  deriving DecidableEq, Repr

/-- The Overman's copy of a binding (R215, R224): the state block's bytes, its affinity map and its order domain. -/
structure BindCopy where
  block : List Byte := []
  aff : Nat := 0
  dom : Nat := 0
  deriving DecidableEq, Repr

/-- The phasor engine (R214 to R231) beyond its registers and the state blocks in gallery memory. -/
structure Phasor where
  /-- arrival bitmaps, keyed (gallery × 2,048 + slot) × 3 + set (R217) -/
  bits : Tab Nat := []
  /-- smp of sample 0 of each set's window, keyed as the bitmaps (R221) -/
  first : Tab Nat := []
  /-- windows of each block that have closed, by full report index -/
  closed : Tab (List Nat) := []
  /-- blocks on their way to the builder, oldest first -/
  transit : List PmuBlock := []
  /-- blocks at the builder, by binding -/
  held : Tab (List PmuBlock) := []
  /-- last report index sent by each output -/
  sent : Tab (Option Nat) := []
  /-- last valid FREQ of each binding -/
  lastFreq : Tab (Option Nat) := []
  /-- CFG_COUNT of each output, modulo 2^16, and the station time of its last change (R228) -/
  cfgCount : Tab Nat := []
  cfgAt : Tab (Option Nat) := []
  copies : Tab BindCopy := []
  /-- bindings whose state block the Overman has to write again (R224) -/
  rewrite : List Nat := []
  deriving DecidableEq, Repr


/-- Cage control and the Overman (R360 to R381) beyond their registers and areas. -/
structure Cage where
  /-- Overman in charge: 0 cores A and B, 1 core C, 2 none -/
  om : Nat := 0
  /-- dev_state before the takeover in progress -/
  was : Nat := 0
  /-- the function whose request was answered last: the rotation goes on after it (R364) -/
  turn : Nat := 63
  /-- fault records that the Overman has taken, with their galleries, oldest first, at most 1,024: they wait for FAULT_READ (R373) -/
  faults : List (Nat × BitVec 192) := []
  /-- functions whose requests were taken and not answered when a takeover began (R380) -/
  lost : List Nat := []
  /-- event class masks (R377); missing: the default -/
  masks : Tab (Option Nat) := []
  /-- accumulators of RC counters (R368): total found by polls, keyed register address × 64 + lowest bit; bit 63 says that the
  counter was found saturated -/
  acc : Tab Nat := []
  /-- baselines, keyed by function × 2^40 + the accumulator's key -/
  base : Tab Nat := []
  deriving DecidableEq, Repr

/-- The host interface (R340 to R359) beyond its registers, the MSI-X tables and the frames it holds. -/
structure HostIf where
  /-- PERST_N is asserted -/
  perst : Bool := false
  /-- Bus Master Enable and D3hot by function, VF Enable and NumVFs (R352) -/
  bme : Tab Bool := []
  d3 : Tab Bool := []
  /-- functions whose Enable Relaxed Ordering is 0 (R353): it is 1 at reset, and no command of the table writes it (PRESUMED, log entry
  196) -/
  ordered : Tab Bool := []
  vfEn : Bool := false
  numVfs : Nat := 0
  /-- selective IDE streams by function: 0 none, 1 secure, 2 insecure (R357) -/
  ide : Tab Nat := []
  /-- HI_BAR2 as it is in force (R342); none: its reset value -/
  bar2 : Option Word64 := none
  /-- completions not yet signalled by a pair, and the instant of the first (R354) -/
  done : Tab Nat := []
  doneAt : Tab Nat := []
  /-- instant of a pair's last refused ALLOC (R348) -/
  tried : Tab Nat := []
  /-- instant at which a pair's receive direction became STARVED -/
  starved : Tab Nat := []
  /-- pair that the round robin of column 8 serves, and frames it has served in its turn -/
  turn : Nat := 0
  served : Nat := 0
  deriving DecidableEq, Repr

/-- The service bus (R5, R8, R511): discarded expert writes and the second of the last record by function, and refused paired
writes. -/
structure Bus where
  xpCnt : Tab Nat := []
  xpAt : Tab (Option Nat) := []
  rwpCnt : Nat := 0
  deriving DecidableEq, Repr

/-- Start-up (R455 to R468) beyond its registers. -/
structure Boot where
  /-- VMAIN is valid (R437) -/
  vmain : Bool := true
  /-- station time at which the present start began -/
  began : Nat := 0
  /-- a warm reset has been asked for and has not begun (R467) -/
  warmReq : Bool := false
  /-- the start in progress is that of a warm reset -/
  warm : Bool := false
  /-- TRAIN has ended, LODE has ended: they run in parallel (R460) -/
  trained : Bool := false
  lodeUp : Bool := false
  /-- slot that the active-slot word names, 0 A, 1 B -/
  active : Nat := 0
  /-- galleries whose memory self-test failed (R462) -/
  galBad : List Nat := []
  /-- the image asks for a raise of the anti-rollback counter (R459) -/
  raise : Bool := false
  /-- build number of the running image, for IDENTIFY -/
  build : Nat := 0
  deriving DecidableEq, Repr

/-- Power (R437 to R451) beyond its registers. -/
structure Power where
  /-- domains that were on when SHED began from RUN: the run set of R440 -/
  run : List Nat := []
  /-- galleries that were ACTIVE then, and XC_PLMAP as it was (R443, R444) -/
  gals : List Nat := []
  plmap : Option Word64 := none
  /-- the galleries of the Lull set (R441) -/
  lullGals : List Nat := []
  /-- domains whose ramp waits, in request order (R448) -/
  ramp : List Nat := []
  /-- KA holds FAULT_N low after a thermal trip (R451) -/
  tripped : Bool := false
  /-- the instant LULL began, from which the exit time runs (R440) -/
  lullAt : Nat := 0
  /-- speed and width of the PCIe link before Lull lowered them (R441) -/
  link : Option (Nat × Nat) := none
  /-- by island, the instant of its last thermal step (R451) -/
  steps : Tab Nat := []
  deriving DecidableEq, Repr
/-- A Cage event raised and not yet written (R377, R378): code, unit, detail, extra. -/
structure Event where
  code : Nat := 0
  unit : Nat := 0
  detail : Nat := 0
  extra : Nat := 0
  time : Nat := 0
  deriving DecidableEq, Repr

/-- The device: everything but the queue of waiting commands. -/
structure Dev where
  /-- station time in units of 2^-16 ns since the PTP epoch (R10) -/
  now : Nat := 0
  regs : Tab Word64 := []
  mem : List Host.Cell := []
  outbox : List Out := []
  /-- the model's own counter for free values -/
  free : Nat := 0
  frames : Tab Frame := []
  nextFrame : Nat := 0
  events : List Event := []
  as : Assay := {}
  st : Tables := {}
  bn : Bin := {}
  xc : Crosscut := {}
  ho : Hoist := {}
  dr : Draught := {}
  tl : Tally := {}
  threads : Tab Thread := []
  gals : Tab Gallery := []
  tk : Token := {}
  pt : Ports := {}
  sm : Seam := {}
  ld : Lode := {}
  rl : Relief := {}
  db : Debug := {}
  bg : Background := {}
  tb : Timebase := {}
  ph : Phasor := {}
  cg : Cage := {}
  hi : HostIf := {}
  bus : Bus := {}
  bo : Boot := {}
  pw : Power := {}
  /-- R361 device state that every CG_GSTAT shows -/
  devState : Nat := 0
  deriving DecidableEq, Repr

/-- The whole state: the device and the commands that wait, first in, first out. -/
structure State where
  dev : Dev := {}
  pending : List Instr := []
  deriving DecidableEq, Repr

/-- Faults of the model: none. Every error that the spec knows has the effect that the spec gives it (a status, a counter, a record,
a thread's fault state, a device fault of R426), and the machine goes on. -/
inductive Fault
  deriving DecidableEq, Repr

/-- Refusals of the model. -/
inductive Refusal
  /-- Raised by the dispatcher alone, for a command that has no meaning; safe: the model stops. No command raises it at present. -/
  | notModelled (mnemonic : String)
  deriving DecidableEq, Repr

/-- The machine right after a cold reset (R460): VMAIN has become valid, stage STRAPS runs, every register holds its reset value, every
domain is OFF, and no command waits. PERST_N is low, as its pull-down holds it (DESIGN CHOICE). -/
def State.reset : State := { dev := { hi := { perst := true } } }

end Sys2Proof.Machine
end

