-- ==== Sys2Proof/Machine/Ops.lean ====
section
/-!
DEFINITION. The named operations over registers, memories, time and outputs that every meaning is written with.
-/

namespace Sys2Proof.Machine

/-! ## Fields of wide words -/

/-- Bits [lo + w - 1 : lo] of a word, named as the spec names them. -/
structure BF where
  lo : Nat
  w : Nat

def BF.get {n : Nat} (f : BF) (v : BitVec n) : Nat := bitsOf v.toNat f.lo f.w

def BF.put {n : Nat} (f : BF) (v : BitVec n) (x : Nat) : BitVec n :=
  BitVec.ofNat n (v.toNat - bitsOf v.toNat f.lo f.w * 2 ^ f.lo + x % 2 ^ f.w * 2 ^ f.lo)

/-- Little-endian bytes of a number (R2). -/
def leBytes : Nat → Nat → List Byte
  | 0, _ => []
  | n + 1, x => BitVec.ofNat 8 x :: leBytes n (x / 256)

/-- The number little-endian bytes hold. -/
def leNat : List Byte → Nat
  | [] => 0
  | b :: r => b.toNat + 256 * leNat r

/-- Big-endian bytes, as on the wire. -/
def beBytes (n x : Nat) : List Byte := (leBytes n x).reverse

def beNat (bs : List Byte) : Nat := leNat bs.reverse

/-- A list as a number of bytes, cut or padded with zeros. -/
def fit (n : Nat) (bs : List Byte) : List Byte := (bs ++ List.replicate n 0).take n

/-- One bit step of a reflected CRC. -/
def crcStep (poly c : Nat) : Nat := if c % 2 = 1 then (c / 2) ^^^ poly else c / 2

def crcByte (poly c : Nat) (b : Byte) : Nat :=
  let c := c ^^^ b.toNat
  crcStep poly (crcStep poly (crcStep poly (crcStep poly (crcStep poly (crcStep poly (crcStep poly (crcStep poly c)))))))

/-- CRC-32C (Castagnoli), reflected, with initial value and final complement of all ones. -/
def crc32c (bs : List Byte) : Nat := (bs.foldl (crcByte 0x82F63B78) 0xFFFFFFFF) ^^^ 0xFFFFFFFF

/-- CRC-32 of IEEE 802.3, in the same form. -/
def crc32 (bs : List Byte) : Nat := (bs.foldl (crcByte 0xEDB88320) 0xFFFFFFFF) ^^^ 0xFFFFFFFF

/-- Parity of the ones of a number below 2^n. -/
def parityOf : Nat → Nat → Nat
  | 0, _ => 0
  | n + 1, x => (x % 2 + parityOf n (x / 2)) % 2

/-! ## Registers -/

/-- A register's contents. -/
def Dev.rget (d : Dev) (r : Reg) : Word64 := d.regs.get r.reset r.addr

/-- Replace a register's contents. -/
def Dev.rset (d : Dev) (r : Reg) (v : Word64) : Dev := { d with regs := d.regs.set r.reset r.addr v }

/-- A field of a register. -/
def Dev.rd (d : Dev) (r : Reg) (f : Fld) : Nat := f.get (d.rget r)

/-- A one-bit field of a register. -/
def Dev.on (d : Dev) (r : Reg) (f : Fld) : Bool := d.rd r f == 1

/-- Set a field of a register. -/
def Dev.wr (d : Dev) (r : Reg) (f : Fld) (x : Nat) : Dev := d.rset r (f.put (d.rget r) x)

/-- Set a field only when the condition holds. -/
def Dev.wrIf (d : Dev) (c : Bool) (r : Reg) (f : Fld) (x : Nat) : Dev := if c then d.wr r f x else d

/-- A fresh free value below 2^w and the state with the model's counter advanced. -/
def Dev.fresh (d : Dev) (w : Nat) : Nat × Dev :=
  (Config.freeNat w d.free % 2 ^ w, { d with free := d.free + 1 })

/-- Add to a counter field. A counter that saturates stops at its maximum; for a counter of which the spec does not
say that it saturates, a sum beyond the field is a free value (log entry 12). -/
def Dev.inc (d : Dev) (r : Reg) (f : Fld) (n : Nat := 1) : Dev :=
  let x := d.rd r f + n
  if x ≤ f.max then d.wr r f x
  else if f.sat then d.wr r f f.max
  else let (v, d) := d.fresh f.w; d.wr r f v

/-- Raise a high-water mark to the present value. -/
def Dev.markHigh (d : Dev) (r : Reg) (f : Fld) (x : Nat) : Dev := if d.rd r f < x then d.wr r f x else d

/-- Lower a low-water mark to the present value. -/
def Dev.markLow (d : Dev) (r : Reg) (f : Fld) (x : Nat) : Dev := if x < d.rd r f then d.wr r f x else d

/-! ## Memories

One list of bytes holds every memory. Below 2^33 the addresses are those of the register file: areas of BAR0 at their
offsets and Cage areas at 2^32 + function × 0x4000 + offset. -/

/-- Row memory: row, cell, byte in the cell (R324). -/
def rowAddr (row cell off : Nat) : Nat := 2 ^ 40 + (row * 32768 + cell) * 256 + off

/-- A gallery's shared memory, 2 MiB: job contexts, then shared data (R150). -/
def sharedAddr (g off : Nat) : Nat := 2 ^ 41 + g * 2 ^ 21 + off

/-- A core's private data memory, 32 KiB (R149). -/
def privAddr (g c off : Nat) : Nat := 2 ^ 42 + (g * 8 + c) * 2 ^ 15 + off

/-- Seam DDR by Seam byte address (R382). -/
def seamAddr (a : Nat) : Nat := 2 ^ 43 + a

/-- The NOR flash (image slots, calibration, ledger ring), by area and offset. -/
def norAddr (area off : Nat) : Nat := 2 ^ 44 + area * 2 ^ 32 + off

/-- The Overman's working memory that a command can read (calibration staging, forwarded records). -/
def omAddr (off : Nat) : Nat := 2 ^ 45 + off

/-- What a byte that nothing has written reads as: the parse banks hold FAIL 0x20 in every word after reset (R101),
the vector control of every MSI-X entry holds its mask bit (PRESUMED: the PCI Express base specification), and
every other byte reads zero (DESIGN CHOICE where the spec gives no contents, log entry 3). -/
def memDefault (a : Nat) : Byte :=
  if 0xD80000 ≤ a ∧ a < 0xD84100 then (if a % 16 = 12 then 1 else 0)
  else if 2 ^ 32 + 0x4000 ≤ a ∧ a < 2 ^ 32 + 0x100000 ∧ 0x1000 ≤ a % 0x4000 ∧ a % 0x4000 < 0x1800 then (if a % 16 = 12 then 1 else 0)
  else
  if 0x402000 ≤ a ∧ a < 0x404000 then (match a % 4 with | 0 => 0x20 | 3 => 0xD0 | _ => 0) else 0

/-- The canonical form of memory: addresses rise strictly and no entry equals what an unlisted address reads as. -/
def Memory.wf (m : List Host.Cell) : Bool :=
  Tab.risesFrom 0 m && m.all (fun e => decide (e.2 ≠ memDefault e.1))

def Memory.read (m : List Host.Cell) (a : Nat) : Byte := Tab.get m (memDefault a) a

def Memory.write (m : List Host.Cell) (a : Nat) (v : Byte) : List Host.Cell := Tab.set m (memDefault a) a v

def Memory.writes (m : List Host.Cell) (a : Nat) : List Byte → List Host.Cell
  | [] => m
  | b :: r => Memory.writes (Memory.write m a b) (a + 1) r

/-- Strike every listed byte of [lo, hi): they read as unlisted again. -/
def Memory.clear (m : List Host.Cell) (lo hi : Nat) : List Host.Cell :=
  m.filter (fun e => !(decide (lo ≤ e.1) && decide (e.1 < hi)))

def Dev.byte (d : Dev) (a : Nat) : Byte := Memory.read d.mem a

/-- `n` bytes from address `a`. -/
def Dev.bytes (d : Dev) (a : Nat) : Nat → List Byte
  | 0 => []
  | n + 1 => d.byte a :: d.bytes (a + 1) n

/-- A little-endian number of `n` bytes at `a` (R2). -/
def Dev.load (d : Dev) (a n : Nat) : Nat := leNat (d.bytes a n)

def Dev.put (d : Dev) (a : Nat) (bs : List Byte) : Dev := { d with mem := Memory.writes d.mem a bs }

/-- Store a little-endian number of `n` bytes at `a`. -/
def Dev.store (d : Dev) (a n x : Nat) : Dev := d.put a (leBytes n x)

/-- Bytes [lo, hi) return to their reset contents. -/
def Dev.wipe (d : Dev) (lo hi : Nat) : Dev := { d with mem := Memory.clear d.mem lo hi }

/-! ## Station time (R10, R11) -/

/-- Units of 2^-16 ns in a second. -/
def unitsPerSec : Nat := 65536000000000

def secOf (t : Nat) : Nat := t / unitsPerSec
def nsOf (t : Nat) : Nat := t % unitsPerSec / 65536
def fracOf (t : Nat) : Nat := t % 65536

/-- Station time as its 96 bits (R10). -/
def time96 (t : Nat) : Nat := secOf t % 2 ^ 48 * 2 ^ 48 + nsOf t * 2 ^ 16 + fracOf t

/-- The short stamp of an instant (R11). -/
def stampOf (t : Nat) : Nat := secOf t % 2 ^ 24 * 2 ^ 32 + nsOf t * 4 + fracOf t / 16384

/-- Units of 2^-16 ns in some nanoseconds, microseconds, milliseconds. -/
def nsU (n : Nat) : Nat := n * 65536
def usU (n : Nat) : Nat := n * 65536000
def msU (n : Nat) : Nat := n * 65536000000

/-- The instant truncated to 0.25 ns, as R68 compares windows. -/
def quarter (t : Nat) : Nat := t / 16384 * 16384

/-- The ms time of R106. -/
def msTime (t : Nat) : Nat := (secOf t * 1000 + nsOf t / 1000000) % 2 ^ 24

/-! ## Outputs, Tally, events, alarms -/

/-- Something leaves the device. While EXTEST is in force the pins of J3 follow the boundary register (R500), which does not
cover REF_OUT. -/
def Dev.out (d : Dev) (o : Out) : Dev :=
  match o with
  | .pin n _ => if d.db.extest && n != 3 then d else { d with outbox := d.outbox ++ [o] }
  | _ => { d with outbox := d.outbox ++ [o] }

/-- Send a record to Tally (R487): it takes its rate limit and its seq when it arrives (TALLY_RECORD). -/
def Dev.tally (d : Dev) (code unit : Nat) (data : List Nat := []) (count : Nat := 1) : Dev :=
  { d with tl := { d.tl with transit := d.tl.transit ++ [⟨code, unit, data, count, d.now⟩] } }

/-- Raise a Cage event (R377): Cage control writes it later (EVENT_WRITE). -/
def Dev.event (d : Dev) (code unit detail : Nat) (extra : Nat := 0) : Dev :=
  { d with events := d.events ++ [⟨code, unit, detail, extra, d.now⟩] }

/-- ALARM_N is driven while a cause whose mask bit is 1 is present (R424). -/
def Dev.alarmOn (d : Dev) : Bool := (d.rget R.RL_ALARM &&& d.rget R.RL_ALMASK) != 0

/-- After a change of the causes or the mask: a change of the driven level raises event 0x40 and one record. -/
def Dev.alarmEdge (was : Bool) (d : Dev) : Dev :=
  if d.alarmOn = was then d
  else
    let c := (d.rget R.RL_ALARM).toNat
    ((d.out (.pin 1 was)).event 0x40 0 c).tally 0x0F03 0 [c]

/-- Set or clear one alarm cause. -/
def Dev.alarm (d : Dev) (f : Fld) (on : Bool) : Dev := Dev.alarmEdge d.alarmOn (d.wr R.RL_ALARM f (b2n on))

/-- A cause raised by a single occurrence stays for 60 s after the last one (R424). -/
def Dev.alarmOnce (d : Dev) (f : Fld) : Dev :=
  ({ d with rl := { d.rl with lastAlarm := d.rl.lastAlarm.set none f.lo (some d.now) } }).alarm f true

/-- A policy is in fixed mode (R475). -/
def Dev.policyFixed (d : Dev) (p : Nat) : Bool := d.bg.fixed.get false p

/-- A policy acts (R475, R476): it is in automatic mode, start-up is over, and Lull does not suspend it. -/
def Dev.policyOn (d : Dev) (p : Nat) : Bool :=
  let m := d.rd R.PW_LSTAT F.PW_LSTAT_mode
  !d.policyFixed p && d.rd R.SY_BOOT F.SY_BOOT_stage == 11 && (m == 0 || p == 3 || p == 6)

/-- A change that a policy makes writes a record and is stamped (R476): the new value, and the unit it is for (log entry 43). -/
def Dev.policyChange (d : Dev) (p new unit : Nat) : Dev :=
  ({ d with bg := { d.bg with stamps := d.bg.stamps.put p d.now } }).tally 0x1003 p [new, unit]

/-- Count in an accumulator of PORT_STATS: 0 frames in, 1 frames out, 2 bytes in, 3 bytes out, 4 FCS errors, 5 runts,
6 oversize, 7 and 8 pause frames in and out, 9 glitches, 10 link-down events, 11 and 12 MACsec verified and refused,
13 key rolls, 14 packet-number drops, 15 watchdog discards. -/
def Dev.stat (d : Dev) (p i : Nat) (n : Nat := 1) : Dev :=
  { d with pt := { d.pt with stats := d.pt.stats.upd 0 (p * 16 + i) (· + n) } }

def Dev.port (d : Dev) (p : Nat) : Port := d.pt.port.get {} p
def Dev.modPort (d : Dev) (p : Nat) (f : Port → Port) : Dev :=
  { d with pt := { d.pt with port := d.pt.port.set {} p (f (d.port p)) } }

/-! ## Tubs (R17) -/

def T.group : BF := ⟨209, 16⟩
def T.multicast : BF := ⟨208, 1⟩
def T.drop_n : BF := ⟨207, 1⟩
def T.drop : BF := ⟨206, 1⟩
def T.queue_n : BF := ⟨203, 3⟩
def T.queue : BF := ⟨200, 3⟩
def T.dcol_n : BF := ⟨196, 4⟩
def T.dcol : BF := ⟨192, 4⟩
def T.job_slot : BF := ⟨169, 11⟩
def T.gallery : BF := ⟨164, 5⟩
def T.sequence : BF := ⟨144, 20⟩
def T.domain : BF := ⟨128, 16⟩
def T.pass : BF := ⟨123, 2⟩
def T.version : BF := ⟨119, 4⟩
def T.template : BF := ⟨111, 8⟩
def T.tclass : BF := ⟨108, 3⟩
def T.in_port : BF := ⟨102, 6⟩
def T.length : BF := ⟨88, 14⟩
def T.cell : BF := ⟨64, 24⟩
def T.flags : BF := ⟨56, 8⟩
def T.stamp : BF := ⟨0, 56⟩
/-- Flag bits of R18. -/
def T.exc : BF := ⟨62, 1⟩
def T.red_tag : BF := ⟨61, 1⟩
def T.ptp_evt : BF := ⟨60, 1⟩
def T.mirror : BF := ⟨59, 1⟩
def T.twin : BF := ⟨58, 1⟩
def T.sec_ok : BF := ⟨57, 1⟩
def T.ts_valid : BF := ⟨56, 1⟩

/-- Write a complemented field with its complement (R21). -/
def Tub.setCol (t : Tub) (c : Nat) : Tub := T.dcol_n.put (T.dcol.put t c) (15 - c % 16)
def Tub.setQueue (t : Tub) (q : Nat) : Tub := T.queue_n.put (T.queue.put t q) (7 - q % 8)
def Tub.setDrop (t : Tub) (b : Nat) : Tub := T.drop_n.put (T.drop.put t b) (1 - b % 2)

/-- The three complemented pairs agree (R21). -/
def Tub.pairsGood (t : Tub) : Bool :=
  T.dcol.get t + T.dcol_n.get t == 15 && T.queue.get t + T.queue_n.get t == 7 && T.drop.get t + T.drop_n.get t == 1

/-- Reserved tub fields are always written as zero (R23). -/
def Tub.clean (t : Tub) : Tub :=
  BF.put ⟨225, 31⟩ (BF.put ⟨180, 12⟩ (BF.put ⟨125, 3⟩ (BF.put ⟨63, 1⟩ t 0) 0) 0) 0

/-! ## Islands -/

/-- A unit of group L is fenced (R404, R406), by its island. -/
def Dev.isleFenced (d : Dev) (isl : Nat) : Bool := d.rl.isles.contains isl

/-- The power domain that holds an island (R446). -/
def islandDom (i : Nat) : Nat :=
  if i < 38 then i
  else if i < 42 then i - 4
  else if i < 44 then 38
  else if i < 48 then 39
  else if i < 50 then i - 8
  else if i < 58 then i - 24
  else if i < 62 then 38
  else if i < 70 then i - 36
  else if i < 74 then 38
  else if i < 78 then i - 32
  else if i < 84 then 46
  else if i < 86 then 47
  else if i < 88 then 48
  else 49

/-- The range of a ranged island in MHz (R51). -/
def isleRange (isl : Nat) : Option (Nat × Nat) :=
  if isl < 26 then some (200, 1750) else if isl = 86 || isl = 87 then some (100, 800) else if 90 ≤ isl then some (25, 400) else none

/-- The power-domain controller sets an island's voltage (R171): the lowest for its frequency, and the ageing margin (R472). -/
def Dev.setVolt (d : Dev) (isl mhz : Nat) : Dev :=
  { d with tb := { d.tb with volt := d.tb.volt.put isl (Config.minVolt isl mhz + d.bg.margin.get 0 isl) } }

/-- A frequency within the limit that a running Face tile puts on its gallery's island, and within the island's range (R51, R205). -/
def Dev.isleLimit (d : Dev) (isl f : Nat) : Nat :=
  let f := if isl < 26 && d.rd (R.GL_FCSTAT isl) F.GL_FCSTAT_state = 3 then
      f.min (d.rd (R.GL_FCINFO isl) F.GL_FCINFO_fmax_mhz * 2 ^ d.rd (R.GL_FCCTL isl) F.GL_FCCTL_face_div) else f
  match isleRange isl with
  | some (lo, hi) => (f.max lo).min hi
  | none => f

/-- An island's power is good and its PLL locks: a fixed island runs at its one frequency, a ranged one at freq_req (R51). -/
def Dev.isleStart (d : Dev) (isl : Nat) : Dev :=
  let d := d.wr (R.CK_ISLSTAT isl) F.CK_ISLSTAT_lock 1
  match isleRange isl with
  | none => d.wr (R.CK_ISLSTAT isl) F.CK_ISLSTAT_freq_mhz (islandTop isl)
  | some _ =>
    let f := d.isleLimit isl (d.rd (R.CK_ISLCFG isl) F.CK_ISLCFG_freq_req)
    (d.wr (R.CK_ISLSTAT isl) F.CK_ISLSTAT_freq_mhz f).setVolt isl f

/-- An island without power runs at no frequency. -/
def Dev.isleStop (d : Dev) (isl : Nat) : Dev :=
  let d := (d.wr (R.CK_ISLSTAT isl) F.CK_ISLSTAT_lock 0).wr (R.CK_ISLSTAT isl) F.CK_ISLSTAT_freq_mhz 0
  { d with tb := { d.tb with volt := d.tb.volt.del isl } }

/-- The islands of a power domain. -/
def domIsles (k : Nat) : List Nat := (List.range 100).filter (fun i => islandDom i == k)

/-- The state of a power domain (R447). -/
def Dev.domSt (d : Dev) (dom : Nat) : Nat := d.rd (R.PW_DOM dom) F.PW_DOM_state

/-- An island answers: its domain is on, and no fence stands before it. -/
def Dev.islandUp (d : Dev) (i : Nat) : Bool :=
  (d.domSt (islandDom i) == 2 || d.domSt (islandDom i) == 3) && !d.isleFenced i

/-- The fence of a whole domain clamps it (R448). -/
def Dev.clampDom (d : Dev) (dom : Nat) : Dev :=
  if d.domSt dom = 2 || d.domSt dom = 3 then d.wr (R.PW_DOM dom) F.PW_DOM_state 4 else d

/-- Copy memory: bytes [src, src + n) to dst. -/
def Dev.copyMem (d : Dev) (src dst n : Nat) : Dev :=
  let l := d.mem.filter (fun e => decide (src ≤ e.1) && decide (e.1 < src + n))
  let d := d.wipe dst (dst + n)
  { d with mem := l.foldl (fun m e => Memory.write m (e.1 - src + dst) e.2) d.mem }

/-! ## Frames and rule versions -/

/-- The change of version is in effect in every pipe (R90). -/
def Dev.allSwitched (d : Dev) : Bool :=
  (List.range 4).all (fun p => d.as.pipeVer.get 0 p == d.rd R.AS_RVER F.AS_RVER_cur_ver)

/-- The previous version ends and the staging copy starts (R91). -/
def Dev.prevEnds (d : Dev) : Dev :=
  { (d.wr R.AS_RVER F.AS_RVER_prev_live 0) with as := { d.as with copying := true } }

/-- It ends once no tub carries it and no pipe still gives it out. -/
def Dev.prevDrain (d : Dev) : Dev :=
  if d.on R.AS_RVER F.AS_RVER_prev_live && d.rd R.AS_RVER F.AS_RVER_prev_cnt == 0 && d.allSwitched then d.prevEnds else d

/-- A frame is counted with the previous version. -/
def Dev.isPrev (d : Dev) (f : Frame) : Bool :=
  !f.retired && d.on R.AS_RVER F.AS_RVER_prev_live && d.rd R.AS_RVER F.AS_RVER_prev_ver == f.ver

/-- A tub ends (R91): prev_cnt falls if it carries the previous version. Of a frame whose body still arrives, the rest is only
checked and counted. -/
def Dev.tubEnd (d : Dev) (h : Nat) : Dev :=
  match d.frames.find h with
  | none => d
  | some f =>
    let d := { d with frames := if f.bodyDone || 32 ≤ f.inPort then d.frames.del h
                                else d.frames.put h { f with stage := .ending, cell := none, ticket := none, retired := true } }
    if d.isPrev f then (d.wr R.AS_RVER F.AS_RVER_prev_cnt (d.rd R.AS_RVER F.AS_RVER_prev_cnt - 1)).prevDrain else d

/-- The frame whose chain starts at a cell pointer. -/
def Dev.frameAt (d : Dev) (ptr : Nat) : Option Nat :=
  (d.frames.find? (fun e => e.2.cell == some ptr)).map (·.1)

def Dev.frame (d : Dev) (h : Nat) : Frame := d.frames.get {} h

def Dev.setFrame (d : Dev) (h : Nat) (f : Frame) : Dev := { d with frames := d.frames.put h f }

def Dev.modFrame (d : Dev) (h : Nat) (f : Frame → Frame) : Dev :=
  match d.frames.find h with
  | none => d
  | some x => d.setFrame h (f x)

/-! ## The outcome of a command -/

abbrev Outc := Host.Outcome State Fault Refusal

/-- Run an effect on the device and go on. -/
def State.go (s : State) (f : Dev → Dev) : Outc := .next { s with dev := f s.dev }

end Sys2Proof.Machine
end

