-- ==== Sys2Proof/Machine/BinOps.lean ====
section
/-!
DEFINITION. Bin: cell entries, free lists, reservations, quotas and references (R324 to R337), as operations that
the packet path uses and that the Bin commands run.
-/

namespace Sys2Proof.Machine

/-! Cell entry fields (R325). -/
def CE.refs : BF := ⟨56, 8⟩
def CE.owner : BF := ⟨32, 20⟩
def CE.head : BF := ⟨31, 1⟩
def CE.last : BF := ⟨30, 1⟩
def CE.next : BF := ⟨15, 15⟩

/-- A cell pointer (R20). -/
def ptrOf (row idx : Nat) : Nat := row * 2 ^ 20 + idx
def ptrRow (p : Nat) : Nat := bitsOf p 20 4
def ptrIdx (p : Nat) : Nat := bitsOf p 0 15

/-- The range check of R20 and R335. -/
def ptrGood (p : Nat) : Bool := ptrRow p < 12 && bitsOf p 15 5 == 0 && ptrIdx p < rowCells (ptrRow p)

/-- Owner tags (R326). -/
def tagPipe (p : Nat) : Nat := 1 * 2 ^ 16 + p
def tagJob (g slot : Nat) : Nat := 2 * 2 ^ 16 + g * 2048 + slot
def tagTicket (t : Nat) : Nat := 3 * 2 ^ 16 + t
def tagXc : Nat := 4 * 2 ^ 16
def tagEddy : Nat := 5 * 2 ^ 16
def tagHost (q : Nat) : Nat := 6 * 2 ^ 16 + q
def tagOverman : Nat := 7 * 2 ^ 16
def tagGen (g : Nat) : Nat := 8 * 2 ^ 16 + g
def tagBuilder (o : Nat) : Nat := 9 * 2 ^ 16 + o

def tagKind (t : Nat) : Nat := t / 2 ^ 16 % 16
def tagId (t : Nat) : Nat := t % 2 ^ 16

/-- The quota requester of an owner tag (BN_QUOTA numbering); tickets and Crosscut count against none (R330). -/
def quotaOf (tag : Nat) : Option Nat :=
  match tagKind tag with
  | 1 => some (26 + tagId tag % 4)
  | 2 => some (tagId tag / 2048)
  | 5 => some 33
  | 6 => some 30
  | 7 => some 31
  | 8 => some (tagId tag % 32)
  | 9 => some 32
  | _ => none

def Dev.entry (d : Dev) (row idx : Nat) : Word64 := d.bn.cells.get 0 (row * 32768 + idx)

def Dev.setEntry (d : Dev) (row idx : Nat) (v : Word64) : Dev :=
  { d with bn := { d.bn with cells := d.bn.cells.set 0 (row * 32768 + idx) v } }

def Dev.rowFree (d : Dev) (row : Nat) : Nat := d.rd (R.BN_ROWSTAT row) F.BN_ROWSTAT_free
def Dev.rowResv (d : Dev) (row : Nat) : Nat := d.rd (R.BN_ROWSTAT row) F.BN_ROWSTAT_reserved_cnt
/-- F of R307 and R330. -/
def Dev.rowF (d : Dev) (row : Nat) : Nat := d.rowFree row - d.rowResv row

/-- The frames for the ports in UP with flow control whose frames enter on a row (a port quad's row), with the priorities they name:
quanta 0xFFFF holds them and 0 releases them (R33, R48). -/
def Dev.pauseFrames (d : Dev) (row : Nat) (on : Bool) : List Out :=
  ([0, 1, 2, 3].map (fun l => row * 4 + l)).filterMap (fun p =>
    let mode := d.rd (R.PT_PCFG p) F.PT_PCFG_fc_mode
    if d.rd (R.PT_PSTAT p) F.PT_PSTAT_state = 2 && mode != 0 then
      some (.pause p (if mode = 1 then 0xFF else d.rd (R.PT_PCFG p) F.PT_PCFG_pfc_mask) (if on then 0xFFFF else 0))
    else none)

/-- Send the pause or PFC frames of a row's ports. -/
def Dev.sendPause (d : Dev) (row : Nat) (on : Bool) : Dev :=
  (d.pauseFrames row on).foldl (fun d o =>
    match o with
    | .pause p _ _ => (d.out o).stat p 8
    | _ => d) d

/-- Send pause or PFC when F falls below xoff_free, and release it when F reaches xon_free (R33; rows 0 to 7). -/
def Dev.pauseCheck (d : Dev) (row : Nat) : Dev :=
  if 8 ≤ row then d
  else
    let held := d.bn.pausing.get false row
    if !held && d.rowF row < d.rd (R.BN_ROWCFG row) F.BN_ROWCFG_xoff_free then
      ({ d with bn := { d.bn with pausing := d.bn.pausing.set false row true } }).sendPause row true
    else if held && d.rd (R.BN_ROWCFG row) F.BN_ROWCFG_xon_free ≤ d.rowF row then
      ({ d with bn := { d.bn with pausing := d.bn.pausing.set false row false } }).sendPause row false
    else d

/-- Set a row's free and reserved counts, with the marks and the figure Crosscut sees (R307). -/
def Dev.setRow (d : Dev) (row free resv : Nat) : Dev :=
  let d := d.wr (R.BN_ROWSTAT row) F.BN_ROWSTAT_free free
  let d := d.wr (R.BN_ROWSTAT row) F.BN_ROWSTAT_reserved_cnt resv
  let d := d.markLow (R.BN_ROWSTAT row) F.BN_ROWSTAT_free_min free
  let d := d.wr (R.XC_ROWSTAT row) F.XC_ROWSTAT_free (free - resv)
  let d := d.markLow (R.XC_ROWSTAT row) F.XC_ROWSTAT_free_min (free - resv)
  let low := ((d.xc.freeMin.get none row).getD (rowCells row)).min (free - resv)
  let d := { d with xc := { d.xc with freeMin := d.xc.freeMin.set none row (some low) } }
  d.pauseCheck row

/-- Cells that a requester's quota still admits in a row. -/
def Dev.quotaLeft (d : Dev) (tag row : Nat) : Nat :=
  match quotaOf tag with
  | none => rowCells row
  | some q => d.rd (R.BN_QUOTA q row) F.BN_QUOTA_limit - d.rd (R.BN_QUOTA q row) F.BN_QUOTA_used

/-- Change a requester's used count. -/
def Dev.useQuota (d : Dev) (tag row : Nat) (add sub : Nat) : Dev :=
  match quotaOf tag with
  | none => d
  | some q => d.wr (R.BN_QUOTA q row) F.BN_QUOTA_used (d.rd (R.BN_QUOTA q row) F.BN_QUOTA_used + add - sub)

def Dev.quotaRoom (d : Dev) (tag row n : Nat) : Bool :=
  match quotaOf tag with
  | none => true
  | some q => d.rd (R.BN_QUOTA q row) F.BN_QUOTA_used + n ≤ d.rd (R.BN_QUOTA q row) F.BN_QUOTA_limit

def Dev.resvOf (d : Dev) (row tag : Nat) : Nat := d.bn.resv.get 0 (row * 2 ^ 20 + tag)

def Dev.setResv (d : Dev) (row tag n : Nat) : Dev :=
  { d with bn := { d.bn with resv := d.bn.resv.set 0 (row * 2 ^ 20 + tag) n } }

/-- A refused request with its details (R335): BN_ERR counts it, BN_BAD latches it, one record is written. -/
def Dev.binRefuse (d : Dev) (f : Fld) (req tag ptr : Nat) : Dev :=
  let d := d.inc R.BN_ERR f
  let d := d.wr R.BN_BAD F.BN_BAD_req req
  let d := d.wr R.BN_BAD F.BN_BAD_tag tag
  let d := d.wr R.BN_BAD F.BN_BAD_ptr ptr
  let v := (d.rget R.BN_BAD).toNat
  d.tally 0x0D01 (ptrRow ptr) [v % 2 ^ 32, v / 2 ^ 32]

/-- The free list of a row is being rebuilt, Bin has stopped or the row memory is fenced: no pop is served (R336, R337, R339). -/
def Dev.rowBusy (d : Dev) (row : Nat) : Bool := d.bn.stopped || d.on (R.BN_ROWSTAT row) F.BN_ROWSTAT_rebuild || d.isleFenced (50 + row)

/-- A link fault (R336): the row's list is cut and its rebuild starts. -/
def Dev.linkFault (d : Dev) (row : Nat) : Dev :=
  let d := d.wr (R.BN_ROWSTAT row) F.BN_ROWSTAT_rebuild 1
  (d.inc R.BN_ERR F.BN_ERR_link_fault).tally 0x0D02 row

def Dev.restOf (d : Dev) (row : Nat) : List (Nat × Nat) := (d.bn.rest.get none row).getD [(0, rowCells row)]

/-- Pop the head of a row's free list (R327), checking its link (R336). -/
def Dev.pop (d : Dev) (row : Nat) : Option Nat × Dev :=
  if d.rowBusy row || d.rowFree row == 0 then (none, d)
  else
    match d.bn.head.get none row with
    | some c =>
      let low := d.load (rowAddr row c 0) 2
      let neg := d.load (rowAddr row c 2) 2
      let nxt := low % 2 ^ 15
      let last := decide (2 ^ 15 ≤ low)
      if low + neg != 65535 || d.entry row c != 0 || (!last && d.entry row nxt != 0) then (none, d.linkFault row)
      else
        let h := if last || (d.restOf row).head?.map (·.1) == some nxt then none else some nxt
        let d := { d with bn := { d.bn with head := d.bn.head.set none row h } }
        (some c, d.setRow row (d.rowFree row - 1) (d.rowResv row))
    | none =>
      match d.restOf row with
      | [] => (none, d)
      | (a, b) :: t =>
        let r := if a + 1 < b then (a + 1, b) :: t else t
        let d := { d with bn := { d.bn with rest := d.bn.rest.set none row (some r) } }
        (some a, d.setRow row (d.rowFree row - 1) (d.rowResv row))

/-- Push a freed cell at the head of its row's free list, writing its link (R327). -/
def Dev.push (d : Dev) (row c : Nat) : Dev :=
  let nxt := match d.bn.head.get none row with
    | some h => some h
    | none => (d.restOf row).head?.map (·.1)
  let low := match nxt with
    | some n => n
    | none => 2 ^ 15
  let d := d.store (rowAddr row c 0) 8 (low + (65535 - low) * 65536)
  let d := { d with bn := { d.bn with head := d.bn.head.set none row (some c) } }
  (d.setEntry row c 0).setRow row (d.rowFree row + 1) (d.rowResv row)

/-- The cells of a chain from a cell on. -/
def Dev.chain (d : Dev) (row : Nat) : Nat → Nat → List Nat
  | 0, _ => []
  | fuel + 1, c =>
    let e := d.entry row c
    if CE.last.get e = 1 then [c] else c :: d.chain row fuel (CE.next.get e)

/-- The most cells a chain holds: 64 of body and one header cell (R17, R304). -/
def chainMax : Nat := 66

def Dev.chainOf (d : Dev) (ptr : Nat) : List Nat := d.chain (ptrRow ptr) chainMax (ptrIdx ptr)

/-- ALLOC (R328): pop one cell and chain it, or start a chain. Refused when no unreserved cell is free or the
requester's quota is reached. The cell counts against the requester that starts the chain, or against the chain's
present owner (DEDUCED: R330 moves a whole chain's count with its ownership, log entry 44). -/
def Dev.alloc (d : Dev) (row tag : Nat) (at_ : Option Nat) : Option Nat × Dev :=
  if d.rowBusy row || d.rowF row == 0 || !d.quotaRoom tag row 1 then (none, d)
  else
    match d.pop row with
    | (none, d) => (none, d)
    | (some c, d) =>
      let d := d.useQuota (match at_ with | none => tag | some p => CE.owner.get (d.entry row (ptrIdx p))) row 1 0
      match at_ with
      | none =>
        let e := CE.owner.put (CE.head.put (CE.last.put 0 1) 1) tag
        (some (ptrOf row c), d.setEntry row c e)
      | some p =>
        let l := ((d.chainOf p).getLast?).getD (ptrIdx p)
        let d := d.setEntry row l (CE.next.put (CE.last.put (d.entry row l) 0) c)
        (some (ptrOf row c), d.setEntry row c (CE.owner.put (CE.last.put 0 1) tag))

/-- RESERVE n (R330), all or nothing. -/
def Dev.reserve (d : Dev) (row tag n : Nat) (cls7 : Bool) : Bool × Dev :=
  let ok := !d.rowBusy row && d.quotaRoom tag row n
    && (if cls7 then n ≤ d.rowF row else n + d.rd (R.BN_ROWCFG row) F.BN_ROWCFG_c7_cells ≤ d.rowF row)
  if ok then
    let d := d.useQuota tag row n 0
    let d := d.setResv row tag (d.resvOf row tag + n)
    (true, d.setRow row (d.rowFree row) (d.rowResv row + n))
  else (false, d)

/-- While a row's list is being rebuilt, a reserved cell comes from the cell table: a TAKE is not refused (R328, R336; DEDUCED, log
entry 195). -/
def Dev.cutPop (d : Dev) (row : Nat) : Option Nat × Dev :=
  if d.bn.stopped || d.isleFenced (50 + row) || !d.on (R.BN_ROWSTAT row) F.BN_ROWSTAT_rebuild then (none, d)
  else
    match (List.range (rowCells row)).find? (fun c => d.entry row c == 0) with
    | some c => (some c, d.setRow row (d.rowFree row - 1) (d.rowResv row))
    | none => (none, d)

/-- The cell of a TAKE: the head of the free list, or one of the cell table while the list is cut. -/
def Dev.popResv (d : Dev) (row : Nat) : Option Nat × Dev :=
  match d.pop row with
  | (some c, d) => (some c, d)
  | (none, d) => d.cutPop row

/-- TAKE: pop one cell against the holder's reservation. The cell stands alone until APPEND links it. -/
def Dev.take (d : Dev) (row tag : Nat) : Option Nat × Dev :=
  if d.resvOf row tag = 0 then (none, d)
  else
    match d.popResv row with
    | (none, d) => (none, d)
    | (some c, d) =>
      let d := d.setResv row tag (d.resvOf row tag - 1)
      let d := d.setRow row (d.rowFree row) (d.rowResv row - 1)
      (some (ptrOf row c), d.setEntry row c (CE.owner.put (CE.last.put 0 1) tag))

/-- UNRESERVE n: refused when n exceeds the holder's reservation (R328, R335). -/
def Dev.unreserve (d : Dev) (row tag n : Nat) : Dev :=
  if d.resvOf row tag < n then d.binRefuse F.BN_ERR_dbl_free 3 tag (ptrOf row 0)
  else
    let d := d.setResv row tag (d.resvOf row tag - n)
    let d := d.useQuota tag row 0 n
    d.setRow row (d.rowFree row) (d.rowResv row - n)

/-- Write an owner into every cell of a chain. -/
def Dev.ownAll (d : Dev) (row tag : Nat) : List Nat → Dev
  | [] => d
  | c :: r => (d.setEntry row c (CE.owner.put (d.entry row c) tag)).ownAll row tag r

/-- XFER (R329, R330): the whole chain to a new owner, its cells off the old quota and onto the new one. -/
def Dev.xfer (d : Dev) (ptr old new : Nat) : Dev :=
  let row := ptrRow ptr
  if !ptrGood ptr then d.binRefuse F.BN_ERR_ptr_range 4 old ptr
  else if CE.head.get (d.entry row (ptrIdx ptr)) = 0 || CE.owner.get (d.entry row (ptrIdx ptr)) != old then d.binRefuse F.BN_ERR_owner_err 4 old ptr
  else
    let cs := d.chainOf ptr
    let d := (d.useQuota old row 0 cs.length).useQuota new row cs.length 0
    d.ownAll row new cs

/-- APPEND: link a taken cell after the last cell of a chain. -/
def Dev.append (d : Dev) (ptr hdr : Nat) : Dev :=
  let row := ptrRow ptr
  if !ptrGood ptr || !ptrGood hdr || ptrRow hdr != row then d.binRefuse F.BN_ERR_ptr_range 5 0 ptr
  else if CE.head.get (d.entry row (ptrIdx ptr)) = 0 then d.binRefuse F.BN_ERR_dbl_free 5 0 ptr
  else
    let own := CE.owner.get (d.entry row (ptrIdx ptr))
    let l := ((d.chainOf ptr).getLast?).getD (ptrIdx ptr)
    let d := d.setEntry row l (CE.next.put (CE.last.put (d.entry row l) 0) (ptrIdx hdr))
    d.setEntry row (ptrIdx hdr) (CE.owner.put (CE.last.put 0 1) own)

/-- Push every cell of a list. -/
def Dev.pushAll (d : Dev) (row : Nat) : List Nat → Dev
  | [] => d
  | c :: r => (d.push row c).pushAll row r

/-- Free a whole chain, off its owner's quota, and end its tub (R91). -/
def Dev.freeChain (d : Dev) (ptr : Nat) : Dev :=
  let row := ptrRow ptr
  let cs := d.chainOf ptr
  let own := CE.owner.get (d.entry row (ptrIdx ptr))
  let h := d.frameAt ptr
  let d := (d.useQuota own row 0 cs.length).pushAll row cs
  match h with
  | some h => d.tubEnd h
  | none => d

/-- FREE by the chain's owner (R329, R335). -/
def Dev.freeBy (d : Dev) (ptr tag : Nat) : Dev :=
  let e := d.entry (ptrRow ptr) (ptrIdx ptr)
  if !ptrGood ptr then d.binRefuse F.BN_ERR_ptr_range 9 tag ptr
  else if CE.head.get e = 0 then d.binRefuse F.BN_ERR_dbl_free 9 tag ptr
  else if CE.owner.get e != tag then d.binRefuse F.BN_ERR_owner_err 9 tag ptr
  else d.freeChain ptr

/-- SETREF k (R308): the chain goes to Crosscut with its reference count; none frees it at once. -/
def Dev.setref (d : Dev) (ptr tag k : Nat) : Dev :=
  let row := ptrRow ptr
  let e := d.entry row (ptrIdx ptr)
  if !ptrGood ptr then d.binRefuse F.BN_ERR_ptr_range 6 tag ptr
  else if CE.head.get e = 0 || CE.owner.get e != tag then d.binRefuse F.BN_ERR_owner_err 6 tag ptr
  else if k = 0 then d.freeChain ptr
  else
    let d := d.xfer ptr tag tagXc
    d.setEntry row (ptrIdx ptr) (CE.refs.put (d.entry row (ptrIdx ptr)) k)

/-- ADDREF: refused at 255. -/
def Dev.addref (d : Dev) (ptr : Nat) : Bool × Dev :=
  let row := ptrRow ptr
  let e := d.entry row (ptrIdx ptr)
  if !ptrGood ptr then (false, d.binRefuse F.BN_ERR_ptr_range 7 tagXc ptr)
  else if CE.head.get e = 0 then (false, d.binRefuse F.BN_ERR_dbl_free 7 tagXc ptr)
  else if CE.owner.get e != tagXc then (false, d.binRefuse F.BN_ERR_owner_err 7 tagXc ptr)
  else if CE.refs.get e = 255 then (false, d)
  else (true, d.setEntry row (ptrIdx ptr) (CE.refs.put e (CE.refs.get e + 1)))

/-- DROPREF: the reference that brings the count to zero frees the chain. -/
def Dev.dropref (d : Dev) (ptr : Nat) : Dev :=
  let row := ptrRow ptr
  let e := d.entry row (ptrIdx ptr)
  if !ptrGood ptr then d.binRefuse F.BN_ERR_ptr_range 8 tagXc ptr
  else if CE.head.get e = 0 || CE.refs.get e = 0 then d.binRefuse F.BN_ERR_dbl_free 8 tagXc ptr
  else if CE.owner.get e != tagXc then d.binRefuse F.BN_ERR_owner_err 8 tagXc ptr
  else if CE.refs.get e = 1 then d.freeChain ptr
  else d.setEntry row (ptrIdx ptr) (CE.refs.put e (CE.refs.get e - 1))

/-- The queue pairs assigned to a function (R341). -/
def Dev.pairsOf (d : Dev) (fn : Nat) : List Nat :=
  (List.range 1024).filter (fun q => d.on (R.HI_QCFG q) F.HI_QCFG_asg && d.rd (R.HI_QCFG q) F.HI_QCFG_fn == fn)

/-- A chain's or reservation's tag belongs to the party. -/
def Dev.partyOwns (d : Dev) : Party → Nat → Bool
  | .gallery g, t => (tagKind t == 2 && tagId t / 2048 == g.val) || (tagKind t == 8 && tagId t == g.val)
  | .host, t => tagKind t == 6
  | .function fn, t => tagKind t == 6 && (d.pairsOf fn).contains (tagId t)
  | .overman, t => tagKind t == 7

/-- Free every chain of a list of heads. -/
def Dev.freeAll (d : Dev) : List Nat → Dev
  | [] => d
  | p :: r => (d.freeChain p).freeAll r

/-- Return every reservation of a list of keys. -/
def Dev.dropResv (d : Dev) : List (Nat × Nat) → Dev
  | [] => d
  | (k, n) :: r => (d.unreserve (k / 2 ^ 20) (k % 2 ^ 20) n).dropResv r

/-- The reclaim scan (R333): chains of the party are freed; reservations of a gallery or of the host return. -/
def Dev.binReclaim (d : Dev) (p : Party) : Dev :=
  let heads := d.bn.cells.filterMap (fun e =>
    if CE.head.get e.2 = 1 && d.partyOwns p (CE.owner.get e.2) then some (ptrOf (e.1 / 32768) (e.1 % 32768)) else none)
  let resv := d.bn.resv.filter (fun e => d.partyOwns p (e.1 % 2 ^ 20))
  let d := d.freeAll heads
  match p with
  | .function _ | .overman => d
  | _ => d.dropResv resv

/-- Ascending intervals of cells below `n` that a rising list of used cells leaves free. -/
def gaps (n : Nat) : Nat → List Nat → List (Nat × Nat)
  | a, [] => if a < n then [(a, n)] else []
  | a, u :: r => if a < u then (a, u) :: gaps n (u + 1) r else gaps n (u + 1) r

/-- Cells of a row whose entry is not free. -/
def Dev.usedCells (d : Dev) (row : Nat) : List Nat :=
  d.bn.cells.filterMap (fun e => if e.1 / 32768 = row then some (e.1 % 32768) else none)

/-- End of a rebuild (R336, R339): every cell with owner kind 0 is threaded again. -/
def Dev.rebuilt (d : Dev) (row : Nat) : Dev :=
  let used := d.usedCells row
  let d := { d with bn := { d.bn with head := d.bn.head.set none row none, rest := d.bn.rest.set none row (some (gaps (rowCells row) 0 used)) } }
  let d := d.wr (R.BN_ROWSTAT row) F.BN_ROWSTAT_rebuild 0
  d.setRow row (rowCells row - used.length) (d.rowResv row)

/-- Cell conservation and reserved ≤ free (R337). -/
def Dev.conserved (d : Dev) (row : Nat) : Bool :=
  d.rowFree row + (d.usedCells row).length == rowCells row && d.rowResv row ≤ d.rowFree row

/-- Write a list of bytes into the cells of a chain. -/
def Dev.fillCells (d : Dev) (row : Nat) : List Nat → List Byte → Dev
  | [], _ => d
  | c :: r, bs => (d.put (rowAddr row c 0) (bs.take 256)).fillCells row r (bs.drop 256)

/-- Take `n` reserved cells of a row as one chain for a tag. -/
def Dev.takeChain (d : Dev) (row tag : Nat) : Nat → Option Nat → Option Nat × Dev
  | 0, p => (p, d)
  | n + 1, p =>
    match d.take row tag with
    | (none, d) => (p, d)
    | (some c, d) =>
      match p with
      | none => (d.setEntry row (ptrIdx c) (CE.head.put (d.entry row (ptrIdx c)) 1)).takeChain row tag n (some c)
      | some q => (d.append q c).takeChain row tag n (some q)

end Sys2Proof.Machine
end

