-- ==== Sys2Proof/Machine/XcOps.lean ====
section
/-!
DEFINITION. Crosscut: enqueue, thresholds, planes, descriptors, hold and mirror copies (R302 to R323), as operations.
-/

namespace Sys2Proof.Machine

/-! Descriptor fields (R303). -/
def D.stamp : BF := ⟨200, 56⟩
def D.enq : BF := ⟨144, 56⟩
def D.flags : BF := ⟨136, 8⟩
def D.row : BF := ⟨132, 4⟩
def D.hcell : BF := ⟨117, 15⟩
def D.bcell : BF := ⟨102, 15⟩
def D.length : BF := ⟨88, 14⟩
def D.eh_len : BF := ⟨79, 9⟩
def D.win_len : BF := ⟨70, 9⟩
def D.in_port : BF := ⟨64, 6⟩
def D.tclass : BF := ⟨61, 3⟩
def D.dcol : BF := ⟨57, 4⟩
def D.dcol_n : BF := ⟨53, 4⟩
def D.queue : BF := ⟨50, 3⟩
def D.queue_n : BF := ⟨47, 3⟩
def D.drop : BF := ⟨46, 1⟩
def D.drop_n : BF := ⟨45, 1⟩
def D.psel : BF := ⟨43, 2⟩
def D.orig : BF := ⟨42, 1⟩
def D.session : BF := ⟨38, 4⟩
def D.entry : BF := ⟨32, 6⟩
def D.plane : BF := ⟨31, 1⟩

/-- The three complemented pairs of a descriptor agree (R313). -/
def Desc.pairsGood (x : Desc) : Bool :=
  D.dcol.get x.w + D.dcol_n.get x.w == 15 && D.queue.get x.w + D.queue_n.get x.w == 7
    && D.drop.get x.w + D.drop_n.get x.w == 1

/-- Lanes of a port by its width code (PT_PCFG.width). -/
def Dev.portLanes (d : Dev) (p : Nat) : Nat := 2 ^ d.rd (R.PT_PCFG p) F.PT_PCFG_width
def Dev.portOn (d : Dev) (p : Nat) : Bool := d.on (R.PT_PCFG p) F.PT_PCFG_enable

/-- The enabled port that holds a lane. -/
def Dev.portOfLane (d : Dev) (lane : Nat) : Option Nat :=
  (List.range 32).find? (fun p => d.portOn p && p ≤ lane && lane < p + d.portLanes p)

def Dev.hstate (d : Dev) (p : Nat) : Nat := d.rd (R.XC_PORT p) F.XC_PORT_hstate

/-- The plane-map entry of an order domain (R306). -/
def planeEntry (dom : Nat) : Nat := crc32c (leBytes 2 dom) % 64

def Dev.planeOf (d : Dev) (e : Nat) : Nat := b2n (bitAt (d.rget R.XC_PLMAP).toNat e)

def Dev.planeFenced (d : Dev) (pl : Nat) : Bool :=
  if pl = 0 then d.on R.XC_CFG F.XC_CFG_fenced_a else d.on R.XC_CFG F.XC_CFG_fenced_b

/-- A class's k of a row (R307), −5 to +3. -/
def Dev.alphaK (d : Dev) (row cls : Nat) : Int :=
  toSigned 4 (bitsOf (d.rd (R.XC_ROWTHR row) F.XC_ROWTHR_alpha_exp) (4 * cls) 4)

/-- The dynamic threshold of a row and class (R307). -/
def Dev.threshold (d : Dev) (row cls : Nat) : Nat :=
  let k := d.alphaK row cls
  let f := d.rowF row
  (d.rd (R.XC_ROWTHR row) F.XC_ROWTHR_min_cells).max (if 0 ≤ k then 2 ^ k.toNat * f else f / 2 ^ (-k).toNat)

def qKey (row col cls : Nat) : Nat := (row * 12 + col) * 8 + cls
def xpKey (pl row col cls : Nat) : Nat := ((pl * 12 + row) * 12 + col) * 8 + cls
/-- Key of a port's egress queue, or of a column's delivery FIFO (columns 8 to 11). -/
def pqKey (col port q : Nat) : Nat := if col < 8 then port * 8 + q else (24 + col) * 8

def Dev.xpQ (d : Dev) (k : Nat) : List Desc := d.xc.xp.get [] k
def Dev.pqQ (d : Dev) (k : Nat) : List Desc := d.xc.pq.get [] k
def Dev.setXp (d : Dev) (k : Nat) (l : List Desc) : Dev := { d with xc := { d.xc with xp := d.xc.xp.set [] k l } }
def Dev.setPq (d : Dev) (k : Nat) (l : List Desc) : Dev := { d with xc := { d.xc with pq := d.xc.pq.set [] k l } }
def Dev.addQ (d : Dev) (k add sub : Nat) : Dev :=
  { d with xc := { d.xc with q := d.xc.q.set 0 k (d.xc.q.get 0 k + add - sub) } }

/-- The power domain of a column (R446). -/
def columnDomain (col : Nat) : Nat := if col < 8 then 26 + col else 38
def Dev.columnOn (d : Dev) (col : Nat) : Bool :=
  d.domSt (columnDomain col) == 2 && !d.isleFenced (62 + col)

/-- The two ports of a good redundancy pair, this one first (R41). -/
def Dev.pairOf (d : Dev) (p : Nat) : List Nat :=
  if d.rd (R.PT_RED p) F.PT_RED_role = 0 || d.on (R.PT_RED p) F.PT_RED_pair_err then [p]
  else [p, d.rd (R.PT_RED p) F.PT_RED_peer]

/-- The port of a pair whose queue takes a frame: the other one while this one is down, since the frame goes to both (R42). -/
def Dev.pairHome (d : Dev) (p : Nat) : Nat :=
  match d.pairOf p with
  | [_, q] => if d.hstate p ≠ 0 && d.hstate q = 0 then q else p
  | _ => p

/-- One target of an enqueue request (R307, R308, R319). -/
structure Target where
  col : Nat
  port : Nat := 63
  cls : Nat
  orig : Bool
  session : Nat := 0
  qp : Nat := 0
  trunc : Nat := 0
  dir : Nat := 0
  /-- one of several targets of a multicast request -/
  multi : Bool := false

/-- Count a refused target (R307, R308). -/
def Dev.refuseTarget (d : Dev) (t : Target) : Dev :=
  if t.session ≠ 0 then d.inc (R.XC_MIRCNT t.session) F.XC_MIRCNT_dropped
  else if t.port < 32 then
    if t.multi then d.inc (R.XC_PCNT t.port) F.XC_PCNT_mc_part else d.inc (R.XC_PCNT t.port) F.XC_PCNT_thr_drop
  else d

/-- Count a refusal at the threshold of a row and class. -/
def Dev.refuseRow (d : Dev) (row cls : Nat) : Dev :=
  let d := d.inc (R.XC_ROWSTAT row) F.XC_ROWSTAT_refused
  let v := (d.rget (R.XC_ROWREF row)).toNat
  let d := d.rset (R.XC_ROWREF row)
    (BitVec.ofNat 64 (if bitsOf v (8 * cls) 8 < 255 then v + 2 ^ (8 * cls) else v))
  { d with xc := { d.xc with refused := d.xc.refused.set 0 (row * 8 + cls) (d.xc.refused.get 0 (row * 8 + cls) + 1) } }

/-- The descriptor of a target. -/
def EnqReq.desc (r : EnqReq) (d : Dev) (t : Target) (hcell : Nat) (pl e : Nat) : BitVec 256 :=
  let ptr := T.cell.get r.tub
  let put (f : BF) (x : Nat) (w : BitVec 256) := f.put w x
  put D.stamp (T.stamp.get r.tub) <| put D.enq (stampOf d.now) <| put D.flags (T.flags.get r.tub) <|
  put D.row (ptrRow ptr) <| put D.hcell (ptrIdx hcell) <| put D.bcell (ptrIdx ptr) <|
  put D.length (T.length.get r.tub) <| put D.eh_len r.eh.length <| put D.win_len r.winLen <|
  put D.in_port (T.in_port.get r.tub) <| put D.tclass (T.tclass.get r.tub) <| put D.dcol t.col <|
  put D.dcol_n (15 - t.col) <| put D.queue t.cls <| put D.queue_n (7 - t.cls) <| put D.drop 0 <| put D.drop_n 1 <|
  put D.psel r.psel <| put D.orig (b2n t.orig) <| put D.session t.session <| put D.entry e <| put D.plane pl 0

/-- A target of `n` cells that is refused, in the state with its counts: its column is off, its plane is fenced, its port discards (a
multicast target or a mirror copy), its column has no descriptor left, or it is over its threshold (R307 to R309). -/
def Dev.dropsFor (d : Dev) (row pl n : Nat) (t : Target) : Option Dev :=
  if !d.columnOn t.col then some ((d.inc R.PW_LSTAT F.PW_LSTAT_col_off).refuseTarget { t with port := 63 })
  else if d.planeFenced pl then some (d.inc R.XC_PLLOST F.XC_PLLOST_lost)
  else if (t.multi || t.session != 0) && t.port < 32 && d.hstate (d.pairHome t.port) == 1 then some (d.refuseTarget t)
  else if 16384 ≤ d.rd (R.XC_COL t.col) F.XC_COL_occ then some ((d.inc R.XC_ERR F.XC_ERR_desc_full).refuseTarget t)
  else if d.threshold row t.cls < d.xc.q.get 0 (qKey row t.col t.cls) + n then some ((d.refuseRow row t.cls).refuseTarget t)
  else none

/-- Admit or refuse one target (R307 to R309): the number accepted so far and the state after. -/
def Dev.admitTarget (r : EnqReq) (hcell pl e : Nat) (acc : Nat × Dev) (t : Target) : Nat × Dev :=
  let (k, d) := acc
  let row := ptrRow (T.cell.get r.tub)
  let n := (T.length.get r.tub + 255) / 256 + b2n (!t.orig)
  let key := qKey row t.col t.cls
  match d.dropsFor row pl n t with
  | some d => (k, d)
  | none =>
    let x : Desc := { w := r.desc d t hcell pl e, n := n, port := t.port, qp := t.qp, trunc := t.trunc, dom := T.domain.get r.tub,
                      seq := T.sequence.get r.tub, exc := if r.exc ≠ 0 then r.exc else T.template.get r.tub, dir := t.dir, frame := r.frame,
                      gen := (d.frame r.frame).gen, rtag := bitsOf (d.frame r.frame).word30.toNat 54 2 = 2 }
    let d := d.addQ key n 0
    let d := d.wr (R.XC_COL t.col) F.XC_COL_occ (d.rd (R.XC_COL t.col) F.XC_COL_occ + 1)
    let d := d.markHigh (R.XC_COL t.col) F.XC_COL_occ_max (d.rd (R.XC_COL t.col) F.XC_COL_occ)
    let xk := xpKey pl row t.col t.cls
    let d := d.setXp xk (d.xpQ xk ++ [x])
    (k + 1, if t.session ≠ 0 then d.inc (R.XC_MIRCNT t.session) F.XC_MIRCNT_copies else d)

/-- Does a session copy this frame (R319): en, and one frame in every `sample`, the first after en := 1 first. -/
def Dev.sampleHit (d : Dev) (s : Nat) : Bool × Dev :=
  if s = 0 || !d.on (R.XC_MIRSES s) F.XC_MIRSES_en then (false, d)
  else
    let k := d.rd (R.XC_MIRSES s) F.XC_MIRSES_sample
    if k ≤ 1 then (true, d)
    else
      let n := d.xc.samples.get 0 s
      (n % k == 0, { d with xc := { d.xc with samples := d.xc.samples.set 0 s ((n + 1) % k) } })

/-- The target of a mirror copy (R319). -/
def Dev.mirrorTarget (d : Dev) (s : Nat) (orig : Bool) : Option Target :=
  let cls := d.rd (R.XC_MIRSES s) F.XC_MIRSES_queue
  let dir := b2n (!orig)
  let tr := d.rd (R.XC_MIRSES s) F.XC_MIRSES_trunc
  if d.on (R.XC_MIRSES s) F.XC_MIRSES_to_cap then
    some { col := 10, cls := cls, orig := orig, session := s, trunc := tr, dir := dir }
  else
    let p := d.rd (R.XC_MIRSES s) F.XC_MIRSES_dport
    if d.portOn p then some { col := p / 4, port := p, cls := cls, orig := orig, session := s, trunc := tr, dir := dir } else none

/-- Add the mirror copy of a session to the targets; a session whose port is not an enabled port counts a refusal. -/
def Dev.addMirror (acc : List Target × Dev) (s : Nat) : List Target × Dev :=
  let (ts, d) := acc
  match d.sampleHit s with
  | (false, d) => (ts, d)
  | (true, d) =>
    match d.mirrorTarget s true with
    | some t => (ts ++ [t], d)
    | none => (ts, (d.inc R.XC_ERR F.XC_ERR_bad_col).inc (R.XC_MIRCNT s) F.XC_MIRCNT_dropped)

/-- A group entry that holds no target for want of valid or of parity (R308). -/
def Dev.groupGood (d : Dev) (g : Nat) : Bool :=
  d.on (R.XC_GRP g) F.XC_GRP_valid && parityOf 64 (d.rget (R.XC_GRP g)).toNat == 0

/-- The targets of a multicast request (R308). -/
def Dev.groupTargets (d : Dev) (r : EnqReq) (cls : Nat) : List Target :=
  let g := T.group.get r.tub
  let v := d.rget (R.XC_GRP g)
  let bits := F.XC_GRP_ports.get v
  let inP := T.in_port.get r.tub
  let self := if inP < 32 then d.portOfLane inP else none
  let ports := (List.range 32).filter (fun p =>
    bitAt bits p && d.portOn p && !(F.XC_GRP_excl_in.get v == 1 && self == some p))
  ports.map (fun p => { col := p / 4, port := p, cls := cls, orig := r.orig, multi := true })
    ++ (if F.XC_GRP_host.get v = 1 then [{ col := 8, cls := cls, orig := r.orig, qp := F.XC_GRP_qp.get v, multi := true }] else [])
    ++ (if F.XC_GRP_overman.get v = 1 then [{ col := 11, cls := cls, orig := r.orig, multi := true }] else [])

/-- Give up one hold on a frame's cells: the owner frees them, or Crosscut's reference is dropped. -/
def Dev.releaseFrame (d : Dev) (ptr : Nat) : Dev :=
  if CE.owner.get (d.entry (ptrRow ptr) (ptrIdx ptr)) = tagXc then d.dropref ptr else d.freeChain ptr

/-- Hand the frame's cells to Crosscut with `k` references. A frame whose cells Crosscut already holds (a copy of an
Eddy frame is still leaving) exchanges its own reference for `k` (log entry 21). -/
def Dev.giveRefs (d : Dev) (ptr k : Nat) : Dev :=
  let e := d.entry (ptrRow ptr) (ptrIdx ptr)
  if CE.owner.get e = tagXc then
    if k = 0 then d.dropref ptr
    else d.setEntry (ptrRow ptr) (ptrIdx ptr) (CE.refs.put e (CE.refs.get e - 1 + k))
  else d.setref ptr (CE.owner.get e) k

/-- A bad group entry is recorded and rewritten from the Overman's copy (R308). -/
def Dev.groupRepair (d : Dev) (g : Nat) : Dev :=
  if parityOf 64 (d.rget (R.XC_GRP g)).toNat == 0 then d
  else (d.tally 0x0C02 g).rset (R.XC_GRP g) (d.xc.groupCopy.get 0 g)

/-- The enqueue of one request (R304 to R308, R319). A target at column 9 is handed back in the second component:
the Eddy credit and the pass limit take the place of the threshold there (R307), and EDDY_ENQUEUE applies them. -/
def Dev.enqueue (d : Dev) (r : EnqReq) : Bool × Dev :=
  let ptr := T.cell.get r.tub
  let col := T.dcol.get r.tub
  let cls := T.queue.get r.tub
  let mc := T.multicast.get r.tub == 1
  -- a job's release carries its own port select (R305)
  let r := if r.src = 0 || 12 ≤ col then r else { r with psel := d.rd (R.XC_COL col) F.XC_COL_dflt_psel }
  if !r.tub.pairsGood then
    (false, (((d.inc R.XC_ERR F.XC_ERR_cmpl_in).tally 0x0C01 col [0]).releaseFrame ptr))
  else if 12 ≤ col then (false, (d.inc R.XC_ERR F.XC_ERR_bad_col).releaseFrame ptr)
  else if T.drop.get r.tub = 1 then (false, d.releaseFrame ptr)
  else if !d.on R.XC_CFG F.XC_CFG_en then (false, d.releaseFrame ptr)
  else
    let e := planeEntry (T.domain.get r.tub)
    let pl := d.planeOf e
    let eddy := !mc && col == 9
    let hdr := r.hdr
    let (targets, d) :=
      if mc then (d.groupTargets r cls, d)
      else if col < 8 then
        match d.portOfLane (4 * col + r.psel) with
        | some p => ([{ col := col, port := p, cls := cls, orig := r.orig }], d)
        | none => ([], d.inc R.XC_ERR F.XC_ERR_bad_col)
      else if col = 9 then ([], d)
      else ([{ col := col, cls := cls, orig := r.orig, qp := r.qp, dir := if col = 10 then 2 else 0 }], d)
    let targets := if mc && !d.groupGood (T.group.get r.tub) then [] else targets
    let d := if mc then d.groupRepair (T.group.get r.tub) else d
    let inP := T.in_port.get r.tub
    let imir := match (if inP < 32 then d.portOfLane inP else none) with
      | some p => d.rd (R.XC_PORT p) F.XC_PORT_imir
      | none => 0
    let (copies, d) := Dev.addMirror (Dev.addMirror ([], d) r.mirror) imir
    let (k, d) := (targets ++ copies).foldl (Dev.admitTarget r hdr pl e) (0, d)
    (eddy, d.giveRefs ptr (k + b2n eddy))

/-! ## Descriptors on their way -/

/-- A target's end: its cells leave the accounting, its descriptor is free and its reference is released (R307, R308). -/
def Dev.descEnd (d : Dev) (x : Desc) : Dev :=
  let col := D.dcol.get x.w
  let d := d.addQ (qKey (D.row.get x.w) col (D.queue.get x.w)) 0 x.n
  let d := d.wr (R.XC_COL col) F.XC_COL_occ (d.rd (R.XC_COL col) F.XC_COL_occ - 1)
  d.dropref (ptrOf (D.row.get x.w) (D.bcell.get x.w))

def Dev.descEnds (d : Dev) : List Desc → Dev
  | [] => d
  | x :: r => (d.descEnd x).descEnds r

/-- Frames in the egress queues of a port. -/
def Dev.portQueued (d : Dev) (p : Nat) : Nat :=
  ((List.range 8).map (fun q => (d.pqQ (p * 8 + q)).length)).foldl (· + ·) 0

def Dev.syncQueued (d : Dev) (p : Nat) : Dev := d.wr (R.XC_PORT p) F.XC_PORT_queued (d.portQueued p)

/-- Free every frame of one egress queue, each counted in a field of the port. -/
def Dev.freeQueue (d : Dev) (p q : Nat) (r : Reg) (f : Fld) : Dev :=
  let l := d.pqQ (p * 8 + q)
  let d := (d.setPq (p * 8 + q) []).descEnds l
  (d.inc r f l.length).syncQueued p

/-- Free every frame in a port's egress queues (R316, R317). -/
def Dev.freePort (d : Dev) (p : Nat) (r : Reg) (f : Fld) : Dev :=
  (List.range 8).foldl (fun d q => d.freeQueue p q r f) d

/-- A head that a plane move holds back (R310), or that stands in a fenced plane (R311). -/
def Dev.headHeld (d : Dev) (pl : Nat) (x : Desc) : Bool :=
  let e := D.entry.get x.w
  d.planeFenced pl || (bitAt (d.rget R.XC_PLMOVE).toNat e && d.planeOf e == pl)

/-- The crosspoint queues of a column that hold a movable head, in rotation order after `t`, as plane × 96 + row × 8 + class. -/
def Dev.movable (d : Dev) (col t : Nat) : List Nat :=
  ((List.range 192).map (fun i => (t + 1 + i) % 192)).filter (fun i =>
    match d.xpQ (xpKey (i / 96) (i / 8 % 12) col (i % 8)) with
    | [] => false
    | x :: _ => !d.headHeld (i / 96) x)

/-- Class-7 heads go first; the others in rotation (R312). -/
def Dev.pickMove (d : Dev) (col : Nat) : Option Nat :=
  let l := d.movable col (d.xc.turn.get 191 col)
  match l.filter (fun i => i % 8 == 7) with
  | i :: _ => some i
  | [] => l.head?

/-- Old-plane descriptors of a plane-map entry. -/
def Dev.oldPlaneHolds (d : Dev) (e : Nat) : Bool :=
  d.xc.xp.any (fun k => k.1 / (12 * 12 * 8) != d.planeOf e && k.2.any (fun x => D.entry.get x.w == e))

/-- A write of XC_PLMAP (R310): refused when it changes an entry whose moving bit is set. -/
def Dev.plmapWrite (d : Dev) (v : Word64) : Dev :=
  let old := d.rget R.XC_PLMAP
  let mv := d.rget R.XC_PLMOVE
  let diff := old ^^^ v
  if diff &&& mv ≠ 0 then d
  else
    let d := d.rset R.XC_PLMAP v
    let now := (List.range 64).foldl (fun (a : Nat) e => if bitAt diff.toNat e && d.oldPlaneHolds e then a + 2 ^ e else a) 0
    d.rset R.XC_PLMOVE (mv ||| BitVec.ofNat 64 now)

/-- A fenced plane: its crosspoint queues are reclaimed and every map entry goes to the other plane (R311). -/
def Dev.planeReclaim (d : Dev) (pl : Nat) : Dev :=
  let lost := d.xc.xp.filter (fun k => k.1 / (12 * 12 * 8) == pl)
  let d := lost.foldl (fun d k =>
    ((d.setXp k.1 []).descEnds k.2).inc R.XC_PLLOST F.XC_PLLOST_lost k.2.length) d
  let d := d.rset R.XC_PLMAP (if pl = 0 then BitVec.allOnes 64 else 0)
  d.rset R.XC_PLMOVE 0

/-- Bytes of a chain's stored frame, `len` of them. -/
def Dev.frameBytes (d : Dev) (ptr len : Nat) : List Byte :=
  ((d.chainOf ptr).flatMap (fun c => d.bytes (rowAddr (ptrRow ptr) c 0) 256)).take len

/-- Length with FCS of the frame a descriptor sends (R314). -/
def Desc.mergedLen (x : Desc) : Nat :=
  if D.orig.get x.w = 1 then D.length.get x.w else D.length.get x.w - D.win_len.get x.w + D.eh_len.get x.w

/-- The bytes of that frame without its FCS (R313). The window of a frame of 256 bytes or fewer holds its FCS too; the
cut leaves the length R313 gives. -/
def Dev.mergedBytes (d : Dev) (x : Desc) : List Byte :=
  let row := D.row.get x.w
  let body := d.frameBytes (ptrOf row (D.bcell.get x.w)) (D.length.get x.w - 4)
  if D.orig.get x.w = 1 then body
  else (d.bytes (rowAddr row (D.hcell.get x.w) 0) (D.eh_len.get x.w) ++ body.drop (D.win_len.get x.w)).take (x.mergedLen - 4)

/-- A mirror copy with trunc ≠ 0 stops after trunc × 64 bytes (R319). -/
def Desc.cut (x : Desc) (bs : List Byte) : List Byte := if x.trunc = 0 then bs else bs.take (x.trunc * 64)

end Sys2Proof.Machine
end

