-- ==== Sys2Proof/Machine/GalOps.lean ====
section
/-!
DEFINITION. Threads, fault records and the Token board's locks, as operations (R149 to R170, R266 to R279).
-/

namespace Sys2Proof.Machine

/-- Global thread number (R12). -/
def thrKey (g c t : Nat) : Nat := g * 64 + c * 8 + t

def Dev.thr (d : Dev) (k : Nat) : Thread := d.threads.get {} k
def Dev.setThr (d : Dev) (k : Nat) (t : Thread) : Dev := { d with threads := d.threads.set {} k t }
def Dev.modThr (d : Dev) (k : Nat) (f : Thread → Thread) : Dev := d.setThr k (f (d.thr k))

def Dev.gal (d : Dev) (g : Nat) : Gallery := d.gals.get {} g
def Dev.modGal (d : Dev) (g : Nat) (f : Gallery → Gallery) : Dev := { d with gals := d.gals.set {} g (f (d.gal g)) }
/-! ### The input queues of Lode's quadrants (R249) -/

def Dev.quadFull (d : Dev) (q : Nat) : Bool := decide (1024 ≤ d.rd (R.LD_QSTAT q) F.LD_QSTAT_q_depth)
def Dev.joinQueue (d : Dev) (q : Nat) : Dev := d.wr (R.LD_QSTAT q) F.LD_QSTAT_q_depth (d.rd (R.LD_QSTAT q) F.LD_QSTAT_q_depth + 1)
def Dev.leaveQueue (d : Dev) (q : Nat) : Dev := d.wr (R.LD_QSTAT q) F.LD_QSTAT_q_depth (d.rd (R.LD_QSTAT q) F.LD_QSTAT_q_depth - 1)

/-- The next number for an operation of a gallery's coprocessors or of its Lode port. -/
def Dev.opNumber (d : Dev) (g : Nat) : Nat × Dev := ((d.gal g).nextOp, d.modGal g (fun x => { x with nextOp := x.nextOp + 1 }))

/-- The supervisor is thread 7 of core 0 (R12). -/
def isSup (k : Nat) : Bool := k % 64 == 7
def supOf (g : Nat) : Nat := g * 64 + 7

def Dev.galState (d : Dev) (g : Nat) : Nat := d.rd (R.GL_STAT g) F.GL_STAT_state
/-- Draught admits only to ACTIVE galleries (R169). -/
def Dev.galActive (d : Dev) (g : Nat) : Bool := d.galState g == 3

/-- Set a gallery's state, and its bit in RL_GALSTAT.active. -/
def Dev.setGalState (d : Dev) (g s : Nat) : Dev :=
  let d := d.wr (R.GL_STAT g) F.GL_STAT_state s
  d.wr R.RL_GALSTAT F.RL_GALSTAT_active (withBit (d.rd R.RL_GALSTAT F.RL_GALSTAT_active) g (s == 3))

/-- A gallery's reset is over: INIT gives way to STANDBY (R170). -/
def Dev.resetOver (d : Dev) (g : Nat) : Dev := if d.galState g = 1 then d.setGalState g 2 else d

/-- The relief controller reclaims for a gallery, and `n` managers of R407 have ended. -/
def Dev.reclaiming (d : Dev) (g n : Nat) : Bool :=
  d.rd R.RL_TKSTAT F.RL_TKSTAT_step == 2 && d.rl.reclaimed == n
    && (match d.rl.cur with | some r => r.kind == 0 && r.unit == g | none => false)

def Dev.reclaimNext (d : Dev) : Dev := { d with rl := { d.rl with reclaimed := d.rl.reclaimed + 1 } }

/-- Effective mode fields of a thread: imask, prio, ddr_win (R164). -/
def Dev.ctl (d : Dev) (k : Nat) : BitVec 8 × Nat × Nat :=
  match (d.thr k).ctlLive with
  | some m => m
  | none =>
    let r := R.GL_TCTL (k / 64) (k / 8 % 8) (k % 8)
    (BitVec.ofNat 8 (d.rd r F.GL_TCTL_imask), d.rd r F.GL_TCTL_prio, d.rd r F.GL_TCTL_ddr_win)

/-- Set an interrupt source of a thread pending (R162). -/
def Dev.pendSource (d : Dev) (k src : Nat) : Dev := d.modThr k (fun t => { t with pend := t.pend ||| BitVec.ofNat 8 (2 ^ src) })

/-! ## Clocks of the ranged islands (R51, R171) -/

/-- A ranged island runs at a new frequency with the voltage for it: a gallery's supervisor hears of it. -/
def Dev.isleFreq (d : Dev) (isl mhz : Nat) : Dev :=
  if (isleRange isl).isNone then d
  else
    let f := d.isleLimit isl mhz
    let d := (d.wr (R.CK_ISLSTAT isl) F.CK_ISLSTAT_freq_mhz f).setVolt isl f
    if isl < 26 then d.pendSource (supOf isl) 7 else d

/-- A gallery is asked to run at a frequency: on a rise the voltage goes first and the clock switches when it has settled, on a fall the
clock goes first and the voltage follows (DVFS_COMPLETE). A request for the present frequency ends a change on its way. -/
def Dev.freqAsk (d : Dev) (g mhz : Nat) : Dev :=
  let f := d.isleLimit g mhz
  let now := d.rd (R.CK_ISLSTAT g) F.CK_ISLSTAT_freq_mhz
  if now = 0 then d
  else if f = now then d.modGal g (fun x => { x with dvfs := none })
  else
    let d := if now < f then d.setVolt g f else d.wr (R.CK_ISLSTAT g) F.CK_ISLSTAT_freq_mhz f
    d.modGal g (fun x => { x with dvfs := some f })

/-- The change is complete: clock and voltage stand at the new frequency, and source 7 rises. -/
def Dev.freqDone (d : Dev) (g : Nat) : Dev :=
  match (d.gal g).dvfs with
  | none => d
  | some f => (d.modGal g (fun x => { x with dvfs := none })).isleFreq g f

/-! ## Memory words with an uncorrectable error (R151, R188) -/

/-- The word of a gallery memory that holds a byte: 2 bytes of instruction memory, 4 bytes of data memory. -/
def eccWord (a : Nat) : Nat := if a < 2 ^ 41 then a / 2 * 2 else a / 4 * 4

/-- Bytes from `a` on lie in a word that is marked uncorrectable. -/
def Dev.wordBad (d : Dev) (g a n : Nat) : Bool := (List.range n).any (fun i => (d.gal g).badWords.contains (eccWord (a + i)))

/-- A write of `n` bytes leaves good ECC in every word that it writes whole. -/
def Dev.goodWords (d : Dev) (g a n : Nat) : Dev :=
  d.modGal g (fun x => { x with badWords := x.badWords.filter (fun w => !(decide (a ≤ w) && decide (w + (if w < 2 ^ 41 then 2 else 4) ≤ a + n))) })

/-- The word of a byte is found uncorrectable. -/
def Dev.markWord (d : Dev) (g a : Nat) : Dev :=
  if (d.gal g).badWords.contains (eccWord a) then d else d.modGal g (fun x => { x with badWords := eccWord a :: x.badWords })

/-- The instants of a supervisor's faults within 1 s, and the fence they bring; the Overman hears of each at once (R167, R406). -/
def Dev.supFault (d : Dev) (g code : Nat) : Dev :=
  let d := d.event 0x32 g code
  let l := ((d.gal g).supFaults.filter (fun t => d.now < t + unitsPerSec)) ++ [d.now]
  let n := d.rd R.RL_CTL F.RL_CTL_sup_flt
  let d := d.modGal g (fun x => { x with supFaults := if n ≠ 0 && n ≤ l.length then [] else l })
  if n ≠ 0 && n ≤ l.length then { d with rl := { d.rl with detected := d.rl.detected ++ [{ kind := 0, unit := g, cause := 5 }] } } else d

/-- A fault record (R166). -/
def faultRec (code epoch inflight core thread slot node pc detail stamp : Nat) : BitVec 192 :=
  BitVec.ofNat 192 (code * 2 ^ 184 + epoch * 2 ^ 176 + inflight * 2 ^ 172 + core * 2 ^ 169 + thread * 2 ^ 166 + slot * 2 ^ 155
    + node * 2 ^ 151 + pc * 2 ^ 137 + 2 ^ 136 + detail % 2 ^ 32 * 2 ^ 96 + stamp)

/-- Coprocessors that hold an operation of the thread, bit n for CPn (R166). -/
def Thread.inflight (t : Thread) : Nat :=
  b2n (t.ops.any (fun o => o.cp == 2 && !o.dead)) * 4 + b2n (t.ops.any (fun o => o.cp == 3 && !o.dead)) * 8

/-- Push a record of a thread into its gallery's fault FIFO of 16 (R166, R167). -/
def Dev.pushFault (d : Dev) (k code detail pc : Nat) : Dev :=
  let g := k / 64
  let t := d.thr k
  let slot := match t.node with | some n => n.slot | none => 0
  let node := match t.node with | some n => n.node | none => 0
  let rec_ := faultRec code t.epoch.toNat t.inflight (k / 8 % 8) (k % 8) slot node pc detail (stampOf d.now)
  let fs := (d.gal g).faults
  let full := decide (16 ≤ fs.length)
  let d :=
    if full then d.inc (R.GL_STAT g) F.GL_STAT_f_lost
    else (d.modGal g (fun x => { x with faults := fs ++ [rec_], headAt := if fs.isEmpty then d.now else x.headAt })).wr (R.GL_STAT g) F.GL_STAT_f_depth (fs.length + 1)
  if isSup k then d.supFault g code else if full then d else d.pendSource (supOf g) 2

/-! ## The gallery trace (R505) -/

def galTraceRec (cycle ev core thread pc slot node detail : Nat) : BitVec 128 :=
  BitVec.ofNat 128 (cycle % 2 ^ 32 * 2 ^ 96 + ev * 2 ^ 92 + core * 2 ^ 89 + thread * 2 ^ 86 + pc % 2 ^ 14 * 2 ^ 72 + slot * 2 ^ 53
    + node * 2 ^ 49 + detail % 2 ^ 49)

def Dev.galTraceAdd (d : Dev) (r : BitVec 128) : Dev :=
  if 4096 ≤ d.db.trace.length then
    { (d.inc R.DB_GTRSTAT F.DB_GTRSTAT_lost) with db := { d.db with gap := d.db.gap + 1 } }
  else { d with db := { d.db with trace := d.db.trace ++ [r] } }

/-- Record a trace event of a thread; after losses a gap record goes first (R145, R505). -/
def Dev.galTrace (d : Dev) (k ev pc : Nat) : Dev :=
  let g := k / 64
  let c := R.DB_GTRCFG
  if !(d.on c F.DB_GTRCFG_en && d.rd c F.DB_GTRCFG_gal == g && bitAt (d.rget R.DB_GTRCTL).toNat (k % 64) && bitAt (d.rd c F.DB_GTRCFG_ev_mask) ev) then d
  else
    let cyc := (d.gal g).cycle
    let n := (d.thr k).node
    let d := if d.db.gap = 0 || 4096 ≤ d.db.trace.length then d else
      { d with db := { d.db with gap := 0, trace := d.db.trace ++ [galTraceRec cyc 15 0 0 0 0 0 d.db.gap] } }
    d.galTraceAdd (galTraceRec cyc ev (k / 8 % 8) (k % 8) pc ((n.map (·.slot)).getD 0) ((n.map (·.node)).getD 0) 0)

/-! ## Locks -/

def Dev.lock (d : Dev) (n : Nat) : Lock := d.tk.locks.get {} n
def Dev.setLock (d : Dev) (n : Nat) (l : Lock) : Dev := { d with tk := { d.tk with locks := d.tk.locks.set {} n l } }
def Dev.word (d : Dev) (k : Nat) : Option HeldWord := d.tk.words.get none k
def Dev.setWord (d : Dev) (k : Nat) (w : Option HeldWord) : Dev := { d with tk := { d.tk with words := d.tk.words.set none k w } }

/-- The rank of a hardware lock is its group's rank (R273). -/
def Dev.lockRank (d : Dev) (n : Nat) : Nat := d.rd (R.TK_GRP (n / 64)) F.TK_GRP_rank

/-- A gallery may use a group that is enabled and has it in its mask (R268). -/
def Dev.groupAllows (d : Dev) (n g : Nat) : Bool :=
  d.on (R.TK_GRP (n / 64)) F.TK_GRP_en && bitAt (d.rd (R.TK_GRP (n / 64)) F.TK_GRP_gal_mask) g

/-- Identity of a lock word: a shared-memory word by gallery and thread address [20:0], a DDR word by Seam address (R279). -/
def wordKey (shared : Bool) (g addr : Nat) : Nat := if shared then 2 ^ 38 + g * 2 ^ 21 + addr % 2 ^ 21 else addr

/-- Where the word of an identity stands in memory. -/
def wordMem (key : Nat) : Nat :=
  if 2 ^ 38 ≤ key then
    let a := key % 2 ^ 21
    sharedAddr ((key - 2 ^ 38) / 2 ^ 21) (if 2 ^ 20 ≤ a then a - 2 ^ 20 else a + 2 ^ 20)
  else seamAddr key

/-- The rank of a word lock is the rank field of its word (R273). -/
def Dev.wordRank (d : Dev) (key : Nat) : Nat := bitsOf (d.load (wordMem key) 4) 26 6

/-- Ranks of the locks a thread holds (R273); job-held locks are none of them. -/
def Dev.heldRanks (d : Dev) (k : Nat) : List Nat :=
  (d.tk.locks.filter (fun e => e.2.held && !e.2.jobHeld && e.2.owner == k)).map (fun e => d.lockRank e.1)
    ++ d.tk.words.filterMap (fun e =>
      match e.2 with
      | some w => if !w.jobHeld && w.owner == k then some (d.wordRank e.1) else none
      | none => none)

/-- The rank rule: a lock may be acquired only above every held lock. -/
def Dev.rankOk (d : Dev) (k rank : Nat) : Bool := (d.heldRanks k).all (fun r => r < rank)

/-- Write a release record (R279); a record that finds 256 waiting is lost. -/
def Dev.relRecord (d : Dev) (reason lkind releaser owner ident : Nat) : Dev :=
  if 256 ≤ d.tk.records.length then d.inc R.TK_RSTAT F.TK_RSTAT_rec_lost
  else
    let x := BitVec.ofNat 128 (reason * 2 ^ 125 + lkind * 2 ^ 123 + releaser * 2 ^ 112 + owner * 2 ^ 101 + ident * 2 ^ 64 + stampOf d.now)
    let d := { d with tk := { d.tk with records := d.tk.records ++ [x] } }
    d.wr R.TK_RSTAT F.TK_RSTAT_depth d.tk.records.length

/-- Write a TOK's status or data to its register and let a sleeping thread go on (R160, R269). -/
def Dev.tokDone (d : Dev) (k r v : Nat) : Dev :=
  let d := if (d.thr k).st = .sleep then d.galTrace k 4 (d.thr k).pc.toNat else d
  d.modThr k (fun t =>
    { t with g := t.g.set! (r % 16) (BitVec.ofNat 32 v), wait := none
             st := if t.st = .sleep then .ready else t.st
             heldFrom := if t.heldFrom = .sleep then .ready else t.heldFrom })

/-- Hand a free lock to a thread; the mark clears when status 2 is delivered (R277). -/
def Dev.grantLock (d : Dev) (n k r status : Nat) (rest : List (Nat × Nat)) : Dev :=
  (d.setLock n { held := true, owner := k, waiters := rest }).tokDone k r status

/-- A lock is freed: its oldest waiter gets it, with status 2 after an abandonment; else it stands free, marked when abandoned. -/
def Dev.passLock (d : Dev) (n : Nat) (abandon : Bool) : Dev :=
  match (d.lock n).waiters with
  | (k, r) :: rest => d.grantLock n k r (if abandon then 2 else 0) rest
  | [] => d.setLock n { abandoned := abandon }

/-- Bits [25:0] of a lock word, held by a thread or a job or free (R271). -/
def wordBits (held abandoned jobHeld : Bool) (owner : Nat) : Nat :=
  b2n held * 2 ^ 25 + b2n abandoned * 2 ^ 24 + (if jobHeld then 0x7FF else owner) % 2048 * 2 ^ 13 + b2n jobHeld * 2 ^ 12

/-- The Token board writes bits [25:0] of a lock word and never its rank (R271). -/
def Dev.putWord (d : Dev) (key v : Nat) : Dev := d.store (wordMem key) 4 (d.wordRank key * 2 ^ 26 + v % 2 ^ 26)

def Dev.grantWord (d : Dev) (key k r status : Nat) (rest : List (Nat × Nat)) : Dev :=
  let d := d.setWord key (some { owner := k, waiters := rest })
  (d.putWord key (wordBits true false false k)).tokDone k r status

def Dev.passWord (d : Dev) (key : Nat) (w : HeldWord) (abandon : Bool) : Dev :=
  match w.waiters with
  | (k, r) :: rest => d.grantWord key k r (if abandon then 2 else 0) rest
  | [] => (d.setWord key none).putWord key (wordBits false abandon false 0)

/-- Owner as a release record shows it. -/
def recOwner (jobHeld : Bool) (owner : Nat) : Nat := if jobHeld then 0x7FF else owner
def wordKind (key : Nat) : Nat := if 2 ^ 38 ≤ key then 1 else 2
def wordIdent (key : Nat) : Nat :=
  if 2 ^ 38 ≤ key then (key - 2 ^ 38) / 2 ^ 21 * 2 ^ 32 + key % 2 ^ 21 else key % 2 ^ 37

/-- Free a held hardware lock as abandoned, with its record (R277, R279). -/
def Dev.abandonLock (d : Dev) (n reason : Nat) : Dev :=
  let l := d.lock n
  if l.held then (d.relRecord reason 0 0x7FF (recOwner l.jobHeld l.owner) n).passLock n true else d

def Dev.abandonWord (d : Dev) (key reason : Nat) : Dev :=
  match d.word key with
  | some w => (d.relRecord reason (wordKind key) 0x7FF (recOwner w.jobHeld w.owner) (wordIdent key)).passWord key w true
  | none => d

/-- Abandon every lock and word lock whose holder passes a test on (job-held, owner). -/
def Dev.abandonWhere (d : Dev) (reason : Nat) (p : Bool → Nat → Bool) : Dev :=
  let ls := (d.tk.locks.filter (fun e => e.2.held && p e.2.jobHeld e.2.owner)).map (·.1)
  let ws := (d.tk.words.filter (fun e => match e.2 with | some w => p w.jobHeld w.owner | none => false)).map (·.1)
  let d := ls.foldl (fun d n => d.abandonLock n reason) d
  ws.foldl (fun d k => d.abandonWord k reason) d

/-- Locks a job still holds when its slot becomes FREE are released as abandoned (R275). -/
def Dev.jobLocks (d : Dev) (job : Nat) : Dev := d.abandonWhere 3 (fun j o => j && o == job)

/-- Withdraw a thread from every waiter queue and channel (R270). -/
def Dev.withdraw (d : Dev) (k : Nat) : Dev :=
  let out (l : List (Nat × Nat)) := l.filter (fun e => e.1 != k)
  let tk := d.tk
  let locks := tk.locks.map (fun e => (e.1, { e.2 with waiters := out e.2.waiters }))
  let words := tk.words.map (fun e => (e.1, e.2.map (fun w => { w with waiters := out w.waiters })))
  let recv := (tk.receivers.map (fun e => (e.1, e.2.filter (· != k)))).filter (fun e => !e.2.isEmpty)
  { d with tk := { tk with locks := locks, words := words, receivers := recv } }

/-- Discard a thread's staging area (R276, R281). -/
def Dev.dropStaging (d : Dev) (k : Nat) : Dev := { d with tk := { d.tk with staging := d.tk.staging.set [] k [] } }

/-- What a thread reset does in the Token board (R168, R270, R276, R277). -/
def Dev.tokReset (d : Dev) (k : Nat) : Dev :=
  let d := (d.withdraw k).dropStaging k
  let d := { d with tk := { d.tk with events := d.tk.events.set 0 k 0 } }
  d.abandonWhere 2 (fun j o => !j && o == k)

/-- END with held locks: each becomes job-held (R275). -/
def Dev.jobHold (d : Dev) (k job : Nat) : Dev :=
  let ls := (d.tk.locks.filter (fun e => e.2.held && !e.2.jobHeld && e.2.owner == k)).map (·.1)
  let ws := (d.tk.words.filter (fun e => match e.2 with | some w => !w.jobHeld && w.owner == k | none => false)).map (·.1)
  let d := ls.foldl (fun d n => d.setLock n { d.lock n with jobHeld := true, owner := job }) d
  ws.foldl (fun d key =>
    match d.word key with
    | some w => (d.setWord key (some { w with jobHeld := true, owner := job })).putWord key (wordBits true false true 0)
    | none => d) d

end Sys2Proof.Machine
end

