-- ==== Sys2Proof/Machine/HoOps.lean ====
section
/-!
DEFINITION. Hoist's tickets and domain heads (R288 to R301), Eddy credits (R93), and the exception path (R96, R97),
as operations.
-/

namespace Sys2Proof.Machine

/-! ## Tickets -/

def Dev.tix (d : Dev) (t : Nat) : Ticket := d.ho.tickets.get {} t
def Dev.head (d : Dev) (dom : Nat) : Nat := d.ho.heads.get 0 dom

/-- A sequence is ahead in its domain (R289). -/
def Dev.ahead (d : Dev) (dom seq : Nat) : Bool := (seq + 2 ^ 20 - d.head dom) % 2 ^ 20 < 2 ^ 19

/-- Move a ticket to a state; its limit timer counts RUN and EDDY only, and not while it is paused (R294, R504). -/
def Ticket.to (x : Ticket) (now st : Nat) : Ticket :=
  { x with st := st, used := if (x.st = 1 || x.st = 3) && !x.paused then x.used + (now - x.since) else x.used, since := now
           paused := x.paused && st == 1 }

/-- Pause the limit timer, or let it run on from where it stood (R504). -/
def Ticket.pause (x : Ticket) (now : Nat) (p : Bool) : Ticket := if x.paused = p then x else { x.to now x.st with paused := p }

/-- Tickets of class 7, or of the other classes, in use. -/
def Dev.ticketsIn (d : Dev) (c7 : Bool) : Nat := (d.ho.tickets.filter (fun e => (e.2.cls == 7) == c7)).length

/-- A ticket of the partition is free (R288). -/
def Dev.ticketRoom (d : Dev) (c7 : Bool) : Bool :=
  let part := d.rd R.HO_PART F.HO_PART_c7_tickets
  d.ticketsIn c7 < (if c7 then part else 16384 - part) && d.ho.tickets.length < 16384

def Dev.syncOcc (d : Dev) : Dev :=
  let d := d.wr R.HO_OCC F.HO_OCC_used d.ho.tickets.length
  let d := d.wr R.HO_OCC F.HO_OCC_c7_used (d.ticketsIn true)
  let d := d.markHigh R.HO_OCC F.HO_OCC_occ_max d.ho.tickets.length
  d.markHigh R.HO_OCC F.HO_OCC_c7_max (d.ticketsIn true)

def Dev.setTix (d : Dev) (t : Nat) (x : Ticket) : Dev := { d with ho := { d.ho with tickets := d.ho.tickets.put t x } }

/-- Take the lowest free ticket (DESIGN CHOICE, log entry 22). -/
def Dev.takeTicket (d : Dev) (x : Ticket) : Nat × Dev :=
  let t := ((List.range 16384).find? (fun i => (d.ho.tickets.find i).isNone)).getD 0
  let d := d.setTix t { x with order := d.ho.order, since := d.now }
  (t, ({ d with ho := { d.ho with order := d.ho.order + 1 } }).syncOcc)

def Dev.freeTicket (d : Dev) (t : Nat) : Dev := ({ d with ho := { d.ho with tickets := d.ho.tickets.del t } }).syncOcc

/-- The head of a domain resolves its sequence. -/
def Dev.bumpHead (d : Dev) (dom : Nat) : Dev :=
  { d with ho := { d.ho with heads := d.ho.heads.set 0 dom ((d.head dom + 1) % 2 ^ 20), headAt := d.ho.headAt.put dom d.now } }

/-- The head advances over every sequence that is VOID or PASSED (R289, R291). -/
def Dev.advance (d : Dev) (dom : Nat) : Nat → Dev
  | 0 => d
  | n + 1 =>
    match d.ho.tickets.find? (fun e => e.2.dom == dom && e.2.seq == d.head dom && 4 ≤ e.2.st) with
    | some (t, x) =>
      let d := if x.st = 4 then d.inc R.HO_CNT F.HO_CNT_voided else d
      ((d.freeTicket t).bumpHead dom).advance dom n
    | none => d

def Dev.resolve (d : Dev) (dom : Nat) : Dev := d.advance dom (d.ho.tickets.length + 1)

/-- A ticket becomes VOID (R291, R293). -/
def Dev.voidTicket (d : Dev) (t : Nat) : Dev :=
  let x := d.tix t
  (d.setTix t { x.to d.now 4 with jobs := [], rel := none }).resolve x.dom

/-- A sequence that is not ahead (R289). -/
def Dev.seqErr (d : Dev) (dom seq : Nat) : Dev := (d.inc R.HO_ERR F.HO_ERR_seq_err).tally 0x0B01 dom [seq]

/-- The body of a frame is complete and bad (R16). -/
def Frame.bad (f : Frame) : Bool := f.bodyDone && (!f.fcsOk || f.beyond || f.trunc)

/-! ## Eddy -/

/-- Cells reserved for the credit pool follow AS_EDDYCFG.credit (R93): each credit not in use is a reserved cell of row 9, as far as the
row can spare them. -/
def Dev.eddyPool (d : Dev) : Dev :=
  let want := d.rd R.AS_EDDYCFG F.AS_EDDYCFG_credit - d.rd R.AS_EDDYSTAT F.AS_EDDYSTAT_in_use
  let have_ := d.resvOf 9 tagEddy
  let spare := (d.rowF 9 - d.rd (R.BN_ROWCFG 9) F.BN_ROWCFG_c7_cells).min (d.quotaLeft tagEddy 9)
  if have_ < want then (d.reserve 9 tagEddy ((want - have_).min spare) false).2
  else if want < have_ then d.unreserve 9 tagEddy (have_ - want)
  else d

/-- The header window of an Eddy frame has left row 9: the credit and its cell return (R93). -/
def Dev.eddyReturn (d : Dev) (h : Nat) : Dev :=
  let f := d.frame h
  if !f.credit then d
  else
    let d := d.modFrame h (fun f => { f with credit := false, eddyCell := none })
    let d := d.wr R.AS_EDDYSTAT F.AS_EDDYSTAT_in_use (d.rd R.AS_EDDYSTAT F.AS_EDDYSTAT_in_use - 1)
    let d := match f.eddyCell with
      | some p => (d.useQuota tagEddy 9 0 1).push 9 (ptrIdx p)
      | none => d
    d.eddyPool

/-- A frame outside a job ends: its credit and its cells return and its tub ends (R91). -/
def Dev.endFrame (d : Dev) (h : Nat) : Dev :=
  match d.frames.find h with
  | none => d
  | some f =>
    let d := d.eddyReturn h
    match f.cell with
    | some p => d.releaseFrame p
    | none => d.tubEnd h

/-- A frame that holds an EDDY ticket ends outside a job (R297). -/
def Dev.eddyTicketEnd (d : Dev) (h : Nat) : Dev :=
  match (d.frame h).ticket with
  | none => d
  | some t =>
    let d := d.modFrame h (fun f => { f with ticket := none })
    (d.inc R.HO_VCNT1 F.HO_VCNT1_eddy).voidTicket t

/-- The frame is dropped outside a job. -/
def Dev.dropFrame (d : Dev) (h : Nat) : Dev := (d.eddyTicketEnd h).endFrame h

/-! ## The exception path -/

/-- Tokens of a code's bucket, in millionths (R97): a missing entry is a full bucket. -/
def Dev.excTokens (d : Dev) (code : Nat) : Nat :=
  (d.as.excTokens.get none code).getD ((d.rd (R.AS_EXCCFG code) F.AS_EXCCFG_burst).max 1 * 1000000)

def Dev.setExcTokens (d : Dev) (code n : Nat) : Dev :=
  let full := (d.rd (R.AS_EXCCFG code) F.AS_EXCCFG_burst).max 1 * 1000000
  { d with as := { d.as with excTokens := d.as.excTokens.set none code (if n = full then none else some n) } }

/-- One token of a code, if it has one. -/
def Dev.excTake (d : Dev) (code : Nat) : Bool × Dev :=
  let n := d.excTokens code
  if 1000000 ≤ n && d.rd (R.AS_EXCCFG code) F.AS_EXCCFG_rate != 0 then (true, (d.setExcTokens code (n - 1000000)).inc (R.AS_EXCCNT code) F.AS_EXCCNT_passed)
  else
    let d := d.inc (R.AS_EXCCNT code) F.AS_EXCCNT_dropped
    let d := { d with as := { d.as with excDrops := d.as.excDrops.upd 0 code (· + 1) } }
    (false, d.tally 0x0301 code [d.as.excDrops.get 0 code])

/-- The admission queue of a frame (R129). -/
def admKey (pipe tclass : Nat) : Nat := pipe * 2 + b2n (tclass == 7)

def Dev.syncAdm (d : Dev) (pipe : Nat) : Dev :=
  let d := d.wr (R.DR_PSTAT pipe) F.DR_PSTAT_q_depth (d.dr.adm.get [] (pipe * 2)).length
  d.wr (R.DR_PSTAT pipe) F.DR_PSTAT_q7_depth (d.dr.adm.get [] (pipe * 2 + 1)).length

/-- Put a frame's tub at the tail of its pipe's admission queue. -/
def Dev.admEnqueue (d : Dev) (h : Nat) : Dev :=
  let f := d.frame h
  let k := admKey f.pipe (T.tclass.get f.tub)
  let d := d.modFrame h (fun f => { f with stage := .queued })
  let d := { d with dr := { d.dr with adm := d.dr.adm.set [] k (d.dr.adm.get [] k ++ [h]) } }
  d.syncAdm f.pipe

/-- The next sequence of a domain, taken (R87). -/
def Dev.nextSeq (d : Dev) (dom : Nat) : Nat × Dev :=
  let s := d.as.nextSeq.get 0 dom
  (s, { d with as := { d.as with nextSeq := d.as.nextSeq.set 0 dom ((s + 1) % 2 ^ 20) } })

/-- Give a frame its order domain and sequence. -/
def Dev.giveSeq (d : Dev) (h dom : Nat) : Dev :=
  let (s, d) := d.nextSeq dom
  d.modFrame h (fun f => { f with dom := dom, seq := s, hasSeq := true
                                  tub := T.sequence.put (T.domain.put f.tub dom) s })

/-- A frame takes an exception (R96, R97): it takes a token or is dropped, and its entry's target decides the rest. -/
def Dev.exception (d : Dev) (h code : Nat) : Dev :=
  match d.excTake code with
  | (false, d) => d.dropFrame h
  | (true, d) =>
    let e := d.rget (R.AS_EXCCFG code)
    match F.AS_EXCCFG_target.get e with
    | 2 =>
      -- a re-entered frame keeps its domain and sequence whatever has become of its ticket (R22, R87)
      let keep := 0 < (d.frame h).pass
      let d := if keep then d else d.giveSeq h (0xFFFC + (d.frame h).pipe)
      let d := d.modFrame h (fun f =>
        { f with exc := some code, tub := T.exc.put (T.template.put f.tub (F.AS_EXCCFG_template.get e)) 1 })
      d.admEnqueue h
    | 3 => d.dropFrame h
    | tgt =>
      d.modFrame h (fun f =>
        { f with stage := .excepted, exc := some code, qp := F.AS_EXCCFG_qp.get e
                 tub := Tub.setCol (T.sequence.put (T.domain.put (T.template.put f.tub code) 0) 0) (if tgt = 1 then 8 else 11) })

end Sys2Proof.Machine
end

