-- ==== Sys2Proof/Machine/JobOps.lean ====
section
/-!
DEFINITION. Draught: templates, job slots, nodes and their completion, voids, admission (R125 to R148), and the Hoist
operations that reach into jobs (R290 to R298).
-/

namespace Sys2Proof.Machine

/-! ## Templates (R125 to R127) -/

def tmplAddr (t : Nat) : Nat := 0x610000 + t * 0x100
def Dev.tmplHdr (d : Dev) (t : Nat) : Nat := d.load (tmplAddr t) 16
def Dev.tmplNode (d : Dev) (t n : Nat) : Nat := d.load (tmplAddr t + 16 + 8 * n) 8

def TH.n_nodes (h : Nat) : Nat := bitsOf h 0 5
def TH.rel_node (h : Nat) : Nat := bitsOf h 8 4
def TH.err_void (h : Nat) : Bool := bitAt h 12
def TH.twin_ok (h : Nat) : Bool := bitAt h 13
def TH.affinity (h : Nat) : Bool := bitAt h 14
def TH.aff_map (h : Nat) : Nat := bitsOf h 16 2
def TH.res_cells (h : Nat) : Nat := bitsOf h 64 4
def TH.crc (h : Nat) : Nat := bitsOf h 96 32

def ND.kind (n : Nat) : Nat := bitsOf n 60 4
def ND.in_deg (n : Nat) : Nat := bitsOf n 56 4
def ND.succ (n : Nat) : Nat := bitsOf n 40 16
def ND.operand (n : Nat) : Nat := bitsOf n 0 40

/-- The template is used by admission and its memory is write-protected (R128). -/
def Dev.tmplOn (d : Dev) (t : Nat) : Bool := d.on (R.DR_TCTL t) F.DR_TCTL_en

/-! ## Job slots -/

def jobKey (g slot : Nat) : Nat := g * 2048 + slot
def ctxAddr (j : Nat) : Nat := sharedAddr (j / 2048) (j % 2048 * 512)
/-- Word k of a job's context (R152). -/
def ctxWord (j k : Nat) : Nat := ctxAddr j + 8 * k

def Dev.job (d : Dev) (j : Nat) : Job := d.dr.jobs.get {} j
def Dev.setJob (d : Dev) (j : Nat) (x : Job) : Dev := { d with dr := { d.dr with jobs := d.dr.jobs.put j x } }
def Dev.gen (d : Dev) (j : Nat) : Nat := d.dr.gens.get 0 j

def Dev.slotsUsed (d : Dev) (g : Nat) : Nat := (d.dr.jobs.filter (fun e => e.1 / 2048 == g)).length

/-- A free slot for a tub of class 7 or of another class (R130). -/
def Dev.slotRoom (d : Dev) (g : Nat) (c7 : Bool) : Bool :=
  let free := 2048 - d.slotsUsed g
  0 < free && (c7 || d.rd R.DR_CFG F.DR_CFG_c7_slots * 8 < free)

/-- DR_GSTAT.drain: slots in DRAIN or DONE (R142). -/
def Dev.syncDrain (d : Dev) (g : Nat) : Dev :=
  d.wr (R.DR_GSTAT g) F.DR_GSTAT_drain (d.dr.jobs.filter (fun e => e.1 / 2048 == g && 2 ≤ e.2.st)).length

def Dev.syncCq (d : Dev) (g c : Nat) : Dev :=
  let n := (d.dr.cq.get [] (g * 8 + c)).length
  (d.wr (R.DR_CQ g c) F.DR_CQ_q_depth n).markHigh (R.DR_CQ g c) F.DR_CQ_q_max n

/-! ## The dispatch trace (R145) -/

def traceRec (tmpl ev node g slot core thread pipe status seq tclass stamp : Nat) : BitVec 128 :=
  BitVec.ofNat 128 (tmpl * 2 ^ 120 + ev * 2 ^ 116 + node * 2 ^ 112 + g * 2 ^ 107 + slot * 2 ^ 96 + core * 2 ^ 93 + thread * 2 ^ 90
    + pipe * 2 ^ 88 + status * 2 ^ 84 + seq * 2 ^ 64 + tclass * 2 ^ 56 + stamp)

def Dev.traceLost (d : Dev) : Dev :=
  { (d.inc R.DR_TRSTAT F.DR_TRSTAT_lost) with dr := { d.dr with gap := d.dr.gap + 1 } }

def Dev.traceAdd (d : Dev) (r : BitVec 128) : Dev :=
  if 4096 ≤ d.dr.trace.length then d.traceLost else { d with dr := { d.dr with trace := d.dr.trace ++ [r] } }

/-- Write a trace record for a decision that passes the filter; after losses a gap record goes before it. -/
def Dev.trace (d : Dev) (ev tmpl g slot : Nat) (tub : Tub) (pipe : Nat) (node core thread status : Nat := 0) : Dev :=
  let c := R.DR_TRCTL
  if !(d.on c F.DR_TRCTL_en && bitAt (d.rd c F.DR_TRCTL_gal_mask) g && bitAt (d.rd c F.DR_TRCTL_ev_mask) ev
      && (d.on c F.DR_TRCTL_tmpl_any || d.rd c F.DR_TRCTL_tmpl == tmpl)) then d
  else
    let st := stampOf d.now
    let d := if d.dr.gap = 0 || 4096 ≤ d.dr.trace.length then d else
      let n := d.dr.gap.min (2 ^ 20 - 1)
      { d with dr := { d.dr with gap := 0, trace := d.dr.trace ++ [traceRec 0 15 0 0 0 0 0 0 0 n 0 st] } }
    d.traceAdd (traceRec tmpl ev node g slot core thread pipe status (T.sequence.get tub) (T.tclass.get tub) st)

def Dev.jobTrace (d : Dev) (ev j : Nat) (node core thread status : Nat := 0) : Dev :=
  let x := d.job j
  d.trace ev x.tmpl (j / 2048) (j % 2048) x.tub x.pipe node core thread status

/-! ## The end of a job -/

/-- Strike a job's nodes from its gallery's ready list and core queues. -/
def Dev.purgeNodes (d : Dev) (j : Nat) : Dev :=
  let g := j / 2048
  let s := j % 2048
  let keep (l : List NodeRef) := l.filter (fun n => n.slot != s)
  let d := { d with dr := { d.dr with ready := d.dr.ready.upd [] g keep } }
  (List.range 8).foldl (fun d c =>
    ({ d with dr := { d.dr with cq := d.dr.cq.upd [] (g * 8 + c) keep } }).syncCq g c) d

/-- A slot becomes FREE (R141, R143): its generation advances, its unused cells return and its locks are abandoned. -/
def Dev.freeSlot (d : Dev) (j : Nat) : Dev :=
  let x := d.job j
  let d := d.purgeNodes j
  let d := if x.resv = 0 then d else d.unreserve x.row (tagJob (j / 2048) (j % 2048)) (d.resvOf x.row (tagJob (j / 2048) (j % 2048)))
  let d := { d with dr := { d.dr with jobs := d.dr.jobs.del j, gens := d.dr.gens.set 0 j ((d.gen j + 1) % 256) } }
  let d := d.wr (R.DR_TCTL x.tmpl) F.DR_TCTL_live (d.rd (R.DR_TCTL x.tmpl) F.DR_TCTL_live - 1)
  (d.jobLocks j).syncDrain (j / 2048)

/-- A thread in HOLD runs a node of the job. -/
def Dev.jobHeld (d : Dev) (j : Nat) : Bool :=
  (List.range 64).any (fun i =>
    let t := d.thr (j / 2048 * 64 + i)
    t.st == .hold && t.nodeLive && (match t.node with | some r => r.slot == j % 2048 && r.gen == d.gen j | none => false))

/-- Under lim_freeze the limit timer of each ticket stands while a job that holds it has a thread in HOLD (R504). -/
def Dev.limits (d : Dev) : Dev :=
  let freeze := d.on R.DB_CTL F.DB_CTL_lim_freeze
  let ts := d.ho.tickets.map (fun e => (e.1, e.2.pause d.now (freeze && e.2.st == 1 && e.2.jobs.any d.jobHeld)))
  { d with ho := { d.ho with tickets := ts } }

/-- A job void reaches Hoist (R291, R296): the ticket is VOID once no copy is left. -/
def Dev.hoistJobVoid (d : Dev) (t j : Nat) : Dev :=
  let x := d.tix t
  if !x.jobs.contains j then d
  else
    let d := d.inc R.HO_VCNT0 F.HO_VCNT0_job
    let left := x.jobs.filter (· != j)
    if left.isEmpty then
      let d := if x.twin then d.endFrame x.frame else d
      d.voidTicket t
    else (d.setTix t { x with jobs := left }).limits

/-- A voided job ends: slot and cells are freed and its sequence goes to Hoist, unless the void came from there (R140). -/
def Dev.endVoid (d : Dev) (j : Nat) : Dev :=
  let x := d.job j
  let d := match x.leave with
    | some _ =>
      match (d.frame x.frame).cell with
      | some p => if CE.owner.get (d.entry (ptrRow p) (ptrIdx p)) = tagXc then d else d.xfer p (CE.owner.get (d.entry (ptrRow p) (ptrIdx p))) (tagPipe x.pipe)
      | none => d
    | none => if x.twin then d else d.endFrame x.frame
  let d := d.freeSlot j
  let d := if x.hoistVoid then d else d.hoistJobVoid x.ticket j
  match x.leave with
  | some c => if x.hoistVoid then d.endFrame x.frame else if (d.frame x.frame).bad then d.dropFrame x.frame else d.exception x.frame c
  | none => d

/-- A job ends as a void (R140, R143). A void that finds it in DRAIN already only tells whether Hoist waits for its word. -/
def Dev.jobVoid (d : Dev) (j : Nat) (hoist : Bool) (leave : Option Nat := none) : Dev :=
  match d.dr.jobs.find j with
  | none => d
  | some x =>
    if x.st = 1 then
      let d := (d.jobTrace 6 j).purgeNodes j
      let x := { x with hoistVoid := hoist, leave := leave }
      if 0 < x.running then (d.setJob j { x with st := 2, drainAt := d.now }).syncDrain (j / 2048)
      else (d.setJob j x).endVoid j
    else if x.st = 2 && hoist then d.setJob j { x with hoistVoid := true }
    else d

/-! ## Nodes -/

/-- A node joins the ready list: the oldest goes first, and among nodes of one instant the lower slot, then the lower node (R136). -/
def insertReady (r : NodeRef) : List NodeRef → List NodeRef
  | [] => [r]
  | y :: l => if y.at_ = r.at_ && (r.slot < y.slot || (r.slot = y.slot && r.node < y.node)) then r :: y :: l else y :: insertReady r l

/-- Make a node ready (R135). -/
def Dev.readyNode (d : Dev) (j n : Nat) : Dev :=
  let r : NodeRef := { slot := j % 2048, node := n, gen := d.gen j, at_ := d.now }
  { d with dr := { d.dr with ready := d.dr.ready.upd [] (j / 2048) (insertReady r) } }

/-- Decrement the successors of a node, readying those whose counter reaches zero (R135). -/
def Dev.fanout (d : Dev) (j n : Nat) : Dev :=
  let t := (d.job j).tmpl
  let succ := ND.succ (d.tmplNode t n)
  (List.range (TH.n_nodes (d.tmplHdr t))).foldl (fun d k =>
    if bitAt succ k then
      let x := d.job j
      let c := x.cnt.getD k 0 - 1
      let d := d.setJob j { x with cnt := x.cnt.set k c }
      if c = 0 then d.readyNode j k else d
    else d) d

/-- Write the status of a helper or delay node into word 28 (R140, R152). -/
def Dev.putStatus (d : Dev) (j n status : Nat) : Dev :=
  let v := d.load (ctxWord j 28) 8
  d.store (ctxWord j 28) 8 (v - bitsOf v (4 * n) 4 * 2 ^ (4 * n) + status * 2 ^ (4 * n))

/-- A helper, delay or thread node completes (R135, R140, R141, R244). `kind` is the node's kind of R126; a thread node names the core
and the thread that ran it (R145). -/
def Dev.nodeComplete (d : Dev) (g : Nat) (r : NodeRef) (kind status : Nat) (core thread : Nat := 0) : Dev :=
  let j := jobKey g r.slot
  let late := d.inc (R.DR_GSTAT g) F.DR_GSTAT_late
  match d.dr.jobs.find j with
  | none => late
  | some x =>
    if d.gen j ≠ r.gen || x.st ≠ 1 || !x.out.any (fun o => o.1 == r.node) then late
    else
      let d := d.setJob j { x with out := x.out.filter (fun o => o.1 != r.node), done := withBit x.done r.node true }
      let d := if kind = 0 then d else d.putStatus j r.node status
      let d := d.jobTrace (if 3 ≤ status then 3 else if kind = 6 then 4 else 2) j r.node core thread status
      if 3 ≤ status && TH.err_void (d.tmplHdr x.tmpl) then d.jobVoid j false
      else if kind = 1 && status = 2 then
        match d.rd (R.LD_TDEF x.tmpl) F.LD_TDEF_action with
        | 1 => d.jobVoid j false
        | 2 => d.jobVoid j false (some 0x90)
        | _ => d.fanout j r.node
      else d.fanout j r.node

/-- A thread that ran a node stops running it: the node completes, or the last thread node of a voided job ends (R143). -/
def Dev.threadNodeEnd (d : Dev) (k : Nat) (r : NodeRef) (good : Bool) : Dev :=
  let g := k / 64
  let j := jobKey g r.slot
  let d := d.wr (R.DR_CQ g (k / 8 % 8)) F.DR_CQ_busy (d.rd (R.DR_CQ g (k / 8 % 8)) F.DR_CQ_busy - 1)
  match d.dr.jobs.find j with
  | none => if good then d.inc (R.DR_GSTAT g) F.DR_GSTAT_late else d
  | some x =>
    if d.gen j ≠ r.gen then (if good then d.inc (R.DR_GSTAT g) F.DR_GSTAT_late else d)
    else
      let x := { x with running := x.running - 1 }
      let d := d.setJob j x
      if x.st = 2 then
        let d := if good then d.inc (R.DR_GSTAT g) F.DR_GSTAT_late else d
        if x.running = 0 then d.endVoid j else d
      else if good then d.nodeComplete g r 0 0 (k / 8 % 8) (k % 8)
      else d.jobVoid j false

/-! ## Admission -/

/-- The quota of the gallery admits n cells in the row, and the row has them (R330). -/
def Dev.cellRoom (d : Dev) (row g n : Nat) (c7 : Bool) : Bool :=
  !d.rowBusy row && d.quotaRoom (tagJob g 0) row n
    && (if c7 then n ≤ d.rowF row else n + d.rd (R.BN_ROWCFG row) F.BN_ROWCFG_c7_cells ≤ d.rowF row)

/-- The first resource missing for an admission to a gallery (R130): 0 slot, 1 ticket, 2 quota. -/
def Dev.missing (d : Dev) (g row n : Nat) (c7 ticket : Bool) : Option Nat :=
  if !d.slotRoom g c7 then some 0
  else if !ticket && !d.ticketRoom c7 then some 1
  else if !d.cellRoom row g n c7 then some 2
  else none

/-- The header window of a frame as a job gets it (R15, R95). -/
def Frame.window (f : Frame) : List Byte :=
  (if f.pass = 0 then f.data.take f.winLen else f.eh ++ f.data.drop f.winLen).take 256

/-- The lowest free slot of a gallery (DESIGN CHOICE, log entry 22). -/
def Dev.freeSlotOf (d : Dev) (g : Nat) : Nat :=
  ((List.range 2048).find? (fun s => (d.dr.jobs.find (jobKey g s)).isNone)).getD 0

/-- One copy of a tub enters a gallery: slot, cells, context and node counters (R131, R152, R153). -/
def Dev.enter (d : Dev) (h g : Nat) (twin : Bool) : Nat × Dev :=
  let f := d.frame h
  let slot := d.freeSlotOf g
  let j := jobKey g slot
  let t := T.template.get f.tub
  let n := TH.n_nodes (d.tmplHdr t)
  let row := f.row
  let need := 1 + TH.res_cells (d.tmplHdr t)
  let d := (d.reserve row (tagJob g slot) need (T.tclass.get f.tub == 7)).2
  let tub := Tub.clean (T.twin.put (T.job_slot.put (T.gallery.put f.tub g) slot) (b2n twin))
  let d := d.put (ctxAddr j) (leBytes 32 tub.toNat)
  let d := d.store (ctxWord j 28) 8 0
  let d := d.store (ctxWord j 29) 8 (d.gen j * 2 ^ 56 + f.exc.getD 0 * 2 ^ 48 + f.winLen * 2 ^ 32 + f.winLen * 2 ^ 16)
  let d := d.store (ctxWord j 30) 8 f.word30.toNat
  let d := d.store (ctxWord j 31) 8 f.word31.toNat
  let d := d.put (ctxWord j 32) f.window
  let d := ((d.goodWords g (ctxAddr j) 32).goodWords g (ctxWord j 28) 32).goodWords g (ctxWord j 32) f.window.length
  let cnt := (List.range 16).map (fun k => if k < n then ND.in_deg (d.tmplNode t k) else 0)
  let d := d.setJob j { tub := tub, tmpl := t, frame := h, cnt := cnt, resv := need, row := row, winLen := f.winLen, pipe := f.pipe, twin := twin }
  let d := d.wr (R.DR_TCTL t) F.DR_TCTL_live (d.rd (R.DR_TCTL t) F.DR_TCTL_live + 1)
  let d := d.inc (R.DR_PCNT f.pipe) F.DR_PCNT_admitted
  let d := d.jobTrace 0 j
  (j, (List.range n).foldl (fun d k => if cnt.getD k 0 = 0 then d.readyNode j k else d) d)

/-- The chain of an admitted frame goes to its job, or to the ticket of a twin (R131, R296). A chain that Crosscut still
holds for another copy stays with it (log entry 21). -/
def Dev.ownChain (d : Dev) (h tag : Nat) : Dev :=
  match (d.frame h).cell with
  | none => d
  | some p =>
    let e := d.entry (ptrRow p) (ptrIdx p)
    let own := CE.owner.get e
    if own = tagXc then
      if CE.refs.get e = 1 then (d.setEntry (ptrRow p) (ptrIdx p) (CE.refs.put e 0)).xfer p own tag else d
    else d.xfer p own tag

/-- Strike the head of an admission queue. -/
def Dev.admPop (d : Dev) (k : Nat) : Dev :=
  ({ d with dr := { d.dr with adm := d.dr.adm.upd [] k (·.drop 1) } }).syncAdm (k / 2)

/-- Admit a frame to a gallery and, as a twin, to its partner, under one ticket (R130, R131, R133). -/
def Dev.admitTo (d : Dev) (h g : Nat) (partner : Option Nat) : Dev :=
  let f := d.frame h
  let (j, d) := d.enter h g partner.isSome
  let (js, d) := match partner with
    | some q => let (j2, d) := d.enter h q true; ([j, j2], d)
    | none => ([j], d)
  let (t, d) := match f.ticket with
    | some t => (t, d.setTix t { (d.tix t).to d.now 1 with jobs := js, rel := none })
    | none => d.takeTicket { dom := f.dom, seq := f.seq, cls := T.tclass.get f.tub, st := 1, jobs := js, frame := h, twin := partner.isSome }
  let d := d.setTix t { d.tix t with twin := partner.isSome }
  let d := js.foldl (fun d j => d.setJob j { d.job j with ticket := t }) d
  let d := d.ownChain h (if partner.isSome then tagTicket t else tagJob (j / 2048) (j % 2048))
  (d.eddyReturn h).modFrame h (fun f => { f with stage := .job, ticket := none })

/-- A tub that Draught refuses for good (R132, R134), or whose body ended badly before its admission (R16): a bare void for its sequence, then the exception path. An Eddy
frame's sequence is already held by its ticket, which ends with the frame or carries it on (R96, R297). -/
def Dev.refuseTub (d : Dev) (k h code : Nat) : Dev :=
  let f := d.frame h
  let cls := T.tclass.get f.tub
  if f.ticket.isNone && !d.ticketRoom (cls == 7) then d.inc (R.DR_PSTAT f.pipe) F.DR_PSTAT_no_ticket
  else
    let d := if f.bad then d.admPop k else (d.admPop k).inc (R.DR_PCNT f.pipe) F.DR_PCNT_tmpl_off
    let d := if f.ticket.isSome then d
      else if !d.ahead f.dom f.seq then d.seqErr f.dom f.seq
      else
        let (_, d) := (d.inc R.HO_VCNT1 F.HO_VCNT1_bare).takeTicket { dom := f.dom, seq := f.seq, cls := cls, st := 4 }
        d.resolve f.dom
    if f.bad then d.dropFrame h else d.exception h code

/-- Why Draught refuses a tub for good: its template is off (0x80), or its affinity entry is dead (0x81). A tub whose body
ended badly is never admitted (R16); it takes no exception, and its code is zero. -/
def Dev.refusal (d : Dev) (h : Nat) : Option Nat :=
  let f := d.frame h
  let t := T.template.get f.tub
  if f.bad then some 0
  else if !d.tmplOn t then some 0x80
  else if TH.affinity (d.tmplHdr t) then
    let e := R.DR_AFF (TH.aff_map (d.tmplHdr t)) (crc32c (leBytes 2 f.dom) % 256)
    if !d.on e F.DR_AFF_valid || !d.galActive (d.rd e F.DR_AFF_gallery) then some 0x81 else none
  else none

/-- Count a refused admission and record it (R130, R145). -/
def Dev.countRefusal (d : Dev) (h g why : Nat) : Dev :=
  let f := d.frame h
  let d := d.inc (R.DR_PSTAT f.pipe) (match why with | 0 => F.DR_PSTAT_no_slot | 1 => F.DR_PSTAT_no_ticket | _ => F.DR_PSTAT_no_quota)
  d.trace 7 (T.template.get f.tub) g 0 f.tub f.pipe 0 0 0 why

/-- The partner of a twin admission that can reserve, after the first copy's ticket (R133). -/
def Dev.partnerOf (d : Dev) (h g n : Nat) : Option Nat :=
  let q := d.rd (R.DR_TWIN g) F.DR_TWIN_partner
  if d.on (R.DR_TWIN g) F.DR_TWIN_en && q != g && q < 26 && d.galActive q && (d.missing q (d.frame h).row n true true).isNone
      && 2 * n ≤ d.rowF (d.frame h).row then some q
  else none

/-- Draught considers the head of one admission queue (R129 to R134). -/
def Dev.admission (d : Dev) (k : Nat) : Dev :=
  if !d.on R.DR_CFG F.DR_CFG_adm_en then d
  else
    match d.dr.adm.get [] k with
    | [] => d
    | h :: _ =>
      let f := d.frame h
      if 0 < f.pass && f.hasSeq && f.ticket.isNone then
        ((d.admPop k).inc R.HO_ERR F.HO_ERR_eddy_late).endFrame h
      else
        match d.refusal h with
        | some code => d.refuseTub k h code
        | none =>
          let t := T.template.get f.tub
          let hd := d.tmplHdr t
          let n := 1 + TH.res_cells hd
          let c7 := T.tclass.get f.tub == 7
          if TH.affinity hd then
            let g := d.rd (R.DR_AFF (TH.aff_map hd) (crc32c (leBytes 2 f.dom) % 256)) F.DR_AFF_gallery
            match if d.rl.swapOld = some g then some 0 else d.missing g f.row n c7 f.ticket.isSome with
            | some why => d.countRefusal h g why
            | none => (d.admPop k).admitTo h g none
          else
            let p := k / 2
            let start := (d.dr.rr.get none p).getD (6 * p)
            let gs := ((List.range 26).map (fun i => (start + i) % 26)).filter (fun g => d.galActive g && d.rl.swapOld != some g)
            match gs.find? (fun g => (d.missing g f.row n c7 f.ticket.isSome).isNone) with
            | none =>
              match gs with
              | g :: _ => d.countRefusal h g ((d.missing g f.row n c7 f.ticket.isSome).getD 0)
              | [] => d.countRefusal h start 0
            | some g =>
              let d := { d with dr := { d.dr with rr := d.dr.rr.set none p (if (g + 1) % 26 = 6 * p then none else some ((g + 1) % 26)) } }
              let wants := c7 && f.twin && TH.twin_ok hd && d.on R.DR_CFG F.DR_CFG_twin_en
              let q := if wants then d.partnerOf h g n else none
              let slot := d.freeSlotOf g
              let d := (d.admPop k).admitTo h g q
              if wants && q.isNone then
                (d.inc (R.DR_PCNT p) F.DR_PCNT_twin_single).trace 8 t g slot f.tub p
              else d

/-! ## Hoist and jobs -/

/-- A void from Hoist to every job of a ticket (R294, R296). -/
def Dev.voidJobs (d : Dev) (js : List Nat) : Dev := js.foldl (fun d j => d.jobVoid j true) d

/-- The ticket and its jobs end at once. A ticket that owns its frame's cells frees them (R296). -/
def Dev.hoistVoid (d : Dev) (t : Nat) : Dev :=
  let x := d.tix t
  let d := d.voidTicket t
  let d := if x.twin then d.endFrame x.frame else d
  d.voidJobs x.jobs

/-- A DONE job is freed by Hoist's word; its frame's cells are freed when Hoist passes it over. -/
def Dev.doneJob (d : Dev) (j : Nat) : Dev :=
  match d.dr.jobs.find j with
  | some x => if x.st = 3 then d.freeSlot j else d
  | none => d

/-- A DONE ticket is passed over: its sequence, its slot and its frame's cells (R291, R293). -/
def Dev.passDone (d : Dev) (t : Nat) : Dev :=
  let x := d.tix t
  let d := d.endFrame x.frame
  let d := match x.rel with
    | some (_, _, _, j) => d.doneJob j
    | none => d
  d.voidTicket t

/-- The body of a DONE ticket's frame ended badly (R16, R291). -/
def Dev.bodyBad (d : Dev) (t : Nat) : Dev :=
  let f := d.frame (d.tix t).frame
  let d := if f.beyond || f.trunc then d else d.inc R.HO_VCNT1 F.HO_VCNT1_fcs
  d.passDone t

/-- The tub Hoist takes from a job: the thread-writable fields of words 0 to 3, the others from Draught's copy (R22, R153). -/
def mergeTub (mine ctx : Tub) : Tub :=
  [T.group, T.multicast, T.drop_n, T.drop, T.queue_n, T.queue, T.dcol_n, T.dcol, T.template, T.tclass].foldl
    (fun t f => f.put t (f.get ctx)) mine

/-- Hoist takes the release of a job (R137, R291, R296). -/
def Dev.releaseNode (d : Dev) (j : Nat) (r : NodeRef) : Dev :=
  match d.dr.jobs.find j with
  | none => d.inc (R.DR_GSTAT (j / 2048)) F.DR_GSTAT_late
  | some x =>
    let t := x.ticket
    let tk := d.tix t
    if d.gen j ≠ r.gen || x.st ≠ 1 || tk.st ≠ 1 || !tk.jobs.contains j then d.inc (R.DR_GSTAT (j / 2048)) F.DR_GSTAT_late
    else if !d.ahead tk.dom tk.seq then (d.seqErr tk.dom tk.seq).jobVoid j true
    else
      let tub := Tub.clean (mergeTub x.tub (BitVec.ofNat 256 (d.load (ctxAddr j) 32)))
      let w29 := d.load (ctxWord j 29) 8
      let eh := d.bytes (ctxWord j 32) ((bitsOf w29 32 9).min 256)
      let psel := bitsOf (d.load (ctxWord j 30) 8) 56 2
      let losers := tk.jobs.filter (· != j)
      let d := (d.setJob j { x with st := 3, out := x.out.filter (fun o => o.1 != r.node), tub := tub }).syncDrain (j / 2048)
      let d := d.jobTrace 5 j r.node
      let d := d.setTix t { tk.to d.now 2 with jobs := [j], rel := some (tub, eh, psel, j) }
      let d := losers.foldl (fun d k => (d.inc R.HO_VCNT0 F.HO_VCNT0_twin_lose).jobVoid k true) d
      let f := d.frame x.frame
      if f.bad then d.bodyBad t else d

/-- An eligible DONE ticket (R292). -/
def Dev.eligible (d : Dev) (x : Ticket) : Bool :=
  let f := d.frame x.frame
  x.st == 2 && f.bodyDone && f.fcsOk && !f.beyond && !f.trunc
    && (d.head x.dom == x.seq || bitAt (d.rd R.HO_CFG F.HO_CFG_unord_mask) x.cls)

/-- The eligible ticket of the oldest admission. -/
def Dev.nextEligible (d : Dev) : Option (Nat × Ticket) :=
  d.ho.tickets.foldl (fun (b : Option (Nat × Ticket)) e =>
    if d.eligible e.2 then
      match b with
      | some y => if e.2.order < y.2.order then some e else b
      | none => some e
    else b) none

/-- What a release hands over to Crosscut (R292, R304): the header cell, paid from the job's reservation and written, and the frame's
cells under one reference of Crosscut's own; the job's slot is then FREE (R143). A frame bound for column 9 has its header written into
row 9 instead. -/
def Dev.handOver (d : Dev) (j : Nat) (tub : Tub) (eh : List Byte) (eddy : Bool) : Nat × Dev :=
  let ptr := T.cell.get tub
  let row := ptrRow ptr
  let tag := tagJob (j / 2048) (j % 2048)
  let (hdr, d) :=
    if eddy then (0, d)
    else
      match d.take row tag with
      | (some c, d) => (c, (d.put (rowAddr row (ptrIdx c) 0) eh).append ptr c)
      | (none, d) => (0, d)
  let d := if CE.owner.get (d.entry row (ptrIdx ptr)) = tagXc then d else d.setref ptr (CE.owner.get (d.entry row (ptrIdx ptr))) 1
  (hdr, d.doneJob j)

/-- Release of one ticket (R291, R292). -/
def Dev.hoistRelease (d : Dev) : Dev :=
  match d.nextEligible with
  | none => d
  | some (t, x) =>
    match x.rel with
    | none => d
    | some (tub, eh, psel, j) =>
      if T.drop.get tub = 1 && T.drop_n.get tub = 0 then (d.inc R.HO_VCNT1 F.HO_VCNT1_drop).passDone t
      else
        let f := d.frame x.frame
        let winLen := (d.job j).winLen
        let eddy := T.dcol.get tub == 9 && T.multicast.get tub == 0
        let (hdr, d) := d.handOver j tub eh eddy
        let req : EnqReq := { src := 0, tub := tub, eh := eh, winLen := winLen, orig := false, psel := psel, frame := x.frame, hdr := hdr,
                              qp := f.qp, exc := f.exc.getD 0, mirror := f.mirror }
        let d := d.inc R.HO_CNT F.HO_CNT_released
        let d := d.modFrame x.frame (fun f => { f with stage := .switched })
        let d := { d with xc := { d.xc with reqs := d.xc.reqs ++ [req] } }
        if eddy then
          (d.setTix t { x.to d.now 3 with jobs := [], rel := none, twin := false }).modFrame x.frame (fun f => { f with ticket := some t })
        else if d.head x.dom = x.seq then ((d.freeTicket t).bumpHead x.dom).resolve x.dom
        else d.setTix t { x.to d.now 5 with jobs := [], rel := none, twin := false }

/-- RUN and EDDY time that a ticket has used (R294). -/
def Ticket.ran (x : Ticket) (now : Nat) : Nat := (x.to now x.st).used

/-- A ticket that has used up the reorder limit ends; a limit_us of 0 is 1 (R294). -/
def Dev.reorderLimit (d : Dev) (t : Nat) : Dev :=
  match d.ho.tickets.find t with
  | none => d
  | some x =>
    if x.st ≠ 1 && x.st ≠ 3 || x.ran d.now < usU ((d.rd R.HO_CFG F.HO_CFG_limit_us).max 1) then d
    else
      let j := x.jobs.headD 0
      let d := d.inc R.HO_VCNT0 F.HO_VCNT0_late
      let d := d.rset R.HO_LATE (BitVec.ofNat 64 (x.dom * 2 ^ 48 + x.seq * 2 ^ 28 + j / 2048 * 2 ^ 23 + j % 2048 * 2 ^ 12 + 1))
      let d := d.tally 0x0B02 x.dom [x.seq]
      let d := if x.st = 3 then d.modFrame x.frame (fun f => { f with ticket := none }) else d
      d.hoistVoid t

/-- Reclaim of a gallery's tickets (R298). -/
def Dev.hoistReclaim (d : Dev) (g : Nat) : Dev :=
  let mine := d.ho.tickets.filter (fun e => (e.2.st == 1 || e.2.st == 2) && e.2.jobs.any (fun j => j / 2048 == g))
  mine.foldl (fun d e =>
    let left := e.2.jobs.filter (fun j => j / 2048 != g)
    if left.isEmpty then
      let d := d.inc R.HO_VCNT0 F.HO_VCNT0_reclaim
      let d := if e.2.twin then d.endFrame e.2.frame else d
      d.voidTicket e.1
    else (d.setTix e.1 { e.2 with jobs := left }).limits) d

/-- The engine operations of a gallery are dropped; those of Lode give their places in its queues back. -/
def Dev.dropEngine (d : Dev) (g : Nat) : Dev :=
  let mine := d.dr.engine.filter (fun e => e.g == g && e.kind == 1)
  let d := mine.foldl (fun d e => d.leaveQueue e.quad) d
  { d with dr := { d.dr with engine := d.dr.engine.filter (fun e => e.g != g) } }

/-- Every slot of a gallery becomes FREE, its delay list and core queues are discarded (R143, R148, R407). -/
def Dev.draughtReclaim (d : Dev) (g : Nat) : Dev :=
  let js := (d.dr.jobs.filter (fun e => e.1 / 2048 == g)).map (·.1)
  let d := js.foldl (fun d j => d.freeSlot j) d
  let d := d.dropEngine g
  let d := { d with dr := { d.dr with ready := d.dr.ready.set [] g [], delays := d.dr.delays.set [] g [] } }
  (List.range 8).foldl (fun d c => ({ d with dr := { d.dr with cq := d.dr.cq.set [] (g * 8 + c) [] } }).syncCq g c) d

end Sys2Proof.Machine
end

