-- ==== Sys2Proof/Machine/LodeOps.lean ====
section
/-!
DEFINITION. Lode: records, buckets, the functions and what they do (R232 to R263), as operations.
-/

namespace Sys2Proof.Machine

/-! ## Records (R237) -/

abbrev LRec := BitVec 512

def L.payload (f : Nat) : BF := ⟨256 + 32 * f, 32⟩
def L.verdict : BF := ⟨248, 8⟩
def L.touch : BF := ⟨192, 56⟩
def L.age : BF := ⟨180, 4⟩
def L.tmo : BF := ⟨176, 4⟩
def L.valid : BF := ⟨175, 1⟩
def L.pair : BF := ⟨174, 1⟩
def L.ext : BF := ⟨173, 1⟩
def L.pin : BF := ⟨172, 1⟩
def L.idle : BF := ⟨171, 1⟩
def L.kind : BF := ⟨160, 8⟩
def L.key : BF := ⟨0, 160⟩
/-- Supervision fields that kinds 0x43 and 0x44 share (R253, R254). -/
def L.deadline : BF := ⟨320, 24⟩
def L.armed : BF := ⟨344, 1⟩
def L.expired : BF := ⟨345, 1⟩
def L.wslot : BF := ⟨352, 16⟩
def L.watched : BF := ⟨368, 1⟩
def L.expiries : BF := ⟨480, 16⟩

/-- Where byte 0 of the 2 GiB of records stands in memory. -/
def lodeAddr (off : Nat) : Nat := 2 ^ 46 + off

def Dev.lrec (d : Dev) (i : Nat) : LRec := BitVec.ofNat 512 (d.load (lodeAddr (i * 64)) 64)
def Dev.lput (d : Dev) (i : Nat) (r : LRec) : Dev := d.store (lodeAddr (i * 64)) 64 r.toNat

/-- Write a record, keeping LD_OCC. -/
def Dev.setRec (d : Dev) (i : Nat) (r : LRec) : Dev :=
  let was := L.valid.get (d.lrec i)
  let d := (d.lput i r).wr R.LD_OCC F.LD_OCC_occ (d.rd R.LD_OCC F.LD_OCC_occ + L.valid.get r - was)
  d.markHigh R.LD_OCC F.LD_OCC_occ_max (d.rd R.LD_OCC F.LD_OCC_occ)

/-- Add to a field that saturates. -/
def satAdd (f : BF) (r : LRec) (n : Nat) : LRec := f.put r ((f.get r + n).min (2 ^ f.w - 1))

/-- The ms time of a short stamp (R106). -/
def msOfStamp (st : Nat) : Nat := (bitsOf st 32 24 * 1000 + bitsOf st 2 30 / 1000000) % 2 ^ 24

/-- Ms since a record was touched, modulo 2^24. -/
def Dev.msSince (d : Dev) (r : LRec) : Nat := (msTime d.now + 2 ^ 24 - msOfStamp (L.touch.get r)) % 2 ^ 24

/-! ## Buckets and hashing (R234, R235) -/

/-- The CRC of a key image: kind and 20 key bytes. -/
def keyCrc (kind key : Nat) : Nat := crc32c (leBytes 24 (kind * 2 ^ 24 + key * 2 ^ 32))

/-- The two candidate buckets of a key. -/
def candidates (kind key : Nat) : Nat × Nat :=
  let c := keyCrc kind key
  let b1 := c % 2 ^ 23
  let t := bitsOf c 23 9
  let g := (t + 1) * 0x59B1D % 2 ^ 23
  let g := g / 4 * 4 + 2
  (b1, b1 ^^^ g)

def quadOf (bucket : Nat) : Nat := bucket % 4
def Dev.quadFenced (d : Dev) (q : Nat) : Bool := d.on (R.LD_QSTAT q) F.LD_QSTAT_fenced

def Dev.wayFree (d : Dev) (i : Nat) : Bool := L.valid.get (d.lrec i) == 0

/-- The way of a bucket that holds a key. -/
def Dev.findIn (d : Dev) (b kind key : Nat) : Option Nat :=
  ((List.range 4).map (fun w => b * 4 + w)).find? (fun i =>
    let r := d.lrec i
    L.valid.get r == 1 && L.ext.get r == 0 && L.kind.get r == kind && L.key.get r == key)

def Dev.freeWays (d : Dev) (b : Nat) : List Nat := ((List.range 4).map (fun w => b * 4 + w)).filter d.wayFree

/-- The place a single record takes (R235). -/
def Dev.placeSingle (d : Dev) (b1 b2 : Nat) : Option Nat :=
  let f1 := d.freeWays b1
  let f2 := d.freeWays b2
  if f1.length < f2.length then f2.head? else f1.head?

/-- The place a pair takes: the first aligned free pair of ways. -/
def Dev.placePair (d : Dev) (b1 b2 : Nat) : Option Nat :=
  [b1 * 4, b1 * 4 + 2, b2 * 4, b2 * 4 + 2].find? (fun i => d.wayFree i && d.wayFree (i + 1))

/-- A record that displacement may move (R236). -/
def Dev.movableRec (d : Dev) (i : Nat) : Bool :=
  let r := d.lrec i
  L.valid.get r == 1 && L.ext.get r == 0 && L.pair.get r == 0 && L.pin.get r == 0

/-- A record's other candidate bucket. -/
def Dev.otherBucket (d : Dev) (i : Nat) : Nat :=
  let r := d.lrec i
  let (a, b) := candidates (L.kind.get r) (L.key.get r)
  if i / 4 = a then b else a

/-- Moves of a found chain, far end first: each record into the place of the next, the last into the free way. -/
def chainMoves (free : Nat) : List Nat → List (Nat × Nat)
  | [] => []
  | i :: r => (i, free) :: chainMoves i r

/-- Breadth-first search for a displacement path: chains are held last record first; at most `reads` buckets are read. A path for a
pair must not end in the pair's own free way, `bar`. -/
def Dev.kickSearch (d : Dev) (kmax : Nat) (bar : Option Nat) : Nat → List (List Nat) → Option (List (Nat × Nat))
  | 0, _ => none
  | _, [] => none
  | n + 1, [] :: q => d.kickSearch kmax bar n q
  | n + 1, (i :: c) :: q =>
    let b := d.otherBucket i
    match (d.freeWays b).filter (fun f => bar != some f) with
    | f :: _ => some (chainMoves f (i :: c))
    | [] =>
      if kmax ≤ c.length + 1 then d.kickSearch kmax bar n q
      else
        let next := ((List.range 4).map (fun w => b * 4 + w)).filter (fun k => d.movableRec k && !(i :: c).contains k)
        d.kickSearch kmax bar n (q ++ next.map (fun k => k :: i :: c))

/-- Moves in a path (R236, LD_SWEEP.kick_max). -/
def Dev.kickMax (d : Dev) : Nat := (d.rd R.LD_SWEEP F.LD_SWEEP_kick_max).min 4

/-- A displacement path for an insert. The two candidates themselves count among the 64 buckets read. -/
def Dev.kickPath (d : Dev) (b1 b2 : Nat) (pair : Bool) : Option (List (Nat × Nat)) :=
  let k := d.kickMax
  if k = 0 then none
  else if pair then
    [b1 * 4, b1 * 4 + 2, b2 * 4, b2 * 4 + 2].findSome? (fun i =>
      let r := if d.wayFree i && d.movableRec (i + 1) then some (i + 1, i) else if d.wayFree (i + 1) && d.movableRec i then some (i, i + 1) else none
      match r with
      | some x => d.kickSearch k (some x.2) 62 [[x.1]]
      | none => none)
  else
    d.kickSearch k none 62 ((((List.range 4).map (fun w => b1 * 4 + w)) ++ ((List.range 4).map (fun w => b2 * 4 + w))).filter d.movableRec |>.map (fun i => [i]))

/-- One move of a path: it rechecks its source and its target (R236). -/
def Dev.kickMove (d : Dev) (k : Kick) : Dev :=
  match k.moves with
  | [] => d
  | (a, b) :: rest =>
    let put (x : Kick) (d : Dev) : Dev := { d with ld := { d.ld with kicks := d.ld.kicks.map (fun y => if y.who = k.who then x else y) } }
    if d.wayFree b && d.movableRec a && d.otherBucket a == b / 4 then
      let r := d.lrec a
      let d := (d.setRec a 0).setRec b r
      let d := if (L.kind.get r = 0x43 || L.kind.get r = 0x44) && L.watched.get r = 1 then
          { d with ld := { d.ld with watch := d.ld.watch.put (L.wslot.get r) (b, L.deadline.get r) } } else d
      put { k with moves := rest } d
    else put { k with moves := [], failed := true } d

/-! ## Anomalies, watch table, exports -/

/-- Raise an anomaly that LD_CFG enables (R256). -/
def Dev.anomaly (d : Dev) (code idx detail kind : Nat) : Dev :=
  if !bitAt (d.rd R.LD_CFG F.LD_CFG_anom_en) code then d
  else if 4096 ≤ d.ld.anoms.length then d.inc R.LD_ANSTAT F.LD_ANSTAT_lost
  else
    let e := BitVec.ofNat 128 (code * 2 ^ 124 + idx * 2 ^ 96 + detail % 2 ^ 32 * 2 ^ 64 + kind * 2 ^ 56 + stampOf d.now)
    let d := { d with ld := { d.ld with anoms := d.ld.anoms ++ [e] } }
    d.wr R.LD_ANSTAT F.LD_ANSTAT_depth d.ld.anoms.length

/-- Free the watch slot of a record that holds one. -/
def Dev.unwatch (d : Dev) (r : LRec) : Dev :=
  if (L.kind.get r = 0x43 || L.kind.get r = 0x44) && L.watched.get r = 1 then
    { d with ld := { d.ld with watch := d.ld.watch.del (L.wslot.get r) } }
  else d

/-- An armed record holds a watch slot with a copy of its deadline, or is counted (R255). -/
def Dev.rewatch (d : Dev) (i : Nat) (r : LRec) : LRec × Dev :=
  if L.watched.get r = 1 then
    (r, { d with ld := { d.ld with watch := d.ld.watch.put (L.wslot.get r) (i, L.deadline.get r) } })
  else
    match (List.range 65536).find? (fun s => (d.ld.watch.find s).isNone) with
    | some s => (L.watched.put (L.wslot.put r s) 1, { d with ld := { d.ld with watch := d.ld.watch.put s (i, L.deadline.get r) } })
    | none => (r, d.inc R.LD_STAT F.LD_STAT_watch_full)

/-- The TAL of a GOOSE record or the timeout of an SV record. -/
def supTime (r : LRec) : Nat := if L.kind.get r = 0x43 then BF.get ⟨304, 16⟩ r else BF.get ⟨288, 16⟩ r

/-- An armed record expires (R255). -/
def Dev.expireRec (d : Dev) (i : Nat) (r : LRec) : LRec × Dev :=
  let d := (d.unwatch r).anomaly 1 i (supTime r) (L.kind.get r)
  (satAdd L.expiries (L.watched.put (L.expired.put (L.armed.put r 0) 1) 0) 1, d)

/-- An export entry of a record (R260): reason 0 age, 1 delete, 2 flush, 3 active. -/
def Dev.exportOne (d : Dev) (i reason : Nat) (ext : Bool) : Dev :=
  let e := leBytes 64 (d.lrec i).toNat ++ leBytes 8 (stampOf d.now) ++ leBytes 8 (i + reason * 2 ^ 25 + b2n ext * 2 ^ 28) ++ List.replicate 48 0
  { d with ld := { d.ld with exports := d.ld.exports ++ [e] } }

def Dev.exportRec (d : Dev) (i reason : Nat) : Dev :=
  let d := d.exportOne i reason false
  if L.pair.get (d.lrec i) = 1 then d.exportOne (i + 1) reason true else d

/-- The Overman's copy of a pinned record goes, with that of its extension. -/
def Dev.dropPin (d : Dev) (i : Nat) : Dev := { d with ld := { d.ld with pinCopy := (d.ld.pinCopy.del i).del (i + 1) } }

/-- The Overman copies a record that is pinned, with its extension (R262). -/
def Dev.copyPin (d : Dev) (i : Nat) : Dev :=
  let r := d.lrec i
  let copy (k : Nat) (d : Dev) : Dev := { d with ld := { d.ld with pinCopy := d.ld.pinCopy.put k (d.lrec k) } }
  if L.pin.get r = 1 then (if L.pair.get r = 1 then copy (i + 1) (copy i d) else copy i d)
  else if L.ext.get r = 1 && 0 < i && (d.ld.pinCopy.find (i - 1)).any (fun p => L.pair.get p == 1) then copy i d
  else d

/-- Remove a primary and its extension, exporting them when its kind asks for it. -/
def Dev.removeRec (d : Dev) (i reason : Nat) : Dev :=
  let r := d.lrec i
  let d := if L.pin.get r = 1 then d.dropPin i else d
  let d := if d.on (R.LD_KIND (L.kind.get r)) F.LD_KIND_exp_rm && d.on R.LD_EXPRING F.LD_EXPRING_en then d.exportRec i reason else d
  let d := (d.unwatch r).setRec i (L.valid.put r 0)
  if L.pair.get r = 1 then d.setRec (i + 1) (L.valid.put (d.lrec (i + 1)) 0) else d

/-! ## Functions on a record (R250 to R254) -/

/-- What a function makes of a record: the new record, its verdict, anomalies as (code, detail), whether it is
touched, and whether it arms a supervision; none for status 7. -/
structure Judged where
  r : LRec
  verdict : Nat := 0
  anoms : List (Nat × Nat) := []
  touch : Bool := true
  arms : Bool := false

/-- SEQ on kind 0x40 (R250). -/
def seqDiscard (r : LRec) (old : Bool) (s : Nat) : Judged :=
  let high : BF := ⟨256, 16⟩
  let init : BF := ⟨272, 1⟩
  let map : BF := ⟨288, 128⟩
  if init.get r = 0 || old then { r := init.put (map.put (high.put r s) 1) 1, verdict := 1 }
  else
    let h := high.get r
    let m := map.get r
    let dl := (s + 2 ^ 16 - h) % 2 ^ 16
    if 1 ≤ dl && dl ≤ 32767 then { r := map.put (high.put r s) ((m * 2 ^ dl % 2 ^ 128) / 2 * 2 + 1), verdict := 0 }
    else if dl = 0 || 65409 ≤ dl then
      let k := (h + 2 ^ 16 - s) % 2 ^ 16
      if bitAt m k then { r := satAdd (L.payload 5) r 1, verdict := 2 }
      else { r := map.put r (m + 2 ^ k), verdict := 0 }
    else { r := satAdd ⟨448, 16⟩ (map.put (high.put r s) 1) 1, verdict := 8, anoms := [(9, 0)] }

/-- Zeros among `n` bits of a number from bit `lo`. -/
def zeros (m lo : Nat) : Nat → Nat
  | 0 => 0
  | n + 1 => b2n (!bitAt m (lo + n)) + zeros m lo n

/-- SEQ on kind 0x41 (R251). -/
def seqRecover (r : LRec) (old : Bool) (s : Nat) : Option Judged :=
  let recov : BF := ⟨256, 16⟩
  let any : BF := ⟨272, 1⟩
  let alg : BF := ⟨273, 1⟩
  let len := BF.get ⟨274, 7⟩ r + 1
  let hist : BF := ⟨288, 128⟩
  if len = 1 then none
  else
    let pass (j : Judged) : Judged := { j with r := satAdd (L.payload 5) j.r 1 }
    let fail (j : Judged) : Judged := { j with r := satAdd (L.payload 6) j.r 1, touch := false }
    let a := if old then [(8, 0)] else []
    if old || any.get r = 1 then
      some (pass { r := any.put (hist.put (recov.put r s) 1) 0, verdict := 1, anoms := a })
    else if alg.get r = 1 then
      if s = recov.get r then some (fail { r := r, verdict := 2 }) else some (pass { r := recov.put r s })
    else
      let dl := toSigned 16 ((s + 2 ^ 16 - recov.get r) % 2 ^ 16)
      let m := hist.get r
      if (len : Int) ≤ dl.natAbs then some (fail { r := satAdd ⟨496, 8⟩ r 1, verdict := 7, anoms := [(7, 0)] })
      else if dl ≤ 0 then
        if bitAt m dl.natAbs then some (fail { r := r, verdict := 2 }) else some (pass { r := hist.put r (m + 2 ^ dl.natAbs) })
      else
        let n := dl.natAbs
        let lost := zeros m (len - n) n
        let m := (m * 2 ^ n + 1) % 2 ^ len
        some (pass { r := satAdd ⟨504, 8⟩ (recov.put (hist.put r m) s) lost })

/-- SUPV on kind 0x43 (R253); the deadline is set by the caller. -/
def supGoose (r : LRec) (op : Nat) : Judged :=
  let st := bitsOf op 0 32
  let sq := bitsOf op 32 16
  let tal := bitsOf op 48 16
  let fst := L.payload 0
  let fsq : BF := ⟨288, 16⟩
  let dst := (st + 2 ^ 32 - fst.get r) % 2 ^ 32
  let take (r : LRec) : LRec := BF.put ⟨304, 16⟩ (fsq.put (fst.put r st) sq) tal
  if L.armed.get r = 0 then
    { r := take r, verdict := 1, anoms := if L.expired.get r = 1 then [(6, st)] else [] }
  else if dst = 0 then
    let dq := (sq + 2 ^ 16 - fsq.get r) % 2 ^ 16
    if dq = 1 then { r := take r }
    else if dq = 0 then { r := satAdd ⟨448, 16⟩ (BF.put ⟨304, 16⟩ r tal) 1, verdict := 2 }
    else if dq < 0x8000 then { r := take (satAdd ⟨416, 16⟩ r (dq - 1)), verdict := 3, anoms := [(3, dq - 1)] }
    else { r := satAdd ⟨432, 16⟩ r 1, verdict := 4 }
  else if dst = 1 then { r := take (satAdd (L.payload 4) r 1), verdict := 5 }
  else if dst < 2 ^ 31 then { r := take (satAdd ⟨464, 16⟩ (satAdd (L.payload 4) r 1) 1), verdict := 6, anoms := [(2, st)] }
  else { r := satAdd ⟨432, 16⟩ r 1, verdict := 4, anoms := [(4, st)] }

/-- SUPV on kind 0x44 (R254). -/
def supSv (r : LRec) (op : Nat) : Option Judged :=
  let smp := bitsOf op 0 16
  let syn := bitsOf op 16 2
  let last : BF := ⟨256, 16⟩
  let rate := BF.get ⟨272, 16⟩ r
  let fsyn : BF := ⟨304, 2⟩
  if rate = 0 then none
  else
    let ds := (((smp : Int) - last.get r) % rate).toNat
    let chg := syn != fsyn.get r
    let a5 := if chg then [(5, syn)] else []
    let r := if chg then fsyn.put (satAdd ⟨464, 16⟩ r 1) syn else r
    let r := satAdd (L.payload 4) r 1
    if L.armed.get r = 0 then
      some { r := last.put r smp, verdict := 1, anoms := (if L.expired.get r = 1 then [(6, smp)] else []) ++ a5 }
    else if ds = 1 then some { r := last.put r smp, anoms := a5 }
    else if ds = 0 then some { r := satAdd ⟨448, 16⟩ r 1, verdict := 2, anoms := a5 }
    else if 2 * ds < rate then some { r := last.put (satAdd ⟨416, 16⟩ r (ds - 1)) smp, verdict := 3, anoms := (3, ds - 1) :: a5 }
    else some { r := satAdd ⟨432, 16⟩ r 1, verdict := 4, anoms := a5 }

/-! ## The argument block (R239) -/

def LA.kind (a : Nat) : Nat := bitsOf a 24 8
def LA.ins (a : Nat) : Bool := bitAt a 23
def LA.idx (a : Nat) : Bool := bitAt a 22
def LA.w64 (a : Nat) : Bool := bitAt a 21
def LA.field (a : Nat) : Nat := bitsOf a 18 3
def LA.pair (a : Nat) : Bool := bitAt a 17
def LA.pin (a : Nat) : Bool := bitAt a 16
def LA.tmo (a : Nat) : Nat := bitsOf a 12 4
def LA.key (a : Nat) : Nat := bitsOf a 32 160
def LA.index (a : Nat) : Nat := bitsOf a 32 25
def LA.operand (a : Nat) : Nat := bitsOf a 192 64

/-- The buckets of an argument block: that of its index, or its key's two candidates. -/
def bucketsOf (a : Nat) : Nat × Nat := if LA.idx a then (LA.index a / 4, LA.index a / 4) else candidates (LA.kind a) (LA.key a)

/-- The home quadrant of an argument block (R234). -/
def homeQuad (a : Nat) : Nat := quadOf (bucketsOf a).1

/-- A bad argument (R239, R240). -/
def lodeBad (fn a : Nat) : Bool :=
  let k := LA.kind a
  bitsOf a 0 12 != 0 || k == 0 || 0x45 ≤ k || (LA.w64 a && LA.field a % 2 == 1) || 11 ≤ fn
    || (fn == 5 && LA.w64 a) || (fn == 3 && !(k == 0x43 || k == 0x44)) || (fn == 6 && !(k == 0x40 || k == 0x41))
    || (fn == 8 && k != 0x42) || (fn == 9 && !LA.idx a) || (fn == 10 && !LA.idx a)
    || ((fn == 3 || fn == 6) && LA.ins a && !LA.idx a && (k == 0x44 || k == 0x41))

/-- The record an insert writes (R239). -/
def newRec (a st : Nat) : LRec :=
  L.touch.put (L.tmo.put (L.valid.put (L.pair.put (L.pin.put (L.kind.put (L.key.put 0 (LA.key a)) (LA.kind a)) (b2n (LA.pin a))) (b2n (LA.pair a))) 1) (LA.tmo a)) st

/-- The extension of a fresh pair (R238). -/
def newExt (kind : Nat) : LRec := L.valid.put (L.ext.put (L.kind.put 0 kind) 1) 1

/-- What a Lode operation answers: status, record index, returned record and extension. -/
structure LRes where
  status : Nat
  idx : Nat := 0
  r : LRec := 0
  ext : LRec := 0

/-- The status word (R242). -/
def LRes.word (x : LRes) : Nat := x.idx * 16 + x.status

/-- Set age and touch on the record an operation found or inserted (R240, R251, R258). -/
def touched (r : LRec) (st : Nat) (touch : Bool) : LRec :=
  let r := L.age.put r 0
  if touch then L.idle.put (L.touch.put r st) 0 else r

/-- What the watch table makes of a record that an operation writes (R255): the slot's copy follows the deadline, and a record that the
operation arms takes a slot. -/
def Dev.watchAs (d : Dev) (i : Nat) (old r : LRec) (arms : Bool) : LRec × Dev :=
  if (L.kind.get r ≠ 0x43 && L.kind.get r ≠ 0x44) || L.ext.get r = 1 || L.armed.get r = 0 then (r, d)
  else if L.watched.get r = 1 then (if (d.ld.watch.find (L.wslot.get r)).any (fun e => e.1 == i) then d.rewatch i r else (r, d))
  else if arms || L.armed.get old = 0 then d.rewatch i r
  else (r, d)

/-- A function's record goes back with its age and touch set, its failures are counted, and the answer is drawn up (R240). -/
def Dev.applyDone (d : Dev) (i kind status : Nat) (j : Judged) : LRes × Dev :=
  let w := d.watchAs i (d.lrec i) j.r j.arms
  let d := w.2
  let r := touched w.1 (stampOf d.now) j.touch
  let d := j.anoms.foldl (fun d x => d.anomaly x.1 i x.2 kind) (d.setRec i r)
  ({ status := status, idx := i, r := L.verdict.put r j.verdict, ext := if L.pair.get r = 1 then d.lrec (i + 1) else 0 }, d)

/-- A function whose argument is bad changes nothing; the answer names the record found or addressed (R242). -/
def Dev.applyBad (d : Dev) (i : Nat := 0) : LRes × Dev := ({ status := 7, idx := i }, d)

/-- Supervision of a GOOSE or SV record (R253, R254): a message that is taken sets the record's deadline. -/
def Dev.applySup (d : Dev) (i kind status op : Nat) (r : LRec) : LRes × Dev :=
  match (if kind = 0x43 then some (supGoose r op) else supSv r op) with
  | none => d.applyBad i
  | some j =>
    if j.verdict = 4 then d.applyDone i kind status j
    else
      let r := L.expired.put (L.armed.put (L.deadline.put j.r (msTime d.now + supTime j.r)) 1) 0
      d.applyDone i kind status { j with r := r, arms := true }

/-- The sequence function on a record (R250, R251). -/
def Dev.applySeq (d : Dev) (i kind status s : Nat) (r : LRec) : LRes × Dev :=
  if kind = 0x40 then
    d.applyDone i kind status (seqDiscard r (L.idle.get r == 1 || d.rd (R.LD_KIND 0x40) F.LD_KIND_forget_ms ≤ d.msSince r) s)
  else
    let rst := BF.get ⟨480, 16⟩ r
    match seqRecover r (rst != 0 && (L.idle.get r == 1 || rst ≤ d.msSince r)) s with
    | some j => d.applyDone i kind status j
    | none => d.applyBad i

/-- Delete a record, with its extension; the answer holds the record as it stood. -/
def Dev.applyDelete (d : Dev) (i status : Nat) (r : LRec) : LRes × Dev :=
  let x : LRes := { status := status, idx := i, r := touched (L.valid.put r 0) (stampOf d.now) true, ext := if L.pair.get r = 1 then L.valid.put (d.lrec (i + 1)) 0 else 0 }
  (x, (d.removeRec i 1).lput i x.r)

/-- Apply a function to a record in its place (R240). -/
def Dev.applyFn (d : Dev) (fn a i status : Nat) : LRes × Dev :=
  let r := d.lrec i
  let kind := L.kind.get r
  let op := LA.operand a
  let fld : BF := ⟨256 + 32 * LA.field a, if LA.w64 a then 64 else 32⟩
  match fn with
  | 2 => d.applyDone i kind status { r := fld.put r (fld.get r + op) }
  | 3 =>
    let x := if L.armed.get r = 1 && L.idle.get r = 1 then d.expireRec i r else (r, d)
    x.2.applySup i kind status op x.1
  | 4 => d.applyDone i kind status { r := fld.put r ((fld.get r).max (op % 2 ^ fld.w)) }
  | 5 => d.applyDone i kind status (if fld.get r = bitsOf op 0 32 then { r := fld.put r (bitsOf op 32 32) } else { r := r, verdict := 9 })
  | 6 => d.applySeq i kind status (op % 2 ^ 16) r
  | 7 => d.applyDelete i status r
  | 8 => d.applyDone i kind status { r := satAdd (L.payload 1) (BF.put ⟨256, 16⟩ r (BF.get ⟨256, 16⟩ r + 1)) 1 }
  | _ => d.applyDone i kind status { r := r }

/-! ## Repair (R232, R263) -/

/-- Bank of a bucket among the 1,024, its channel among the 64, and its row's key. -/
def bankOf (b : Nat) : Nat := b % 1024
def chanOf (b : Nat) : Nat := b % 64
def rowKey (b : Nat) : Nat := bankOf b * 1024 + b / 8192

/-- A bank is copied to its channel's spare bank, or stays in service with ALARM_N raised. -/
def Dev.bankRepair (d : Dev) (b : Nat) : Dev :=
  if (d.ld.repairs.get none (2 ^ 20 + bankOf b)).isSome then d
  else if d.ld.spareBank.get false (chanOf b) then d.alarm F.RL_ALARM_lode_spare true
  else
    { d with ld := { d.ld with spareBank := d.ld.spareBank.set false (chanOf b) true, repairs := d.ld.repairs.set none (2 ^ 20 + bankOf b) (some 0) } }

/-- A row is copied to a spare row of its bank. -/
def Dev.rowRepair (d : Dev) (b : Nat) : Dev :=
  if (d.ld.repairs.get none (rowKey b)).isSome then d
  else if 32 ≤ d.ld.rowsUsed.get 0 (bankOf b) then d.bankRepair b
  else
    { d with ld := { d.ld with rowsUsed := d.ld.rowsUsed.upd 0 (bankOf b) (· + 1), repairs := d.ld.repairs.set none (rowKey b) (some 0)
                               rowErrs := d.ld.rowErrs.set [] (rowKey b) [] } }

/-- A corrected word in a bucket (R262, R263): a row whose errors within 24 h reach thr is repaired. -/
def Dev.lodeCorrected (d : Dev) (b : Nat) : Dev :=
  let d := d.inc R.LD_ECC F.LD_ECC_corr
  let l := d.now :: (d.ld.rowErrs.get [] (rowKey b)).filter (fun t => d.now < t + 86400 * unitsPerSec)
  let d := { d with ld := { d.ld with rowErrs := d.ld.rowErrs.set [] (rowKey b) l } }
  if (d.rd (R.LD_REPAIR (quadOf b)) F.LD_REPAIR_thr).max 1 ≤ l.length then d.rowRepair b else d

/-- An uncorrectable word: a bank with two such rows is replaced. -/
def Dev.lodeBadRow (d : Dev) (b : Nat) : Dev :=
  let l := d.ld.badRows.get [] (bankOf b)
  if l.contains (b / 8192) then d
  else
    let d := { d with ld := { d.ld with badRows := d.ld.badRows.set [] (bankOf b) (b / 8192 :: l) } }
    if l.isEmpty then d else d.bankRepair b

/-- A way with an uncorrectable word is scrapped, with its extension (R262). -/
def Dev.scrapWay (d : Dev) (i : Nat) : Dev :=
  let r := d.lrec i
  let main := if L.ext.get r = 1 then i - 1 else i
  let pin := L.pin.get (d.lrec main) = 1
  let d := (d.unwatch (d.lrec main)).setRec i (L.valid.put r 0)
  let other := if L.pair.get r = 1 then some (i + 1) else if L.ext.get r = 1 then some (i - 1) else none
  let d := match other with | some k => d.setRec k (L.valid.put (d.lrec k) 0) | none => d
  let d := d.inc R.LD_ECC F.LD_ECC_uncorr
  let d := (d.wr R.LD_ECC F.LD_ECC_bad 1).wr R.LD_ECC F.LD_ECC_bad_idx i
  let d := if pin then { d with ld := { d.ld with lostPins := d.ld.lostPins ++ [main] } } else d
  (d.tally 0x0903 (quadOf (i / 4)) [i]).lodeBadRow (i / 4)

/-- The Overman rewrites one lost pinned record from its own copy, with its extension (R262), unless its place has been taken. -/
def Dev.pinBack (d : Dev) (i : Nat) : Dev :=
  match d.ld.pinCopy.find i with
  | none => d
  | some r =>
    let two := L.pair.get r = 1
    if !d.wayFree i || (two && !d.wayFree (i + 1)) then d
    else
      let r0 := if L.kind.get r = 0x43 || L.kind.get r = 0x44 then L.watched.put r 0 else r
      let w := d.watchAs i 0 r0 true
      let d := w.2.setRec i w.1
      if two then d.setRec (i + 1) ((d.ld.pinCopy.find (i + 1)).getD (L.valid.put (L.ext.put (L.kind.put 0 (L.kind.get r)) 1) 1)) else d

/-- The pinned records that an uncorrectable word has cost come back (R262). The table has no row for it: it is part of the idle step
(DESIGN CHOICE, log entry 1). -/
def Dev.pinsBack (d : Dev) : Dev := { d.ld.lostPins.foldl Dev.pinBack d with ld := { (d.ld.lostPins.foldl Dev.pinBack d).ld with lostPins := [] } }

/-- Count an operation at a quadrant, and the failures LD_STAT counts. -/
def Dev.countOp (d : Dev) (q : Nat) (x : LRes) : Dev :=
  let d := d.inc (R.LD_QSTAT q) F.LD_QSTAT_ops
  if x.status = 7 then d.inc R.LD_STAT F.LD_STAT_bad_arg
  else if x.status = 2 then d.inc R.LD_STAT F.LD_STAT_ins_fail
  else d

/-- Whether the other of a record's two buckets, or another way, already holds its key. -/
def Dev.heldElsewhere (d : Dev) (i : Nat) (r : LRec) (b : Nat × Nat) : Bool :=
  ((d.findIn b.1 (L.kind.get r) (L.key.get r)).toList ++ (d.findIn b.2 (L.kind.get r) (L.key.get r)).toList).any (· != i)

/-- Write a whole record in its place. -/
def Dev.wrxPut (d : Dev) (i : Nat) (r : LRec) : LRes × Dev :=
  let d := d.unwatch (d.lrec i)
  let sup := (L.kind.get r = 0x43 || L.kind.get r = 0x44) && L.valid.get r = 1 && L.ext.get r = 0
  let w := if sup then d.watchAs i 0 (L.watched.put r 0) true else (r, d)
  let r := w.1
  let d := w.2.setRec i r
  let d := { d with ld := { d.ld with pinCopy := d.ld.pinCopy.del i } }
  let d := if L.valid.get r = 1 then d.copyPin i else d
  ({ status := 0, idx := i, r := r, ext := if L.pair.get r = 1 then d.lrec (i + 1) else 0 }, d)

/-- A record as WRX stores it: the reserved bits are zero (R237), the verdict too, and in an extension only the flags of R238 are
the Ranxel's. -/
def wrxForm (w : LRec) : LRec :=
  let z := BF.put ⟨168, 3⟩ w 0
  if L.ext.get w = 1 then L.pair.put (L.pin.put (L.idle.put z 0) 0) 0 else L.verdict.put (BF.put ⟨184, 8⟩ z 0) 0

/-- WRX (R240): the record must be of the bucket and held nowhere else. -/
def Dev.wrx (d : Dev) (i : Nat) (w : LRec) : LRes × Dev :=
  let r := wrxForm w
  let b := candidates (L.kind.get r) (L.key.get r)
  let whole := L.valid.get r = 1 && L.ext.get r = 0
  if whole && ((i / 4 != b.1 && i / 4 != b.2) || d.heldElsewhere i r b) then d.applyBad i
  else d.wrxPut i (if whole then touched r (stampOf d.now) true else r)

/-- Insert a record at its place and apply the function (R235, R239). -/
def Dev.insertAt (d : Dev) (fn a i : Nat) : LRes × Dev :=
  let r := newRec a (stampOf d.now)
  let d := d.setRec i r
  let d := if LA.pair a then d.setRec (i + 1) (newExt (LA.kind a)) else d
  let d := if LA.pin a then d.copyPin i else d
  d.applyFn fn a i 1

/-- The operation that made the moves it waited for leaves the list of displacements. -/
def Dev.dropKick (d : Dev) (who : LodeBy) : Dev :=
  { d with ld := { d.ld with kicks := d.ld.kicks.filter (fun k => k.who != who) } }

/-- An insert that needs displacement (R236): none while its moves are still to be made. Where they are made and its place is taken
again, it has failed. -/
def Dev.kicked (d : Dev) (who : LodeBy) (a b1 b2 : Nat) : Option LRes × Dev :=
  match d.ld.kicks.find? (fun k => k.who == who) with
  | some _ => (some { status := 2 }, d.dropKick who)
  | none =>
    match d.kickPath b1 b2 (LA.pair a) with
    | some m => (none, { d with ld := { d.ld with kicks := d.ld.kicks ++ [{ who := who, moves := m }] } })
    | none => (some { status := 2 }, d)

/-- An answer given at a quadrant, counted there. -/
def lodeAns (q : Nat) (x : LRes × Dev) : Option LRes × Dev := (some x.1, x.2.countOp q x.1)

/-- An operation meets an uncorrectable word in a record: in its own 64 bytes, or in the extension that it returns (R262). -/
def Dev.meetsBad (d : Dev) (i : Nat) (ext : Bool) (bad : Option Nat) : Bool :=
  bad == some i || (ext && L.pair.get (d.lrec i) == 1 && bad == some (i + 1))

/-- An operation that names its record by index (R241). -/
def Dev.lodeByIdx (d : Dev) (fn a q i : Nat) (win : LRec) (ext : Bool) (bad : Option Nat) : Option LRes × Dev :=
  let r := d.lrec i
  if d.meetsBad i ext bad && fn ≠ 10 then lodeAns q ({ status := 3, idx := i }, d.scrapWay (bad.getD i))
  else if fn = 9 then lodeAns q ({ status := 0, idx := i, r := r, ext := if L.pair.get r = 1 then d.lrec (i + 1) else 0 }, d)
  else if fn = 10 then lodeAns q (d.wrx i win)
  else if L.valid.get r = 0 then lodeAns q ({ status := 1, idx := i, r := r }, d)
  else if L.ext.get r = 1 || L.kind.get r ≠ LA.kind a then lodeAns q (d.applyBad i)
  else lodeAns q (d.applyFn fn a i 0)

/-- An insertion that finds no free way waits for its moves, or fails (R236). -/
def Dev.lodeKicked (d : Dev) (who : LodeBy) (a q b1 b2 : Nat) : Option LRes × Dev :=
  match (d.kicked who a b1 b2).1 with
  | some x => lodeAns q (x, (d.kicked who a b1 b2).2)
  | none => (none, (d.kicked who a b1 b2).2)

/-- An operation whose key no record holds (R239, R240, R244). -/
def Dev.lodeMiss (d : Dev) (who : LodeBy) (fn a q b1 b2 : Nat) (two : Bool) : Option LRes × Dev :=
  if two then (some { status := 5 }, d)
  else if !(LA.ins a || fn == 1) then lodeAns q ({ status := 1 }, d)
  else
    match (if LA.pair a then d.placePair b1 b2 else d.placeSingle b1 b2) with
    | some i => lodeAns q ((d.dropKick who).insertAt fn a i)
    | none => d.lodeKicked who a q b1 b2

/-- An operation that names its record by key. -/
def Dev.lodeByKey (d : Dev) (who : LodeBy) (fn a q b1 b2 : Nat) (ext : Bool) (bad : Option Nat) : Option LRes × Dev :=
  let two := d.quadFenced (quadOf b2)
  match (d.findIn b1 (LA.kind a) (LA.key a)).or (if two then none else d.findIn b2 (LA.kind a) (LA.key a)) with
  | some i =>
    if d.meetsBad i ext bad then lodeAns q ({ status := 3, idx := i }, (d.dropKick who).scrapWay (bad.getD i))
    else lodeAns q ((d.dropKick who).applyFn fn a i 0)
  | none =>
    if bad.any (fun i => i / 4 == b1 || (!two && i / 4 == b2)) then
      lodeAns q ({ status := 3, idx := bad.getD 0 }, (d.dropKick who).scrapWay (bad.getD 0))
    else d.lodeMiss who fn a q b1 b2 two

/-- The displacement path of an operation: a recheck has failed (R236), or moves are still to be made. -/
def Dev.kickFailed (d : Dev) (who : LodeBy) : Bool := d.ld.kicks.any (fun k => k.who == who && k.failed)
def Dev.kickWaits (d : Dev) (who : LodeBy) : Bool := d.ld.kicks.any (fun k => k.who == who && !k.moves.isEmpty)

/-- A corrected word in a bucket that an operation reads is written back and counted (R262); what is left is an uncorrectable one. -/
def Dev.meetsWord (d : Dev) (b1 b2 : Nat) : Option (Nat × Bool) → Option Nat × Dev
  | none => (none, d)
  | some (i, false) => (some i, d)
  | some (i, true) => (none, if i / 4 = b1 || (i / 4 = b2 && !d.quadFenced (quadOf b2)) then d.lodeCorrected (i / 4) else d)

/-- One Lode operation in the serial order (R239 to R245, R248, R262). `bad` is a record with a word in error that the
operation meets; `win` is the record WRX writes; `ext` asks for the extension. No answer yet (none) while a displacement path runs. -/
def Dev.lodeOp (d : Dev) (who : LodeBy) (fn : Nat) (args : List Byte) (win : LRec) (sw ext : Bool) (bad : Option (Nat × Bool)) :
    Option LRes × Dev :=
  let a := leNat args
  let b := bucketsOf a
  let q := quadOf b.1
  let i := if LA.idx a then LA.index a else 0
  if !d.on R.LD_CFG F.LD_CFG_en then (some { status := 5, idx := i }, d)
  else if lodeBad fn a || (fn = 10 && !sw) then lodeAns q (d.applyBad i)
  else if d.quadFenced q then (some { status := 5, idx := i }, d)
  else if d.kickFailed who then lodeAns q ({ status := 2 }, d.dropKick who)
  else if d.kickWaits who then (none, d)
  else
    let m := d.meetsWord b.1 b.2 bad
    if LA.idx a then m.2.lodeByIdx fn a q i win ext m.1
    else m.2.lodeByKey who fn a q b.1 b.2 ext m.1

/-! ## Direct access (R247, R248) -/

/-- A byte of a record that a direct store may write. -/
def Dev.lodeWritable (d : Dev) (off : Nat) : Bool :=
  let r := d.lrec (off / 64)
  let o := off % 64
  if L.ext.get r = 1 && L.valid.get r = 1 then o < 20 || 22 ≤ o else 32 ≤ o

/-- A direct store: bytes it may not write are discarded and counted. -/
def Dev.lodeStore (d : Dev) (off : Nat) (bs : List Byte) : Dev :=
  let n := bs.length
  let ok := (List.range n).map (fun k => d.lodeWritable (off + k) && !d.quadFenced (quadOf (off / 256)))
  let d2 := (List.zip (List.range n) (List.zip bs ok)).foldl (fun d x => if x.2.2 then d.put (lodeAddr (off + x.1)) [x.2.1] else d) d
  if ok.all id then d2 else (d2.inc R.LD_STAT F.LD_STAT_hdr_wr).tally 0x0902 (quadOf (off / 256)) [off / 64]

end Sys2Proof.Machine
end

