-- ==== Sys2Proof/Machine/TimeOps.lean ====
section
/-!
DEFINITION. The timebase: qualification of its sources, its state machine, steps, steering and the UTC offset
(R56 to R67), as operations.
-/

namespace Sys2Proof.Machine

def Dev.modTb (d : Dev) (f : Timebase → Timebase) : Dev := { d with tb := f d.tb }

def Dev.tbSt (d : Dev) : Nat := d.rd R.TB_STAT F.TB_STAT_state
def Dev.tsrc (d : Dev) : Nat := d.rd R.TB_CTL F.TB_CTL_tsrc

/-- The selected time source is qualified; source 1 is 1PPS_IN with IRIG_IN (DEDUCED, log entry 40). -/
def Dev.srcQual (d : Dev) : Bool :=
  match d.tsrc with
  | 0 => d.on R.TB_STAT F.TB_STAT_ptp_qual
  | 1 => d.on R.TB_STAT F.TB_STAT_pps_qual && d.on R.TB_STAT F.TB_STAT_irig_qual
  | 2 => d.on R.TB_STAT F.TB_STAT_irig_qual
  | _ => false

/-- 1PPS_OUT is driven (R65, R426). -/
def Dev.ppsDriven (d : Dev) : Bool :=
  d.rget R.RL_FAULT == 0
    && d.on R.TB_CTL F.TB_CTL_pps_out_en && (d.tbSt == 2 || d.tbSt == 3 || d.on R.TB_CTL F.TB_CTL_pps_force)

/-- 1PPS_OUT takes a level. -/
def Dev.setPps (d : Dev) (h : Bool) : Dev :=
  if d.tb.ppsHigh = h then d
  else (d.modTb (fun t => { t with ppsHigh := h, ppsRise := if h then d.now else t.ppsRise })).out (.pin 2 h)

/-- An output no longer driven is held low. -/
def Dev.ppsHold (d : Dev) : Dev := if d.ppsDriven then d else d.setPps false

/-- The alarm of a timebase that is not LOCKED while a source is selected. -/
def Dev.timeAlarm (d : Dev) : Dev := d.alarm F.RL_ALARM_time (d.tbSt != 2 && d.tsrc != 3)

/-- The slew limit of a state in 2^-8 ppb; FREERUN and HOLDOVER state none. -/
def slewLimit (st : Nat) : Option Int := match st with | 1 => some 25600000 | 2 => some 2560000 | _ => none

def slewClamp (l : Option Int) (x : Int) : Int := match l with | none => x | some m => if x < -m then -m else if m < x then m else x

/-- The steering figure as a state takes it over (R61): within the limit of ACQUIRE or LOCKED, none in FREERUN, held in HOLDOVER. -/
def Dev.steerEnter (d : Dev) (s : Nat) : Dev :=
  let x := d.rd R.TB_FREQ F.TB_FREQ_steer
  d.wr R.TB_FREQ F.TB_FREQ_steer (if s = 0 then 0 else ofSigned 32 (slewClamp (slewLimit s) (toSigned 32 x)))

/-- Enter a timebase state (R62): a change writes a record and raises an event. -/
def Dev.tbGo (d : Dev) (s : Nat) : Dev :=
  let old := d.tbSt
  if old = s then d
  else
    let d := (d.wr R.TB_STAT F.TB_STAT_state s).steerEnter s
    let d := d.wrIf (s == 0 || s == 1) R.TB_STAT F.TB_STAT_hold_valid 0
    let d := d.modTb (fun t => { t with okCnt := 0, mayStep := true, holdAt := if s = 3 then d.now else t.holdAt })
    let oven := d.on R.TB_STAT F.TB_STAT_oven_ready
    let d := d.modTb (fun t => { t with leftAt := if old = 2 then some d.now else t.leftAt,
                                        holdFrom := if s = 2 && oven then some d.now else none })
    let d := (d.tally 0x0202 0 [s, old]).event 0x20 0 (s + old * 256)
    d.timeAlarm.ppsHold

/-- Minutes spent in HOLDOVER, as TB_STAT.hold_min shows them. -/
def Dev.holdMin (d : Dev) : Nat := if d.tbSt = 3 then ((d.now - d.tb.holdAt) / (60 * unitsPerSec)).min 2047 else 0

/-- Acquisition starts afresh (R62). -/
def Dev.acquire (d : Dev) : Dev := (d.tbGo 1).modTb (fun t => { t with okCnt := 0, mayStep := true })

/-- What a change of the selected source's qualification does (R62). -/
def Dev.qualEdge (was : Bool) (d : Dev) : Dev :=
  let now := d.srcQual
  if was = now then d
  else if now then (if d.tbSt = 0 || d.tbSt = 3 then d.tbGo 1 else d)
  else
    match d.tbSt with
    | 1 => if d.on R.TB_STAT F.TB_STAT_hold_valid then d.tbGo 3 else d.tbGo 0
    | 2 => d.tbGo 3
    | _ => d

/-- Set a qualification bit; a change is recorded with the bits as TB_STAT places them (R56, R60, log entry 41). -/
def Dev.setQual (d : Dev) (f : Fld) (q : Bool) : Dev :=
  let was := d.srcQual
  let bits (d : Dev) : Nat := (d.rget R.TB_STAT).toNat &&& 0x1003C0
  let old := bits d
  if d.on R.TB_STAT f = q then d
  else
    let d := d.wr R.TB_STAT f (b2n q)
    Dev.qualEdge was (d.tally 0x0201 0 [bits d, old])

/-! ## Frequency references (R56, R57) -/

def refQual (b : Nat) : Fld := if b = 0 then F.TB_STAT_refa_qual else F.TB_STAT_refb_qual

/-- The reference that fsrc prefers: 0 REFA, 1 REFB; the OCXO alone and the reserved code prefer none. -/
def Dev.prefRef (d : Dev) : Option Nat :=
  match d.rd R.TB_CTL F.TB_CTL_fsrc with
  | 1 => some 0
  | 2 => some 1
  | _ => none

/-- Choose the active source from the start: the preferred reference, the other one, or the OCXO. -/
def Dev.pickRef (d : Dev) : Dev :=
  let f := match d.prefRef with
    | none => 0
    | some b => if d.on R.TB_STAT (refQual b) then b + 1 else if d.on R.TB_STAT (refQual (1 - b)) then 2 - b else 0
  d.wr R.TB_STAT F.TB_STAT_fsel f

/-- A reference qualifies: it serves if the timebase has not yet left a failed source (DESIGN CHOICE, log entry 42). -/
def Dev.refGood (d : Dev) (b : Nat) : Dev :=
  let d := (d.setQual (refQual b) true).modTb (fun t => { t with refAt := t.refAt.set 0 b d.now })
  if d.tb.moved then d else d.pickRef

/-- A reference is disqualified: the active source moves without a step (R57). -/
def Dev.refBad (d : Dev) (b : Nat) : Dev :=
  let d := (d.setQual (refQual b) false).modTb (fun t => { t with refRun := t.refRun.set 0 b 0 })
  if d.rd R.TB_STAT F.TB_STAT_fsel = b + 1 then
    let o := 1 - b
    (d.wr R.TB_STAT F.TB_STAT_fsel (if d.on R.TB_STAT (refQual o) then o + 1 else 0)).modTb (fun t => { t with moved := true })
  else d

/-! ## Steering, measurements and steps (R61 to R63) -/

/-- The servo steers toward its source: the figure is open within the slew limit. -/
def Dev.steer (d : Dev) : Dev :=
  match slewLimit d.tbSt with
  | none => d
  | some m =>
    let (v, d) := d.fresh 32
    d.wr R.TB_FREQ F.TB_FREQ_steer (ofSigned 32 (slewClamp (some m) (toSigned 32 v)))

/-- A step of station time sets out for the timebase core (R63). -/
def Dev.askStep (d : Dev) (x : Int) : Dev := d.modTb (fun t => { t with steps := t.steps ++ [(d.now, x)] })

/-- One offset measurement in 2^-16 ns (R62, R63). -/
def Dev.measure (d : Dev) (off : Int) : Dev :=
  let a : Nat := off.natAbs
  match d.tbSt with
  | 1 =>
    if msU 1 < a && d.on R.TB_CTL F.TB_CTL_step_en && d.tb.mayStep then
      (d.modTb (fun t => { t with okCnt := 0, mayStep := false })).askStep (-off)
    else if a ≤ nsU (d.rd R.TB_CTL F.TB_CTL_lock_thr) then
      let n := d.tb.okCnt + 1
      let d := d.modTb (fun t => { t with okCnt := n })
      if d.rd R.TB_CTL F.TB_CTL_lock_cnt ≤ n then d.tbGo 2 else d.steer
    else (d.modTb (fun t => { t with okCnt := 0 })).steer
  | 2 => if usU 1 < a then d.tbGo 1 else d.steer
  | _ => d

/-- A write of TB_STEP (R63). -/
def Dev.tbStepWrite (d : Dev) (v : Word64) : Dev :=
  if d.tbSt ≠ 1 || !d.on R.TB_CTL F.TB_CTL_step_en then d.wr R.TB_STAT F.TB_STAT_step_ref 1
  else if v = 0 then d
  else d.askStep v.toInt

/-- A write of TB_FREQ (R61): only under the PTP servo. -/
def Dev.tbFreqWrite (d : Dev) (v : Nat) : Dev :=
  if d.tsrc ≠ 0 then d else d.wr R.TB_FREQ F.TB_FREQ_steer (ofSigned 32 (slewClamp (slewLimit d.tbSt) (toSigned 32 v)))

/-- A write of TB_CTL (R62, R57): `v` as it takes effect. -/
def Dev.tbCtlWrite (d : Dev) (v : Word64) : Dev :=
  let old := d.rget R.TB_CTL
  let d := d.rset R.TB_CTL v
  let d := if F.TB_CTL_fsrc.get old = F.TB_CTL_fsrc.get v then d
    else (d.modTb (fun t => { t with moved := false })).pickRef
  let d := if F.TB_CTL_tsrc.get old = F.TB_CTL_tsrc.get v then d
    else if F.TB_CTL_tsrc.get v = 3 then d.tbGo 0 else d.acquire
  let d := if F.TB_CTL_ref_out_en.get old = F.TB_CTL_ref_out_en.get v || d.rget R.RL_FAULT != 0 then d
    else d.out (.pin 3 (F.TB_CTL_ref_out_en.get v == 1))
  d.timeAlarm.ppsHold

/-! ## UTC (R66, R67) -/

/-- tick_exp in force (R70): a write of TB_TICK takes effect at the second boundary after it. -/
def Dev.tickExp (d : Dev) : Nat :=
  match d.tb.tickSet with
  | some t => if secOf t < secOf d.now then d.rd R.TB_TICK F.TB_TICK_tick_exp else d.tb.tick
  | none => d.tb.tick

/-- The second of TAI modulo 2^32, as leap_tai holds it. -/
def Dev.taiLow (d : Dev) : Nat := secOf d.now % 2 ^ 32

/-- The UTC offset in force. -/
def Dev.utcOff (d : Dev) : Int := toSigned 16 (d.rd R.TB_UTC F.TB_UTC_utc_offset)

/-- The offset that was in force at a station time of the last second (R227). -/
def Dev.utcOffAt (d : Dev) (t : Nat) : Int :=
  match (d.tb.offs.filter (fun e => t < e.1)).getLast? with
  | some e => e.2
  | none => d.utcOff

/-- The offset in force goes out of force at station time `t`. -/
def Dev.offEnds (d : Dev) (t : Nat) : Dev :=
  d.modTb (fun x => { x with offs := (t, d.utcOff) :: x.offs.filter (fun e => t < e.1 + unitsPerSec) })

/-- Set the offset and the pending leap as from station time `t`; a change is recorded, raised as an event and kept in KA. -/
def Dev.setUtcAt (d : Dev) (t : Nat) (v : Word64) : Dev :=
  let old := d.rget R.TB_UTC
  if old = v then d
  else
    let low (w : Word64) : Nat := F.TB_UTC_utc_offset.get w + F.TB_UTC_leap.get w * 65536
    let d := if F.TB_UTC_utc_offset.get v = F.TB_UTC_utc_offset.get old then d else d.offEnds t
    let d := { d.rset R.TB_UTC v with bg := { d.bg with kaUtc := v } }
    (d.tally 0x0204 0 [low v, low old]).event 0x21 0 (low v)

def Dev.setUtc (d : Dev) (v : Word64) : Dev := d.setUtcAt d.now v

/-- A write of TB_UTC: refused for a pending leap that is not in the future. -/
def Dev.tbUtcWrite (d : Dev) (v : Word64) : Dev :=
  if F.TB_UTC_leap.get v ≠ 0 && F.TB_UTC_leap_tai.get v ≤ d.taiLow then d else d.setUtc v

def utcWord (off leap tai : Nat) : Word64 := BitVec.ofNat 64 (tai % 2 ^ 32 * 2 ^ 32 + leap % 4 * 65536 + off % 65536)

/-! ## IRIG time (R59) -/

/-- The year of a day counted from 1970-01-01. -/
def yearOf (days : Nat) : Nat :=
  let z := days + 719468
  let doe := z % 146097
  let yoe := (doe - doe / 1460 + doe / 36524 - doe / 146096) / 365
  let doy := doe - (365 * yoe + yoe / 4 - yoe / 100)
  yoe + z / 146097 * 400 + (if 306 ≤ doy then 1 else 0)

/-- Days from 1970-01-01 to the first day of a year. -/
def daysTo (y : Nat) : Nat := (y - 1) * 365 + (y - 1) / 4 - (y - 1) / 100 + (y - 1) / 400 - 719162

/-- The UTC second of an IRIG frame from its second of the year: the year comes from KA's calendar where the code carries none, and
the century of the two digits it carries too (DEDUCED, log entry 169). -/
def Dev.irigUtc (d : Dev) (year : Option Nat) (soy : Nat) : Nat :=
  let ka := yearOf ((d.bg.calSec - d.utcOff).toNat / 86400)
  let y := match year with | some n => ka / 100 * 100 + n | none => ka
  daysTo y * 86400 + soy

/-- Station time at which a J3 input is stamped, less the cable delay (R58). -/
def Dev.pinStamp (d : Dev) : Int := (quarter d.now : Nat) - (d.rd R.TB_PPS F.TB_PPS_pps_in_dly * 16384 : Nat)

def secU (n : Int) : Int := n * 65536000000000

/-- The slave port leaves UP, the parent changes or its messages stop (R60). -/
def Dev.ptpDrop (d : Dev) : Dev := (d.modTb (fun t => { t with ptpRun := 0 })).setQual F.TB_STAT_ptp_qual false

/-- A port leaves UP: the servo's parent is lost if the port is the slave port. -/
def Dev.ptpPortLeft (d : Dev) (p : Nat) : Dev := if d.pt.parent = some p then d.ptpDrop else d

end Sys2Proof.Machine
end

