-- ==== Sys2Proof/Machine/PortOps.lean ====
section
/-!
DEFINITION. Link state, what a link-down event does in Crosscut, and the device fault (R48, R49, R316, R317, R426).
-/

namespace Sys2Proof.Machine

def Dev.portSt (d : Dev) (p : Nat) : Nat := d.rd (R.PT_PSTAT p) F.PT_PSTAT_state

/-- Nothing is in transmission and nothing is cut. -/
def Port.idle (x : Port) : Port :=
  { x with sending := none, frag := none, edited := false, resumed := false, part := (0, 0), cut := (0, 0), tx := [], txCut := [] }

/-- The frame in transmission and a cut frame of a port end; each is counted in a field of the port. -/
def Dev.endSending (d : Dev) (p : Nat) (f : Fld) : Dev :=
  let x := d.port p
  let d := d.modPort p Port.idle
  let gone := x.sending.toList ++ x.frag.toList
  (d.descEnds (gone.map (·.1))).inc (R.XC_PCNT p) f gone.length

/-- The port enters hstate 1: every frame of its queues is freed and counted (R316, R317). -/
def Dev.toDiscard (d : Dev) (p : Nat) (f : Fld) : Dev :=
  ((d.endSending p f).freePort p (R.XC_PCNT p) f).wr (R.XC_PORT p) F.XC_PORT_hstate 1

/-- A frame in transmission goes back to the head of its queue, to be sent again from its first byte (R317). -/
def Dev.requeue (d : Dev) (p : Nat) : Dev :=
  let x := d.port p
  let d := d.modPort p Port.idle
  let d := (x.frag.toList ++ x.sending.toList).foldl (fun d e =>
    d.setPq (p * 8 + e.2) ({ e.1 with check := true, again := true } :: d.pqQ (p * 8 + e.2))) d
  d.syncQueued p

/-- A link-down event (R49): a Tally record, a Cage event, and the port's ld_mode in Crosscut (R316, R317). -/
def Dev.linkDown (d : Dev) (p : Nat) : Dev :=
  let was := d.portSt p
  let d := ((d.tally 0x0101 p [was]).event 0x10 p was).stat p 10
  if d.hstate p ≠ 0 then d
  else if d.rd (R.PT_PCFG p) F.PT_PCFG_ld_mode = 1 then
    let d := (d.requeue p).wr (R.XC_PORT p) F.XC_PORT_hstate 2
    { d with xc := { d.xc with holdEnd := d.xc.holdEnd.put p (d.now + msU (d.rd (R.XC_PORT p) F.XC_PORT_hold_ms)) } }
  else d.toDiscard p F.XC_PCNT_link_drop

/-- A multi-lane port must measure its skew again (R38). -/
def Dev.dropCal (d : Dev) (p : Nat) : Dev := d.wr (R.PT_PSTAT p) F.PT_PSTAT_ts_cal_valid 0

def Dev.setPortSt (d : Dev) (p s : Nat) : Dev := d.wr (R.PT_PSTAT p) F.PT_PSTAT_state s

/-- Move a port to DISABLED or ACQUIRE; a move from UP or DEBOUNCE is a link-down event (R49). -/
def Dev.portLeave (d : Dev) (p s : Nat) : Dev :=
  let was := d.portSt p
  let d := if was = 2 || was = 4 then d.linkDown p else d
  ((d.setPortSt p s).dropCal p).ptpPortLeft p

/-- The port returns from a Hold: every frame queued before this instant has its residence checked at the head (R317). -/
def Dev.holdReturn (d : Dev) (p : Nat) : Dev :=
  let d := (List.range 8).foldl (fun d q => d.setPq (p * 8 + q) ((d.pqQ (p * 8 + q)).map (fun x => { x with check := true }))) d
  d.wr (R.XC_PORT p) F.XC_PORT_hstate 0

/-- A port enters UP from ACQUIRE or FAULT (R49, R38, R316, R317). -/
def Dev.portUp (d : Dev) (p : Nat) : Dev :=
  let d := ((d.setPortSt p 2).modPort p (fun x => { x with linkUps := x.linkUps + 1 })).event 0x11 p 0
  let d := if d.portLanes p = 1 then d.wr (R.PT_PSTAT p) F.PT_PSTAT_ts_cal_valid 1 else d
  match d.hstate p with
  | 0 => d
  | 1 => d.wr (R.XC_PORT p) F.XC_PORT_hstate 0
  | _ =>
    if d.now < d.xc.holdEnd.get 0 p then d.holdReturn p
    else (d.toDiscard p F.XC_PCNT_hold_drop).wr (R.XC_PORT p) F.XC_PORT_hstate 0

/-- Pins of J1 to J3 as the model numbers them. -/
def pinFaultN : Nat := 0
def pinAlarmN : Nat := 1
def pinPps : Nat := 2
def pinRefOut : Nat := 3

/-- A device fault (R426). -/
def Dev.deviceFault (d : Dev) (f : Fld) : Dev :=
  let d := (d.wr R.RL_FAULT f 1).out (.pin pinFaultN false)
  let d := d.tally 0x0F04 0 [(d.rget R.RL_FAULT).toNat]
  let d := (List.range 32).foldl (fun d p => if d.portSt p = 0 then d else d.portLeave p 0) d
  let d := d.ppsHold.out (.pin pinRefOut false)
  let d := { d with devState := 4 }
  d.event 0x41 0 (d.rget R.RL_FAULT).toNat

end Sys2Proof.Machine
end

