-- ==== Sys2Proof/Machine/SmOps.lean ====
section
/-!
DEFINITION. Seam: accesses by agent, poison, device marking, sparing (R382 to R403), as operations.
-/

namespace Sys2Proof.Machine

/-- The physical channel behind a logical channel (R382). -/
def Dev.smPhys (d : Dev) (log : Nat) : Nat := bitsOf (d.rget R.SM_CHMAP).toNat (3 * log) 3

def Dev.setPhys (d : Dev) (log ph : Nat) : Dev :=
  let d := { d with bg := { d.bg with ledgerDue := true } }
  d.rset R.SM_CHMAP (BitVec.ofNat 64 ((d.rget R.SM_CHMAP).toNat - d.smPhys log * 2 ^ (3 * log) + ph * 2 ^ (3 * log)))

def Dev.smState (d : Dev) (ph : Nat) : Nat := d.rd (R.SM_CHSTAT ph) F.SM_CHSTAT_state

/-- The logical channel of a Seam address (R383). -/
def smChan (a : Nat) : Nat := a / 256 % 4
/-- Its channel address. -/
def smLocal (a : Nat) : Nat := a / 1024 * 256 + a % 256

/-- Burst numbers that an access touches. -/
def burstsOf (a n : Nat) : List Nat := if n = 0 then [] else (List.range ((a + n - 1) / 64 - a / 64 + 1)).map (· + a / 64)

def Dev.burstBad (d : Dev) (b : Nat) : Bool := (d.sm.allBad.get false (b / 4 % 4)) != (d.sm.odd.get false b)

def Dev.setBurstBad (d : Dev) (b : Nat) (bad : Bool) : Dev :=
  { d with sm := { d.sm with odd := d.sm.odd.set false b (bad != d.sm.allBad.get false (b / 4 % 4)) } }

/-- Every burst of a logical channel reads as poison until it is written (R392). -/
def Dev.poisonChannel (d : Dev) (log : Nat) : Dev :=
  { d with sm := { d.sm with allBad := d.sm.allBad.set false log true, odd := d.sm.odd.filter (fun e => e.1 / 4 % 4 != log) } }

/-- The module is in Lull (R401). -/
def Dev.lull (d : Dev) : Bool := d.rd R.PW_LSTAT F.PW_LSTAT_mode == 2

/-- Requests complete with fence status while Seam is not enabled, in Lull, or when no ACTIVE channel stands behind
the address (R401, R55). -/
def Dev.smFenced (d : Dev) (a n : Nat) : Bool :=
  !d.on R.SM_CFG F.SM_CFG_en || d.lull || 2 ^ 37 < a + n
    || (burstsOf a n).any (fun b => d.smState (d.smPhys (b / 4 % 4)) != 2)

/-- The result of a Seam read (R55, R389). -/
inductive SmRes
  | fence
  | poison
  | ok (bs : List Byte)

/-- The bursts of an access join the requests of its agent (R394). -/
def Dev.smAsk (d : Dev) (agent a n : Nat) : Dev :=
  let rs := (burstsOf a n).map (fun b => ({ agent := agent, chan := b / 4 % 4, burst := b } : SmReq))
  { d with sm := { d.sm with reqs := d.sm.reqs ++ rs } }

/-- A read by an agent of R393. -/
def Dev.smRead (d : Dev) (agent a n : Nat) : SmRes × Dev :=
  if d.smFenced a n then (.fence, d)
  else
    let d := d.smAsk agent a n
    if (burstsOf a n).any d.burstBad then (.poison, d) else (.ok (d.bytes (seamAddr a) n), d)

/-- A write by an agent: a whole burst clears its poison, a part leaves it (R390). False: fence status. -/
def Dev.smWrite (d : Dev) (agent a : Nat) (bs : List Byte) : Bool × Dev :=
  let n := bs.length
  if d.smFenced a n then (false, d)
  else
    let d := (d.smAsk agent a n).put (seamAddr a) bs
    (true, (burstsOf a n).foldl (fun d b => if a ≤ b * 64 && b * 64 + 64 ≤ a + n then d.setBurstBad b false else d) d)

/-- The spare is free: some channel is in SPARE, and it is not fenced. -/
def Dev.smSpare (d : Dev) : Option Nat :=
  (List.range 5).find? (fun c => d.smState c == 3 && !bitAt (d.rd R.RL_FENCE F.RL_FENCE_seam_ch) c)

/-- A takeover is counted in its field of RL_CNT. -/
def Dev.tkCount (d : Dev) (f : Fld) : Dev :=
  let d := d.inc R.RL_CNT f
  { d with rl := { d.rl with takeovers := d.rl.takeovers + 1 } }

/-- The relief controller is at work on a takeover (R418). -/
def Dev.tkBusy (d : Dev) : Bool := d.on R.RL_TKSTAT F.RL_TKSTAT_busy

/-- It is past FENCE: a further takeover joins the queue (R419, R420). -/
def Dev.tkHeld (d : Dev) : Bool := d.tkBusy && d.rd R.RL_TKSTAT F.RL_TKSTAT_step != 1

/-- RL_TKSTAT shows a takeover that begins or has moved on. -/
def Dev.tkShow (d : Dev) (kind unit cause step : Nat) : Dev :=
  let d := (d.wr R.RL_TKSTAT F.RL_TKSTAT_kind kind).wr R.RL_TKSTAT F.RL_TKSTAT_unit unit
  ((d.wr R.RL_TKSTAT F.RL_TKSTAT_cause cause).wr R.RL_TKSTAT F.RL_TKSTAT_step step).wr R.RL_TKSTAT F.RL_TKSTAT_busy 1

/-- A Seam copy starts: the controller enters COPY (R391, R415, R419). Sparing of `r.unit`; cause 6 follows a mark. -/
def Dev.copyStart (d : Dev) (r : TkReq) : Option Dev :=
  match (List.range 4).find? (fun l => d.smPhys l == r.unit), d.smSpare with
  | some l, some sp =>
    let d := (d.tkShow 2 r.unit r.cause 5).wr R.RL_TKSTAT F.RL_TKSTAT_relief sp
    let d := ({ d with rl := { d.rl with cur := some r, since := d.now } }).event 0x42 (512 + r.unit) 0
    let d := d.tally 0x0F05 (512 + r.unit)
    some { d with sm := { d.sm with sparing := some (l, sp, r.cause != 6) } }
  | _, _ => none

/-- A fenced plane is reclaimed at once (R311, R414): its map goes to the other plane. -/
def Dev.planeRelief (d : Dev) (pl : Nat) : Dev :=
  let d := { d with rl := { d.rl with plWas := match d.rl.plWas with | none => some (d.rget R.XC_PLMAP) | some w => some w } }
  let d := (d.planeReclaim pl).tkCount F.RL_CNT_plane
  d.event 0x42 (256 + pl) 1

/-- A fenced gallery's reclaim begins (R407, R419). -/
def Dev.galReclaimStart (d : Dev) (r : TkReq) : Dev :=
  let d := (d.tkShow 0 r.unit r.cause 2).wr R.RL_TKSTAT F.RL_TKSTAT_relief 0
  { d with rl := { d.rl with cur := some r, reclaimed := 0 } }

/-- Begin one waiting takeover; none: it is over already, or it cannot start. -/
def Dev.tkBegin (d : Dev) (r : TkReq) : Bool × Dev :=
  match r.kind with
  | 0 => (true, d.galReclaimStart r)
  | 1 => (false, if d.on R.RL_CTL F.RL_CTL_auto_pl then d.planeRelief r.unit else d)
  | _ => match d.copyStart r with
    | some d => (true, d)
    | none => (false, d.wr R.SM_SPARE F.SM_SPARE_busy 0)

/-- The controller takes the next takeover of its queue; the Overman refills the queue from what it holds (R420). -/
def Dev.tkNext (d : Dev) : Nat → Dev
  | 0 => d
  | n + 1 =>
    match d.rl.queue ++ d.rl.beyond with
    | [] => d
    | r :: rest =>
      let d := { d with rl := { d.rl with queue := rest.take 8, beyond := rest.drop 8 } }
      match d.tkBegin r with
      | (true, d) => d
      | (false, d) => d.tkNext n

/-- A gallery or plane that waits for its fence holds the controller in FENCE; with none it is IDLE (R418, R419). -/
def Dev.tkFence (d : Dev) : Dev :=
  if d.tkHeld then d
  else
    match d.rl.detected.find? (fun r => decide (r.kind ≤ 1)) with
    | some r => d.tkShow r.kind r.unit r.cause 1
    | none => (d.wr R.RL_TKSTAT F.RL_TKSTAT_busy 0).wr R.RL_TKSTAT F.RL_TKSTAT_step 0

/-- The controller returns to IDLE and serves its queue. -/
def Dev.tkIdle (d : Dev) : Dev :=
  let d := (d.wr R.RL_TKSTAT F.RL_TKSTAT_busy 0).wr R.RL_TKSTAT F.RL_TKSTAT_step 0
  (({ d with rl := { d.rl with cur := none } }).tkNext (d.rl.queue.length + d.rl.beyond.length)).tkFence

/-- A takeover whose unit is fenced starts, or joins the queue of 8 (R420). -/
def Dev.tkJoin (d : Dev) (r : TkReq) : Dev :=
  if d.tkHeld then
    if d.rl.queue.length < 8 then { d with rl := { d.rl with queue := d.rl.queue ++ [r] } }
    else { d with rl := { d.rl with beyond := d.rl.beyond ++ [r] } }
  else (d.tkBegin r).2

/-- Start sparing of a physical channel (R391, R415). `cmd` tells a commanded sparing from one after a mark. -/
def Dev.spareStart (d : Dev) (src : Nat) (cmd : Bool) : Dev :=
  let d := d.wr R.SM_SPARE F.SM_SPARE_src src
  let d := (d.wr R.SM_SPARE F.SM_SPARE_busy 1).wr R.SM_SPARE F.SM_SPARE_done 0
  d.tkJoin { kind := 2, unit := src, cause := if cmd then 0 else 6 }

/-- A start of SM_SPARE: refused while busy, without a spare, or for a source that is not ACTIVE. -/
def Dev.spareRequest (d : Dev) (src : Nat) : Dev :=
  let d := d.wr R.SM_SPARE F.SM_SPARE_src src
  if d.on R.SM_SPARE F.SM_SPARE_busy || d.smSpare.isNone || 3 < src || d.smState src ≠ 2 then d.wr R.SM_SPARE F.SM_SPARE_err 1
  else d.spareStart src true

/-- A device is marked already. -/
def Dev.devMarked (d : Dev) (ph dev : Nat) : Bool := d.sm.marks.contains (ph * 18 + dev)

/-- A device is marked (R389): sparing starts if the spare is free, else ALARM_N is raised. -/
def Dev.markDevice (d : Dev) (ph dev : Nat) : Dev :=
  let d : Dev := { d with sm := { d.sm with marks := (ph * 18 + dev) :: d.sm.marks } }
  let d := (d.wr (R.SM_CHSTAT ph) F.SM_CHSTAT_dev_mark dev).wr (R.SM_CHSTAT ph) F.SM_CHSTAT_marked 1
  let d := d.tally 0x0F02 ph [dev]
  if d.smSpare.isSome && !d.on R.SM_SPARE F.SM_SPARE_busy && d.smState ph == 2 && ph < 4 then d.spareStart ph false
  else d.alarm F.RL_ALARM_seam_marked true

/-- A corrected burst of a device (R389): the maintenance agent writes it back, and a device whose distinct bursts within 24 h reach
dev_thr is marked. -/
def Dev.smCorrected (d : Dev) (ph dev burst : Nat) : Dev :=
  let d := (d.inc (R.SM_CHSTAT ph) F.SM_CHSTAT_corr).smAsk 7 (burst * 64) 64
  let k := ph * 18 + dev
  let l := (burst, d.now) :: (d.sm.corrs.get [] k).filter (fun e => e.1 != burst && d.now < e.2 + 86400 * unitsPerSec)
  let d := { d with sm := { d.sm with corrs := d.sm.corrs.set [] k l } }
  if (d.rd R.SM_CFG F.SM_CFG_dev_thr).max 1 ≤ l.length && !d.devMarked ph dev then d.markDevice ph dev else d

/-- An uncorrectable burst of a device (R389): it reads as poison. -/
def Dev.smLost (d : Dev) (ph dev burst : Nat) : Dev :=
  let d := (d.inc (R.SM_CHSTAT ph) F.SM_CHSTAT_uncorr).tally 0x0F01 ph [dev]
  let d := d.setBurstBad burst true
  if d.devMarked ph dev then d else d.markDevice ph dev

/-- The islands of an agent's members (R393, R51): Overman, galleries, host interface, column 10, Lode, Draught and the galleries that
trace, the bulk users, and the arbiter, which maintains. -/
def agentIsles : Nat → List Nat
  | 0 => [86, 87]
  | 1 => List.range 26
  | 2 => [84, 85]
  | 3 => [72]
  | 4 => [74, 75, 76, 77]
  | 5 => 44 :: List.range 26
  | 6 => [43, 86, 87] ++ List.range 26
  | _ => [83]

/-- An agent is masked on a channel (R397): its members are fenced or off, the channel's neighbour queue is full, or mask is 1. -/
def Dev.smMasked (d : Dev) (agent chan : Nat) : Bool :=
  d.on (R.SM_AGCFG agent) F.SM_AGCFG_mask || d.sm.nqFull.get false chan || d.lull || !(agentIsles agent).any d.islandUp

def Dev.setNq (d : Dev) (chan : Nat) (l : List (Nat × Nat)) : Dev :=
  { d with sm := { d.sm with nq := d.sm.nq.set [] chan l
                             nqFull := if l.length ≤ 32 then d.sm.nqFull.set false chan false else d.sm.nqFull } }

/-- Enqueue a neighbour refresh; a queue that fills masks the channel (R387). -/
def Dev.askNeighbour (d : Dev) (chan bank row : Nat) : Dev :=
  let l := d.sm.nq.get [] chan
  if 64 ≤ l.length then d
  else
    let d := d.setNq chan (l ++ [(bank, row)])
    if l.length + 1 = 64 then
      ({ d with sm := { d.sm with nqFull := d.sm.nqFull.set false chan true } }).inc R.SM_RDSTAT F.SM_RDSTAT_nr_full
    else d

/-- The entry of the lowest count (R388). -/
def lowest : List (Nat × Nat) → Nat × Nat
  | [] => (0, 0)
  | [e] => e
  | e :: r => let m := lowest r; if e.2 ≤ m.2 then e else m

/-- An activate from the host window is counted exactly (R388). -/
def Dev.hostActivate (d : Dev) (chan bank row : Nat) : Dev :=
  let k := chan * 16 + bank
  let l := d.sm.acts.get [] k
  let thr := (d.rd R.SM_RDCFG F.SM_RDCFG_act_thr).max 1
  let (l, n) := match l.find? (fun e => e.1 == row) with
    | some e => (l.map (fun (x : Nat × Nat) => if x.1 = row then (row, e.2 + 1) else x), e.2 + 1)
    | none =>
      if l.length < 32 then (l ++ [(row, 1)], 1)
      else let m := lowest l; ((l.erase m) ++ [(row, m.2 + 1)], m.2 + 1)
  let put (l : List (Nat × Nat)) (d : Dev) : Dev := { d with sm := { d.sm with acts := d.sm.acts.set [] k l } }
  if thr ≤ n then
    ((put (l.map (fun (x : Nat × Nat) => if x.1 = row then (row, 0) else x)) d).inc R.SM_RDSTAT F.SM_RDSTAT_act_trig).askNeighbour chan bank row
  else put l d

/-- A burst opens its row (R387, R388). The draw of an internal agent is a free value. -/
def Dev.activate (d : Dev) (agent burst : Nat) : Dev :=
  let chan := burst / 4 % 4
  let br := Config.bankRow (smLocal (burst * 64)) % 2 ^ 22
  let bank := br / 2 ^ 18
  let row := br % 2 ^ 18
  let k := chan * 16 + bank
  if d.sm.opened.get none k = some row then d
  else
    let d := { d with sm := { d.sm with opened := d.sm.opened.set none k (some row) } }
    if agent = 2 then d.hostActivate chan bank row
    else
      let e := (d.rd R.SM_CFG F.SM_CFG_pnr_exp).min 12
      let (x, d) := d.fresh e
      if x = 0 then d.askNeighbour chan bank row else d

/-- Cancel the waiting requests of an agent's party (R396, R406). -/
def Dev.smCancel (d : Dev) (agent : Nat) : Dev :=
  { d with sm := { d.sm with reqs := d.sm.reqs.map (fun r => if r.agent = agent then { r with stale := true } else r) } }

/-- A channel behind a logical place fails abruptly (R392, R403, R415). -/
def Dev.abruptFail (d : Dev) (ph : Nat) : Dev :=
  if d.smState ph ≠ 2 then d
  else
    let d := d.wr (R.SM_CHSTAT ph) F.SM_CHSTAT_state 4
    match (List.range 4).find? (fun l => d.smPhys l == ph) with
    | none => d
    | some l =>
      match d.smSpare with
      | some sp =>
        let d := d.wr (R.SM_CHSTAT sp) F.SM_CHSTAT_state 2
        let d := ((d.setPhys l sp).poisonChannel l).wr R.SM_SPARE F.SM_SPARE_busy 0
        let busy := d.sm.sparing.isSome
        let d := { d with sm := { d.sm with sparing := none } }
        let d := if busy then d.tkIdle.wr R.RL_FORCE F.RL_FORCE_busy 0 else d
        (d.tkCount F.RL_CNT_seam).alarm F.RL_ALARM_seam_spare true
      | none => (d.poisonChannel l).deviceFault F.RL_FAULT_seam

end Sys2Proof.Machine
end

