-- ==== Sys2Proof/Machine/ThrOps.lean ====
section
/-!
DEFINITION. Threads as operations: fetch, memory, faults, kills and resets, late errors, the issue of an instruction
(R149 to R168, R173 to R191, R196 to R198, R501, R505).
-/

namespace Sys2Proof.Machine

/-! ## Instruction memory and the status word -/

/-- Where word `w` of a core's instruction memory stands (R149, R510): one word per 16 bits. -/
def imemAddr (g c w : Nat) : Nat := 0x2040000 + g * 0x80000 + c * 0x8000 + 2 * (w % 2 ^ 14)
def Dev.imem (d : Dev) (k : Nat) (w : Nat) : BitVec 14 := BitVec.ofNat 14 (d.load (imemAddr (k / 64) (k / 8 % 8) w) 2)

/-- TSW (R174). -/
def Thread.tsw (t : Thread) : BitVec 4 := BitVec.ofNat 4 (b2n t.v * 8 + b2n t.c * 4 + b2n t.n * 2 + b2n t.z)
def Thread.setTsw (t : Thread) (x : BitVec 4) : Thread := { t with v := x[3], c := x[2], n := x[1], z := x[0] }

def Thread.reg (t : Thread) (r : Nat) : Word32 := t.g[r % 16]'(Nat.mod_lt _ (by decide))
def Thread.setReg (t : Thread) (r : Nat) (v : Word32) : Thread := { t with g := t.g.set! (r % 16) v }
/-- A register of a list waits for an event; 16 stands for TSW, whose results come with the cycles alone. -/
def Thread.scored (t : Thread) (rs : List Nat) : Bool := rs.any (fun r => r < 16 && bitAt t.score.toNat r)
def Thread.mark (t : Thread) (r : Nat) (b : Bool) : Thread := { t with score := BitVec.ofNat 16 (withBit t.score.toNat (r % 16) b) }

/-- The gallery cycle from which no register of a list waits for a result that comes with the cycles (R181). -/
def Thread.readyAt (t : Thread) (rs : List Nat) : Nat := (t.busy.filter (fun e => rs.contains e.1)).foldl (fun m e => m.max e.2) 0

/-- The gallery cycle counter moves on by a number of cycles that the model leaves free (log entry 31). -/
def Dev.cycles (d : Dev) (g : Nat) : Dev :=
  let (x, d) := d.fresh 32
  d.modGal g (fun y => { y with cycle := y.cycle + x + 1 })

/-! ## The end of a thread's node, faults, kills and resets -/

/-- The thread's job ends as a void when its node has not ended (R140, R165). -/
def Dev.endNodeBad (d : Dev) (k : Nat) : Dev :=
  let t := d.thr k
  match t.node with
  | some r => if t.nodeLive then (d.setThr k { t with nodeLive := false }).threadNodeEnd k r false else d
  | none => d

/-- A thread stops: nothing it has not retired takes effect, and its epoch advances (R165, R168, R196). A release that has issued goes
on (R191). -/
def Dev.stopThread (d : Dev) (k : Nat) : Dev :=
  d.modThr k (fun t => { t with epoch := t.epoch + 1, ext := [], loads := [], wait := none, draining := 0, stepping := false })

/-- A fault stops a thread before the instruction at `pc` retires (R165, R166, R167). -/
def Dev.faultThread (d : Dev) (k code detail pc : Nat) : Dev :=
  let d := (d.galTrace k 8 pc).stopThread k
  let d := d.modThr k (fun t => { t with st := .fault })
  let d := d.pushFault k code detail pc
  let d := (d.withdraw k).endNodeBad k
  if code = 7 then d.inc (R.GL_CPSTAT (k / 64)) F.GL_CPSTAT_refused else d

/-- Fetch the word at a thread's pc. -/
def Dev.refetch (d : Dev) (k pc : Nat) : Dev :=
  d.modThr k (fun t => { t with pc := BitVec.ofNat 14 pc, fetched := d.imem k pc
                                fetchBad := d.wordBad (k / 64) (imemAddr (k / 64) (k / 8 % 8) pc) 2 })

/-- The supervisor starts at sup_entry while sup_run = 1 (R160). -/
def Dev.supStart (d : Dev) (k : Nat) : Dev :=
  let g := k / 64
  if isSup k && d.on (R.GL_CTL g) F.GL_CTL_sup_run && (d.thr k).st == .free && (d.galState g == 2 || d.galState g == 3) then
    (d.modThr k (fun t => { t with st := .ready })).refetch k (d.rd (R.GL_CCTL g 0) F.GL_CCTL_sup_entry)
  else d

/-- A reset waits while an operation in flight carries the epoch it would give the thread (R196). -/
def Dev.resetBlocked (d : Dev) (k : Nat) : Bool :=
  let t := d.thr k
  t.ops.any (fun o => !o.dead && o.epoch == (t.epoch.toNat + 1) % 256)

/-- What a thread reset clears (R168, R173, R212); the epoch has advanced. -/
def Dev.clearThread (d : Dev) (k : Nat) : Dev :=
  let d := ((d.withdraw k).endNodeBad k).tokReset k
  let t := d.thr k
  d.setThr k { st := .free, pc := t.pc, fetched := t.fetched, fetchBad := t.fetchBad, sb := t.sb, epoch := t.epoch, ops := t.ops
               ctlLive := t.ctlLive, lastOpen := t.lastOpen
               delayed := t.delayed.filter (fun x => match x.2 with | .agm _ => false | .ctl _ _ _ => true) }

/-- Thread reset (R168); one that must wait is remembered (R196). -/
def Dev.resetThread (d : Dev) (k : Nat) : Dev :=
  if d.resetBlocked k then d.modThr k (fun t => { t with owed := some (t.owed.getD 0) })
  else (((d.stopThread k).clearThread k).galTrace k 7 0).supStart k

/-- Kill: recorded with its code, then as a reset (R165, R168, R502); one that must wait is remembered (R196). -/
def Dev.killThread (d : Dev) (k code : Nat) : Dev :=
  if d.resetBlocked k then d.modThr k (fun t => { t with owed := some code })
  else
    let pc := (d.thr k).pc.toNat
    let d := (d.stopThread k).pushFault k code 0 pc
    ((d.clearThread k).galTrace k 8 pc).supStart k

/-- The head fault record leaves its FIFO (R166). -/
def Dev.popFault (d : Dev) (g : Nat) : Dev :=
  let fs := (d.gal g).faults.drop 1
  let d := (d.modGal g (fun x => { x with faults := fs, headAt := d.now })).wr (R.GL_STAT g) F.GL_STAT_f_depth fs.length
  if fs.isEmpty then d.modThr (supOf g) (fun t => { t with pend := t.pend &&& 0xFB }) else d

/-- Every job whose node is queued at a core ends as a void (R168). -/
def Dev.dropCoreQueue (d : Dev) (g c : Nat) : Dev :=
  let l := d.dr.cq.get [] (g * 8 + c)
  let d := ({ d with dr := { d.dr with cq := d.dr.cq.set [] (g * 8 + c) [] } }).syncCq g c
  l.foldl (fun d r => if d.gen (jobKey g r.slot) = r.gen then d.jobVoid (jobKey g r.slot) false else d) d

/-- Registers of a core that a core reset returns to their reset values. -/
def Dev.resetCoreRegs (d : Dev) (g c : Nat) : Dev :=
  let rs := [R.GL_ROSE0 g c, R.GL_ROSE1 g c, R.GL_ROSELIVE0 g c, R.GL_ROSELIVE1 g c] ++ (List.range 8).map (R.GL_TCTL g c)
  let d := rs.foldl (fun d r => d.rset r r.reset) d
  let d := d.wr (R.GL_ROSECTL g c) F.GL_ROSECTL_pending 0
  (List.range 8).foldl (fun d t => d.modThr (thrKey g c t) (fun x => { x with ctlLive := none, delayed := [] })) d

/-- Core reset (R168); one that must wait is remembered (R196). -/
def Dev.resetCore (d : Dev) (g c : Nat) : Dev :=
  let ks := (List.range 8).map (thrKey g c)
  if ks.any d.resetBlocked then d.modGal g (fun x => { x with owedCore := c :: x.owedCore.filter (· != c) })
  else
    let d := ks.foldl (fun d k => (d.stopThread k).clearThread k) d
    ((d.dropCoreQueue g c).resetCoreRegs g c).supStart (thrKey g c 7)

/-! ## Mode changes (R164, R176) -/

/-- A mode change takes effect. -/
def Dev.applyMode (d : Dev) (k : Nat) (m : ModeChange) : Dev :=
  match m with
  | .agm v => d.modThr k (fun t => { t with agmLive := v })
  | .ctl im p w =>
    let r := R.GL_TCTL (k / 64) (k / 8 % 8) (k % 8)
    let same := im.toNat == d.rd r F.GL_TCTL_imask && p == d.rd r F.GL_TCTL_prio && w == d.rd r F.GL_TCTL_ddr_win
    d.modThr k (fun t => { t with ctlLive := if same then none else some (im, p, w) })

/-- Put a mode change on its way, to take effect after two more own instructions. -/
def Dev.delayMode (d : Dev) (k : Nat) (m : ModeChange) : Dev :=
  d.modThr k (fun t => { t with delayed := t.delayed ++ [(2, m)] })

/-- One instruction has run: the first `n` changes are one instruction nearer. -/
def Dev.tickModes (d : Dev) (k n : Nat) : Dev :=
  let l := (d.thr k).delayed
  let old := (l.take n).map (fun x => (x.1 - 1, x.2))
  let d := d.modThr k (fun t => { t with delayed := old.filter (fun x => x.1 != 0) ++ l.drop n })
  (old.filter (fun x => x.1 == 0)).foldl (fun d x => d.applyMode k x.2) d

def Dev.applyModes (d : Dev) (k : Nat) : Dev :=
  let l := (d.thr k).delayed
  l.foldl (fun d x => d.applyMode k x.2) (d.modThr k (fun t => { t with delayed := [] }))

/-! ## Late errors (R198) -/

/-- The late-error word without its lost bit. -/
def lateWord (cp code detail pc : Nat) : Nat := 2 ^ 31 + cp * 2 ^ 28 + code * 2 ^ 24 + detail * 2 ^ 20 + pc

/-- A late error reaches its thread, or becomes a fault record with code 0x08. -/
def Dev.lateError (d : Dev) (k epoch cp code detail pc : Nat) : Dev :=
  let d := d.inc (R.GL_CPSTAT (k / 64)) F.GL_CPSTAT_late
  let t := d.thr k
  if epoch ≠ t.epoch.toNat || t.st == .free then d.pushFault k 8 (cp * 2 ^ 28 + code * 2 ^ 24 + detail * 2 ^ 20) pc
  else if t.late.toNat < 2 ^ 31 then (d.setThr k { t with late := BitVec.ofNat 32 (lateWord cp code detail pc) }).pendSource k 0
  else (d.setThr k { t with late := t.late ||| 0x40000000 }).inc (R.GL_CPSTAT (k / 64)) F.GL_CPSTAT_late_lost

/-! ## Memory as a thread sees it (R150) -/

/-- A range of the thread's address map, with the offset in it. -/
inductive Place
  | priv (a : Nat)
  | shared (off : Nat)
  | gl (off : Nat)
  | ddr (a : Nat)
  | lode (off : Nat)
  deriving DecidableEq, Repr

/-- Where a thread address leads; none: fault 0x02. -/
def Dev.place (d : Dev) (k a : Nat) : Option Place :=
  if a < 0x8000 then some (.priv a)
  else if 0x100000 ≤ a && a < 0x300000 then some (.shared (a - 0x100000))
  else if 0x300000 ≤ a && a < 0x310000 then (if isSup k then some (.gl (a - 0x300000)) else none)
  else if 0x40000000 ≤ a && a < 0x80000000 then some (.ddr ((d.ctl k).2.2 * 2 ^ 30 + (a - 0x40000000)))
  else if 0x80000000 ≤ a then some (.lode (a - 0x80000000))
  else none

/-- A load's bytes, and whether they met an uncorrectable error or poison (R191, R389). Of a read that is answered with
fence status the spec gives no data: it is free (log entry 32). -/
def Dev.loadBytes (d : Dev) (k : Nat) (p : Place) (n : Nat) : List Byte × Bool × Dev :=
  let g := k / 64
  match p with
  | .priv a => let x := privAddr g (k / 8 % 8) a; (d.bytes x n, d.wordBad g x n, d)
  | .shared o => let x := sharedAddr g o; (d.bytes x n, d.wordBad g x n, d)
  | .gl _ => (leBytes n 0, false, d)
  | .lode o =>
    if d.quadFenced (quadOf (o / 256)) then (leBytes n 0, true, d) else (d.bytes (lodeAddr o) n, false, d)
  | .ddr a =>
    match d.smRead 1 a n with
    | (.ok bs, d) => (bs, false, d)
    | (.poison, d) => (leBytes n 0, true, d)
    | (.fence, d) => let (x, d) := d.fresh (8 * n); (leBytes n x, false, d)

/-- A store is performed (R188): a full word has good ECC; a part merges into a word, which stays uncorrectable where it was, and that
is counted. -/
def Dev.storeBytes (d : Dev) (k : Nat) (p : Place) (bs : List Byte) : Dev :=
  let g := k / 64
  let into (x : Nat) : Dev :=
    if bs.length = 4 then (d.put x bs).goodWords g x 4
    else if d.wordBad g x bs.length then (d.put x bs).inc (R.GL_ECC g) F.GL_ECC_uncorr
    else d.put x bs
  match p with
  | .priv a => into (privAddr g (k / 8 % 8) a)
  | .shared o => into (sharedAddr g o)
  | .gl _ => d
  | .lode o => d.lodeStore o bs
  | .ddr a => (d.smWrite 1 a bs).2

/-- The code of a place whose stores are buffered. -/
def Place.code : Place → Nat
  | .shared o => o
  | .ddr a => 2 ^ 38 + a
  | .lode o => 2 ^ 39 + o
  | _ => 0

def placeOf (c : Nat) : Place :=
  if c < 2 ^ 38 then .shared c else if c < 2 ^ 39 then .ddr (c - 2 ^ 38) else .lode (c - 2 ^ 39)

/-- An entry leaves the head of the store buffer (R187, R203): its store is performed, or its CP2 operation has read its argument block. -/
def Dev.performEntry (d : Dev) (k : Nat) : SbEntry → Dev
  | .store c bs => d.storeBytes k (placeOf c) bs
  | .cp2 id =>
    let n := d.opNumber (k / 64)
    n.2.modThr k (fun t => { t with ops := t.ops.map (fun (o : CpOp) =>
      if o.cp = 2 && o.id = id then { o with args := some (d.bytes (sharedAddr (k / 64) (o.a - 0x100000)) 32), num := n.1 } else o) })

/-! ## The issue of an instruction -/

/-- What an instruction comes to once it has issued. -/
inductive Act
  /-- a fault: the thread stops as it was before the instruction -/
  | fault (code detail : Nat)
  /-- a rank fault, counted (R273) -/
  | rank (d : Dev) (detail : Nat)
  /-- it cannot issue yet, for want of what `why` of a thread names -/
  | stall (why : Nat)
  /-- a watchpoint halts the thread before the instruction -/
  | watch
  | go (d : Dev)
  /-- a prefix: the bundle goes on -/
  | pre (d : Dev)
  | jump (d : Dev) (pc : Nat)

/-- The debugger holds a thread (R501). -/
def Dev.holdThread (d : Dev) (k : Nat) : Dev :=
  let t := d.thr k
  match t.st with
  | .free => d
  | .fault => d
  | .hold => d
  | _ => ((d.setThr k { t with st := .hold, heldFrom := t.st }).galTrace k 9 t.pc.toNat).limits

/-- The thread has to wait for the results of some registers, or for room (R160). -/
def Dev.stallThread (d : Dev) (k why : Nat) (need : List Nat := []) : Dev :=
  let t := d.thr k
  if t.st == .ready then (d.setThr k { t with st := .stall, why := why, need := need }).galTrace k 1 t.pc.toNat
  else d.setThr k { t with why := why, need := need }

/-- Operations of a coprocessor that are in flight for the thread. -/
def Thread.live (t : Thread) (cp : Nat) : List CpOp := t.ops.filter (fun o => o.cp == cp && !o.dead)

/-- Requests of a gallery that wait for the logic to take them (R206). -/
def Dev.faceQueue (d : Dev) (g : Nat) : Nat :=
  ((List.range 64).map (fun i => (((d.thr (g * 64 + i)).live 3).filter (fun o => !o.sent)).length)).sum

/-- What the thread waits for in STALL is not there yet (R160, R187, R194). -/
def Dev.stillStalled (d : Dev) (k : Nat) : Bool :=
  let t := d.thr k
  t.draining != 0 || t.scored t.need
    || (match t.why with
      | 1 => decide (4 ≤ t.sb.length)
      | 2 => decide (4 ≤ t.sb.length) || decide (4 ≤ (t.live 2).length)
      | 3 => decide (4 ≤ (t.live 3).length) || decide (32 ≤ d.faceQueue (k / 64))
      | 4 => !t.sb.isEmpty
      | 5 => t.rel.isSome
      | 6 | 7 | 8 | 9 => d.quadFull (t.why - 6)
      | _ => false)

/-- A thread whose wait is over goes on (R160); one that waits for more stays. -/
def Dev.wakeThread (d : Dev) (k : Nat) : Dev :=
  if d.stillStalled k then d
  else
    let d := if (d.thr k).st = .stall then d.galTrace k 2 (d.thr k).pc.toNat else d
    d.modThr k (fun t => { t with st := if t.st = .stall then .ready else t.st
                                  heldFrom := if t.st = .hold && t.heldFrom = .stall then .ready else t.heldFrom })

/-! ## The choice of a thread (R155, R156) -/

/-- Entry `e` of the live Rose of core `core` (counted over the device): its kind, 3 taken as 0, and its thread. -/
def Dev.roseLive (d : Dev) (core e : Nat) : Nat × Nat :=
  let r := if e < 8 then R.GL_ROSELIVE0 (core / 8) (core % 8) else R.GL_ROSELIVE1 (core / 8) (core % 8)
  let b := bitsOf (d.rget r).toNat (8 * (e % 8)) 8
  (match bitsOf b 3 2 with | 3 => 0 | x => x, bitsOf b 0 3)

/-- A thread that holds a pinned entry. -/
def Dev.pinned (d : Dev) (k : Nat) : Bool := (List.range 16).any (fun e => d.roseLive (k / 8) e == (1, k % 8))

/-- A thread counts as READY in the choice; `me` is the thread whose instruction is to issue. -/
def Dev.inRace (d : Dev) (me k : Nat) : Bool := k == me || ((d.thr k).st == .ready && (d.thr k).draining == 0)

/-- The thread of an open cycle: the highest priority, then the oldest issue in an open cycle, then the lowest number. -/
def Dev.openPick (d : Dev) (me : Nat) : Option Nat :=
  let ks := ((List.range 8).map (fun t => me / 8 * 8 + t)).filter (fun k => d.inRace me k && !d.pinned k)
  ks.foldl (fun b k =>
    match b with
    | none => some k
    | some y =>
      let p := (d.ctl k).2.1
      let q := (d.ctl y).2.1
      if q < p || (p = q && (d.thr k).lastOpen < (d.thr y).lastOpen) then some k else b) none

/-- The core chooses a thread in the cycles of entry `e` (R156): as an open cycle, or as its own. -/
def Dev.chooses (d : Dev) (k e : Nat) : Option Bool :=
  let x := d.roseLive (k / 8) e
  let o := k / 8 * 8 + x.2
  if x.1 ≠ 0 && d.inRace k o then (if o = k then some false else none)
  else if d.openPick k = some k then some true
  else none

/-- The thread has own slots: the core chooses it in the cycles of some entry. -/
def Dev.hasSlot (d : Dev) (k : Nat) : Bool := (List.range 16).any (fun e => (d.chooses k e).isSome)

/-- The thread's first own slot from a gallery cycle on, and whether it is an open cycle. -/
def Dev.slotFrom (d : Dev) (k n : Nat) : Nat × Bool :=
  ((List.range 16).findSome? (fun i => (d.chooses k ((n + i) % 16)).map (fun o => (n + i, o)))).getD (n, true)

/-- The thread comes to its next own slot, some cycles on (log entry 31), with the registers that its instruction uses there (R181). -/
def Dev.ownSlot (d : Dev) (k : Nat) (rs : List Nat) : Dev :=
  let (x, d) := d.fresh 32
  let g := k / 64
  let s := d.slotFrom k (((d.gal g).cycle + x + 1).max ((d.thr k).readyAt rs))
  (d.modGal g (fun y => { y with cycle := s.1 })).modThr k (fun t =>
    { t with busy := t.busy.filter (fun e => s.1 < e.2), lastOpen := if s.2 then s.1 else t.lastOpen })

/-- Results that come some cycles after the issue (R181): the bits of their registers are set until then. -/
def Dev.later (d : Dev) (k lat : Nat) (rs : List Nat) : Dev :=
  let c := (d.gal (k / 64)).cycle + lat
  d.modThr k (fun t => { t with busy := t.busy ++ rs.map (fun r => (r, c)) })

/-- FENCE and END wait for the results that come with the cycles (R187). -/
def Dev.sitOut (d : Dev) (k : Nat) : Dev :=
  let c := (d.thr k).busy.foldl (fun m e => m.max e.2) 0
  (d.modGal (k / 64) (fun y => { y with cycle := y.cycle.max c })).modThr k (fun t => { t with busy := [] })

def Dev.unlocked (d : Dev) : Bool := d.on R.DB_STAT F.DB_STAT_unlocked

/-- An armed breakpoint matches an instruction address (R501). -/
def Dev.breakHit (d : Dev) (k pc : Nat) : Bool :=
  d.unlocked && (List.range 16).any (fun n =>
    let r := R.DB_BP n
    d.on r F.DB_BP_en && d.rd r F.DB_BP_gal == k / 64 && bitAt (d.rd r F.DB_BP_cores) (k / 8 % 8)
      && bitAt (d.rd r F.DB_BP_threads) (k % 8) && d.rd r F.DB_BP_pc == pc)

/-- An armed watchpoint matches an access: its first byte in the range, its kind in the mask (R501). -/
def Dev.watchHit (d : Dev) (k a : Nat) (store : Bool) : Bool :=
  d.unlocked && (List.range 8).any (fun n =>
    let r := R.DB_WP n
    let b := d.rd r F.DB_WP_addr
    d.on r F.DB_WP_en && d.rd r F.DB_WP_gal == k / 64 && bitAt (d.rd r F.DB_WP_kind) (b2n store)
      && decide (b ≤ a) && decide (a < b + 2 ^ d.rd r F.DB_WP_size_log2))

/-- A thread may issue: READY, in STALL with its result there, or released for a step; its gallery is clocked, and its core gives
it slots (R156). -/
def Dev.mayIssue (d : Dev) (k : Nat) : Bool :=
  let t := d.thr k
  let live := t.st == .ready || t.st == .stall || (t.st == .hold && t.stepping && (t.heldFrom == .ready || t.heldFrom == .stall))
  live && t.draining == 0 && (d.galState (k / 64) == 2 || d.galState (k / 64) == 3) && d.hasSlot k

/-- The budget of the node leaves no room for the instruction's slots (R138). -/
def Thread.overBudget (t : Thread) (cost : Nat) : Bool := t.cap != 0 && decide (t.cap * 8 < t.slots + cost)

/-- The bin of R144 for a wait in units of 2^-16 ns. -/
def waitBin (w : Nat) : Nat := ((List.range 16).filter (fun b => b = 0 || nsU (2 ^ b) ≤ w)).length - 1

/-- A node's first instruction issues: its wait enters the core's histogram (R144). -/
def Dev.countWait (d : Dev) (k : Nat) (t : Thread) : Dev :=
  match t.node with
  | some r =>
    if t.slots = 0 && t.nodeLive then
      let b := waitBin (d.now - r.at_)
      d.inc (R.DR_CHIST (k / 64) (k / 8 % 8) (b / 4)) (match b % 4 with | 0 => F.DR_CHIST_bin_0 | 1 => F.DR_CHIST_bin_1 | 2 => F.DR_CHIST_bin_2 | _ => F.DR_CHIST_bin_3)
    else d
  | none => d

/-- The thread after the instruction has taken its slots: the next sequential word is fetched (R144, R154). -/
def Dev.taken (d : Dev) (k cost : Nat) : Dev :=
  let t := d.thr k
  let d := (d.countWait k t).inc (R.DR_CLOAD (k / 64) (k / 8 % 8)) F.DR_CLOAD_used cost
  (d.setThr k { t with slots := t.slots + cost, st := if t.st = .stall then .ready else t.st
                       heldFrom := if t.heldFrom = .stall then .ready else t.heldFrom }).refetch k (t.pc.toNat + 1)

/-- After an instruction other than EXT: the bundle is over, mode changes come nearer, and a step is over. -/
def Dev.finish (d : Dev) (k n : Nat) : Dev :=
  let d := (d.modThr k (fun t => { t with ext := [] })).tickModes k n
  d.modThr k (fun t => if t.stepping then { t with stepping := false, heldFrom := if t.st = .hold then t.heldFrom else t.st
                                                   st := if t.st = .free || t.st = .fault then t.st else .hold } else t)

/-- An instruction that a full quadrant queue turns away is counted when it arrives there, and not again while it waits (R249). -/
def Dev.turnAway (d : Dev) (k why : Nat) : Dev :=
  if 6 ≤ why && !((d.thr k).st == .stall && (d.thr k).why == why) then d.inc (R.LD_QSTAT (why - 6)) F.LD_QSTAT_q_full else d

/-- Issue one instruction of a thread (R154, R165, R179, R181, R501). The command is the thread's when its fetched word
has the pattern `pat` under `mask`; `rs` are the registers it uses, 16 for TSW, `x` says that it takes EXT prefixes. `body` runs on
the thread as it was and on the state after the slots have been taken. -/
def Dev.issue (d : Dev) (k mask pat cost : Nat) (rs : List Nat) (x : Bool) (body : Thread → Dev → Act) : Dev :=
  let t := d.thr k
  let pc := t.pc.toNat
  if !d.mayIssue k || t.fetched.toNat &&& mask != pat then d
  else if d.breakHit k pc && !t.stepping then d.holdThread k
  else if t.fetchBad then (d.inc (R.GL_ECC (k / 64)) F.GL_ECC_uncorr).faultThread k 4 pc pc
  else if t.scored rs then d.stallThread k 0 rs
  else if !t.ext.isEmpty && !x then d.faultThread k 1 t.fetched.toNat pc
  else if t.overBudget cost then d.faultThread k 5 t.slots pc
  else
    match body t ((((if t.st = .stall then d.galTrace k 2 pc else d).ownSlot k rs).galTrace k 0 pc).taken k cost) with
    | .fault code detail => (if code = 4 then d.inc (R.GL_ECC (k / 64)) F.GL_ECC_uncorr else d).faultThread k code detail pc
    | .rank d' x => ({ d with regs := d'.regs }).faultThread k 6 x pc
    | .stall why => (d.turnAway k why).stallThread k why
    | .watch => d.holdThread k
    | .pre d => d
    | .go d => d.finish k t.delayed.length
    | .jump d pc => (d.refetch k pc).finish k t.delayed.length

/-- Every earlier store and pending result is there, so a waiting FENCE ends, or END ends the node (R187). -/
def Thread.drained (t : Thread) : Bool := t.sb.isEmpty && t.score == 0 && t.rel.isNone

/-- The node of a thread ends (R137, R160, R275, R276). The supervisor only goes on. -/
def Dev.endNode (d : Dev) (k : Nat) : Dev :=
  let t := d.thr k
  let d := d.setThr k { t with draining := 0, st := if t.st = .stall then .ready else t.st
                               heldFrom := if t.heldFrom = .stall then .ready else t.heldFrom }
  match t.node with
  | none => d
  | some r =>
    let d := d.jobHold k (jobKey (k / 64) r.slot)
    let d := if (d.tk.staging.get [] k).isEmpty then d else (d.inc R.TK_STAT F.TK_STAT_stage_drop).dropStaging k
    let d := (d.galTrace k 7 t.pc.toNat).modThr k (fun t => { t with st := .free, node := none, nodeLive := false, cap := 0 })
    let d := if t.st = .hold then d.limits else d
    if t.nodeLive then d.threadNodeEnd k r true else d

/-- A FENCE or END that waits goes on once everything before it is done (R187). -/
def Dev.drainCheck (d : Dev) (k : Nat) : Dev :=
  let t := d.thr k
  if t.draining = 0 || !t.drained then d
  else if t.draining = 2 then d.endNode k
  else d.setThr k { t with draining := 0, st := if t.st = .stall then .ready else t.st
                           heldFrom := if t.heldFrom = .stall then .ready else t.heldFrom }

/-- An operation of a coprocessor is over: a wait for it may end, and a reset or a kill that it held up happens (R187, R196). -/
def Dev.opsOver (d : Dev) (k : Nat) : Dev :=
  let d := (d.wakeThread k).drainCheck k
  let d := if d.resetBlocked k then d
    else
      match (d.thr k).owed with
      | none => d
      | some 0 => (d.modThr k (fun t => { t with owed := none })).resetThread k
      | some c => (d.modThr k (fun t => { t with owed := none })).killThread k c
  let g := k / 64
  let c := k / 8 % 8
  if (d.gal g).owedCore.contains c && !((List.range 8).map (thrKey g c)).any d.resetBlocked then
    (d.modGal g (fun x => { x with owedCore := x.owedCore.filter (· != c) })).resetCore g c
  else d

end Sys2Proof.Machine
end

