-- ==== Sys2Proof/Machine/RegIo.lean ====
section
/-!
DEFINITION. Reading and writing a register by its access types (R3, R4, R6 to R8), for any requester.
-/

namespace Sys2Proof.Machine

/-- Instance numbers of an offset under falling strides; none in a gap. -/
def instancesOf : List (Nat × Nat) → Nat → Option (List Nat)
  | [], o => if o = 0 then some [] else none
  | (st, n) :: r, o => if o / st < n then (instancesOf r (o % st)).map (o / st :: ·) else none

def RegRow.instancesAt (row : RegRow) (a : Nat) : Option (List Nat) :=
  if a < row.base then none else instancesOf row.dims (a - row.base)

/-- The block an address lies in (R507, R510): a BAR4 function area, a gallery window, or a 1 MiB block. -/
def blockOf (a : Nat) : Nat :=
  if 2 ^ 32 ≤ a then 0x40 else if 0x2000000 ≤ a && a < 0x2D00000 then 0x20 else if a < 0x1400000 then a / 2 ^ 20 else 0x30

/-- The register at an address, with its instance numbers (R513). -/
def findReg (a : Nat) : Option (RegId × List Nat) :=
  (blockRegs (blockOf a)).findSome? (fun r => ((regRow r).instancesAt a).map (fun ix => (r, ix)))

/-- The written value as it takes effect (R4, R8): without a grant XP fields keep their values and XP actions do not
start; reserved bits and read-only fields are zero. -/
def RegRow.effective (row : RegRow) (old v : Word64) (grant : Bool) : Word64 :=
  row.flds.foldl (fun e f =>
    match f.acc with
    | .xp => f.put e (if grant then f.get v else f.get old)
    | .xpwo => f.put e (if grant then f.get v else 0)
    | .rw | .wo | .rw1c => f.put e (f.get v)
    | _ => e) 0

/-- What the register holds after the write. -/
def RegRow.stored (row : RegRow) (old eff : Word64) : Word64 :=
  row.flds.foldl (fun e f =>
    match f.acc with
    | .xp | .rw => f.put e (f.get eff)
    | .rw1c => BitVec.ofNat 64 (e.toNat - (f.get old &&& f.get eff) * 2 ^ f.lo)
    | _ => e) old

/-- The write would have changed an XP field or started an XP action (R8). -/
def RegRow.discards (row : RegRow) (old v : Word64) : Bool :=
  row.flds.any (fun f =>
    match f.acc with
    | .xp => f.get v != f.get old
    | .xpwo => f.get v != 0
    | _ => false)

/-- The register after a read that covers bits [lo, hi): RC fields clear, marks restart (R4, R6). -/
def RegRow.afterRead (row : RegRow) (v : Word64) (lo hi : Nat) : Word64 :=
  row.flds.foldl (fun e f =>
    if f.lo < lo || hi ≤ f.lo then e
    else
      match f.acc with
      | .rc => f.put e 0
      | .mark l w => if w = 0 then f.put e 0 else f.put e (bitsOf v.toNat l w)
      | _ => e) v

/-- Bytes of a register. -/
def regWidth (id : RegId) : Nat := if (regRow id).wide then 8 else 4

/-- The register that a byte address lies in, with its instance numbers, and the offset in it (R508, R509). -/
def inReg (a : Nat) : Option ((RegId × List Nat) × Nat) :=
  (List.range 8).findSome? (fun i =>
    if a < i then none else (findReg (a - i)).bind (fun x => if i < regWidth x.1 then some (x, i) else none))

/-- The value a read shows: what starts an action reads as zero. -/
def RegRow.shown (row : RegRow) (v : Word64) : Word64 :=
  row.flds.foldl (fun e f =>
    match f.acc with
    | .wo | .xpwo => f.put e 0
    | _ => e) v

end Sys2Proof.Machine
end

