-- ==== Sys2Proof/Machine/GlRegs.lean ====
section
/-!
DEFINITION. A gallery's own registers: what reads of them show and what writes to them start (R149, R158, R164 to R168,
R205 to R210, R334).
-/

namespace Sys2Proof.Machine

/-! ## The generator (R334) -/

/-- GL_GENCMD.go: cells of row 10 are reserved and the copy begins, or the frame is dropped. -/
def Dev.genStart (d : Dev) (g : Nat) (v : Word64) : Dev :=
  let drop (d : Dev) : Dev := d.inc (R.GL_GENSTAT g) F.GL_GENSTAT_dropped
  let len := F.GL_GENCMD_length.get v
  let src := F.GL_GENCMD_src.get v
  if len < 64 || 16383 < len || src < 0x100000 || 0x300000 < src + (len - 4) || src % 8 ≠ 0 then drop d
  else
    let cls7 := F.GL_GENCMD_queue.get v == 7
    match d.reserve 10 (tagGen g) ((len + 255) / 256) cls7 with
    | (false, d) => drop d
    | (true, d) => (d.wr (R.GL_GENCMD g) F.GL_GENCMD_busy 1).modGal g (fun x => { x with gen := some (src, v) })

/-! ## Rose (R158) -/

/-- GL_ROSECTL.commit. -/
def Dev.roseCommit (d : Dev) (g c : Nat) : Dev :=
  let r := R.GL_ROSECTL g c
  if d.on r F.GL_ROSECTL_pending then d.wr r F.GL_ROSECTL_err 1 else d.wr r F.GL_ROSECTL_pending 1

/-- A write to the shadow: refused while it is pending; the reserved bits of each entry stay zero (R155). -/
def Dev.roseShadow (d : Dev) (g c : Nat) (r : Reg) (v : Word64) : Dev :=
  if d.on (R.GL_ROSECTL g c) F.GL_ROSECTL_pending then d.wr (R.GL_ROSECTL g c) F.GL_ROSECTL_err 1
  else d.rset r (v &&& 0x1F1F1F1F1F1F1F1F)

/-! ## The Face tile (R207 to R210) -/

def Dev.faceState (d : Dev) (g : Nat) : Nat := d.rd (R.GL_FCSTAT g) F.GL_FCSTAT_state
def Dev.setFace (d : Dev) (g s : Nat) : Dev := d.wr (R.GL_FCSTAT g) F.GL_FCSTAT_state s

/-- Where a tile's configuration stands. -/
def faceAddr (g off : Nat) : Nat := 2 ^ 47 + g * 2 ^ 21 + off

/-- A late error sets out for its thread (R198). -/
def Dev.sendLate (d : Dev) (k epoch cp code detail pc : Nat) : Dev :=
  d.modGal (k / 64) (fun x => { x with late := x.late ++ [(k, epoch, cp, code, detail, pc)] })

/-- A result is written back to a register, or suppressed and counted (R196, R197). -/
def Dev.writeBack (d : Dev) (k : Nat) (o : CpOp) (v : Nat) : Dev :=
  let t := d.thr k
  if o.posted then d
  else if o.epoch = t.epoch.toNat then (d.setThr k ((t.setReg o.r (BitVec.ofNat 32 v)).mark o.r false)).wakeThread k
  else d.inc (R.GL_CPSTAT (k / 64)) F.GL_CPSTAT_orphan

/-- An operation of the Face tile completes at its thread without an answer: one that the logic has taken may be answered later. -/
def Thread.faceEnd (t : Thread) (o : CpOp) : Thread :=
  if o.sent then { t with ops := t.ops.map (fun y => if y = o then { y with dead := true } else y) } else { t with ops := t.ops.erase o }

/-- Every CP3 operation in flight completes as the tile leaves RUN (R210). -/
def Dev.faceFlush (d : Dev) (g : Nat) : Dev :=
  (List.range 64).foldl (fun d i =>
    let k := g * 64 + i
    let os := (d.thr k).live 3
    if os.isEmpty then d
    else (os.foldl (fun d o => ((d.modThr k (·.faceEnd o)).writeBack k o 0).sendLate k o.epoch 3 5 0 o.pc) d).opsOver k) d

/-- Everything in a thread's store buffer is performed, and CP2 operations read their blocks. -/
def Dev.flushStores (d : Dev) (k : Nat) : Dev :=
  (d.thr k).sb.foldl (fun d e => d.performEntry k e) (d.modThr k (fun t => { t with sb := [] }))

/-- Gallery reset (R168, R170, R212): threads and cores as their own resets have it; operations in flight complete with their write-backs
suppressed, those of CP2 in Lode, those of CP3 as the tile leaves RUN; instruction memories keep their words and their errors. -/
def Dev.resetGallery (d : Dev) (g : Nat) : Dev :=
  let d := d.setGalState g 1
  let ks := (List.range 64).map (· + g * 64)
  let d := ks.foldl (fun d k => ((d.flushStores k).stopThread k).clearThread k) d
  let d := (List.range 8).foldl (fun d c => (d.dropCoreQueue g c).resetCoreRegs g c) d
  let js := (d.dr.jobs.filter (fun e => e.1 / 2048 == g)).map (·.1)
  let d := js.foldl (fun d j => (d.setJob j { d.job j with running := 0 }).endVoid j) d
  let d := d.draughtReclaim g
  let d := (d.wipe (sharedAddr g 0) (sharedAddr (g + 1) 0)).wipe (privAddr g 0 0) (privAddr (g + 1) 0 0)
  let d := d.modGal g (fun x => { x with faults := [], badWords := x.badWords.filter (· < 2 ^ 41), supFaults := [], owedCore := [] })
  let d := d.wr (R.GL_STAT g) F.GL_STAT_f_depth 0
  if d.faceState g = 3 then ((d.faceFlush g).setFace g 2).wr (R.GL_FCCTL g) F.GL_FCCTL_run 0 else d

/-- GL_FCCTL.load (R208, R209). -/
def Dev.faceLoad (d : Dev) (g : Nat) : Dev :=
  let s := d.faceState g
  if s = 0 || s = 2 || s = 4 then
    (d.setFace g 1).modGal g (fun x => { x with face := { x.face with loading := some (d.rd (R.GL_FCLOAD g) F.GL_FCLOAD_addr * 64), bad := [] } })
  else d

/-- The tile becomes EMPTY. -/
def Dev.faceEmpty (d : Dev) (g : Nat) : Dev :=
  let d := ((d.setFace g 0).rset (R.GL_FCID g) 0).rset (R.GL_FCINFO g) 0
  (d.modGal g (fun x => { x with face := {} })).wipe (faceAddr g 0) (faceAddr (g + 1) 0)

/-- GL_FCCTL.clear. -/
def Dev.faceClear (d : Dev) (g : Nat) : Dev := if d.faceState g = 4 || d.faceState g = 2 then d.faceEmpty g else d

/-- While the tile runs its island stays within the limit (R205, R171). -/
def Dev.faceLimit (d : Dev) (g : Nat) : Dev :=
  let f := d.rd (R.CK_ISLSTAT g) F.CK_ISLSTAT_freq_mhz
  if d.isleLimit g f < f then d.isleFreq g f else d

/-- The tile enters RUN: an island above its limit is lowered with it. -/
def Dev.faceStart (d : Dev) (g : Nat) : Dev := (d.setFace g 3).faceLimit g

/-- GL_FCCTL.run (R209, R210). Out of RUN the island goes back to freq_req (R171). -/
def Dev.faceRun (d : Dev) (g : Nat) (run : Bool) : Dev :=
  if run then (if d.faceState g = 2 then d.faceStart g else d)
  else if d.faceState g = 3 then
    let d := (d.faceFlush g).setFace g 2
    if d.rd R.PW_LSTAT F.PW_LSTAT_mode = 0 then d.freqAsk g (d.rd (R.CK_ISLCFG g) F.CK_ISLCFG_freq_req) else d
  else d

/-! ## Reads -/

/-- GL_TSTAT of a thread. -/
def Dev.tstat (d : Dev) (k : Nat) : Nat :=
  let t := d.thr k
  let n := t.node.getD {}
  t.epoch.toNat * 2 ^ 56 + t.pend.toNat * 2 ^ 48 + b2n t.inHnd * 2 ^ 47 + t.pc.toNat * 2 ^ 28 + n.node * 2 ^ 24 + n.slot * 2 ^ 13 + t.st.code

/-- What a gallery register shows: some are made up on the read. -/
def Dev.glValue (d : Dev) (id : RegId) (ix : List Nat) (v : Word64) : Word64 :=
  let g := ix.getD 0 0
  let h := ((d.gal g).faults.head?.map (·.toNat)).getD 0
  match id with
  | .GL_FREC0 => BitVec.ofNat 64 h
  | .GL_FREC1 => BitVec.ofNat 64 (h / 2 ^ 64)
  | .GL_FREC2 => BitVec.ofNat 64 (h / 2 ^ 128)
  | .GL_TSTAT => BitVec.ofNat 64 (d.tstat (thrKey g (ix.getD 1 0) (ix.getD 2 0)))
  | _ => v

/-- What a read of a gallery register does besides clearing counters. -/
def Dev.glAfterRead (d : Dev) (id : RegId) (ix : List Nat) : Dev :=
  match id with
  | .GL_FREC2 => d.popFault (ix.getD 0 0)
  | _ => d

/-! ## Writes -/

/-- The requesters whose core-0 and gallery resets take effect (R168). -/
def trusted : Src → Bool
  | .overman => true
  | .relief => true
  | _ => false

def isSupSrc : Src → Bool
  | .supervisor _ => true
  | _ => false

/-- Core resets and a gallery reset from GL_CTL (R168). -/
def Dev.glCtl (d : Dev) (g : Nat) (v : Word64) (src : Src) : Dev :=
  let d := (List.range 8).foldl (fun d c => if bitAt (F.GL_CTL_core_rst.get v) c && (c != 0 || trusted src) then d.resetCore g c else d) d
  (if F.GL_CTL_gal_rst.get v = 1 && trusted src then d.resetGallery g else d).supStart (supOf g)

/-- The kill and reset bits, and the mode change, of a write to GL_TCTL (R164, R167). `was` is the mode in force. -/
def Dev.glTctl (d : Dev) (k : Nat) (old v : Word64) (was : BitVec 8 × Nat × Nat) (src : Src) : Dev :=
  let new := (BitVec.ofNat 8 (F.GL_TCTL_imask.get v), F.GL_TCTL_prio.get v, F.GL_TCTL_ddr_win.get v)
  let held := (BitVec.ofNat 8 (F.GL_TCTL_imask.get old), F.GL_TCTL_prio.get old, F.GL_TCTL_ddr_win.get old)
  let d := if new = held then d
    else (d.modThr k (fun t => { t with ctlLive := some was })).delayMode k (.ctl new.1 new.2.1 new.2.2)
  if isSup k && isSupSrc src then d
  else if F.GL_TCTL_kill.get v = 1 then d.killThread k 9
  else if F.GL_TCTL_rst.get v = 1 then d.resetThread k
  else d

/-- What a write to a gallery register starts. `old` is what it held and `v` the value as it takes effect; `d` holds the
register as stored. -/
def Dev.glAfterWrite (d : Dev) (id : RegId) (ix : List Nat) (old v : Word64) (was : BitVec 8 × Nat × Nat) (src : Src) : Dev :=
  let g := ix.getD 0 0
  let c := ix.getD 1 0
  match id with
  | .GL_CTL => d.glCtl g v src
  | .GL_TSOFT => d.pendSource (g * 64 + F.GL_TSOFT_thread.get v) 1
  | .GL_ROSE0 => (d.rset (R.GL_ROSE0 g c) old).roseShadow g c (R.GL_ROSE0 g c) v
  | .GL_ROSE1 => (d.rset (R.GL_ROSE1 g c) old).roseShadow g c (R.GL_ROSE1 g c) v
  | .GL_ROSECTL => if F.GL_ROSECTL_commit.get v = 1 then d.roseCommit g c else d
  | .GL_TCTL => d.glTctl (thrKey g c (ix.getD 2 0)) old v was src
  | .GL_FCCTL =>
    let d := if F.GL_FCCTL_load.get v = 1 then d.faceLoad g else d
    let d := if F.GL_FCCTL_clear.get v = 1 then d.faceClear g else d
    let d := d.faceRun g (F.GL_FCCTL_run.get v == 1)
    if d.faceState g = 3 then d.faceLimit g else d
  | .GL_GENCMD =>
    if F.GL_GENCMD_busy.get old = 1 then (d.rset (R.GL_GENCMD g) old).inc (R.GL_GENSTAT g) F.GL_GENSTAT_dropped
    else if F.GL_GENCMD_go.get v = 1 then d.genStart g v
    else d
  | _ => d

/-- The mode of the thread a GL_TCTL write names, before the write. -/
def Dev.modeOf (d : Dev) (id : RegId) (ix : List Nat) : BitVec 8 × Nat × Nat :=
  match id with
  | .GL_TCTL => d.ctl (thrKey (ix.getD 0 0) (ix.getD 1 0) (ix.getD 2 0))
  | _ => (0, 0, 0)

/-- Read bits [lo, hi) of a gallery register. -/
def Dev.glRead (d : Dev) (id : RegId) (ix : List Nat) (lo hi : Nat) : Nat × Dev :=
  let row := regRow id
  let r := regOf id ix
  let v := row.shown (d.glValue id ix (d.rget r))
  (bitsOf v.toNat lo (hi - lo), (d.rset r (row.afterRead (d.rget r) lo hi)).glAfterRead id ix)

/-- Write a gallery register with the value as it takes effect. -/
def Dev.glWrite (d : Dev) (id : RegId) (ix : List Nat) (eff : Word64) (src : Src) : Dev :=
  let r := regOf id ix
  let old := d.rget r
  (d.rset r ((regRow id).stored old eff)).glAfterWrite id ix old eff (d.modeOf id ix) src

/-! ## The supervisor's own accesses (R150, R509, R514)

A 64-bit register is reached by words through the half the address names (DEDUCED from R167, log entry 33). -/

/-- The register and the bits an access of `n` bytes at offset `o` of the window names. -/
def supTarget (g o n : Nat) : Option (RegId × List Nat × Nat × Nat) :=
  let a := 0x2000000 + g * 0x80000 + o
  if n ≠ 4 then none
  else
    match findReg a with
    | some (id, ix) => if (regRow id).wide then some (id, ix, 0, 32) else some (id, ix, 0, 32)
    | none =>
      if o % 8 = 4 then
        match findReg (a - 4) with
        | some (id, ix) => if (regRow id).wide then some (id, ix, 32, 64) else none
        | none => none
      else none

def Dev.supLoad (d : Dev) (g o n : Nat) : Nat × Dev :=
  match supTarget g o n with
  | some (id, ix, lo, hi) => d.glRead id ix lo hi
  | none => (0, d)

def Dev.supStore (d : Dev) (g o n v : Nat) : Dev :=
  match supTarget g o n with
  | some (id, ix, lo, _) =>
    let row := regRow id
    let old := d.rget (regOf id ix)
    let keep := row.flds.foldl (fun e f => match f.acc with | .xp | .rw => f.put e (f.get old) | _ => e) (0 : Word64)
    let whole := BitVec.ofNat 64 (keep.toNat - bitsOf keep.toNat lo 32 * 2 ^ lo + v % 2 ^ 32 * 2 ^ lo)
    d.glWrite id ix (row.effective old whole true) (.supervisor ⟨g % 26, Nat.mod_lt _ (by decide)⟩)
  | none => d

end Sys2Proof.Machine
end

