-- ==== Sys2Proof/Machine/Flags.lean ====
section
/-!
DEFINITION. Results and flags of the thread instructions' arithmetic (R183, R184), and the branch conditions (R185).
-/

namespace Sys2Proof.Machine

/-- z and n of a result. -/
def Thread.zn (t : Thread) (r : Word32) : Thread := { t with z := r == 0, n := r.msb }

/-- The sum of two words and a carry in, its carry out, and signed overflow. -/
def addWith (a b : Word32) (cin : Bool) : Word32 × Bool × Bool :=
  let s := a.toNat + b.toNat + b2n cin
  let r := BitVec.ofNat 32 s
  (r, decide (2 ^ 32 ≤ s), a.msb == b.msb && r.msb != a.msb)

/-- The difference a − b − (1 − cin): c is 1 when no borrow is needed. -/
def subWith (a b : Word32) (cin : Bool) : Word32 × Bool × Bool := addWith a (~~~b) cin

/-- Write a sum or difference with all four flags. -/
def Thread.arith (t : Thread) (x : Word32 × Bool × Bool) : Thread := { t.zn x.1 with c := x.2.1, v := x.2.2 }

/-- The four shifts by a count, with the last bit out; a count of 0 leaves the bit as it was. -/
inductive ShiftOp
  | shl | shr | sar | ror
  deriving DecidableEq, Repr

def shiftVal : ShiftOp → Word32 → Nat → Word32
  | .shl, a, k => a <<< k
  | .shr, a, k => a >>> k
  | .sar, a, k => a.sshiftRight k
  | .ror, a, k => a.rotateRight (k % 32)

/-- The last bit shifted or rotated out by a count from 1 to 32. -/
def shiftOut : ShiftOp → Word32 → Nat → Bool
  | .shl, a, k => bitAt a.toNat (32 - k)
  | .sar, a, k => bitAt (a.sshiftRight (k - 1)).toNat 0
  | _, a, k => bitAt a.toNat (k - 1)

def Thread.shift (t : Thread) (op : ShiftOp) (a : Word32) (k : Nat) : Word32 × Thread :=
  let r := shiftVal op a k
  (r, { t.zn r with c := if k = 0 then t.c else shiftOut op a k })

/-- Leading zeros, ones, and byte reversal of a word. -/
def clz32 (a : Word32) : Nat := ((List.range 32).find? (fun i => bitAt a.toNat (31 - i))).getD 32
def popc32 (a : Word32) : Nat := ((List.range 32).filter (fun i => bitAt a.toNat i)).length
def bswap32 (a : Word32) : Word32 := BitVec.ofNat 32 (leNat (leBytes 4 a.toNat).reverse)

/-- Whether condition `c` of R185 holds; 15 is reserved. -/
def Thread.cond (t : Thread) : Nat → Bool
  | 0 => true
  | 1 => t.z
  | 2 => !t.z
  | 3 => t.n
  | 4 => !t.n
  | 5 => t.v
  | 6 => !t.v
  | 7 => t.c
  | 8 => !t.c
  | 9 => t.c && !t.z
  | 10 => !t.c || t.z
  | 11 => t.n == t.v
  | 12 => t.n != t.v
  | 13 => !t.z && t.n == t.v
  | 14 => t.z || t.n != t.v
  | _ => false

end Sys2Proof.Machine
end

