-- ==== Sys2Proof/Machine/Operands.lean ====
section
/-!
DEFINITION. Operands of the thread instructions: immediates built with EXT prefixes (R178), effective addresses, and the
address generators (R175, R189).
-/

namespace Sys2Proof.Machine

/-- The low `w` bits of a number as a signed 32-bit word. -/
def signed32 (w x : Nat) : Word32 :=
  let x := x % 2 ^ w
  if w = 0 then 0 else if bitAt x (w - 1) then BitVec.ofInt 32 ((x : Int) - 2 ^ w) else BitVec.ofNat 32 x

/-- The immediate of a bundle: EXT fields, first highest, then the instruction's own field of `w` bits (R178). -/
def Thread.imm (t : Thread) (w own : Nat) : Word32 :=
  signed32 (10 * t.ext.length + w) (t.ext.foldl (fun a e => a * 1024 + e.toNat) 0 * 2 ^ w + own % 2 ^ w)

/-- The address-generator mode under which a base register addresses; 0 where it is none (R175, R189). -/
def Thread.agMode (t : Thread) (b : Nat) : Nat :=
  if b = 12 then bitsOf t.agmLive.toNat 0 2 else if b = 13 then bitsOf t.agmLive.toNat 2 2 else 0

/-- floor(log2 x), 0 for 0. -/
def log2 (x : Nat) : Nat := ((List.range 32).filter (fun i => 2 ^ i ≤ x)).length - 1

/-- A number of `n` bits with its bits in reverse order. -/
def revBits : Nat → Nat → Nat
  | 0, _ => 0
  | n + 1, x => x % 2 * 2 ^ n + revBits n (x / 2)

/-- The register after an AG access of 2^z bytes (R189): `m` the mode, `r` the register, `b`, `l`, `s` base, length, step. -/
def agNext (m : Nat) (r b l s : Word32) (z : Nat) : Word32 :=
  match m with
  | 1 => r + s
  | 2 => if l = 0 then r + s else b + BitVec.ofInt 32 ((((r - b).toNat : Nat) + s.toInt) % (l.toNat : Int))
  | 3 =>
    let k := log2 l.toNat
    if l.toNat < 2 || k ≤ z then b
    else
      let o := bitsOf (r - b).toNat z (k - z)
      let st := bitsOf s.toNat z (k - z)
      let sum := revBits (k - z) ((revBits (k - z) o + revBits (k - z) st) % 2 ^ (k - z))
      b + BitVec.ofNat 32 (sum * 2 ^ z)
  | _ => r

/-- The base register after an access through it. -/
def Thread.agStep (t : Thread) (b z : Nat) : Thread :=
  let m := t.agMode b
  if m = 0 then t
  else if b = 12 then t.setReg 12 (agNext m (t.reg 12) t.ab0 t.al0 t.as0 z)
  else t.setReg 13 (agNext m (t.reg 13) t.ab1 t.al1 t.as1 z)

/-- The effective address of a load or store (R178, R183). -/
def Thread.ea (t : Thread) (b : Nat) : Nat := if t.agMode b = 0 then (t.reg b + t.imm 0 0).toNat else (t.reg b).toNat

/-- The four bytes of an entry that an access of `n` bytes at a code takes from it, if it covers them all. -/
def forward (c n a : Nat) (bs : List Byte) : Option (List Byte) :=
  if a ≤ c && c + n ≤ a + bs.length then some ((bs.drop (c - a)).take n) else none

/-- A buffered entry overlaps an access. -/
def SbEntry.meets (e : SbEntry) (c n : Nat) : Bool :=
  match e with
  | .store a bs => decide (a < c + n) && decide (c < a + bs.length)
  | .cp2 _ => false

/-- The youngest overlapping entry of a store buffer: how many entries up to and with it, and the entry (R187). -/
def youngest (l : List SbEntry) (c n : Nat) : Option (Nat × SbEntry) :=
  (List.zip (List.range l.length) l).foldl (fun b e => if e.2.meets c n then some (e.1 + 1, e.2) else b) none

end Sys2Proof.Machine
end

