-- ==== Sys2Proof/Machine/Alu.lean ====
section
/-!
DEFINITION. The thread instructions that use registers only, the branches, the special registers and the prefixes
(R173 to R185).
-/

namespace Sys2Proof.Machine

/-! ## Forms -/

/-- Number of TSW among the registers that an instruction uses (R181). -/
def tswReg : Nat := 16

/-- An instruction of two registers at one slot: opcode `op` in bits [13:8]; `f` computes the thread after it. Only MOV, MIN, MAX and
MULHU leave TSW alone. -/
def Dev.form2 (d : Dev) (k op dst src : Nat) (f : Thread → Word32 → Word32 → Thread) (rs : List Nat := [dst, src, tswReg]) : Dev :=
  d.issue k 0x3FFF (op * 256 + dst * 16 + src) 1 rs false (fun _ d =>
    .go (d.modThr k (fun t => f t (t.reg dst) (t.reg src))))

/-- A multiplication (R183, R184): its result, and the flags it writes, come 3 cycles after its issue. -/
def Dev.formMul (d : Dev) (k op dst src : Nat) (rs : List Nat) (f : Thread → Word32 → Word32 → Thread) : Dev :=
  d.issue k 0x3FFF (op * 256 + dst * 16 + src) 1 (src :: rs) false (fun _ d =>
    .go ((d.modThr k (fun t => f t (t.reg dst) (t.reg src))).later k 3 rs))

/-- An instruction of one register in the misc group. -/
def Dev.form1 (d : Dev) (k op r : Nat) (rs : List Nat) (f : Thread → Word32 → Thread) : Dev :=
  d.issue k 0x3FFF (0x3200 + op * 16 + r) 1 rs false (fun _ d => .go (d.modThr k (fun t => f t (t.reg r))))

/-- An instruction of a register and a 6-bit immediate that takes prefixes; `major` stands in bits [13:10]. -/
def Dev.formImm (d : Dev) (k major dst imm : Nat) (rs : List Nat) (f : Thread → Word32 → Word32 → Thread) : Dev :=
  d.issue k 0x3FFF (major * 1024 + dst * 64 + imm) 1 rs true (fun t0 d =>
    .go (d.modThr k (fun t => f t (t.reg dst) (t0.imm 6 imm))))

def Dev.formShift (d : Dev) (k op dst src : Nat) (s : ShiftOp) : Dev :=
  d.form2 k op dst src (fun t a b => let x := t.shift s a (b.toNat % 32); x.2.setReg dst x.1)

def Dev.formShiftImm (d : Dev) (k op dst n : Nat) (s : ShiftOp) : Dev :=
  d.issue k 0x3FFF (op * 256 + dst * 16 + n) 1 [dst, tswReg] false (fun _ d =>
    .go (d.modThr k (fun t => let x := t.shift s (t.reg dst) (n + 1); x.2.setReg dst x.1)))

/-! ## ALU A, B, C -/

/-- ADD d, s (R183). -/
def execAdd (k : Fin 1664) (dst src : Fin 16) (s : State) : Outc := s.go (fun d =>
  d.form2 k 0x00 dst src (fun t a b => let x := addWith a b false; (t.arith x).setReg dst x.1))

/-- SUB d, s. -/
def execSub (k : Fin 1664) (dst src : Fin 16) (s : State) : Outc := s.go (fun d =>
  d.form2 k 0x01 dst src (fun t a b => let x := subWith a b true; (t.arith x).setReg dst x.1))

/-- AND d, s. -/
def execAndR (k : Fin 1664) (dst src : Fin 16) (s : State) : Outc := s.go (fun d =>
  d.form2 k 0x02 dst src (fun t a b => (t.zn (a &&& b)).setReg dst (a &&& b)))

/-- OR d, s. -/
def execOrR (k : Fin 1664) (dst src : Fin 16) (s : State) : Outc := s.go (fun d =>
  d.form2 k 0x03 dst src (fun t a b => (t.zn (a ||| b)).setReg dst (a ||| b)))

/-- XOR d, s. -/
def execXorR (k : Fin 1664) (dst src : Fin 16) (s : State) : Outc := s.go (fun d =>
  d.form2 k 0x04 dst src (fun t a b => (t.zn (a ^^^ b)).setReg dst (a ^^^ b)))

/-- MOV d, s. -/
def execMov (k : Fin 1664) (dst src : Fin 16) (s : State) : Outc := s.go (fun d =>
  d.form2 k 0x05 dst src (fun t _ b => t.setReg dst b) [dst, src])

/-- ADC d, s. -/
def execAdc (k : Fin 1664) (dst src : Fin 16) (s : State) : Outc := s.go (fun d =>
  d.form2 k 0x06 dst src (fun t a b => let x := addWith a b t.c; (t.arith x).setReg dst x.1))

/-- SBC d, s. -/
def execSbc (k : Fin 1664) (dst src : Fin 16) (s : State) : Outc := s.go (fun d =>
  d.form2 k 0x07 dst src (fun t a b => let x := subWith a b t.c; (t.arith x).setReg dst x.1))

/-- CMP d, s. -/
def execCmp (k : Fin 1664) (dst src : Fin 16) (s : State) : Outc := s.go (fun d =>
  d.form2 k 0x08 dst src (fun t a b => t.arith (subWith a b true)))

/-- TST d, s. -/
def execTst (k : Fin 1664) (dst src : Fin 16) (s : State) : Outc := s.go (fun d =>
  d.form2 k 0x09 dst src (fun t a b => t.zn (a &&& b)))

/-- MUL d, s. -/
def execMul (k : Fin 1664) (dst src : Fin 16) (s : State) : Outc := s.go (fun d =>
  d.formMul k 0x0A dst src [dst, tswReg] (fun t a b => (t.zn (a * b)).setReg dst (a * b)))

/-- The high word of a product. -/
def mulHigh (x : Int) : Word32 := BitVec.ofInt 32 (x / 2 ^ 32)

/-- MULH d, s. -/
def execMulh (k : Fin 1664) (dst src : Fin 16) (s : State) : Outc := s.go (fun d =>
  d.formMul k 0x0B dst src [dst, tswReg] (fun t a b => let r := mulHigh (a.toInt * b.toInt); (t.zn r).setReg dst r))

/-- MULHU d, s. -/
def execMulhu (k : Fin 1664) (dst src : Fin 16) (s : State) : Outc := s.go (fun d =>
  d.formMul k 0x37 dst src [dst] (fun t a b => t.setReg dst (mulHigh ((a.toNat : Int) * b.toNat))))

/-! ## Shifts -/

/-- SHL d, s. -/
def execShl (k : Fin 1664) (dst src : Fin 16) (s : State) : Outc := s.go (fun d => d.formShift k 0x0C dst src .shl)
/-- SHR d, s. -/
def execShr (k : Fin 1664) (dst src : Fin 16) (s : State) : Outc := s.go (fun d => d.formShift k 0x0D dst src .shr)
/-- SAR d, s. -/
def execSar (k : Fin 1664) (dst src : Fin 16) (s : State) : Outc := s.go (fun d => d.formShift k 0x0E dst src .sar)
/-- ROR d, s. -/
def execRor (k : Fin 1664) (dst src : Fin 16) (s : State) : Outc := s.go (fun d => d.formShift k 0x0F dst src .ror)
/-- SHLI d, #n + 1. -/
def execShli (k : Fin 1664) (dst n : Fin 16) (s : State) : Outc := s.go (fun d => d.formShiftImm k 0x1C dst n .shl)
/-- SHRI d, #n + 1. -/
def execShri (k : Fin 1664) (dst n : Fin 16) (s : State) : Outc := s.go (fun d => d.formShiftImm k 0x1D dst n .shr)
/-- SARI d, #n + 1. -/
def execSari (k : Fin 1664) (dst n : Fin 16) (s : State) : Outc := s.go (fun d => d.formShiftImm k 0x1E dst n .sar)
/-- RORI d, #n + 1. -/
def execRori (k : Fin 1664) (dst n : Fin 16) (s : State) : Outc := s.go (fun d => d.formShiftImm k 0x1F dst n .ror)

/-! ## Immediates and the prefix -/

/-- ADDI d, #imm. -/
def execAddi (k : Fin 1664) (dst : Fin 16) (imm : Fin 64) (s : State) : Outc := s.go (fun d =>
  d.formImm k 4 dst imm [dst, tswReg] (fun t a b => let x := addWith a b false; (t.arith x).setReg dst x.1))

/-- MOVI d, #imm. -/
def execMovi (k : Fin 1664) (dst : Fin 16) (imm : Fin 64) (s : State) : Outc := s.go (fun d =>
  d.formImm k 5 dst imm [dst] (fun t _ b => t.setReg dst b))

/-- CMPI d, #imm. -/
def execCmpi (k : Fin 1664) (dst : Fin 16) (imm : Fin 64) (s : State) : Outc := s.go (fun d =>
  d.formImm k 6 dst imm [dst, tswReg] (fun t a b => t.arith (subWith a b true)))

/-- EXT #i (R178, R179): the field joins the run; a fourth EXT in a row is illegal. -/
def execExt (k : Fin 1664) (imm : Fin 1024) (s : State) : Outc := s.go (fun d =>
  d.issue k 0x3FFF (0x3C00 + imm) 1 [] true (fun t0 d =>
    if 3 ≤ t0.ext.length then .fault 1 t0.fetched.toNat
    else .pre (d.modThr k (fun t => { t with ext := t0.ext ++ [BitVec.ofNat 10 imm], extPc := if t0.ext.isEmpty then t0.pc else t0.extPc }))))

/-! ## Branches -/

/-- Bcc #imm (R183, R185). -/
def execBcc (k : Fin 1664) (cond : Fin 16) (off : Fin 64) (s : State) : Outc := s.go (fun d =>
  d.issue k 0x3FFF (0x2800 + cond * 64 + off) 2 [tswReg] true (fun t0 d =>
    if cond.val = 15 then .fault 1 t0.fetched.toNat
    else if t0.cond cond then .jump d (((d.thr k).pc.toNat + (t0.imm 6 off).toNat) % 2 ^ 14)
    else .go d))

/-- CALL #imm. -/
def execCall (k : Fin 1664) (off : Fin 512) (s : State) : Outc := s.go (fun d =>
  d.issue k 0x3FFF (0x2C00 + off) 2 [15] true (fun t0 d =>
    let next := (d.thr k).pc.toNat
    .jump (d.modThr k (fun t => t.setReg 15 (BitVec.ofNat 32 next))) ((next + (t0.imm 9 off).toNat) % 2 ^ 14)))

/-- JR s; bits [6:4] are ignored. -/
def execJr (k : Fin 1664) (src : Fin 16) (s : State) : Outc := s.go (fun d =>
  d.issue k 0x3F8F (0x2E00 + src) 2 [src] false (fun t0 d => .jump d ((t0.reg src).toNat % 2 ^ 14)))

/-- CALLR s. -/
def execCallr (k : Fin 1664) (src : Fin 16) (s : State) : Outc := s.go (fun d =>
  d.issue k 0x3F8F (0x2E80 + src) 2 [src, 15] false (fun t0 d =>
    .jump (d.modThr k (fun t => t.setReg 15 (BitVec.ofNat 32 t.pc.toNat))) ((t0.reg src).toNat % 2 ^ 14)))

/-- RET. -/
def execRet (k : Fin 1664) (s : State) : Outc := s.go (fun d =>
  d.issue k 0x3F80 0x2F00 2 [15] false (fun t0 d => .jump d ((t0.reg 15).toNat % 2 ^ 14)))

/-! ## Special registers (R173 to R175) -/

/-- The registers of MFS and MTS: special register 0 is TSW. -/
def specialRegs (r num : Nat) : List Nat := if num = 0 then [r, tswReg] else [r]

/-- The value MFS reads; none for a reserved number. CYC and NSLOT count the MFS itself. -/
def Dev.special (d : Dev) (k : Nat) (t0 : Thread) : Nat → Option Word32
  | 0 => some (t0.tsw.setWidth 32)
  | 1 => some (t0.agm.setWidth 32)
  | 2 => some t0.ab0
  | 3 => some t0.al0
  | 4 => some t0.as0
  | 5 => some t0.ab1
  | 6 => some t0.al1
  | 7 => some t0.as1
  | 8 => some (t0.ipc.setWidth 32)
  | 9 => some (t0.itsw.setWidth 32)
  | 10 => some (t0.epoch.setWidth 32)
  | 11 => some (BitVec.ofNat 32 k)
  | 12 => some (BitVec.ofNat 32 (d.gal (k / 64)).cycle)
  | 13 => some (BitVec.ofNat 32 (d.thr k).slots)
  | _ => none

/-- MFS d, r. -/
def execMfs (k : Fin 1664) (dst num : Fin 16) (s : State) : Outc := s.go (fun d =>
  d.issue k 0x3FFF (0x3000 + dst * 16 + num) 1 (specialRegs dst num) false (fun t0 d =>
    match d.special k t0 num with
    | some v => .go (d.modThr k (fun t => t.setReg dst v))
    | none => .fault 1 t0.fetched.toNat))

/-- MTS r, s: a write to AGM is a mode change (R164, R175). -/
def execMts (k : Fin 1664) (num src : Fin 16) (s : State) : Outc := s.go (fun d =>
  d.issue k 0x3FFF (0x3100 + num * 16 + src) 1 (specialRegs src num) false (fun t0 d =>
    let v := t0.reg src
    let set (f : Thread → Thread) : Act := .go (d.modThr k f)
    match num.val with
    | 0 => set (fun t => t.setTsw (v.setWidth 4))
    | 1 => .go ((d.modThr k (fun t => { t with agm := v.setWidth 4 })).delayMode k (.agm (v.setWidth 4)))
    | 2 => set (fun t => { t with ab0 := v })
    | 3 => set (fun t => { t with al0 := v })
    | 4 => set (fun t => { t with as0 := v })
    | 5 => set (fun t => { t with ab1 := v })
    | 6 => set (fun t => { t with al1 := v })
    | 7 => set (fun t => { t with as1 := v })
    | 8 => set (fun t => { t with ipc := v.setWidth 14 })
    | 9 => set (fun t => { t with itsw := v.setWidth 4 })
    | _ => .fault 1 t0.fetched.toNat))

/-! ## System -/

/-- NOP; bits [3:0] are ignored. -/
def execNop (k : Fin 1664) (s : State) : Outc := s.go (fun d => d.issue k 0x3FF0 0x3200 1 [] false (fun _ d => .go d))

/-- END (R187): the node ends when the store buffer and the scoreboard are clear. -/
def execEndNode (k : Fin 1664) (s : State) : Outc := s.go (fun d =>
  (d.issue k 0x3FF0 0x3210 1 [] false (fun _ d => .go (((d.modThr k (fun t => { t with draining := 2 })).sitOut k).stallThread k 0))).drainCheck k)

/-- FENCE (R187). -/
def execFence (k : Fin 1664) (s : State) : Outc := s.go (fun d =>
  (d.issue k 0x3FF0 0x3230 1 [] false (fun _ d => .go (((d.modThr k (fun t => { t with draining := 1 })).sitOut k).stallThread k 0))).drainCheck k)

/-- RTI: illegal outside a handler. -/
def execRti (k : Fin 1664) (s : State) : Outc := s.go (fun d =>
  d.issue k 0x3FF0 0x3220 2 [tswReg] false (fun t0 d =>
    if t0.inHnd then .jump (d.modThr k (fun t => { t.setTsw t0.itsw with inHnd := false })) t0.ipc.toNat
    else .fault 1 t0.fetched.toNat))

/-- BRK (R499, R501): a debug halt, or NOP while debug is locked. -/
def execBrk (k : Fin 1664) (s : State) : Outc := s.go (fun d =>
  d.issue k 0x3FF0 0x3240 1 [] false (fun _ d => .go (if d.unlocked then d.holdThread k else d)))

/-- NOT r. -/
def execNotR (k : Fin 1664) (r : Fin 16) (s : State) : Outc := s.go (fun d =>
  d.form1 k 8 r [r, tswReg] (fun t a => (t.zn (~~~a)).setReg r (~~~a)))

/-- NEG r. -/
def execNeg (k : Fin 1664) (r : Fin 16) (s : State) : Outc := s.go (fun d =>
  d.form1 k 9 r [r, tswReg] (fun t a => let x := subWith 0 a true; (t.arith x).setReg r x.1))

/-- CLZ r. -/
def execClz (k : Fin 1664) (r : Fin 16) (s : State) : Outc := s.go (fun d =>
  d.form1 k 10 r [r] (fun t a => t.setReg r (BitVec.ofNat 32 (clz32 a))))

/-- BSWAP r. -/
def execBswap (k : Fin 1664) (r : Fin 16) (s : State) : Outc := s.go (fun d =>
  d.form1 k 11 r [r] (fun t a => t.setReg r (bswap32 a)))

/-- SXB r. -/
def execSxb (k : Fin 1664) (r : Fin 16) (s : State) : Outc := s.go (fun d =>
  d.form1 k 12 r [r] (fun t a => t.setReg r (signed32 8 a.toNat)))

/-- SXH r. -/
def execSxh (k : Fin 1664) (r : Fin 16) (s : State) : Outc := s.go (fun d =>
  d.form1 k 13 r [r] (fun t a => t.setReg r (signed32 16 a.toNat)))

/-- POPC r. -/
def execPopc (k : Fin 1664) (r : Fin 16) (s : State) : Outc := s.go (fun d =>
  d.form1 k 14 r [r] (fun t a => t.setReg r (BitVec.ofNat 32 (popc32 a))))

/-! ## IMW and extras -/

/-- IMW a, b (R190): an instruction word of the thread's own core. -/
def execImw (k : Fin 1664) (a b : Fin 16) (s : State) : Outc := s.go (fun d =>
  d.issue k 0x3FFF (0x3400 + a * 16 + b) 1 [a, b] false (fun t0 d =>
    let w := (t0.reg b).toNat
    if 2 ^ 14 ≤ w then .fault 2 w
    else
      let x := imemAddr (k / 64) (k / 8 % 8) w
      .go ((d.goodWords (k / 64) x 2).store x 2 ((t0.reg a).toNat % 2 ^ 14))))

/-- MIN d, s. -/
def execMinR (k : Fin 1664) (dst src : Fin 16) (s : State) : Outc := s.go (fun d =>
  d.form2 k 0x35 dst src (fun t a b => t.setReg dst (if a.slt b then a else b)) [dst, src])

/-- MAX d, s. -/
def execMaxR (k : Fin 1664) (dst src : Fin 16) (s : State) : Outc := s.go (fun d =>
  d.form2 k 0x36 dst src (fun t a b => t.setReg dst (if a.slt b then b else a)) [dst, src])

/-- The fault a reserved encoding takes: 0x07 for a coprocessor's, 0x01 for any other (R183, R193). -/
def reservedFault (w : Nat) : Option Nat :=
  let hi := w / 256
  let op := bitsOf w 4 4
  if w / 128 = 0x5F then some 1
  else if hi = 0x27 then some 1
  else if hi = 0x32 && (op == 5 || op == 6 || op == 7 || op == 15) then some 1
  else if hi = 0x33 && 11 ≤ op then some 1
  else if hi = 0x38 && 9 ≤ op && op ≤ 14 then some 7
  else if hi = 0x39 && 11 ≤ op then some 7
  else none

/-- ILLEGAL_INSTRUCTION (R183, R193): the fetched word is a reserved encoding. -/
def execIllegalInstruction (k : Fin 1664) (s : State) : Outc := s.go (fun d =>
  match reservedFault (d.thr k).fetched.toNat with
  | some c => d.issue k 0 0 1 [] false (fun t0 _ => .fault c t0.fetched.toNat)
  | none => d)

end Sys2Proof.Machine
end

