-- ==== Sys2Proof/Machine/Draught.lean ====
section
/-!
DEFINITION. The commands of Draught and of Hoist (R125 to R148, R288 to R301).
-/

namespace Sys2Proof.Machine

/-! ## Template validation (R128) -/

/-- One step of reachability: nodes with a successor in the set join it. -/
def reachStep (succ : Nat → Nat) (n : Nat) (set : Nat) : Nat :=
  (List.range n).foldl (fun s j => if (List.range n).any (fun k => bitAt (succ j) k && bitAt set k) then withBit s j true else s) set

def reach (succ : Nat → Nat) (n : Nat) : Nat → Nat → Nat
  | 0, set => set
  | i + 1, set => reach succ n i (reachStep succ n set)

/-- Nodes whose successors have all been struck are struck; a graph without a cycle loses every node. -/
def strike (succ : Nat → Nat) (n : Nat) : Nat → List Nat → List Nat
  | 0, l => l
  | i + 1, l => strike succ n i (l.filter (fun j => (List.range n).any (fun k => bitAt (succ j) k && l.contains k)))

/-- The checks of R128 on a template's memory. -/
def Dev.tmplGood (d : Dev) (t : Nat) : Bool :=
  let h := d.tmplHdr t
  let n := TH.n_nodes h
  let node := fun j => d.tmplNode t j
  let succ := fun j => ND.succ (node j)
  let ns := List.range n
  let rel := TH.rel_node h
  1 ≤ n && n ≤ 16 && ns.all (fun j => ND.kind (node j) ≤ 7)
    && (ns.filter (fun j => ND.kind (node j) == 7)) == [rel] && succ rel == 0
    && ns.all (fun k => ND.in_deg (node k) == (ns.filter (fun j => bitAt (succ j) k)).length)
    && (strike succ n n ns).isEmpty && ns.all (fun j => bitAt (reach succ n n (2 ^ rel)) j)
    && TH.crc h == crc32c (d.bytes (tmplAddr t) 12 ++ d.bytes (tmplAddr t + 16) 128)

/-- A write of DR_TCTL.en (R128). -/
def Dev.tmplEnable (d : Dev) (t : Nat) (en : Bool) : Dev :=
  if !en then d.wr (R.DR_TCTL t) F.DR_TCTL_en 0
  else if d.tmplGood t then d.wr (R.DR_TCTL t) F.DR_TCTL_en 1
  else d.wr (R.DR_TCTL t) F.DR_TCTL_bad 1

/-- ADMISSION (R129 to R134): the head of the class-7 or the main queue of a pipe; the head of the class-7 queue goes first. -/
def execAdmission (p : Fin 4) (c7 : Bool) (s : State) : Outc :=
  s.go (fun d => if c7 then d.admission (p * 2 + 1) else (d.admission (p * 2 + 1)).admission (p * 2))

/-- BARE_VOID (R293): the refused tub at the head of an admission queue. -/
def execBareVoid (p : Fin 4) (c7 : Bool) (s : State) : Outc := s.go (fun d =>
  let k := p * 2 + b2n c7
  match d.dr.adm.get [] k with
  | h :: _ =>
    match d.refusal h with
    | some code => if d.on R.DR_CFG F.DR_CFG_adm_en then d.refuseTub k h code else d
    | none => d
  | [] => d)

/-! ## Dispatch (R136, R139) -/

/-- The core a thread node goes to: fewest queued nodes, then the lowest number; none while every queue is full. -/
def Dev.pickCore (d : Dev) (g op : Nat) : Option Nat :=
  (List.range 8).foldl (fun (b : Option Nat) c =>
    let n := (d.dr.cq.get [] (g * 8 + c)).length
    if bitAt (bitsOf op 16 8) c && n < 16 then
      match b with
      | some y => if n < (d.dr.cq.get [] (g * 8 + y)).length then some c else b
      | none => some c
    else b) none

/-- A short stamp as a full station time, the nearest to `now` (R11, R69). -/
def expandStamp (now st : Nat) : Nat :=
  let sec := secOf now
  let low := bitsOf st 32 24
  let base := sec - sec % 2 ^ 24 + low
  let sec := if sec + 2 ^ 23 < base then base - 2 ^ 24 else if base + 2 ^ 23 < sec then base + 2 ^ 24 else base
  sec * unitsPerSec + bitsOf st 2 30 * 65536 + bitsOf st 0 2 * 16384

/-- A 96-bit station time as units of 2^-16 ns. -/
def expand96 (x : Nat) : Nat := bitsOf x 48 48 * unitsPerSec + bitsOf x 16 32 * 65536 + bitsOf x 0 16

/-- The deadline of a delay node (R127); none for the reserved base or for a time past word 63. -/
def Dev.delayDue (d : Dev) (j op : Nat) : Option Nat :=
  let off := bitsOf op 32 6
  let add := bitsOf op 0 32 * 65536
  match bitsOf op 38 2 with
  | 0 => some (expandStamp d.now (T.stamp.get (d.job j).tub) + add)
  | 1 => some (d.now + add)
  | 2 => if off = 63 then none else some (expand96 (d.load (ctxWord j off) 12) + add)
  | _ => none

/-- Enter a delay list, sorted by deadline and, within one deadline, by order of entry (R139). -/
def insertDelay (x : Delay) : List Delay → List Delay
  | [] => [x]
  | y :: r => if x.due < y.due then x :: y :: r else y :: insertDelay x r

def Dev.setDelays (d : Dev) (g : Nat) (l : List Delay) : Dev :=
  let d := { d with dr := { d.dr with delays := d.dr.delays.set [] g l } }
  d.markHigh (R.DR_GSTAT g) F.DR_GSTAT_dly_max l.length

/-- The argument block of a Lode helper with what `src` brings from the job context (R243). -/
def helperArgs (a src w30 w31 : Nat) : Nat :=
  let op (s : Nat) : Nat := a - bitsOf a 192 16 * 2 ^ 192 + s * 2 ^ 192
  match src with
  | 1 =>
    let a := op (bitsOf w31 48 16)
    let a := a - bitsOf a 32 32 * 2 ^ 32 + bitsOf w30 29 25 * 2 ^ 32
    if bitAt a 22 then a else a + 2 ^ 22
  | 2 => op (bitsOf w31 32 16)
  | _ => a

/-- The argument block of the Lode helper with operand `op` of job `j`. -/
def Dev.lodeBlock (d : Dev) (j op : Nat) : Nat :=
  helperArgs (d.load (ctxWord j (bitsOf op 26 6)) 32) (bitsOf op 1 2) (d.load (ctxWord j 30) 8) (d.load (ctxWord j 31) 8)

def Dev.helperQuad (d : Dev) (j op : Nat) : Nat := homeQuad (d.lodeBlock j op)

/-- Dispatch one node that has left the ready list. -/
def Dev.dispatch (d : Dev) (g : Nat) (r : NodeRef) : Dev :=
  let j := jobKey g r.slot
  let x := d.job j
  let nd := d.tmplNode x.tmpl r.node
  let op := ND.operand nd
  let d := d.setJob j { x with out := x.out ++ [(r.node, d.now)] }
  match ND.kind nd with
  | 0 =>
    match d.pickCore g op with
    | some c =>
      let d := { d with dr := { d.dr with cq := d.dr.cq.upd [] (g * 8 + c) (· ++ [r]) } }
      (d.syncCq g c).jobTrace 1 j r.node c
    | none => d
  | 6 =>
    let d := d.jobTrace 1 j r.node
    match d.delayDue j op with
    | none => d.nodeComplete g r 6 7
    | some due =>
      let l := d.dr.delays.get [] g
      if 4096 ≤ l.length then (d.inc (R.DR_GSTAT g) F.DR_GSTAT_dly_full).nodeComplete g r 6 6
      else d.setDelays g (insertDelay { due := due, entered := d.now, ref := r } l)
  | _ =>
    let d := d.jobTrace 1 j r.node
    let n := d.opNumber g
    let q := d.helperQuad j op
    let e : EngineOp := { g := g, kind := ND.kind nd, op := op, ref := r, ver := T.version.get x.tub, frame := x.frame, num := n.1, quad := q }
    let d := if ND.kind nd = 1 then n.2.joinQueue q else d
    { d with dr := { d.dr with engine := d.dr.engine ++ [e] } }

/-- A ready Lode helper whose home quadrant's queue is full (R249). -/
def Dev.lodeHeld (d : Dev) (g : Nat) (r : NodeRef) : Bool :=
  let j := jobKey g r.slot
  let nd := d.tmplNode (d.job j).tmpl r.node
  ND.kind nd == 1 && d.quadFull (d.helperQuad j (ND.operand nd))

/-- A ready node can be dispatched: a thread node needs room in a core queue, a Lode helper in its quadrant's. -/
def Dev.canDispatch (d : Dev) (g : Nat) (r : NodeRef) : Bool :=
  let nd := d.tmplNode (d.job (jobKey g r.slot)).tmpl r.node
  (ND.kind nd != 0 || (d.pickCore g (ND.operand nd)).isSome) && !d.lodeHeld g r

/-- The ready Lode helpers that a full queue turns away are counted, each once (R249). -/
def Dev.countTurned (d : Dev) (g : Nat) : Dev :=
  let held := (d.dr.ready.get [] g).filter (d.lodeHeld g)
  let new := held.filter (fun r => !(d.ld.turned.get [] g).contains r)
  let d := new.foldl (fun d r =>
    let j := jobKey g r.slot
    d.inc (R.LD_QSTAT (d.helperQuad j (ND.operand (d.tmplNode (d.job j).tmpl r.node)))) F.LD_QSTAT_q_full) d
  { d with ld := { d.ld with turned := d.ld.turned.set [] g held } }

/-- NODE_DISPATCH (R136): the oldest ready node of a gallery that can go. -/
def execNodeDispatch (g : Fin 26) (s : State) : Outc := s.go (fun d =>
  let d := d.countTurned g
  match (d.dr.ready.get [] g).find? (d.canDispatch g) with
  | none => d
  | some r => ({ d with dr := { d.dr with ready := d.dr.ready.upd [] g (·.erase r) } }).dispatch g r)

/-- Take the oldest operation of a kind that a gallery has handed to an engine. -/
def Dev.takeEngine (d : Dev) (g kind : Nat) : Option EngineOp × Dev :=
  match d.dr.engine.find? (fun e => e.g == g && e.kind == kind) with
  | none => (none, d)
  | some e => (some e, { d with dr := { d.dr with engine := d.dr.engine.erase e } })

/-- A helper returns to Draught with its status (R137). -/
def Dev.helperReturn (d : Dev) (g : Nat) (r : NodeRef) (kind status : Nat) : Dev :=
  { d with dr := { d.dr with returns := d.dr.returns ++ [(g, r, kind, status)] } }

/-- The slot still holds the job of a helper node, and the node has not completed, by its timeout or otherwise (R141). -/
def Dev.awaited (d : Dev) (g : Nat) (r : NodeRef) : Bool :=
  let j := jobKey g r.slot
  d.gen j == r.gen && (d.job j).out.any (fun o => o.1 == r.node)

/-- A helper's result goes into the job context, if the job still waits for it (R141). -/
def Dev.putResult (d : Dev) (g : Nat) (r : NodeRef) (off : Nat) (bs : List Byte) : Dev :=
  let a := ctxWord (jobKey g r.slot) off
  if d.awaited g r then (d.put a bs).goodWords g a bs.length else d

/-- The number that GEN (Lode's function 8) has drawn, in f0 of its record, is the one for the trailer or tag of the frame of its job
(R42, R252). -/
def Dev.noteGen (d : Dev) (g : Nat) (r : NodeRef) (fn status record : Nat) : Dev :=
  if fn = 8 && status ≤ 1 && d.awaited g r then
    d.modFrame (d.job (jobKey g r.slot)).frame (fun f => { f with gen := some (bitsOf record 256 16) })
  else d

/-- NODE_COMPLETE (R135, R140, R141, R244): the oldest completion on its way back. -/
def execNodeComplete (s : State) : Outc := s.go (fun d =>
  match d.dr.returns with
  | (g, r, kind, status) :: rest => ({ d with dr := { d.dr with returns := rest } }).nodeComplete g r kind status
  | [] => d)

/-- HELPER_TIMEOUT (R141): a helper that has not completed hto_us after its dispatch completes with status 4; an hto_us of 0 is 1. -/
def execHelperTimeout (g : Fin 26) (slot : Fin 2048) (node : Fin 16) (s : State) : Outc := s.go (fun d =>
  let j := jobKey g slot
  match d.dr.jobs.find j with
  | none => d
  | some x =>
    let kind := ND.kind (d.tmplNode x.tmpl node)
    let limit := usU ((d.rd R.DR_HTO F.DR_HTO_hto_us).max 1)
    if x.st = 1 && 1 ≤ kind && kind ≤ 5 && x.out.any (fun o => o.1 == node.val && decide (o.2 + limit ≤ d.now)) then
      d.nodeComplete g { slot := slot, node := node, gen := d.gen j } kind 4
    else d)

/-- The last tick at or before an instant (R70). -/
def tickFloor (t exp : Nat) : Nat := secOf t * unitsPerSec + nsOf t / (8 * 2 ^ exp) * (8 * 2 ^ exp) * 65536

/-- Fire every entry due at or before a tick; one entered when already due waits for the next tick (R71), which is the tick of the instant
of entry where one falls there (DESIGN CHOICE, log entry 170). -/
def Dev.fireDelays (d : Dev) (g tick : Nat) : Dev :=
  let l := d.dr.delays.get [] g
  let d := d.setDelays g (l.filter (fun x => tick < x.due.max x.entered))
  (l.filter (fun x => x.due.max x.entered ≤ tick)).foldl (fun d x => d.nodeComplete g x.ref 6 0) d

/-- JOB_VOID (R140). -/
def execJobVoid (g : Fin 26) (slot : Fin 2048) (s : State) : Outc := s.go (fun d => d.jobVoid (jobKey g slot) false)

/-- Records a trace ring holds. -/
def ringRecs (size unit : Nat) : Nat := 2 ^ size / unit

/-- Records of a trace ring of `n` records at `base`, from index `i`, each 16 bytes; the index after them. -/
def Dev.ringPut (d : Dev) (base n i : Nat) (wrap : Bool) (rs : List Nat) : Nat × Dev :=
  rs.foldl (fun (a : Nat × Dev) r =>
    let i := if wrap && n ≤ a.1 then 0 else a.1
    (i + 1, (a.2.smWrite 5 (base + i * 16) (leBytes 16 r)).2)) (i, d)

/-- `m` records have left for the ring of `n`: its write index stands at `i`, and a full ring that does not wrap ends the trace. -/
def Dev.dispTraceAt (d : Dev) (n m i : Nat) (wrap : Bool) : Dev :=
  let d : Dev := { d with dr := { d.dr with trace := d.dr.trace.drop m } }
  let d := d.wr R.DR_TRSTAT F.DR_TRSTAT_wr_idx i
  if !wrap && n ≤ i then d.wr R.DR_TRCTL F.DR_TRCTL_en 0 else d

/-- DISPATCH_TRACE_DRAIN (R145): up to four records in one burst; a ring that does not wrap stops when it is full. -/
def execDispatchTraceDrain (s : State) : Outc := s.go (fun d =>
  let n := ringRecs (d.rd R.DR_TRRING F.DR_TRRING_size_log2) 16
  let wrap := d.on R.DR_TRCTL F.DR_TRCTL_wrap
  let i := d.rd R.DR_TRSTAT F.DR_TRSTAT_wr_idx
  let m := if wrap then 4 else (n - i).min 4
  let out := d.dr.trace.take m
  if out.isEmpty then d
  else
    let x := d.ringPut (d.rd R.DR_TRRING F.DR_TRRING_base * 4096) n i wrap (out.map (·.toNat))
    x.2.dispTraceAt n m (if wrap && n ≤ x.1 then 0 else x.1) wrap)



/-- RELEASE_NODE_COMPLETE (R137, R296): Hoist takes the oldest release of a gallery. -/
def execReleaseNodeComplete (g : Fin 26) (s : State) : Outc := s.go (fun d =>
  match (d.takeEngine g 7).1 with
  | some e => (d.takeEngine g 7).2.releaseNode (jobKey g e.ref.slot) e.ref
  | none => d)

/-- HOIST_RELEASE (R292): the eligible ticket of the oldest admission. -/
def execHoistRelease (s : State) : Outc := s.go Dev.hoistRelease

/-- REORDER_LIMIT (R294). -/
def execReorderLimit (t : Fin 16384) (s : State) : Outc := s.go (fun d => d.reorderLimit t)

/-- HOIST_RECLAIM (R298): a fenced gallery's tickets, first of the managers that reclaim (R407). -/
def execHoistReclaim (g : Fin 26) (s : State) : Outc :=
  s.go (fun d => if d.reclaiming g 0 then (d.hoistReclaim g).reclaimNext else d)

end Sys2Proof.Machine
end

