-- ==== Sys2Proof/Machine/StOps.lean ====
section
/-!
DEFINITION. The station and stream tables as operations: keys and sets, forwarding, learning, meters, parity, and the
table lock (R104 to R122).
-/

namespace Sys2Proof.Machine

/-! ## Station entries (R106) -/

def SE.valid : BF := ⟨127, 1⟩
def SE.static : BF := ⟨126, 1⟩
def SE.frozen : BF := ⟨125, 1⟩
def SE.age : BF := ⟨120, 4⟩
def SE.port : BF := ⟨114, 6⟩
def SE.queue : BF := ⟨111, 3⟩
def SE.fid : BF := ⟨96, 12⟩
def SE.mac : BF := ⟨48, 48⟩
def SE.move_cnt : BF := ⟨40, 8⟩
def SE.t_mark : BF := ⟨16, 24⟩
def SE.parity : BF := ⟨0, 1⟩

/-- The entry with the parity bit that makes the ones even. -/
def seSeal (e : BitVec 128) : BitVec 128 := SE.parity.put e (parityOf 128 (SE.parity.put e 0).toNat)

/-- The reserved bits of an entry are zero. -/
def seClean (e : BitVec 128) : BitVec 128 := BF.put ⟨1, 15⟩ (BF.put ⟨108, 3⟩ (BF.put ⟨124, 1⟩ e 0) 0) 0

def seGood (e : BitVec 128) : Bool := parityOf 128 e.toNat == 0

/-- Ports a station entry may name (R106). -/
def stPortOk (p : Nat) : Bool := p < 32 || p == 32 || p == 35

/-- The entry is valid: its valid bit is 1, and its port is one that does not make it invalid (R106). -/
def seValid (e : BitVec 128) : Bool := SE.valid.get e == 1 && stPortOk (SE.port.get e)

/-- The entry is in use: valid and of good parity. -/
def seLive (e : BitVec 128) : Bool := seValid e && seGood e

/-- The set of a key (R104). -/
def stSet (mac fid : Nat) : Nat := crc32c (beBytes 6 mac ++ leBytes 2 (fid % 4096)) % 65536

def stKeyOf (p idx : Nat) : Nat := p * 262144 + idx
def Dev.station (d : Dev) (p idx : Nat) : BitVec 128 := d.st.station.get 0 (stKeyOf p idx)
def Dev.setStation (d : Dev) (p idx : Nat) (e : BitVec 128) : Dev :=
  { d with st := { d.st with station := d.st.station.set 0 (stKeyOf p idx) e } }

/-- A way of bad parity is rewritten as free and recorded; a static entry is lost until the Overman rewrites it (R119). -/
def Dev.stRepair (d : Dev) (p idx : Nat) : Dev :=
  if seGood (d.station p idx) then d
  else
    let k := stKeyOf p idx
    let d := d.setStation p idx 0
    let d := if d.st.stationCopy.get 0 k = 0 then d else { d with st := { d.st with lost := d.st.lost ++ [k] } }
    let d := d.inc (R.ST_PERR p) F.ST_PERR_par_cnt
    let d := d.wr (R.ST_PERR p) F.ST_PERR_bad 1
    let d := d.wr (R.ST_PERR p) F.ST_PERR_set (idx / 4)
    (d.wr (R.ST_PERR p) F.ST_PERR_way (idx % 4)).tally 0x0403 p [idx]

/-- The ways of a key's set, those of bad parity found and rewritten. -/
def Dev.stRepairSet (d : Dev) (p set : Nat) : Dev := (List.range 4).foldl (fun d w => d.stRepair p (set * 4 + w)) d

/-- The Overman rewrites a lost static entry from its own copy (R119), unless software has changed the copy meanwhile; a way that has
learned its key in between is freed (log entry 60). -/
def Dev.staticBack (d : Dev) (k : Nat) : Dev :=
  let e := d.st.stationCopy.get 0 k
  if e = 0 then d
  else
    let p := k / 262144
    let i := k % 262144
    let same (j : Nat) : Bool := SE.mac.get (d.station p j) == SE.mac.get e && SE.fid.get (d.station p j) == SE.fid.get e
    (((List.range 4).map (fun w => i / 4 * 4 + w)).foldl (fun (a : Dev) j => if same j then a.setStation p j 0 else a) d).setStation p i e

/-- Every lost static entry is rewritten: within 1 ms, as time passes. -/
def Dev.staticsBack (d : Dev) : Dev :=
  let d := d.st.lost.foldl Dev.staticBack d
  { d with st := { d.st with lost := [] } }

/-- The index of the way that holds a key. -/
def Dev.stFind (d : Dev) (p mac fid : Nat) : Option Nat :=
  ((List.range 4).map (fun w => stSet mac fid * 4 + w)).find? (fun i =>
    let e := d.station p i
    seLive e && SE.mac.get e == mac && SE.fid.get e == fid)

/-- The lowest way of a set that is not in use. -/
def Dev.stFree (d : Dev) (p set : Nat) : Option Nat :=
  ((List.range 4).map (fun w => set * 4 + w)).find? (fun i => !seLive (d.station p i))

/-- The address and FID keys of a field vector (R105). -/
def Dev.stMac (fv : BitVec 1024) (chunk : Nat) : Nat := bitsOf fv.toNat (16 * chunk.min 61) 48
def Dev.stDa (d : Dev) (p : Nat) (fv : BitVec 1024) : Nat := Dev.stMac fv (d.rd (R.ST_PCFG p) F.ST_PCFG_da_chunk)
def Dev.stSa (d : Dev) (p : Nat) (fv : BitVec 1024) : Nat := Dev.stMac fv (d.rd (R.ST_PCFG p) F.ST_PCFG_sa_chunk)
def Dev.stFid (d : Dev) (p : Nat) (fv : BitVec 1024) : Nat :=
  if d.on (R.ST_PCFG p) F.ST_PCFG_fid_zero then 0 else bitsOf fv.toNat (16 * d.rd (R.ST_PCFG p) F.ST_PCFG_fid_chunk) 12

/-- The I/G bit of an address as EXT places it (R105). -/
def groupAddr (mac : Nat) : Bool := bitAt mac 40

/-- Column of a station entry's port (R107). -/
def stColumn (port : Nat) : Nat := if port < 32 then port / 4 else if port = 32 then 8 else 11

/-- A flooded frame (R107). -/
def Dev.stFlood (d : Dev) (p fid : Nat) (t : Tub) : Tub :=
  T.group.put (T.multicast.put t 1) ((d.rd (R.ST_PCFG p) F.ST_PCFG_flood_base + fid) % 65536)

/-- Forwarding by station (R107): the tub and the station part of word 30. -/
def Dev.stForward (d : Dev) (p inPort : Nat) (fv : BitVec 1024) (t : Tub) : Tub × Nat × Dev :=
  let da := d.stDa p fv
  let fid := d.stFid p fv
  if groupAddr da then (d.stFlood p fid t, 0, d)
  else
    let d := d.stRepairSet p (stSet da fid)
    match (if d.st.clearing then none else d.stFind p da fid) with
    | none => (d.stFlood p fid t, 2 ^ 63, d.inc (R.ST_PCNT p) F.ST_PCNT_flood)
    | some i =>
      let e := d.station p i
      let port := SE.port.get e
      let t := if port == inPort && d.on (R.ST_PCFG p) F.ST_PCFG_same_drop then Tub.setDrop t 1
        else (Tub.setCol t (stColumn port)).setQueue (SE.queue.get e)
      (t, 2 ^ 63 + 2 ^ 62 + port * 2 ^ 56, d)

/-! ## Learning (R108 to R111) -/

/-- A learn request enters its pipe's queue of 256. -/
def Dev.learnPut (d : Dev) (p : Nat) (l : Learn) : Dev :=
  let q := d.st.learnQ.get [] p
  if 256 ≤ q.length then d.inc (R.ST_PMOV p) F.ST_PMOV_learn_ovf
  else { d with st := { d.st with learnQ := d.st.learnQ.set [] p (q ++ [{ l with at_ := msTime d.now }]) } }

/-- A frozen entry whose hold has ended at a ms time is unfrozen (R109, R112). -/
def Dev.unfreeze (d : Dev) (p now : Nat) (e : BitVec 128) : BitVec 128 :=
  if SE.frozen.get e = 1 && d.rd (R.ST_MOVE p) F.ST_MOVE_hold_ms ≤ (now + 2 ^ 24 - SE.t_mark.get e) % 2 ^ 24 then
    SE.move_cnt.put (SE.frozen.put e 0) 0
  else e

/-- A move at the ms time of its request (R110): the entry after it, whether it froze, and whether the port changed. -/
def Dev.moved (d : Dev) (p now port : Nat) (e : BitVec 128) : BitVec 128 × Bool × Bool :=
  let thr := d.rd (R.ST_MOVE p) F.ST_MOVE_move_thr
  let win := (d.rd (R.ST_MOVE p) F.ST_MOVE_win_ms).max 1
  if SE.move_cnt.get e = 0 || win ≤ (now + 2 ^ 24 - SE.t_mark.get e) % 2 ^ 24 then
    (SE.age.put (SE.port.put (SE.t_mark.put (SE.move_cnt.put e 1) now) port) 0, false, true)
  else if thr != 0 && SE.move_cnt.get e == thr then (SE.t_mark.put (SE.frozen.put e 1) now, true, false)
  else (SE.age.put (SE.port.put (SE.move_cnt.put e ((SE.move_cnt.get e + 1).min 255)) port) 0, false, true)

/-- The learn engine applies one request (R109). -/
def Dev.learnApply (d : Dev) (p : Nat) (l : Learn) : Dev :=
  let set := stSet l.mac l.fid
  let d := d.stRepairSet p set
  match d.stFind p l.mac l.fid with
  | none =>
    match d.stFree p set with
    | some i =>
      let e := SE.valid.put (SE.port.put (SE.queue.put (SE.fid.put (SE.mac.put 0 l.mac) l.fid) l.tclass) l.port) 1
      (d.setStation p i (seSeal e)).inc (R.ST_PCNT p) F.ST_PCNT_learned
    | none => (d.inc (R.ST_PMOV p) F.ST_PMOV_ins_fail).tally 0x0401 p [set]
  | some i =>
    let e := d.unfreeze p l.at_ (d.station p i)
    if SE.port.get e = l.port then d.setStation p i (seSeal (SE.age.put e 0))
    else if SE.static.get e = 1 || SE.frozen.get e = 1 then d.setStation p i (seSeal e)
    else
      let (e, froze, moves) := d.moved p l.at_ l.port e
      let d := d.setStation p i (seSeal e)
      let d := if moves then d.inc (R.ST_PMOV p) F.ST_PMOV_moves else d
      if froze then (d.inc (R.ST_PMOV p) F.ST_PMOV_freeze).tally 0x0402 p [i] else d

/-- The sweep visits one entry (R112). One that ages out keeps its fields but valid and age (DEDUCED, log entry 175). -/
def Dev.sweepEntry (d : Dev) (p i : Nat) : Dev :=
  let d := d.stRepair p i
  let e := d.station p i
  if !seValid e then d
  else
    let e := d.unfreeze p (msTime d.now) e
    let lim := d.rd (R.ST_AGE p) F.ST_AGE_age_lim
    if SE.static.get e = 1 || SE.frozen.get e = 1 || lim = 0 then d.setStation p i (seSeal e)
    else
      let a := (SE.age.get e + 1).min 15
      d.setStation p i (seSeal (SE.valid.put (SE.age.put e a) (if lim ≤ a then 0 else 1)))

/-! ## Stream entries and meters (R114 to R118) -/

def XE.valid : BF := ⟨127, 1⟩
def XE.frer_fn : BF := ⟨125, 2⟩
def XE.lode_idx : BF := ⟨100, 25⟩
def XE.repl_en : BF := ⟨99, 1⟩
def XE.repl_grp : BF := ⟨83, 16⟩
def XE.meter_en : BF := ⟨82, 1⟩
def XE.drop_yellow : BF := ⟨81, 1⟩
def XE.meter_id : BF := ⟨69, 12⟩
def XE.max_sdu : BF := ⟨55, 14⟩
def XE.gate_closed : BF := ⟨54, 1⟩
def XE.ipv_en : BF := ⟨53, 1⟩
def XE.ipv : BF := ⟨50, 3⟩
def XE.queue_en : BF := ⟨49, 1⟩
def XE.queue : BF := ⟨46, 3⟩
def XE.tmpl_en : BF := ⟨45, 1⟩
def XE.tmpl : BF := ⟨37, 8⟩
def XE.par_hi : BF := ⟨1, 1⟩
def XE.par_lo : BF := ⟨0, 1⟩

/-- The entry with both parity bits set (R115). -/
def xeSeal (e : BitVec 128) : BitVec 128 :=
  XE.par_lo.put (XE.par_hi.put e (parityOf 64 (e.toNat / 2 ^ 64))) (parityOf 62 (e.toNat % 2 ^ 64 / 4)
    ^^^ parityOf 64 (e.toNat / 2 ^ 64))

/-- The reserved bits of an entry are zero. -/
def xeClean (e : BitVec 128) : BitVec 128 := BF.put ⟨2, 35⟩ e 0

def xeGood (e : BitVec 128) : Bool :=
  (parityOf 64 (e.toNat / 2 ^ 64) + XE.par_hi.get e) % 2 == 0 && parityOf 64 (e.toNat % 2 ^ 64) == 0

def Dev.streamRaw (d : Dev) (sh : Nat) : BitVec 128 := d.st.stream.get 0 sh
def Dev.setStream (d : Dev) (sh : Nat) (e : BitVec 128) : Dev := { d with st := { d.st with stream := d.st.stream.set 0 sh e } }

/-- A look at a stream entry: an entry of bad parity counts as invalid, is recorded and comes back from the Overman's
copy (R120). -/
def Dev.streamLook (d : Dev) (sh : Nat) : BitVec 128 × Dev :=
  let e := d.streamRaw sh
  if d.st.clearing then (0, d)
  else if xeGood e then (e, d)
  else
    let d := d.setStream sh (d.st.streamCopy.get 0 sh)
    let d := d.inc R.ST_SPERR F.ST_SPERR_par_cnt
    let d := d.wr R.ST_SPERR F.ST_SPERR_bad 1
    (0, (d.wr R.ST_SPERR F.ST_SPERR_handle sh).tally 0x0404 4 [sh])

/-- Bits × 65,536,000: the unit in which 1 Mb/s fills one each 2^-16 ns. -/
def meterUnit : Nat := 65536000

/-- Both buckets of a meter at this instant (R118). They fill with station time: a step of it forward fills them, and after a step back they
wait until it has come to the last use again (DESIGN CHOICE, log entry 176). -/
def Dev.meterNow (d : Dev) (m : Nat) : Nat × Nat :=
  let full (f : Fld) := d.rd (R.ST_MTR m) f * 2048 * meterUnit
  match d.st.meters.get none m with
  | none => (full F.ST_MTR_cbs, full F.ST_MTR_ebs)
  | some (c, e, t) =>
    ((c + d.rd (R.ST_MTR m) F.ST_MTR_cir * (d.now - t)).min (full F.ST_MTR_cbs),
     (e + d.rd (R.ST_MTR m) F.ST_MTR_eir * (d.now - t)).min (full F.ST_MTR_ebs))

/-- The meter colours a frame of `len` bytes: 0 green, 1 yellow, 2 red (IEEE 802.1Q 8.6.5.1, colour-blind, coupling 0). -/
def Dev.meter (d : Dev) (m len : Nat) : Nat × Dev :=
  let (c, e) := d.meterNow m
  let n := len * 8 * meterUnit
  let set (c e : Nat) := { d with st := { d.st with meters := d.st.meters.put m (some (c, e, d.now)) } }
  if n ≤ c then (0, set (c - n) e)
  else if n ≤ e then (1, set c (e - n))
  else (2, set c e)

/-- A write of ST_MTR fills both buckets. -/
def Dev.meterFill (d : Dev) (m : Nat) : Dev := { d with st := { d.st with meters := d.st.meters.del m } }

/-- A frame that the stream entry drops as red. -/
def Dev.streamRed (d : Dev) (t : Tub) : Tub × Nat × Bool × Dev := (t, 0, true, d.inc R.ST_SSTAT F.ST_SSTAT_red_drop)

/-- What a stream entry leaves in a frame's tub that passes. -/
def streamTub (e : BitVec 128) (t : Tub) : Tub :=
  let t := if XE.queue_en.get e = 1 then Tub.setQueue t (XE.queue.get e) else t
  let t := if XE.tmpl_en.get e = 1 then T.template.put t (XE.tmpl.get e) else t
  if XE.repl_en.get e = 1 then T.group.put (T.multicast.put t 1) (XE.repl_grp.get e) else t

/-- A frame takes the entry's internal priority and meets its meter; frer_fn 3 is reserved and treated as 0 (R115). -/
def Dev.streamMeter (d : Dev) (e : BitVec 128) (len : Nat) (t : Tub) : Tub × Nat × Bool × Dev :=
  let t := if XE.ipv_en.get e = 1 then T.tclass.put t (XE.ipv.get e) else t
  let m := if XE.meter_en.get e = 1 then d.meter (XE.meter_id.get e) len else (0, d)
  if m.1 = 2 || (m.1 = 1 && XE.drop_yellow.get e = 1) then m.2.streamRed t
  else (streamTub e t, XE.frer_fn.get e % 3 * 2 ^ 54 + XE.lode_idx.get e * 2 ^ 29, false, m.2)

/-- A stream entry that was read is applied to its frame. -/
def Dev.streamEntry (d : Dev) (e : BitVec 128) (len : Nat) (t : Tub) : Tub × Nat × Bool × Dev :=
  if XE.valid.get e = 0 then (t, 0, false, d.inc R.ST_SSTAT F.ST_SSTAT_inval)
  else if XE.max_sdu.get e ≠ 0 && XE.max_sdu.get e < len then (t, 0, true, d.inc R.ST_SSTAT F.ST_SSTAT_sdu_drop)
  else if XE.gate_closed.get e = 1 then (t, 0, true, d.inc R.ST_SSTAT F.ST_SSTAT_gate_drop)
  else d.streamMeter e len t

/-- The stream entry of a frame is applied (R116): the tub, word 30's part, and whether the frame is dropped. -/
def Dev.streamApply (d : Dev) (sh len : Nat) (t : Tub) : Tub × Nat × Bool × Dev :=
  let x := d.streamLook sh
  x.2.streamEntry x.1 len t

/-! ## DMA and the lock (R121, R122) -/

/-- The table that ST_DMACTL.tbl names is locked. -/
def Dev.tblLocked (d : Dev) (tbl : Nat) : Bool :=
  d.on R.ST_DMACTL F.ST_DMACTL_lock && d.rd R.ST_DMACTL F.ST_DMACTL_tbl == tbl

def tblSize (tbl : Nat) : Nat := if tbl = 4 then 65536 else 262144

/-- A write of one station entry by DMA or command: the parity is computed afresh. False: skipped for its key. -/
def Dev.stWrite (d : Dev) (p i : Nat) (e : BitVec 128) : Bool × Dev :=
  let mac := SE.mac.get e
  let fid := SE.fid.get e
  let other := match d.stFind p mac fid with
    | some j => j != i
    | none => false
  if seValid e && (stSet mac fid != i / 4 || other) then (false, d)
  else
    let e := seSeal (seClean e)
    let d := d.setStation p i e
    (true, { d with st := { d.st with stationCopy := d.st.stationCopy.set 0 (stKeyOf p i) (if SE.static.get e = 1 && SE.valid.get e = 1 then e else 0) } })

/-- A write of one stream entry. -/
def Dev.streamWrite (d : Dev) (i : Nat) (e : BitVec 128) : Dev :=
  let e := xeSeal (xeClean e)
  let d := d.setStream i e
  { d with st := { d.st with streamCopy := d.st.streamCopy.set 0 i e } }

/-- Move one entry between a table and its place in Seam. -/
def Dev.dmaEntry (d : Dev) (op tbl i addr : Nat) : Dev :=
  if op = 0 then (d.smWrite 6 addr (leBytes 16 (if tbl = 4 then d.streamRaw i else d.station tbl i).toNat)).2
  else
    match d.smRead 6 addr 16 with
    | (.ok bs, d) =>
      let e := BitVec.ofNat 128 (leNat bs)
      if tbl = 4 then
        if d.tblLocked 4 then { d with st := { d.st with staged := d.st.staged ++ [(i, e)] } } else d.streamWrite i e
      else
        match d.stWrite tbl i e with
        | (true, d) => d
        | (false, d) => d.inc R.ST_DMASTAT F.ST_DMASTAT_skip_key
    | (_, d) => d

def Dev.dmaErr (d : Dev) : Dev := d.wr R.ST_DMACTL F.ST_DMACTL_err 1

/-- A start of ST_DMACTL (R121, R122), with the job's fields already in the register: every entry is moved, and busy stays
until ST_DMA_DONE. done counts every entry that the job has visited, skipped and unread ones too (DESIGN CHOICE, log entry 177). -/
def Dev.dmaStart (d : Dev) : Dev :=
  let c := R.ST_DMACTL
  let tbl := d.rd c F.ST_DMACTL_tbl
  let i := d.rd c F.ST_DMACTL_index
  let n := d.rd c F.ST_DMACTL_count
  let op := d.rd c F.ST_DMACTL_op
  if d.on c F.ST_DMACTL_busy || n = 0 || 4 < tbl || tblSize tbl < i + n then d.dmaErr
  else if op = 1 && d.tblLocked 4 && 64 < d.st.staged.length + n then d.dmaErr
  else
    let a := d.rd R.ST_DMAADDR F.ST_DMAADDR_addr * 64
    let d := (List.range n).foldl (fun d k => d.dmaEntry op tbl (i + k) (a + 16 * k)) d
    (d.wr R.ST_DMASTAT F.ST_DMASTAT_done n).wr c F.ST_DMACTL_busy 1

/-- The lock is given up: staged stream entries are applied together. -/
def Dev.unlock (d : Dev) : Dev :=
  let d := d.st.staged.foldl (fun d e => d.streamWrite e.1 e.2) d
  ({ d with st := { d.st with staged := [] } }).wr R.ST_DMACTL F.ST_DMACTL_lock 0

/-- A write of ST_DMACTL with its fields (R121, R122): one that changes tbl under the lock is refused. -/
def Dev.dmaCtlWrite (d : Dev) (v : Word64) : Dev :=
  let c := R.ST_DMACTL
  let d := if F.ST_DMACTL_err.get v = 1 then d.wr c F.ST_DMACTL_err 0 else d
  if d.on c F.ST_DMACTL_lock && F.ST_DMACTL_tbl.get v ≠ d.rd c F.ST_DMACTL_tbl then d.dmaErr
  else
    let was := d.on c F.ST_DMACTL_lock
    let keep := F.ST_DMACTL_start.get v = 1 && d.on c F.ST_DMACTL_busy
    let d := if keep then d else
      [F.ST_DMACTL_count, F.ST_DMACTL_index, F.ST_DMACTL_tbl, F.ST_DMACTL_op].foldl (fun d f => d.wr c f (f.get v)) d
    let d := if F.ST_DMACTL_lock.get v = 1 then d.wr c F.ST_DMACTL_lock 1 else if was then d.unlock else d
    if F.ST_DMACTL_start.get v = 1 then d.dmaStart else d

end Sys2Proof.Machine
end

