-- ==== Sys2Proof/Machine/AsOps.lean ====
section
/-!
DEFINITION. Assay: the recogniser and the fixed region, assayers, the rule search, what a winning rule makes of a frame, rule
versions and rule writes (R73 to R103), as operations.
-/

namespace Sys2Proof.Machine

/-! ## Fixed region of the field vector (R79) -/

def FV.in_port : BF := ⟨1018, 6⟩
def FV.pass : BF := ⟨1016, 2⟩
def FV.etype_off : BF := ⟨1008, 8⟩
def FV.length : BF := ⟨994, 14⟩
def FV.rflags : BF := ⟨976, 16⟩
def FV.appid : BF := ⟨960, 16⟩
def FV.red_seq : BF := ⟨944, 16⟩
def FV.rtag_seq : BF := ⟨928, 16⟩
/-- Layer offset n stands in the low or high byte of chunks 57 and 56. -/
def FV.layer (n : Nat) : BF := ⟨match n with | 0 => 912 | 1 => 920 | 2 => 896 | _ => 904, 8⟩

/-! ## Recognition (R80) -/

/-- Sixteen bits at an offset, in wire order; none past the end. -/
def wire16 (bs : List Byte) (o : Nat) : Option Nat := if o + 2 ≤ bs.length then some (beNat ((bs.drop o).take 2)) else none
def wire8 (bs : List Byte) (o : Nat) : Nat := ((bs.drop o).head?.map (·.toNat)).getD 0x100

def isVlan (e : Option Nat) : Bool := e == some 0x8100 || e == some 0x88A8

/-- What the recogniser finds in a frame without its FCS. -/
structure Recog where
  rflags : Nat
  off : Nat
  appid : Nat
  redSeq : Nat
  rtagSeq : Nat

/-- UDP destination port 319 or 320. -/
def ptpPort (bs : List Byte) (o : Nat) : Bool := wire16 bs o == some 319 || wire16 bs o == some 320

def recognise (bs : List Byte) (winLen : Nat) : Recog :=
  let v1 := isVlan (wire16 bs 12)
  let v2 := v1 && isVlan (wire16 bs 16)
  let o := 12 + 4 * b2n v1 + 4 * b2n v2
  let hsr := wire16 bs o == some 0x892F
  let hsrSeq := (wire16 bs (o + 4)).getD 0
  let o := if hsr then o + 6 else o
  let rtag := wire16 bs o == some 0xF1C1
  let rtagSeq := (wire16 bs (o + 4)).getD 0
  let o := if rtag then o + 6 else o
  let e := wire16 bs o
  let is (x : Nat) := e == some x
  let n := bs.length
  let prp := !hsr && wire16 bs (n - 2) == some 0x88FB && 20 ≤ n
    && (wire16 bs (n - 4)).getD 0 % 4096 == (n - 14 - 4 * b2n v1 - 4 * b2n v2) % 4096
  let udp4 := is 0x0800 && wire8 bs (o + 2) == 0x45 && wire8 bs (o + 11) == 17 && ptpPort bs (o + 24)
  let udp6 := is 0x86DD && wire8 bs (o + 8) == 17 && ptpPort bs (o + 44)
  let mt := wire8 bs (if is 0x88F7 then o + 2 else if udp4 then o + 30 else o + 50)
  let ptp := is 0x88F7
  let evt := (ptp || udp4 || udp6) && mt % 16 ≤ 3 && mt < 256
  let app := if is 0x88B8 || is 0x88BA then (wire16 bs (o + 2)).getD 0 else 0
  let bits := [v1, v2, hsr, prp, rtag, is 0x88B8, is 0x88BA, ptp, udp4, udp6, evt, is 0x0800, is 0x86DD, is 0x8808, false, decide (winLen < 256)]
  { rflags := bits.foldr (fun b a => 2 * a + b2n b) 0, off := o, appid := app
    redSeq := if hsr then hsrSeq else if prp then (wire16 bs (n - 6)).getD 0 else 0
    rtagSeq := if rtag then rtagSeq else 0 }

/-- The whole frame as the pipe sees it, with FCS: on a pass from Eddy, the edited header and the stored frame from byte n (R95). -/
def Frame.seen (f : Frame) : List Byte := if f.pass = 0 then f.data else f.eh ++ f.data.drop f.winLen

/-- The field vector at the start of a parse (R79). -/
def Frame.startFv (f : Frame) : BitVec 1024 :=
  let bs := f.seen
  let r := recognise (bs.take (bs.length - 4)) f.window.length
  let put (x : BF) (v : Nat) (w : BitVec 1024) := x.put w v
  put FV.in_port f.inPort <| put FV.pass f.pass <| put FV.etype_off r.off <| put FV.length bs.length <|
  put FV.rflags r.rflags <| put FV.appid r.appid <| put FV.red_seq r.redSeq <| put FV.rtag_seq r.rtagSeq 0

/-! ## Rule versions (R88 to R92) -/

def Dev.curVer (d : Dev) : Nat := d.rd R.AS_RVER F.AS_RVER_cur_ver
def Dev.curSlot (d : Dev) : Nat := d.rd R.AS_RVER F.AS_RVER_cur_slot
def Dev.stageReady (d : Dev) : Bool := d.on R.AS_RVER F.AS_RVER_stage_ready

/-- A version is live: the current one, or the previous one while it drains. -/
def Dev.verLive (d : Dev) (v : Nat) : Bool :=
  v == d.curVer || (d.on R.AS_RVER F.AS_RVER_prev_live && v == d.rd R.AS_RVER F.AS_RVER_prev_ver)

/-- The version a lookup runs under; a lookup moved to the current version is counted (R92). -/
def Dev.lookupVer (d : Dev) (v : Nat) (retired : Bool) : Nat × Dev :=
  if retired || !d.verLive v then (d.curVer, d.inc R.AS_RSTAT F.AS_RSTAT_ver_forced) else (v, d)

/-- An even version lies in slot A (0), an odd one in slot B (1). -/
def slotOf (ver : Nat) : Nat := ver % 2

/-- Frames in flight in Assay or behind it: accepted, not ended. -/
def Frame.counts (f : Frame) : Bool := !f.retired && f.stage != .wire && f.stage != .held && f.stage != .ending

/-- AS_RVER.commit (R90). -/
def Dev.ruleCommit (d : Dev) : Bool × Dev :=
  if d.on R.AS_RVER F.AS_RVER_prev_live || !d.stageReady then (false, d.wr R.AS_RVER F.AS_RVER_err 1)
  else
    let old := d.curVer
    let n := (d.frames.filter (fun e => e.2.counts && e.2.ver == old)).length
    let d := d.wr R.AS_RVER F.AS_RVER_prev_ver old
    let d := d.wr R.AS_RVER F.AS_RVER_cur_ver ((old + 1) % 16)
    let d := d.wr R.AS_RVER F.AS_RVER_cur_slot (1 - d.curSlot)
    let d := d.wr R.AS_RVER F.AS_RVER_prev_live 1
    let d := d.wr R.AS_RVER F.AS_RVER_stage_ready 0
    (true, d.wr R.AS_RVER F.AS_RVER_prev_cnt n)

/-- AS_RVER.retire (R92): without effect while no previous version is live. -/
def Dev.ruleRetire (d : Dev) : Dev :=
  if !d.on R.AS_RVER F.AS_RVER_prev_live then d
  else
    let old := d.rd R.AS_RVER F.AS_RVER_prev_ver
    let d := { d with frames := d.frames.map (fun (e : Nat × Frame) => (e.1, if e.2.counts && e.2.ver == old then { e.2 with retired := true } else e.2)) }
    (d.wr R.AS_RVER F.AS_RVER_prev_cnt 0).prevEnds

/-- A change takes effect in a pipe (R90, R102). -/
def Dev.commitEffect (d : Dev) (p : Nat) : Dev :=
  if d.as.pipeVer.get 0 p = d.curVer then d
  else ({ d with as := { d.as with pipeVer := d.as.pipeVer.set 0 p d.curVer, ready := d.as.ready.set false p true } }).prevDrain

/-- Where the parse bank of a slot stands. -/
def bankAddr (slot : Nat) : Nat := 0x402000 + slot * 0x1000

/-- The current slot's bank, profiles and visibility bits go into the other slot (R91). -/
def Dev.copySlot (d : Dev) : Dev :=
  let c := d.curSlot
  let s := 1 - c
  let mine := d.mem.filter (fun e => bankAddr c ≤ e.1 && e.1 < bankAddr c + 0x1000)
  let d := d.wipe (bankAddr s) (bankAddr s + 0x1000)
  let d := mine.foldl (fun d e => d.put (e.1 - bankAddr c + bankAddr s) [e.2]) d
  let d := (List.range 256).foldl (fun d i => d.rset (R.AS_KSEL s (i / 32) (i % 32)) (d.rget (R.AS_KSEL c (i / 32) (i % 32)))) d
  { d with as := { d.as with rules := d.as.rules.map (fun e =>
      (e.1, if c = 0 then { e.2 with inB := e.2.inA } else { e.2 with inA := e.2.inB })) } }

/-! ## Rule entries (R83, R89) -/

def Rule.inSlot (r : Rule) (s : Nat) : Bool := if s = 0 then r.inA else r.inB
def Rule.setSlot (r : Rule) (s : Nat) (b : Bool) : Rule := if s = 0 then { r with inA := b } else { r with inB := b }

def Dev.rule (d : Dev) (i : Nat) : Rule := d.as.rules.get {} i
def Dev.setRule (d : Dev) (i : Nat) (r : Rule) : Dev := { d with as := { d.as with rules := d.as.rules.set {} i r } }

/-- The entry as AS_RWIN shows it. -/
def Rule.image (r : Rule) : List Byte :=
  leBytes 64 r.key.toNat ++ leBytes 64 r.mask.toNat ++ leBytes 8 r.action.toNat
    ++ leBytes 4 (b2n r.inA * 2 ^ 31 + b2n r.inB * 2 ^ 30 + r.profile % 8) ++ List.replicate 20 0

def ruleOf (bs : List Byte) : Rule :=
  { key := BitVec.ofNat 512 (leNat (bs.take 64)), mask := BitVec.ofNat 512 (leNat ((bs.drop 64).take 64))
    action := BitVec.ofNat 64 (leNat ((bs.drop 128).take 8)), profile := leNat ((bs.drop 136).take 4) % 8 }

/-! Action fields (R84). -/
def A.sh : BF := ⟨48, 16⟩
def A.sh_valid : BF := ⟨47, 1⟩
def A.eddy : BF := ⟨46, 1⟩
def A.eddy_new : BF := ⟨45, 1⟩
def A.twin : BF := ⟨44, 1⟩
def A.mirror : BF := ⟨40, 4⟩
def A.order_sel : BF := ⟨38, 2⟩
def A.dom : BF := ⟨24, 14⟩
def A.tclass : BF := ⟨21, 3⟩
def A.act : BF := ⟨19, 2⟩
def A.template : BF := ⟨11, 8⟩
def A.learn : BF := ⟨10, 1⟩
def A.fwd_station : BF := ⟨9, 1⟩
def A.queue : BF := ⟨6, 3⟩
def A.dcol : BF := ⟨2, 4⟩

/-- A write of a rule entry (R89): only at an index visible in no live slot, and with an exception code when act = 2. -/
def Dev.ruleWrite (d : Dev) (i : Nat) (r : Rule) : Bool × Dev :=
  let code := A.template.get r.action
  if !d.stageReady || (d.rule i).inSlot d.curSlot || (A.act.get r.action = 2 && !(0x40 ≤ code && code ≤ 0x7F)) then (false, d)
  else (true, d.setRule i { ({ r with inA := false, inB := false } : Rule).setSlot (1 - d.curSlot) true with parity := true })

/-- A write of the staging bit of an entry (R89). -/
def Dev.ruleFlag (d : Dev) (i : Nat) (b : Bool) : Bool × Dev :=
  if !d.stageReady then (false, d) else (true, d.setRule i ((d.rule i).setSlot (1 - d.curSlot) b))

/-- AS_RWIN. -/
def rwinAddr : Nat := 0x401000

/-- A start of AS_RCMD (R89), its fields already in the register. -/
def Dev.rcmdStart (d : Dev) : Dev :=
  let i := d.rd R.AS_RCMD F.AS_RCMD_index
  let (ok, d) :=
    match d.rd R.AS_RCMD F.AS_RCMD_op with
    | 0 => (true, d.put rwinAddr (d.rule i).image)
    | 1 => d.ruleWrite i (ruleOf (d.bytes rwinAddr 160))
    | 2 => d.ruleFlag i (d.on R.AS_RCMD F.AS_RCMD_flag)
    | _ => (false, d)
  if ok then d else d.wr R.AS_RCMD F.AS_RCMD_err 1

/-- A write into a parse bank or a profile is accepted only in the staging slot (R76, R89); a discarded one is counted. -/
def Dev.stageWrite (d : Dev) (slot : Nat) : Bool × Dev :=
  if d.stageReady && slot ≠ d.curSlot then (true, d) else (false, d.inc R.AS_RSTAT F.AS_RSTAT_live_wr)

/-! ## The rule search (R81, R82, R103) -/

/-- The key that a profile builds from a field vector. -/
def Dev.buildKey (d : Dev) (slot prof : Nat) (fv : BitVec 1024) : BitVec 512 :=
  BitVec.ofNat 512 ((List.range 32).foldr (fun c a =>
    let s := R.AS_KSEL slot prof c
    (if d.on s F.AS_KSEL_zero then 0 else bitsOf fv.toNat (16 * d.rd s F.AS_KSEL_src) 16) + 65536 * a) 0)

inductive Search
  | miss
  | hit (i : Nat) (r : Rule)
  | bad (i : Nat)

/-- The matching entry of the lowest index. A parity error in a matching entry below every good one is found (R103). -/
def Dev.searchRules (d : Dev) (slot prof : Nat) (key : BitVec 512) : Search :=
  match d.as.rules.find? (fun e => e.2.inSlot slot && e.2.profile == prof && (key &&& e.2.mask) == (e.2.key &&& e.2.mask)) with
  | none => .miss
  | some (i, r) => if r.parity then .hit i r else .bad i

/-- The Overman rewrites a rule entry from its own copy (R103). -/
def Dev.ruleRepair (d : Dev) (i : Nat) : Dev := d.setRule i { d.rule i with parity := true }

/-- A rule parity exception (R103): recorded, and the entry rewritten. -/
def Dev.ruleBad (d : Dev) (i : Nat) : Dev := ((d.wr R.AS_RSTAT F.AS_RSTAT_bad 1).wr R.AS_RSTAT F.AS_RSTAT_bad_idx i).ruleRepair i

/-! ## What the lookups make of a frame -/

/-- The tub of a frame that leaves its parse, before a rule has filled it (R17 to R19). -/
def Frame.baseTub (f : Frame) (fv : BitVec 1024) : Tub :=
  let rf := FV.rflags.get fv
  let put (x : BF) (v : Nat) (w : Tub) := x.put w v
  let t : Tub := put T.stamp f.stamp <| put T.ts_valid (b2n f.tsValid) <| put T.sec_ok (b2n f.secOk) <|
    put T.ptp_evt (b2n (bitAt rf 10)) <| put T.red_tag (b2n (bitAt rf 2 || bitAt rf 3)) <|
    put T.cell (f.cell.getD 0) <| put T.length f.data.length <| put T.in_port f.inPort <| put T.version f.ver <|
    put T.pass f.pass <| put T.sequence (if f.hasSeq then f.seq else 0) <| put T.domain (if f.hasSeq then f.dom else 0) 0
  ((Tub.setCol t 0).setQueue 0).setDrop 0

/-- Whether a mirror session matches a frame as it comes in (R18, R319): the one its rule names, or its port's imir. -/
def Dev.mirrored (d : Dev) (inPort m : Nat) : Bool :=
  let on (s : Nat) : Bool := s != 0 && d.on (R.XC_MIRSES s) F.XC_MIRSES_en
  on m || on (if inPort < 32 then d.rd (R.XC_PORT inPort) F.XC_PORT_imir else 0)

/-- The tub of a frame that takes an exception, under a rule that names mirror session `m`, or none. -/
def Dev.excTub (d : Dev) (f : Frame) (fv : BitVec 1024) (m : Nat) : Tub := T.mirror.put (f.baseTub fv) (b2n (d.mirrored f.inPort m))

/-- The 14-bit selector of the order domain (R86). -/
def orderSel (act : Word64) (key : BitVec 512) (inPort : Nat) : Nat :=
  let s := match A.order_sel.get act with
    | 0 => crc32c (leBytes 32 key.toNat) % 2 ^ 14
    | 1 => A.dom.get act
    | 2 => inPort
    | _ => A.sh.get act % 2 ^ 14
  if s = 0x3FFF then 0x3FFE else s

/-- The learn request of a frame (R108): its time is set when it enters the queue. -/
def Dev.learnOf (d : Dev) (f : Frame) (p : Nat) (fv : BitVec 1024) (act : Word64) (tclass : Nat) : Option Learn :=
  let sa := d.stSa p fv
  if A.learn.get act = 1 && d.on (R.ST_PCFG p) F.ST_PCFG_learn_en && f.pass = 0 && !groupAddr sa && sa ≠ 0 then
    some { mac := sa, fid := d.stFid p fv, port := f.inPort, tclass := tclass }
  else none

/-- The frame's learn request enters the queue once its FCS is verified good (R108), truncated or not. -/
def Dev.learnTry (d : Dev) (h : Nat) : Dev :=
  let f := d.frame h
  match f.learn with
  | some l => if f.bodyDone then (let d := d.modFrame h (fun f => { f with learn := none }); if f.fcsOk && !f.beyond then d.learnPut f.pipe l else d) else d
  | none => d

/-- A rule with act = 0 (R84, R85, R107, R116). -/
def Dev.ruleJob (d : Dev) (h : Nat) (fv : BitVec 1024) (key : BitVec 512) (act : Word64) : Dev :=
  let f := d.frame h
  let p := f.pipe
  let eddy := A.eddy.get act == 1
  let t := T.tclass.put (T.template.put (f.baseTub fv) (A.template.get act)) (A.tclass.get act)
  let t := (Tub.setCol t (if eddy then 9 else A.dcol.get act)).setQueue (A.queue.get act)
  let t := T.mirror.put t (b2n (d.mirrored f.inPort (A.mirror.get act)))
  let (t, st, d) := if A.fwd_station.get act = 1 && !eddy then d.stForward p f.inPort fv t else (t, 0, d)
  let shv := A.sh_valid.get act == 1
  let (t, w, drop, d) := if shv then d.streamApply (A.sh.get act) f.data.length t else (t, 0, false, d)
  let w30 := st + w + (if shv then A.sh.get act * 2 ^ 13 + 2 ^ 12 else 0)
  let dom := if f.hasSeq then f.dom else orderSel act key f.inPort * 4 + p
  d.modFrame h (fun f => { f with tub := t, dom := dom, dropped := drop, word30 := BitVec.ofNat 64 w30, act := act
                                  twin := A.twin.get act == 1, mirror := A.mirror.get act, eddyNew := A.eddy_new.get act == 1
                                  learn := d.learnOf f p fv act (T.tclass.get t) })

/-- The lookups after DONE (R81, R82, R94, R103). A rule with eddy = 1 whose act is not 0 sends nothing to Eddy, so act decides at every
pass (DESIGN CHOICE, log entry 173). -/
def Dev.classify (d : Dev) (h slot prof : Nat) (fv : BitVec 1024) : Dev :=
  let f := d.frame h
  let key := d.buildKey slot prof fv
  let exc := fun (d : Dev) (c m : Nat) => d.modFrame h (fun f => { f with exc := some c, tub := d.excTub f fv m, mirror := m })
  match d.searchRules slot prof key with
  | .miss => exc d 0x01 0
  | .bad i => exc (d.ruleBad i) 0x08 0
  | .hit i r =>
    let act := r.action
    let ask := d.learnOf f f.pipe fv act (A.tclass.get act)
    let m := A.mirror.get act
    match A.act.get act with
    | 0 => if A.eddy.get act = 1 && f.pass = 2 then (exc d 0x06 m).modFrame h (fun f => { f with learn := ask }) else d.ruleJob h fv key act
    | 2 =>
      (exc d (A.template.get act) m).modFrame h (fun f =>
        { f with learn := ask, tub := Tub.setQueue (T.tclass.put f.tub (A.tclass.get act)) (A.queue.get act) })
    | _ =>
      let d := { d with as := { d.as with dropCnt := d.as.dropCnt.upd 0 (f.pipe * 32768 + i) (fun n => n + 1) } }
      d.modFrame h (fun f => { f with dropped := true, learn := ask })

/-! ## Assayers (R75 to R78) -/

def Assayer.p (x : Assayer) : Nat → BitVec 16
  | 0 => x.p0 | 1 => x.p1 | 2 => x.p2 | _ => x.p3
def Assayer.setP (x : Assayer) (i : Nat) (v : Nat) : Assayer :=
  match i with
  | 0 => { x with p0 := BitVec.ofNat 16 v }
  | 1 => { x with p1 := BitVec.ofNat 16 v }
  | 2 => { x with p2 := BitVec.ofNat 16 v }
  | _ => { x with p3 := BitVec.ofNat 16 v }

def asKey (p a : Nat) : Nat := p * 16 + a

/-- The word an assayer runs next. -/
def Dev.asWord (d : Dev) (x : Assayer) : Nat := d.load (bankAddr (slotOf x.ver) + 4 * x.pc) 4

def Dev.stepMax (d : Dev) (p : Nat) : Nat := (d.rd (R.AS_PCFG p) F.AS_PCFG_step_max).max 1

/-- How an instruction ends: the program goes on, the parse ends in an exception, or successfully. -/
inductive AsEnd
  | go (x : Assayer)
  | exc (code : Nat)
  | done

/-- The parse has ended: the assayer is free and the frame keeps its field vector. -/
def Dev.parseLeave (d : Dev) (k : Nat) (x : Assayer) : Dev :=
  let d := { d with as := { d.as with assayers := d.as.assayers.del k } }
  let fv := x.fv
  let w := FV.rflags.get fv + FV.appid.get fv * 2 ^ 16 + FV.red_seq.get fv * 2 ^ 32 + FV.rtag_seq.get fv * 2 ^ 48
  d.modFrame x.frame (fun f => { f with stage := .parsed, fv := fv, word31 := BitVec.ofNat 64 w })

/-- The parse ends in an exception (R78). -/
def Dev.parseFail (d : Dev) (k : Nat) (x : Assayer) (code : Nat) : Dev :=
  ((d.parseLeave k x).inc (R.AS_PSTAT (k / 16)) F.AS_PSTAT_fail_cnt).modFrame x.frame (fun f =>
    { f with exc := some code, tub := d.excTub f x.fv 0, mirror := 0 })

/-- One assayer instruction of opcode `op`: it runs if the assayer's next word is one and its steps have not run out. -/
def Dev.assay (d : Dev) (p a op : Nat) (f : Nat → Assayer → AsEnd) : Dev :=
  let k := asKey p a
  match d.as.assayers.find k with
  | none => d
  | some x =>
    let w := d.asWord x
    if w / 2 ^ 28 ≠ op || d.stepMax p ≤ x.steps then d
    else
      let x := { x with steps := x.steps + 1 }
      match f w x with
      | .go y => { d with as := { d.as with assayers := d.as.assayers.put k y } }
      | .exc c => d.parseFail k x c
      | .done =>
        let d := d.parseLeave k x
        (d.classify x.frame (slotOf x.ver) x.prof x.fv).learnTry x.frame

/-- On to the next word. After word 1023 comes word 0 (DESIGN CHOICE, log entry 174). -/
def Assayer.next (x : Assayer) : Assayer := { x with pc := (x.pc + 1) % 1024 }
def Assayer.goto (x : Assayer) (t : Nat) : Assayer := { x with pc := t % 1024 }

/-- A branch (R77). -/
def asBranch (w : Nat) (x : Assayer) (cond : Nat → Nat → Bool) : AsEnd :=
  .go (if cond (x.p (bitsOf w 26 2)).toNat (bitsOf w 10 16) then x.goto (bitsOf w 0 10) else x.next)

end Sys2Proof.Machine
end

