-- ==== Sys2Proof/Machine/MemIns.lean ====
section
/-!
DEFINITION. Loads and stores of the threads, the store buffer and the long loads (R150, R151, R182, R187 to R191).
-/

namespace Sys2Proof.Machine

/-- A loaded value in its register: `sx` extends the sign (R183). -/
def loaded (bs : List Byte) (sx : Bool) : Word32 := if sx then signed32 (8 * bs.length) (leNat bs) else BitVec.ofNat 32 (leNat bs)

/-- The checks of an access at issue (R150, R179, R189, R191, R501): the address, or why it does not go. -/
def Dev.access (d : Dev) (k : Nat) (t0 : Thread) (b n : Nat) (store : Bool) (dst : Option Nat) : Except Act (Nat × Place) :=
  let ag := t0.agMode b != 0
  let w := t0.fetched.toNat
  if ag && !t0.ext.isEmpty then .error (.fault 1 w)
  else if ag && dst == some b then .error (.fault 1 w)
  else
    let a := t0.ea b
    match d.place k a with
    | none => .error (.fault 2 a)
    | some p =>
      if a % n ≠ 0 then .error (.fault 3 a)
      else if d.watchHit k a store && !t0.stepping then .error .watch
      else .ok (a, p)

/-- log2 of an access size. -/
def sizeLog (n : Nat) : Nat := if n = 4 then 2 else if n = 2 then 1 else 0

/-- A long load issues: its register is marked, and its bytes are forwarded, read, or wait for a store (R187). -/
def Dev.longLoad (d : Dev) (k : Nat) (t0 : Thread) (dst a n : Nat) (sx : Bool) (p : Place) : Dev :=
  let base : LongLoad := { dst := dst, addr := a, code := p.code, size := n, signed := sx, pc := t0.pc.toNat }
  let add (l : LongLoad) (d : Dev) : Dev := d.modThr k (fun t => { t.mark dst true with loads := t.loads ++ [l] })
  match youngest t0.sb p.code n with
  | some (i, .store x bs) =>
    match forward p.code n x bs with
    | some f => add { base with data := some f } d
    | none => add { base with held := i } d
  | _ =>
    let (bs, bad, d) := d.loadBytes k p n
    add { base with data := some bs, bad := bad } d

/-- A load (R183): `size` is the code in bits [9:8], `n` its bytes. -/
def Dev.loadIns (d : Dev) (k size n : Nat) (sx : Bool) (dst b : Nat) : Dev :=
  d.issue k 0x3FFF (0x2000 + size * 256 + dst * 16 + b) 1 [dst, b] true (fun t0 d =>
    match d.access k t0 b n false (some dst) with
    | .error a => a
    | .ok (a, p) =>
      let step (d : Dev) : Dev := d.modThr k (fun t => t.agStep b (sizeLog n))
      match p with
      | .priv _ =>
        let (bs, bad, d) := d.loadBytes k p n
        if bad then .fault 4 a else .go (step (d.modThr k (fun t => t.setReg dst (loaded bs sx))))
      | .gl o =>
        let (v, d) := d.supLoad (k / 64) o n
        .go (step (d.modThr k (fun t => t.setReg dst (loaded (leBytes n v) sx))))
      | _ => .go (step (d.longLoad k t0 dst a n sx p)))

/-- A store (R183): private stores are performed at once, GL stores once the buffer is empty, the others are buffered
(R182, R187). -/
def Dev.storeIns (d : Dev) (k size n src b : Nat) : Dev :=
  d.issue k 0x3FFF (0x2400 + size * 256 + src * 16 + b) 1 [src, b] true (fun t0 d =>
    match d.access k t0 b n true none with
    | .error a => a
    | .ok (_, p) =>
      let bs := leBytes n (t0.reg src).toNat
      let step (d : Dev) : Dev := d.modThr k (fun t => t.agStep b (sizeLog n))
      match p with
      | .priv _ => .go (step (d.storeBytes k p bs))
      | .gl o => if t0.sb.isEmpty then .go ((step d).supStore (k / 64) o n (leNat bs)) else .stall 4
      | _ =>
        if 4 ≤ t0.sb.length then .stall 1
        else .go (step (d.modThr k (fun t => { t with sb := t.sb ++ [.store p.code bs] }))))

/-- LDB d, [b] (R183). -/
def execLdb (k : Fin 1664) (dst b : Fin 16) (s : State) : Outc := s.go (fun d => d.loadIns k 0 1 false dst b)
/-- LDH d, [b]. -/
def execLdh (k : Fin 1664) (dst b : Fin 16) (s : State) : Outc := s.go (fun d => d.loadIns k 1 2 false dst b)
/-- LDW d, [b]. -/
def execLdw (k : Fin 1664) (dst b : Fin 16) (s : State) : Outc := s.go (fun d => d.loadIns k 2 4 false dst b)
/-- LDHS d, [b]. -/
def execLdhs (k : Fin 1664) (dst b : Fin 16) (s : State) : Outc := s.go (fun d => d.loadIns k 3 2 true dst b)
/-- STB s, [b]. -/
def execStb (k : Fin 1664) (src b : Fin 16) (s : State) : Outc := s.go (fun d => d.storeIns k 0 1 src b)
/-- STH s, [b]. -/
def execSth (k : Fin 1664) (src b : Fin 16) (s : State) : Outc := s.go (fun d => d.storeIns k 1 2 src b)
/-- STW s, [b]. -/
def execStw (k : Fin 1664) (src b : Fin 16) (s : State) : Outc := s.go (fun d => d.storeIns k 2 4 src b)

/-! ## The return of results -/

/-- A corrected or an uncorrectable error in a gallery memory (R151): source 6 when corr crosses 1,024. -/
def Dev.galEcc (d : Dev) (g : Nat) (e : MemEcc) : Dev :=
  match e with
  | .good => d
  | .corrected =>
    let was := d.rd (R.GL_ECC g) F.GL_ECC_corr
    let d := d.inc (R.GL_ECC g) F.GL_ECC_corr
    if was = 1023 then d.pendSource (supOf g) 6 else d
  | .lost => d.inc (R.GL_ECC g) F.GL_ECC_uncorr

/-- The returned load's thread goes on, or faults with the load's own pc and address (R191). -/
def Dev.loadReturn (d : Dev) (k : Nat) (l : LongLoad) (bs : List Byte) (bad : Bool) : Dev :=
  let d := d.modThr k (fun t => { t with loads := t.loads.erase l })
  if bad then d.faultThread k 4 l.addr l.pc
  else ((d.modThr k (fun t => (t.setReg l.dst (loaded bs l.signed)).mark l.dst false)).wakeThread k).drainCheck k

/-- LONG_LOAD_RETURN (R191): one of a thread's long loads, with what the memory's ECC showed. A thread in HOLD takes no
fault before its resume (R160). -/
def execLongLoadReturn (k : Fin 1664) (n : Fin 16) (ecc : MemEcc) (s : State) : Outc := s.go (fun d =>
  match (d.thr k).loads[n.val]? with
  | none => d
  | some l =>
    match l.data with
    | none => d
    | some bs =>
      let bad := l.bad || ecc == .lost
      if bad && (d.thr k).st == .hold then d
      else (d.galEcc (k / 64) ecc).loadReturn k l bs bad)

end Sys2Proof.Machine
end

