-- ==== Sys2Proof/Machine/Token.lean ====
section
/-!
DEFINITION. The Token board's operations, its commands, the store buffer's head, and the Doldrums detector (R186, R187,
R266 to R287).
-/

namespace Sys2Proof.Machine

/-- What a Token-board operation comes to. -/
inductive TokRes
  | done (v : Nat)
  | sleep (w : TokWait)
  | rank (detail : Nat)

/-- A status that TK_STAT counts (R267). -/
def Dev.tokStatus (d : Dev) (c : Nat) : TokRes × Dev :=
  (.done c, match c with
    | 3 => d.inc R.TK_STAT F.TK_STAT_denied
    | 5 => d.inc R.TK_STAT F.TK_STAT_no_room
    | 7 => d.inc R.TK_STAT F.TK_STAT_bad_arg
    | _ => d)

/-- LKA and LKT (R268, R269, R273). -/
def Dev.lockAcquire (d : Dev) (k v r : Nat) (wait : Bool) : TokRes × Dev :=
  if 2 ^ 12 ≤ v then d.tokStatus 7
  else if !d.groupAllows v (k / 64) then d.tokStatus 3
  else if !d.rankOk k (d.lockRank v) then (.rank v, d.inc R.TK_STAT F.TK_STAT_rank_flt)
  else
    let l := d.lock v
    if l.held then
      if wait then (.sleep (.lock v r), d.setLock v { l with waiters := l.waiters ++ [(k, r)] }) else (.done 1, d)
    else (.done (if l.abandoned then 2 else 0), d.setLock v { held := true, owner := k })

/-- A release record for a release by a thread (R274, R279). -/
def Dev.releaseNote (d : Dev) (k : Nat) (jobHeld : Bool) (owner kind ident : Nat) : Dev :=
  if jobHeld || owner != k then d.relRecord 0 kind k (recOwner jobHeld owner) ident
  else if d.on R.TK_CFG F.TK_CFG_rec_all then d.relRecord 1 kind k owner ident
  else d

/-- LKR (R269, R274). -/
def Dev.lockRelease (d : Dev) (k v : Nat) : Nat × Dev :=
  if 2 ^ 12 ≤ v then (7, (d.tokStatus 7).2)
  else if !d.groupAllows v (k / 64) then (3, (d.tokStatus 3).2)
  else
    let l := d.lock v
    if !l.held then (4, d) else (0, (d.releaseNote k l.jobHeld l.owner 0 v).passLock v false)

/-- The identity of a lock word (R266, R279); none for a bad address. -/
def Dev.lockWord (d : Dev) (k v : Nat) : Option Nat :=
  if v % 4 ≠ 0 then none
  else
    match d.place k v with
    | some (.shared _) => some (wordKey true (k / 64) v)
    | some (.ddr a) => some (wordKey false 0 a)
    | _ => none

/-- The lock word cannot be read: an uncorrectable error, poison, or fence status (R272). -/
def Dev.lockWordBad (d : Dev) (k key : Nat) : Bool :=
  if 2 ^ 38 ≤ key then d.wordBad (k / 64) (wordMem key) 4 else d.smFenced key 4 || (burstsOf key 4).any d.burstBad

/-- WLA and WLT (R271). -/
def Dev.wordAcquire (d : Dev) (k v r : Nat) (wait : Bool) : TokRes × Dev :=
  match d.lockWord k v with
  | none => d.tokStatus 7
  | some key =>
    if d.lockWordBad k key then d.tokStatus 7
    else
      if !d.rankOk k (d.wordRank key) then (.rank v, d.inc R.TK_STAT F.TK_STAT_rank_flt)
      else
        match d.word key with
        | some e =>
          if wait then (.sleep (.word key r), d.setWord key (some { e with waiters := e.waiters ++ [(k, r)] }))
          else (.done 1, d)
        | none =>
          if 2048 ≤ d.tk.words.length then d.tokStatus 5
          else (.done (if bitAt (d.load (wordMem key) 4) 24 then 2 else 0),
            (d.setWord key (some { owner := k })).putWord key (wordBits true false false k))

/-- WLR (R271, R274). -/
def Dev.wordRelease (d : Dev) (k v : Nat) : Nat × Dev :=
  match d.lockWord k v with
  | none => (7, (d.tokStatus 7).2)
  | some key =>
    if d.lockWordBad k key then (7, (d.tokStatus 7).2)
    else
      match d.word key with
      | none => (4, d)
      | some w => (0, (d.releaseNote k w.jobHeld w.owner (wordKind key) (wordIdent key)).passWord key w false)

def Dev.pendEvents (d : Dev) (k : Nat) : BitVec 16 := d.tk.events.get 0 k
def Dev.setEvents (d : Dev) (k : Nat) (e : BitVec 16) : Dev := { d with tk := { d.tk with events := d.tk.events.set 0 k e } }

/-- EVW (R280). -/
def Dev.eventWait (d : Dev) (k v r : Nat) : TokRes × Dev :=
  let m := v % 2 ^ 16
  if 2 ^ 28 ≤ v || m = 0 then d.tokStatus 7
  else
    let e := (d.pendEvents k).toNat
    let got := e &&& m
    if got ≠ 0 then (.done (got * 2 ^ 16), d.setEvents k (BitVec.ofNat 16 (e - got)))
    else (.sleep (.event m r (bitsOf v 16 12 != 0)), d)

/-- EVS (R280). -/
def Dev.eventSignal (d : Dev) (v : Nat) : Nat × Dev :=
  let t := v % 2 ^ 11
  if bitsOf v 11 5 ≠ 0 || 1663 < t then (7, (d.tokStatus 7).2)
  else
    let e := (d.pendEvents t ||| BitVec.ofNat 16 (bitsOf v 16 16)).toNat
    match (d.thr t).wait with
    | some (.event m r _) =>
      let got := e &&& m
      if got ≠ 0 then (0, (d.setEvents t (BitVec.ofNat 16 (e - got))).tokDone t r (got * 2 ^ 16))
      else (0, d.setEvents t (BitVec.ofNat 16 e))
    | _ => (0, d.setEvents t (BitVec.ofNat 16 e))

/-- CHP (R281). -/
def Dev.chanPut (d : Dev) (k v : Nat) : TokRes × Dev :=
  let s := d.tk.staging.get [] k
  if 16 ≤ s.length then (.done 1, d)
  else (.done 0, { d with tk := { d.tk with staging := d.tk.staging.set [] k (s ++ [BitVec.ofNat 32 v]) } })

/-- A channel is enabled and its mask has the gallery (R267). -/
def Dev.chanAllows (d : Dev) (c g : Nat) : Bool :=
  d.rd (R.TK_CHAN c) F.TK_CHAN_depth != 0 && bitAt (d.rd (R.TK_CHAN c) F.TK_CHAN_gal_mask) g

def Dev.chan (d : Dev) (c : Nat) : List (List Word32) := d.tk.chans.get [] c
def Dev.setChan (d : Dev) (c : Nat) (l : List (List Word32)) : Dev :=
  ({ d with tk := { d.tk with chans := d.tk.chans.set [] c l } }).wr (R.TK_CHAN c) F.TK_CHAN_count l.length

/-- Read a word of the head message of a channel that holds one, removing the message with `pop` (R282). -/
def Dev.chanRead (d : Dev) (c i : Nat) (pop : Bool) : Nat × Dev :=
  let l := d.chan c
  let v := (((l.headD []).getD i 0)).toNat
  (v, if pop then d.setChan c (l.drop 1) else d)

/-- A commit wakes the oldest sleeping receiver. -/
def Dev.chanWake (d : Dev) (c : Nat) : Dev :=
  match d.tk.receivers.get [] c with
  | [] => d
  | k :: rest =>
    let d := { d with tk := { d.tk with receivers := d.tk.receivers.set [] c rest } }
    match (d.thr k).wait with
    | some (.channel _ i pop r) => let (v, d) := d.chanRead c i pop; d.tokDone k r v
    | _ => d

/-- CHC (R281). -/
def Dev.chanCommit (d : Dev) (k v : Nat) : Nat × Dev :=
  let s := d.tk.staging.get [] k
  if 2 ^ 10 ≤ v then (7, (d.tokStatus 7).2)
  else if !d.chanAllows v (k / 64) then (3, (d.tokStatus 3).2)
  else if s.isEmpty then (7, (d.tokStatus 7).2)
  else if d.rd (R.TK_CHAN v) F.TK_CHAN_depth ≤ (d.chan v).length then (1, d)
  else (0, ((d.setChan v (d.chan v ++ [s])).dropStaging k).chanWake v)

/-- CHG (R282): refusals return zero. -/
def Dev.chanGet (d : Dev) (k v r : Nat) : TokRes × Dev :=
  let c := v % 2 ^ 10
  let i := bitsOf v 10 4
  let pop := bitAt v 14
  if 2 ^ 15 ≤ v then (.done 0, (d.tokStatus 7).2)
  else if !d.chanAllows c (k / 64) then (.done 0, (d.tokStatus 3).2)
  else if (d.chan c).isEmpty then
    (.sleep (.channel c i pop r), { d with tk := { d.tk with receivers := d.tk.receivers.set [] c (d.tk.receivers.get [] c ++ [k]) } })
  else let (x, d) := d.chanRead c i pop; (.done x, d)

/-- A release-kind operation takes effect (R186). -/
def Dev.tokRelease (d : Dev) (k f v : Nat) : Nat × Dev :=
  match f with
  | 2 => d.lockRelease k v
  | 5 => d.wordRelease k v
  | 7 => d.eventSignal v
  | _ => d.chanCommit k v

/-- An operation of another kind. -/
def Dev.tokAct (d : Dev) (k f v r : Nat) : TokRes × Dev :=
  match f with
  | 0 => d.lockAcquire k v r true
  | 1 => d.lockAcquire k v r false
  | 3 => d.wordAcquire k v r true
  | 4 => d.wordAcquire k v r false
  | 6 => d.eventWait k v r
  | 8 => d.chanPut k v
  | _ => d.chanGet k v r

/-- TOK f, r (R186, R187). A release waits for the stores before it, its register marked; a later TOK waits for it. -/
def Dev.tokIns (d : Dev) (k f r : Nat) : Dev :=
  d.issue k 0x3FFF (0x3300 + f * 16 + r) 1 [r] false (fun t0 d =>
    let v := (t0.reg r).toNat
    let write (x : Nat) (d : Dev) : Act := .go (d.modThr k (fun t => t.setReg r (BitVec.ofNat 32 x)))
    if t0.rel.isSome then .stall 5
    else if f = 2 || f = 5 || f = 7 || f = 9 then
      if t0.sb.isEmpty then let (x, d) := d.tokRelease k f v; write x d
      else .go (d.modThr k (fun t => { t.mark r true with rel := some (f, v, r, t0.sb.length) }))
    else
      match d.tokAct k f v r with
      | (.done x, d) => write x d
      | (.sleep w, d) =>
        .go ((d.modThr k (fun t => if t.st = .hold then { t with heldFrom := .sleep, wait := some w } else { t with st := .sleep, wait := some w })).galTrace k 3 t0.pc.toNat)
      | (.rank x, d) => .rank d x)

/-- TOK LKA (R269). -/
def execLka (k : Fin 1664) (r : Fin 16) (s : State) : Outc := s.go (fun d => d.tokIns k 0 r)
/-- TOK LKT. -/
def execLkt (k : Fin 1664) (r : Fin 16) (s : State) : Outc := s.go (fun d => d.tokIns k 1 r)
/-- TOK LKR. -/
def execLkr (k : Fin 1664) (r : Fin 16) (s : State) : Outc := s.go (fun d => d.tokIns k 2 r)
/-- TOK WLA. -/
def execWla (k : Fin 1664) (r : Fin 16) (s : State) : Outc := s.go (fun d => d.tokIns k 3 r)
/-- TOK WLT. -/
def execWlt (k : Fin 1664) (r : Fin 16) (s : State) : Outc := s.go (fun d => d.tokIns k 4 r)
/-- TOK WLR. -/
def execWlr (k : Fin 1664) (r : Fin 16) (s : State) : Outc := s.go (fun d => d.tokIns k 5 r)
/-- TOK EVW. -/
def execEvw (k : Fin 1664) (r : Fin 16) (s : State) : Outc := s.go (fun d => d.tokIns k 6 r)
/-- TOK EVS. -/
def execEvs (k : Fin 1664) (r : Fin 16) (s : State) : Outc := s.go (fun d => d.tokIns k 7 r)
/-- TOK CHP. -/
def execChp (k : Fin 1664) (r : Fin 16) (s : State) : Outc := s.go (fun d => d.tokIns k 8 r)
/-- TOK CHC. -/
def execChc (k : Fin 1664) (r : Fin 16) (s : State) : Outc := s.go (fun d => d.tokIns k 9 r)
/-- TOK CHG. -/
def execChg (k : Fin 1664) (r : Fin 16) (s : State) : Outc := s.go (fun d => d.tokIns k 10 r)

/-- EVW_TIMEOUT (R280): status 6, with nothing taken. -/
def execEvwTimeout (k : Fin 1664) (s : State) : Outc := s.go (fun d =>
  match (d.thr k).wait with
  | some (.event _ r true) => d.tokDone k r 6
  | _ => d)

/-! ## The store buffer's head (R187, R203) -/

/-- One entry has left the head: loads and a release that waited on it come nearer. -/
def Dev.afterPerform (d : Dev) (k : Nat) : Dev :=
  let d := d.modThr k (fun t => { t with loads := t.loads.map (fun l => if l.data.isNone then { l with held := l.held - 1 } else l)
                                         rel := t.rel.map (fun x => (x.1, x.2.1, x.2.2.1, x.2.2.2 - 1)) })
  let d := (d.thr k).loads.foldl (fun d l =>
    if l.data.isNone && l.held == 0 then
      let (bs, bad, d) := d.loadBytes k (placeOf l.code) l.size
      d.modThr k (fun t => { t with loads := t.loads.map (fun y => if y = l then { y with data := some bs, bad := bad } else y) })
    else d) d
  match (d.thr k).rel with
  | some (f, v, r, 0) =>
    let (x, d) := d.tokRelease k f v
    -- a thread that has stopped since takes no status (R191)
    d.modThr k (fun t => { (if t.st = .fault then t else (t.setReg r (BitVec.ofNat 32 x)).mark r false) with rel := none })
  | _ => d

/-- STORE_PERFORM (R187, R203): the head store is performed, or the head CP2 operation has read its argument block. -/
def execStorePerform (k : Fin 1664) (s : State) : Outc := s.go (fun d =>
  let t := d.thr k
  match t.sb with
  | [] => d
  | e :: rest =>
    let d := (d.setThr k { t with sb := rest }).performEntry k e
    ((d.afterPerform k).wakeThread k).drainCheck k)

/-! ## Forced release, channels, reclaim (R277, R278, R283) -/

/-- TK_FREL (R277): the lock is released as abandoned. -/
def Dev.forceRelease (d : Dev) (n : Nat) : Dev := d.abandonLock n 4

/-- A write of TK_CHAN is refused: the sum of the depths, a depth changed while the channel holds words, a depth above 64. -/
def Dev.chanBad (d : Dev) (c : Nat) (v : Word64) : Bool :=
  let dep := F.TK_CHAN_depth.get v
  let old := d.rd (R.TK_CHAN c) F.TK_CHAN_depth
  let sum := ((List.range 1024).map (fun i => d.rd (R.TK_CHAN i) F.TK_CHAN_depth)).sum
  (decide (8192 < sum - old + dep) && decide (old < dep)) || (dep != old && d.rd (R.TK_CHAN c) F.TK_CHAN_count != 0) || decide (64 < dep)

/-- A write of TK_CHAN as it takes effect (R283). -/
def Dev.chanWrite (d : Dev) (c : Nat) (v : Word64) : Dev :=
  let r := R.TK_CHAN c
  let dep := (F.TK_CHAN_depth.get v)
  if d.chanBad c v then d.wr R.TK_CFG F.TK_CFG_err 1
  else (d.wr r F.TK_CHAN_depth dep).wr r F.TK_CHAN_gal_mask (F.TK_CHAN_gal_mask.get v)

/-- The Token board's reclaim of a gallery (R278). -/
def Dev.tokenReclaim (d : Dev) (g : Nat) : Dev :=
  let ks := (List.range 64).map (· + g * 64)
  let d := ks.foldl Dev.withdraw d
  let d := ks.foldl Dev.dropStaging d
  let d := d.abandonWhere 5 (fun j o => if j then o / 2048 == g else o / 64 == g)
  ks.foldl (fun d k => d.setEvents k 0) d

/-- TOKEN_RECLAIM (R278): a fenced gallery, after Hoist (R407). -/
def execTokenReclaim (g : Fin 26) (s : State) : Outc :=
  s.go (fun d => if d.reclaiming g 1 then (d.tokenReclaim g).reclaimNext else d)

/-! ## The Doldrums detector (R284, R285) -/

/-- The wait group of a thread. -/
def Dev.waitGroup (d : Dev) (k : Nat) : Nat := bitsOf (d.rd (R.TK_WGRP (k / 64) (k / 8 % 8)) F.TK_WGRP_group) (3 * (k % 8)) 3

/-- The threads of a gallery's group. -/
def Dev.groupOf (d : Dev) (g w : Nat) : List Nat :=
  ((List.range 64).map (· + g * 64)).filter (fun k => !isSup k && d.waitGroup k == w)

/-- A helper or delay node of the thread's job is outstanding. -/
def Dev.jobWaits (d : Dev) (k : Nat) : Bool :=
  match (d.thr k).node with
  | none => false
  | some r =>
    let j := jobKey (k / 64) r.slot
    match d.dr.jobs.find j with
    | none => false
    | some x => d.gen j == r.gen && x.out.any (fun o => let kd := ND.kind (d.tmplNode x.tmpl o.1); 1 ≤ kd && kd ≤ 6)

/-- A watched group is idle (R284). A group without a thread is not (DEDUCED, log entry 34). -/
def Dev.groupIdle (d : Dev) (g w : Nat) : Bool :=
  let ks := d.groupOf g w
  decide (w < 7) && !ks.isEmpty && ks.all (fun k =>
    let t := d.thr k
    t.st == .sleep && (match t.wait with | some (.event _ _ true) => false | _ => true) && !d.jobWaits k && t.ops.all (·.dead))

/-- DOLDRUMS_FIRE (R284): the group has been idle for thr_us. -/
def execDoldrumsFire (g : Fin 26) (w : Fin 8) (s : State) : Outc := s.go (fun d =>
  let r := R.TK_DOLSTAT g
  if d.on (R.TK_DOLCFG g) F.TK_DOLCFG_en && d.groupIdle g w && !bitAt (d.rd r F.TK_DOLSTAT_fired) w then
    ((d.wr r F.TK_DOLSTAT_fired (withBit (d.rd r F.TK_DOLSTAT_fired) w true)).inc r F.TK_DOLSTAT_fire_cnt).pendSource (supOf g) 3
  else d)

/-- DOLDRUMS_ANSWER (R285): ones written to fired clear it. -/
def execDoldrumsAnswer (g : Fin 26) (mask : BitVec 8) (s : State) : Outc := s.go (fun d =>
  let r := R.TK_DOLSTAT g
  d.wr r F.TK_DOLSTAT_fired (d.rd r F.TK_DOLSTAT_fired &&& (255 - mask.toNat)))

/-- A doldrums escalation kills the group's threads and is recorded (R285). -/
def Dev.escalate (d : Dev) (g w : Nat) : Dev :=
  let r := R.TK_DOLSTAT g
  let e := (d.inc r F.TK_DOLSTAT_esc_cnt).event 0x31 g w
  let e := (e.groupOf g w).reverse.foldl (fun d k => d.killThread k 9) e
  let e := e.tally 0x0602 g [w]
  (e.wr r F.TK_DOLSTAT_fired (withBit (e.rd r F.TK_DOLSTAT_fired) w false)).wr r F.TK_DOLSTAT_escalated
    (withBit (e.rd r F.TK_DOLSTAT_escalated) w false)

/-- DOLDRUMS_ESCALATE (R285): the Overman is notified and kills the group's threads, highest first. -/
def execDoldrumsEscalate (g : Fin 26) (w : Fin 8) (s : State) : Outc := s.go (fun d =>
  if !bitAt (d.rd (R.TK_DOLSTAT g) F.TK_DOLSTAT_fired) w || (d.thr (supOf g)).st == .hold then d
  else d.escalate g w)

end Sys2Proof.Machine
end

