-- ==== Sys2Proof/Machine/Coproc.lean ====
section
/-!
DEFINITION. The coprocessors CP0, CP1, CP2, late errors, and the Face tile CP3 (R193 to R213).
-/

namespace Sys2Proof.Machine

/-! ## Cosine and sine (R201) -/

/-- The series sum of first − first·x²/((k+1)(k+2)) + …, in units of 2^-80. -/
def series (t2 : Int) : Nat → Nat → Int → Int
  | 0, _, _ => 0
  | n + 1, k, term => term + series t2 n (k + 2) (-(term * t2 / 2 ^ 80 / ((k + 1) * (k + 2))))

/-- Cosine and sine of a phase of 2^-16 turn, in units of 2^-80. -/
def cosSin (p : Nat) : Int × Int :=
  let th : Int := (p % 16384 * 1898976236818169290393997 / 16384 : Nat)
  let t2 := th * th / 2 ^ 80
  let c := series t2 15 0 (2 ^ 80)
  let s := series t2 15 1 th
  match p / 16384 % 4 with
  | 0 => (c, s)
  | 1 => (-s, c)
  | 2 => (-c, -s)
  | _ => (s, -c)

/-- round(131,071 × x) for x in units of 2^-80. -/
def roundUnit (x : Int) : Int := (2 * 131071 * x + 2 ^ 80) / 2 ^ 81

/-- C(PH) and S(PH). -/
def phaseC (ph : Word32) : Int := roundUnit (cosSin (ph.toNat / 65536)).1
def phaseS (ph : Word32) : Int := roundUnit (cosSin (ph.toNat / 65536)).2

/-- Clamp to the signed range of `w` bits, and whether it clamped. -/
def clampTo (w : Nat) (x : Int) : Int × Bool :=
  if x < -(2 ^ (w - 1)) then (-(2 ^ (w - 1)), true) else if 2 ^ (w - 1) ≤ x then (2 ^ (w - 1) - 1, true) else (x, false)

/-! ## CP0 (R199, R200) -/

/-- Initial ACC of a function. -/
def cp0Init (f : Nat) : Word32 := if f = 2 then 0 else 0xFFFFFFFF

/-- Ones'-complement addition into the accumulator. -/
def onesAdd (acc : Word32) (x : Nat) : Word32 :=
  let s := acc.toNat + x
  BitVec.ofNat 32 (if 2 ^ 32 ≤ s then s - 2 ^ 32 + 1 else s)

/-- Absorb one byte. -/
def Cp0.absorb (c : Cp0) (b : Byte) : Cp0 :=
  match c.fsel with
  | 1 => { c with acc := BitVec.ofNat 32 (crcByte 0xEDB88320 c.acc.toNat b) }
  | 2 => { c with acc := onesAdd c.acc (if c.odd then b.toNat else b.toNat * 256), odd := !c.odd }
  | _ => { c with acc := BitVec.ofNat 32 (crcByte 0x82F63B78 c.acc.toNat b) }

/-- Fold a sum to 16 bits. -/
def fold16 (x : Nat) : Nat :=
  let x := x / 65536 + x % 65536
  x / 65536 + x % 65536

/-- What FIN returns. -/
def Cp0.fin (c : Cp0) : Word32 :=
  if c.poison then 0
  else if c.fsel = 2 then BitVec.ofNat 32 (65535 - fold16 c.acc.toNat)
  else c.acc ^^^ 0xFFFFFFFF

/-- A CP0 or CP1 instruction on register `r`: it waits for r and its partner (R193, R194). `code` is its word without r;
`mask` tells the bits that count. -/
def Dev.cpIns (d : Dev) (k mask code r : Nat) (f : Thread → Dev → Act) : Dev :=
  d.issue k mask (code + r) 1 [r, r ^^^ 1] false f

/-- A CP0 or CP1 instruction whose result `v` comes to its register `lat` cycles after its issue (R200, R201). -/
def Dev.cpResult (d : Dev) (k code r lat : Nat) (v : Thread → Word32) : Dev :=
  d.cpIns k 0x3FFF code r (fun t0 d => .go ((d.modThr k (fun t => t.setReg r (v t0))).later k lat [r]))

def Dev.modCp0 (d : Dev) (k : Nat) (f : Cp0 → Cp0) : Dev := d.modThr k (fun t => { t with cp0 := f t.cp0 })
def Dev.modCp1 (d : Dev) (k : Nat) (f : Cp1 → Cp1) : Dev := d.modThr k (fun t => { t with cp1 := f t.cp1 })

def Cp0.absorbs (c : Cp0) (bs : List Byte) : Cp0 := bs.foldl Cp0.absorb c

/-- SEL r (R200). -/
def execSel (k : Fin 1664) (r : Fin 16) (s : State) : Outc := s.go (fun d =>
  d.cpIns k 0x3FFF 0x3800 r (fun t0 d =>
    let f := (t0.reg r).toNat % 16
    if 4 ≤ f then .fault 7 t0.fetched.toNat else .go (d.modCp0 k (fun _ => { fsel := f, acc := cp0Init f }))))

/-- ACB r. -/
def execAcb (k : Fin 1664) (r : Fin 16) (s : State) : Outc := s.go (fun d =>
  d.cpIns k 0x3FFF 0x3810 r (fun t0 d => .go (d.modCp0 k (·.absorbs (leBytes 1 (t0.reg r).toNat)))))

/-- ACH r. -/
def execAch (k : Fin 1664) (r : Fin 16) (s : State) : Outc := s.go (fun d =>
  d.cpIns k 0x3FFF 0x3820 r (fun t0 d => .go (d.modCp0 k (·.absorbs (leBytes 2 (t0.reg r).toNat)))))

/-- ACW r. -/
def execAcw (k : Fin 1664) (r : Fin 16) (s : State) : Outc := s.go (fun d =>
  d.cpIns k 0x3FFF 0x3830 r (fun t0 d => .go (d.modCp0 k (·.absorbs (leBytes 4 (t0.reg r).toNat)))))

/-- ACM r: bytes of the job contexts or shared data; an uncorrectable byte poisons ACC and sends late error 0x1. -/
def execAcm (k : Fin 1664) (r : Fin 16) (s : State) : Outc := s.go (fun d =>
  d.cpIns k 0x3FFF 0x3840 r (fun t0 d =>
    let a := (t0.reg r).toNat
    let l := (t0.reg (r ^^^ 1)).toNat % 512
    if l = 0 || 256 < l then .fault 7 t0.fetched.toNat
    else if a < 0x100000 || 0x300000 < a + l then .fault 2 a
    else
      let x := sharedAddr (k / 64) (a - 0x100000)
      let d := if d.wordBad (k / 64) x l then (d.modCp0 k (fun c => { c with poison := true })).sendLate k t0.epoch.toNat 0 1 0 t0.pc.toNat else d
      .go (d.modCp0 k (·.absorbs (d.bytes x l)))))

/-- FIN r. -/
def execFin (k : Fin 1664) (r : Fin 16) (s : State) : Outc := s.go (fun d =>
  d.cpResult k 0x3850 r 2 (fun t0 => t0.cp0.fin))

/-- CSU r: only under fsel 2. -/
def execCsu (k : Fin 1664) (r : Fin 16) (s : State) : Outc := s.go (fun d =>
  d.cpIns k 0x3FFF 0x3860 r (fun t0 d =>
    if t0.cp0.fsel ≠ 2 then .fault 7 t0.fetched.toNat
    else
      let v := (t0.reg r).toNat
      .go (d.modCp0 k (fun c => { c with acc := onesAdd (onesAdd c.acc (v % 65536)) (65535 - v / 65536) }))))

/-- HSH r. -/
def execHsh (k : Fin 1664) (r : Fin 16) (s : State) : Outc := s.go (fun d =>
  d.cpResult k 0x3870 r 2 (fun t0 => BitVec.ofNat 32 (crc32c (leBytes 4 (t0.reg r).toNat ++ leBytes 4 (t0.reg (r ^^^ 1)).toNat))))

/-- LDA r. -/
def execLda (k : Fin 1664) (r : Fin 16) (s : State) : Outc := s.go (fun d =>
  d.cpIns k 0x3FFF 0x3880 r (fun t0 d => .go (d.modCp0 k (fun c => { c with acc := t0.reg r, poison := false, odd := false }))))

/-- LER r (R198). -/
def execLer (k : Fin 1664) (r : Fin 16) (s : State) : Outc := s.go (fun d =>
  d.cpIns k 0x3FFF 0x38F0 r (fun t0 d => .go (d.modThr k (fun t => { t.setReg r t0.late with late := 0 }))))

/-! ## CP1 (R201) -/

def Cp1.acc (c : Cp1) : Nat → Int × Int
  | 0 => c.a0
  | 1 => c.a1
  | 2 => c.a2
  | _ => c.a3

def Cp1.setAcc (c : Cp1) (i : Nat) (v : Int × Int) : Cp1 :=
  match i with
  | 0 => { c with a0 := v }
  | 1 => { c with a1 := v }
  | 2 => { c with a2 := v }
  | _ => { c with a3 := v }

/-- Multiply a sample by the phase into accumulator `i`. -/
def Cp1.mac (c : Cp1) (i : Nat) (x : Int) : Cp1 :=
  let a := c.acc i
  let re := clampTo 64 (a.1 + x * phaseC c.ph)
  let im := clampTo 64 (a.2 - x * phaseS c.ph)
  let c := c.setAcc i (re.1, im.1)
  if re.2 || im.2 then { c with sat := c.sat ||| BitVec.ofNat 4 (2 ^ i) } else c

/-- MACk r (R201). -/
def execMack (k : Fin 1664) (i : Fin 4) (r : Fin 16) (s : State) : Outc := s.go (fun d =>
  d.cpIns k 0x3FFF (0x3900 + i * 16) r (fun t0 d => .go (d.modCp1 k (·.mac i (t0.reg r).toInt))))

/-- ADV: bits [3:0] are ignored. -/
def execAdv (k : Fin 1664) (s : State) : Outc := s.go (fun d =>
  let r := (d.thr k).fetched.toNat % 16
  d.cpIns k 0x3FFF 0x3940 r (fun _ d => .go (d.modCp1 k (fun c => { c with ph := c.ph + c.dph }))))

/-- SPH r. -/
def execSph (k : Fin 1664) (r : Fin 16) (s : State) : Outc := s.go (fun d =>
  d.cpIns k 0x3FFF 0x3950 r (fun t0 d => .go (d.modCp1 k (fun c => { c with ph := t0.reg r }))))

/-- SDP r. -/
def execSdp (k : Fin 1664) (r : Fin 16) (s : State) : Outc := s.go (fun d =>
  d.cpIns k 0x3FFF 0x3960 r (fun t0 d => .go (d.modCp1 k (fun c => { c with dph := t0.reg r }))))

/-- Clear the accumulators a mask names. -/
def Cp1.clear (c : Cp1) (m : Nat) : Cp1 :=
  let c := (List.range 4).foldl (fun (c : Cp1) i => if bitAt m i then c.setAcc i (0, 0) else c) c
  { c with sat := c.sat &&& BitVec.ofNat 4 (15 - m % 16) }

/-- CLR r. -/
def execClr (k : Fin 1664) (r : Fin 16) (s : State) : Outc := s.go (fun d =>
  d.cpIns k 0x3FFF 0x3970 r (fun t0 d => .go (d.modCp1 k (·.clear (t0.reg r).toNat))))

/-- The value RDR or RDI returns for a part of an accumulator. -/
def shifted (x : Int) (v : Nat) : Word32 := BitVec.ofInt 32 (clampTo 32 (x / 2 ^ bitsOf v 2 6)).1

/-- RDR r. -/
def execRdr (k : Fin 1664) (r : Fin 16) (s : State) : Outc := s.go (fun d =>
  d.cpResult k 0x3980 r 4 (fun t0 => shifted (t0.cp1.acc ((t0.reg r).toNat % 4)).1 (t0.reg r).toNat))

/-- RDI r. -/
def execRdi (k : Fin 1664) (r : Fin 16) (s : State) : Outc := s.go (fun d =>
  d.cpResult k 0x3990 r 4 (fun t0 => shifted (t0.cp1.acc ((t0.reg r).toNat % 4)).2 (t0.reg r).toNat))

/-- RST r. -/
def execRst (k : Fin 1664) (r : Fin 16) (s : State) : Outc := s.go (fun d =>
  d.cpResult k 0x39A0 r 4 (fun t0 => t0.cp1.sat.setWidth 32))

/-! ## CP2 (R202 to R204) -/

/-- A block that CP2 takes: wholly in the job contexts or wholly in shared data. -/
def cp2Block (a : Nat) : Bool :=
  (decide (0x100000 ≤ a) && decide (a + 96 ≤ 0x200000)) || (decide (0x200000 ≤ a) && decide (a + 96 ≤ 0x300000))

/-- The home quadrant of a CP2 operation: its block is read behind the stores that the thread's buffer holds (R203). -/
def Dev.cp2Quad (d : Dev) (k a : Nat) : Nat :=
  homeQuad (leNat (((d.thr k).sb.foldl (fun d e => d.performEntry k e) d).bytes (sharedAddr (k / 64) (a - 0x100000)) 32))

/-- CP2_OPERATION (R194, R202, R203, R249): operations 8 to 15 are posted. -/
def execCp2Operation (k : Fin 1664) (op r : Fin 16) (s : State) : Outc := s.go (fun d =>
  d.issue k 0x3FFF (0x3A00 + op * 16 + r) 2 [r, r ^^^ 1] false (fun t0 d =>
    let a := (t0.reg r).toNat
    let q := d.cp2Quad k a
    if 4 ≤ t0.sb.length || 4 ≤ (t0.live 2).length then .stall 2
    else if !cp2Block a then .fault 2 a
    else if a % 8 ≠ 0 then .fault 3 a
    else if d.quadFull q then .stall (6 + q)
    else
      let g := k / 64
      let (id, d) := d.opNumber g
      let o : CpOp := { id := id, cp := 2, fn := op % 8, posted := 8 ≤ op.val, r := r, a := a, epoch := t0.epoch.toNat, pc := t0.pc.toNat
                        quad := q }
      let d := (d.joinQueue q).modThr k (fun t => { (if o.posted then t else t.mark r true) with ops := t.ops ++ [o], sb := t.sb ++ [.cp2 id] })
      let n := (d.rd (R.GL_CP2STAT g) F.GL_CP2STAT_in_flight + 1).min 255
      .go ((d.wr (R.GL_CP2STAT g) F.GL_CP2STAT_in_flight n).markHigh (R.GL_CP2STAT g) F.GL_CP2STAT_max n)))

/-- A CP2 operation has completed at its thread with a status word, and a record when Lode answered. -/
def Dev.cp2Done (d : Dev) (k : Nat) (o : CpOp) (word : Nat) (record : Option (List Byte)) : Dev :=
  let g := k / 64
  let d := d.wr (R.GL_CP2STAT g) F.GL_CP2STAT_in_flight (d.rd (R.GL_CP2STAT g) F.GL_CP2STAT_in_flight - 1)
  let mine := o.epoch == (d.thr k).epoch.toNat && d.galState g != 4
  let d := match record with
    | some bs => if mine then d.put (sharedAddr g (o.a + 32 - 0x100000)) bs else d
    | none => d
  let d := if !mine then d.inc (R.GL_CPSTAT g) F.GL_CPSTAT_orphan else if o.posted then d else d.writeBack k o word
  let d := if o.posted && 3 ≤ word % 16 then d.sendLate k o.epoch 2 2 (word % 16) o.pc else d
  d.opsOver k

/-- A Lode operation of a gallery is the next in the order of the gallery's port, helpers and CP2 together (R245). -/
def Dev.lodeTurn (d : Dev) (g num : Nat) : Bool :=
  d.dr.engine.all (fun e => e.g != g || e.kind != 1 || num ≤ e.num)
    && (List.range 64).all (fun t => (d.thr (g * 64 + t)).ops.all (fun o => o.cp != 2 || o.args.isNone || num ≤ o.num))

/-- CP2_COMPLETE (R202 to R204): Lode runs the oldest operation that has read its block. `bad` is a record with an
uncorrectable word that the operation meets. -/
def execCp2Complete (k : Fin 1664) (n : Fin 4) (bad : LodeErr) (s : State) : Outc := s.go (fun d =>
  match ((d.thr k).ops.filter (fun o => o.cp == 2))[n.val]? with
  | none => d
  | some o =>
    match o.args with
    | none => d
    | some args =>
      if !d.lodeTurn (k / 64) o.num then d
      else
      match d.lodeOp (.gallery (k / 64) o.num) o.fn args 0 false false bad.at with
      | (none, d) => d
      | (some x, d) =>
        let d := (d.leaveQueue o.quad).modThr k (fun t => { t with ops := t.ops.erase o })
        let d := match (d.thr k).node with | some r => d.noteGen (k.val / 64) r o.fn x.status x.r.toNat | none => d
        if o.dead then d else d.cp2Done k o x.word (some (leBytes 64 x.r.toNat)))

/-- CP2_TIMEOUT (R204): status 4; Lode's later answer is discarded. -/
def execCp2Timeout (k : Fin 1664) (n : Fin 4) (s : State) : Outc := s.go (fun d =>
  match ((d.thr k).ops.filter (fun o => o.cp == 2))[n.val]? with
  | none => d
  | some o =>
    if o.dead then d
    else
      let d := d.modThr k (fun t => { t with ops := t.ops.map (fun y => if y = o then { y with dead := true } else y) })
      (d.inc (R.GL_CP2STAT (k / 64)) F.GL_CP2STAT_to_cnt).cp2Done k o 4 none)

/-- LATE_ERROR (R198): the oldest late error on its way in a gallery; of those raised together, the lower coprocessor's
comes first. -/
def execLateError (g : Fin 26) (s : State) : Outc := s.go (fun d =>
  match (d.gal g).late with
  | [] => d
  | (k, e, cp, code, detail, pc) :: rest => (d.modGal g (fun x => { x with late := rest })).lateError k e cp code detail pc)

/-! ## CP3, the Face tile (R205 to R211) -/

/-- The lowest slot number no CP3 operation of the thread holds. -/
def Thread.freeTag (t : Thread) (k : Nat) : Nat :=
  let used := (t.ops.filter (fun o => o.cp == 3)).map (fun o => o.tag % 4)
  let live := (t.live 3).map (fun o => o.tag % 4)
  k % 64 * 4 + (((List.range 4).find? (fun i => !used.contains i)).getD (((List.range 4).find? (fun i => !live.contains i)).getD 0))

/-- The oldest request of a gallery that the logic has not taken, with its thread (R206). -/
def Dev.faceHead (d : Dev) (g : Nat) : Option (Nat × CpOp) :=
  d.threads.foldl (fun b e =>
    if e.1 / 64 ≠ g then b
    else ((e.2.live 3).filter (fun o => !o.sent)).foldl (fun (b : Option (Nat × CpOp)) o =>
      match b with
      | some y => if o.id < y.2.id then some (e.1, o) else b
      | none => some (e.1, o)) b) none

/-- One transfer over the port of a gallery's tile in RUN (R206). When the logic is ready the spec leaves to it: the model takes one request
at a time, as station time goes on (DESIGN CHOICE, log entry 185). -/
def Dev.faceSend (d : Dev) (g : Nat) : Dev :=
  if d.faceState g ≠ 3 then d
  else
    match d.faceHead g with
    | none => d
    | some (k, o) =>
      let d := d.modThr k (fun t => { t with ops := t.ops.map (fun y => if y = o then { y with sent := true } else y) })
      (d.out (.faceReq g o.tag o.fn o.a o.b o.posted)).wakeThread k

/-- The transfers of every tile. -/
def Dev.faceSends (d : Dev) : Dev := (List.range 26).foldl Dev.faceSend d

/-- FACE_OPERATION (R194, R207): res_mask decides the form. -/
def execFaceOperation (k : Fin 1664) (op r : Fin 16) (s : State) : Outc := s.go (fun d =>
  d.issue k 0x3FFF (0x3B00 + op * 16 + r) 2 [r, r ^^^ 1] false (fun t0 d =>
    let g := k / 64
    if 4 ≤ (t0.live 3).length || 32 ≤ d.faceQueue g then .stall 3
    else if d.faceState g ≠ 3 || !bitAt (d.rd (R.GL_FCINFO g) F.GL_FCINFO_fn_mask) op then .fault 7 t0.fetched.toNat
    else
      let (id, d) := d.opNumber g
      let post := !bitAt (d.rd (R.GL_FCINFO g) F.GL_FCINFO_res_mask) op
      let o : CpOp := { id := id, cp := 3, fn := op, posted := post, r := r, a := (t0.reg r).toNat, b := (t0.reg (r ^^^ 1)).toNat
                        tag := t0.freeTag k, epoch := t0.epoch.toNat, pc := t0.pc.toNat }
      .go (d.modThr k (fun t => { (if post then t else t.mark r true) with ops := t.ops ++ [o] }))))

/-- FACE_REPLY (R207): the logic answers a request by its tag. -/
def execFaceReply (g : Fin 26) (tag : BitVec 8) (data : Word32) (err : Fin 16) (s : State) : Outc := s.go (fun d =>
  let k := g * 64 + tag.toNat / 4
  let t := d.thr k
  match (t.live 3).find? (fun o => o.sent && o.tag == tag.toNat) with
  | some o =>
    let d := d.setThr k { t with ops := t.ops.erase o }
    let d := d.writeBack k o data.toNat
    (if err.val = 0 then d else d.sendLate k o.epoch 3 3 err o.pc).opsOver k
  | none =>
    match t.ops.find? (fun o => o.cp == 3 && o.dead && o.tag == tag.toNat) with
    | some o => (d.setThr k { t with ops := t.ops.erase o }).inc (R.GL_FCSTAT g) F.GL_FCSTAT_late_rsp
    | none => d.inc (R.GL_FCSTAT g) F.GL_FCSTAT_bad_tag)

/-- FACE_TIMEOUT (R207): r := 0 in result form, and late error 0x4. -/
def execFaceTimeout (g : Fin 26) (tag : BitVec 8) (s : State) : Outc := s.go (fun d =>
  let k := g * 64 + tag.toNat / 4
  match ((d.thr k).live 3).find? (fun o => o.tag == tag.toNat) with
  | none => d
  | some o =>
    let d := d.modThr k (·.faceEnd o)
    ((d.writeBack k o 0).sendLate k o.epoch 3 4 0 o.pc).opsOver k)

/-- FC_IRQ (R206): an edge of the running logic's line. -/
def execFcIrq (g : Fin 26) (s : State) : Outc := s.go (fun d =>
  if d.faceState g = 3 then (d.wr (R.GL_FCSTAT g) F.GL_FCSTAT_user_irq 1).pendSource (supOf g) 4 else d)

/-- Why a bitstream is refused (R208); 0 where it is not. -/
def faceCheck (hdr frames : List Byte) (active : Bool) : Nat :=
  if leNat (hdr.take 4) ≠ 0x3216FACE || leNat ((hdr.drop 4).take 2) ≠ 1 then 1
  else if leNat (hdr.drop 60) ≠ crc32c (hdr.take 60 ++ frames) then 2
  else if leNat ((hdr.drop 12).take 4) ≠ 0x00100040 then 3
  else if active then 4
  else 0

/-- A tile takes a bitstream after its checks: READY or EMPTY (R208, R210). -/
def Dev.faceTake (d : Dev) (g : Nat) (src : Option Nat) (bs : List Byte) : Dev :=
  let hdr := bs.take 64
  let c := faceCheck hdr (bs.drop 64) (d.galActive g)
  if c ≠ 0 then (d.faceEmpty g).wr (R.GL_FCSTAT g) F.GL_FCSTAT_load_err c
  else
    let d := (d.wipe (faceAddr g 0) (faceAddr (g + 1) 0)).put (faceAddr g 0) bs
    let d := d.rset (R.GL_FCID g) (BitVec.ofNat 64 (leNat ((hdr.drop 16).take 8)))
    let d := d.wr (R.GL_FCINFO g) F.GL_FCINFO_fmax_mhz (leNat ((hdr.drop 6).take 2))
    let d := (d.wr (R.GL_FCINFO g) F.GL_FCINFO_fn_mask (leNat ((hdr.drop 8).take 2))).wr (R.GL_FCINFO g) F.GL_FCINFO_res_mask (leNat ((hdr.drop 10).take 2))
    (d.modGal g (fun x => { x with face := { bits := src } })).setFace g 2

/-- A load ends. A bitstream Seam cannot give whole fails its CRC (R208). -/
def Dev.faceLoadEnd (d : Dev) (g : Nat) : Dev :=
  if d.faceState g ≠ 1 then d
  else
    let a := (d.gal g).face.loading.getD 0
    match d.smRead 6 a 0x100040 with
    | (.ok bs, d) => d.faceTake g (some a) bs
    | (_, d) => (d.faceEmpty g).wr (R.GL_FCSTAT g) F.GL_FCSTAT_load_err 2

/-- FACE_LOAD_DONE (R208, R210). -/
def execFaceLoadDone (g : Fin 26) (s : State) : Outc := s.go (fun d => d.faceLoadEnd g)

/-- FACE_FRAME_SCRUB (R211): the background engine reads the next configuration frame. -/
def execFaceFrameScrub (g : Fin 26) (ecc : MemEcc) (s : State) : Outc := s.go (fun d =>
  let st := d.faceState g
  if st < 2 then d
  else
    let n := (d.gal g).face.scrubAt
    let d := d.modGal g (fun x => { x with face := { x.face with scrubAt := (n + 1) % 4096 } })
    match ecc with
    | .good => d
    | .corrected => d.inc (R.GL_FCSTAT g) F.GL_FCSTAT_cfg_corr
    | .lost =>
      let d := if st = 3 then (d.faceFlush g).setFace g 4 else d
      let d := d.modGal g (fun x => { x with face := { x.face with bad := x.face.bad.filter (· != n) ++ [n] } })
      ((d.tally 0x0701 g [n]).wr (R.GL_FCSTAT g) F.GL_FCSTAT_user_irq 1).pendSource (supOf g) 4)

/-- A frame of a face's configuration is read again and written over the bad one; after the last of them the tile runs again under
auto_restart (R210, R211). -/
def Dev.faceReload (d : Dev) (g n : Nat) : Dev :=
  let x := d.smRead 6 (d.rd (R.GL_FCLOAD g) F.GL_FCLOAD_addr * 64 + 64 + n * 256) 256
  match x.1 with
  | .ok bs =>
    let e := (x.2.put (faceAddr g (64 + n * 256)) bs).inc (R.GL_FCSTAT g) F.GL_FCSTAT_cfg_uncorr
    let e := e.modGal g (fun y => { y with face := { y.face with bad := y.face.bad.filter (· != n) } })
    if e.faceState g = 4 && (e.gal g).face.bad.isEmpty && e.on (R.GL_FCCTL g) F.GL_FCCTL_auto_restart then e.faceStart g else e
  | _ => x.2

/-- FACE_RESTART (R210, R211): the Overman rewrites the frame from the bitstream at GL_FCLOAD. -/
def execFaceRestart (g : Fin 26) (s : State) : Outc := s.go (fun d =>
  match (d.gal g).face.bad with
  | [] => d
  | n :: _ => d.faceReload g n)

end Sys2Proof.Machine
end

