-- ==== Sys2Proof/Machine/Phasor.lean ====
section
/-!
DEFINITION. The phasor engine: state blocks, windows, estimation, and the frame builder (R214 to R231). Real quantities are held
as integers in units of 2^-80. Where the spec gives a formula for a value and IEEE single to hold it, and no rounding, the value
is the single at or next to the formula's: which of the two is a free bit.
-/

namespace Sys2Proof.Machine

/-! ## Reals -/

def one80 : Int := 2 ^ 80
/-- π in units of 2^-80. -/
def piU : Int := 2 * 1898976236818169290393997

/-- The integer square root of a number below 2^(2 × bits). -/
def isqrtGo (n : Nat) : Nat → Nat → Nat
  | 0, r => r
  | b + 1, r => isqrtGo n b (if (r + 2 ^ b) * (r + 2 ^ b) ≤ n then r + 2 ^ b else r)

def isqrt (n : Nat) : Nat := isqrtGo n (Nat.log2 n / 2 + 1) 0

/-- The series of the arc tangent. -/
def atanSer (t2 : Int) : Nat → Int → Int → Int
  | 0, _, _ => 0
  | n + 1, k, t => t / k + atanSer t2 n (k + 2) (-(t * t2 / one80))

/-- tan(a/2) from tan(a). -/
def halfTan (t : Int) : Int := t * one80 / (one80 + isqrt (one80 * one80 + t * t).toNat)

/-- The arc tangent of 0 ≤ t ≤ 1. -/
def atan01 (t : Int) : Int :=
  let u := halfTan (halfTan t)
  4 * atanSer (u * u / one80) 20 1 u

/-- The argument of a complex number, in (−π, π]; zero for zero. -/
def arg (re im : Int) : Int :=
  let a : Int := re.natAbs
  let b : Int := im.natAbs
  if a = 0 && b = 0 then 0
  else
    let q := if b ≤ a then atan01 (b * one80 / a) else piU / 2 - atan01 (a * one80 / b)
    let q := if re < 0 then piU - q else q
    if im < 0 then -q else q

/-- An angle taken into (−π, π]. -/
def wrapPi (x : Int) : Int :=
  let r := x % (2 * piU)
  if piU < r then r - 2 * piU else r

/-! ## IEEE singles -/

def nanS : Nat := 0x7FC00000

/-- The single at or next below a magnitude n / 2^s, or the next one above it when `up` and the magnitude lies between. -/
def singleOf (neg : Bool) (n : Nat) (s : Int) (up : Bool) : Nat :=
  let sign := b2n neg * 2 ^ 31
  if n = 0 then sign
  else
    let e := (Nat.log2 n : Int) - s
    if 127 < e then sign + 0x7F800000
    else
      let e := max e (-126)
      -- the quantum is 2^(e − 23)
      let q := e - 23 + s
      let (m, rem) := if 0 ≤ q then (n / 2 ^ q.toNat, n % 2 ^ q.toNat) else (n * 2 ^ (-q).toNat, 0)
      sign + (e + 126).toNat * 2 ^ 23 + m + b2n (up && rem != 0)

/-- The single of a real in units of 2^-80. -/
def singleR (x : Int) (up : Bool) : Nat := singleOf (x < 0) x.natAbs 80 up

/-- A finite single as mantissa and exponent of 2. -/
def singleParts (b : Nat) : Option (Int × Int) :=
  let e := bitsOf b 23 8
  if e = 255 then none
  else
    let m : Int := if e = 0 then bitsOf b 0 23 else bitsOf b 0 23 + 2 ^ 23
    some (if bitAt b 31 then -m else m, max (e : Int) 1 - 150)

/-- A single as a real; what is not finite counts as zero. -/
def realOf (b : Nat) : Int :=
  match singleParts b with
  | none => 0
  | some (m, e) => if 0 ≤ e + 80 then m * 2 ^ (e + 80).toNat else m / 2 ^ (-(e + 80)).toNat

/-! ## State blocks (R217) -/

/-- Where a state block stands in memory. -/
def blockAddr (g slot : Nat) : Nat := sharedAddr g (0x140000 + slot * 0x200)
def Dev.blkWord (d : Dev) (g slot k : Nat) : Nat := d.load (blockAddr g slot + 8 * k) 8
def Dev.setBlkWord (d : Dev) (g slot k v : Nat) : Dev := d.store (blockAddr g slot + 8 * k) 8 v

def PB.valid (w : Nat) : Bool := bitAt w 63
def PB.resync (w : Nat) : Bool := bitAt w 62
def PB.rate (w : Nat) : Nat := bitsOf w 59 3
def PB.f60 (w : Nat) : Bool := bitAt w 58
def PB.nch (w : Nat) : Nat := (bitsOf w 54 4).min 8
def PB.seq (w : Nat) : Bool := bitAt w 53
def PB.vbase (w : Nat) : Nat := bitsOf w 50 3
def PB.fr (w : Nat) : Nat := bitsOf w 46 4
def PB.mu_delay (w : Nat) : Nat := bitsOf w 32 12
def PB.hold_us (w : Nat) : Nat := bitsOf w 16 16

/-- Samples a second of a rate code (R214); zero for a code with no rate. -/
def rateOf (c : Nat) : Nat := match c with | 0 => 4000 | 1 => 4800 | 2 => 12800 | 3 => 14400 | 4 => 15360 | _ => 0
def f0Of (f60 : Bool) : Nat := if f60 then 60 else 50
def cycleN (w : Nat) : Nat := rateOf (PB.rate w) / f0Of (PB.f60 w)

/-- Frames a second of a reporting-rate code (R226); zero where the code gives none at that frequency. -/
def frOf (f60 : Bool) (c : Nat) : Nat :=
  if f60 then (match c with | 0 => 10 | 1 => 12 | 2 => 15 | 3 => 20 | 5 => 30 | 7 => 60 | 9 => 120 | _ => 0)
  else match c with | 0 => 10 | 4 => 25 | 6 => 50 | 8 => 100 | _ => 0

/-- W in ns (R218). -/
def windowNs (f60 : Bool) : Nat := 1000000000 / f0Of f60

/-- An output's rate and hold are allowed (R226): hold_us ≤ 3T − W. -/
def frOk (f60 : Bool) (fr hold : Nat) : Bool :=
  frOf f60 fr != 0 && (hold * 1000 + windowNs f60) * frOf f60 fr ≤ 3000000000

/-- The instant of a report index of full seconds, in whole ns (R218). -/
def reportNs (k fr : Nat) : Nat := k / fr * 1000000000 + k % fr * 1000000000 / fr

/-- The full report index nearest to a time in ns whose low 32 bits are given. -/
def fullIndex (low near fr : Nat) : Nat :=
  let n := near * fr / 1000000000
  let base := n - n % 2 ^ 32 + low
  if n + 2 ^ 31 < base then base - 2 ^ 32 else if base + 2 ^ 31 < n then base + 2 ^ 32 else base

def nowNs (d : Dev) : Nat := d.now / 65536

/-- Start of the window of a report. -/
def winStart (w k : Nat) : Nat := reportNs k (frOf (PB.f60 w) (PB.fr w)) - windowNs (PB.f60 w) / 2

/-- The deadline of a window (R219) and the emission instant of its report (R225), in ns. -/
def deadlineNs (w k : Nat) : Nat := winStart w k + windowNs (PB.f60 w) + PB.hold_us w * 1000 - 5000
def emissionNs (f60 : Bool) (fr hold k : Nat) : Nat := reportNs k (frOf f60 fr) - windowNs f60 / 2 + windowNs f60 + hold * 1000

/-! Words 3 to 5, one for each accumulator set. -/
def PS.k (x : Nat) : Nat := bitsOf x 32 32
def PS.cnt (x : Nat) : Nat := bitsOf x 23 9
def PS.open (x : Nat) : Bool := bitAt x 22
def PS.step (x : Nat) : Bool := bitAt x 21
def PS.unsync (x : Nat) : Bool := bitAt x 20
def PS.test (x : Nat) : Bool := bitAt x 19
def PS.inval (x : Nat) : Nat := bitsOf x 11 8

def bitsKey (g slot set : Nat) : Nat := (g * 2048 + slot) * 3 + set
def Dev.bitmap (d : Dev) (g slot set : Nat) : Nat := d.ph.bits.get 0 (bitsKey g slot set)
def Dev.setBitmap (d : Dev) (g slot set v : Nat) : Dev := { d with ph := { d.ph with bits := d.ph.bits.set 0 (bitsKey g slot set) v } }

/-- An accumulator of a set and channel: 16 bytes, real part first. -/
def accAddr (g slot set c : Nat) : Nat := blockAddr g slot + 128 + set * 128 + c * 16
def Dev.acc (d : Dev) (g slot set c : Nat) : Int × Int :=
  (toSigned 64 (d.load (accAddr g slot set c) 8), toSigned 64 (d.load (accAddr g slot set c + 8) 8))
def Dev.setAcc (d : Dev) (g slot set c : Nat) (v : Int × Int) : Dev :=
  (d.store (accAddr g slot set c) 8 (ofSigned 64 v.1)).store (accAddr g slot set c + 8) 8 (ofSigned 64 v.2)

/-- Add to a counter of word 6 that saturates: 0 dup, 1 late, 2 gaps, 3 resyncs. -/
def Dev.blkCount (d : Dev) (g slot i : Nat) : Dev :=
  let w := d.blkWord g slot 6
  if bitsOf w (48 - 16 * i) 16 = 65535 then d else d.setBlkWord g slot 6 (w + 2 ^ (48 - 16 * i))

/-- A report index of 32 bits comes before another: by less than half of the count, which wraps. -/
def olderIndex (a b : Nat) : Bool := a != b && decide ((b + 2 ^ 32 - a) % 2 ^ 32 < 2 ^ 31)

/-- Word 7 shows the start of the oldest open set's bitmap. -/
def Dev.refreshSeen (d : Dev) (g slot : Nat) : Dev :=
  let sets := [0, 1, 2].filter (fun i => PS.open (d.blkWord g slot (3 + i)))
  let old := sets.foldl (fun (b : Option Nat) i =>
    match b with
    | some j => if olderIndex (PS.k (d.blkWord g slot (3 + i))) (PS.k (d.blkWord g slot (3 + j))) then some i else b
    | none => some i) none
  d.setBlkWord g slot 7 (match old with | some i => d.bitmap g slot i % 2 ^ 64 | none => 0)

/-! ## Samples (R218 to R221) -/

/-- round(32767 × sin²(π (j + ½) / N)). -/
def hann (j n : Nat) : Int :=
  let th := piU * (2 * j + 1) / (2 * n)
  let th := if piU / 2 < th then piU - th else th
  let s := series (th * th / one80) 15 1 th
  (2 * 32767 * s * s + one80 * one80) / (2 * one80 * one80)

/-- One sample of one channel joins an accumulator. `dt`: t_n − t_k in ns. -/
def accumulate (a : Int × Int) (x w : Int) (fTrack : Nat) (dt : Int) : Int × Int :=
  let num := 2 * (fTrack : Int) * 128 * dt + 1000000000
  let ph := BitVec.ofInt 32 (num / 2000000000)
  let v := x * w / 32768
  ((clampTo 64 (a.1 + v * phaseC ph)).1, (clampTo 64 (a.2 - v * phaseS ph)).1)

/-- The channels of an ASDU: value and quality, big-endian. -/
def Dev.channelAt (d : Dev) (a : Nat) : Int × Nat := (toSigned 32 (beNat (d.bytes a 4)), beNat (d.bytes (a + 4) 4))

/-- A sample time in ns, or none: the sample's number within its second, the arrival, the delay (R218). -/
def sampleNs (smp rate arrival delay : Nat) : Nat :=
  let f := smp * 1000000000 / rate
  let x := arrival - delay
  ((x + 500000000 - f) / 1000000000) * 1000000000 + f

/-- The windows whose span holds an instant, by full report index. -/
def windowsAt (w t : Nat) : List Nat :=
  let fr := frOf (PB.f60 w) (PB.fr w)
  let n := t * fr / 1000000000
  ((List.range 7).map (fun i => n + i - 3)).eraseDups.filter (fun k => winStart w k ≤ t && t < winStart w k + windowNs (PB.f60 w))

/-! ## Estimation (R221 to R224) -/

/-- A free bit picks the rounding of a real. -/
def Dev.round (d : Dev) (x : Int) : Nat × Dev := let (b, d) := d.fresh 1; (singleR x (b == 1), d)

/-- The angle correction 2π · frac(f0 (t_k − S)). -/
def angleFix (w k : Nat) : Int :=
  let fr := frOf (PB.f60 w) (PB.fr w)
  let part : Nat := f0Of (PB.f60 w) * (k % fr) % fr
  2 * piU * part / fr

/-- Magnitude and angle of a channel at the close. -/
def Dev.phasorOf (d : Dev) (g slot set c w k : Nat) (sumW : Int) : (Nat × Nat) × Dev :=
  let (re, im) := d.acc g slot set c
  let (a, d) := d.round (wrapPi (arg re im - angleFix w k))
  let (b, d) := d.fresh 1
  match singleParts (d.load (blockAddr g slot + 64 + 4 * c) 4) with
  | none => ((nanS, a), d)
  | some (m, e) =>
    let r := isqrt (2 * (re * re + im * im).toNat * (m * m).toNat * 2 ^ 400)
    ((singleOf (m < 0) (r * 2 ^ 40 / (sumW * 131071).toNat.max 1) (240 - e) (b == 1), a), d)

/-- The phasor that gives the frequency, up to a positive factor: channel v, or the positive sequence from v. -/
def Dev.freqPhasor (d : Dev) (g slot set w : Nat) : Int × Int :=
  let v := PB.vbase w
  let a (i : Nat) := if v + i < 8 then d.acc g slot set (v + i) else (0, 0)
  if !PB.seq w then a 0
  else
    let r3 : Int := isqrt (3 * 2 ^ 160)
    ((2 * (a 0).1 - (a 1).1 - (a 2).1) * one80 + r3 * ((a 2).2 - (a 1).2),
     (2 * (a 0).2 - (a 1).2 - (a 2).2) * one80 + r3 * ((a 1).1 - (a 2).1))

/-- Frequency, rate of change and whether rocof was forced to 0 (R222), in units of 2^-80. -/
def freqOf (w w1 w2 k : Nat) (th : Int) : Int × Int × Bool :=
  let fr := frOf (PB.f60 w) (PB.fr w)
  let f0 : Int := f0Of (PB.f60 w)
  let ft : Int := (bitsOf w1 0 32 : Nat) * 2 ^ 55
  let n : Nat := (k % 2 ^ 32 + 2 ^ 32 - bitsOf w2 0 32) % 2 ^ 32
  if !PB.resync w && n ≤ 4 && n ≠ 0 then
    let e := 2 * piU * (ft - f0 * one80) / one80 * n / fr
    let f := f0 * one80 + (e + wrapPi (th - realOf (bitsOf w2 32 32) - e)) * fr * one80 / (2 * piU * n)
    (f, (f - realOf (bitsOf w1 32 32)) * fr / n, false)
  else (ft, 0, true)

/-- The phasors of a closing window, channel by channel; that of an invalid channel is no number. -/
def Dev.windowPhasors (d : Dev) (g slot set k : Nat) (w x : Nat) : List (Nat × Nat) × Dev :=
  let n := cycleN w
  let sumW := (List.range n).foldl (fun (a : Int) j => a + hann j n) 0
  (List.range (PB.nch w)).foldl (fun (a : List (Nat × Nat) × Dev) c =>
    let v := a.2.phasorOf g slot set c w k sumW
    (a.1 ++ [if bitAt (PS.inval x) c then (nanS, nanS) else v.1], v.2)) (([] : List (Nat × Nat)), d)

/-- The frequency that a block keeps for the next window, within 5 Hz of the nominal one, in its stored unit: which of the two
neighbouring values stands for one between them is free. -/
def Dev.trackWord (d : Dev) (w : Nat) (f : Int) : Nat × Dev :=
  let lo := ((f0Of (PB.f60 w) : Int) - 5) * one80
  let hi := ((f0Of (PB.f60 w) : Int) + 5) * one80
  let b := d.fresh 1
  let u := (if f < lo then lo else if hi < f then hi else f)
  ((u / 2 ^ 55).toNat + b2n (b.1 == 1 && u % 2 ^ 55 != 0), b.2)

/-- Whether a frequency lies outside the 5 Hz about the nominal one. -/
def clampedF (w : Nat) (f : Int) : Bool :=
  decide (f < ((f0Of (PB.f60 w) : Int) - 5) * one80) || decide (((f0Of (PB.f60 w) : Int) + 5) * one80 < f)

/-- The block's own words after a window closed: the tracked frequency and angle, the resynchronisation, the counters. -/
def Dev.windowNote (d : Dev) (g slot set w x k fS ft tS : Nat) (invalid gap : Bool) : Dev :=
  let d := d.setBlkWord g slot 1 ((if invalid then bitsOf (d.blkWord g slot 1) 32 32 else fS) * 2 ^ 32 + ft % 2 ^ 32)
  let d := if invalid then d else d.setBlkWord g slot 2 (tS * 2 ^ 32 + k % 2 ^ 32)
  let d := if !invalid && PB.resync w then (d.setBlkWord g slot 0 (w - 2 ^ 62)).blkCount g slot 3 else d
  let d := if gap then d.blkCount g slot 2 else d
  d.setBlkWord g slot (3 + set) (x - 2 ^ 22)

/-- A PMU block sets out for the builder, and its window is remembered as closed until its deadline. -/
def Dev.windowSend (d : Dev) (g slot w k : Nat) (blk : PmuBlock) : Dev :=
  let key := g * 2048 + slot
  let live := (d.ph.closed.get [] key).filter (fun j => nowNs d ≤ deadlineNs w j)
  let d := { d with ph := { d.ph with closed := d.ph.closed.set [] key (live ++ [k]), transit := d.ph.transit ++ [blk] } }
  d.refreshSeen g slot

/-- A window closes: its set is free and its PMU block sets out for the builder (R219 to R224). -/
def Dev.closeWindow (d : Dev) (g slot set : Nat) : Dev :=
  let w := d.blkWord g slot 0
  let x := d.blkWord g slot (3 + set)
  let k := fullIndex (PS.k x) (nowNs d) (frOf (PB.f60 w) (PB.fr w))
  let p := d.windowPhasors g slot set k w x
  let d := p.2
  let fp := d.freqPhasor g slot set w
  let th := wrapPi (arg fp.1 fp.2 - angleFix w k)
  let q := freqOf w (d.blkWord g slot 1) (d.blkWord g slot 2) k th
  let src := if PB.seq w then [0, 1, 2].map (PB.vbase w + ·) else [PB.vbase w]
  let gap := decide (PS.cnt x < cycleN w)
  let invalid := gap || PS.step x || src.any (fun c => bitAt (PS.inval x) c)
  let ft := d.trackWord w q.1
  let fS := ft.2.round q.1
  let rS := fS.2.round q.2.1
  let tS := rS.2.round th
  let blanked := (List.range (PB.nch w)).any (fun c => bitAt (PS.inval x) c)
  let stat := (if invalid then 3 else if PS.test x then 2 else if PS.unsync x || clampedF w q.1 then 1 else 0) * 2 ^ 14
    + b2n (PS.unsync x) * 2 ^ 13 + b2n (blanked || q.2.2) * 2 ^ 9
  let blk : PmuBlock := { g := g, slot := slot, k := k, stat := stat, valid := !invalid
                          phasors := if invalid then [] else p.1, freq := if invalid then nanS else fS.1, dfreq := if invalid then nanS else rS.1 }
  (tS.2.windowNote g slot set w x k fS.1 ft.1 tS.1 invalid gap).windowSend g slot w k blk

/-- What became of a sample in one window. -/
inductive Joined
  | joined (closed : Bool)
  | dup
  | late
  | outside

/-- The set of a window: the one open for it, else a free one. -/
def Dev.windowSet (d : Dev) (g slot low : Nat) : Option Nat :=
  ([0, 1, 2].find? (fun i => PS.open (d.blkWord g slot (3 + i)) && PS.k (d.blkWord g slot (3 + i)) == low)).or
    ([0, 1, 2].find? (fun i => !PS.open (d.blkWord g slot (3 + i))))

/-- A set that is not open for the window is opened, with no sample in it; `first` is the smp of the window's sample 0. -/
def Dev.windowOpen (d : Dev) (g slot set low first : Nat) : Dev :=
  if PS.open (d.blkWord g slot (3 + set)) && PS.k (d.blkWord g slot (3 + set)) == low then d
  else
    let d := { d with ph := { d.ph with first := d.ph.first.set 0 (bitsKey g slot set) first } }
    ((d.setBlkWord g slot (3 + set) (low * 2 ^ 32 + 2 ^ 22)).setBitmap g slot set 0).put (accAddr g slot set 0) (List.replicate 128 0)

/-- One sample's channels are accumulated: the channels with an invalid quality, and whether one is a test. -/
def Dev.windowAdd (d : Dev) (g slot set w j ctx : Nat) (off : Int) : (Nat × Bool) × Dev :=
  let ft := bitsOf (d.blkWord g slot 1) 0 32
  (List.range (PB.nch w)).foldl (fun (a : (Nat × Bool) × Dev) c =>
    let vq := a.2.channelAt (ctx + 8 * c)
    let d := a.2.setAcc g slot set c (accumulate (a.2.acc g slot set c) vq.1 (hann j (cycleN w)) ft off)
    ((if vq.2 % 4 = 1 || vq.2 % 4 = 3 then withBit a.1.1 c true else a.1.1, a.1.2 || bitAt vq.2 11), d)) ((0, false), d)

/-- A sample joins a window's set as its sample `j`; a window holds the samples 0 to N − 1 (R221). -/
def Dev.windowJoin (d : Dev) (g slot set w k j t ctx : Nat) (unsync : Bool) : Joined × Dev :=
  if cycleN w ≤ j then (.outside, d)
  else if bitAt (d.bitmap g slot set) j then (.dup, d.blkCount g slot 0)
  else
    let d := d.setBitmap g slot set (withBit (d.bitmap g slot set) j true)
    let a := d.windowAdd g slot set w j ctx ((t : Int) - reportNs k (frOf (PB.f60 w) (PB.fr w)))
    let x := a.2.blkWord g slot (3 + set)
    let cnt := PS.cnt x + 1
    let y := k % 2 ^ 32 * 2 ^ 32 + cnt % 512 * 2 ^ 23 + 2 ^ 22 + b2n (PS.step x) * 2 ^ 21 + b2n (PS.unsync x || unsync) * 2 ^ 20
      + b2n (PS.test x || a.1.2) * 2 ^ 19 + (PS.inval x ||| a.1.1) * 2 ^ 11
    let d := a.2.setBlkWord g slot (3 + set) y
    if cnt = cycleN w then (.joined true, d.closeWindow g slot set) else (.joined false, d)

/-- The smp of a window's sample 0: that of the first sample instant in it. A sample with synch ≠ 2 that opens a window is its sample
0, since such a stream's count keeps no instant (DESIGN CHOICE, log entry 188). -/
def firstSmp (w k smp : Nat) (unsync : Bool) : Nat :=
  if unsync then smp else (winStart w k * rateOf (PB.rate w) + 999999999) / 1000000000 % rateOf (PB.rate w)

/-- A sample meets one window (R219, R221). `t`: its time in ns. At the deadline itself it still counts (R220). -/
def Dev.joinWindow (d : Dev) (g slot w k smp t ctx : Nat) (unsync : Bool) : Joined × Dev :=
  if deadlineNs w k < nowNs d || (d.ph.closed.get [] (g * 2048 + slot)).contains k then (.late, d.blkCount g slot 1)
  else
    match d.windowSet g slot (k % 2 ^ 32) with
    | none => (.late, d.blkCount g slot 1)
    | some set =>
      let d := d.windowOpen g slot set (k % 2 ^ 32) (firstSmp w k smp unsync)
      let rate := rateOf (PB.rate w)
      d.windowJoin g slot set w k ((smp + rate - d.ph.first.get 0 (bitsKey g slot set)) % rate) t ctx unsync

/-- What the windows of one sample have answered: how many it joined, whether it was a duplicate, late, or filled one. -/
structure StepSum where
  joined : Nat := 0
  dup : Bool := false
  late : Bool := false
  full : Bool := false

/-- Add a window's answer. -/
def StepSum.add (s : StepSum) : Joined → StepSum
  | .joined c => { s with joined := s.joined + 1, full := s.full || c }
  | .dup => { s with dup := true }
  | .late => { s with late := true }
  | .outside => s

/-- The result word of STEP. -/
def StepSum.word (s : StepSum) (smp : Nat) : Nat :=
  smp * 65536 + b2n s.full * 16 + b2n s.late * 8 + b2n s.dup * 4 + s.joined % 4

/-- A sample meets each of its windows. -/
def Dev.joinAll (d : Dev) (g slot w smp t ctx : Nat) (unsync : Bool) : StepSum × Dev :=
  (windowsAt w t).foldl (fun (s : StepSum × Dev) k =>
    let x := s.2.joinWindow g slot w k smp t ctx unsync
    (s.1.add x.1, x.2)) ({}, d)

/-- A sample of a stream in service: its time and number, and the windows it meets. -/
def Dev.stepSample (d : Dev) (j a g slot w : Nat) : Nat × Option Nat × Dev :=
  let smp := bitsOf a 16 16
  let rate := rateOf (PB.rate w)
  let arrival := expandStamp d.now (T.stamp.get (d.job j).tub) / 65536
  let delay := PB.mu_delay w * 10000
  let unsync := decide (bitsOf a 32 2 ≠ 2)
  let t := if unsync then arrival - delay else sampleNs smp rate arrival delay
  let s := d.joinAll g slot w smp t (ctxAddr j + bitsOf a 34 9) unsync
  (0, some (s.1.word smp), s.2.refreshSeen g slot)

/-- STEP on an argument (R216, R218, R219): status and result word. -/
def Dev.phasorStep (d : Dev) (j a : Nat) : Nat × Option Nat × Dev :=
  let slot := bitsOf a 0 11
  let off := bitsOf a 34 9
  let w := d.blkWord (j / 2048) slot 0
  if !d.on R.PH_CFG F.PH_CFG_en then (1, none, d)
  else if 1536 ≤ slot then (7, none, d)
  else if !PB.valid w then (1, none, d)
  else if rateOf (PB.rate w) ≤ bitsOf a 16 16 || frOf (PB.f60 w) (PB.fr w) = 0 || off < 256
      || (d.job j).winLen + 256 < off + 8 * PB.nch w then (7, none, d)
  else d.stepSample j a (j / 2048) slot w

/-- The oldest phasor operation of a gallery when its function passes a test. -/
def Dev.takePhasor (d : Dev) (g : Nat) (p : Nat → Bool) : Option EngineOp × Dev :=
  match d.takeEngine g 5 with
  | (some e, d1) => if p (bitsOf e.op 32 8) then (some e, d1) else (none, d)
  | _ => (none, d)

/-- STEP of a job, or status 7 for another function. -/
def Dev.phasorTicket (d : Dev) (g : Nat) (e : EngineOp) : Dev :=
  if bitsOf e.op 32 8 ≠ 0 then d.helperReturn g e.ref 5 7
  else
    let j := jobKey g e.ref.slot
    let x := d.phasorStep j (d.load (ctxWord j (bitsOf e.op 26 6)) 8)
    match x.2.1 with
    | some v => (x.2.2.putResult g e.ref (bitsOf e.op 20 6) (leBytes 8 v)).helperReturn g e.ref 5 x.1
    | none => x.2.2.helperReturn g e.ref 5 x.1

/-- STEP g (R216, R219 to R221), which does not run in Lull (R231); a function that does not exist completes with status 7. -/
def execStep (g : Fin 26) (s : State) : Outc := s.go (fun d =>
  if d.lull then d else
  match (d.takePhasor g (· != 1)).1 with
  | none => d
  | some e => (d.takePhasor g (· != 1)).2.phasorTicket g e)

/-- STATE of a job: the stream block's 64 bytes go to its result place. -/
def Dev.phasorState (d : Dev) (g : Nat) (e : EngineOp) : Dev :=
  let slot := bitsOf (d.load (ctxWord (jobKey g e.ref.slot) (bitsOf e.op 26 6)) 8) 0 11
  if 1536 ≤ slot || 56 < bitsOf e.op 20 6 then d.helperReturn g e.ref 5 7
  else (d.putResult g e.ref (bitsOf e.op 20 6) (d.bytes (blockAddr g slot) 64)).helperReturn g e.ref 5 0

/-- STATE g (R216): words 0 to 7 of a state block; a copy past word 63 of the context is a bad argument. -/
def execState (g : Fin 26) (s : State) : Outc := s.go (fun d =>
  if d.lull then d else
  match (d.takePhasor g (· == 1)).1 with
  | none => d
  | some e => (d.takePhasor g (· == 1)).2.phasorState g e)

/-- A STEP of a block waits: it comes before a close of the same cycle (R220). -/
def Dev.stepWaits (d : Dev) (g slot : Nat) : Bool :=
  d.dr.engine.any (fun e => e.g == g && e.kind == 5 && bitsOf e.op 32 8 == 0
    && bitsOf (d.load (ctxWord (jobKey g e.ref.slot) (bitsOf e.op 26 6)) 8) 0 11 == slot)

/-- WINDOW_DEADLINE (R219): a window whose deadline has come closes with the samples it holds; in the cycle of the deadline the STEPs
that wait come first (R220). -/
def execWindowDeadline (g : Fin 26) (slot : Fin 1536) (set : Fin 3) (s : State) : Outc := s.go (fun d =>
  let w := d.blkWord g slot 0
  let x := d.blkWord g slot (3 + set)
  let fr := frOf (PB.f60 w) (PB.fr w)
  let dl := deadlineNs w (fullIndex (PS.k x) (nowNs d) fr)
  if !d.lull && PB.valid w && PS.open x && fr != 0 && (dl < nowNs d || dl = nowNs d && !d.stepWaits g slot) then
    d.closeWindow g slot set
  else d)

/-- A step of station time sets `step` in every open set (R220); a set is open only once a sample has marked its bitmap. -/
def Dev.phasorStepped (d : Dev) : Dev :=
  d.ph.bits.foldl (fun d e =>
    let g := e.1 / 6144
    let slot := e.1 / 3 % 2048
    let x := d.blkWord g slot (3 + e.1 % 3)
    if PS.open x && !PS.step x then d.setBlkWord g slot (3 + e.1 % 3) (x + 2 ^ 21) else d) d

/-! ## The frame builder (R225 to R228) -/

/-- The valid bindings that name a state block. -/
def Dev.bindingsOf (d : Dev) (g slot : Nat) : List Nat :=
  (d.regs.filterMap (fun e => if 0xC40000 ≤ e.1 && e.1 < 0xC80000 then some ((e.1 - 0xC40000) / 8) else none)).filter (fun b =>
    d.on (R.PH_BIND b) F.PH_BIND_valid && d.rd (R.PH_BIND b) F.PH_BIND_gallery == g && d.rd (R.PH_BIND b) F.PH_BIND_slot == slot)

def Dev.outEmission (d : Dev) (o k : Nat) : Nat :=
  emissionNs (d.on (R.PH_OUT o) F.PH_OUT_f60) (d.rd (R.PH_OUT o) F.PH_OUT_fr) (d.rd (R.PH_OUT o) F.PH_OUT_hold_us) k

/-- A block reaches the builder for one binding: before its emission instant, or late. -/
def Dev.blockAt (d : Dev) (x : PmuBlock) (b : Nat) : Dev :=
  let o := b / 32
  if nowNs d < d.outEmission o x.k then
    let d := { d with ph := { d.ph with held := d.ph.held.upd [] b (· ++ [x]) } }
    if x.valid then { d with ph := { d.ph with lastFreq := d.ph.lastFreq.set none b (some x.freq) } } else d
  else (d.inc R.PH_STAT F.PH_STAT_late).inc (R.PH_OCNT o) F.PH_OCNT_late

/-- A PMU block meets every binding of its slot. -/
def Dev.blockMeets (d : Dev) (x : PmuBlock) : Dev := (d.bindingsOf x.g x.slot).foldl (fun d b => d.blockAt x b) d

/-- BLOCK_ARRIVE (R225): the oldest block on its way. -/
def execBlockArrive (s : State) : Outc := s.go (fun d =>
  if d.lull then d else
  match d.ph.transit with
  | [] => d
  | x :: r => ({ d with ph := { d.ph with transit := r } }).blockMeets x)

/-- STAT bits of the timebase (R223): [13], [8:6], [5:4]. -/
def Dev.timeStat (d : Dev) : Nat :=
  let st := d.tbSt
  let q := match st with | 2 => 1 | 3 => if d.holdMin ≤ 240 then 3 else 4 | _ => 7
  let since := match d.tb.leftAt with
    | none => 3
    | some t => let x := (d.now - t) / unitsPerSec; if x < 10 then 0 else if x < 100 then 1 else if x < 1000 then 2 else 3
  b2n (st == 0 || st == 1) * 2 ^ 13 + q * 2 ^ 6 + (if st = 2 then 0 else since) * 2 ^ 4

/-- A block as the data frame carries it (R227). -/
def pmuBytes (stat : Nat) (x : PmuBlock) : List Byte :=
  beBytes 2 stat ++ (List.range 8).flatMap (fun c => let p := x.phasors.getD c (nanS, nanS); beBytes 4 p.1 ++ beBytes 4 p.2)
    ++ beBytes 4 x.freq ++ beBytes 4 x.dfreq

/-- CRC-CCITT: polynomial 0x1021, initial value 0xFFFF. -/
def crcCcittBits : Nat → Nat → Nat
  | 0, c => c
  | n + 1, c => crcCcittBits n (if 0x8000 ≤ c then ((c * 2) ^^^ 0x1021) % 65536 else c * 2)
def crcCcitt (bs : List Byte) : Nat := bs.foldl (fun c b => crcCcittBits 8 (c ^^^ (b.toNat * 256))) 0xFFFF

/-- The time-quality byte (R227). -/
def Dev.timeQuality (d : Dev) : Nat :=
  let leap := d.rd R.TB_UTC F.TB_UTC_leap
  let at_ := d.rd R.TB_UTC F.TB_UTC_leap_tai
  let near := leap != 0 && (at_ + 2 ^ 32 - d.taiLow) % 2 ^ 32 ≤ 60
  let occurred := match d.tb.leapAt with | some t => decide (d.now < t + 86400 * unitsPerSec) | none => false
  b2n (leap == 2 || leap == 0 && occurred && d.tb.leapDel) * 64 + b2n occurred * 32 + b2n near * 16
    + (match d.tbSt with | 2 => 0 | 3 => if d.holdMin ≤ 240 then 5 else 6 | _ => 15)

/-- The data frame of an output and report (R227). -/
def Dev.pmuFrame (d : Dev) (o k : Nat) (blocks : List Byte) : List Byte :=
  let t := reportNs k (frOf (d.on (R.PH_OUT o) F.PH_OUT_f60) (d.rd (R.PH_OUT o) F.PH_OUT_fr))
  let soc := ((t / 1000000000 : Nat) : Int) - d.utcOffAt (t * 65536)
  let body := beBytes 2 0xAA02 ++ beBytes 2 (16 + blocks.length) ++ beBytes 2 (d.rd (R.PH_OUT o) F.PH_OUT_idcode)
    ++ beBytes 4 (ofSigned 32 soc) ++ beBytes 4 (d.timeQuality * 2 ^ 24 + t % 1000000000 / 1000) ++ blocks
  body ++ beBytes 2 (crcCcitt body)

/-- The ones'-complement sum of 16-bit words. -/
def sum16 : List Byte → Nat
  | [] => 0
  | [a] => a.toNat * 256
  | a :: b :: r => a.toNat * 256 + b.toNat + sum16 r
def foldSum (x : Nat) : Nat := fold16 (fold16 (fold16 x))

/-- Put bytes over others at an offset. -/
def overlay (bs : List Byte) (o : Nat) (x : List Byte) : List Byte := bs.take o ++ x ++ bs.drop (o + x.length)

/-- The template with lengths and checksums filled in (R227): UDP is its last 8 bytes, IPv4 the 20 before, IPv6 the 40 before. -/
def fillHeader (l4 : Nat) (h body : List Byte) : List Byte :=
  let u := h.length - 8
  let ulen := 8 + body.length
  let h := if l4 = 1 then
      let ip := h.length - 28
      let h := overlay (overlay h (ip + 2) (beBytes 2 (20 + ulen))) (ip + 10) [0, 0]
      overlay h (ip + 10) (beBytes 2 (65535 - foldSum (sum16 ((h.drop ip).take 20))))
    else h
  if l4 = 1 || l4 = 2 then
    let h := overlay (overlay h (u + 4) (beBytes 2 ulen)) (u + 6) [0, 0]
    let addrs := if l4 = 1 then (h.drop (u - 8)).take 8 else (h.drop (u - 32)).take 32
    let s := 65535 - foldSum (sum16 addrs + 17 + ulen + sum16 (h.drop u ++ body))
    overlay h (u + 6) (beBytes 2 (if s = 0 then 65535 else s))
  else h

/-- Count `n` missing blocks of an output. -/
def Dev.countMissing (d : Dev) (o n : Nat) : Dev := (d.inc R.PH_STAT F.PH_STAT_missing n).inc (R.PH_OCNT o) F.PH_OCNT_missing n

/-- The report an output has to send now: the newest whose emission instant has come, unless it is sent already. -/
def Dev.dueReport (d : Dev) (o : Nat) : Option Nat :=
  let fr := frOf (d.on (R.PH_OUT o) F.PH_OUT_f60) (d.rd (R.PH_OUT o) F.PH_OUT_fr)
  if fr = 0 || d.lull || !d.on (R.PH_OUT o) F.PH_OUT_en || !d.on R.PH_CFG F.PH_CFG_en then none
  else
    let n := nowNs d * fr / 1000000000
    match ((List.range 8).map (fun i => n + 1 - i)).find? (fun k => d.outEmission o k ≤ nowNs d) with
    | some k => if d.ph.sent.get none o = some k then none else some k
    | none => none

/-- The valid bindings of an output, in position order. -/
def Dev.outBinds (d : Dev) (o : Nat) : List Nat :=
  ((List.range 32).map (o * 32 + ·)).filter (fun b => d.on (R.PH_BIND b) F.PH_BIND_valid)

/-- The builder reserves the cells of one frame of an output that is enabled (R225, R334). -/
def Dev.outReserve (d : Dev) (o : Nat) : Dev :=
  (d.reserve 10 (tagBuilder o) ((d.rd (R.PH_OUT o) F.PH_OUT_hdr_len + 16 + 74 * (d.outBinds o).length + 4 + 255) / 256) false).2

/-- The builder sends one data frame (R225, R227): its cells are reserved, filled and handed to Crosscut on row 10, and the
reservation is renewed. -/
def Dev.emitReport (d : Dev) (o k : Nat) : Dev :=
  let bs := d.outBinds o
  let chg := b2n (d.on (R.PH_BIND (o * 32)) F.PH_BIND_cfg_chg) * 2 ^ 10
  let ts := d.timeStat
  let look (b : Nat) := (d.ph.held.get [] b).find? (fun x => x.k == k)
  let blocks := bs.flatMap (fun b =>
    match look b with
    | some x => pmuBytes (x.stat ||| ts ||| chg) x
    | none => pmuBytes (3 * 2 ^ 14 ||| ts ||| chg) { freq := nanS, dfreq := nanS })
  let missing := (bs.filter (fun b => (look b).isNone)).length
  let body := d.pmuFrame o k blocks
  let hdr := fillHeader (d.rd (R.PH_OUT o) F.PH_OUT_l4) (d.bytes (0xC20000 + o * 0x40) (d.rd (R.PH_OUT o) F.PH_OUT_hdr_len)) body
  let bytes := hdr ++ body
  let len := bytes.length + 4
  let cells := (len + 255) / 256
  let q := d.rd (R.PH_OUT o) F.PH_OUT_queue
  let col := d.rd (R.PH_OUT o) F.PH_OUT_dcol
  let held := fun (d : Dev) => { d with ph := { d.ph with sent := d.ph.sent.set none o (some k)
                                                          held := bs.foldl (fun h b => h.upd [] b (·.filter (fun x => k < x.k))) d.ph.held } }
  let d := held d
  let have_ := d.resvOf 10 (tagBuilder o)
  let (ok, d) := if cells ≤ have_ then (true, d) else d.reserve 10 (tagBuilder o) (cells - have_) false
  if !ok then d.countMissing o bs.length
  else
    match d.takeChain 10 (tagBuilder o) cells none with
    | (none, d) => d.countMissing o bs.length
    | (some p, d) =>
      let d := d.fillCells 10 (d.chainOf p) (bytes ++ [0, 0, 0, 0])
      let t : Tub := T.length.put (T.cell.put (T.in_port.put (T.tclass.put 0 q) 34) p) len
      let t := Tub.setDrop (Tub.setQueue (Tub.setCol (T.stamp.put t (stampOf d.now)) col) q) 0
      let d := ((d.inc R.PH_STAT F.PH_STAT_sent).inc (R.PH_OCNT o) F.PH_OCNT_sent).countMissing o missing
      let r : EnqReq := { src := 1, tub := t, orig := true, tag := tagBuilder o }
      let d := { d with xc := { d.xc with reqs := d.xc.reqs ++ [r] } }
      (d.reserve 10 (tagBuilder o) cells false).2

/-- FRAME_EMISSION o (R225). -/
def execFrameEmission (o : Fin 1024) (s : State) : Outc := s.go (fun d =>
  match d.dueReport o with
  | some k => d.emitReport o k
  | none => d)

/-- STAT bit 10 of an output (R228) shows in cfg_chg of its 32 bindings. -/
def Dev.setCfgChg (d : Dev) (o : Nat) (b : Bool) : Dev :=
  (List.range 32).foldl (fun d i => d.wr (R.PH_BIND (o * 32 + i)) F.PH_BIND_cfg_chg (b2n b)) d

/-- A binding of an output is made or removed (R228): STAT bit 10 shows it for 60 s, and the Overman updates CFG_COUNT. -/
def Dev.outChanged (d : Dev) (o : Nat) : Dev :=
  ({ d with ph := { d.ph with cfgCount := d.ph.cfgCount.upd 0 o (fun n => (n + 1) % 65536)
                              cfgAt := d.ph.cfgAt.set none o (some d.now) } }).setCfgChg o true

/-- The 60 s of R228 are over. -/
def Dev.cfgSettled (d : Dev) (o : Nat) : Bool :=
  match d.ph.cfgAt.get none o with
  | some t => decide (t + 60 * unitsPerSec ≤ d.now)
  | none => true

/-- CFG_CHG_END o (R228). -/
def execCfgChgEnd (o : Fin 1024) (s : State) : Outc := s.go (fun d => if d.cfgSettled o then d.setCfgChg o false else d)

/-- A binding has no FREQ yet: it is made or removed (R224). -/
def Dev.freqForget (d : Dev) (b : Nat) : Dev := { d with ph := { d.ph with lastFreq := d.ph.lastFreq.del b } }

/-! ## State blocks from the Overman (R224) -/

/-- The gallery that serves a binding: its affinity map's entry for the stream's domain (R215). -/
def Dev.bindGallery (d : Dev) (c : BindCopy) : Nat := d.rd (R.DR_AFF c.aff (crc32c (leBytes 2 c.dom) % 256)) F.DR_AFF_gallery

/-- Write a state block with its bitmaps clear. -/
def Dev.writeBlock (d : Dev) (g slot : Nat) (bs : List Byte) : Dev :=
  let d := [0, 1, 2].foldl (fun d i => d.setBitmap g slot i 0) d
  { (d.put (blockAddr g slot) (fit 512 bs)) with ph := { d.ph with closed := d.ph.closed.set [] (g * 2048 + slot) [] } }

/-- PHASOR_BLOCK_REWRITE b (R224, R231): valid and resync set, f_track and f_prev from the builder's last valid FREQ. -/
def execPhasorBlockRewrite (b : Fin 32768) (s : State) : Outc := s.go (fun d =>
  if !d.ph.rewrite.contains b.val then d
  else
    let d := { d with ph := { d.ph with rewrite := d.ph.rewrite.erase b.val } }
    match d.ph.copies.find b with
    | none => d
    | some c =>
      if !d.on (R.PH_BIND b) F.PH_BIND_valid then d
      else
        let g := d.bindGallery c
        let d := d.wr (R.PH_BIND b) F.PH_BIND_gallery g
        let w := leNat (c.block.take 8)
        let f := match d.ph.lastFreq.get none b with
          | some f => f
          | none => singleR ((f0Of (PB.f60 w) : Int) * one80) false
        let w0 := withBit (withBit w 63 true) 62 true
        let blk := leBytes 8 w0 ++ leBytes 8 (f * 2 ^ 32 + (realOf f / 2 ^ 55).toNat % 2 ^ 32) ++ List.replicate 48 0 ++ (c.block.drop 64).take 32
        d.writeBlock g (d.rd (R.PH_BIND b) F.PH_BIND_slot) blk)

end Sys2Proof.Machine
end

