-- ==== Sys2Proof/Machine/HostOps.lean ====
section
/-!
DEFINITION. Queue pairs, MSI-X messages and column 8, as operations (R341 to R358).
-/

namespace Sys2Proof.Machine

def Dev.modHi (d : Dev) (f : HostIf → HostIf) : Dev := { d with hi := f d.hi }

/-! ## Functions and interrupts (R341, R343, R354) -/

/-- A function exists (R341). -/
def Dev.fnExists (d : Dev) (fn : Nat) : Bool := fn == 0 || (d.hi.vfEn && decide (fn ≤ d.hi.numVfs))

/-- A function makes DMA (R352). -/
def Dev.fnDma (d : Dev) (fn : Nat) : Bool := d.fnExists fn && d.hi.bme.get false fn && !d.hi.d3.get false fn && !d.hi.perst

/-- A request to a function that came outside its secure IDE stream is refused (R357). -/
def Dev.ideRefused (d : Dev) (fn : Nat) (inside : Bool) : Bool := d.hi.ide.get 0 fn == 1 && !inside

/-- Where an entry of a function's MSI-X table stands, and its PBA (R343). -/
def msixAddr (fn e : Nat) : Nat := (if fn = 0 then 0xD80000 else 2 ^ 32 + fn * 0x4000 + 0x1000) + 16 * e
def pbaAddr (fn e : Nat) : Nat := (if fn = 0 then 0xDC0000 else 2 ^ 32 + fn * 0x4000 + 0x1800) + e / 8
def msixSize (fn : Nat) : Nat := if fn = 0 then 1040 else 128

def Dev.msixMasked (d : Dev) (fn e : Nat) : Bool := (d.byte (msixAddr fn e + 12)).toNat % 2 == 1
def Dev.pba (d : Dev) (fn e : Nat) : Bool := bitAt (d.byte (pbaAddr fn e)).toNat (e % 8)
def Dev.setPba (d : Dev) (fn e : Nat) (b : Bool) : Dev :=
  d.put (pbaAddr fn e) [BitVec.ofNat 8 (withBit (d.byte (pbaAddr fn e)).toNat (e % 8) b)]

/-- Send an entry's message, or set its PBA bit when it is masked (R354). -/
def Dev.msix (d : Dev) (fn e : Nat) : Dev :=
  if !d.fnDma fn then d else if d.msixMasked fn e then d.setPba fn e true else d.out (.msix fn e)

/-- An entry is unmasked: a pending message is sent. -/
def Dev.msixUnmask (d : Dev) (fn e : Nat) : Dev :=
  let b := (d.byte (msixAddr fn e + 12)).toNat
  let d := d.put (msixAddr fn e + 12) [BitVec.ofNat 8 (b / 2 * 2)]
  if d.pba fn e && d.fnDma fn then (d.setPba fn e false).out (.msix fn e) else d

/-! ## Queue pairs (R345, R346, R351, R352) -/

def Dev.pairFn (d : Dev) (q : Nat) : Nat := d.rd (R.HI_QCFG q) F.HI_QCFG_fn
def Dev.pairAsg (d : Dev) (q : Nat) : Bool := d.on (R.HI_QCFG q) F.HI_QCFG_asg
/-- A pair makes DMA. -/
def Dev.pairDma (d : Dev) (q : Nat) : Bool := d.pairAsg q && d.fnDma (d.pairFn q)

/-- The pair behind a local index of a function. -/
def Dev.pairAt (d : Dev) (fn i : Nat) : Option Nat :=
  (List.range 1024).find? (fun q => d.pairAsg q && d.pairFn q == fn && d.rd (R.HI_QCFG q) F.HI_QCFG_lidx == i)

def ringSize (code : Nat) : Nat := 2 ^ (6 + code)
def Dev.rxSize (d : Dev) (q : Nat) : Nat := ringSize (d.rd (R.HI_QCFG q) F.HI_QCFG_rx_size)
def Dev.txSize (d : Dev) (q : Nat) : Nat := ringSize (d.rd (R.HI_QCFG q) F.HI_QCFG_tx_size)

def Dev.rxSt (d : Dev) (q : Nat) : Nat := d.rd (R.HI_QSTAT q) F.HI_QSTAT_rx_state
def Dev.txSt (d : Dev) (q : Nat) : Nat := d.rd (R.HI_QSTAT q) F.HI_QSTAT_tx_state
def Dev.setRxSt (d : Dev) (q s : Nat) : Dev := d.wr (R.HI_QSTAT q) F.HI_QSTAT_rx_state s
def Dev.setTxSt (d : Dev) (q s : Nat) : Dev := d.wr (R.HI_QSTAT q) F.HI_QSTAT_tx_state s

/-- Posted descriptors of a ring: (tail − head) mod size. -/
def Dev.rxPosted (d : Dev) (q : Nat) : Nat :=
  (d.rd (R.HI_QIDX q) F.HI_QIDX_rx_tail + d.rxSize q - d.rd (R.HI_QIDX q) F.HI_QIDX_rx_head % d.rxSize q) % d.rxSize q
def Dev.txPosted (d : Dev) (q : Nat) : Nat :=
  (d.rd (R.HI_QIDX q) F.HI_QIDX_tx_tail + d.txSize q - d.rd (R.HI_QIDX q) F.HI_QIDX_tx_head % d.txSize q) % d.txSize q

/-- Bytes of a receive buffer (R349). -/
def Dev.rxBuf (d : Dev) (q : Nat) : Nat :=
  let b := d.rd (R.HI_QCFG q) F.HI_QCFG_rx_buf
  (if b = 0 then 64 else b) * 256

/-- Column 8 keeps one FIFO for each queue pair (R350). -/
def hostKey (qp : Nat) : Nat := 512 + qp

/-- The length that column 8 delivers: the frame as the editor would send it, without its FCS (R350, R314). -/
def Desc.hostLen (x : Desc) : Nat :=
  let n := x.mergedLen - 4
  (if x.trunc = 0 then n else n.min (x.trunc * 64)).max 60

/-- Receive descriptors that a frame takes (R349). -/
def Dev.rxNeed (d : Dev) (q : Nat) (x : Desc) : Nat := (x.hostLen + d.rxBuf q - 1) / d.rxBuf q

/-- Free the frames that wait at column 8 for a pair, counted in a field of the pair. -/
def Dev.freeHostQ (d : Dev) (q : Nat) (f : Fld) : Dev :=
  let l := d.pqQ (hostKey q)
  ((d.setPq (hostKey q) []).descEnds l).inc (R.HI_QSTAT q) f l.length

/-- The head of a pair's FIFO: a frame too large for the ring is freed, and one that lacks descriptors makes a running pair
STARVED (R350, R352). -/
def Dev.hostHead (d : Dev) (q : Nat) : Nat → Dev
  | 0 => d
  | n + 1 =>
    match d.pqQ (hostKey q) with
    | [] => d
    | x :: r =>
      let need := d.rxNeed q x
      if d.rxSize q - 1 < need then
        ((((d.setPq (hostKey q) r).descEnd x).inc (R.HI_QSTAT q) F.HI_QSTAT_rx_drop)).hostHead q n
      else if d.rxSt q = 1 && d.rxPosted q < need then
        (d.setRxSt q 2).modHi (fun h => { h with starved := h.starved.set 0 q d.now })
      else d

/-- A frame reaches column 8 (R350 to R352). -/
def Dev.hostArrive (d : Dev) (x : Desc) : Dev :=
  let q := x.qp
  if !d.pairAsg q then (d.descEnd x).inc R.HI_ERR F.HI_ERR_rx_noq
  else if d.rxSt q = 3 then (d.descEnd x).inc (R.HI_QSTAT q) F.HI_QSTAT_wd_drop
  else if d.rxSt q = 0 || d.rxSt q = 4 || !d.pairDma q then (d.descEnd x).inc (R.HI_QSTAT q) F.HI_QSTAT_rx_drop
  else
    let l := d.pqQ (hostKey q) ++ [x]
    (d.setPq (hostKey q) l).hostHead q l.length

/-- Frames of a pair that the transmit engine holds are dropped. -/
def Dev.dropHeld (d : Dev) (p : Nat → Bool) : Dev :=
  let hs := d.frames.filter (fun e => e.2.inPort == 32 && (e.2.stage == .held || (e.2.stage == .wire && e.2.pass == 0)) && p e.2.txQp)
  hs.foldl (fun d e =>
    let d := match e.2.cell with | some c => d.freeChain c | none => d
    { d with frames := d.frames.del e.1 }) d

/-- The receive direction stops (R352). -/
def Dev.stopRx (d : Dev) (q : Nat) : Dev :=
  let d := (d.freeHostQ q F.HI_QSTAT_rx_drop).setRxSt q 0
  { d with bn := { d.bn with posted := d.bn.posted.set 0 q 0 } }

def Dev.stopTx (d : Dev) (q : Nat) : Dev := (d.dropHeld (· == q)).setTxSt q 0

/-- A queue enters ERROR (R352): a record and the error vector; frames that wait are freed as in STOPPED. -/
def Dev.queueError (d : Dev) (q : Nat) (tx : Bool) : Dev :=
  let d := if tx then (d.dropHeld (· == q)).setTxSt q 4 else (d.freeHostQ q F.HI_QSTAT_rx_drop).setRxSt q 4
  ((d.inc R.HI_ERR F.HI_ERR_dma_err).tally 0x0E02 q).msix (d.pairFn q) 0

/-- A write of HI_QCFG that is refused (R345). -/
def Dev.qcfgBad (d : Dev) (q : Nat) (v : Word64) : Bool :=
  let old := d.rget (R.HI_QCFG q)
  let same (f : Fld) : Bool := f.get old == f.get v
  let busy := F.HI_QCFG_tx_en.get old = 1 || F.HI_QCFG_rx_en.get old = 1
  let moved := !(same F.HI_QCFG_asg && same F.HI_QCFG_fn && same F.HI_QCFG_lidx && same F.HI_QCFG_rx_buf && same F.HI_QCFG_rx_size && same F.HI_QCFG_tx_size)
  let asg := F.HI_QCFG_asg.get v = 1
  let taken := (List.range 1024).any (fun p => p != q && d.pairAsg p && d.pairFn p == F.HI_QCFG_fn.get v && d.rd (R.HI_QCFG p) F.HI_QCFG_lidx == F.HI_QCFG_lidx.get v)
  (busy && moved) || (asg && taken) || decide (msixSize (F.HI_QCFG_fn.get v) ≤ F.HI_QCFG_vec.get v)
      || decide (10 < F.HI_QCFG_rx_size.get v) || decide (10 < F.HI_QCFG_tx_size.get v)

/-- A write of HI_QCFG (R345, R352): false, it is refused and sets HI_CFG.err. -/
def Dev.qcfgWrite (d : Dev) (q : Nat) (v : Word64) : Bool × Dev :=
  let old := d.rget (R.HI_QCFG q)
  if d.qcfgBad q v then (false, d.wr R.HI_CFG F.HI_CFG_err 1)
  else
    let d := d.rset (R.HI_QCFG q) v
    let en := d.on R.HI_CFG F.HI_CFG_en
    let d := if F.HI_QCFG_rx_en.get v = 0 then (if F.HI_QCFG_rx_en.get old = 1 then d.stopRx q else d)
      else if en && d.rxSt q = 0 then d.setRxSt q 1 else d
    let d := if F.HI_QCFG_tx_en.get v = 0 then (if F.HI_QCFG_tx_en.get old = 1 then d.stopTx q else d)
      else if en && d.txSt q = 0 then d.setTxSt q 1 else d
    (true, d)

/-- A completion of a pair waits for its message (R354). -/
def Dev.completed (d : Dev) (q : Nat) : Dev :=
  let n := d.hi.done.get 0 q
  d.modHi (fun h => { h with done := h.done.set 0 q (n + 1), doneAt := if n = 0 then h.doneAt.set 0 q d.now else h.doneAt })

/-- A pair sends its message. -/
def Dev.pairMessage (d : Dev) (q : Nat) : Dev :=
  (d.modHi (fun h => { h with done := h.done.set 0 q 0 })).msix (d.pairFn q) (d.rd (R.HI_QCFG q) F.HI_QCFG_vec)

/-- Host address of a descriptor of a ring. -/
def Dev.txAddr (d : Dev) (q i : Nat) : Nat := d.rd (R.HI_QTXBASE q) F.HI_QTXBASE_base * 64 + 32 * i
def Dev.rxAddr (d : Dev) (q i : Nat) : Nat := d.rd (R.HI_QRXBASE q) F.HI_QRXBASE_base * 64 + 32 * i

/-- The transmit descriptor at the head is written back (R347, R353). -/
def Dev.txBack (d : Dev) (q desc status stamp : Nat) : Dev :=
  let i := d.rd (R.HI_QIDX q) F.HI_QIDX_tx_head % d.txSize q
  let d := d.out (.hostWrite (d.txAddr q i) (leBytes 32 (desc + 2 ^ 255 + status * 2 ^ 252 + stamp % 2 ^ 56 * 2 ^ 192)) false)
  (d.wr (R.HI_QIDX q) F.HI_QIDX_tx_head ((i + 1) % d.txSize q)).completed q

/-- A host frame enters its pipe: its descriptor is written back with status 0 (R348). -/
def Dev.txPassed (d : Dev) (f : Frame) : Dev :=
  if d.pairDma f.txQp && d.txSt f.txQp = 1 then (d.txBack f.txQp f.txDesc 0 f.stamp).inc (R.HI_QCNT f.txQp) F.HI_QCNT_tx_frames else d

/-- In Lull the link runs at 8 GT/s and four lanes at most (R441). -/
def Dev.lullLink (d : Dev) : Dev :=
  if !d.on R.HI_LINK F.HI_LINK_up then d
  else
    let sp := d.rd R.HI_LINK F.HI_LINK_speed
    let w := d.rd R.HI_LINK F.HI_LINK_width
    let d := (d.wr R.HI_LINK F.HI_LINK_speed (sp.min 3)).wr R.HI_LINK F.HI_LINK_width (w.min 4)
    { d with pw := { d.pw with link := some (sp, w) } }

/-- After Lull the link goes back to the rate and width it had (R444). -/
def Dev.runLink (d : Dev) : Dev :=
  let d := match d.pw.link with
    | some (sp, w) =>
      if d.on R.HI_LINK F.HI_LINK_up then (d.wr R.HI_LINK F.HI_LINK_speed sp).wr R.HI_LINK F.HI_LINK_width w else d
    | none => d
  { d with pw := { d.pw with link := none } }

/-- A frame of pair q stands in pipe p and has not left it (R442). -/
def Dev.txHeld (d : Dev) (q p : Nat) : Bool :=
  d.frames.any (fun e => e.2.inPort == 32 && e.2.txQp == q && e.2.pipe == p && e.2.pass == 0
    && [.wire, .fifo, .parsing, .parsed, .excepted].contains e.2.stage)

/-- The pipe of a pair's transmit frames (R73, R442): lull_pipe in Lull, and after it until that pipe holds none of the ring's frames. -/
def Dev.txPipe (d : Dev) (q : Nat) : Nat :=
  let lp := d.rd R.PW_CFG F.PW_CFG_lull_pipe
  let home := if q % 2 = 0 then 0 else 2
  if d.lull || d.txHeld q lp then lp else home

/-- Row-8 cells for a held host frame (R348): all of them, or the frame stays held. -/
def Dev.txCells (d : Dev) (h : Nat) : Dev :=
  match d.frames.find h with
  | none => d
  | some f =>
    let n := (f.data.length + 255) / 256
    -- ALLOC asks for unreserved cells and the quota alone (R328)
    match d.reserve 8 (tagHost f.txQp) n true with
      | (false, _) => d.modHi (fun k => { k with tried := k.tried.set 0 f.txQp d.now })
      | (true, d') =>
        match d'.takeChain 8 (tagHost f.txQp) n none with
        | (some p, d) =>
          let d := d.fillCells 8 (d.chainOf p) f.data
          d.setFrame h { f with stage := .wire, cell := some p, stored := f.data.length, pipe := d.txPipe f.txQp }
        | (none, _) => d

/-! ## Grants and the Cage areas (R361, R367) -/

/-- A grant ends: one record and event 0x03. -/
def Dev.grantEnd (d : Dev) (k : Nat) : Dev :=
  if !d.on (R.CG_GRANT k) F.CG_GRANT_valid then d
  else
    let fn := d.rd (R.CG_GRANT k) F.CG_GRANT_fn
    ((d.rset (R.CG_GRANT k) 0).tally 0x0E03 fn [0]).event 0x03 fn 0

/-- The grant that a function holds. -/
def Dev.grantOf (d : Dev) (fn : Nat) : Option Nat :=
  (List.range 4).find? (fun k => d.on (R.CG_GRANT k) F.CG_GRANT_valid && d.rd (R.CG_GRANT k) F.CG_GRANT_fn == fn)

/-- A function's grant is in force: its lease has not ended. -/
def Dev.granted (d : Dev) (fn : Nat) : Bool :=
  match d.grantOf fn with
  | some k => decide ((d.rd (R.CG_GRANT k) F.CG_GRANT_lease_end + 2 ^ 32 - secOf d.now % 2 ^ 32) % 2 ^ 32 < 2 ^ 31)
      && d.rd (R.CG_GRANT k) F.CG_GRANT_lease_end != secOf d.now % 2 ^ 32
  | none => false

/-- Cage area of a function: its base in memory and in the register file. -/
def cageBase (fn : Nat) : Nat := 2 ^ 32 + fn * 0x4000

/-- A function's Cage mailbox returns to reset (R356, R358): area, control words, event mask. -/
def Dev.cageReset (d : Dev) (fn : Nat) : Dev :=
  let d := d.wipe (cageBase fn) (cageBase fn + 0x1000)
  let d := [R.CG_DOOR fn, R.CG_STAT fn, R.CG_EVIDX fn, R.CG_EVLOST fn].foldl (fun d r => d.rset r r.reset) d
  { d with cg := { d.cg with masks := d.cg.masks.set none fn none, lost := d.cg.lost.filter (· != fn) } }

/-- A function's MSI-X table and PBA return to reset. -/
def Dev.msixReset (d : Dev) (fn : Nat) : Dev :=
  if fn = 0 then (d.wipe 0xD80000 0xD84100).wipe 0xDC0000 0xDC0090 else d.wipe (2 ^ 32 + fn * 0x4000 + 0x1000) (2 ^ 32 + fn * 0x4000 + 0x2000)

/-- Function-level reset (R356, R367, R368). -/
def Dev.flr (d : Dev) (fn : Nat) : Dev :=
  let qs := (List.range 1024).filter (fun q => d.pairAsg q && d.pairFn q == fn)
  let stop (d : Dev) (q : Nat) : Dev :=
    let d := (d.stopRx q).stopTx q
    let d := (d.wr (R.HI_QCFG q) F.HI_QCFG_rx_en 0).wr (R.HI_QCFG q) F.HI_QCFG_tx_en 0
    d.modHi (fun h => { h with done := h.done.set 0 q 0 })
  let d := qs.foldl stop d
  let d := if h : fn < 64 then d.binReclaim (.function ⟨fn, h⟩) else d
  let d := (d.msixReset fn).cageReset fn
  let d := match d.grantOf fn with | some k => d.grantEnd k | none => d
  let d := { d with cg := { d.cg with base := d.cg.base.filter (fun e => e.1 / 2 ^ 40 != fn) } }
  d.modHi (fun h => { h with ide := h.ide.set 0 fn 0 })

end Sys2Proof.Machine
end

