-- ==== Sys2Proof/Machine/Crosscut.lean ====
section
/-!
DEFINITION. The commands of Crosscut between a released tub and a port's queues (R303 to R321).
-/

namespace Sys2Proof.Machine

/-- The oldest waiting request of the source that goes first (R309). -/
def Dev.nextReq (d : Dev) : Option EnqReq :=
  ([0, 1, 2, 3].filterMap (fun s => d.xc.reqs.find? (fun r => r.src == s))).head?

/-- One enqueue request; a target at column 9 waits for Eddy. -/
def Dev.enqueueOne (d : Dev) (r : EnqReq) : Dev :=
  let d := { d with xc := { d.xc with reqs := d.xc.reqs.erase r } }
  let (eddy, d) := d.enqueue r
  if eddy then { d with xc := { d.xc with eddy := d.xc.eddy ++ [r] } } else d

/-- ENQUEUE_REQUEST (R304 to R309). -/
def execEnqueueRequest (s : State) : Outc := s.go (fun d =>
  match d.nextReq with
  | some r => d.enqueueOne r
  | none => d)

/-- A descriptor arrives at its port's queue, or at the queue of the port's pair (R42): hstate 1 and watchdog discard free it at once
(R316, R318). -/
def Dev.arrive (d : Dev) (col : Nat) (x : Desc) : Dev :=
  let q := D.queue.get x.w
  let x := if col < 8 then { x with port := d.pairHome x.port } else x
  if col < 8 && d.hstate x.port == 1 then (d.descEnd x).inc (R.XC_PCNT x.port) F.XC_PCNT_link_drop
  else if col < 8 && d.hstate x.port == 0 && bitAt (d.rd (R.PT_PSTAT x.port) F.PT_PSTAT_pause_wd_mask) q then
    (d.descEnd x).inc (R.XC_PORT x.port) F.XC_PORT_wd_drop
  else if col = 8 then d.hostArrive x
  else
    let k := pqKey col x.port q
    let d := d.setPq k (d.pqQ k ++ [x])
    if col < 8 then d.syncQueued x.port else d

/-- COLUMN_MOVE (R312): class 7 first, the others in rotation. -/
def execColumnMove (col : Fin 12) (s : State) : Outc := s.go (fun d =>
  match d.pickMove col with
  | none => d
  | some i =>
    let k := xpKey (i / 96) (i / 8 % 12) col (i % 8)
    match d.xpQ k with
    | [] => d
    | x :: r =>
      let d := d.setXp k r
      let d := if i % 8 = 7 then d else { d with xc := { d.xc with turn := d.xc.turn.set 191 col i } }
      d.arrive col x)

/-- HOLD_WINDOW_END (R317): the window ends before UP. -/
def execHoldWindowEnd (p : Fin 32) (s : State) : Outc :=
  s.go (fun d => if d.hstate p = 2 && d.xc.holdEnd.get 0 p ≤ d.now then d.toDiscard p F.XC_PCNT_hold_drop else d)

/-- PLANE_MOVE_DONE (R310). -/
def execPlaneMoveDone (e : Fin 64) (s : State) : Outc := s.go (fun d =>
  let m := (d.rget R.XC_PLMOVE).toNat
  if bitAt m e && !d.oldPlaneHolds e then d.rset R.XC_PLMOVE (BitVec.ofNat 64 (withBit m e false)) else d)

/-! ## Threshold tuning (R321) -/

/-- Write a class's k. -/
def Dev.setK (d : Dev) (row cls : Nat) (k : Int) : Dev :=
  let v := d.rd (R.XC_ROWTHR row) F.XC_ROWTHR_alpha_exp
  (d.wr (R.XC_ROWTHR row) F.XC_ROWTHR_alpha_exp (v - bitsOf v (4 * cls) 4 * 2 ^ (4 * cls) + ofSigned 4 k * 2 ^ (4 * cls))).policyChange 2
    (ofSigned 32 k) (row * 8 + cls)

/-- One row's tuning step. -/
def Dev.tuneRow (d : Dev) (row : Nat) : Dev :=
  let auto := (List.range 8).filter (fun c => bitAt (d.rd (R.XC_ROWTHR row) F.XC_ROWTHR_auto) c)
  let low := (d.xc.freeMin.get none row).getD (d.rowF row)
  let top := auto.foldl (fun m c => if m < d.alphaK row c then d.alphaK row c else m) (-8)
  if rowCells row < low * 4 then
    (auto.filter (fun c => 0 < d.xc.refused.get 0 (row * 8 + c) && d.alphaK row c < 3)).foldl (fun d c => d.setK row c (d.alphaK row c + 1)) d
  else if low * 16 < rowCells row then
    (auto.filter (fun c => d.alphaK row c == top && -5 < d.alphaK row c)).foldl (fun d c => d.setK row c (d.alphaK row c - 1)) d
  else d

/-- THRESHOLD_TUNE (R321, R475): suspended in Lull and in fixed mode; the figures of the period start again. -/
def execThresholdTune (s : State) : Outc := s.go (fun d =>
  let d := if d.policyOn 2 then (List.range 12).foldl Dev.tuneRow d else d
  { d with xc := { d.xc with refused := [], freeMin := [] } })

/-! ## Capture (R320) -/

/-- The 32-byte header of a capture record. -/
def Dev.capHeader (d : Dev) (x : Desc) (cap : Nat) : List Byte :=
  let stamp := if x.dir = 0 then D.stamp.get x.w else stampOf d.now
  leBytes 32 (D.tclass.get x.w * 2 ^ 183 + D.queue.get x.w * 2 ^ 180 + x.seq % 2 ^ 20 * 2 ^ 160 + x.dom % 2 ^ 16 * 2 ^ 144
    + (if x.dir = 1 then x.port else 63) * 2 ^ 116 + D.in_port.get x.w * 2 ^ 110 + b2n (cap < x.mergedLen) * 2 ^ 109 + x.dir * 2 ^ 107
    + D.session.get x.w * 2 ^ 103 + cap % 2 ^ 14 * 2 ^ 82 + x.mergedLen % 2 ^ 14 * 2 ^ 64 + stamp)

/-- Units of the ring in use. -/
def Dev.capUsed (d : Dev) : Nat := (d.rd R.XC_CAPIDX F.XC_CAPIDX_wr_idx + 2 ^ 32 - d.rd R.XC_CAPIDX F.XC_CAPIDX_rd_idx) % 2 ^ 32

/-- Advance rd_idx past whole oldest records until `u` units fit. -/
def Dev.capRoom (d : Dev) (u size : Nat) : Nat → Dev
  | 0 => d
  | n + 1 =>
    if u + d.capUsed ≤ size then d
    else
      match d.xc.capRecs with
      | [] => d
      | k :: r =>
        let d := { d with xc := { d.xc with capRecs := r } }
        (d.wr R.XC_CAPIDX F.XC_CAPIDX_rd_idx ((d.rd R.XC_CAPIDX F.XC_CAPIDX_rd_idx + k) % 2 ^ 32)).capRoom u size n

/-- What is left of the records of a ring when software has read `n` units on. -/
def skipRecs : Nat → List Nat → List Nat
  | _, [] => []
  | n, k :: r => if k ≤ n then skipRecs (n - k) r else (k - n) :: r

/-- A write of XC_CAPIDX moves the read index (R320). -/
def Dev.capRead (d : Dev) (old new : Nat) : Dev := { d with xc := { d.xc with capRecs := skipRecs ((new + 2 ^ 32 - old) % 2 ^ 32) d.xc.capRecs } }

/-- Write bytes into the ring at a unit, wrapping at its end; false: a write met fence status. -/
def Dev.capPut (d : Dev) (base size : Nat) : Nat → Nat → List Byte → Bool × Dev
  | 0, _, _ => (true, d)
  | n + 1, i, bs =>
    let w := d.smWrite 3 (base + i % size * 64) (fit 64 (bs.take 64))
    if w.1 then w.2.capPut base size n (i + 1) (bs.drop 64) else w

/-- The bytes a capture record takes: the stored frame with its FCS as received, or the frame as sent with the FCS a MAC
appends (DEDUCED from the example of chapter 14, log entry 45). -/
def Dev.capBytes (d : Dev) (x : Desc) : List Byte :=
  x.cut (if x.dir = 0 then d.frameBytes (ptrOf (D.row.get x.w) (D.bcell.get x.w)) (D.length.get x.w)
    else d.mergedBytes x ++ leBytes 4 (crc32 (d.mergedBytes x)))

/-- A capture record of `u` units goes into the ring at its write index; a write that met fence status loses it. -/
def Dev.capStore (d : Dev) (x : Desc) (bytes : List Byte) (size u : Nat) : Dev :=
  let i := d.rd R.XC_CAPIDX F.XC_CAPIDX_wr_idx
  let w := d.capPut (d.rd R.XC_CAPRING F.XC_CAPRING_base * 4096) size u i (d.capHeader x bytes.length ++ bytes)
  if w.1 then
    let d : Dev := { w.2 with xc := { w.2.xc with capRecs := w.2.xc.capRecs ++ [u] } }
    ((d.wr R.XC_CAPIDX F.XC_CAPIDX_wr_idx ((i + u) % 2 ^ 32)).inc R.XC_CAPSTAT F.XC_CAPSTAT_written).descEnd x
  else (w.2.inc R.XC_CAPSTAT F.XC_CAPSTAT_lost).descEnd x

/-- A descriptor of the capture column is written, or lost where the ring has no room for it. -/
def Dev.capTake (d : Dev) (x : Desc) : Dev :=
  if !x.pairsGood then ((d.inc R.XC_ERR F.XC_ERR_cmpl_eg).tally 0x0C01 10 [1]).descEnd x
  else
    let bytes := d.capBytes x
    let u := (32 + bytes.length + 63) / 64
    let size := 2 ^ d.rd R.XC_CAPRING F.XC_CAPRING_size_log2 / 64
    let d := if d.on R.XC_CAPRING F.XC_CAPRING_wrap then d.capRoom u size (d.xc.capRecs.length + 1) else d
    if !d.on R.XC_CAPRING F.XC_CAPRING_en || size < u + d.capUsed then (d.inc R.XC_CAPSTAT F.XC_CAPSTAT_lost).descEnd x
    else d.capStore x bytes size u

/-- CAPTURE_WRITE (R320): the oldest copy at column 10. -/
def execCaptureWrite (s : State) : Outc := s.go (fun d =>
  match d.pqQ (pqKey 10 0 0) with
  | [] => d
  | x :: r => (d.setPq (pqKey 10 0 0) r).capTake x)

end Sys2Proof.Machine
end

