-- ==== Sys2Proof/Machine/Egress.lean ====
section
/-!
DEFINITION. A port's transmit side: gates, shapers, preemption, the egress editor and its redundancy, PTP and MACsec
work (R35 to R47, R313, R314, R317).
-/

namespace Sys2Proof.Machine

/-- Rate of a port in Mb/s (R28). -/
def Dev.portRate (d : Dev) (p : Nat) : Nat :=
  (match d.rd (R.PT_PCFG p) F.PT_PCFG_lane_rate with | 0 => 1000 | 1 => 10000 | 2 => 25000 | 3 => 50000 | _ => 100000) * d.portLanes p

/-- Time on the wire of `n` bytes with preamble, in 2^-16 ns. -/
def Dev.wireTime (d : Dev) (p n : Nat) : Nat := (n + 8) * 8 * 65536000 / d.portRate p

/-! ## Gates (R44, R46, R68) -/

/-- The entry whose window holds an offset into the cycle, and the offset of its end. -/
def walkGates : List (Nat × Nat) → Nat → Nat → Nat → Nat × Nat
  | [], i, acc, _ => (i, acc)
  | e :: r, i, acc, pos =>
    let stop := acc + e.2 * 8 * 65536
    if pos < stop then (i, stop) else walkGates r (i + 1) stop pos

/-- The entry in force at an instant and the instant of its end. -/
def Port.gateAt (x : Port) (t : Nat) : Nat × Nat :=
  let pos := (t - x.runBase) % x.runCycle.max 1
  let (i, stop) := walkGates x.run 0 0 pos
  let cyc := (i, t - pos + stop)
  match x.keep with
  | some (e, u) => if t < u then (e, u) else cyc
  | none => cyc

def Port.gates (x : Port) (i : Nat) : Nat := ((x.run[i]?).map (·.1)).getD 255

/-- The gate of a queue is open at an instant. -/
def Port.gateOpen (x : Port) (t q : Nat) : Bool := x.run.isEmpty || bitAt (x.gates (x.gateAt t).1) q

/-- The instant at which an open gate closes, looking on from entry `i` that begins at `t`; none: it stays open. -/
def Port.closeFrom (x : Port) (q : Nat) : Nat → Nat → Nat → Option Nat
  | 0, _, _ => none
  | n + 1, i, t =>
    if bitAt (x.gates i) q then x.closeFrom q n ((i + 1) % x.run.length.max 1) (t + ((x.run[i]?).map (·.2)).getD 1 * 8 * 65536)
    else some t

def Port.closesAt (x : Port) (t q : Nat) : Option Nat :=
  if x.run.isEmpty then none
  else
    let (i, stop) := x.gateAt t
    let nxt := match x.keep with
      | some (_, u) => if t < u then 0 else (i + 1) % x.run.length
      | none => (i + 1) % x.run.length
    x.closeFrom q x.run.length nxt stop

/-! ## Shapers (R43) -/

def Dev.qmode (d : Dev) (p q : Nat) : Nat := d.rd (R.PT_QSCH p q) F.PT_QSCH_mode

/-- Preemption is active on a port (R45): on, and its verify procedure has succeeded or is skipped. -/
def Dev.preOn (d : Dev) (p : Nat) : Bool :=
  d.on (R.PT_PCFG p) F.PT_PCFG_pre_en && (d.on (R.PT_PCFG p) F.PT_PCFG_verify_dis || Config.verified p (d.port p).linkUps)

/-- A queue's traffic is preemptable (R45). -/
def Dev.preemptable (d : Dev) (p q : Nat) : Bool := d.on (R.PT_QSCH p q) F.PT_QSCH_preemptable && d.preOn p

/-- The minimum fragment of a port in bytes (R45). -/
def Dev.minFrag (d : Dev) (p : Nat) : Nat := 64 * (1 + d.rd (R.PT_PCFG p) F.PT_PCFG_add_frag)

/-- CBS credit up to now: earned while the queue waits, spent while it sends. -/
def Dev.shape (d : Dev) (p : Nat) : Dev :=
  let x := d.port p
  let dt : Int := (d.now - x.creditAt : Nat)
  let rate : Int := d.portRate p
  let cr := (List.range 8).map (fun q =>
    let c := x.credit.getD q 0
    let slope : Int := d.rd (R.PT_QSCH p q) F.PT_QSCH_idle_slope
    if d.qmode p q ≠ 2 then 0
    else if x.sending.map (·.2) == some q then c - (rate - slope) * dt
    else if !(d.pqQ (p * 8 + q)).isEmpty || x.frag.map (·.2) == some q then c + slope * dt
    else if c < 0 then (if c + slope * dt < 0 then c + slope * dt else 0)
    else 0)
  d.modPort p (fun x => { x with credit := cr, creditAt := d.now })

/-- The frame a queue would send next: the rest of a preempted frame, or its head. -/
def Dev.headOf (d : Dev) (p q : Nat) : Option Desc :=
  match (d.port p).frag with
  | some (x, k) => if k = q then some x else (d.pqQ (p * 8 + q)).head?
  | none => (d.pqQ (p * 8 + q)).head?

/-- The bytes a frame takes on the wire: padded, with its FCS, the trailer or tag of a pair (R42), an R-tag and MACsec's bytes. -/
def Dev.wireLen (d : Dev) (p : Nat) (x : Desc) : Nat :=
  x.mergedLen.max 60 + 4 + (if (d.pairOf p).length = 2 then 6 else 0) + (if x.rtag && x.gen.isSome then 6 else 0)
    + (if ((d.port p).sas.any (fun e => e.1 < 256)) then 32 else 0)

/-- The part of a frame that must leave before its gate closes (R45): a preemptable frame's first fragment where a legal one is
shorter than the frame, else all that is left of it. -/
def Dev.firstPart (d : Dev) (p q : Nat) (x : Desc) : Nat :=
  let resumed := (d.port p).frag.map (·.2) == some q
  let left := d.wireLen p x - (if resumed then (d.port p).cut.1 else 0)
  let m := if resumed then (d.port p).cut.2 else if d.preemptable p q then d.minFrag p else 0
  if m ≠ 0 && 2 * m ≤ left then m else left

/-- The frame may start now: what must leave before the gate closes fits (R45). -/
def Dev.fits (d : Dev) (p q : Nat) (x : Desc) : Bool :=
  match (d.port p).closesAt d.now q with
  | none => true
  | some c => d.now + d.wireTime p (d.firstPart p q x) ≤ c

/-- A queue is eligible (R43). While a preempted frame waits to resume, no other preemptable frame starts. -/
def Dev.qEligible (d : Dev) (p q : Nat) : Bool :=
  let x := d.port p
  match d.headOf p q with
  | none => false
  | some h =>
    x.gateOpen d.now q && !bitAt (d.rd (R.PT_PSTAT p) F.PT_PSTAT_paused_mask) q
      && !bitAt (d.rd (R.PT_PSTAT p) F.PT_PSTAT_pause_wd_mask) q && (d.qmode p q != 2 || 0 ≤ x.credit.getD q 0)
      && (match x.frag with | some (_, k) => k == q || !d.preemptable p q | none => true) && d.fits p q h

/-- The highest-numbered of some queues. -/
def topOf (l : List Nat) : Option Nat := l.getLast?

/-- Deficit round robin over the eligible queues in DWRR mode. -/
def Dev.dwrr (d : Dev) (p : Nat) (ok : List Nat) : Nat → Option Nat × Dev
  | 0 => (none, d)
  | n + 1 =>
    let x := d.port p
    let q := x.turn
    let next (d : Dev) : Dev := d.modPort p (fun x => { x with turn := (q + 1) % 8, served := false })
    if !ok.contains q then (next d).dwrr p ok n
    else
      let have_ := x.deficit.getD q 0 + (if x.served then 0 else (d.rd (R.PT_QSCH p q) F.PT_QSCH_weight).max 1 * 256)
      -- a preempted frame was charged when it started
      let len := if x.frag.map (·.2) == some q then 0 else ((d.headOf p q).map (·.mergedLen)).getD 0
      if len ≤ have_ then
        (some q, d.modPort p (fun x => { x with served := true, deficit := x.deficit.set q (have_ - len) }))
      else (next (d.modPort p (fun x => { x with deficit := x.deficit.set q have_ }))).dwrr p ok n

/-- The queue the port sends from, of some that are eligible (R43). -/
def Dev.pickOf (d : Dev) (p : Nat) (ok : List Nat) : Option Nat × Dev :=
  match topOf (ok.filter (fun q => d.qmode p q != 1)) with
  | some q => (some q, d)
  | none =>
    if ok.isEmpty then (none, d)
    else
      let d := d.modPort p (fun x => { x with deficit := (List.range 8).map (fun q => if (d.headOf p q).isNone then 0 else x.deficit.getD q 0) })
      d.dwrr p ok 600

/-- The queue the port sends from (R43). -/
def Dev.pickQueue (d : Dev) (p : Nat) : Option Nat × Dev := d.pickOf p ((List.range 8).filter (d.qEligible p))

/-- Start the frame at the head of a queue; whether it may be cut, and where, is settled now (R49). -/
def Dev.startHead (d : Dev) (p q : Nat) : Dev :=
  let m := if d.preemptable p q then d.minFrag p else 0
  match d.pqQ (p * 8 + q) with
  | h :: r =>
    ((d.setPq (p * 8 + q) r).syncQueued p).modPort p (fun x => { x with sending := some (h, q), edited := false, sendAt := d.now, part := (0, m) })
  | [] => d

/-- Start or resume the frame at the head of a queue. -/
def Dev.startFrame (d : Dev) (p q : Nat) : Dev :=
  match (d.port p).frag with
  | some (f, k) =>
    if k = q then
      d.modPort p (fun x => { x with sending := some (f, q), frag := none, edited := x.resumed, resumed := false, sendAt := d.now, part := x.cut,
                                     tx := x.txCut, txCut := [],
                                     cut := (0, 0) })
    else d.startHead p q
  | none => d.startHead p q

/-- A frame checked at the head of its queue after a Hold (R317): sent while (now − enq) is below its class's limit. -/
def Dev.staleHead (d : Dev) (x : Desc) : Bool :=
  let now := stampOf d.now
  let enq := D.enq.get x.w
  let sec := (bitsOf now 32 24 + 2 ^ 24 - bitsOf enq 32 24) % 2 ^ 24
  x.check && d.rd (R.XC_RESLIM (D.queue.get x.w)) F.XC_RESLIM_res_us * 4000 ≤ sec * 4000000000 + bitsOf now 0 32 - bitsOf enq 0 32

/-- Free the stale frames at the head of a queue. -/
def Dev.dropStale (d : Dev) (p q : Nat) : Nat → Dev
  | 0 => d
  | n + 1 =>
    match d.pqQ (p * 8 + q) with
    | x :: r =>
      if d.staleHead x then
        ((((d.setPq (p * 8 + q) r).descEnd x).inc (R.XC_PCNT p) F.XC_PCNT_hold_drop).syncQueued p).dropStale p q n
      else d
    | [] => d

/-- Bytes of the present fragment that have left by now. -/
def Dev.sentNow (d : Dev) (p : Nat) : Nat := (d.now - (d.port p).sendAt) * d.portRate p / 524288000 - 8

/-- The legal fragment boundary at which the frame in transmission is cut, as bytes of its present fragment: at or before this instant
where its gate closes, else the next one (R32, R45). Both parts are at least the minimum fragment; none: the frame completes. -/
def Dev.cutPoint (d : Dev) (p : Nat) (close : Bool) : Option Nat :=
  match (d.port p).sending with
  | none => none
  | some (x, _) =>
    let m := (d.port p).part.2
    let left := d.wireLen p x - (d.port p).part.1
    let b := if close then (d.sentNow p).min (left - m) else (d.sentNow p).max m
    if m ≠ 0 && m ≤ b && b + m ≤ left then some b else none

/-- Cut the preemptable frame in transmission at a legal fragment boundary, where it has one (R45). -/
def Dev.cutFrame (d : Dev) (p : Nat) (close : Bool) : Dev :=
  match d.cutPoint p close with
  | none => d
  | some b => d.modPort p (fun x => { x with frag := x.sending, sending := none, resumed := x.edited, edited := false, tx := [], txCut := x.tx
                                             cut := (x.part.1 + b, x.part.2), part := (0, 0) })

/-- Stale frames at the heads of a port's queues are dropped. -/
def Dev.dropAllStale (d : Dev) (p : Nat) : Dev :=
  (List.range 8).foldl (fun d q => d.dropStale p q ((d.pqQ (p * 8 + q)).length)) d

/-- A port that sends may be preempted by an express frame at a legal boundary; one that does not takes its next frame. -/
def Dev.sendNext (d : Dev) (p : Nat) : Dev :=
  match (d.port p).sending with
  | some _ =>
    if (d.cutPoint p false).isNone then d
    else
      let x := d.pickOf p ((List.range 8).filter (fun k => !d.preemptable p k && d.qEligible p k))
      match x.1 with
      | some k => (x.2.cutFrame p false).startFrame p k
      | none => d
  | none =>
    match (d.pickQueue p).1 with
    | some q => (d.pickQueue p).2.startFrame p q
    | none => (d.pickQueue p).2

/-- TRANSMIT_OPPORTUNITY (R43, R45): an express frame may preempt; else a free port picks a queue. -/
def execTransmitOpportunity (p : Fin 32) (s : State) : Outc := s.go (fun d =>
  if d.portSt p ≠ 2 || d.hstate p ≠ 0 || d.isleFenced (26 + p.val / 4) then d
  else ((d.shape p).dropAllStale p).sendNext p)

/-! ## The egress editor (R313, R314) and the MAC -/

/-- Offset of the EtherType after at most two VLAN tags. -/
def etherOff (bs : List Byte) : Nat :=
  let et (o : Nat) : Nat := beNat ((bs.drop o).take 2)
  let tag (o : Nat) : Bool := et o == 0x8100 || et o == 0x88A8
  if tag 12 then (if tag 16 then 20 else 16) else 12

/-- Offset of the PTP header and its transport (R40): 0 Ethernet, 1 UDP on IPv4, 2 UDP on IPv6, on the ports of event and general
messages. -/
def ptpOff (bs : List Byte) : Option (Nat × Nat) :=
  let o := etherOff bs
  let et := beNat ((bs.drop o).take 2)
  let udp (h : Nat) : Bool := let dst := beNat ((bs.drop (h + 2)).take 2); dst == 319 || dst == 320
  if et = 0x88F7 then some (o + 2, 0)
  else if et = 0x0800 then
    let h := o + 2 + (bs.getD (o + 2) 0).toNat % 16 * 4
    if (bs.getD (o + 11) 0).toNat = 17 && udp h then some (h + 8, 1) else none
  else if et = 0x86DD then (if (bs.getD (o + 8) 0).toNat = 17 && udp (o + 42) then some (o + 50, 2) else none)
  else none

/-- Replace bytes from an offset on. -/
def patch (bs : List Byte) (o : Nat) (v : List Byte) : List Byte := bs.take o ++ v ++ bs.drop (o + v.length)

/-- An open figure of 0.25 ns within plus or minus a bound. -/
def within (b x : Nat) : Int := ((x % (2 * b + 1) : Nat) : Int) - (b : Nat)

/-- The bounds of R39 in 0.25 ns, of the part of a stamp's error that stays for a port in its mode through one link-up and of the
part that changes from frame to frame. -/
def Dev.stampBounds (d : Dev) (p : Nat) : Nat × Nat :=
  match d.rd (R.PT_PCFG p) F.PT_PCFG_lane_rate with | 0 => (24, 8) | 1 => (14, 2) | _ => (10, 2)

/-- The fields of PT_PCFG that make a mode (R49), and no others. -/
def modeWord (v : Word64) : Word64 :=
  [F.PT_PCFG_lane_rate, F.PT_PCFG_width, F.PT_PCFG_fec, F.PT_PCFG_an_en, F.PT_PCFG_loopback].foldl (fun (w : Word64) f => f.put w (f.get v)) 0

/-- The error of one stamp in 0.25 ns (R39). -/
def Dev.stampErr (d : Dev) (p : Nat) : Int × Dev :=
  let b := d.stampBounds p
  (within b.1 (Config.stampFixed p (modeWord (d.rget (R.PT_PCFG p))) (d.port p).linkUps) + within b.2 (Config.stampError d.free),
    { d with free := d.free + 1 })

/-- A time in quarter nanoseconds as 2^-16 ns. -/
def quarters (t : Int) : Nat := (t * 16384).toNat

/-- The egress stamp of the frame on its way out, in 0.25 ns (R37). -/
def Dev.egressQ (d : Dev) (p : Nat) : Int × Dev :=
  let (e, d) := d.stampErr p
  (((d.now / 16384 : Nat) : Int) + (d.rd (R.PT_TSDLY p) F.PT_TSDLY_eg_delay : Nat) + e, d)

/-- A 32-bit signed configuration value. -/
def sgn32 (x : Nat) : Int := toSigned 32 x

/-- The ingress short stamp of a frame in 0.25 ns, as the seconds of now make it. -/
def stampQ (st : Nat) : Int := (bitsOf st 32 24 * 4000000000 + bitsOf st 0 32 : Nat)

/-- Add to the correctionField of a PTP message whose header is at `o`, in 2^-16 ns. -/
def addCorr (bs : List Byte) (o : Nat) (c : Int) : List Byte :=
  patch bs (o + 8) (beBytes 8 (ofSigned 64 (toSigned 64 (beNat ((bs.drop (o + 8)).take 8)) + c)))

/-- The timestamp field of a PTP message: originTimestamp of an event message, and what stands in its place in the others. -/
def putStamp (bs : List Byte) (o : Nat) (eg : Int) : List Byte :=
  patch bs (o + 34) (beBytes 6 (secOf (quarters eg)) ++ beBytes 4 (nsOf (quarters eg)))

/-- The port identity by which a message and the one that follows it are told: the sender's, and in the answers to a request
(types 3, 9 and 10) the requester's. -/
def ptpIdent (bs : List Byte) (o kind : Nat) : Nat :=
  beNat ((bs.drop (if kind = 3 || kind = 9 || kind = 10 then o + 44 else o + 20)).take 10)

/-- What a transparent clock owes an event message, in 2^-16 ns (R40): its residence, the asymmetry of the paths, and under the
peer-to-peer role the delay of the link on which a Sync came, as the Overman has measured it. The corrections for asymmetry follow IEEE 1588
(PRESUMED, log entry 46). -/
def Dev.ptpOwed (d : Dev) (p : Nat) (x : Desc) (kind : Nat) (eg : Int) : Int × Dev :=
  let cfg := (d.port p).ptp
  let inp := if D.in_port.get x.w < 32 then (d.port (D.in_port.get x.w)).ptp else {}
  let span : Int := 16777216 * 4000000000
  let res := (stampQ (stampOf (quarters eg)) - (stampQ (D.stamp.get x.w) - sgn32 inp.inLat)) % span
  let asy := if kind = 0 then sgn32 inp.asym else if kind = 1 then - sgn32 cfg.asym else 0
  if cfg.role = 2 && kind = 0 then
    let (ld, d) := d.fresh 32
    ((res + asy + (ld : Nat)) * 16384, d)
  else ((res + asy) * 16384, d)

/-- PTP work on an event message (R40). One-step: correctionField of a transparent clock, originTimestamp of a boundary clock's own
Sync. Two-step: the egress stamp is reported, and a Sync says that a Follow_Up comes. -/
def Dev.ptpEvent (d : Dev) (p : Nat) (x : Desc) (bs : List Byte) (o : Nat) : List Byte × Dev :=
  let cfg := (d.port p).ptp
  let kind := (bs.getD o 0).toNat % 16
  let own := D.in_port.get x.w == 35
  let (eg, d) := d.egressQ p
  let eg := eg + sgn32 cfg.egLat
  let (owed, d) := if cfg.role = 1 then (0, d) else d.ptpOwed p x kind eg
  if bitAt cfg.flags 0 then
    if cfg.role = 1 then (if own && kind == 0 then putStamp bs o eg else bs, d) else (addCorr bs o owed, d)
  else if cfg.role = 1 && !own then (bs, d)
  else
    let rep : PtpReport := { kind := kind, seqId := beNat ((bs.drop (o + 30)).take 2), ident := ptpIdent bs o kind, stamp := eg, corr := owed }
    (if kind = 0 then patch bs (o + 6) [(bs.getD (o + 6) 0) ||| 2] else bs,
      d.modPort p (fun y => { y with reports := rep :: y.reports }))

/-- The report that a message which follows an event message is owed: on port `p`, of event type `kind`. -/
def Dev.ptpReport (d : Dev) (p kind : Nat) (bs : List Byte) (o : Nat) : Option PtpReport :=
  (d.port p).reports.find? (fun r => r.kind == kind && r.seqId == beNat ((bs.drop (o + 30)).take 2)
    && r.ident == ptpIdent bs o ((bs.getD o 0).toNat % 16))

/-- A report has gone into the message that follows. -/
def Dev.ptpSettle (d : Dev) (p kind : Nat) (bs : List Byte) (o : Nat) : List Byte × Dev :=
  match d.ptpReport p kind bs o with
  | none => (bs, d)
  | some r => (addCorr bs o r.corr, d.modPort p (fun y => { y with reports := y.reports.erase r }))

/-- PTP work on a general message that passes a two-step transparent clock: a Follow_Up takes what its Sync is owed, a
Pdelay_Resp_Follow_Up what the response and the request are owed, a Delay_Resp what its request is owed. -/
def Dev.ptpGeneral (d : Dev) (p : Nat) (x : Desc) (bs : List Byte) (o : Nat) : List Byte × Dev :=
  let inP := D.in_port.get x.w
  match (bs.getD o 0).toNat % 16 with
  | 8 => d.ptpSettle p 0 bs o
  | 9 => d.ptpSettle inP 1 bs o
  | 10 =>
    let y := d.ptpSettle p 3 bs o
    y.2.ptpSettle inP 2 y.1 o
  | _ => (bs, d)

/-- PTP work on a frame (R40), under the port's role and on the transports it is set up for; an IPv4 UDP checksum is zeroed where the
message changes. -/
def Dev.oneStep (d : Dev) (p : Nat) (x : Desc) (bs : List Byte) : List Byte × Dev :=
  let cfg := (d.port p).ptp
  match ptpOff bs with
  | none => (bs, d)
  | some (o, t) =>
    if cfg.role = 0 || (t != 0 && !bitAt cfg.flags t) then (bs, d)
    else if bitAt (D.flags.get x.w) 4 then d.ptpEvent p x (if t = 1 then patch bs (o - 2) [0, 0] else bs) o
    else if cfg.role = 1 || bitAt cfg.flags 0 then (bs, d)
    else d.ptpGeneral p x (if t = 1 then patch bs (o - 2) [0, 0] else bs) o

/-- The trailer or tag a port of a pair adds (R42), with the path bits of IEC 62439-3 (PRESUMED, log entry 47). The reserved roles 6
and 7 tag as the HSR roles do (DESIGN CHOICE, log entry 178). -/
def Dev.redTag (d : Dev) (p seq : Nat) (bs : List Byte) : List Byte :=
  let lan := d.rd (R.PT_RED p) F.PT_RED_lan_b
  let o := etherOff bs
  let size := (bs.length - o - 2 + 6) % 4096
  match d.rd (R.PT_RED p) F.PT_RED_role with
  | 1 | 2 => bs ++ beBytes 2 seq ++ beBytes 2 ((10 + lan) * 4096 + size) ++ [0x88, 0xFB]
  | 0 => bs
  | _ => bs.take o ++ [0x89, 0x2F] ++ beBytes 2 (lan * 4096 + size) ++ beBytes 2 seq ++ bs.drop o

/-- The R-tag of IEEE 802.1CB, after the VLAN tags, where the frame's stream asks for it and its job has the sequence (R42, R252). -/
def rTag (x : Desc) (bs : List Byte) : List Byte :=
  match x.rtag, x.gen with
  | true, some n => bs.take (etherOff bs) ++ [0xF1, 0xC1, 0, 0] ++ beBytes 2 n ++ bs.drop (etherOff bs)
  | _, _ => bs

/-- The sequence of a pair (R42): a counter of its own in DAN roles; in RedBox roles the number that GEN drew from the Lode record of
the frame's source (R252), and an open value for a frame whose job ran no GEN (log entry 47). -/
def Dev.redSeq (d : Dev) (p : Nat) (x : Desc) : Nat × Dev :=
  let role := d.rd (R.PT_RED p) F.PT_RED_role
  let low := match d.pairOf p with | [_, q] => p.min q | _ => p
  if role = 1 || role = 3 then
    let n := (d.port low).redSeq
    (n, d.modPort low (fun x => { x with redSeq := (n + 1) % 65536 }))
  else
    match x.gen with
    | some n => (n, d)
    | none => d.fresh 16

/-- The packet number limit of a suite: key roll at three quarters, exhaustion at the end (R36). -/
def pnEnd (suite : Nat) : Nat := if suite = 0 then 2 ^ 32 else 2 ^ 64

/-- The EtherTypes that bypass MACsec on a port (R35): EAPOL and the eight of its list. -/
def macBypassed (p et : Nat) : Bool := et == 0x888E || (List.range 8).any (fun i => Config.macBypass p i == et)

/-- The confidentiality offset of an association: 0, 30 or 50 (R35). -/
def confOffset (p key : Nat) : Nat := match Config.confOffset p key with | 0 => 0 | 1 => 30 | _ => 50

/-- MACsec on transmit: the packet number under which the frame goes out; none with `true` when it is dropped. -/
def Dev.protect (d : Dev) (p : Nat) (bs : List Byte) : Bool × Option (Nat × Nat × Nat) × Dev :=
  let x := d.port p
  match x.sas.find (x.txAn) with
  | none => (true, none, d)
  | some sa =>
    if macBypassed p (beNat ((bs.drop (etherOff bs)).take 2)) then (true, none, d)
    else if pnEnd sa.suite ≤ sa.pn then (false, none, d.stat p 14)
    else
      let d := d.modPort p (fun x => { x with sas := x.sas.put x.txAn { sa with pn := sa.pn + 1 } })
      let d := if sa.pn + 1 = pnEnd sa.suite / 4 * 3 then ((d.tally 0x0103 p [x.txAn]).event 0x12 p x.txAn).stat p 13 else d
      (true, some (x.txAn, sa.pn, confOffset p x.txAn), d)

/-- The bytes of a frame as they leave one port: none where it is not UP, or where MACsec drops the frame. -/
def Dev.dress (d : Dev) (p : Nat) (bs : List Byte) : List (Nat × List Byte × Option (Nat × Nat × Nat)) × Dev :=
  if d.portSt p ≠ 2 then ([], d)
  else
    match d.protect p bs with
    | (true, sec, d) => ([(p, bs, sec)], d)
    | (false, _, d) => ([], d)

/-- The same for a port, or for both ports of its pair with the pair's tag; a frame of a sequenced stream has its R-tag. -/
def Dev.dressAll (d : Dev) (p : Nat) (x : Desc) (bs : List Byte) : List (Nat × List Byte × Option (Nat × Nat × Nat)) × Dev :=
  let bs := rTag x bs
  match d.pairOf p with
  | [_] => d.dress p bs
  | ps =>
    let (n, d) := d.redSeq p x
    ps.foldl (fun a q => let y := a.2.dress q (a.2.redTag q n bs); (a.1 ++ y.1, y.2)) ([], d)

/-- The last byte of a frame has reached the MAC: it is on the wire and counted as sent (R313). -/
def Dev.wireOut (d : Dev) (t : Nat × List Byte × Option (Nat × Nat × Nat)) : Dev :=
  if d.portSt t.1 ≠ 2 then d
  else ((d.out (.wire t.1 t.2.1 t.2.2)).stat t.1 1).stat t.1 3 (t.2.1.length + 4 + (if t.2.2.isSome then 32 else 0))

/-- Bytes leave one port. -/
def Dev.emit (d : Dev) (p : Nat) (bs : List Byte) : Dev := (d.dress p bs).1.foldl Dev.wireOut (d.dress p bs).2

/-- Bytes leave a port, or both ports of its pair. -/
def Dev.emitAll (d : Dev) (p : Nat) (x : Desc) (bs : List Byte) : Dev := (d.dressAll p x bs).1.foldl Dev.wireOut (d.dressAll p x bs).2

/-- An egress mirror copy joins its queue, one more reference held for it. -/
def Dev.mirrorQueue (d : Dev) (p s : Nat) (x : Desc) (t : Target) : Dev :=
  let row := D.row.get x.w
  let pl := D.plane.get x.w
  let w := D.session.put (D.queue_n.put (D.queue.put (D.dcol_n.put (D.dcol.put x.w t.col) (15 - t.col)) t.cls) (7 - t.cls)) s
  let y : Desc := { x with w := D.enq.put w (stampOf d.now), port := if t.col = 10 then p else t.port, trunc := t.trunc, dir := 1, check := false, again := false }
  let d := (d.addQ (qKey row t.col t.cls) x.n 0).wr (R.XC_COL t.col) F.XC_COL_occ (d.rd (R.XC_COL t.col) F.XC_COL_occ + 1)
  let d := d.markHigh (R.XC_COL t.col) F.XC_COL_occ_max (d.rd (R.XC_COL t.col) F.XC_COL_occ)
  let k := xpKey pl row t.col t.cls
  (d.setXp k (d.xpQ k ++ [y])).inc (R.XC_MIRCNT s) F.XC_MIRCNT_copies

/-- An egress mirror copy reaches the Crosscut, which may refuse it. -/
def Dev.mirrorOffer (d : Dev) (p s : Nat) (x : Desc) : Dev :=
  let row := D.row.get x.w
  match d.mirrorTarget s false with
  | none => (d.inc R.XC_ERR F.XC_ERR_bad_col).inc (R.XC_MIRCNT s) F.XC_MIRCNT_dropped
  | some t =>
    match d.dropsFor row (D.plane.get x.w) x.n t with
    | some d => d
    | none =>
      let r := d.addref (ptrOf row (D.bcell.get x.w))
      if r.1 then r.2.mirrorQueue p s x t else r.2.refuseTarget t

/-- The egress mirror copy of a frame (R319): one more reference, with orig as the frame has it. -/
def Dev.egressMirror (d : Dev) (p : Nat) (x : Desc) : Dev :=
  let s := d.rd (R.XC_PORT p) F.XC_PORT_emir
  if D.session.get x.w ≠ 0 || x.again then d
  else
    let h := d.sampleHit s
    if h.1 then h.2.mirrorOffer p s x else h.2

/-- The port is free again. -/
def Dev.clearSending (d : Dev) (p : Nat) : Dev := d.modPort p (fun x => { x with sending := none, edited := false, part := (0, 0), tx := [] })

/-- EGRESS_EDIT (R313, R314). -/
def execEgressEdit (p : Fin 32) (s : State) : Outc := s.go (fun d =>
  match (d.port p).sending with
  | none => d
  | some (x, _) =>
    if (d.port p).edited then d
    else if !x.pairsGood then
      (((d.inc R.XC_ERR F.XC_ERR_cmpl_eg).tally 0x0C01 (p.val / 4) [1]).descEnd x).clearSending p
    else if 16383 < x.mergedLen then ((d.inc R.XC_LENERR F.XC_LENERR_long_drop).descEnd x).clearSending p
    else
      let bs := x.cut (d.mergedBytes x)
      let d := if bs.length < 60 then d.inc R.XC_LENERR F.XC_LENERR_short_pad else d
      let bs := if bs.length < 60 then fit 60 bs else bs
      let d := d.egressMirror p x
      let (bs, d) := d.oneStep p x bs
      let u := d.dressAll p x bs
      u.2.modPort p (fun y => { y with edited := true, tx := u.1 }))

/-- FRAME_SENT (R313): the last byte reaches the MAC. -/
def execFrameSent (p : Fin 32) (s : State) : Outc := s.go (fun d =>
  match (d.port p).sending with
  | none => d
  | some (x, _) =>
    if (d.port p).edited then ((((d.port p).tx.foldl Dev.wireOut d).shape p).descEnd x).clearSending p else d)

end Sys2Proof.Machine
end

