-- ==== Sys2Proof/Machine/Link.lean ====
section
/-!
DEFINITION. Port configuration, link state, pause and the watchdog, gate lists, and the messages the Overman sends on a
port (R28 to R50, R60).
-/

namespace Sys2Proof.Machine

/-! ## PT_PCFG (R29, R49) -/

/-- A byte of the firmware's working copy of the calibration set (R482, R484). -/
def calAddr (off : Nat) : Nat := omAddr off

/-- The mode that indexes the tsdly field (R483), as (port whose entry it is, mode). -/
def tsMode (p : Nat) (v : Word64) : Nat × Nat :=
  match F.PT_PCFG_lane_rate.get v, F.PT_PCFG_width.get v with
  | 0, _ => (p, 0)
  | 1, _ => (p, 1)
  | 2, _ => (p, if F.PT_PCFG_fec.get v = 0 then 2 else 3)
  | 3, _ => (p, 4)
  | _, 0 => (p, 5)
  | _, 1 => (p, 6)
  | _, 2 => (p, 7)
  | _, _ => (p + 1, 7)

/-- Load PT_TSDLY from the calibration set for the port's mode (R37). -/
def Dev.loadDelay (d : Dev) (p : Nat) : Dev :=
  let (q, m) := tsMode p (d.rget (R.PT_PCFG p))
  let w := d.load (calAddr (1296 + (q * 8 + m) * 4)) 4
  d.rset (R.PT_TSDLY p) (BitVec.ofNat 64 ((2 ^ 32 - 1 - w) * 2 ^ 32 + w))

/-- The fields that take part in a mode change. -/
def modeOfPcfg (v : Word64) : List Nat :=
  [F.PT_PCFG_lane_rate.get v, F.PT_PCFG_width.get v, F.PT_PCFG_fec.get v, F.PT_PCFG_an_en.get v, F.PT_PCFG_loopback.get v]

/-- What stands on the link of a port. -/
def Dev.setLocks (d : Dev) (p : Nat) (on : Bool) : Dev :=
  let d := d.wr (R.PT_PSTAT p) F.PT_PSTAT_fec_lock (b2n (on && d.rd (R.PT_PCFG p) F.PT_PCFG_fec != 0))
  d.wr (R.PT_PSTAT p) F.PT_PSTAT_align (b2n (on && d.portLanes p != 1))

def Dev.setFaults (d : Dev) (p : Nat) (loc rem : Bool) : Dev :=
  (d.wr (R.PT_PSTAT p) F.PT_PSTAT_local_fault (b2n loc)).wr (R.PT_PSTAT p) F.PT_PSTAT_remote_fault (b2n rem)

/-- The port goes to DISABLED or ACQUIRE and every lock starts again (R49). -/
def Dev.portRestart (d : Dev) (p s : Nat) : Dev := ((d.portLeave p s).setLocks p false).setFaults p false false

/-- The checks of R29 on a value for PT_PCFG. -/
def Dev.pcfgOk (d : Dev) (p : Nat) (v : Word64) : Bool :=
  let rate := F.PT_PCFG_lane_rate.get v
  let fec := F.PT_PCFG_fec.get v
  let w := F.PT_PCFG_width.get v
  let n := 2 ^ w
  rate ≤ 4 && fec ≤ 2 && w ≤ 3 && F.PT_PCFG_ld_mode.get v ≤ 1 && F.PT_PCFG_fc_mode.get v ≤ 2 && F.PT_PCFG_loopback.get v ≤ 2
    && ((fec == 0 && rate ≤ 2) || (fec == 1 && rate == 2) || (fec == 2 && 3 ≤ rate))
    && (w == 0 || (rate == 4 && p % n == 0))
    && (F.PT_PCFG_enable.get v == 0
      || (List.range 32).all (fun q => q == p || !d.portOn q || q + d.portLanes q ≤ p || p + n ≤ q))

/-- A write of PT_PCFG: false when it is refused whole. -/
def Dev.pcfgWrite (d : Dev) (p : Nat) (v : Word64) : Bool × Dev :=
  if !d.pcfgOk p v then (false, d)
  else
    let old := d.rget (R.PT_PCFG p)
    let d := d.rset (R.PT_PCFG p) v
    let change := modeOfPcfg old != modeOfPcfg v
    let d := if change then d.loadDelay p else d
    let st := d.portSt p
    (true,
      if F.PT_PCFG_enable.get v = 0 then (if st = 0 then d else d.portRestart p 0)
      else if st = 0 then (d.setPortSt p 1).dropCal p
      else if change then d.portRestart p 1
      else d)

/-! ## Link events (R48, R49) -/

/-- The end of DEBOUNCE: the port goes to ACQUIRE with a link-down event. -/
def Dev.debounceEnd (d : Dev) (p : Nat) : Dev := d.portLeave p 1

/-- LINK_LOSS (R49): a lock is lost, or a fault appears while the locks are held. -/
def execLinkLoss (p : Fin 32) (lock loc rem : Bool) (s : State) : Outc := s.go (fun d =>
  if d.portSt p ≠ 2 || !(lock || loc || rem) then d
  else
    let d := ((d.setPortSt p 4).ptpPortLeft p).setFaults p loc rem
    let d := if lock then d.setLocks p false else d
    if d.rd (R.PT_TMR p) F.PT_TMR_ld_debounce = 0 then d.debounceEnd p else d)

/-- LINK_CONDITION_CLEARS (R49): counted as a glitch. -/
def execLinkConditionClears (p : Fin 32) (s : State) : Outc := s.go (fun d =>
  if d.portSt p = 4 then (((d.setPortSt p 2).setFaults p false false).setLocks p true).stat p 9 else d)

/-- DEBOUNCE_EXPIRY (R49). -/
def execDebounceExpiry (p : Fin 32) (s : State) : Outc := s.go (fun d => if d.portSt p = 4 then d.debounceEnd p else d)

/-- LINK_UP (R49, R38, R316, R317). -/
def execLinkUp (p : Fin 32) (s : State) : Outc := s.go (fun d =>
  if d.portSt p = 1 then ((d.setFaults p false false).setLocks p true).portUp p else d)

/-- LINK_FAULT_SIGNALLED (R49). -/
def execLinkFaultSignalled (p : Fin 32) (loc rem : Bool) (s : State) : Outc := s.go (fun d =>
  if d.portSt p = 1 && (loc || rem) then ((d.setPortSt p 3).setLocks p true).setFaults p loc rem else d)

/-- FAULT_CLEAR (R49). -/
def execFaultClear (p : Fin 32) (s : State) : Outc := s.go (fun d =>
  if d.portSt p = 3 then (d.setFaults p false false).portUp p else d)

/-- LOCK_LOST (R49). -/
def execLockLost (p : Fin 32) (s : State) : Outc := s.go (fun d =>
  if d.portSt p = 3 then ((d.setLocks p false).setFaults p false false).portLeave p 1 else d)

/-- TS_CAL_DONE (R38). -/
def execTsCalDone (p : Fin 32) (s : State) : Outc := s.go (fun d =>
  if d.portSt p = 2 && d.portLanes p ≠ 1 then d.wr (R.PT_PSTAT p) F.PT_PSTAT_ts_cal_valid 1 else d)

/-! ## Pause, PFC and the watchdog (R32 to R34, R318) -/

/-- The priorities a frame of either kind may hold on a port. -/
def Dev.pauseScope (d : Dev) (p : Nat) (pfc : Bool) : Nat :=
  match d.rd (R.PT_PCFG p) F.PT_PCFG_fc_mode, pfc with
  | 1, false => 255
  | 2, true => d.rd (R.PT_PCFG p) F.PT_PCFG_pfc_mask
  | _, _ => 0

/-- Queues held by the partner change; a preemptable frame of a queue now held ends at its next legal fragment boundary (R32). -/
def Dev.setPaused (d : Dev) (p m : Nat) : Dev :=
  let d := d.wr (R.PT_PSTAT p) F.PT_PSTAT_paused_mask m
  match (d.port p).sending with
  | some (_, q) => if bitAt m q then d.cutFrame p false else d
  | none => d

/-- PAUSE_FRAME_RX (R32): priorities with a time to hold, and priorities released. -/
def execPauseFrameRx (p : Fin 32) (pfc : Bool) (hold release : Fin 256) (s : State) : Outc := s.go (fun d =>
  if d.portSt p ≠ 2 then d
  else
    let d := d.stat p 7
    let m := d.pauseScope p pfc
    let was := d.rd (R.PT_PSTAT p) F.PT_PSTAT_paused_mask
    d.setPaused p (((was ||| hold.val &&& m) ||| (release.val &&& m)) - (release.val &&& m)))

/-- PAUSE_REFRESH (R33): a row that holds its partners sends its frames again. -/
def execPauseRefresh (row : Fin 8) (s : State) : Outc :=
  s.go (fun d => if d.bn.pausing.get false row then d.sendPause row true else d)

/-- PAUSE_QUANTA_EXPIRY (R32): the time of some held queues has run out. -/
def execPauseQuantaExpiry (p : Fin 32) (mask : Fin 256) (s : State) : Outc := s.go (fun d =>
  let was := d.rd (R.PT_PSTAT p) F.PT_PSTAT_paused_mask
  d.setPaused p (was - (was &&& mask.val)))

/-- A queue enters watchdog discard: its frames are freed, the one that the pause has cut among them (R34, R318). -/
def Dev.wdEnter (d : Dev) (p q : Nat) : Dev :=
  let d := d.freeQueue p q (R.XC_PORT p) F.XC_PORT_wd_drop
  match (d.port p).frag with
  | none => d
  | some (x, k) =>
    if k = q then ((d.modPort p (fun y => { y with frag := none, resumed := false, cut := (0, 0), txCut := [] })).descEnd x).inc (R.XC_PORT p) F.XC_PORT_wd_drop
    else d

/-- PAUSE_WATCHDOG (R34): queue `q`, or all eight under 802.3 pause. -/
def execPauseWatchdog (p : Fin 32) (q : Fin 8) (s : State) : Outc := s.go (fun d =>
  let r := R.PT_PSTAT p
  if d.rd (R.PT_TMR p) F.PT_TMR_pause_wd = 0 || d.hstate p ≠ 0 || !bitAt (d.rd r F.PT_PSTAT_paused_mask) q
      || bitAt (d.rd r F.PT_PSTAT_pause_wd_mask) q then d
  else
    let m := if d.rd (R.PT_PCFG p) F.PT_PCFG_fc_mode = 1 then 255 else 2 ^ q.val
    let new := d.rd r F.PT_PSTAT_pause_wd_mask ||| m
    let d := d.wr r F.PT_PSTAT_pause_wd_mask new
    let d := (List.range 8).foldl (fun d k => if bitAt m k then d.wdEnter p k else d) d
    ((d.tally 0x0102 p [m]).event 0x13 p m).stat p 15)

/-- WATCHDOG_DISCARD_END (R34): the partner has released the queue. -/
def execWatchdogDiscardEnd (p : Fin 32) (q : Fin 8) (s : State) : Outc := s.go (fun d =>
  let r := R.PT_PSTAT p
  let was := d.rd r F.PT_PSTAT_pause_wd_mask
  let m := if d.rd (R.PT_PCFG p) F.PT_PCFG_fc_mode = 1 then 255 else 2 ^ q.val
  if bitAt was q && d.rd r F.PT_PSTAT_paused_mask &&& m = 0 then d.wr r F.PT_PSTAT_pause_wd_mask (was - (was &&& m)) else d)

/-! ## Gate lists (R44, R46, R47) -/

def adminAddr (p : Nat) : Nat := 0x300000 + 0x4000 * p + 0x2000
def runAddr (p : Nat) : Nat := 0x300000 + 0x4000 * p + 0x3000

/-- The entries of the admin list as (gates, interval). -/
def Dev.adminList (d : Dev) (p : Nat) : List (Nat × Nat) :=
  (List.range (d.rd (R.PT_GCLCTL p) F.PT_GCLCTL_length)).map (fun i =>
    let w := d.load (adminAddr p + 4 * i) 4
    (w / 2 ^ 24, w % 2 ^ 24))

/-- The list may be committed (R46). -/
def Dev.adminOk (d : Dev) (p : Nat) : Bool :=
  let l := d.adminList p
  l.length ≤ 1024 && l.all (fun e => e.2 != 0)
    && (l.isEmpty || (l.map (·.2)).foldl (· + ·) 0 * 8 == d.rd (R.PT_GCLCTL p) F.PT_GCLCTL_cycle)

/-- PT_GCLCTL.commit. -/
def Dev.gclCommit (d : Dev) (p : Nat) : Dev :=
  let r := R.PT_GCLCTL p
  if d.on r F.PT_GCLCTL_pending || !d.adminOk p then d.wr r F.PT_GCLCTL_err 1
  else (d.wr r F.PT_GCLCTL_pending 1).modPort p (fun x => { x with commitAt := d.now })

/-- Admin base time and cycle in 2^-16 ns. -/
def Dev.adminBase (d : Dev) (p : Nat) : Nat :=
  d.rd (R.PT_GCLBASE p) F.PT_GCLBASE_base_s * unitsPerSec + nsU (d.rd (R.PT_GCLBASE p) F.PT_GCLBASE_base_ns)
def Dev.adminCycle (d : Dev) (p : Nat) : Nat := nsU (d.rd (R.PT_GCLCTL p) F.PT_GCLCTL_cycle)

/-- The first instant base + n × cycle at or after `t`. -/
def alignUp (base cycle t : Nat) : Nat := if t ≤ base then base else base + (t - base + cycle.max 1 - 1) / cycle.max 1 * cycle.max 1

/-- The changeover instant (R46): T, then the first boundary of the running cycle at or after it. Where no list runs there is no such
boundary and T is taken; an admin cycle of 0, with a base in the past, makes T the commit (DESIGN CHOICE, log entry 179). -/
def Dev.changeAt (d : Dev) (p : Nat) : Nat :=
  let x := d.port p
  let b := d.adminBase p
  let t := if x.commitAt < b then b else if d.adminCycle p = 0 then x.commitAt else alignUp b (d.adminCycle p) x.commitAt
  if x.run.isEmpty then t else alignUp x.runBase x.runCycle t

/-- GATE_CHANGEOVER (R46). -/
def execGateChangeover (p : Fin 32) (s : State) : Outc := s.go (fun d =>
  let r := R.PT_GCLCTL p
  let t := d.changeAt p
  if !d.on r F.PT_GCLCTL_pending || d.now < t then d
  else
    let d := (d.shape p).modPort p (fun x =>
      { x with run := d.adminList p, runBase := t, listBase := d.adminBase p, runCycle := d.adminCycle p, keep := none, entry := 0 })
    let d := d.put (runAddr p) (d.bytes (adminAddr p) (4 * d.rd r F.PT_GCLCTL_length))
    d.wr r F.PT_GCLCTL_pending 0)

/-- GATE_ENTRY_BOUNDARY (R44, R45): the entry whose window holds the instant takes effect; a preemptable frame whose gate
has closed is cut at its fragment boundary. -/
def execGateEntryBoundary (p : Fin 32) (s : State) : Outc := s.go (fun d =>
  let x := d.port p
  if x.run.isEmpty then d
  else
    let d := (d.shape p).modPort p (fun x => { x with entry := (x.gateAt d.now).1 })
    match (d.port p).sending with
    | some (_, q) => if (d.port p).gateOpen d.now q then d else d.cutFrame p true
    | none => d)

/-- A step of station time (R63): the running entry runs on until the first base + n × cycle at or after the new time. -/
def Dev.gateStep (d : Dev) (p old : Nat) : Dev :=
  d.modPort p (fun x =>
    if x.run.isEmpty then x
    else
      let t := alignUp x.listBase x.runCycle d.now
      { x with keep := some ((x.gateAt old).1, t), runBase := t, creditAt := d.now })

/-! ## What the Overman sends on a port (R40, R42) -/

/-- A frame of free contents but for the bytes the spec or its standards fix. -/
def Dev.freeFrame (d : Dev) (n : Nat) : List Byte × Dev :=
  let (v, d) := d.fresh (8 * n)
  (leBytes n v, d)

/-- PRP_SUPERVISION_SEND (R42): on both ports of a pair, named by its lower port. -/
def execPrpSupervisionSend (p : Fin 32) (s : State) : Outc := s.go (fun d =>
  match d.pairOf p with
  | [_, q] =>
    if q < p then d
    else
      let (bs, d) := d.freeFrame 60
      d.emitAll p {} (patch (patch bs 0 [0x01, 0x15, 0x4E, 0x00, 0x01]) 12 [0x88, 0xFB])
  | _ => d)

/-- A Follow_Up or a Pdelay_Resp_Follow_Up of the port's own names the message it follows and carries that message's egress stamp, the
newest the port has reported (R40); the report has then served. -/
def Dev.ptpFollow (d : Dev) (p kind : Nat) (bs : List Byte) : List Byte × Dev :=
  let ev := if kind = 8 then some 0 else if kind = 10 then some 3 else none
  match ev.bind (fun k => (d.port p).reports.find? (fun r => r.kind == k)) with
  | none => (bs, d)
  | some r =>
    let bs := patch (putStamp bs 14 r.stamp) 44 (beBytes 2 r.seqId)
    (patch bs (if kind = 8 then 34 else 58) (beBytes 10 r.ident), d.modPort p (fun y => { y with reports := y.reports.erase r }))

/-- PTP_MESSAGE_SEND (R40, R67): a message of a type from a boundary-clock port; an Announce carries the UTC offset in
force. How the message reaches the port the spec does not say; the model sends it at the MAC (log entry 48). -/
def execPtpMessageSend (p : Fin 32) (kind : Fin 16) (s : State) : Outc := s.go (fun d =>
  if (d.port p).ptp.role ≠ 1 || d.portSt p ≠ 2 then d
  else
    let (bs, d) := d.freeFrame 78
    let t := BitVec.ofNat 8 ((bs.getD 14 0).toNat / 16 * 16 + kind.val)
    let bs := patch (patch (patch bs 0 [0x01, 0x1B, 0x19, 0, 0, 0]) 12 [0x88, 0xF7]) 14 [t]
    let bs := if kind.val = 11 then patch bs 58 (beBytes 2 (d.rd R.TB_UTC F.TB_UTC_utc_offset)) else bs
    let (bs, d) := d.ptpFollow p kind bs
    let x : Desc := { w := D.in_port.put (D.flags.put 0 (if kind.val < 4 then 16 else 0)) 35 }
    let (bs, d) := d.oneStep p x bs
    d.emit p bs)

/-- PTP_PARENT_CHANGE (R60): the servo's new slave port. -/
def execPtpParentChange (p : Fin 32) (s : State) : Outc := s.go (fun d =>
  ({ d with pt := { d.pt with parent := some p.val } }).ptpDrop)

end Sys2Proof.Machine
end

