-- ==== Sys2Proof/Machine/ReliefOps.lean ====
section
/-!
DEFINITION. Relief: fencing, gallery takeover, planned swaps, returns and the Overman takeover (R404 to R428, R380),
as operations.
-/

namespace Sys2Proof.Machine

/-! ## Alarms of the gallery sets -/

def Dev.inRelief (d : Dev) (g : Nat) : Bool := bitAt (d.rd R.RL_GALSTAT F.RL_GALSTAT_relief) g
def Dev.setRelief (d : Dev) (g : Nat) (b : Bool) : Dev :=
  d.wr R.RL_GALSTAT F.RL_GALSTAT_relief (withBit (d.rd R.RL_GALSTAT F.RL_GALSTAT_relief) g b)

/-- The relief gallery that would take over: the lowest-numbered one in the relief set and in STANDBY (R408). -/
def Dev.reliefGal (d : Dev) : Option Nat := (List.range 26).find? (fun g => d.inRelief g && d.galState g == 2)

def Dev.activeGals (d : Dev) : List Nat := (List.range 26).filter d.galActive

/-- Causes no_relief and gal_short follow the gallery sets (R411, R424). -/
def Dev.galAlarms (d : Dev) : Dev :=
  (d.alarm F.RL_ALARM_no_relief d.reliefGal.isNone).alarm F.RL_ALARM_gal_short (decide (d.activeGals.length < 24))

/-! ## Loads (R409) -/

/-- Bytes of a gallery's instruction memories. -/
def imemBytes : Nat := imemAddr 1 0 0 - imemAddr 0 0 0

/-- Load instruction memories from an image: the words of core 0 first (R149). -/
def Dev.loadImage (d : Dev) (g : Nat) (bs : List Byte) : Dev :=
  let d := d.put (imemAddr g 0 0) (fit imemBytes bs)
  let d := { d with rl := { d.rl with images := d.rl.images.put g bs } }
  d.modGal g (fun x => { x with badWords := x.badWords.filter (fun a => decide (2 ^ 41 ≤ a)) })

/-- The Face tile of one gallery takes the configuration of another's (R409, R213). -/
def Dev.copyFace (d : Dev) (f r : Nat) : Dev :=
  if d.rget (R.GL_FCID r) = d.rget (R.GL_FCID f) && d.rget (R.GL_FCLOAD r) = d.rget (R.GL_FCLOAD f) then d
  else
    let regs := [(R.GL_FCID r, R.GL_FCID f), (R.GL_FCINFO r, R.GL_FCINFO f), (R.GL_FCLOAD r, R.GL_FCLOAD f), (R.GL_FCCTL r, R.GL_FCCTL f)]
    let d := regs.foldl (fun d e => d.rset e.1 (d.rget e.2)) d
    let d := d.copyMem (faceAddr f 0) (faceAddr r 0) (2 ^ 21)
    (d.modGal r (fun x => { x with face := (d.gal f).face })).setFace r (d.faceState f)

/-- Gallery r takes the load of gallery f where theirs differ (R409). -/
def Dev.loadAs (d : Dev) (f r : Nat) : Dev :=
  let d := match d.rl.images.find f with
    | some bs => if d.rl.images.find r = some bs then d else d.loadImage r bs
    | none => d
  d.copyFace f r

/-- The active gallery whose image most active galleries hold (R409); the lowest-numbered of equals. -/
def Dev.majority (d : Dev) : Option Nat :=
  let gs := d.activeGals
  let votes (g : Nat) : Nat := (gs.filter (fun h => d.rl.images.find h == d.rl.images.find g)).length
  gs.foldl (fun (b : Option Nat) g => match b with
    | some x => if votes x < votes g then some g else b
    | none => some g) none

/-! ## Taking over (R408, R411, R412) -/

/-- Every DR_AFF entry of the four maps, map × 256 + entry. -/
def affEntries : List Nat := List.range 1024
def affReg (i : Nat) : Reg := R.DR_AFF (i / 256) (i % 256)

/-- Steps 2 and 3 of R408: entries and partners that name f name r. -/
def Dev.rewriteMaps (d : Dev) (f r : Nat) : Dev :=
  let d := affEntries.foldl (fun d i => if d.rd (affReg i) F.DR_AFF_gallery = f then d.wr (affReg i) F.DR_AFF_gallery r else d) d
  let own := d.rget (R.DR_TWIN f)
  let d := d.rset (R.DR_TWIN r) own
  let d := (List.range 26).foldl (fun d g =>
    if g ≠ f && g ≠ r && d.rd (R.DR_TWIN g) F.DR_TWIN_partner = f then d.wr (R.DR_TWIN g) F.DR_TWIN_partner r else d) d
  d.wr (R.DR_TWIN f) F.DR_TWIN_en 0

/-- The bindings whose state blocks a gallery held: the Overman writes them again (R224). -/
def Dev.phasorMoves (d : Dev) (f : Nat) : Dev :=
  let bs := (d.ph.copies.map (·.1)).filter (fun b => d.on (R.PH_BIND b) F.PH_BIND_valid && d.rd (R.PH_BIND b) F.PH_BIND_gallery == f)
  { d with ph := { d.ph with rewrite := (d.ph.rewrite.filter (fun b => !bs.contains b)) ++ bs } }

/-- Microseconds since the fence or the start, as dur_us holds them. -/
def Dev.tkDur (d : Dev) : Dev := d.wr R.RL_TKSTAT F.RL_TKSTAT_dur_us (((d.now - d.rl.since) / usU 1).min 65535)

/-- Without a relief gallery the active galleries share the entries out in rotation (R411). -/
def Dev.shareOut (d : Dev) (f : Nat) : Dev :=
  let gs := d.activeGals
  if gs.isEmpty then d
  else
    (affEntries.foldl (fun (a : Nat × Dev) i =>
      if a.2.rd (affReg i) F.DR_AFF_gallery = f then (a.1 + 1, a.2.wr (affReg i) F.DR_AFF_gallery (gs.getD (a.1 % gs.length) 0)) else a) (0, d)).2

/-- What the ledger says of a gallery: it has failed, or it is whole (R480, R462). -/
def Dev.galFailed (d : Dev) (g : Nat) (b : Bool) : Dev :=
  { d with bg := { d.bg with galFailed := withBit d.bg.galFailed g b, ledgerDue := true } }

/-- R408: gallery r stands in for f. -/
def Dev.takeOver (d : Dev) (f r : Nat) : Dev :=
  let d := (d.loadAs f r).rewriteMaps f r
  let d := ((d.setGalState r 3).setRelief r false).supStart (supOf r)
  let d := ((d.event 0x42 f 1).wr R.RL_TKSTAT F.RL_TKSTAT_relief r).tkDur
  let d := (d.tkCount F.RL_CNT_gal).phasorMoves f
  (d.galFailed f true).galAlarms

/-- The reclaim has ended: RESTORE, or IDLE when nothing stands in (R419). -/
def Dev.reclaimEnd (d : Dev) (r : TkReq) : Dev :=
  if !r.was || !d.on R.RL_CTL F.RL_CTL_auto_gal then d.galAlarms.tkIdle
  else if d.reliefGal.isNone then ((d.shareOut r.unit).galAlarms).tkIdle
  else d.wr R.RL_TKSTAT F.RL_TKSTAT_step 3

/-! ## The Overman (R380, R416) -/

/-- Cores A and B are fenced and core C starts (R380); a failure of core C in charge is a device fault (R416). -/
def Dev.omTakeover (d : Dev) (cause : Nat) : Dev :=
  if d.cg.om ≠ 0 || d.on R.RL_FENCE F.RL_FENCE_om_ab then d
  else if d.on R.RL_FENCE F.RL_FENCE_om_c then
    (({ d with cg := { d.cg with om := 2 } }).wr R.RL_FENCE F.RL_FENCE_om_ab 1).deviceFault F.RL_FAULT_overman
  else
    let d := ((d.wr R.RL_FENCE F.RL_FENCE_om_ab 1).event 0x01 0 cause).tally 0x0F05 768
    let taken := (List.range 64).filter (fun n => d.on (R.CG_STAT n) F.CG_STAT_busy)
    { d with devState := if d.devState = 4 then 4 else 3, cg := { d.cg with lost := taken, was := d.devState }, rl := { d.rl with takeovers := d.rl.takeovers + 1 } }

/-- Core C fails (R416). -/
def Dev.coreCFails (d : Dev) : Dev :=
  let d := d.wr R.RL_FENCE F.RL_FENCE_om_c 1
  if d.cg.om = 1 || d.on R.RL_FENCE F.RL_FENCE_om_ab then
    (({ d with cg := { d.cg with om := 2 } }).event 0x02 0 1).deviceFault F.RL_FAULT_overman
  else d.alarm F.RL_ALARM_unit true

/-! ## Fencing (R406) -/

/-- A fault is detected: the unit waits for its fence. -/
def Dev.detect (d : Dev) (r : TkReq) : Dev := Dev.tkFence { d with rl := { d.rl with detected := d.rl.detected ++ [r] } }

/-- What a fault in an island leads to (R404, R446): the unit that the island holds. -/
def unitOf (isl cause : Nat) : Option TkReq :=
  if isl < 26 then some { kind := 0, unit := isl, cause := cause }
  else if isl = 48 || isl = 49 then some { kind := 1, unit := isl - 48, cause := cause }
  else if 74 ≤ isl && isl ≤ 77 then some { kind := 5, unit := isl - 74, cause := cause }
  else if 78 ≤ isl && isl ≤ 82 then some { kind := 2, unit := isl - 78, cause := cause }
  else if isl = 86 then some { kind := 3, unit := 0, cause := cause }
  else if isl = 87 then some { kind := 3, unit := 1, cause := cause }
  else if isl = 44 || isl = 45 || isl = 46 || isl = 47 || isl = 89 then none
  else some { kind := 4, unit := isl, cause := cause }

/-- The device fault that a central island's loss is. -/
def centralFault (isl : Nat) : Fld :=
  match isl with
  | 45 => F.RL_FAULT_hoist
  | 46 => F.RL_FAULT_bin
  | 89 => F.RL_FAULT_timebase
  | _ => F.RL_FAULT_central

/-- A fault in an island: a fence, or a device fault for a unit of group D and for the island that holds both copies
of a central logic. -/
def Dev.islandFault (d : Dev) (isl cause : Nat) : Dev :=
  match unitOf isl cause with
  | some r => d.detect r
  | none =>
    d.deviceFault (centralFault isl)

/-- A relief gallery that is fenced during a swap or a takeover (R419): the swap is abandoned and the old gallery
stays ACTIVE; after a fault the choice is made anew. -/
def Dev.abandonSwap (d : Dev) (g : Nat) : Dev :=
  match d.rl.swapOld with
  | some o =>
    if d.rd R.RL_TKSTAT F.RL_TKSTAT_relief = g || o = g then
      (({ d with rl := { d.rl with swapOld := none, cur := none } }).wr R.RL_TKSTAT F.RL_TKSTAT_busy 0).wr R.RL_FORCE F.RL_FORCE_busy 0
    else d
  | none => d

/-- A gallery is fenced, and the ledger has it as failed (R480): it leaves the active set, its requests are cancelled, its delay list and queues discarded. -/
def Dev.fenceGallery (d : Dev) (r : TkReq) : Dev :=
  let g := r.unit
  let st := d.galState g
  if st ≠ 2 && st ≠ 3 then d
  else
    let d := ((d.setGalState g 4).clampDom g).wr R.RL_FENCE F.RL_FENCE_gallery (withBit (d.rd R.RL_FENCE F.RL_FENCE_gallery) g true)
    let d := d.dropEngine g
    let d := { d with dr := { d.dr with ready := d.dr.ready.set [] g [], delays := d.dr.delays.set [] g []
                                        returns := d.dr.returns.filter (fun e => e.1 != g) } }
    let d := (List.range 8).foldl (fun d c => ({ d with dr := { d.dr with cq := d.dr.cq.set [] (g * 8 + c) [] } }).syncCq g c) d
    let d := (d.galFailed g true).event 0x42 g 0 |>.tally 0x0F05 g
    let d := d.abandonSwap g
    let d := { d with rl := { d.rl with since := if d.tkHeld then d.rl.since else d.now, leaving := d.rl.leaving.filter (· != g) } }
    (d.tkJoin { r with was := st == 3 }).galAlarms

def Dev.fencePlane (d : Dev) (r : TkReq) : Dev :=
  let pl := r.unit % 2
  if d.planeFenced pl then d
  else
    let d := d.wr R.XC_CFG (if pl = 0 then F.XC_CFG_fenced_a else F.XC_CFG_fenced_b) 1
    let d := (d.wr R.RL_FENCE (if pl = 0 then F.RL_FENCE_plane_a else F.RL_FENCE_plane_b) 1).clampDom (40 + pl)
    let d := (d.event 0x42 (256 + pl) 0).tally 0x0F05 (256 + pl)
    if d.planeFenced (1 - pl) then d.deviceFault F.RL_FAULT_planes
    else
      let d := d.alarm F.RL_ALARM_plane_single true
      let d := if d.tkHeld then d else (d.tkShow 1 pl r.cause 0).wr R.RL_TKSTAT F.RL_TKSTAT_busy 0
      d.tkJoin { r with unit := pl }

/-- Frames of a pipe that is lost end (R404). -/
def Dev.losePipe (d : Dev) (p : Nat) : Dev :=
  let hs := (d.frames.filter (fun e => e.2.pipe == p && (e.2.stage == .fifo || e.2.stage == .parsing || e.2.stage == .parsed))).map (·.1)
  let d := { d with as := { d.as with fifo := d.as.fifo.set [] p [], order := d.as.order.set [] p []
                                      assayers := d.as.assayers.filter (fun e => e.1 / 16 != p) } }
  hs.foldl (fun d h => d.dropFrame h) d

/-- The spare of a copy in progress is fenced: the copy ends, and its source stays ACTIVE (R403, R406). -/
def Dev.dropCopy (d : Dev) : Dev :=
  let d := { d with sm := { d.sm with sparing := none } }
  (d.wr R.SM_SPARE F.SM_SPARE_busy 0).tkIdle.wr R.RL_FORCE F.RL_FORCE_busy 0

/-- Fence one unit. -/
def Dev.fenceUnit (d : Dev) (r : TkReq) : Dev :=
  match r.kind with
  | 0 => d.fenceGallery r
  | 1 => d.fencePlane r
  | 2 =>
    let d := d.wr R.RL_FENCE F.RL_FENCE_seam_ch (withBit (d.rd R.RL_FENCE F.RL_FENCE_seam_ch) r.unit true)
    let d := (d.event 0x42 (512 + r.unit) 0).tally 0x0F05 (512 + r.unit)
    if d.smState r.unit = 2 then d.abruptFail r.unit
    else match d.sm.sparing with
      | some (_, sp, _) => if sp = r.unit then d.dropCopy else d
      | none => d
  | 3 => if r.unit = 0 then d.omTakeover (if r.cause = 6 then 2 else 0) else d.coreCFails
  | 5 =>
    let d := (d.wr (R.LD_QSTAT r.unit) F.LD_QSTAT_fenced 1).clampDom (42 + r.unit)
    let d := d.wr R.RL_FENCE F.RL_FENCE_lode_q (withBit (d.rd R.RL_FENCE F.RL_FENCE_lode_q) r.unit true)
    d.alarm F.RL_ALARM_lode_q true
  | _ =>
    if d.isleFenced r.unit then d
    else
      let d := { d with rl := { d.rl with isles := d.rl.isles ++ [r.unit] } }
      let d := d.alarm F.RL_ALARM_unit true
      if 34 ≤ r.unit && r.unit ≤ 37 then d.losePipe (r.unit - 34)
      else if 38 ≤ r.unit && r.unit ≤ 41 then d.losePipe (r.unit - 38)
      else d

/-- The fault that is fenced first (R420): in order of detection, which holds those of one cycle with the lower kind
and then the lower unit first. -/
def Dev.fenceNext (d : Dev) : Dev :=
  match d.rl.detected with
  | [] => d
  | r :: rest => (({ d with rl := { d.rl with detected := rest } }).fenceUnit r).tkFence

/-! ## Commands to the relief controller (R412 to R416) -/

/-- Step 1 of a planned swap (R412). -/
def Dev.swapStart (d : Dev) (o r cause : Nat) : Dev :=
  let d := ((d.setGalState r 3).setRelief r false).supStart (supOf r)
  let d := (d.tkShow 0 o cause 5).wr R.RL_TKSTAT F.RL_TKSTAT_relief r
  let d := { d with rl := { d.rl with cur := some { kind := 0, unit := o, cause := cause, was := true }, swapOld := some o, since := d.now } }
  ((d.event 0x42 o 0).tally 0x0F05 o).galAlarms

/-- The old gallery of a planned swap has no job of an affinity template (R412). -/
def Dev.affinityDone (d : Dev) (o : Nat) : Bool :=
  d.dr.jobs.all (fun e => e.1 / 2048 != o || !TH.affinity (d.tmplHdr e.2.tmpl))

/-- Galleries whose slots have drained after a swap become STANDBY and join the relief set (R412). -/
def Dev.leaveCheck (d : Dev) : Dev :=
  let out := d.rl.leaving.filter (fun g => d.slotsUsed g == 0)
  let d := out.foldl (fun d g => (d.setGalState g 2).setRelief g true) d
  if out.isEmpty then d
  else ({ d with rl := { d.rl with leaving := d.rl.leaving.filter (fun g => !out.contains g) }, bg := { d.bg with ledgerDue := true } }).galAlarms

/-- Steps 3 to 5 of R412. -/
def Dev.swapDone (d : Dev) : Dev :=
  match d.rl.swapOld with
  | none => d
  | some o =>
    if !d.affinityDone o then d
    else
      let r := d.rd R.RL_TKSTAT F.RL_TKSTAT_relief
      let d := d.copyMem (sharedAddr o 0x100000) (sharedAddr r 0x100000) 0x100000
      let d := (d.loadAs o r).rewriteMaps o r
      -- a swap of the rotation policy counts (R474)
      let one := if d.rl.cur.any (fun c => c.cause == 7) then 1 else 0
      let d := { d with rl := { d.rl with swapOld := none, leaving := d.rl.leaving ++ [o] }
                        bg := { d.bg with ledgerDue := true, rotations := d.bg.rotations + one } }
      let d := (((d.event 0x42 o 1).tkDur).tkCount F.RL_CNT_gal).phasorMoves o
      (d.wr R.RL_FORCE F.RL_FORCE_busy 0).tkIdle.leaveCheck

/-- A returned gallery has passed its self-test (R413). -/
def Dev.galReturn (d : Dev) (g : Nat) : Dev :=
  let d := (d.wr (R.PW_DOM g) F.PW_DOM_state 2).wr (R.PW_DOM g) F.PW_DOM_req 1
  let d := d.wr R.RL_FENCE F.RL_FENCE_gallery (withBit (d.rd R.RL_FENCE F.RL_FENCE_gallery) g false)
  let d := (d.resetGallery g).setGalState g 2
  let d := match d.majority with | some f => d.loadAs f g | none => d
  (((d.setRelief g true).supStart (supOf g)).galFailed g false).galAlarms

/-- A returned plane has passed its self-test (R414): the map goes back through the move rule of R310. -/
def Dev.planeReturn (d : Dev) (pl : Nat) : Dev :=
  let d := d.wr R.XC_CFG (if pl = 0 then F.XC_CFG_fenced_a else F.XC_CFG_fenced_b) 0
  let d := (d.wr R.RL_FENCE (if pl = 0 then F.RL_FENCE_plane_a else F.RL_FENCE_plane_b) 0).wr (R.PW_DOM (40 + pl)) F.PW_DOM_state 2
  let d := match d.rl.plWas with | some w => d.plmapWrite w | none => d
  ({ d with rl := { d.rl with plWas := none } }).alarm F.RL_ALARM_plane_single false

/-- Cores A and B pass their self-test and begin to run again in lockstep from core C's state (R416). Requests are answered in the way
of R380: TAKEOVER_COMPLETE ends the return. -/
def Dev.omReturn (d : Dev) : Dev :=
  let d := d.wr R.RL_FENCE F.RL_FENCE_om_ab 0
  let taken := (List.range 64).filter (fun n => d.on (R.CG_STAT n) F.CG_STAT_busy)
  { d with devState := if d.devState = 4 then 4 else 3, cg := { d.cg with lost := taken, was := d.devState } }

/-- A gallery whose self-test fails on its return stays or becomes FENCED, and RL_FORCE.err is set (R413). -/
def Dev.galRefused (d : Dev) (g : Nat) : Dev :=
  let d := ((d.setGalState g 4).clampDom g).wr R.RL_FENCE F.RL_FENCE_gallery (withBit (d.rd R.RL_FENCE F.RL_FENCE_gallery) g true)
  d.wr R.RL_FORCE F.RL_FORCE_err 1

/-- A request to the relief controller by RL_FORCE or RELIEF_FORCE: kind, ret, unit, whether the self-test of a return
passes, and the RL_TKSTAT cause. False: refused. -/
def Dev.force (d : Dev) (kind : Nat) (ret : Bool) (unit : Nat) (pass : Bool) (cause : Nat) : Bool × Dev :=
  if d.on R.RL_FORCE F.RL_FORCE_busy then (false, d)
  else
    let failed (d : Dev) : Dev := d.wr R.RL_FORCE F.RL_FORCE_err 1
    match kind, ret with
    | 0, false =>
      if 26 ≤ unit || !d.galActive unit || d.tkBusy then (false, d)
      else match d.reliefGal with
        | some r => (true, (d.wr R.RL_FORCE F.RL_FORCE_busy 1).swapStart unit r cause)
        | none => (false, d)
    | 0, true =>
      if 26 ≤ unit || !(d.galState unit == 4 || d.galState unit == 0) || d.rl.cur.any (fun r => r.kind == 0 && r.unit == unit)
          || (d.rl.queue ++ d.rl.beyond).any (fun r => r.kind == 0 && r.unit == unit) then (false, d)
      else (true, if pass then d.galReturn unit else d.galRefused unit)
    | 1, false =>
      if 2 ≤ unit || d.planeFenced unit || d.planeFenced (1 - unit) then (false, d)
      else (true, d.detect { kind := 1, unit := unit, cause := cause })
    | 1, true =>
      if 2 ≤ unit || !d.planeFenced unit then (false, d) else (true, if pass then d.planeReturn unit else failed d)
    | 2, false =>
      if 4 ≤ unit || d.smState unit ≠ 2 || d.smSpare.isNone || d.on R.SM_SPARE F.SM_SPARE_busy then (false, d)
      else (true, (d.wr R.RL_FORCE F.RL_FORCE_busy 1).spareStart unit true)
    | 2, true =>
      if 4 ≤ unit || d.smState unit ≠ 3 || d.on R.SM_SPARE F.SM_SPARE_busy then (false, d)
      else (true, (d.wr R.RL_FORCE F.RL_FORCE_busy 1).spareStart (d.smPhys unit) true)
    | _, false =>
      if d.cg.om ≠ 0 || d.on R.RL_FENCE F.RL_FENCE_om_c then (false, d) else (true, d.detect { kind := 3, unit := 0, cause := cause })
    | _, true => if d.cg.om ≠ 1 || !d.on R.RL_FENCE F.RL_FENCE_om_ab then (false, d) else (true, if pass then d.omReturn else failed d)

/-- A start of RL_FORCE: a refusal sets err. -/
def Dev.forceGo (d : Dev) (kind : Nat) (ret : Bool) (unit : Nat) (pass : Bool) : Dev :=
  match d.force kind ret unit pass 0 with
  | (true, d) => d
  | (false, d) => d.wr R.RL_FORCE F.RL_FORCE_err 1

end Sys2Proof.Machine
end

