-- ==== Sys2Proof/Machine/Relief.lean ====
section
/-!
DEFINITION. The commands of the relief controller and of supply phases (R404 to R428).
-/

namespace Sys2Proof.Machine

/-- PLL_LOCK_LOSS isl (R406, R420): the PLL of a clock island loses lock. -/
def execPllLockLoss (isl : Fin 100) (s : State) : Outc := s.go (fun d =>
  (d.wr (R.CK_ISLSTAT isl) F.CK_ISLSTAT_lock 0).islandFault isl 2)

/-- SELF_CHECK_FAIL u (R404 to R406): a unit fails its self-check. One copy of Draught's admission logic or of the Token
board is fenced with no loss; the second is a device fault. -/
def execSelfCheckFail (u : CheckUnit) (s : State) : Outc := s.go (fun d =>
  match u with
  | .draughtCopy => if d.rl.draughtLost = 0 then { d with rl := { d.rl with draughtLost := 1 } }
      else ({ d with rl := { d.rl with draughtLost := 2 } }).deviceFault F.RL_FAULT_central
  | .tokenCopy => if d.rl.tokenLost = 0 then { d with rl := { d.rl with tokenLost := 1 } }
      else ({ d with rl := { d.rl with tokenLost := 2 } }).deviceFault F.RL_FAULT_central
  | .island isl => d.islandFault isl 4)

/-- UNIT_FENCE (R406, R407, R414, R418, R420): the oldest detected fault's unit is fenced. -/
def execUnitFence (s : State) : Outc := s.go (fun d => d.fenceNext)

/-- DRAUGHT_RECLAIM g (R407, R411, R419): the last step of the reclaim. -/
def execDraughtReclaim (g : Fin 26) (s : State) : Outc := s.go (fun d =>
  if !d.reclaiming g 3 then d
  else
    match d.rl.cur with
    | some r => (d.draughtReclaim g).reclaimNext.reclaimEnd r
    | none => d)

/-- GALLERY_TAKEOVER (R408 to R411, R419): RESTORE and ACTIVATE of the fenced gallery's relief. -/
def execGalleryTakeover (s : State) : Outc := s.go (fun d =>
  if d.rd R.RL_TKSTAT F.RL_TKSTAT_step ≠ 3 then d
  else
    match d.rl.cur with
    | none => d
    | some r =>
      match d.reliefGal with
      | some g => (d.takeOver r.unit g).tkIdle
      | none => ((d.shareOut r.unit).galAlarms).tkIdle)

/-- SWAP_DRAIN_DONE (R412, R419): no affinity job is left in the old gallery, or its slots have drained after the swap. -/
def execSwapDrainDone (s : State) : Outc := s.go (fun d => if d.rl.swapOld.isSome then d.swapDone else d.leaveCheck)

/-- Fields of RL_PHASE and the phases of each rail (R417). -/
def phaseFld : Nat → Fld
  | 0 => F.RL_PHASE_vcg | 1 => F.RL_PHASE_vcf | 2 => F.RL_PHASE_vsr | 3 => F.RL_PHASE_vdq | 4 => F.RL_PHASE_vsd | _ => F.RL_PHASE_vsv
def phaseMax : Nat → Nat
  | 0 => 18 | 1 => 11 | 2 => 7 | 3 => 5 | 4 => 5 | _ => 3

/-- PHASE_SHED rail low dead (R417): a phase is shed; `low` names the islands lowered because the rest cannot carry the
load, with their frequencies, and those of other rails or of no lower frequency play no part; `dead`: the rail cannot carry its islands at their lowest. -/
def execPhaseShed (rail : Fin 6) (low : List (Fin 100 × Fin 4096)) (dead : Bool) (s : State) : Outc := s.go (fun d =>
  let n := d.rd R.RL_PHASE (phaseFld rail)
  let d := d.wr R.RL_PHASE (phaseFld rail) ((n + 1).min (phaseMax rail))
  let d := d.alarm F.RL_ALARM_phase true
  let low := low.filter (fun e => d.rd (R.PW_DOM (islandDom e.1)) F.PW_DOM_rail == rail && (isleRange e.1).isSome
    && decide (e.2.val < d.rd (R.CK_ISLSTAT e.1) F.CK_ISLSTAT_freq_mhz))
  let d := low.foldl (fun d e =>
    let d := d.isleFreq e.1 e.2
    d.event 0x43 e.1 (d.rd (R.CK_ISLSTAT e.1) F.CK_ISLSTAT_freq_mhz)) d
  let d := if low.isEmpty then d else d.alarm F.RL_ALARM_phase_cap true
  if dead then d.deviceFault F.RL_FAULT_rail else d)

/-- Alarm causes by their bit. -/
def alarmFld (b : Nat) : Fld := ⟨b, 1, .ro, false⟩

/-- ALARM_CAUSE_EXPIRY b (R424): 60 s after the last occurrence of a cause raised by single occurrences. -/
def execAlarmCauseExpiry (b : Fin 16) (s : State) : Outc := s.go (fun d =>
  match d.rl.lastAlarm.get none b with
  | none => d
  | some t =>
    if d.now < t + 60 * unitsPerSec then d
    else ({ d with rl := { d.rl with lastAlarm := d.rl.lastAlarm.set none b none } }).alarm (alarmFld b) false)

/-- CORE_C_FAILURE (R416). -/
def execCoreCFailure (s : State) : Outc := s.go (fun d => d.coreCFails)

end Sys2Proof.Machine
end

