-- ==== Sys2Proof/Machine/PowerOps.lean ====
section
/-!
DEFINITION. Power domains and the power state machine (R439 to R451), as operations.
-/

namespace Sys2Proof.Machine

def Dev.powerMode (d : Dev) : Nat := d.rd R.PW_LSTAT F.PW_LSTAT_mode

/-- One nanosecond of station time passes while the module is not in DOWN (R10, R52): the block's clock runs whether or not anything is
commanded, the Overman rewrites the static station entries that bad parity has cost (R119) and the pinned flow records that an uncorrectable word has
cost (R262), and the Face tiles take requests (R206). Nothing else happens on its own; what
time brings about is a command of the table (DESIGN CHOICE, log entry 1). -/
def Dev.idle (d : Dev) : Dev := if d.powerMode = 4 then d else { d.staticsBack.pinsBack.faceSends with now := d.now + nsU 1 }

/-- LULL_N on J3 (R434). -/
def pinLullN : Nat := 4

/-- The power state changes (R439): LULL_N is low in SHED, LULL and RESTORE. -/
def Dev.setPower (d : Dev) (m : Nat) : Dev :=
  let low (x : Nat) : Bool := 1 ≤ x && x ≤ 3
  let was := d.powerMode
  let d := d.wr R.PW_LSTAT F.PW_LSTAT_mode m
  if low was = low m then d else d.out (.pin pinLullN (!low m))

/-- The device state of R361 takes a value: under a takeover it is the state to come back to, and FAULT stays. -/
def Dev.showState (d : Dev) (s : Nat) : Dev :=
  if d.devState = 4 then d
  else if d.devState = 3 then { d with cg := { d.cg with was := s } }
  else { d with devState := s }

/-! ## Ramps (R448) -/

/-- The rails of a domain (R446). -/
def railsOf (dom : Nat) : List Nat :=
  if dom < 26 then [0] else if dom < 34 then [4, 1] else if dom < 42 then [1] else if dom < 46 then [2] else if dom = 46 then [3]
  else if dom = 47 then [4] else [5]

/-- Waiting ramps start in request order, one on each rail at a time. -/
def Dev.rampFrom (d : Dev) (busy : List Nat) : List Nat → List Nat × Dev
  | [] => ([], d)
  | k :: r =>
    let free := (railsOf k).all (fun x => !busy.contains x)
    let d := if free then d.wr (R.PW_DOM k) F.PW_DOM_state 1 else d
    let x := d.rampFrom (busy ++ railsOf k) r
    (if free then x.1 else k :: x.1, x.2)

def Dev.rampGo (d : Dev) : Dev :=
  let busy := ((List.range 50).filter (fun k => d.domSt k == 1)).flatMap railsOf
  let (w, d) := d.rampFrom busy d.pw.ramp
  { d with pw := { d.pw with ramp := w } }

/-- A domain that is off is asked to ramp. -/
def Dev.rampAsk (d : Dev) (k : Nat) : Dev :=
  if d.pw.ramp.contains k then d else ({ d with pw := { d.pw with ramp := d.pw.ramp ++ [k] } }).rampGo

/-! ## What is lost with a domain's power (R446, R447) -/

/-- Crosscut ends every descriptor that `p` names; the count of them. -/
def Dev.endDescs (d : Dev) (p : Desc → Bool) : Nat × Dev :=
  let gone := (d.xc.xp ++ d.xc.pq).flatMap (fun (e : Nat × List Desc) => e.2.filter p)
  let keep (m : Tab (List Desc)) : Tab (List Desc) :=
    (m.map (fun e => (e.1, e.2.filter (fun x => !p x)))).filter (fun e => !e.2.isEmpty)
  let d := { d with xc := { d.xc with xp := keep d.xc.xp, pq := keep d.xc.pq } }
  let d := d.descEnds gone
  (gone.length, (List.range 32).foldl (fun d p => d.syncQueued p) d)

/-- Frames whose body stands in a row that loses power end; a job or ticket of such a frame is a void. -/
def Dev.rowFrames (d : Dev) (row : Nat) : Dev :=
  let hs := (d.frames.filter (fun e => e.2.cell.any (fun p => ptrRow p == row))).map (·.1)
  hs.foldl (fun d h =>
    match (d.frame h).ticket with
    | some t => ((d.modFrame h (fun f => { f with ticket := none, cell := none })).hoistVoid t).dropFrame h
    | none => (d.modFrame h (fun f => { f with cell := none })).dropFrame h) d

/-- Row memory and its free list start anew. -/
def Dev.rowReset (d : Dev) (row : Nat) : Dev :=
  let d := (d.rowFrames row).wipe (rowAddr row 0 0) (rowAddr (row + 1) 0 0)
  let mine (k : Nat) : Bool := k / 32768 == row
  let d := { d with bn := { d.bn with
    cells := d.bn.cells.filter (fun e => !mine e.1)
    head := d.bn.head.del row
    rest := d.bn.rest.del row
    resv := d.bn.resv.filter (fun e => e.1 / 2 ^ 20 != row) } }
  let d := (List.range 34).foldl (fun d q => d.wr (R.BN_QUOTA q row) F.BN_QUOTA_used 0) d
  d.setRow row (rowCells row) 0

/-- A pipe loses its frames, its learn queue and its station table. -/
def Dev.pipeReset (d : Dev) (p : Nat) : Dev :=
  let d := d.losePipe p
  { d with st := { d.st with learnQ := d.st.learnQ.set [] p [], station := d.st.station.filter (fun e => e.1 / 262144 != p) } }

/-- A pipe comes back: the Overman writes its static station entries from its own copies (R119). -/
def Dev.pipeBack (d : Dev) (p : Nat) : Dev :=
  { d with st := { d.st with station :=
    (d.st.stationCopy.filter (fun e => e.1 / 262144 == p)).foldl (fun m e => m.put e.1 e.2) d.st.station } }

/-- A gallery's instruction memories lose their words (R447). The Overman keeps its copy of the image only for a gallery that Lull
brings back (R444). -/
def Dev.imemLost (d : Dev) (g : Nat) : Dev :=
  let d := (d.wipe (imemAddr g 0 0) (imemAddr (g + 1) 0 0)).modGal g (fun x => { x with badWords := [] })
  if d.powerMode = 0 then { d with rl := { d.rl with images := d.rl.images.del g } } else d

/-- Power goes away from a domain. -/
def Dev.domOff (d : Dev) (k : Nat) : Dev :=
  let d := { (d.wr (R.PW_DOM k) F.PW_DOM_state 0) with pw := { d.pw with ramp := d.pw.ramp.filter (· != k) } }
  let d := (domIsles k).foldl Dev.isleStop d
  if k < 26 then
    ((((d.resetGallery k).faceEmpty k).imemLost k).setGalState k 0).wr R.RL_FENCE F.RL_FENCE_gallery (withBit (d.rd R.RL_FENCE F.RL_FENCE_gallery) k false)
  else if k < 34 then
    let q := k - 26
    let (_, d) := d.endDescs (fun x => D.row.get x.w == q || D.dcol.get x.w == q)
    d.rowReset q
  else if k < 38 then d.pipeReset (k - 34)
  else d

/-- A domain's rail is good and its self-test has passed: it is ON. -/
def Dev.domOn (d : Dev) (k : Nat) : Dev :=
  let d := (domIsles k).foldl Dev.isleStart (d.wr (R.PW_DOM k) F.PW_DOM_state 2)
  if k < 26 then (if d.galState k = 0 || d.galState k = 4 then d.resetGallery k else d)
  else if 34 ≤ k && k < 38 then d.pipeBack (k - 34)
  else d

/-! ## Requests (R448) -/

/-- A request on a power domain that is refused (R448): the domain, the value written. -/
def Dev.domRefused (d : Dev) (dom req : Nat) : Bool :=
  let st := d.domSt dom
  dom == 38 || dom == 39 || (42 ≤ dom && dom ≤ 49) || d.powerMode != 0
    || (req == 0 && dom < 26 && d.galState dom != 2 && d.galState dom != 4 && st != 0)
    || (req == 0 && 26 ≤ dom && dom < 34 && (List.range 4).any (fun l => d.portOn ((dom - 26) * 4 + l)))
    || (req == 0 && 34 ≤ dom && dom < 38 && (d.domSt (26 + 2 * (dom - 34)) == 2 || d.domSt (27 + 2 * (dom - 34)) == 2))
    || (req == 0 && (dom == 40 || dom == 41) && !d.planeFenced (dom - 40)
          && (d.rget R.XC_PLMOVE != 0 || (List.range 64).any (fun e => d.planeOf e == dom - 40)))

/-- A write of PW_DOM.req (R448). Requests 2 and 3 have no row for these domains and change nothing but the field. -/
def Dev.domReq (d : Dev) (dom req : Nat) : Dev :=
  let r := R.PW_DOM dom
  if d.domRefused dom req then d.wr r F.PW_DOM_err 1
  else
    let st := d.domSt dom
    let d := d.wr r F.PW_DOM_req req
    if req = 1 && st = 0 then d.rampAsk dom
    else if req = 0 && (st = 2 || st = 4) then ((d.domOff dom).galAlarms).rampGo
    else d

/-! ## Lull (R441 to R444) -/

/-- The galleries of the Lull set (R441): those configured where they are ACTIVE, else the lowest-numbered ACTIVE ones. -/
def Dev.lullSet (d : Dev) : List Nat :=
  let want := [d.rd R.PW_CFG F.PW_CFG_lull_gal0, d.rd R.PW_CFG F.PW_CFG_lull_gal1]
  let keep := (want.filter d.galActive).eraseDups
  let short := (want.filter (fun g => !d.galActive g)).length
  keep ++ ((d.activeGals.filter (fun g => !keep.contains g)).take short)

/-- The plane of the Lull set: A if A is in service. -/
def Dev.lullPlane (d : Dev) : Nat := if d.planeFenced 0 then 1 else 0

/-- Domains that stay powered in Lull. -/
def Dev.lullDoms (d : Dev) : List Nat :=
  let p := d.rd R.PW_CFG F.PW_CFG_lull_pipe
  d.pw.lullGals ++ [26 + 2 * p, 27 + 2 * p, 34 + p, 40 + d.lullPlane] ++ [38, 39, 42, 43, 44, 45, 46, 47, 48, 49]

/-- A leaving gallery is fenced and reclaimed (R406, R407, R443). -/
def Dev.shedGallery (d : Dev) (g : Nat) : Dev :=
  let st := d.galState g
  if st = 0 then d
  else
    let d := (((d.abandonSwap g).resetOver g).setGalState g 4).clampDom g
    let d := d.wr R.RL_FENCE F.RL_FENCE_gallery (withBit (d.rd R.RL_FENCE F.RL_FENCE_gallery) g true)
    let d := { d with rl := { d.rl with leaving := d.rl.leaving.filter (· != g) } }
    (((d.hoistReclaim g).tokenReclaim g).binReclaim (.gallery (Fin.ofNat 26 g))).draughtReclaim g

/-- A plane is fenced (R311). -/
def Dev.shedPlane (d : Dev) (pl : Nat) : Dev :=
  let d := d.wr R.XC_CFG (if pl = 0 then F.XC_CFG_fenced_a else F.XC_CFG_fenced_b) 1
  let d := (d.wr R.RL_FENCE (if pl = 0 then F.RL_FENCE_plane_a else F.RL_FENCE_plane_b) 1).clampDom (40 + pl)
  (d.planeReclaim pl).alarm F.RL_ALARM_plane_single true

/-- What a Lull will restore: the domains, galleries and planes as they stand. -/
def Dev.lullNote (d : Dev) : Dev :=
  if d.powerMode = 3 then d
  else
    let on := (List.range 50).filter (fun k => d.domSt k == 2 || d.domSt k == 3)
    { d with pw := { d.pw with run := on, gals := d.activeGals, plmap := some (d.rget R.XC_PLMAP), lullGals := d.lullSet } }

/-- The ports and galleries that do not stay in Lull are left. -/
def Dev.shedUnits (d : Dev) (stay : List Nat) : Dev :=
  let d := (List.range 32).foldl (fun d p => if d.portSt p = 0 || stay.contains (26 + p / 4) then d else d.portLeave p 0) d
  (List.range 26).foldl (fun d g => if stay.contains g then d else d.shedGallery g) d

/-- All rows go to the plane that stays. -/
def Dev.shedPlanes (d : Dev) : Dev :=
  let other := 1 - d.lullPlane
  let d := d.rset R.XC_PLMAP (if other = 0 then BitVec.allOnes 64 else 0)
  if d.planeFenced other then d else d.shedPlane other

/-- The descriptors of rows that are shed end. -/
def Dev.shedRows (d : Dev) (stay : List Nat) : Dev :=
  let x := d.endDescs (fun x => D.row.get x.w < 8 && !stay.contains (26 + D.row.get x.w))
  (x.2.inc R.PW_LSHED F.PW_LSHED_shed_drop x.1).galAlarms

/-- Steps 1 to 4 of R443. -/
def Dev.shed (d : Dev) : Dev :=
  let d := ((d.lullNote.setPower 1).inc R.PW_LSTAT F.PW_LSTAT_lull_cnt)
  let stay := d.lullDoms
  ((d.shedUnits stay).shedPlanes).shedRows stay

/-- An island is clamped to a frequency it does not exceed. -/
def Dev.isleClamp (d : Dev) (isl mhz : Nat) : Dev :=
  if mhz < d.rd (R.CK_ISLSTAT isl) F.CK_ISLSTAT_freq_mhz then d.isleFreq isl mhz else d

/-- An island goes back to the frequency that CK_ISLCFG asks for (R171). -/
def Dev.isleBack (d : Dev) (isl : Nat) : Dev :=
  let f := d.rd (R.CK_ISLCFG isl) F.CK_ISLCFG_freq_req
  if f = d.rd (R.CK_ISLSTAT isl) F.CK_ISLSTAT_freq_mhz then d else d.isleFreq isl f

/-- The module enters DOWN (R439, R440): Tally is closed next (TALLY_CLOSE). -/
def Dev.enterDown (d : Dev) : Dev :=
  if d.powerMode = 4 then d
  else
    let was := d.powerMode
    { (d.setPower 4) with tl := { d.tl with downFrom := was } }

end Sys2Proof.Machine
end

