-- ==== Sys2Proof/Machine/Power.lean ====
section
/-!
DEFINITION. The commands of the supply, the power state machine, the power domains and heat (R437 to R451).
-/

namespace Sys2Proof.Machine

/-- VMAIN_FALL (R440, R443, R466): VMAIN stays below V_run for lull_db. From RUN it leads to SHED, or to DOWN where LULL_EN
is 0 or the start has not reached READY; from RESTORE to SHED. -/
def execVmainFall (s : State) : Outc := s.go (fun d =>
  match d.powerMode with
  | 0 => if d.devState = 0 || !d.on R.PW_LSTAT F.PW_LSTAT_lull_en then d.enterDown else d.shed
  | 3 => d.shed
  | _ => d)

/-- VMAIN_DIP (R440): a break shorter than lull_db, or one that the store carries. -/
def execVmainDip (s : State) : Outc := s.go (fun d =>
  if d.powerMode = 4 then d
  else ({ d with bo := { d.bo with vmain := true } }).inc R.PW_LSTAT F.PW_LSTAT_dip_cnt)

/-- SHED_COMPLETE (R443 steps 5 and 6, R441): only the Lull set is powered. -/
def execShedComplete (s : State) : Outc := s.go (fun d =>
  if d.powerMode ≠ 1 then d
  else
    let stay := d.lullDoms
    let d := { d with pw := { d.pw with ramp := [] } }
    let d := (List.range 50).foldl (fun d k => if stay.contains k then d else d.domOff k) d
    let d := d.wrIf (d.domSt 46 == 2) (R.PW_DOM 46) F.PW_DOM_state 3
    let d := d.pw.lullGals.foldl (fun d g => d.isleClamp g 600) d
    let d := (d.isleClamp 86 200).isleClamp 87 200
    let d := (d.lullLink.setPower 2).showState 2
    let d := { d with pw := { d.pw with lullAt := d.now } }
    (((d.alarm F.RL_ALARM_lull true).galAlarms).tally 0x0F06 0 [2]))

/-- The end of the exit time, which runs from LULL (R440); an exit time of 0 is treated as 1. -/
def Dev.lullAtEnd (d : Dev) : Nat := d.pw.lullAt + (d.rd R.PW_CFG F.PW_CFG_exit_ds).max 1 * msU 100

/-- VMAIN_RISE (R440, R444): VMAIN stays at or above V_run for the exit time. Seam leaves self-refresh, and the domains of the
run set ramp. -/
def execVmainRise (s : State) : Outc := s.go (fun d =>
  if d.powerMode ≠ 2 || d.now < d.lullAtEnd then d
  else
    let d := { (d.setPower 3) with bo := { d.bo with vmain := true } }
    let d := d.wrIf (d.domSt 46 == 3) (R.PW_DOM 46) F.PW_DOM_state 2
    (d.pw.run.filter (fun k => d.domSt k == 0)).foldl (fun d k => d.rampAsk k) d)

/-- The bindings whose state blocks the Overman writes again on leaving Lull (R231). -/
def Dev.phasorAll (d : Dev) : Dev :=
  let bs := (d.ph.copies.map (·.1)).filter (fun b => d.on (R.PH_BIND b) F.PH_BIND_valid)
  { d with ph := { d.ph with rewrite := bs } }

/-- A returning gallery is loaded from the copy that the Overman keeps in Seam (R409, R444). -/
def Dev.imageBack (d : Dev) (g : Nat) : Dev :=
  match d.rl.images.find g with
  | some bs => d.loadImage g bs
  | none => d

/-- RESTORE_COMPLETE (R440, R444): every domain of the run set is ON; the galleries serve again, XC_PLMAP is written back
through the move rule, and the ports are enabled. A domain that a fence clamps meanwhile does not hold RESTORE up. -/
def execRestoreComplete (s : State) : Outc := s.go (fun d =>
  if d.powerMode ≠ 3 || !d.pw.run.all (fun k => d.domSt k == 2 || d.domSt k == 4) then d
  else
    let d := (d.pw.gals.filter (fun g => d.galState g == 1 || d.galState g == 2)).foldl (fun d g =>
      (((d.resetOver g).setGalState g 3).setRelief g false).supStart (supOf g)) d
    let d := (d.pw.run.filter (fun g => decide (g < 26) && !d.pw.lullGals.contains g)).foldl (fun d g => d.imageBack g) d
    let d := d.pw.lullGals.foldl (fun d g => d.isleBack g) d
    let d := ((d.isleBack 86).isleBack 87).runLink
    let other := 1 - d.lullPlane
    let d : Dev :=
      if d.domSt (40 + other) = 2 && d.pw.run.contains (40 + other) && d.planeFenced other then
        let d := d.wr R.XC_CFG (if other = 0 then F.XC_CFG_fenced_a else F.XC_CFG_fenced_b) 0
        let d := d.wr R.RL_FENCE (if other = 0 then F.RL_FENCE_plane_a else F.RL_FENCE_plane_b) 0
        d.alarm F.RL_ALARM_plane_single false
      else d
    let d : Dev := match d.pw.plmap with
      | some v => if d.planeFenced 0 || d.planeFenced 1 then d else d.plmapWrite v
      | none => d
    let d := if d.devState = 4 then d
      else (List.range 32).foldl (fun (d : Dev) p => if d.portSt p = 0 && d.portOn p then (d.setPortSt p 1).dropCal p else d) d
    let d := (d.phasorAll.setPower 0).showState 1
    ((d.alarm F.RL_ALARM_lull false).galAlarms).tally 0x0F06 0 [0])

/-- STORE_LOW (R440): the store reaches its low limit in SHED, LULL or RESTORE. -/
def execStoreLow (s : State) : Outc := s.go (fun d =>
  if 1 ≤ d.powerMode && d.powerMode ≤ 3 then d.enterDown else d)

/-- VMAIN_INVALID (R440, R445, R448, R451): VMAIN stops being valid. In SHED, LULL and RESTORE a charged store carries the load
and nothing else changes; otherwise every domain goes OFF, and KA runs from VKEEP and drives FAULT_N no longer. -/
def execVmainInvalid (s : State) : Outc := s.go (fun d =>
  let held := 1 ≤ d.powerMode && d.powerMode ≤ 3 && d.on R.PW_LSTAT F.PW_LSTAT_store_ok
  let d := { d with bo := { d.bo with vmain := false } }
  let d := if d.pw.tripped then { d.out (.pin pinFaultN true) with pw := { d.pw with tripped := false } } else d
  if held then d
  else
    let d := { d with pw := { d.pw with ramp := [] } }
    (List.range 100).foldl Dev.isleStop ((List.range 50).foldl (fun d k => d.wr (R.PW_DOM k) F.PW_DOM_state 0) (d.setPower 4)))

/-- STORE_CHARGED (R438). -/
def execStoreCharged (s : State) : Outc := s.go (fun d => if d.bo.vmain then d.wr R.PW_LSTAT F.PW_LSTAT_store_ok 1 else d)

/-- VKEEP_LOSS (R445): KA loses its calendar and its counters while VMAIN is not valid. -/
def execVkeepLoss (s : State) : Outc := s.go (fun d =>
  if d.bo.vmain then d
  else
    let d := { d with bg := { d.bg with calSec := 0, calTick := 0, poweredS := 0, cycles := 0, kaHeld := false, kaUtc := 0, coldMin := none, coldMax := none
                                        hourSum := 0, hourN := 0, bands := [] } }
    (d.wr R.BG_KA F.BG_KA_ka_valid 0).wr R.PW_TLIM F.PW_TLIM_trip_cnt 0)

/-- DOMAIN_RAMP_DONE dom ok (R448): the rail is good and the domain's self-test has passed, or one of them has failed. -/
def execDomainRampDone (dom : Fin 50) (ok : Bool) (s : State) : Outc := s.go (fun d =>
  if d.domSt dom ≠ 1 then d
  else
    let d := if ok then d.domOn dom else (d.wr (R.PW_DOM dom) F.PW_DOM_state 0).wr (R.PW_DOM dom) F.PW_DOM_err 1
    d.rampGo)

/-- THERMAL_STEP isl (R451): a ranged island whose sensor is at thr_c is lowered by 50 MHz, 1 ms after the step before at the earliest
and never below its range. -/
def execThermalStep (isl : Fin 100) (s : State) : Outc := s.go (fun d =>
  match isleRange isl with
  | none => d
  | some (lo, _) =>
    let now := d.rd (R.CK_ISLSTAT isl) F.CK_ISLSTAT_freq_mhz
    let f := (now - 50).max lo
    if now ≤ lo || (match d.pw.steps.find isl with | some t => decide (d.now < t + msU 1) | none => false) then d
    else
    let d := { d with pw := { d.pw with steps := d.pw.steps.put isl d.now } }
    ((d.isleClamp isl f).event 0x43 isl f).alarmOnce F.RL_ALARM_thermal)

/-- THERMAL_TRIP (R451, R440): a sensor reaches 120 °C. The module enters DOWN, and KA drives FAULT_N low. -/
def execThermalTrip (s : State) : Outc := s.go (fun d =>
  if d.powerMode = 4 then d
  else
    let n := d.rd R.PW_TLIM F.PW_TLIM_trip_cnt
    let d := if n < 65535 then d.wr R.PW_TLIM F.PW_TLIM_trip_cnt (n + 1) else d.inc R.PW_TLIM F.PW_TLIM_trip_cnt
    let d := ({ d with pw := { d.pw with tripped := true } }).out (.pin pinFaultN false)
    (d.tally 0x0F07 0 []).enterDown)

end Sys2Proof.Machine
end

