-- ==== Sys2Proof/Machine/Background.lean ====
section
/-!
DEFINITION. Background work: scrubbing, calibration cycles, ageing, stress, rotation, the adaptive policies, telemetry, the
calendar and the lifetime ledger (R469 to R481).
-/

namespace Sys2Proof.Machine

def Dev.modBg (d : Dev) (f : Background → Background) : Dev := { d with bg := f d.bg }

/-! ## Scrubbing (R469, R470) -/

def Dev.scrubbed (d : Dev) (bad : Bool) : Dev := d.inc R.BG_SCRUB (if bad then F.BG_SCRUB_uncorr else F.BG_SCRUB_corr)

def Dev.scrubEcc (d : Dev) : MemEcc → Dev
  | .good => d
  | .corrected => d.scrubbed false
  | .lost => d.scrubbed true

/-- The address of a word of a gallery's memories. -/
def galWord (g mem core w : Nat) : Nat :=
  match mem with
  | 0 => imemAddr g core w
  | 1 => privAddr g core (w * 4 % 2 ^ 15)
  | _ => sharedAddr g (w * 4 % 2 ^ 21)

/-- A soft error changes an entry of a table (R103, R119, R120). -/
def Dev.upsetTable (d : Dev) : Upset → Dev
  | .rule i => d.setRule i { d.rule i with parity := false }
  | .station p i b => d.setStation p i (d.station p i ^^^ BitVec.ofNat 128 (2 ^ b.val))
  | .stream i b => d.setStream i (d.streamRaw i ^^^ BitVec.ofNat 128 (2 ^ b.val))

/-- SCRUB_STEP item (R469, R470): one unit of a region is read. A region that is off is skipped, and so is one whose scrub
BG_CFG disables. What is found is handled as the owning block lays down. -/
def execScrubStep (item : ScrubItem) (s : State) : Outc := s.go (fun d =>
  let cfg (f : Fld) : Bool := d.on R.BG_CFG f
  match item with
  | .gallery g mem core w ecc =>
    if !cfg F.BG_CFG_sram_en || d.domSt g ≠ 2 then d
    else
      let d := (d.scrubEcc ecc).galEcc g ecc
      if ecc = .lost then d.markWord g (galWord g mem core w) else d
  | .overman ecc => if cfg F.BG_CFG_sram_en then (let d := d.scrubEcc ecc; if ecc = .lost then d.omTakeover 2 else d) else d
  | .station p i bad =>
    if !cfg F.BG_CFG_table_en || d.domSt (34 + p) ≠ 2 || !(bad || !seGood (d.station p i)) then d
    else ((if seGood (d.station p i) then d.setStation p i (d.station p i ^^^ 1) else d).stRepair p i).scrubbed true
  | .stream i bad =>
    if !cfg F.BG_CFG_table_en || d.domSt 38 ≠ 2 || d.st.clearing || !(bad || !xeGood (d.streamRaw i)) then d
    else (((if xeGood (d.streamRaw i) then d.setStream i (d.streamRaw i ^^^ 1) else d).streamLook i).2).scrubbed true
  | .rule i bad =>
    if cfg F.BG_CFG_table_en && (bad || !(d.rule i).parity) then (d.ruleRepair i).scrubbed true else d
  | .group i bad =>
    let r := R.XC_GRP i
    let ok := parityOf 64 (d.rget r).toNat = 0
    if !cfg F.BG_CFG_table_en || d.domSt 38 ≠ 2 || !(bad || !decide ok) then d
    else ((if ok then d.rset r (d.rget r ^^^ 1) else d).groupRepair i).scrubbed true
  | .template ecc => if cfg F.BG_CFG_table_en then d.scrubEcc ecc else d
  | .lode i ecc =>
    if !cfg F.BG_CFG_lode_en || d.domSt (42 + quadOf (i / 4)) ≠ 2 || d.quadFenced (quadOf (i / 4)) then d
    else
      match ecc with
      | .good => d
      | .corrected => (d.lodeCorrected (i / 4)).scrubbed false
      | .lost => (d.scrapWay i).scrubbed true
  | .seam log b ecc =>
    if !cfg F.BG_CFG_ddr_en || d.domSt 46 ≠ 2 || d.smMasked 7 log then d
    else
      match ecc with
      | .good => d
      | .corrected dev => (d.smCorrected (d.smPhys log) dev b).scrubbed false
      | .lost dev => (d.smLost (d.smPhys log) dev b).scrubbed true
  | .paired p bad =>
    if bad then ((d.scrubbed true).tally 0x0012 0 [(R.PT_TSDLY p).addr]).alarmOnce F.RL_ALARM_cmpl else d
  | .nor area bad =>
    if cfg F.BG_CFG_nor_en && bad then ((d.scrubbed true).wr R.BG_SCRUB F.BG_SCRUB_nor_bad 1).tally 0x1002 7 [area] else d
  | .elsewhere upset => d.upsetTable upset)

/-- SCRUB_PASS_LATE region (R470): regions in the order of R469. -/
def execScrubPassLate (region : Fin 9) (s : State) : Outc := s.go (fun d =>
  (d.inc R.BG_SCRUB F.BG_SCRUB_pass_late).tally 0x1001 region)

/-! ## Calibration cycles (R471) -/

/-- The correction of the calibration set's table at a temperature that one of its points names; between the points the spec
gives none, and the value is free. -/
def Dev.ocxoCorrection (d : Dev) (temp : Int) : Int × Dev :=
  let pt (i : Nat) : Nat := d.load (calAddr (2328 + 4 * i)) 4
  match (List.range 16).find? (fun i => toSigned 16 (bitsOf (pt i) 0 16) == temp) with
  | some i => (toSigned 16 (bitsOf (pt i) 16 16), d)
  | none => let (v, d) := d.fresh 16; (toSigned 16 v, d)

/-- CALIBRATION_CYCLE item (R471). One adaptation step of an equaliser changes nothing that the spec lets anyone see. -/
def execCalibrationCycle (item : CalItem) (s : State) : Outc := s.go (fun d =>
  match item with
  | .equaliser _ => d
  | .ocxo temp =>
    let (c, d) := d.ocxoCorrection temp
    { d with tb := { d.tb with ocxo := c } }
  | .sensor isl off =>
    if 80 < off.natAbs && !d.bg.badSensors.contains isl.val then d.modBg (fun b => { b with badSensors := b.badSensors ++ [isl.val] })
    else d)

/-! ## Ageing and stress (R472, R473) -/

/-- The ageing margin of a slowdown in units of 0.01 %. -/
def marginOf (slow : Nat) : Nat := (5 * ((slow + 49) / 50)).min 60

def Dev.showMargin (d : Dev) : Dev := d.wr R.BG_AGE F.BG_AGE_margin_mv (d.bg.margin.foldl (fun m e => m.max e.2) 0)

/-- The margin of an island is set. -/
def Dev.setMargin (d : Dev) (isl mv : Nat) : Dev :=
  if d.bg.margin.get 0 isl = mv then d
  else
    let d := d.modBg (fun b => { b with margin := b.margin.set 0 isl mv })
    ((d.setVolt isl (d.rd (R.CK_ISLSTAT isl) F.CK_ISLSTAT_freq_mhz)).showMargin).policyChange 6 mv isl

/-- AGEING_MEASURE slow (R472, R475): the slowdown of each ranged island, in 0.01 %. -/
def execAgeingMeasure (slow : List (Fin 100 × Fin 10001)) (s : State) : Outc := s.go (fun d =>
  let l := slow.filter (fun e => (isleRange e.1).isSome)
  let top := l.foldl (fun m e => m.max e.2.val) 0
  let d := d.wr R.BG_AGE F.BG_AGE_slow_max (top.min 0xFFF)
  if d.policyOn 6 then l.foldl (fun d e => d.setMargin e.1 ((d.bg.margin.get 0 e.1).max (marginOf e.2))) d else d)

/-- p × 2^((Tj − 85) / 10) in 2^-16 hours, truncated: p in 2^-16, Tj in 1/16 °C. The result is the largest v with
v^160 ≤ p^160 × 2^(16 (Tj − 85)). -/
def stressGain (p : Nat) (tj : Int) : Nat :=
  let e : Int := tj - 1360
  let up := 2 ^ e.toNat
  let dn := 2 ^ (-e).toNat
  (List.range 40).foldl (fun v i => let w := v + 2 ^ (39 - i); if w ^ 160 * dn ≤ p ^ 160 * up then w else v) 0

/-- STRESS_ACCRUE g p tj (R473): the fraction of the hour that a gallery was not OFF, in 2^-16, and its mean temperature in
1/16 °C. -/
def execStressAccrue (g : Fin 26) (p : Fin 65537) (tj : Fin 4096) (s : State) : Outc := s.go (fun d =>
  d.modBg (fun b => { b with stress := b.stress.upd 0 g (· + stressGain p ((tj.val : Int) - 1024)) }))

/-! ## Policies (R474 to R476) -/

/-- A span has passed since a policy's last step under `key`, or it has made none. -/
def Dev.stepDue (d : Dev) (key span : Nat) : Bool :=
  match d.bg.paced.find key with
  | some t => decide (t + span ≤ d.now)
  | none => true

/-- A policy makes a step. -/
def Dev.stepMade (d : Dev) (key : Nat) : Dev := d.modBg (fun b => { b with paced := b.paced.put key d.now })

/-- The parameter of a policy. -/
def Dev.policyParam (d : Dev) (p : Nat) : Nat :=
  (d.bg.param.get none p).getD (match p with | 0 => 100 | 1 => 720 | 4 => 64 | 5 => 16 | _ => 0)

/-- A gallery that a valid affinity entry names, in a map that an enabled template with affinity = 1 uses. -/
def Dev.affinityNamed (d : Dev) (g : Nat) : Bool :=
  (List.range 256).any (fun t => d.tmplOn t && TH.affinity (d.tmplHdr t)
    && (List.range 256).any (fun i => d.on (R.DR_AFF (TH.aff_map (d.tmplHdr t)) i) F.DR_AFF_valid
          && d.rd (R.DR_AFF (TH.aff_map (d.tmplHdr t)) i) F.DR_AFF_gallery == g))

/-- The gallery of highest or of lowest stress in a list; the lowest-numbered of equals. -/
def Dev.byStress (d : Dev) (worse : Nat → Nat → Bool) (gs : List Nat) : Option Nat :=
  gs.foldl (fun (b : Option Nat) g => match b with
    | some x => if worse (d.bg.stress.get 0 g) (d.bg.stress.get 0 x) then some g else b
    | none => some g) none

/-- ROTATION_STEP (R474): once in each period, a planned swap of the active gallery of highest stress. -/
def execRotationStep (s : State) : Outc := s.go (fun d =>
  if !d.policyOn 1 || d.tkBusy || d.on R.RL_FORCE F.RL_FORCE_busy || !d.rl.queue.isEmpty
      || !d.stepDue 1 (d.policyParam 1 % 2 ^ 16 * 3600 * unitsPerSec) then d
  else
    let d := d.stepMade 1
    let affOk := bitAt (d.policyParam 1) 16
    let act := d.activeGals.filter (fun g => affOk || !d.affinityNamed g)
    let rel := (List.range 26).filter (fun g => d.inRelief g && d.galState g == 2)
    match d.byStress (fun a b => b < a) act, d.byStress (fun a b => a < b) rel with
    | some o, some r =>
      let so := d.bg.stress.get 0 o
      let sr := d.bg.stress.get 0 r
      if so.max sr ≤ 100 * (so.max sr - so.min sr) && sr < so then
        d.swapStart o r 7
      else d
    | _, _ => d)

/-- A policy writes a gallery's freq_req: its clock changes as R171 lays down (DVFS_COMPLETE). -/
def Dev.freqPolicy (d : Dev) (g f : Nat) : Dev :=
  if d.rd (R.CK_ISLCFG g) F.CK_ISLCFG_freq_req = f then d
  else ((d.wr (R.CK_ISLCFG g) F.CK_ISLCFG_freq_req f).freqAsk g f).policyChange 0 f g

/-- The freq_req that software wrote last. -/
def Dev.freqWritten (d : Dev) (g : Nat) : Nat := (d.bg.freqSet.get none g).getD (F.CK_ISLCFG_freq_req.get (R.CK_ISLCFG g).reset)

/-- THERMAL_POLICY_STEP g tj (R475): the sensor of a gallery in 1/16 °C against the soft limit; down every 100 ms, up every 1 s. -/
def execThermalPolicyStep (g : Fin 26) (tj : Int) (s : State) : Outc := s.go (fun d =>
  if !d.policyOn 0 then d
  else
    let soft : Int := (d.policyParam 0 % 256 : Nat)
    let f := d.rd (R.CK_ISLCFG g) F.CK_ISLCFG_freq_req
    if soft * 16 ≤ tj then (if 600 < f && d.stepDue (16 + g) (msU 100) then (d.stepMade (16 + g)).freqPolicy g ((f - 50).max 600) else d)
    else if tj < (soft - 5) * 16 && f < d.freqWritten g && d.stepDue (16 + g) unitsPerSec then (d.stepMade (16 + g)).freqPolicy g ((f + 50).min (d.freqWritten g))
    else d)

/-- REFRESH_POLICY_STEP count (R475): the most corrected bursts that a channel recorded in the hour. -/
def execRefreshPolicyStep (count : Nat) (s : State) : Outc := s.go (fun d =>
  if !d.policyOn 4 || !d.stepDue 4 (3600 * unitsPerSec) then d
  else
    let d := d.stepMade 4
    let lim := d.policyParam 4 % 2 ^ 16
    let c := d.rd R.SM_CFG F.SM_CFG_dbl_c
    let last := d.bg.dblSet.getD (F.SM_CFG_dbl_c.get R.SM_CFG.reset)
    let set (d : Dev) (v : Nat) : Dev := if v = c then d else (d.wr R.SM_CFG F.SM_CFG_dbl_c v).policyChange 4 v 0
    if lim < count then set (d.modBg (fun b => { b with coolHours := 0 })) (if 70 < c then (c - 5).max 70 else c)
    else
      let n := d.bg.coolHours + 1
      let d := d.modBg (fun b => { b with coolHours := n })
      if 24 ≤ n then set d last else d)

/-- FREEZE_POLICY_STEP p count (R475): the freezes that a pipe recorded in the minute. -/
def execFreezePolicyStep (p : Fin 4) (count : Nat) (s : State) : Outc := s.go (fun d =>
  if !d.policyOn 5 || !d.stepDue (8 + p) (60 * unitsPerSec) then d
  else
    let d := d.stepMade (8 + p)
    let c := d.rd (R.ST_MOVE p) F.ST_MOVE_hold_ms
    let last := (d.bg.holdSet.get none p).getD (F.ST_MOVE_hold_ms.get (R.ST_MOVE p).reset)
    let set (d : Dev) (v : Nat) : Dev := if v = c then d else (d.wr (R.ST_MOVE p) F.ST_MOVE_hold_ms v).policyChange 5 v p
    let n := if count = 0 then d.bg.quiet.get 0 p + 1 else 0
    let d := d.modBg (fun b => { b with quiet := b.quiet.set 0 p n })
    if d.policyParam 5 % 256 < count then set d ((4 * last).min 65535)
    else if 10 ≤ n then set d last
    else d)

/-! ## Telemetry, the calendar and the ledger (R477 to R480) -/

/-- The thermal-cycle detector (R479): a cold-plate reading in 1/16 °C. A cycle is a rise of at least 20 °C above the last
minimum and then a fall of at least 20 °C below the maximum reached since. -/
def Dev.cycleDetect (d : Dev) (t : Int) : Dev :=
  match d.bg.coldMin, d.bg.coldMax with
  | none, _ => d.modBg (fun b => { b with coldMin := some t })
  | some lo, none =>
    if lo + 320 ≤ t then d.modBg (fun b => { b with coldMax := some t })
    else if t < lo then d.modBg (fun b => { b with coldMin := some t })
    else d
  | some _, some hi =>
    if t ≤ hi - 320 then d.modBg (fun b => { b with coldMin := some t, coldMax := none, cycles := b.cycles + 1 })
    else if hi < t then d.modBg (fun b => { b with coldMax := some t })
    else d

/-- TELEMETRY_SNAPSHOT vmon therm rest (R477): PW_VMON and PW_THERM as measured, and the other readings of the snapshot. -/
def execTelemetrySnapshot (vmon : Word64) (therm : Word32) (rest : List Byte) (s : State) : Outc := s.go (fun d =>
  let d := (d.rset R.PW_VMON vmon).rset R.PW_THERM (BitVec.ofNat 64 therm.toNat)
  let t := toSigned 16 (therm.toNat / 2 ^ 16)
  let d := d.modBg (fun b => { b with snapshot := leBytes 8 vmon.toNat ++ leBytes 4 therm.toNat ++ rest, hourSum := b.hourSum + t, hourN := b.hourN + 1 })
  d.cycleDetect t)

/-- The band of R479 that holds a mean of `sum` / `n` in 1/16 °C. -/
def bandOf (sum : Int) (n : Nat) : Nat :=
  ([0, 30, 50, 60, 70, 80, 90].filter (fun (b : Int) => b * 16 * n ≤ sum)).length

/-- Consumed life in parts per million (R479), truncated. -/
def Dev.lifePpm (d : Dev) : Nat :=
  let sum := (([10, 30, 125, 350, 710, 1410, 2830, 5660] : List Nat).zipIdx).foldl (fun a e => a + d.bg.bands.get 0 e.2 * e.1) 0
  sum * 1000 / 175320

def Dev.showLife (d : Dev) : Dev :=
  (d.wr R.BG_LIFE F.BG_LIFE_life_ppm d.lifePpm).wr R.BG_LIFE F.BG_LIFE_powered_h (d.bg.poweredS / 3600)

/-- CALENDAR_SECOND (R478 to R480): a second boundary. The calendar follows station time in LOCKED and HOLDOVER and runs free
otherwise, on VKEEP too; each full powered hour is counted in its band, and a ledger record is due on each hour of the calendar. -/
def execCalendarSecond (s : State) : Outc := s.go (fun d =>
  if !d.bo.vmain then d.modBg (fun b => { b with calSec := (b.calSec + 1) % 2 ^ 48 })
  else
    let set := d.tbSt = 2 || d.tbSt = 3
    let sec := if set then secOf d.now else d.bg.calSec + 1
    let d := d.modBg (fun b => { b with calSec := sec % 2 ^ 48, calTick := if set then 0 else b.calTick, poweredS := b.poweredS + 1
                                        ledgerDue := b.ledgerDue || sec % 3600 == 0 })
    if d.bg.poweredS % 3600 = 0 then
      let d := if d.bg.hourN = 0 then d
        else d.modBg (fun b => { b with bands := b.bands.upd 0 (bandOf b.hourSum b.hourN) (· + 1), hourSum := 0, hourN := 0 })
      d.showLife
    else d)

/-- Where ledger record `seq` stands in the NOR ring of 64 sectors of 64 KiB. -/
def ledgerAddr (seq : Nat) : Nat := norAddr 3 (seq % 16384 * 256)

/-- The bytes of a ledger record but its crc (R480). -/
def Dev.ledgerBytes (d : Dev) (seq : Nat) : List Byte :=
  let b := d.bg
  let utc := d.rget R.TB_UTC
  leBytes 4 0x32161ED6 ++ leBytes 4 seq ++ leBytes 8 (b.calSec % 2 ^ 48) ++ leBytes 8 b.poweredS ++ leBytes 4 b.cycles
    ++ (List.range 8).flatMap (fun i => leBytes 4 (b.bands.get 0 i))
    ++ leBytes 4 (d.rd R.TL_WEAR F.TL_WEAR_erase_max) ++ leBytes 4 b.rotations ++ leBytes 2 (d.rd R.BG_AGE F.BG_AGE_margin_mv)
    ++ leBytes 2 (F.TB_UTC_utc_offset.get utc) ++ leBytes 4 (F.TB_UTC_leap_tai.get utc) ++ leBytes 4 (F.TB_UTC_leap.get utc)
    ++ leBytes 4 (d.rd R.PW_TLIM F.PW_TLIM_trip_cnt) ++ leBytes 4 b.calWrites
    ++ (List.range 26).flatMap (fun g => leBytes 4 (b.stress.get 0 g / 2 ^ 16))
    ++ leBytes 2 ((d.rget R.SM_CHMAP).toNat % 2 ^ 12) ++ (List.range 5).flatMap (fun c => leBytes 1 (d.smState c)) ++ [0]
    ++ leBytes 4 b.galFailed ++ leBytes 4 (d.rd R.RL_GALSTAT F.RL_GALSTAT_relief) ++ List.replicate 44 0

/-- LEDGER_WRITE (R480): the record that is due; a sector is erased just before its first record. -/
def execLedgerWrite (s : State) : Outc := s.go (fun d =>
  if !d.bg.ledgerDue || d.powerMode = 4 then d
  else
    let seq := d.bg.ledgerSeq + 1
    let a := ledgerAddr seq
    let d := if seq % 256 = 0 then d.wipe a (a + 65536) else d
    let bs := d.ledgerBytes seq
    (d.put a (bs ++ leBytes 4 (crc32c bs))).modBg (fun b => { b with ledgerDue := false, ledgerSeq := seq }))

end Sys2Proof.Machine
end

