-- ==== Sys2Proof/Machine/BinCmd.lean ====
section
/-!
DEFINITION. The commands of Bin (R324 to R337). ALLOC fills the next cell of a frame that arrives; the others are the
requests of R328 as the ports of their requesters bring them, with the requester's own tag (R329).
-/

namespace Sys2Proof.Machine

/-- The requester that allocates a frame's cells: its pipe, the host interface or the Overman (R326). -/
def Frame.requester (f : Frame) : Nat :=
  if f.inPort = 32 then tagHost f.txQp else if f.inPort = 35 then tagOverman else tagPipe f.pipe

/-- A body meets a refused ALLOC (R329): it is truncated and counted once. -/
def Dev.truncate (d : Dev) (h : Nat) : Dev :=
  let f := d.frame h
  (d.modFrame h (fun f => { f with trunc := true })).inc (R.BN_ROWSTAT f.row) F.BN_ROWSTAT_no_cell

/-- Pop a cell for a frame, chain it and write the next 256 bytes of the body into it (R14, R328). -/
def Dev.allocFor (d : Dev) (h : Nat) : Dev :=
  match d.frames.find h with
  | none => d
  | some f =>
    if f.bodyDone || f.trunc || f.data.length ≤ f.stored || [FStage.wire, .held, .ending].contains f.stage then d
    else
      match d.alloc f.row f.requester f.cell with
      | (none, d) => d.truncate h
      | (some p, d) =>
        let d := d.put (rowAddr f.row (ptrIdx p) 0) ((f.data.drop f.stored).take 256)
        let first := f.cell.getD p
        d.modFrame h (fun f => { f with cell := some first, stored := f.stored + 256, tub := T.cell.put f.tub first })

/-- ALLOC (R328): for frame `h`. -/
def execAlloc (h : Nat) (s : State) : Outc := s.go (fun d => d.allocFor h)

/-- RESERVE (R330): Draught, a generator, the frame builder or Eddy. -/
def execReserve (row : Fin 12) (tag : Fin 1048576) (n : Nat) (cls7 : Bool) (s : State) : Outc := s.go (fun d =>
  let k := tagKind tag
  if k = 2 || k = 5 || k = 8 || k = 9 then (d.reserve row tag n (cls7 && k == 2)).2 else d)

/-- TAKE (R328): by the holder of a reservation. -/
def execTake (row : Fin 12) (tag : Fin 1048576) (s : State) : Outc := s.go (fun d => (d.take row tag).2)

/-- UNRESERVE (R328). -/
def execUnreserve (row : Fin 12) (tag : Fin 1048576) (n : Nat) (s : State) : Outc := s.go (fun d => d.unreserve row tag n)

/-- XFER (R329). -/
def execXfer (ptr : Fin 16777216) (old new : Fin 1048576) (s : State) : Outc := s.go (fun d => d.xfer ptr old new)

/-- APPEND (R328): Crosscut, at enqueue. -/
def execAppend (ptr hdr : Fin 16777216) (s : State) : Outc := s.go (fun d => d.append ptr hdr)

/-- SETREF (R308). -/
def execSetref (ptr : Fin 16777216) (tag : Fin 1048576) (k : Fin 256) (s : State) : Outc := s.go (fun d => d.setref ptr tag k)

/-- ADDREF (R328). -/
def execAddref (ptr : Fin 16777216) (s : State) : Outc := s.go (fun d => (d.addref ptr).2)

/-- DROPREF (R328). -/
def execDropref (ptr : Fin 16777216) (s : State) : Outc := s.go (fun d => d.dropref ptr)

/-- FREE (R329): with the tag of the port the request arrives on. -/
def execFree (ptr : Fin 16777216) (tag : Fin 1048576) (s : State) : Outc := s.go (fun d => d.freeBy ptr tag)

/-- BIN_RECLAIM_SCAN (R333): a fenced gallery in the order of R407, or a party whose scan is due. -/
def execBinReclaimScan (p : Party) (s : State) : Outc := s.go (fun d =>
  match p with
  | .gallery g => if d.reclaiming g 2 then (d.binReclaim p).reclaimNext else d
  | _ => if d.bn.due.contains p then { d.binReclaim p with bn := { (d.binReclaim p).bn with due := d.bn.due.erase p } } else d)

/-- A row's list is whole again; of row 9, Eddy's pool takes the cells that it still wants (R93). -/
def Dev.listBack (d : Dev) (row : Nat) : Dev := if row = 9 then (d.rebuilt row).eddyPool else d.rebuilt row

/-- FREE_LIST_REBUILD_DONE (R336, R339). -/
def execFreeListRebuildDone (row : Fin 12) (s : State) : Outc :=
  s.go (fun d => if d.on (R.BN_ROWSTAT row) F.BN_ROWSTAT_rebuild then d.listBack row else d)

/-- CONSERVATION_CHECK (R337). `bad`: a complement mismatch or an uncorrectable error in the cell table. A row whose
list is being rebuilt is not checked, for its free count is not yet in force. -/
def execConservationCheck (bad : Bool) (s : State) : Outc := s.go (fun d =>
  if bad || (List.range 12).any (fun r => !d.on (R.BN_ROWSTAT r) F.BN_ROWSTAT_rebuild && !d.conserved r) then
    ({ d with bn := { d.bn with stopped := true } }).deviceFault F.RL_FAULT_bin
  else d)

end Sys2Proof.Machine
end

