-- ==== Sys2Proof/Machine/Host.lean ====
section
/-!
DEFINITION. The commands of the host interface (R340 to R358) and of the Overman's receive buffer (R421).
-/

namespace Sys2Proof.Machine

/-! ## Doorbells (R342, R346) -/

def Dev.dbBad (d : Dev) : Dev := d.inc R.HI_ERR F.HI_ERR_db_bad

/-- A request of function `by_` reaches the device: the function exists, PERST_N is released, and the request came inside the
function's IDE stream where one is secure. -/
def Dev.hostIn (d : Dev) (by_ : Nat) (ide : Bool) : Bool := d.fnExists by_ && !d.hi.perst && !d.ideRefused by_ ide

/-- A write by function `by_` to the TX_TAIL doorbell of local index i in function fn's area; `wide`: of at least 16 bits. -/
def Dev.txDoor (d : Dev) (by_ fn i tail : Nat) (wide : Bool) : Dev :=
  if by_ ≠ fn || !wide then d.dbBad
  else
    match d.pairAt fn i with
    | none => d.dbBad
    | some q =>
      if !d.on (R.HI_QCFG q) F.HI_QCFG_tx_en then d.dbBad
      else d.wr (R.HI_QIDX q) F.HI_QIDX_tx_tail (tail % d.txSize q)

/-- A write to an RX_TAIL doorbell. -/
def Dev.rxDoor (d : Dev) (by_ fn i tail : Nat) (wide : Bool) : Dev :=
  if by_ ≠ fn || !wide then d.dbBad
  else
    match d.pairAt fn i with
    | none => d.dbBad
    | some q =>
      if !d.on (R.HI_QCFG q) F.HI_QCFG_rx_en then d.dbBad
      else
        let d := d.wr (R.HI_QIDX q) F.HI_QIDX_rx_tail (tail % d.rxSize q)
        let d := { d with bn := { d.bn with posted := d.bn.posted.set 0 q (d.rxPosted q) } }
        match d.rxSt q, d.pqQ (hostKey q) with
        | 2, x :: _ => if d.rxNeed q x ≤ d.rxPosted q then d.setRxSt q 1 else d
        | 3, _ => if 0 < d.rxPosted q then d.setRxSt q 1 else d
        | _, _ => d

/-- TX_DOORBELL by fn i tail wide ide (R346). -/
def execTxDoorbell (by_ fn : Fin 64) (i : Fin 512) (tail : BitVec 16) (wide ide : Bool) (s : State) : Outc := s.go (fun d =>
  if d.hostIn by_ ide then d.txDoor by_ fn i tail.toNat wide else d)

/-- RX_DOORBELL by fn i tail wide ide (R346, R324, R352). -/
def execRxDoorbell (by_ fn : Fin 64) (i : Fin 512) (tail : BitVec 16) (wide ide : Bool) (s : State) : Outc := s.go (fun d =>
  if d.hostIn by_ ide then d.rxDoor by_ fn i tail.toNat wide else d)

/-! ## Transmit (R347, R348) -/

/-- TX_DESCRIPTOR q desc data (R348): the descriptor at the head as read, its low 192 bits, and the frame's bytes as read. -/
def execTxDescriptor (q : Fin 1024) (desc : BitVec 192) (data : List Byte) (s : State) : Outc := s.go (fun d =>
  let low := desc.toNat % 2 ^ 128
  let len := bitsOf low 64 14
  let busy := d.frames.any (fun e => e.2.inPort == 32 && e.2.txQp == q.val && (e.2.stage == .held || (e.2.stage == .wire && e.2.pass == 0)))
  if !d.pairDma q || d.txSt q ≠ 1 || d.txPosted q = 0 || busy then d
  else if len = 0 || 16379 < len then (d.txBack q low 1 0).inc (R.HI_QSTAT q) F.HI_QSTAT_tx_lerr
  else
    let body := fit (len.max 60) (fit len data)
    let bytes := body ++ leBytes 4 (crc32 body)
    let h := d.nextFrame + 1
    let f : Frame := { stage := .held, row := 8, inPort := 32, pipe := d.txPipe q, data := bytes, bodyDone := true, txQp := q, txDesc := low }
    ({ (d.setFrame h f) with nextFrame := h }).txCells h)

/-- TX_RETRY q (R348): the frame a pair holds is tried again, 100 ns after its ALLOC was refused. -/
def execTxRetry (q : Fin 1024) (s : State) : Outc := s.go (fun d =>
  match d.frames.find? (fun e => e.2.inPort == 32 && e.2.stage == .held && e.2.txQp == q.val) with
  | some (h, _) => if d.now < d.hi.tried.get 0 q + usU 1 / 10 then d else d.txCells h
  | none => d)

/-! ## Receive (R349, R350, R353) -/

/-- The pair that column 8 serves next: weighted round robin over those with enough descriptors. -/
def Dev.pickPair (d : Dev) : Option Nat :=
  let ok (q : Nat) : Bool := d.rxSt q == 1 && d.pairDma q && (match d.pqQ (hostKey q) with | x :: _ => decide (d.rxNeed q x ≤ d.rxPosted q) | [] => false)
  let w := (d.rd (R.HI_QCFG d.hi.turn) F.HI_QCFG_weight).max 1
  if ok d.hi.turn && d.hi.served < w then some d.hi.turn
  else ((List.range 1024).map (fun i => (d.hi.turn + 1 + i) % 1024)).find? ok

/-- The write-back of one receive descriptor (R349). -/
def rxWord (x : Desc) (addr len : Nat) (sop eop : Bool) : Nat :=
  let low := 2 ^ 255 + b2n eop * 2 ^ 79 + b2n sop * 2 ^ 78 + len * 2 ^ 64 + addr
  if eop then low + x.seq % 2 ^ 20 * 2 ^ 208 + x.dom % 2 ^ 16 * 2 ^ 192 + D.flags.get x.w * 2 ^ 184 + D.stamp.get x.w * 2 ^ 128
      + D.tclass.get x.w * 2 ^ 112 + x.exc % 256 * 2 ^ 104 + D.in_port.get x.w * 2 ^ 96
  else low

/-- The data writes of a pair carry Relaxed Ordering (R353). -/
def Dev.relaxes (d : Dev) (q : Nat) : Bool := d.on R.HI_CFG F.HI_CFG_ro_en && !d.hi.ordered.get false (d.pairFn q)

/-- Data writes of a frame, and its write-backs after them, in ring order; only the data writes may carry Relaxed Ordering. -/
def rxWrites (x : Desc) (buf : Nat) (ro sop : Bool) : Nat → List Byte → List (BitVec 64) → List Nat → List Out × List Out
  | 0, _, _, _ => ([], [])
  | n + 1, bs, as_, ds =>
    let a := (as_.headD 0).toNat
    let now := bs.take buf
    let rest := bs.drop buf
    let (w, b) := rxWrites x buf ro false n rest as_.tail ds.tail
    (Out.hostWrite a now ro :: w, Out.hostWrite (ds.headD 0) (leBytes 32 (rxWord x a now.length sop (n == 0))) false :: b)

/-- HOST_DELIVER addrs (R350): the frame at the head of the pair that column 8 serves; `addrs`: the host addresses in the descriptors
it takes. -/
def execHostDeliver (addrs : List (BitVec 64)) (s : State) : Outc := s.go (fun d =>
  match d.pickPair with
  | none => d
  | some q =>
    match d.pqQ (hostKey q) with
    | [] => d
    | x :: r =>
      let d := d.modHi (fun h => { h with served := if h.turn = q then h.served + 1 else 1, turn := q })
      let d := d.setPq (hostKey q) r
      if !x.pairsGood then ((((d.inc R.XC_ERR F.XC_ERR_cmpl_eg).tally 0x0C01 8 [1]).descEnd x)).hostHead q r.length
      else if 16383 < x.mergedLen then ((d.inc R.XC_LENERR F.XC_LENERR_long_drop).descEnd x).hostHead q r.length
      else
        let bs := x.cut (d.mergedBytes x)
        let d := if bs.length < 60 then d.inc R.XC_LENERR F.XC_LENERR_short_pad else d
        let bs := if bs.length < 60 then fit 60 bs else bs
        let n := d.rxNeed q x
        let i := d.rd (R.HI_QIDX q) F.HI_QIDX_rx_head % d.rxSize q
        let (w, b) := rxWrites x (d.rxBuf q) (d.relaxes q) true n bs addrs ((List.range n).map (fun j => d.rxAddr q ((i + j) % d.rxSize q)))
        let d := (w ++ b).foldl Dev.out d
        let d := d.wr (R.HI_QIDX q) F.HI_QIDX_rx_head ((i + n) % d.rxSize q)
        let d := { d with bn := { d.bn with posted := d.bn.posted.set 0 q (d.rxPosted q) } }
        let d := ((d.descEnd x).inc (R.HI_QCNT q) F.HI_QCNT_rx_frames).completed q
        d.hostHead q r.length)

/-- HOST_WATCHDOG q (R352): host_wd has passed in STARVED. -/
def execHostWatchdog (q : Fin 1024) (s : State) : Outc := s.go (fun d =>
  if d.rxSt q ≠ 2 || d.now < d.hi.starved.get 0 q + msU ((d.rd R.HI_CFG F.HI_CFG_host_wd_ms).max 1) then d
  else
    let n := (d.pqQ (hostKey q)).length
    ((d.freeHostQ q F.HI_QSTAT_wd_drop).setRxSt q 3).tally 0x0E01 q [n])

/-- DMA_ERROR q tx (R352, R355): a descriptor fetch or a transmit data read of a direction fails. -/
def execDmaError (q : Fin 1024) (tx : Bool) (s : State) : Outc := s.go (fun d =>
  let st := if tx then d.txSt q else d.rxSt q
  if st = 0 || st = 4 || !d.pairDma q then d else d.queueError q tx)

/-! ## Interrupts (R354) -/

/-- MSIX_MESSAGE q: itr_cnt completions are pending, or no moderation time is set. -/
def execMsixMessage (q : Fin 1024) (s : State) : Outc := s.go (fun d =>
  let n := d.hi.done.get 0 q
  if n = 0 || (n < (d.rd (R.HI_QITR q) F.HI_QITR_itr_cnt).max 1 && d.rd (R.HI_QITR q) F.HI_QITR_itr_us ≠ 0) then d else d.pairMessage q)

/-- ITR_EXPIRY q: itr_us has passed since the first pending completion. -/
def execItrExpiry (q : Fin 1024) (s : State) : Outc := s.go (fun d =>
  if d.hi.done.get 0 q = 0 || d.now < d.hi.doneAt.get 0 q + usU (d.rd (R.HI_QITR q) F.HI_QITR_itr_us) then d else d.pairMessage q)

/-- MSIX_UNMASK fn e. -/
def execMsixUnmask (fn : Fin 64) (e : Fin 2048) (s : State) : Outc := s.go (fun d =>
  if d.hi.perst || !d.fnExists fn || msixSize fn ≤ e then d else d.msixUnmask fn e)

/-! ## BAR2 and configuration (R342, R344, R352) -/

/-- HI_BAR2 in force. -/
def Dev.bar2 (d : Dev) : Word64 := d.hi.bar2.getD R.HI_BAR2.reset

/-- A BAR2 access that is refused: counted, and a read is answered with an error completion of the kind. -/
def Dev.bar2Refuse (d : Dev) (rd : Bool) (kind : Nat) : Dev :=
  if rd then (d.inc R.HI_ERR F.HI_ERR_bar2_err).out (.completion 0 kind) else d.inc R.HI_ERR F.HI_ERR_bar2_err

/-- A BAR2 access of the Seam: a write, or a read answered with its bytes. -/
def Dev.bar2Seam (d : Dev) (a n : Nat) (data : Option (List Byte)) : Dev :=
  match data with
  | some bs =>
    let x := d.smWrite 2 a bs
    if x.1 then x.2 else x.2.bar2Refuse false 0
  | none =>
    let x := d.smRead 2 a n
    match x.1 with
    | .ok bs => x.2.out (.data 0 (BitVec.ofNat 64 (leNat bs)))
    | .poison => x.2.bar2Refuse true 1
    | .fence => x.2.bar2Refuse true 0

/-- BAR2_ACCESS off n data ide (R344): a read of n bytes, or a write of bytes; `poisoned`: the write arrives poisoned. -/
def execBar2Access (off : Nat) (n : Nat) (data : Option (List Byte)) (poisoned ide : Bool) (s : State) : Outc := s.go (fun d =>
  let a := F.HI_BAR2_base.get d.bar2 * 2 ^ 30 + off
  let len := match data with | some bs => bs.length | none => n
  if d.hi.perst || 2 ^ F.HI_BAR2_size_log2.get d.bar2 < off + len then d
  else if d.ideRefused 0 ide then (if data.isNone then d.out (.completion 0 0) else d)
  else if poisoned && data.isSome then d.inc R.HI_ERR F.HI_ERR_dma_err
  else if 2 ^ 37 < a + len then d.bar2Refuse data.isNone 0
  else d.bar2Seam a n data)

/-- CONFIGURATION_WRITE (R341, R352): Bus Master Enable and power state of a function; VF Enable and NumVFs of the PF. Frames that
wait for a pair that may make no DMA are freed as in STOPPED. -/
def execConfigurationWrite (fn : Fin 64) (bme d3 : Bool) (vf : Option (Bool × Fin 64)) (s : State) : Outc := s.go (fun d =>
  if d.hi.perst || !d.fnExists fn then d
  else
    let d := d.modHi (fun h => { h with bme := h.bme.set false fn bme, d3 := h.d3.set false fn d3 })
    let d := match vf with
      | some (en, n) => if fn.val = 0 then d.modHi (fun h => { h with vfEn := en, numVfs := n }) else d
      | none => d
    (List.range 1024).foldl (fun d q =>
      if (d.pqQ (hostKey q)).isEmpty || d.pairDma q then d
      else d.freeHostQ q F.HI_QSTAT_rx_drop) d)

/-! ## Integrity and Data Encryption (R357) -/

/-- IDE_KM fn: keys are installed and the function's selective IDE stream is secure. -/
def execIdeKm (fn : Fin 64) (s : State) : Outc := s.go (fun d =>
  if d.hi.perst || !d.fnExists fn then d else d.modHi (fun h => { h with ide := h.ide.set 0 fn 1 }))

/-- IDE_INTEGRITY_FAIL fn: the stream becomes insecure, an uncorrectable AER error is raised and every queue of the function enters
ERROR. -/
def execIdeIntegrityFail (fn : Fin 64) (s : State) : Outc := s.go (fun d =>
  if d.hi.ide.get 0 fn ≠ 1 then d
  else
    let d := (d.modHi (fun h => { h with ide := h.ide.set 0 fn 2 })).out (.completion fn 2)
    let qs := (List.range 1024).filter (fun q => d.pairAsg q && d.pairFn q == fn.val)
    qs.foldl (fun d q =>
      let d := if d.txSt q = 0 || d.txSt q = 4 then d else d.queueError q true
      if d.rxSt q = 0 || d.rxSt q = 4 then d else d.queueError q false) d)

/-! ## Resets of the host side (R356, R358) -/

/-- A queue pair is stopped and its registers take their reset values. -/
def Dev.pairReset (d : Dev) (q : Nat) : Dev :=
  ([R.HI_QIDX q, R.HI_QCFG q, R.HI_QTXBASE q, R.HI_QRXBASE q, R.HI_QITR q, R.HI_QCNT q, R.HI_QSTAT q]).foldl
    (fun d r => d.rset r r.reset) ((d.stopRx q).stopTx q)

/-- What the loss of PERST_N clears in the host units: every pair, the host's references and Seam requests, the expert grants, and
the interrupt and Cage state of every function. -/
def Dev.perstClear (d : Dev) : Dev :=
  let d := (List.range 4).foldl Dev.grantEnd ((((List.range 1024).foldl Dev.pairReset d).binReclaim .host).smCancel 2)
  (List.range 64).foldl (fun d fn => (d.msixReset fn).cageReset fn) d

/-- PERST_N_ASSERT (R358, R366 to R368): pairs stop, column 8 and the transmit engine are emptied, kind-6 cells reclaimed, grants end
and the Cage areas reset. -/
def execPerstNAssert (s : State) : Outc := s.go (fun d =>
  let d := d.perstClear.wr R.HI_LINK F.HI_LINK_up 0
  { d with hi := { perst := true, bar2 := some (d.rget R.HI_BAR2) } })

/-- PERST_N_RELEASE (R340, R358, R466): the link comes up at a rate and width that its partner settles (free), in Flit mode at 64 and
128 GT/s; configuration requests are answered again; a device at READY writes event 0x00 into every ring. -/
def execPerstNRelease (s : State) : Outc := s.go (fun d =>
  if !d.hi.perst then d
  else
    let (sp, d) := d.fresh 3
    let (w, d) := d.fresh 3
    let (fl, d) := d.fresh 1
    let d := ((d.modHi (fun h => { h with perst := false })).wr R.HI_LINK F.HI_LINK_up 1).wr R.HI_LINK F.HI_LINK_speed (sp % 7 + 1)
    let d := (d.wr R.HI_LINK F.HI_LINK_width (2 ^ (w % 5))).wr R.HI_LINK F.HI_LINK_flit (if 6 ≤ sp % 7 + 1 then 1 else fl)
    let d := if d.lull then d.lullLink else d
    if d.devState = 1 then d.event 0x00 0 ((d.rget R.SY_IDENT).toNat % 65536) else d)

/-- FLR fn (R356). -/
def execFlr (fn : Fin 64) (s : State) : Outc := s.go (fun d => if d.fnExists fn then d.flr fn else d)

/-! ## Column 11 (R421) -/

/-- OVERMAN_TAKES_FRAME full (R421): the frame at the head of column 11 reaches the Overman's receive buffer, or is freed at once
when that buffer is full. -/
def execOvermanTakesFrame (full : Bool) (s : State) : Outc := s.go (fun d =>
  let k := pqKey 11 0 0
  match d.pqQ k with
  | [] => d
  | x :: r =>
    let d := d.setPq k r
    if full then d.descEnd x
    else if !x.pairsGood then ((d.inc R.XC_ERR F.XC_ERR_cmpl_eg).tally 0x0C01 11 [1]).descEnd x
    else if 16383 < x.mergedLen then (d.inc R.XC_LENERR F.XC_LENERR_long_drop).descEnd x
    else
      let bs := x.cut (d.mergedBytes x)
      let d := if bs.length < 60 then d.inc R.XC_LENERR F.XC_LENERR_short_pad else d
      let bs := if bs.length < 60 then fit 60 bs else bs
      (d.out (.overman x.exc bs)).descEnd x)

end Sys2Proof.Machine
end

