-- ==== Sys2Proof/Machine/ThreadEv.lean ====
section
/-!
DEFINITION. What happens to threads, cores and galleries beside their instructions: nodes taken, interrupts, time limits,
changeovers, the generator, and the gallery trace (R136, R158 to R171, R334, R422, R505).
-/

namespace Sys2Proof.Machine

/-- The node a thread may take: the oldest of its core's queue whose mask includes it (R127, R136). -/
def Dev.nodeFor (d : Dev) (k : Nat) : Option NodeRef :=
  (d.dr.cq.get [] (k / 8)).find? (fun r =>
    let nd := d.tmplNode (d.job (jobKey (k / 64) r.slot)).tmpl r.node
    bitAt (bitsOf (ND.operand nd) 8 8) (k % 8))

/-- THREAD_TAKE_NODE (R136, R161, R196): a free thread with no operation of an earlier epoch in flight, and no reset to come. -/
def execThreadTakeNode (k : Fin 1664) (s : State) : Outc := s.go (fun d =>
  let g := k.val / 64
  let c := k.val / 8 % 8
  let t := d.thr k
  if t.st != .free || isSup k || (d.galState g != 2 && d.galState g != 3) || t.owed.isSome
      || t.ops.any (fun o => !o.dead && o.epoch != t.epoch.toNat) then d
  else
    match d.nodeFor k with
    | none => d
    | some r =>
      let j := jobKey g r.slot
      let x := d.job j
      let op := ND.operand (d.tmplNode x.tmpl r.node)
      let d := ({ d with dr := { d.dr with cq := d.dr.cq.upd [] (g * 8 + c) (·.erase r) } }).syncCq g c
      let d := d.wr (R.DR_CQ g c) F.DR_CQ_busy (d.rd (R.DR_CQ g c) F.DR_CQ_busy + 1)
      let d := d.setJob j { x with running := x.running + 1 }
      let d := d.modThr k (fun t =>
        { ((t.setReg 0 (BitVec.ofNat 32 (0x100000 + r.slot * 0x200))).setReg 1 (BitVec.ofNat 32 (r.slot + r.node * 2 ^ 12 + g * 2 ^ 16))).setTsw 0
          with st := .ready, node := some r, nodeLive := true, slots := 0, cap := bitsOf op 0 8, ext := [] })
      (d.refetch k (bitsOf op 26 14)).galTrace k 6 (bitsOf op 26 14))

/-- The lowest pending source that a thread's mask enables (R162, R163). -/
def Dev.nextSource (d : Dev) (k : Nat) : Option Nat :=
  let m := (d.thr k).pend &&& (d.ctl k).1
  (List.range 8).find? (fun i => bitAt m.toNat i)

/-- The address an interrupted thread returns to (R163, R180, R187): a bundle's first word, or a wait to be repeated. -/
def Thread.returnPoint (t : Thread) : BitVec 14 :=
  if !t.ext.isEmpty then t.extPc else if t.wait.isSome || t.draining != 0 then t.pc - 1 else t.pc

/-- INTERRUPT_LATCH (R163, R176). Source 2 stays pending while a fault record waits. -/
def execInterruptLatch (k : Fin 1664) (s : State) : Outc := s.go (fun d =>
  let t := d.thr k
  if t.inHnd || !(t.st == .ready || t.st == .stall || t.st == .sleep) || (d.galState (k / 64) != 2 && d.galState (k / 64) != 3) then d
  else
    match d.nextSource k with
    | none => d
    | some b =>
      let d := if t.st == .sleep then d.withdraw k else d
      let keep := b == 2 && !(d.gal (k / 64)).faults.isEmpty
      let d := d.modThr k (fun t =>
        { t with ipc := t.returnPoint, itsw := t.tsw, inHnd := true, st := .ready, wait := none, draining := 0, ext := []
                 pend := if keep then t.pend else t.pend &&& BitVec.ofNat 8 (255 - 2 ^ b) })
      let v := d.rd (R.GL_CCTL (k / 64) (k / 8 % 8)) F.GL_CCTL_vec_base + 8 * b
      ((d.applyModes k).refetch k v).galTrace k 5 (v % 2 ^ 14))

/-- The Overman keeps a fault record for FAULT_READ (R373): its queue holds 1,024, and a record that finds it full is not kept (DESIGN
CHOICE, log entry 197). -/
def Dev.keepFault (d : Dev) (g : Nat) (r : BitVec 192) : Dev :=
  if 1024 ≤ d.cg.faults.length then d else { d with cg := { d.cg with faults := d.cg.faults ++ [(g, r)] } }

/-- SUP_TIMEOUT (R167): the head record has waited sup_to; the Overman takes it and resets the thread. -/
def execSupTimeout (g : Fin 26) (s : State) : Outc := s.go (fun d =>
  match (d.gal g).faults with
  | [] => d
  | r :: _ =>
    if (d.thr (supOf g)).st == .hold || d.now < (d.gal g).headAt + usU ((d.rd (R.GL_SUPTO g) F.GL_SUPTO_sup_to).max 1) then d
    else
      let k := g * 64 + bitsOf r.toNat 169 3 * 8 + bitsOf r.toNat 166 3
      let d := d.event 0x32 g (bitsOf r.toNat 184 8)
      ((d.keepFault g r).popFault g).resetThread k)

/-- GALLERY_RESET_DONE (R168, R170). -/
def execGalleryResetDone (g : Fin 26) (s : State) : Outc := s.go (fun d =>
  if d.galState g = 1 then (d.setGalState g 2).supStart (supOf g) else d)

/-- DVFS_COMPLETE (R171): the island runs at its new frequency, and source 7 rises. -/
def execDvfsComplete (g : Fin 26) (s : State) : Outc := s.go (fun d => d.freqDone g)

/-- ROSE_CHANGEOVER (R157, R158): the shadow becomes live; entry 15 of core 0 stays a floor entry for thread 7. -/
def execRoseChangeover (g : Fin 26) (c : Fin 8) (s : State) : Outc := s.go (fun d =>
  if !d.on (R.GL_ROSECTL g c) F.GL_ROSECTL_pending then d
  else
    let hi := (d.rget (R.GL_ROSE1 g c)).toNat
    let hi := if c.val = 0 then hi % 2 ^ 56 + 0x17 * 2 ^ 56 else hi
    let d := (d.rset (R.GL_ROSELIVE0 g c) (d.rget (R.GL_ROSE0 g c))).rset (R.GL_ROSELIVE1 g c) (BitVec.ofNat 64 hi)
    d.wr (R.GL_ROSECTL g c) F.GL_ROSECTL_pending 0)

/-- A generator's copy ends: Crosscut gets its tub (R334). -/
def Dev.genDone (d : Dev) (g : Nat) : Dev :=
  match (d.gal g).gen with
  | none => d
  | some (src, v) =>
    let len := F.GL_GENCMD_length.get v
    let q := F.GL_GENCMD_queue.get v
    let d := (d.modGal g (fun x => { x with gen := none })).wr (R.GL_GENCMD g) F.GL_GENCMD_busy 0
    match d.takeChain 10 (tagGen g) ((len + 255) / 256) none with
    | (none, d) => d.inc (R.GL_GENSTAT g) F.GL_GENSTAT_dropped
    | (some p, d) =>
      let bs := d.bytes (sharedAddr g (src - 0x100000)) (len - 4) ++ [0, 0, 0, 0]
      let d := d.fillCells 10 (d.chainOf p) bs
      let t : Tub := T.length.put (T.cell.put (T.in_port.put (T.tclass.put 0 q) 34) p) len
      let t := Tub.setDrop (Tub.setQueue (Tub.setCol (T.stamp.put t (stampOf d.now)) (F.GL_GENCMD_dcol.get v)) q) 0
      let d := d.inc (R.GL_GENSTAT g) F.GL_GENSTAT_sent
      { d with xc := { d.xc with reqs := d.xc.reqs ++ [{ src := 1, tub := t, orig := true, tag := tagGen g }] } }

/-- GENERATOR_COPY_DONE (R334). -/
def execGeneratorCopyDone (g : Fin 26) (s : State) : Outc := s.go (fun d => d.genDone g)

/-- The time a slot may stay in DRAIN: 0 is treated as 1 ms (R422). -/
def Dev.drainLimit (d : Dev) : Nat := msU (max 1 (d.rd R.RL_CTL F.RL_CTL_drain_ms))

/-- DRAIN_TIMEOUT (R422): the running thread nodes of a slot that has been in DRAIN for drain_ms are killed. -/
def execDrainTimeout (g : Fin 26) (slot : Fin 2048) (s : State) : Outc := s.go (fun d =>
  let j := jobKey g slot
  match d.dr.jobs.find j with
  | none => d
  | some x =>
    if x.st ≠ 2 || d.now < x.drainAt + d.drainLimit then d
    else
      let mine := ((List.range 64).map (· + g.val * 64)).filter (fun k =>
        match (d.thr k).node with
        | some r => (d.thr k).nodeLive && r.slot == slot.val && r.gen == d.gen j
        | none => false)
      mine.foldl (fun d k => (d.inc R.RL_CNT F.RL_CNT_kill).killThread k 9) d)

/-! ## The gallery trace (R505) -/

/-- TRACE_SYNC: a sync record, every 65,536 gallery cycles and at enable. -/
def execTraceSync (s : State) : Outc := s.go (fun d =>
  let c := R.DB_GTRCFG
  if !(d.on c F.DB_GTRCFG_en && bitAt (d.rd c F.DB_GTRCFG_ev_mask) 10) then d
  else
    let d := d.cycles (d.rd c F.DB_GTRCFG_gal)
    let st := stampOf d.now
    d.galTraceAdd (galTraceRec (d.gal (d.rd c F.DB_GTRCFG_gal)).cycle 10 0 0 (st / 2 ^ 49 * 2 ^ 7) 0 0 st))



/-- `m` records have left for the ring of `n`: its write index stands at `i`, and a full ring that does not wrap ends the trace. -/
def Dev.galTraceAt (d : Dev) (n m i : Nat) (wrap : Bool) : Dev :=
  let d : Dev := { d with db := { d.db with trace := d.db.trace.drop m } }
  let d := d.wr R.DB_GTRSTAT F.DB_GTRSTAT_wr_idx i
  if !wrap && n ≤ i then d.wr R.DB_GTRCFG F.DB_GTRCFG_en 0 else d

/-- GALLERY_TRACE_DRAIN: up to four records in one burst; a ring that does not wrap stops when it is full. -/
def execGalleryTraceDrain (s : State) : Outc := s.go (fun d =>
  let n := ringRecs (d.rd R.DB_GTRRING F.DB_GTRRING_size_log2) 16
  let wrap := d.on R.DB_GTRCFG F.DB_GTRCFG_wrap
  let i := d.rd R.DB_GTRSTAT F.DB_GTRSTAT_wr_idx
  let out := d.db.trace.take (if wrap then 4 else (n - i).min 4)
  if out.isEmpty then d
  else
    let x := d.ringPut (d.rd R.DB_GTRRING F.DB_GTRRING_base * 4096) n i wrap (out.map (·.toNat))
    x.2.galTraceAt n out.length (if wrap && n ≤ x.1 then 0 else x.1) wrap)

/-! ## Debug commands on threads (R501, R502) -/

/-- The threads a DB_TCMD names. -/
def tcmdThreads (k : Nat) (all : Bool) : List Nat := if all then (List.range 64).map (· + k / 64 * 64) else [k]

/-- Resume: the state is the one the thread left, as events have changed it since. -/
def Dev.resumeThread (d : Dev) (k : Nat) : Dev :=
  let t := d.thr k
  if t.st != .hold then d
  else (d.setThr k { t with st := t.heldFrom, stepping := false }).limits.drainCheck k

/-- Step: one instruction or bundle may issue, then the thread is in HOLD again. -/
def Dev.stepThread (d : Dev) (k : Nat) : Dev :=
  let t := d.thr k
  if t.st != .hold then d else d.setThr k { t with stepping := true }

/-- DB_TCMD as a whole; `op` is the code in bits [31:30]. -/
def Dev.tcmd (d : Dev) (op k : Nat) (all : Bool) : Dev :=
  if 1664 ≤ k then d
  else
    (tcmdThreads k all).foldl (fun d k =>
      match op with
      | 0 => d.holdThread k
      | 1 => d.resumeThread k
      | 2 => d.stepThread k
      | _ => d.killThread k 10) d

end Sys2Proof.Machine
end

