-- ==== Sys2Proof/Machine/LodeCmd.lean ====
section
/-!
DEFINITION. The commands of Lode: helpers, the software port's functions, displacement, watch, sweep, export, repair,
anomalies and the age policy (R235 to R263).
-/

namespace Sys2Proof.Machine

/-! ## Helpers (R243) -/

/-- Write drop into the tub of a job context (R21, R243). -/
def Dev.ctxDrop (d : Dev) (j : Nat) : Dev :=
  d.put (ctxAddr j) (leBytes 32 (Tub.setDrop (BitVec.ofNat 256 (d.load (ctxAddr j) 32)) 1).toNat)

/-- The answer of a Lode operation goes to its job: the record, the status word, and the discard of a duplicate. -/
def Dev.lodeAnswer (d : Dev) (g : Nat) (e : EngineOp) (fn : Nat) (x : LRes) : Dev :=
  let j := jobKey g e.ref.slot
  let d := d.putResult g e.ref (bitsOf e.op 20 6) (leBytes 64 x.r.toNat ++ (if bitAt e.op 0 then leBytes 64 x.ext.toNat else []))
  let d := (d.putResult g e.ref (bitsOf e.op 26 6) (leBytes 4 x.word)).noteGen g e.ref fn x.status x.r.toNat
  let v := L.verdict.get x.r
  (if bitAt e.op 3 && fn == 6 && (v == 2 || v == 7) && d.awaited g e.ref then d.ctxDrop j else d).helperReturn g e.ref 1 x.status

/-- A Lode helper with a bad argument (R242, R243): the status word and the record of zeros go as far as the context reaches. -/
def Dev.lodeRefuse (d : Dev) (g : Nat) (e : EngineOp) : Dev :=
  let ro := bitsOf e.op 20 6
  let d := d.putResult g e.ref ro ((List.replicate (if bitAt e.op 0 then 128 else 64) 0).take ((64 - ro) * 8))
  ((d.putResult g e.ref (bitsOf e.op 26 6) (leBytes 4 7)).inc R.LD_STAT F.LD_STAT_bad_arg).helperReturn g e.ref 1 7

/-- A Lode operation of a job runs; one that waits for displacement goes back to the head of the line. -/
def Dev.lodeTicket (d : Dev) (g : Nat) (e : EngineOp) (bad : Option (Nat × Bool)) : Dev :=
  let j := jobKey g e.ref.slot
  let fn := bitsOf e.op 32 8
  let ao := bitsOf e.op 26 6
  if bitsOf e.op 4 16 ≠ 0 || bitsOf e.op 1 2 = 3 || 64 < ao + 4 || 64 < bitsOf e.op 20 6 + (if bitAt e.op 0 then 16 else 8) then
    (d.leaveQueue e.quad).lodeRefuse g e
  else if d.wordBad g (ctxWord j ao) 32 then (d.leaveQueue e.quad).helperReturn g e.ref 1 3
  else
    let x := d.lodeOp (.gallery g e.num) fn (leBytes 32 (d.lodeBlock j e.op)) 0 false (bitAt e.op 0) bad
    match x.1 with
    | none => { x.2 with dr := { x.2.dr with engine := e :: x.2.dr.engine } }
    | some r => (x.2.leaveQueue e.quad).lodeAnswer g e fn r

/-- LODE_HELPER (R243): the oldest Lode operation of a gallery, in its turn at the gallery's port (R245). It stays while a
displacement path runs. -/
def execLodeHelper (g : Fin 26) (bad : LodeErr) (s : State) : Outc := s.go (fun d =>
  match (d.takeEngine g 1).1 with
  | none => d
  | some e => if d.lodeTurn g e.num then (d.takeEngine g 1).2.lodeTicket g e bad.at else d)

/-! ## The software port (R240, LD_SWCMD) -/

def swWin : Nat := 0x800700

/-- The home quadrant of the software port's operation has no room: the operation waits (R249). -/
def Dev.swHeld (d : Dev) : Bool := d.quadFull (homeQuad (d.load swWin 32))

/-- Run a function on the window: the status word, the record and the extension go back into it. -/
def Dev.swRun (d : Dev) (fn : Nat) (pair : Bool) (bad : Option (Nat × Bool)) : Dev :=
  match d.lodeOp .port fn (d.bytes swWin 32) (BitVec.ofNat 512 (d.load (swWin + 32) 64)) true pair bad with
  | (none, d) => d
  | (some x, d) =>
    let d := (d.put swWin (leBytes 4 x.word)).put (swWin + 32) (leBytes 64 x.r.toNat)
    let d := if pair then d.put (swWin + 96) (leBytes 64 x.ext.toNat) else d
    (d.wr R.LD_SWCMD F.LD_SWCMD_status x.status).wr R.LD_SWCMD F.LD_SWCMD_busy 0

/-- The software port is started: a function that does not exist completes at once with status 7 (R240), since no command of the table
runs it; an arrival at a full queue is counted. -/
def Dev.swStart (d : Dev) : Dev :=
  let d := d.wr R.LD_SWCMD F.LD_SWCMD_busy 1
  let fn := d.rd R.LD_SWCMD F.LD_SWCMD_fn
  if 11 ≤ fn then d.swRun fn (d.on R.LD_SWCMD F.LD_SWCMD_pair_out) none
  else if d.swHeld then d.inc (R.LD_QSTAT (homeQuad (d.load swWin 32))) F.LD_QSTAT_q_full else d

/-- The software port runs the function it was started with. -/
def Dev.swFn (d : Dev) (fn : Nat) (bad : LodeErr) : Dev :=
  if d.on R.LD_SWCMD F.LD_SWCMD_busy && d.rd R.LD_SWCMD F.LD_SWCMD_fn == fn && !d.swHeld then
    d.swRun fn (d.on R.LD_SWCMD F.LD_SWCMD_pair_out) bad.at
  else d

/-- LOOKUP (R240), at the software port. `bad` is a record with an uncorrectable word (R262). -/
def execLookup (bad : LodeErr) (s : State) : Outc := s.go (fun d => d.swFn 0 bad)
/-- INSERT (R235). -/
def execInsert (bad : LodeErr) (s : State) : Outc := s.go (fun d => d.swFn 1 bad)
/-- LODE_ADD (R240). -/
def execLodeAdd (bad : LodeErr) (s : State) : Outc := s.go (fun d => d.swFn 2 bad)
/-- SUPV (R253, R254). -/
def execSupv (bad : LodeErr) (s : State) : Outc := s.go (fun d => d.swFn 3 bad)
/-- LODE_MAX (R240). -/
def execLodeMax (bad : LodeErr) (s : State) : Outc := s.go (fun d => d.swFn 4 bad)
/-- CAS (R240). -/
def execCas (bad : LodeErr) (s : State) : Outc := s.go (fun d => d.swFn 5 bad)
/-- SEQ (R250, R251). -/
def execSeq (bad : LodeErr) (s : State) : Outc := s.go (fun d => d.swFn 6 bad)
/-- DELETE (R240). -/
def execDelete (bad : LodeErr) (s : State) : Outc := s.go (fun d => d.swFn 7 bad)
/-- GEN (R252). -/
def execGen (bad : LodeErr) (s : State) : Outc := s.go (fun d => d.swFn 8 bad)
/-- RDX (R240). -/
def execRdx (bad : LodeErr) (s : State) : Outc := s.go (fun d => d.swFn 9 bad)
/-- WRX (R240). -/
def execWrx (bad : LodeErr) (s : State) : Outc := s.go (fun d => d.swFn 10 bad)

/-- DISPLACEMENT_MOVE (R236): one move of one path. -/
def execDisplacementMove (n : Fin 1024) (s : State) : Outc := s.go (fun d =>
  match d.ld.kicks[n.val]? with
  | some k => d.kickMove k
  | none => d)

/-! ## Watch and sweep (R255, R257, R258) -/

/-- WATCH_EXPIRY (R255): the scanner finds a slot whose deadline has passed. -/
def execWatchExpiry (slot : Fin 65536) (s : State) : Outc := s.go (fun d =>
  if !d.on R.LD_CFG F.LD_CFG_watch_en then d
  else
    match d.ld.watch.find slot with
    | none => d
    | some (i, dl) =>
      if (msTime d.now + 2 ^ 24 - dl) % 2 ^ 24 < 2 ^ 23 then
        let (r, d) := d.expireRec i (d.lrec i)
        d.lput i r
      else d)

/-- What a sweep visit does to one way. -/
def Dev.sweepWay (d : Dev) (i : Nat) : Dev :=
  let r := d.lrec i
  if L.valid.get r = 0 || L.ext.get r = 1 then d
  else
    let k := L.kind.get r
    let pin := L.pin.get r == 1
    let flush := d.on R.LD_CFG F.LD_CFG_sweep_en && d.ld.flushPass && k == d.rd R.LD_SWEEP F.LD_SWEEP_flush_kind && (!pin || d.on R.LD_SWEEP F.LD_SWEEP_flush_pin)
    if flush then d.removeRec i 2
    else
      let r := if 2 ^ 23 ≤ d.msSince r then L.idle.put r 1 else r
      let d := d.lput i r
      let d :=
        if pin || !d.on R.LD_CFG F.LD_CFG_sweep_en then d
        else
          let r := satAdd L.age r 1
          let d := d.lput i r
          let lim := d.rd (R.LD_TMO (L.tmo.get r)) F.LD_TMO_limit
          if lim ≠ 0 && lim ≤ L.age.get r then d.removeRec i 0 else d
      let a := d.rd (R.LD_KIND k) F.LD_KIND_active_sw
      if a ≠ 0 && d.on R.LD_CFG F.LD_CFG_sweep_en && d.ld.passes % a = 0 && L.valid.get (d.lrec i) = 1 && d.on R.LD_EXPRING F.LD_EXPRING_en then d.exportRec i 3 else d

/-- A pass begins with bucket 0: it flushes if a flush has been asked for. While the sweep is off only the walk of R258 runs, and a
flush that it interrupts waits for the next full pass. -/
def Dev.flushTurn (d : Dev) (b : Nat) : Dev :=
  if !d.on R.LD_CFG F.LD_CFG_sweep_en then
    { d with ld := { d.ld with flushPass := false, flushAsk := d.ld.flushAsk || d.ld.flushPass } }
  else if b = 0 then { d with ld := { d.ld with flushPass := d.ld.flushAsk, flushAsk := false } }
  else d

/-- LODE_SWEEP_VISIT (R257, R258, R260): the next bucket. A flush takes the first full pass after it was asked for. -/
def execLodeSweepVisit (s : State) : Outc := s.go (fun d =>
  let b := d.ld.sweepAt
  let d := d.flushTurn b
  let d := if d.quadFenced (quadOf b) then d else (List.range 4).foldl (fun d w => d.sweepWay (b * 4 + w)) d
  if b + 1 < 2 ^ 23 then { d with ld := { d.ld with sweepAt := b + 1 } }
  else
    let d := if d.ld.flushPass && !d.ld.flushAsk then d.wr R.LD_SWEEP F.LD_SWEEP_flushing 0 else d
    { d with ld := { d.ld with sweepAt := 0, passes := d.ld.passes + 1, flushPass := false } })

/-- A flush of a kind is asked for (R257). -/
def Dev.sweepFlush (d : Dev) : Dev :=
  { d.wr R.LD_SWEEP F.LD_SWEEP_flushing 1 with ld := { d.ld with flushAsk := true } }

/-! ## Export (R260, R261) -/

/-- EXPORT_WRITE (R261): the oldest entry goes to the ring, or is dropped when the ring is full or off. -/
def execExportWrite (s : State) : Outc := s.go (fun d =>
  match d.ld.exports with
  | [] => d
  | e :: rest =>
    let d := { d with ld := { d.ld with exports := rest } }
    let n := ringRecs (d.rd R.LD_EXPRING F.LD_EXPRING_size_log2) 128
    let w := d.rd R.LD_EXPIDX F.LD_EXPIDX_wr_idx
    if !d.on R.LD_EXPRING F.LD_EXPRING_en || (w + 2 ^ 32 - d.rd R.LD_EXPIDX F.LD_EXPIDX_rd_idx) % 2 ^ 32 = n then d.inc R.LD_EXPSTAT F.LD_EXPSTAT_lost
    else
      let (ok, d) := d.smWrite 4 (d.rd R.LD_EXPRING F.LD_EXPRING_base * 4096 + w % n * 128) e
      if ok then (d.wr R.LD_EXPIDX F.LD_EXPIDX_wr_idx ((w + 1) % 2 ^ 32)).inc R.LD_EXPSTAT F.LD_EXPSTAT_exported
      else d.inc R.LD_EXPSTAT F.LD_EXPSTAT_lost)

/-! ## Repair (R263) -/

/-- A repair enters the repair log, unless the log is full (R480). -/
def Dev.logRepair (d : Dev) (k : Nat) : Dev :=
  if d.bg.repairLog.length < 131072 then { d with bg := { d.bg with repairLog := d.bg.repairLog ++ [k] } }
  else { d with ld := { d.ld with unlogged := d.ld.unlogged ++ [k] } }

/-- REPAIR_STEP (R263): one bucket of the repair with key `k` is moved; the last one ends the repair. -/
def execRepairStep (k : Fin 1049600) (s : State) : Outc := s.go (fun d =>
  match d.ld.repairs.get none k with
  | none => d
  | some n =>
    let bank := decide (2 ^ 20 ≤ k.val)
    if n + 1 < (if bank then 8192 else 8) then { d with ld := { d.ld with repairs := d.ld.repairs.set none k (some (n + 1)) } }
    else
      let d := { d with ld := { d.ld with repairs := d.ld.repairs.set none k none } }
      let q := (if bank then k.val - 2 ^ 20 else k.val / 1024) % 4
      let r := R.LD_REPAIR q
      let d := if bank then d.wr r F.LD_REPAIR_banks_left (d.rd r F.LD_REPAIR_banks_left - 1)
        else d.wr r F.LD_REPAIR_rows_left (d.rd r F.LD_REPAIR_rows_left - 1)
      ((d.inc r F.LD_REPAIR_row_fix).tally 0x0904 q [k.val]).logRepair k)

/-! ## Anomalies and the age policy (R256, R259) -/

/-- ANOMALY_DRAIN (R256): the oldest entry goes to the Overman's queue, a Cage event and a Tally record. -/
def execAnomalyDrain (s : State) : Outc := s.go (fun d =>
  match d.ld.anoms with
  | [] => d
  | e :: rest =>
    let x := e.toNat
    let d := { d with ld := { d.ld with anoms := rest, fwd := if 16384 ≤ d.ld.fwd.length then d.ld.fwd else d.ld.fwd ++ [e] } }
    let d := d.wr R.LD_ANSTAT F.LD_ANSTAT_depth rest.length
    (d.event 0x30 (bitsOf x 124 4) (bitsOf x 64 32) x).tally 0x0901 (quadOf (bitsOf x 96 25 / 4))
      [bitsOf x 0 32, bitsOf x 32 32, bitsOf x 64 32, bitsOf x 96 32])

/-- The adaptive age policy on one class (R259). -/
def Dev.agePolicy (d : Dev) (c : Nat) : Dev :=
  let r := R.LD_TMO c
  let lim := d.rd r F.LD_TMO_limit
  let back := (d.ld.tmo.get none c).getD c
  let occ := d.rd R.LD_OCC F.LD_OCC_occ
  let set (n : Nat) : Dev := (d.wr r F.LD_TMO_limit n).policyChange 3 n c
  if !d.policyOn 3 || !d.on r F.LD_TMO_adapt || lim = 0 then d
  else if 4 * 33554432 < 5 * occ && d.rd r F.LD_TMO_floor < lim then set (lim - 1)
  else if 10 * occ < 7 * 33554432 && lim < back then set (lim + 1)
  else d

/-- AGE_POLICY_STEP (R259). -/
def execAgePolicyStep (s : State) : Outc := s.go (fun d => (List.range 16).foldl Dev.agePolicy d)

end Sys2Proof.Machine
end

