-- ==== Sys2Proof/Machine/Tables.lean ====
section
/-!
DEFINITION. The commands of the station and stream tables that run by themselves (R109, R112, R121, R122, R124), and the helpers
of the stream table, the rule banks and Seam (R82, R114, R127).
-/

namespace Sys2Proof.Machine

/-- LEARN_APPLY p (R108, R109, R122): the oldest request of a pipe's queue, unless its table is locked. -/
def execLearnApply (p : Fin 4) (s : State) : Outc := s.go (fun d =>
  match d.st.learnQ.get [] p with
  | l :: r => if d.tblLocked p then d else ({ d with st := { d.st with learnQ := d.st.learnQ.set [] p r } }).learnApply p l
  | [] => d)

/-- STATION_SWEEP_VISIT p (R112, R122): the next entry in index order. -/
def execStationSweepVisit (p : Fin 4) (s : State) : Outc := s.go (fun d =>
  if d.tblLocked p || d.st.clearing then d
  else
    let i := d.st.sweepAt.get 0 p
    { (d.sweepEntry p i) with st := { (d.sweepEntry p i).st with sweepAt := d.st.sweepAt.set 0 p ((i + 1) % 262144) } })

/-- ST_DMA_DONE (R121): the last entry of the job has moved. -/
def execStDmaDone (s : State) : Outc := s.go (fun d => d.wr R.ST_DMACTL F.ST_DMACTL_busy 0)

/-- LOCK_TIMEOUT (R122): the lock has been held for 10 ms; staged entries are discarded. -/
def execLockTimeout (s : State) : Outc := s.go (fun d =>
  if !d.on R.ST_DMACTL F.ST_DMACTL_lock then d
  else
    let tbl := d.rd R.ST_DMACTL F.ST_DMACTL_tbl
    let d := { d with st := { d.st with staged := [] } }
    ((d.wr R.ST_DMACTL F.ST_DMACTL_lock 0).wr R.ST_DMASTAT F.ST_DMASTAT_lock_to 1).tally 0x0405 tbl)

/-- TABLE_CLEAR_DONE (R124). -/
def execTableClearDone (s : State) : Outc := s.go (fun d => { d with st := { d.st with clearing := false } })

/-! ## Helpers -/

/-- Operand fields of a helper node (R127). -/
def HO.arg (op : Nat) : Nat := bitsOf op 26 6
def HO.res (op : Nat) : Nat := bitsOf op 20 6
def HO.fn (op : Nat) : Nat := bitsOf op 32 8

/-- The status of a stream lookup: 0 for a valid entry; the spec gives no status for one that is not valid: 0 or 1 (free). -/
def Dev.streamStatus (d : Dev) (valid : Bool) : Nat × Dev := if valid then (0, d) else d.fresh 1

/-- A stream lookup of a job: the entry's 16 bytes go to its result place. -/
def Dev.streamTicket (d : Dev) (g : Nat) (e : EngineOp) : Dev :=
  let w := ctxWord (jobKey g e.ref.slot) (HO.arg e.op)
  if 62 < HO.res e.op then d.helperReturn g e.ref 2 7
  else if d.wordBad g w 8 then d.helperReturn g e.ref 2 3
  else
    let x := d.streamLook (d.load w 8 % 65536)
    let y := (x.2.putResult g e.ref (HO.res e.op) (leBytes 16 x.1.toNat)).streamStatus (XE.valid.get x.1 == 1)
    y.2.helperReturn g e.ref 2 y.1

/-- STREAM_HELPER g (R114, R120): the stream entry of the handle in bits [15:0] of the argument word goes to the result's two
words (DESIGN CHOICE: the spec gives the helper no argument layout). An entry that is not in use completes as done or as not
found: the spec does not say which. -/
def execStreamHelper (g : Fin 26) (s : State) : Outc := s.go (fun d =>
  match (d.takeEngine g 2).1 with
  | none => d
  | some e => (d.takeEngine g 2).2.streamTicket g e)

/-- A rule lookup of a job searches the version its frame holds. -/
def Dev.ruleFind (d : Dev) (g : Nat) (e : EngineOp) : Dev :=
  let x := d.lookupVer e.ver (d.frame e.frame).retired
  match x.2.searchRules (slotOf x.1) (HO.fn e.op % 8) (BitVec.ofNat 512 (x.2.load (ctxWord (jobKey g e.ref.slot) (HO.arg e.op)) 64)) with
  | .miss => x.2.helperReturn g e.ref 3 1
  | .bad i => (x.2.ruleBad i).helperReturn g e.ref 3 3
  | .hit _ r => (x.2.putResult g e.ref (HO.res e.op) (leBytes 8 r.action.toNat)).helperReturn g e.ref 3 0

/-- A rule lookup of a job. -/
def Dev.ruleTicket (d : Dev) (g : Nat) (e : EngineOp) : Dev :=
  let a := HO.arg e.op
  if 64 < a + 8 then d.helperReturn g e.ref 3 7
  else if d.wordBad g (ctxWord (jobKey g e.ref.slot) a) 64 then d.helperReturn g e.ref 3 3
  else d.ruleFind g e

/-- RULE_HELPER g (R82, R88, R92, R103): the bank of pipe g mod 4 is searched under the job's rule version with the 64-byte key at
the argument offset and the profile fn mod 8; the winner's action is the result (DESIGN CHOICE: the spec gives the helper no
argument layout). A miss completes as not found. -/
def execRuleHelper (g : Fin 26) (s : State) : Outc := s.go (fun d =>
  match (d.takeEngine g 3).1 with
  | none => d
  | some e => (d.takeEngine g 3).2.ruleTicket g e)

/-- The bytes that a DDR fetch reads go to its job's context, or its status says why not. -/
def Dev.ddrRead (d : Dev) (g : Nat) (e : EngineOp) (a n : Nat) : Dev :=
  let x := d.smRead 1 a n
  match x.1 with
  | .ok bs => (x.2.putResult g e.ref (HO.res e.op) bs).helperReturn g e.ref 4 0
  | .poison => x.2.helperReturn g e.ref 4 3
  | .fence => x.2.helperReturn g e.ref 4 5

/-- A DDR fetch runs. -/
def Dev.ddrFetch (d : Dev) (g : Nat) (e : EngineOp) : Dev :=
  let w := ctxWord (jobKey g e.ref.slot) (HO.arg e.op)
  let n := bitsOf e.op 0 9
  if n = 0 || 256 < n || 512 < 8 * HO.res e.op + n then d.helperReturn g e.ref 4 7
  else if d.wordBad g w 8 then d.helperReturn g e.ref 4 3
  else if 2 ^ 37 < d.load w 8 + n then d.helperReturn g e.ref 4 7
  else d.ddrRead g e (d.load w 8) n

/-- DDR_FETCH g (R127, R389, R55): 1 to 256 bytes of Seam into the job context. -/
def execDdrFetch (g : Fin 26) (s : State) : Outc := s.go (fun d =>
  match (d.takeEngine g 4).1 with
  | none => d
  | some e => (d.takeEngine g 4).2.ddrFetch g e)

end Sys2Proof.Machine
end

