-- ==== Sys2Proof/Machine/Tally.lean ====
section
/-!
DEFINITION. Tally, the event recorder (R486 to R497): its operations and its commands.
-/

namespace Sys2Proof.Machine

def Dev.modTl (d : Dev) (f : Tally → Tally) : Dev := { d with tl := f d.tl }

def Dev.tlOpen (d : Dev) : Bool := d.on R.TL_STAT F.TL_STAT_open

/-! ## The record (R486) -/

/-- Place words of 32 bits, the first lowest. -/
def words32 : List Nat → Nat
  | [] => 0
  | x :: r => x % 2 ^ 32 + 2 ^ 32 * words32 r

/-- The record of a request that takes number `seq`. -/
def Dev.tallyRecord (d : Dev) (r : TallyReq) (seq : Nat) : BitVec 512 :=
  let mode := d.rd R.PW_LSTAT F.PW_LSTAT_mode
  let flags := b2n (d.devState == 0) * 2 ^ 173 + b2n (1 ≤ mode && mode ≤ 3) * 2 ^ 172 + d.rd R.TB_STAT F.TB_STAT_state * 2 ^ 168
  let low := time96 r.time + seq % 2 ^ 48 * 2 ^ 96 + r.code % 2 ^ 16 * 2 ^ 144 + flags + r.unit % 2 ^ 16 * 2 ^ 176
    + r.count % 2 ^ 32 * 2 ^ 192 + words32 (r.data.take 8) * 2 ^ 224
  BitVec.ofNat 512 (low + crc32c (leBytes 60 low) * 2 ^ 480)

/-- Blocks of the first area that are good; it takes 4,096 records a block (R491). -/
def Dev.firstGood (d : Dev) : Nat := 64 - (d.tl.retired.filter (fun b => 8 ≤ b && b ≤ 71)).length

/-- A record takes its seq and joins the queue, or is lost at a full one (R487, R492). -/
def Dev.tallyTake (d : Dev) (r : TallyReq) : Dev :=
  if 256 ≤ d.tl.queue.length then (d.inc R.TL_LOST F.TL_LOST_q_lost).modTl (fun t => { t with lost := t.lost + 1 })
  else
    let seq := d.tl.nextSeq
    let d := d.modTl (fun t => { t with queue := t.queue ++ [(seq, d.tallyRecord r seq)], nextSeq := seq + 1 })
    let d := d.wr R.TL_STAT F.TL_STAT_next_idx (seq + 1)
    if 65536 ≤ seq || d.on R.TL_STAT F.TL_STAT_first_short then d
    else if seq / 4096 < d.firstGood then d.wr R.TL_STAT F.TL_STAT_first_cnt (seq + 1)
    else d.wr R.TL_STAT F.TL_STAT_first_short 1

/-! ## Rate limits (R489) -/

/-- The limit in force for a code. -/
def Dev.tlLim (d : Dev) (c : Nat) : Word64 := (d.tl.limIn.get none c).getD (d.rget (R.TL_LIM c))
def limBurst (v : Word64) : Nat := (F.TL_LIM_burst.get v).max 1 * 1000

/-- A write of TL_LIM waits for the next credit. -/
def Dev.limHold (d : Dev) (c : Nat) (old : Word64) : Dev :=
  if (d.tl.limIn.get none c).isSome then d else d.modTl (fun t => { t with limIn := t.limIn.set none c (some old) })

/-- The bucket of a code lets one record through. -/
def Dev.tallyPass (d : Dev) (c : Nat) : Bool × Dev :=
  let v := d.tlLim c
  let rate := F.TL_LIM_rate.get v
  if tallyProtected c || rate = 0xFFFF then (true, d)
  else if rate = 0 then (false, d)
  else
    let t := (d.tl.tokens.get none c).getD (limBurst v)
    if t < 1000 then (false, d) else (true, d.modTl (fun x => { x with tokens := x.tokens.set none c (some (t - 1000)) }))

/-- A station-time instant as three words. -/
def timeWords (t : Nat) : List Nat := [time96 t % 2 ^ 32, time96 t / 2 ^ 32 % 2 ^ 32, time96 t / 2 ^ 64]

/-- Once the second in which records of a code were suppressed has passed, its count is written as a record (R490, R68). -/
def Dev.suppEnd (d : Dev) (c : Nat) : Dev :=
  match d.tl.supp.find c with
  | none => d
  | some (n, f, l) =>
    if secOf d.now ≤ secOf l then d
    else (d.modTl (fun t => { t with supp := t.supp.del c })).tallyTake
      { code := 0x0001, unit := c, data := timeWords f ++ timeWords l, count := n, time := d.now }

/-- A record is suppressed and counted (R489, R490). -/
def Dev.suppress (d : Dev) (c : Nat) : Dev :=
  let d := d.suppEnd c
  let (n, f, _) := d.tl.supp.get (0, 0, 0) c
  (d.inc R.TL_LOST F.TL_LOST_suppressed).modTl (fun t => { t with supp := t.supp.put c (n + 1, if n = 0 then d.now else f, d.now) })

/-- A record that passes its class's limit is taken; a drop summary takes its counter with it. -/
def Dev.tallyArrive (d : Dev) (r : TallyReq) : Dev :=
  let x := d.tallyPass r.code
  if !x.1 then x.2.suppress r.code
  else if r.code = 0x0301 then
    ({ x.2 with as := { x.2.as with excDrops := x.2.as.excDrops.set 0 r.unit 0 } }).tallyTake { r with data := [x.2.as.excDrops.get 0 r.unit] }
  else x.2.tallyTake r

/-- TALLY_RECORD (R486 to R489): the oldest record on its way reaches Tally. A record of exception drops carries the drops
counted since the last (R97). -/
def execTallyRecord (s : State) : Outc := s.go (fun d =>
  match d.tl.transit with
  | [] => d
  | r :: rest => if !d.tlOpen then d else (d.modTl (fun t => { t with transit := rest })).tallyArrive r)

/-- One bucket's credit: first a changed limit takes effect. -/
def Dev.creditCode (d : Dev) (c : Nat) : Dev :=
  let old := limBurst (d.tlLim c)
  let v := d.rget (R.TL_LIM c)
  let t := ((d.tl.tokens.get none c).getD old).min (limBurst v) + F.TL_LIM_rate.get v
  d.modTl (fun x => { x with tokens := x.tokens.set none c (if t < limBurst v then some t else none), limIn := x.limIn.set none c none })

/-- TALLY_CREDIT (R489): the millisecond's credit of every bucket. -/
def execTallyCredit (s : State) : Outc := s.go (fun d =>
  ((d.tl.tokens.map (·.1)) ++ (d.tl.limIn.map (·.1)).filter (fun c => (d.tl.tokens.find c).isNone)).foldl (fun d c => d.creditCode c) d)

/-- SUPPRESSION_RECORD code (R490): the second in which records of a code were suppressed has passed. -/
def execSuppressionRecord (code : Fin 4864) (s : State) : Outc := s.go (fun d =>
  if d.tlOpen then d.suppEnd code else d)

/-! ## NAND (R491 to R493) -/

/-- The next good block of the pool's ring. -/
def nextBlock (retired : List Nat) : Nat → Nat → Nat
  | 0, b => b
  | n + 1, b =>
    let c := if b = 4095 then 72 else b + 1
    if retired.contains c then nextBlock retired n c else c

/-- The ring goes on to its next block. -/
def Dev.tlAdvance (d : Dev) : Dev := d.modTl (fun t => { t with block := nextBlock t.retired 4024 t.block, chunks := 0 })

/-- A block is erased just before its first record. -/
def Dev.tlErase (d : Dev) : Dev :=
  let b := d.tl.block
  let n := d.tl.erases.get 0 b + 1
  let d := match d.tl.held.find b with
    | some (lo, hi) => d.modTl (fun t => { t with nand := t.nand.filter (fun e => !(decide (lo ≤ e.1) && decide (e.1 ≤ hi))), held := t.held.del b })
    | none => d
  (d.modTl (fun t => { t with erases := t.erases.put b n })).markHigh R.TL_WEAR F.TL_WEAR_erase_max n

/-- Program one chunk of up to 16 records. -/
def Dev.tlChunk (d : Dev) : Dev :=
  let rs := d.tl.queue.take 16
  match rs.head?, rs.getLast? with
  | some lo, some hi =>
    let d := if d.tl.chunks = 0 then d.tlErase else d
    let stop := d.rd R.TL_STAT F.TL_STAT_first_cnt
    let d := d.modTl (fun t =>
      let was := t.held.find t.block
      { t with
        queue := t.queue.drop 16
        nand := rs.foldl (fun m e => m.put e.1 e.2) t.nand
        first := rs.foldl (fun m e => if e.1 < stop then m.put e.1 e.2 else m) t.first
        held := t.held.put t.block ((was.map (·.1)).getD lo.1, hi.1)
        chunks := t.chunks + 1 })
    if 256 ≤ d.tl.chunks then d.tlAdvance else d
  | _, _ => d

/-- Room has returned: one record says how many were lost (R492). -/
def Dev.tlOverflow (d : Dev) : Dev :=
  if d.tl.lost = 0 || 256 ≤ d.tl.queue.length then d
  else
    let n := d.tl.lost
    (d.modTl (fun t => { t with lost := 0 })).tallyTake { code := 0x0004, data := [n], time := d.now }

/-- CHUNK_PROGRAM (R491, R492). -/
def execChunkProgram (s : State) : Outc := s.go (fun d => if d.tlOpen then d.tlChunk.tlOverflow else d)

/-- Retire a block. -/
def Dev.tlRetire (d : Dev) (b : Nat) (erase : Bool) : Dev :=
  let d := d.modTl (fun t => { t with retired := t.retired ++ [b] })
  let d := d.wr R.TL_STAT F.TL_STAT_bad_blk d.tl.retired.length
  let pool := 4024 - (d.tl.retired.filter (fun x => 72 ≤ x)).length
  let d := d.wrIf (pool < 264) R.TL_STAT F.TL_STAT_short 1
  d.tally 0x0005 b [b2n erase]

/-- BLOCK_RETIRE b erase (R493): the program, or the erase, of a block fails. A pool block that fails is the one the ring
writes: the chunk is written again in the next good block. -/
def execBlockRetire (b : Fin 4096) (erase : Bool) (s : State) : Outc := s.go (fun d =>
  if !d.tlOpen || d.tl.retired.contains b || b.val < 8 then d
  else if b.val ≤ 71 then d.tlRetire b erase
  else if d.tl.block ≠ b.val then d
  else (d.tlRetire b erase).tlAdvance.tlChunk.tlOverflow)

/-- Program everything that waits. -/
def Dev.tlFlush (d : Dev) : Nat → Dev
  | 0 => d
  | n + 1 => if d.tl.queue.isEmpty then d else d.tlChunk.tlFlush n

/-- TALLY_CLOSE (R494, R439): on entry to DOWN every record is programmed, the close is written, and every domain goes off. -/
def execTallyClose (s : State) : Outc := s.go (fun d =>
  if d.rd R.PW_LSTAT F.PW_LSTAT_mode ≠ 4 || !d.tlOpen then d
  else
    let d := d.tlFlush 32
    let d := (d.tallyTake { code := 0x0003, data := [d.tl.downFrom], time := d.now }).tlFlush 32
    let d := (d.wr R.TL_STAT F.TL_STAT_open 0).modTl (fun t => { t with lossy := false })
    (List.range 50).foldl (fun d k => d.wr (R.PW_DOM k) F.PW_DOM_state 0) d)

/-- Tally opens (R495): torn slots are skipped, and one record says what was found. -/
def Dev.tallyOpen (d : Dev) (torn : Nat) : Dev :=
  if d.tlOpen then d
  else
    let torn := if d.tl.lossy then torn else 0
    let last := (d.tl.nand.getLast?).map (fun e => bitsOf e.2.toNat 144 16)
    let d := (d.wr R.TL_STAT F.TL_STAT_open 1).inc R.TL_LOST F.TL_LOST_torn torn
    let d := if torn = 0 then d else d.modTl (fun t => { t with chunks := t.chunks + 1 })
    let d := if 256 ≤ d.tl.chunks then d.tlAdvance else d
    let d := d.modTl (fun t => { t with lossy := true })
    d.tallyTake { code := 0x0002, data := [b2n (last == some 0x0003), torn], time := d.now }

/-- TALLY_OPEN torn (R495): at STRAPS; `torn` slots are found whose crc fails, after a loss of power that left a chunk torn. -/
def execTallyOpen (torn : Fin 17) (s : State) : Outc := s.go (fun d =>
  if d.rd R.SY_BOOT F.SY_BOOT_stage ≠ 1 then d else d.tallyOpen torn)

/-! ## Reading out (R496, R497) -/

/-- The record at an index of an area: 0 first, 1 last. -/
def Dev.tallyAt (d : Dev) (area idx : Nat) : Option (BitVec 512) :=
  let queued (seq : Nat) : Option (BitVec 512) := (d.tl.queue.find? (fun e => e.1 == seq)).map (·.2)
  if area = 0 then
    if idx < d.rd R.TL_STAT F.TL_STAT_first_cnt then (queued idx).orElse (fun _ => d.tl.first.find idx) else none
  else
    let top := d.tl.nextSeq / 2 ^ 32 * 2 ^ 32 + idx
    let seq := if top < d.tl.nextSeq then top else top - 2 ^ 32
    if d.tl.nextSeq ≤ top && top < 2 ^ 32 then none else (queued seq).orElse (fun _ => d.tl.nand.find seq)

/-- The SMBus answers whenever VMAIN is valid, and never in DOWN. -/
def Dev.smbUp (d : Dev) : Bool := d.bo.vmain && d.rd R.PW_LSTAT F.PW_LSTAT_mode != 4

/-- SMB_STATUS_READ (R497), SMBus command 0x10. -/
def execSmbStatusRead (s : State) : Outc := s.go (fun d =>
  if !d.smbUp then d
  else d.out (.smb (leBytes 4 (d.rget R.RL_FAULT).toNat ++ leBytes 4 (d.rget R.RL_ALARM).toNat
    ++ [BitVec.ofNat 8 d.devState, BitVec.ofNat 8 (d.rd R.PW_LSTAT F.PW_LSTAT_mode)] ++ leBytes 4 (d.rget R.SY_IDENT).toNat ++ [0, 0])))

/-- SMB_POINTER_WRITE area index (R497), SMBus command 0x11. -/
def execSmbPointerWrite (area : Fin 256) (index : Word32) (s : State) : Outc := s.go (fun d =>
  if d.smbUp then d.modTl (fun t => { t with ptr := (area, index.toNat) }) else d)

/-- SMB_RECORD_READ (R497), SMBus command 0x12: where the record is not held the pointer stays. -/
def execSmbRecordRead (s : State) : Outc := s.go (fun d =>
  if !d.smbUp then d
  else
    let (a, i) := d.tl.ptr
    match (if a ≤ 1 then d.tallyAt a i else none) with
    | some r => (d.out (.smb (leBytes 64 r.toNat))).modTl (fun t => { t with ptr := (a, (i + 1) % 2 ^ 32) })
    | none => d.out (.smb []))

/-- SMB_COUNT_READ (R497), SMBus command 0x13. -/
def execSmbCountRead (s : State) : Outc := s.go (fun d =>
  if !d.smbUp then d
  else d.out (.smb (leBytes 4 (d.rd R.TL_STAT F.TL_STAT_first_cnt) ++ leBytes 4 (d.rd R.TL_STAT F.TL_STAT_next_idx)
    ++ leBytes 4 (d.rd R.TL_STAT F.TL_STAT_bad_blk))))

end Sys2Proof.Machine
end

