-- ==== Sys2Proof/Machine/Bus.lean ====
section
/-!
DEFINITION. The service bus: which accesses reach a register or an area, what a write changes and starts, and what a read
shows and clears (R3 to R8, R342, R343, R499, R507 to R514).
-/

namespace Sys2Proof.Machine

/-! ## Places (R51, R446, R512) -/

/-- The islands that hold a register or an area of a block, by its address; it answers while one of them does. A register that
the spec places in no one island answers while any island of its block does (DEDUCED, log entry 49). -/
def islandsOf (a : Nat) : List Nat :=
  let off := a % 0x100000
  match blockOf a with
  | 0x2 => if off < 0x8000 then [93] else [89]
  | 0x3 => [26 + off / 0x10000 % 8]
  | 0x4 => if off = 0x200 || off = 0x208 then [42]
      else if 0x100 ≤ off && off < 0x180 then [34 + (off - 0x100) / 0x20] else [34, 35, 36, 37]
  | 0x5 => if off < 0x200 then [34 + off % 0x100 / 0x40] else if 0x300 ≤ off then [43] else [34, 35, 36, 37, 43]
  | 0x6 => [44]
  | 0x7 => [45]
  | 0x8 => if 0x480 ≤ off && off < 0x4A0 then [74 + (off - 0x480) / 8]
      else if 0x500 ≤ off && off < 0x520 then [74 + (off - 0x500) / 8] else [74, 75, 76, 77]
  | 0x9 => if 0x100 ≤ off && off < 0x160 then [50 + (off - 0x100) / 8]
      else if 0x180 ≤ off && off < 0x1E0 then [50 + (off - 0x180) / 8]
      else if 0x200 ≤ off && off < 0x260 then [50 + (off - 0x200) / 8]
      else if 0x300 ≤ off && off < 0x360 then [62 + (off - 0x300) / 8]
      else if 0x400 ≤ off && off < 0x600 then [62 + (off - 0x400) / 0x40] else [48, 49]
  | 0xA => [46]
  | 0xB => [47]
  | 0xC => [88]
  | 0xD => [85]
  | 0xE => [96]
  | 0xF => if 0x100 ≤ off && off < 0x1A0 then [78 + (off - 0x100) / 0x20] else [83]
  | 0x20 => [(a - 0x2000000) / 0x80000]
  | 0x40 => [96]
  | 0x0 => [99]
  | 0x1 => [97]
  | 0x10 => [94]
  | 0x11 => [90]
  | 0x12 => [91]
  | 0x13 => [92]
  | _ => [93]

def Dev.reachable (d : Dev) (a : Nat) : Bool := (islandsOf a).any d.islandUp

/-- A request waits for the clocks it needs: those that are gated restart, and it is served then (R55). -/
def Dev.wakeIsles (d : Dev) (a : Nat) : Dev :=
  ((islandsOf a).filter d.islandUp).foldl (fun d i =>
    d.wrIf (d.on (R.CK_ISLSTAT i) F.CK_ISLSTAT_gated) (R.CK_ISLSTAT i) F.CK_ISLSTAT_gated 0) d

/-! ## Requesters -/

/-- The last_src code of a requester (R511); a supervisor is no requester of the bus. -/
def srcCode : Src → Nat
  | .host _ _ => 0
  | .overman => 1
  | .background => 2
  | .relief => 3
  | .tap => 4
  | .supervisor _ => 5

/-- The requester's XP fields take effect (R8, R514). -/
def Dev.grantOk (d : Dev) : Src → Bool
  | .host fn _ => d.granted fn
  | _ => true

/-- An access is refused and counted in SY_BUSERR (R508, R509, R512). -/
def Dev.busErr (d : Dev) (src : Src) (a : Nat) (f : Fld) : Dev :=
  let d := d.inc R.SY_BUSERR f
  (d.wr R.SY_BUSERR F.SY_BUSERR_last_src (srcCode src)).wr R.SY_BUSERR F.SY_BUSERR_last_off (a % 2 ^ 26)

/-- A discarded XP write is counted, and recorded at most once per second per function (R8): not within one second of the
function's last record (DESIGN CHOICE, log entry 165). -/
def Dev.xpDiscard (d : Dev) (fn a : Nat) : Dev :=
  let d := { d with bus := { d.bus with xpCnt := d.bus.xpCnt.upd 0 fn (· + 1) } }
  let due := match d.bus.xpAt.get none fn with
    | none => true
    | some t => decide (t + unitsPerSec ≤ d.now)
  if due then ({ d with bus := { d.bus with xpAt := d.bus.xpAt.set none fn (some d.now) } }).tally 0x0011 fn [a] else d

/-- A refused paired write (R5). -/
def Dev.rwpRefuse (d : Dev) (src : Src) (a : Nat) : Dev :=
  let fn : Nat := match src with | .host fn _ => fn | _ => 0
  ({ d with bus := { d.bus with rwpCnt := d.bus.rwpCnt + 1 } }).tally 0x0010 fn [a]

/-- A warm reset is asked for (R467). -/
def Dev.warmRequest (d : Dev) : Dev :=
  if d.bo.warmReq || d.bo.warm then d.inc R.SY_RST F.SY_RST_warm_ign else { d with bo := { d.bo with warmReq := true } }

/-- A doorbell or request-area write is refused (R362). -/
def Dev.cageRefuse (d : Dev) (fn : Nat) : Dev := (d.inc (R.CG_STAT fn) F.CG_STAT_db_ref).wr (R.CG_STAT fn) F.CG_STAT_err 1

/-- CG_DOOR.go (R362): the request of a function is taken, or its doorbell refused. -/
def Dev.cageDoor (d : Dev) (fn : Nat) : Dev :=
  if d.on (R.CG_STAT fn) F.CG_STAT_busy || !(d.devState == 1 || d.devState == 2 || d.devState == 3) then d.cageRefuse fn
  else
    let tag := d.load (cageBase fn + 0x100 + 2) 1
    ((d.wr (R.CG_STAT fn) F.CG_STAT_done 0).wr (R.CG_STAT fn) F.CG_STAT_busy 1).wr (R.CG_STAT fn) F.CG_STAT_tag tag

/-! ## Writes -/

/-- Sizes of 2^12 to 2^36 bytes, as the ring registers hold them. -/
def ringOk (f : Fld) (v : Word64) : Bool := 12 ≤ f.get v && f.get v ≤ 36

/-- Every class has a k of -5 to +3 (R307). -/
def alphaOk (v : Word64) : Bool :=
  (List.range 8).all (fun c => let k := toSigned 4 (bitsOf v.toNat (32 + 4 * c) 4); -5 ≤ k && k ≤ 3)

/-- The sum of the caps stays within 3,200, or does not rise, and the cap is not 0 (R393). -/
def Dev.capOk (d : Dev) (a : Nat) (v : Word64) : Bool :=
  let cap := F.SM_AGCFG_cap.get v
  let was := d.rd (R.SM_AGCFG a) F.SM_AGCFG_cap
  let sum := ((List.range 8).map (fun i => d.rd (R.SM_AGCFG i) F.SM_AGCFG_cap)).sum
  cap ≠ 0 && (sum - was + cap ≤ 3200 || cap ≤ was)

/-- An output's rate and hold (R226): 0 in its enable bit may stand with any. -/
def outOk (v : Word64) : Bool :=
  frOk (F.PH_OUT_f60.get v == 1) (F.PH_OUT_fr.get v) (F.PH_OUT_hold_us.get v)

/-- A write of CK_ISLCFG (R51, R52, R171). A gallery's change of frequency takes its time (DVFS_COMPLETE). -/
def Dev.islCfg (d : Dev) (n : Nat) (v : Word64) : Dev :=
  let gate := F.CK_ISLCFG_gate_req.get v == 1 && n != 89 && n != 93
  let d := d.wr (R.CK_ISLSTAT n) F.CK_ISLSTAT_gated (b2n gate)
  match isleRange n with
  | none => d
  | some (lo, hi) =>
    let f := ((F.CK_ISLCFG_freq_req.get v).max lo).min hi
    if n < 26 then ({ d with bg := { d.bg with freqSet := d.bg.freqSet.set none n (some f) } }).freqAsk n f
    else if d.rd (R.CK_ISLSTAT n) F.CK_ISLSTAT_freq_mhz = 0 then d else d.isleFreq n f

/-- The fields of a port do not make a redundancy pair (R41): two ports of one rate and width that name each other hold matching roles,
and exactly one of them lan_b. -/
def Dev.pairErr (d : Dev) (p : Nat) : Bool :=
  let q := d.rd (R.PT_RED p) F.PT_RED_peer
  d.rd (R.PT_RED p) F.PT_RED_role != 0
    && !(p != q && d.rd (R.PT_PCFG q) F.PT_PCFG_lane_rate == d.rd (R.PT_PCFG p) F.PT_PCFG_lane_rate
      && d.rd (R.PT_PCFG q) F.PT_PCFG_width == d.rd (R.PT_PCFG p) F.PT_PCFG_width && d.rd (R.PT_RED q) F.PT_RED_role == d.rd (R.PT_RED p) F.PT_RED_role && d.rd (R.PT_RED q) F.PT_RED_peer == p
      && d.rd (R.PT_RED p) F.PT_RED_lan_b + d.rd (R.PT_RED q) F.PT_RED_lan_b == 1)

/-- pair_err follows the fields of a port, its peer and the peer it had. -/
def Dev.pairCheck (d : Dev) (ps : List Nat) : Dev :=
  let bad (q : Nat) : Bool := d.pairErr q || (List.range 32).any (fun r => d.pairErr r && d.rd (R.PT_RED r) F.PT_RED_peer == q)
  ps.foldl (fun a q => a.wr (R.PT_RED q) F.PT_RED_pair_err (b2n (bad q))) d

/-- A write that the register refuses, in whole or in the command its value gives: the rules of each register. -/
def Dev.regRefuses (d : Dev) (id : RegId) (n : Nat) (eff : Word64) : Bool :=
  match id with
  | .PT_QSCH => F.PT_QSCH_mode.get eff == 3
  | .PT_PCFG => !d.pcfgOk n eff
  | .PT_GCLBASE => d.on (R.PT_GCLCTL n) F.PT_GCLCTL_pending
  | .PT_GCLCTL =>
    let c := R.PT_GCLCTL n
    if d.on c F.PT_GCLCTL_pending then
      F.PT_GCLCTL_commit.get eff == 1 || F.PT_GCLCTL_length.get eff != d.rd c F.PT_GCLCTL_length
        || F.PT_GCLCTL_cycle.get eff != d.rd c F.PT_GCLCTL_cycle
    else F.PT_GCLCTL_commit.get eff == 1 && !d.adminOk n
  | .TB_PPS => F.TB_PPS_pps_width.get eff == 0 || 500 < F.TB_PPS_pps_width.get eff
  | .TB_TICK => 18 ≤ F.TB_TICK_tick_exp.get eff
  | .TB_STEP => d.tbSt != 1 || !d.on R.TB_CTL F.TB_CTL_step_en
  | .TB_UTC => F.TB_UTC_leap.get eff != 0 && F.TB_UTC_leap_tai.get eff ≤ d.taiLow
  | .AS_RVER => F.AS_RVER_commit.get eff == 1 && (d.on R.AS_RVER F.AS_RVER_prev_live || !d.stageReady)
  | .AS_KSEL => !(d.stageReady && n != d.curSlot)
  | .DR_TRRING => !ringOk F.DR_TRRING_size_log2 eff
  | .LD_EXPRING => !ringOk F.LD_EXPRING_size_log2 eff
  | .XC_CAPRING => !ringOk F.XC_CAPRING_size_log2 eff
  | .DB_GTRRING => !ringOk F.DB_GTRRING_size_log2 eff
  | .DR_TCTL => F.DR_TCTL_en.get eff == 1 && !d.on (R.DR_TCTL n) F.DR_TCTL_en && !d.tmplGood n
  | .HO_PART => 8192 < F.HO_PART_c7_tickets.get eff
  | .XC_ROWTHR => !alphaOk eff
  | .XC_PORT => F.XC_PORT_hold_ms.get eff == 0 || 10 < F.XC_PORT_hold_ms.get eff
  | .XC_PLMAP => (d.rget R.XC_PLMAP ^^^ eff) &&& d.rget R.XC_PLMOVE != 0
  | .BN_ROWCFG => F.BN_ROWCFG_xon_free.get eff < F.BN_ROWCFG_xoff_free.get eff
  | .TK_CHAN => d.chanBad n eff
  | .PH_OUT => !outOk eff
  | .PH_BIND => F.PH_BIND_valid.get eff == 1 && !outOk (d.rget (R.PH_OUT (n / 32)))
  | .HI_BAR2 =>
    let sz := F.HI_BAR2_size_log2.get eff
    sz < 30 || 36 < sz || 2 ^ 37 < F.HI_BAR2_base.get eff * 2 ^ 30 + 2 ^ sz
  | .HI_QCFG => d.qcfgBad n ((regRow id).stored (d.rget (R.HI_QCFG n)) eff)
  | .SM_AGCFG => !d.capOk n eff
  | .SM_SPARE => F.SM_SPARE_start.get eff == 1 && (d.on R.SM_SPARE F.SM_SPARE_busy || d.smSpare.isNone
      || 3 < F.SM_SPARE_src.get eff || d.smState (F.SM_SPARE_src.get eff) != 2)
  | .PW_CFG => F.PW_CFG_lull_db.get eff < 5 || 50 < F.PW_CFG_lull_db.get eff
  | .PW_TLIM => F.PW_TLIM_thr_c.get eff < 90 || 108 < F.PW_TLIM_thr_c.get eff
  | .PW_DOM => d.domRefused n (F.PW_DOM_req.get eff)
  | .TL_LIM => tallyProtected n
  | _ => false

/-- A write that is taken: the register holds what its fields store. -/
def Dev.regStore (d : Dev) (id : RegId) (ix : List Nat) (old eff : Word64) : Dev := d.rset (regOf id ix) ((regRow id).stored old eff)

/-- A refused write still clears what its RW1C bits name. -/
def Dev.regClears (d : Dev) (id : RegId) (ix : List Nat) (old eff : Word64) : Dev :=
  d.rset (regOf id ix) ((regRow id).flds.foldl (fun (e : Word64) f =>
    match f.acc with
    | .rw1c => BitVec.ofNat 64 (e.toNat - (f.get old &&& f.get eff) * 2 ^ f.lo)
    | _ => e) old)

/-- What a write changes and starts, for every register but those of a gallery. `old` is what the register held, `eff` the
value as it takes effect, `pass` the outcome of the self-test that a return by RL_FORCE runs. -/
def Dev.regEffect (d : Dev) (id : RegId) (ix : List Nat) (old eff : Word64) (pass : Bool) : Dev :=
  let r := regOf id ix
  let n := ix.getD 0 0
  match id with
  | .TB_TICK =>
    if d.regRefuses id n eff then d
    else (d.modTb (fun t => { t with tick := d.tickExp, tickSet := some d.now })).regStore id ix old eff
  | .PT_QSCH | .TB_PPS | .DR_TRRING | .LD_EXPRING | .XC_CAPRING | .DB_GTRRING | .HO_PART | .XC_ROWTHR | .SM_AGCFG | .PW_CFG | .PW_TLIM =>
    if d.regRefuses id n eff then d else d.regStore id ix old eff
  | .DB_CTL => (d.regStore id ix old eff).limits
  | .PT_PCFG => (d.pcfgWrite n eff).2.pairCheck (List.range 32)
  | .PT_GCLCTL =>
    -- while a list is pending, its length, its cycle and its base stay (R46)
    if d.on r F.PT_GCLCTL_pending && d.regRefuses id n eff then (d.regClears id ix old eff).wr r F.PT_GCLCTL_err 1
    else
      let d := d.regStore id ix old eff
      if F.PT_GCLCTL_commit.get eff = 1 then d.gclCommit n else d
  | .PT_GCLBASE =>
    if d.on (R.PT_GCLCTL n) F.PT_GCLCTL_pending then d.wr (R.PT_GCLCTL n) F.PT_GCLCTL_err 1 else d.regStore id ix old eff
  | .TB_CTL => d.tbCtlWrite eff
  | .TB_STEP => d.tbStepWrite eff
  | .TB_FREQ => d.tbFreqWrite eff.toNat
  | .TB_UTC => d.tbUtcWrite eff
  | .CK_ISLCFG => (d.regStore id ix old eff).islCfg n eff
  | .AS_RVER =>
    let d := d.regClears id ix old eff
    let d := if F.AS_RVER_retire.get eff = 1 then d.ruleRetire else d
    if F.AS_RVER_commit.get eff = 1 then d.ruleCommit.2 else d
  | .AS_RCMD => let d := d.regStore id ix old eff; if F.AS_RCMD_start.get eff = 1 then d.rcmdStart else d
  | .AS_KSEL => let x := d.stageWrite n; if x.1 then x.2.regStore id ix old eff else x.2
  | .AS_EXCCFG => { (d.regStore id ix old eff) with as := { d.as with excTokens := d.as.excTokens.set none n none } }
  | .AS_EDDYCFG => (d.regStore id ix old eff).eddyPool
  | .ST_DMACTL => d.dmaCtlWrite eff
  | .ST_MTR => (d.regStore id ix old eff).meterFill n
  | .ST_MOVE => { (d.regStore id ix old eff) with bg := { d.bg with holdSet := d.bg.holdSet.set none n (some (F.ST_MOVE_hold_ms.get eff)) } }
  | .DR_TCTL =>
    let d := d.regClears id ix old eff
    if F.DR_TCTL_en.get eff = F.DR_TCTL_en.get old then d else d.tmplEnable n (F.DR_TCTL_en.get eff == 1)
  | .LD_SWCMD =>
    let d := d.regStore id ix old eff
    if F.LD_SWCMD_start.get eff = 1 then d.swStart else d
  | .LD_SWEEP => let d := d.regStore id ix old eff; if F.LD_SWEEP_flush.get eff = 1 then d.sweepFlush else d
  | .LD_TMO => { (d.regStore id ix old eff) with ld := { d.ld with tmo := d.ld.tmo.set none n (some (F.LD_TMO_limit.get eff)) } }
  | .XC_PORT => d.regStore id ix old eff |>.wrIf (d.regRefuses id n eff) r F.XC_PORT_hold_ms (F.XC_PORT_hold_ms.get old)
  | .XC_MIRSES =>
    let d := d.regStore id ix old eff
    if F.XC_MIRSES_en.get old = 0 && F.XC_MIRSES_en.get eff = 1 then { d with xc := { d.xc with samples := d.xc.samples.set 0 n 0 } } else d
  | .XC_PLMAP => d.plmapWrite eff
  | .XC_CAPIDX =>
    (d.regStore id ix old eff).capRead (F.XC_CAPIDX_rd_idx.get old) (F.XC_CAPIDX_rd_idx.get ((regRow id).stored old eff))
  | .XC_GRP =>
    let v := F.XC_GRP_par.put ((regRow id).stored old eff) 0
    let v := F.XC_GRP_par.put v (parityOf 64 v.toNat)
    { (d.rset r v) with xc := { d.xc with groupCopy := d.xc.groupCopy.set 0 n v } }
  | .BN_ROWCFG => if d.regRefuses id n eff then d else (d.regStore id ix old eff).pauseCheck n
  | .TK_CHAN => d.chanWrite n eff
  | .TK_FREL => d.forceRelease (F.TK_FREL_lock.get eff)
  | .PH_OUT =>
    let en := F.PH_OUT_en.get eff == 1
    if d.regRefuses id n eff then d
    else
      let d := d.regStore id ix old eff
      if F.PH_OUT_en.get old = 1 && !en then d.unreserve 10 (tagBuilder n) (d.resvOf 10 (tagBuilder n))
      else if F.PH_OUT_en.get old = 0 && en then d.outReserve n else d
  | .PH_BIND =>
    if d.regRefuses id n eff then d
    else
      let d := d.regStore id ix old eff
      if old = (regRow id).stored old eff || F.PH_BIND_valid.get old = 0 && F.PH_BIND_valid.get eff = 0 then d
      else (d.freqForget n).outChanged (n / 32)
  | .HI_BAR2 =>
    if d.regRefuses id n eff then d
    else ({ d with hi := { d.hi with bar2 := some d.bar2 } }).rset r ((regRow id).stored old eff)
  | .HI_QCFG => (d.qcfgWrite n ((regRow id).stored old eff)).2
  | .SM_CFG =>
    let d := d.regStore id ix old eff
    { d with bg := { d.bg with dblSet := some (F.SM_CFG_dbl_c.get eff) } }
  | .SM_SPARE =>
    let d := d.regStore id ix old eff
    if F.SM_SPARE_start.get eff = 1 then d.spareRequest (F.SM_SPARE_src.get eff) else d
  | .PW_DOM => (d.regClears id ix old eff).domReq n (F.PW_DOM_req.get eff)
  | .RL_ALMASK => Dev.alarmEdge d.alarmOn (d.regStore id ix old eff)
  | .RL_FORCE =>
    let d := d.regStore id ix old eff
    if F.RL_FORCE_go.get eff = 1 then
      d.forceGo (F.RL_FORCE_kind.get eff) (F.RL_FORCE_ret.get eff == 1) (F.RL_FORCE_unit.get eff) pass
    else d
  | .TL_LIM => if d.regRefuses id n eff then d else (d.regStore id ix old eff).limHold n old
  | .PT_RED =>
    let was := d.rd r F.PT_RED_peer
    let d := d.regStore id ix old eff
    d.pairCheck [n, was, d.rd r F.PT_RED_peer]
  | .DB_TCMD => d.tcmd (F.DB_TCMD_op.get eff) (F.DB_TCMD_thread.get eff) (F.DB_TCMD_all.get eff == 1)
  | .CG_DOOR => if F.CG_DOOR_go.get eff = 1 then d.cageDoor n else d
  | .CG_RIGHTS =>
    -- the PF holds every right; clearing expert_ok ends the function's grant (R366, R367)
    if n = 0 then d
    else
      let d := d.regStore id ix old eff
      if F.CG_RIGHTS_expert_ok.get eff = 1 then d
      else match d.grantOf n with | some k => d.grantEnd k | none => d
  | .SY_RST => if F.SY_RST_warm.get eff = 1 then d.warmRequest else d
  | _ => d.regStore id ix old eff

/-- A register that its chapter makes read-only for this instance: a protected code's TL_LIM (R488) and the PF's rights (R366). -/
def instRo (id : RegId) (ix : List Nat) : Bool :=
  match id with
  | .TL_LIM => tallyProtected (ix.getD 0 0)
  | .CG_RIGHTS => ix.getD 0 0 == 0
  | _ => false

/-- Debug registers change only while debug is unlocked (R499). -/
def Dev.dbLocked (d : Dev) (a : Nat) : Bool := blockOf a == 0x13 && !d.on R.DB_STAT F.DB_STAT_unlocked

/-- A write of a register that is reached, at its width. -/
def Dev.regWrite (d : Dev) (src : Src) (id : RegId) (ix : List Nat) (v : Word64) (pass : Bool) : Dev :=
  let row := regRow id
  let r := regOf id ix
  let v := if row.wide then v else v &&& 0xFFFFFFFF
  if d.dbLocked r.addr then d.inc R.DB_STAT F.DB_STAT_ref_cnt
  else
    match id with
    | .PT_TSDLY =>
      if (v.toNat / 2 ^ 32) + (v.toNat % 2 ^ 32) = 2 ^ 32 - 1 then d.rset r v else d.rwpRefuse src r.addr
    | _ =>
      let grant := d.grantOk src
      let old := d.rget r
      let d := match src with
        | .host fn _ => if !grant && !instRo id ix && row.discards old v then d.xpDiscard fn r.addr else d
        | _ => d
      if !grant && r.addr < 2 ^ 32 then
        -- only RW and RW1C fields take effect, and nothing is started (R514)
        d.rset r (row.flds.foldl (fun (e : Word64) f =>
          match f.acc with
          | .rw => f.put e (f.get v)
          | .rw1c => BitVec.ofNat 64 (e.toNat - (f.get old &&& f.get v) * 2 ^ f.lo)
          | _ => e) old)
      else
        let eff := row.effective old v true
        if blockOf r.addr = 0x20 then d.glWrite id ix eff src else d.regEffect id ix old eff pass

/-! ## Areas (R343, R507, R509, R510) -/

/-- The areas: arrays and windows that are no registers. -/
inductive Area
  | gateAdmin (p : Nat)
  | gateRun (p : Nat)
  | ruleWin
  | parse (slot : Nat)
  | template (t : Nat)
  | swWin
  | header (o : Nat)
  | msix (fn : Nat)
  | pba (fn : Nat)
  | imem (g : Nat)
  | shared (g : Nat)
  | request (fn : Nat)
  | cage (fn : Nat)
  | doors (fn : Nat)
  | zero
  deriving DecidableEq, Repr

def areaOf (a : Nat) : Option Area :=
  if 2 ^ 32 ≤ a then
    let fn := (a - 2 ^ 32) / 0x4000
    let o := (a - 2 ^ 32) % 0x4000
    if 64 ≤ fn then none
    else if 0x100 ≤ o && o < 0x900 then some (.request fn)
    else if 0x900 ≤ o && o < 0x1000 then some (.cage fn)
    else if 0x2000 ≤ o then (if o % 16 = 0 || o % 16 = 8 then some (.doors fn) else none)
    else if fn = 0 then (if 0x1000 ≤ o then some .zero else none)
    else if 0x1000 ≤ o && o < 0x1800 then some (.msix fn)
    else if 0x1800 ≤ o && o < 0x1810 then some (.pba fn)
    else none
  else if 0x300000 ≤ a && a < 0x380000 then
    let o := a % 0x4000
    if 0x2000 ≤ o && o < 0x3000 then some (.gateAdmin ((a - 0x300000) / 0x4000))
    else if 0x3000 ≤ o then some (.gateRun ((a - 0x300000) / 0x4000)) else none
  else if 0x401000 ≤ a && a < 0x4010A0 then some .ruleWin
  else if 0x402000 ≤ a && a < 0x404000 then some (.parse ((a - 0x402000) / 0x1000))
  else if 0x610000 ≤ a && a < 0x620000 then some (.template ((a - 0x610000) / 0x100))
  else if 0x800700 ≤ a && a < 0x8007A0 then some .swWin
  else if 0xC20000 ≤ a && a < 0xC30000 then some (.header ((a - 0xC20000) / 0x40))
  else if 0xD80000 ≤ a && a < 0xD84100 then some (.msix 0)
  else if 0xDC0000 ≤ a && a < 0xDC0088 then some (.pba 0)
  else if 0x2000000 ≤ a && a < 0x2D00000 then
    let g := (a - 0x2000000) / 0x80000
    let o := a % 0x80000
    if 0x10000 ≤ o && o < 0x20000 then some (.shared g) else if 0x40000 ≤ o then some (.imem g) else none
  else none

/-- Where the bytes of an area stand. -/
def Dev.areaMem (d : Dev) (a : Nat) : Area → Nat
  | .shared g => sharedAddr g (d.rd (R.GL_SMBASE g) F.GL_SMBASE_win * 0x10000 + a % 0x10000)
  | _ => a

/-- The bytes of an access to a gallery's memory hold an uncorrectable word. -/
def Dev.areaBad (d : Dev) (a size : Nat) (ar : Area) : Bool :=
  match ar with
  | .shared g => d.wordBad g (d.areaMem a ar) size
  | .imem g => d.wordBad g a size
  | _ => false

/-- The access has a width and an alignment the area accepts (R509). -/
def areaWidth (ar : Area) (a size : Nat) : Bool :=
  (match ar with
    | .imem _ => size == 2
    | .doors _ => true
    | _ => size == 1 || size == 2 || size == 4 || size == 8) && size != 0 && a % size == 0

/-- The area is written at the expert level; the running gate list is read-only (R46). -/
def Area.expert : Area → Bool
  | .gateRun _ | .msix _ | .pba _ | .request _ | .cage _ | .doors _ | .zero => false
  | _ => true

def srcFn : Src → Nat
  | .host fn _ => fn
  | _ => 0

/-- A write to an MSI-X table; clearing the mask bit of an entry sends what is pending (R354). -/
def Dev.msixWrite (d : Dev) (fn a : Nat) (bs : List Byte) : Dev :=
  let e := (a - msixAddr fn 0) / 16
  let was := d.msixMasked fn e
  let d := d.put a bs
  if was && !d.msixMasked fn e then d.msixUnmask fn e else d

/-- A write to an area that is reached, at a width it accepts. -/
def Dev.areaPut (d : Dev) (src : Src) (ar : Area) (a size : Nat) (v : Word64) : Dev :=
  let bs := leBytes size v.toNat
  let m := d.areaMem a ar
  let good (d : Dev) (g : Nat) : Dev :=
    (d.put m bs).goodWords g m size
  match ar with
  | .gateAdmin p => if d.on (R.PT_GCLCTL p) F.PT_GCLCTL_pending then d.wr (R.PT_GCLCTL p) F.PT_GCLCTL_err 1 else d.put m bs
  | .gateRun _ => d
  | .ruleWin => d.put m bs
  | .parse s => let (ok, d) := d.stageWrite s; if ok then d.put m bs else d
  | .template t =>
    if d.tmplOn t || d.rd (R.DR_TCTL t) F.DR_TCTL_live ≠ 0 then d.wr (R.DR_TCTL t) F.DR_TCTL_wr_ref 1 else d.put m bs
  | .swWin => if d.on R.LD_SWCMD F.LD_SWCMD_busy then d else d.put m bs
  | .header _ => d.put m bs
  | .msix fn => d.msixWrite fn m bs
  | .pba _ => d
  | .imem g => if d.galActive g then d.tally 0x0601 g [a] else good (d.put m (leBytes 2 (v.toNat % 2 ^ 14))) g |>.put m (leBytes 2 (v.toNat % 2 ^ 14))
  | .shared g => good d g
  | .request fn =>
    match src with
    | .host _ _ => if d.on (R.CG_STAT fn) F.CG_STAT_busy then d.cageRefuse fn else d.put m bs
    | _ => d.put m bs
  | .cage _ => d.put m bs
  | .doors fn =>
    let i := a % 0x4000 / 16 - 0x200
    if a % 16 = 0 then d.txDoor (srcFn src) fn i (v.toNat % 2 ^ 16) (2 ≤ size) else d.rxDoor (srcFn src) fn i (v.toNat % 2 ^ 16) (2 ≤ size)
  | .zero => d

/-- Grant, counting and application of an area write (R8, R514). -/
def Dev.areaWrite (d : Dev) (src : Src) (ar : Area) (a size : Nat) (v : Word64) : Dev :=
  if ar.expert && !d.grantOk src then
    match src with
    | .host fn _ => if d.bytes (d.areaMem a ar) size = leBytes size v.toNat then d else d.xpDiscard fn a
    | _ => d
  else d.areaPut src ar a size v

/-! ## Accesses -/

/-- What becomes of an access on its way (R342, R499, R500, R510): it is not delivered, it is a write of the PF to another
function's area, or it goes on. -/
inductive Path
  | none
  | foreign
  | go
  deriving DecidableEq, Repr

def Dev.path (d : Dev) (src : Src) (a : Nat) : Path :=
  match src with
  | .host fn ide =>
    if !d.hostIn fn ide then .none
    else if a < 2 ^ 26 then (if fn.val = 0 then .go else .none)
    else if fn.val = (a - 2 ^ 32) / 0x4000 then .go
    else if fn.val = 0 then .foreign else .none
  | .tap => if d.on R.DB_STAT F.DB_STAT_unlocked && blockOf a == 0x13 then .go else .none
  | .supervisor g => if a / 0x80000 = 0x40 + g.val && a % 0x80000 < 0x40000 then .go else .none
  | _ => .go

/-- An access at an offset in a register has the register's place and width (R509). -/
def regAccess (id : RegId) (off size : Nat) : Bool := off == 0 && size == regWidth id

/-- One write of `size` bytes to address `a`. -/
def Dev.busWrite (d : Dev) (src : Src) (a size : Nat) (v : Word64) (pass : Bool) : Dev :=
  match d.path src a with
  | .none => d
  | .foreign => d.dbBad
  | .go =>
    match areaOf a with
    | some ar =>
      if !d.reachable a then d.busErr src a F.SY_BUSERR_fenced
      else if !areaWidth ar a size then d.busErr src a F.SY_BUSERR_width
      else (d.wakeIsles a).areaWrite src ar a size v
    | none =>
      match inReg a with
      | none => d.busErr src a F.SY_BUSERR_unmapped
      | some ((id, ix), off) =>
        if !d.reachable a then d.busErr src a F.SY_BUSERR_fenced
        else if regAccess id off size then (d.wakeIsles a).regWrite src id ix v pass
        else
          let d := d.busErr src a F.SY_BUSERR_width
          match id with
          | .PT_TSDLY => d.rwpRefuse src (regOf id ix).addr
          | _ => d

/-! ## Reads -/

/-- TK_LOCK of a lock; the owner field of a lock that a job holds is not stated (free). -/
def Dev.tkLock (d : Dev) (n : Nat) : Nat × Dev :=
  let l := d.lock n
  let head := l.waiters.length * 2 ^ 40 + b2n l.abandoned * 2 + b2n l.held
  if l.jobHeld then
    let (v, d) := d.fresh 11
    (head + l.owner / 2048 % 32 * 2 ^ 35 + l.owner % 2048 * 2 ^ 24 + 2 ^ 23 + v * 2 ^ 12, d)
  else (head + (if l.held then l.owner % 2048 * 2 ^ 12 else 0), d)

/-- HO_DOMSTAT of a domain. -/
def Dev.domStat (d : Dev) (dom : Nat) : Nat :=
  let ts := d.ho.tickets.filter (fun e => e.2.dom == dom)
  let st := ((ts.find? (fun e => e.2.seq == d.head dom)).map (fun e => e.2.st)).getD 0
  let wait := ((d.now - d.ho.headAt.get 0 dom) / usU 1).min 65535
  d.head dom * 2 ^ 44 + ts.length % 2 ^ 15 * 2 ^ 29 + st * 2 ^ 26 + wait

/-- CG_GSTAT of a function. -/
def Dev.gstat (d : Dev) (fn : Nat) : Nat :=
  (d.rget (R.CG_RIGHTS fn)).toNat % 16 * 2 ^ 16 + d.cg.om * 2 ^ 8 + b2n d.alarmOn * 2 ^ 7 + b2n (d.rget R.RL_FAULT != 0) * 2 ^ 6
    + b2n (d.granted fn) * 2 ^ 5 + d.devState

/-- What a register shows, where it is made up on the read; the others show what they hold. -/
def Dev.regValue (d : Dev) (id : RegId) (ix : List Nat) : Nat × Dev :=
  let n := ix.getD 0 0
  let v := d.rget (regOf id ix)
  match id with
  | .TB_NOW_LO => (time96 d.now % 2 ^ 64, d)
  | .TB_STAT => ((F.TB_STAT_hold_min.put v d.holdMin).toNat, d)
  | .TK_LOCK => d.tkLock n
  | .TK_RREC0 => (((d.tk.records.head?).map (·.toNat)).getD 0 % 2 ^ 64, d)
  | .TK_RREC1 => (((d.tk.records.head?).map (·.toNat)).getD 0 / 2 ^ 64, d)
  | .LD_ANQ0 => (((d.ld.anoms.head?).map (·.toNat)).getD 0 % 2 ^ 64, d)
  | .LD_ANQ1 => (((d.ld.anoms.head?).map (·.toNat)).getD 0 / 2 ^ 64, d)
  | .HO_DOMSTAT => (d.domStat (d.rd R.HO_DOMSEL F.HO_DOMSEL_domain), d)
  | .DR_CLOAD =>
    let c := ((d.gal n).cycle + 2 ^ 32 - d.dr.loadAt.get 0 (n * 8 + ix.getD 1 0) % 2 ^ 32) % 2 ^ 32
    ((F.DR_CLOAD_cycles.put v c).toNat, d)
  | .CG_GSTAT => (d.gstat n, d)
  | _ => (v.toNat, d)

/-- What a read of a register does besides clearing what it returns. -/
def Dev.regAfterRead (d : Dev) (id : RegId) (ix : List Nat) : Dev :=
  match id with
  | .TB_NOW_LO => d.rset R.TB_NOW_HI (BitVec.ofNat 64 (time96 d.now / 2 ^ 64))
  | .TK_RREC1 => { d with tk := { d.tk with records := d.tk.records.drop 1 } } |>.wr R.TK_RSTAT F.TK_RSTAT_depth (d.tk.records.length - 1)
  | .LD_ANQ1 => { d with ld := { d.ld with anoms := d.ld.anoms.drop 1 } } |>.wr R.LD_ANSTAT F.LD_ANSTAT_depth (d.ld.anoms.length - 1)
  | .DR_GSTAT => d.wr (R.DR_GSTAT (ix.getD 0 0)) F.DR_GSTAT_dly_max (d.dr.delays.get [] (ix.getD 0 0)).length
  | .DR_CLOAD =>
    let k := ix.getD 0 0 * 8 + ix.getD 1 0
    { d with dr := { d.dr with loadAt := d.dr.loadAt.set 0 k ((d.gal (ix.getD 0 0)).cycle) } }
  | _ => d

/-- Read a whole register (R4, R6). -/
def Dev.regRead (d : Dev) (id : RegId) (ix : List Nat) : Nat × Dev :=
  let row := regRow id
  let r := regOf id ix
  let (v, d) := if blockOf r.addr = 0x20 then d.glRead id ix 0 64
    else
      let (v, d) := d.regValue id ix
      ((row.shown (BitVec.ofNat 64 v)).toNat, (d.rset r (row.afterRead (d.rget r) 0 64)).regAfterRead id ix)
  (v, d)

/-- One read of `size` bytes at address `a`; the answer goes to the requester. -/
def Dev.busRead (d : Dev) (src : Src) (a size : Nat) : Dev :=
  let answer (v : Nat) (d : Dev) : Dev := d.out (.data (srcCode src) (BitVec.ofNat 64 (v % 2 ^ (8 * size))))
  match d.path src a with
  | .none =>
    match src with
    | .host fn _ => d.out (.completion fn 0)
    | .tap => answer 0 d
    | _ => d
  | _ =>
    match areaOf a with
    | some ar =>
      if !d.reachable a then answer 0 (d.busErr src a F.SY_BUSERR_fenced)
      else if !areaWidth ar a size then answer 0 (d.busErr src a F.SY_BUSERR_width)
      else
        match ar with
        | .zero => answer 0 d
        | .doors _ => let (v, d) := d.fresh 64; answer v d
        | _ =>
          let d := d.wakeIsles a
          if d.areaBad a size ar then
            -- a gallery memory word that no ECC can correct (R151): counted, and its value is open
            let (v, d) := (d.inc (R.GL_ECC ((a - 0x2000000) / 0x80000)) F.GL_ECC_uncorr).fresh 64
            answer v d
          else answer (d.load (d.areaMem a ar) size) d
    | none =>
      match inReg a with
      | none => answer 0 (d.busErr src a F.SY_BUSERR_unmapped)
      | some ((id, ix), off) =>
        if !d.reachable a then answer 0 (d.busErr src a F.SY_BUSERR_fenced)
        else if regAccess id off size then
          let (v, d) := (d.wakeIsles a).regRead id ix
          answer v d
        else answer 0 (d.busErr src a F.SY_BUSERR_width)

end Sys2Proof.Machine
end

