-- ==== Sys2Proof/Machine/Tap.lean ====
section
/-!
DEFINITION. The TAP, boundary scan and the debug lock (R498 to R500).
-/

namespace Sys2Proof.Machine

def Dev.modDb (d : Dev) (f : Debug → Debug) : Dev := { d with db := f d.db }

/-! ## The lock (R498, R499) -/

/-- A nonce of 32 bytes is issued; it replaces the one that stands. -/
def Dev.challenge (d : Dev) : Nat × Dev :=
  let (n, d) := d.fresh 256
  (n, (d.modDb (fun x => { x with nonce := some (n, d.now) })).wr R.DB_STAT F.DB_STAT_nonce 1)

/-- The standing nonce ends. -/
def Dev.nonceEnd (d : Dev) : Dev := (d.modDb (fun x => { x with nonce := none })).wr R.DB_STAT F.DB_STAT_nonce 0

/-- A nonce stands: it is no older than 60 s. -/
def Dev.nonceStands (d : Dev) : Bool := d.db.nonce.any (fun e => decide (d.now < e.2 + 60 * unitsPerSec))

/-- After 8 failures every attempt is refused until the next cold reset. -/
def Dev.unlockBarred (d : Dev) : Bool := 8 ≤ d.rd R.DB_STAT F.DB_STAT_fail_cnt

/-- An unlock attempt whose r and s verify, or not, over the standing nonce and the serial: it ends the nonce. The answer says
whether debug is unlocked by it. -/
def Dev.unlockTry (d : Dev) (verifies : Bool) : Bool × Dev :=
  let ok := verifies && d.nonceStands
  let barred := d.unlockBarred
  let d := d.nonceEnd
  if barred then (false, d)
  else if ok then (true, (d.wr R.DB_STAT F.DB_STAT_unlocked 1).tally 0x1201 0 [1])
  else (false, d.wr R.DB_STAT F.DB_STAT_fail_cnt (d.rd R.DB_STAT F.DB_STAT_fail_cnt + 1))

/-- Debug is locked. -/
def Dev.lockDebug (d : Dev) : Dev := (d.wr R.DB_STAT F.DB_STAT_unlocked 0).tally 0x1201 0 [0]

/-! ## The TAP (R500) -/

/-- Bits of a number, the least significant first. -/
def bitsOut (n x : Nat) : List Bool := (List.range n).map (fun i => bitAt x i)

/-- SMB_ALERT_N, and the other outputs of J3, by the place of their pin in the boundary register: 1 WAKE_N, 2 CLKREQ_N,
3 ALARM_N, 4 FAULT_N, 5 LULL_N, 10 SMB_ALERT_N, 13 1PPS_OUT (R434). -/
def Dev.ownLevel (d : Dev) (i : Nat) : Bool :=
  let fault := d.rget R.RL_FAULT != 0 || d.pw.tripped
  match i with
  | 2 => !d.bo.vmain
  | 3 => !d.alarmOn
  | 4 => !fault
  | 5 => !(1 ≤ d.powerMode && d.powerMode ≤ 3)
  | 10 => !(d.alarmOn || fault)
  | 13 => d.tb.ppsHigh
  | _ => true

/-- The outputs whose level the model sends out, with the number it gives them. -/
def scanPins : List (Nat × Nat) := [(4, pinFaultN), (3, pinAlarmN), (13, pinPps), (5, pinLullN)]

/-- The instruction register changes: EXTEST ends, and the device's own values return. -/
def Dev.setIr (d : Dev) (ir : Nat) : Dev :=
  let was := d.db.extest
  let d := d.modDb (fun x => { x with ir := ir, extest := false })
  if was then scanPins.foldl (fun d e => d.out (.pin e.2 (d.ownLevel e.1))) d else d

/-- The 1-bit bypass register: a zero first, then what was shifted in, one bit late. -/
def Dev.bypassShift (d : Dev) (tdi : List Bool) : Dev := d.out (.tdo ((false :: tdi).take tdi.length))

/-- BYPASS tdi (R500). -/
def execBypass (tdi : List Bool) (s : State) : Outc := s.go (fun d => (d.setIr 0xFF).bypassShift tdi)

/-- IDCODE (R500): 0x1321_656B, least significant bit first. -/
def execIdcode (s : State) : Outc := s.go (fun d => (d.setIr 1).out (.tdo (bitsOut 32 0x1321656B)))

/-- SAMPLE_PRELOAD pins load (R500): the pins as they stand are shifted out, `pins` holding the levels of the inputs, and
`load` is shifted in. -/
def execSamplePreload (pins load : BitVec 14) (s : State) : Outc := s.go (fun d =>
  let level (i : Nat) : Bool := if [2, 3, 4, 5, 10, 13].contains i then d.ownLevel i else bitAt pins.toNat i
  let seen := (List.range 14).map level
  ((d.setIr 2).modDb (fun x => { x with boundary := load })).out (.tdo seen))

/-- EXTEST load (R500): while debug is unlocked the outputs of J3 follow the boundary register, as preloaded and then as
shifted in; while it is locked EXTEST acts as BYPASS. -/
def execExtest (load : BitVec 14) (s : State) : Outc := s.go (fun d =>
  if !d.on R.DB_STAT F.DB_STAT_unlocked then (d.setIr 0xFF).bypassShift (bitsOut 14 load.toNat)
  else
    let d := d.modDb (fun x => { x with ir := 0, extest := false })
    let old := d.db.boundary
    let drive (d : Dev) (v : BitVec 14) : Dev := scanPins.foldl (fun d e => d.out (.pin e.2 (bitAt v.toNat e.1))) d
    let d := (drive (drive d old) load).modDb (fun x => { x with boundary := load, extest := true })
    d.out (.tdo ((List.range 14).map (fun i => bitAt old.toNat i))))

/-- CHALLENGE (R498): the 32-byte nonce and then the 8-byte serial, least significant bit first. -/
def execChallenge (s : State) : Outc := s.go (fun d =>
  let (n, d) := (d.setIr 0x10).challenge
  d.out (.tdo (bitsOut 256 n ++ bitsOut 64 Config.serial.toNat)))

/-- UNLOCK verifies (R498): the signature shifted in verifies, or not; the security island checks it in hardware. -/
def execUnlock (verifies : Bool) (s : State) : Outc := s.go (fun d => ((d.setIr 0x11).unlockTry verifies).2)

/-- LOCK (R498). -/
def execLock (s : State) : Outc := s.go (fun d => (d.setIr 0x12).lockDebug)

/-- DBACC write off data (R499, R500): needs the unlock and reaches the DB range only. Elsewhere, and while debug is locked, a
read shifts out zero and a write is discarded; a write of a DB register while locked is counted. -/
def execDbacc (write : Bool) (off : Fin 67108864) (data : Word32) (s : State) : Outc := s.go (fun d =>
  let d := d.setIr 0x20
  if write then
    if !d.on R.DB_STAT F.DB_STAT_unlocked && blockOf off = 0x13 then d.inc R.DB_STAT F.DB_STAT_ref_cnt
    else d.busWrite .tap off 4 (BitVec.ofNat 64 data.toNat) false
  else d.busRead .tap off 4)

/-- NONCE_EXPIRY (R498): a nonce older than 60 s ends. -/
def execNonceExpiry (s : State) : Outc := s.go (fun d => if d.nonceStands then d else d.nonceEnd)

/-- TEST_LOGIC_RESET (R500): IDCODE stands in the instruction register, and an EXTEST ends. -/
def execTestLogicReset (s : State) : Outc := s.go (fun d => d.setIr 1)

end Sys2Proof.Machine
end

