-- ==== Sys2Proof/Machine/CageOps.lean ====
section
/-!
DEFINITION. The Cage protocol as operations: the accumulators, the parts a command's body and reply are made of, the checks
of a request, and its reply (R361 to R370).
-/

namespace Sys2Proof.Machine

def Dev.modCg (d : Dev) (f : Cage → Cage) : Dev := { d with cg := f d.cg }

/-! ## Accumulators (R368) -/

/-- The RC counters of a register, from high bits to low: those of XC_ROWREF are its eight classes. -/
def rcFlds (id : RegId) : List Fld :=
  match id with
  | .XC_ROWREF => [⟨56, 8, .rc, true⟩, ⟨48, 8, .rc, true⟩, ⟨40, 8, .rc, true⟩, ⟨32, 8, .rc, true⟩, ⟨24, 8, .rc, true⟩,
      ⟨16, 8, .rc, true⟩, ⟨8, 8, .rc, true⟩, ⟨0, 8, .rc, true⟩]
  | _ => (regRow id).flds.filter (fun f => f.acc == .rc)

/-- Key of the accumulator of a field. -/
def accKey (r : Reg) (f : Fld) : Nat := r.addr * 64 + f.lo

/-- Add one found value to an accumulator; bit 63 says that the register was found saturated. -/
def accAdd (f : Fld) (x v : Nat) : Nat :=
  let sum := (x + v) % 2 ^ 63
  if 2 ^ 63 ≤ x || (f.sat && v == f.max && v != 0) then sum + 2 ^ 63 else sum

/-- The Overman reads a register and adds its RC counters into their accumulators. The answer is the register's image with
those fields and its marks given as zero. -/
def Dev.pollReg (d : Dev) (id : RegId) (ix : List Nat) : Word64 × Dev :=
  let (v, d) := d.regRead id ix
  let w := BitVec.ofNat 64 v
  let d := (rcFlds id).foldl (fun (d : Dev) f =>
    let x := f.get w
    if x = 0 then d else d.modCg (fun c => { c with acc := c.acc.upd 0 (accKey (regOf id ix) f) (accAdd f · x) })) d
  ((regRow id).flds.foldl (fun (e : Word64) f =>
    match f.acc with
    | .rc | .mark _ _ => f.put e 0
    | _ => e) w, d)

/-- What a function is told of an accumulator: the increase since its baseline, which clr moves to the present value. -/
def Dev.sinceBase (d : Dev) (fn : Nat) (clr : Bool) (key now : Nat) : Nat × Dev :=
  let k := fn * 2 ^ 40 + key
  ((now + 2 ^ 64 - d.cg.base.get 0 k) % 2 ^ 64,
    if clr then d.modCg (fun c => { c with base := c.base.set 0 k now }) else d)

/-! ## Bodies (R370) -/

/-- S(X), C(X) or a plain 8-byte word of a reply. -/
inductive Part
  | s (id : RegId) (ix : List Nat)
  | c (id : RegId) (ix : List Nat)
  | w (v : Nat)

/-- Append a part to a reply's words. -/
def Dev.partAdd (fn : Nat) (clr : Bool) (acc : List Nat × Dev) (p : Part) : List Nat × Dev :=
  match p with
  | .w v => (acc.1 ++ [v], acc.2)
  | .s id ix =>
    let (v, d) := acc.2.pollReg id ix
    (acc.1 ++ [v.toNat], d)
  | .c id ix =>
    let (_, d) := acc.2.pollReg id ix
    (rcFlds id).foldl (fun (a : List Nat × Dev) f =>
      let (v, d) := a.2.sinceBase fn clr (accKey (regOf id ix) f) (a.2.cg.acc.get 0 (accKey (regOf id ix) f))
      (a.1 ++ [v], d)) (acc.1, d)

/-- The bytes of a reply made of parts. -/
def Dev.parts (d : Dev) (fn : Nat) (clr : Bool) (ps : List Part) : List Byte × Dev :=
  let (ws, d) := ps.foldl (Dev.partAdd fn clr) ([], d)
  (ws.flatMap (leBytes 8), d)

/-- Registers that parts touch. -/
def partRegs (ps : List Part) : List Nat :=
  ps.filterMap (fun p => match p with | .s id ix => some (regOf id ix).addr | .c id ix => some (regOf id ix).addr | .w _ => none)

/-- A command as the Overman has it: the sender, the body, and what the outside decides: whether a signature or a return's
self-test passes, the contents of an image, and a Lode record with an uncorrectable word. -/
structure CmdIn where
  fn : Nat
  body : List Byte
  ok : Bool := true
  img : Option (List Byte) := none
  bad : Option (Nat × Bool) := none

/-- `n` bytes of the body from offset `o`, as a number. -/
def CmdIn.u (i : CmdIn) (n o : Nat) : Nat := leNat ((i.body.drop o).take n)
def CmdIn.bytes (i : CmdIn) (n o : Nat) : List Byte := fit n (i.body.drop o)
def CmdIn.w64 (i : CmdIn) (o : Nat) : Word64 := BitVec.ofNat 64 (i.u 8 o)
/-- The unit of U and Uc, and clr of Uc. -/
def CmdIn.unit (i : CmdIn) : Nat := i.u 4 0
def CmdIn.clr (i : CmdIn) : Bool := i.u 1 4 % 2 == 1

/-- A field out of range, by the body word that holds it. -/
abbrev BadArg := Bool × Nat

/-- U: a unit below `n`, bytes 4 to 7 zero. -/
def CmdIn.badU (i : CmdIn) (n : Nat) : List BadArg := [(decide (n ≤ i.unit) || i.u 4 4 != 0, 0)]
/-- Uc: as U, with bit 0 of byte 4 as clr. -/
def CmdIn.badUc (i : CmdIn) (n : Nat) : List BadArg := [(decide (n ≤ i.unit) || decide (1 < i.u 4 4), 0)]
/-- I(X) at offset `o`: the upper half of a 32-bit image is zero. -/
def CmdIn.badI (i : CmdIn) (id : RegId) (o : Nat) : List BadArg := [(!(regRow id).wide && i.u 4 (o + 4) != 0, o / 8)]

/-- The answer to a command: status, detail and body; `none` where the command has not completed yet. -/
structure Ans where
  status : Nat
  detail : Nat
  body : List Byte

def ansOk (body : List Byte := []) : Option Ans := some ⟨0, 0, body⟩
def ansErr (status : Nat) (detail : Nat := 0xFF) : Option Ans := some ⟨status, detail, []⟩

/-- A command that always answers: the bytes of its result. -/
def answered (x : List Byte × Dev) : Option Ans × Dev := (ansOk x.1, x.2)

/-- A command whose effect is taken, or refused with a status. -/
def takenOr (w : Nat) (x : Bool × Dev) : Option Ans × Dev := (if x.1 then ansOk else ansErr w, x.2)

/-- A command whose effect is taken and answered with bytes, or refused with a status. -/
def takenThen (w : Nat) (x : Bool × Dev) (f : Dev → List Byte × Dev) : Option Ans × Dev :=
  if x.1 then answered (f x.2) else (ansErr w, x.2)

/-- Levels of R370. -/
inductive Level
  | free | r | b | q | e
  deriving DecidableEq, Repr

/-- A command of R371 to R375: its level, whether only the PF may issue it, the end of the last field of its body, the fields
out of range, the registers it touches, and its effect with its reply. -/
structure Cmd where
  lvl : Level
  pf : Bool := false
  len : CmdIn → Nat
  bad : CmdIn → Dev → List BadArg := fun _ _ => []
  regs : CmdIn → List Nat := fun _ => []
  run : CmdIn → Dev → Option Ans × Dev

/-- A command that only reads parts. -/
def readCmd (lvl : Level) (len : Nat) (bad : CmdIn → List BadArg) (ps : CmdIn → List Part) (clr : Bool) : Cmd where
  lvl := lvl
  len := fun _ => len
  bad := fun i _ => bad i
  regs := fun i => partRegs (ps i)
  run := fun i d => answered (d.parts i.fn (clr && i.clr) (ps i))

/-! ## Writing registers -/

/-- The value an image writes: RO, RC, WO and reserved fields are ignored. `start` takes the fields of type XP, WO. -/
def imageOf (id : RegId) (old img : Word64) (start : Bool := false) : Word64 :=
  (regRow id).flds.foldl (fun (e : Word64) f =>
    match f.acc with
    | .rw | .xp | .rw1c | .rwp => f.put e (f.get img)
    | .xpwo => if start then f.put e (f.get img) else e
    | .wo => e
    | _ => f.put e (f.get old)) 0

/-- The firmware writes a register under its own rules: false, the register refused it. -/
def Dev.fwWrite (d : Dev) (id : RegId) (ix : List Nat) (v : Word64) : Bool × Dev :=
  let old := d.rget (regOf id ix)
  let no := d.regRefuses id (ix.getD 0 0) ((regRow id).effective old v true)
  (!no, d.regWrite .overman id ix v true)

/-- Write an image. -/
def Dev.putImg (d : Dev) (id : RegId) (ix : List Nat) (img : Word64) (start : Bool := false) : Bool × Dev :=
  d.fwWrite id ix (imageOf id (d.rget (regOf id ix)) img start)

/-- Write images in order until one is refused. -/
def Dev.putImgs (d : Dev) : List (RegId × List Nat × Word64) → Bool × Dev
  | [] => (true, d)
  | (id, ix, v) :: r =>
    let x := d.putImg id ix v
    if x.1 then x.2.putImgs r else x

/-- RW1C fields are given as zero where the firmware writes back what it has read. -/
def keepImage (id : RegId) (v : Word64) : Word64 :=
  (regRow id).flds.foldl (fun (e : Word64) f =>
    match f.acc with
    | .rw1c => f.put e 0
    | _ => e) v

/-- Write fields of a register, the others kept. -/
def Dev.fwSet (d : Dev) (id : RegId) (ix : List Nat) (fs : List (Fld × Nat)) : Bool × Dev :=
  let old := d.rget (regOf id ix)
  d.fwWrite id ix (fs.foldl (fun (v : Word64) e => e.1.put v e.2) (keepImage id (imageOf id old old)))

/-- A command that writes images and answers with parts; a refusal gives `status`. -/
def writeCmd (lvl : Level) (pf : Bool) (len : Nat) (bad : CmdIn → List BadArg) (ims : CmdIn → List (RegId × List Nat × Word64))
    (ps : CmdIn → List Part) (status : Nat := 8) : Cmd where
  lvl := lvl
  pf := pf
  len := fun _ => len
  bad := fun i _ => bad i
  regs := fun i => (ims i).map (fun e => (regOf e.1 e.2.1).addr) ++ partRegs (ps i)
  run := fun i d => takenThen status (d.putImgs (ims i)) (fun d => d.parts i.fn false (ps i))

/-! ## Requests and replies (R361 to R363, R366) -/

/-- The header of a request. -/
structure Hdr where
  low : Nat
  high : Nat

def Hdr.code (h : Hdr) : Nat := h.low % 2 ^ 16
def Hdr.tag (h : Hdr) : Nat := bitsOf h.low 16 8
def Hdr.length (h : Hdr) : Nat := bitsOf h.low 32 16
/-- The complement fits, and reply, the reserved bits, status and detail are zero. -/
def Hdr.good (h : Hdr) : Bool := h.low + h.high == 2 ^ 64 - 1 && bitsOf h.low 24 8 == 0 && bitsOf h.low 48 16 == 0

def Dev.reqHdr (d : Dev) (fn : Nat) : Hdr := ⟨d.load (cageBase fn + 0x100) 8, d.load (cageBase fn + 0x108) 8⟩
def Dev.reqBody (d : Dev) (fn n : Nat) : List Byte := d.bytes (cageBase fn + 0x110) n

/-- The function has the right that a level asks for (R366). -/
def Dev.hasRight (d : Dev) (fn : Nat) (l : Level) : Bool :=
  let r := R.CG_RIGHTS fn
  fn == 0 ||
    match l with
    | .free | .e => true
    | .r => d.on r F.CG_RIGHTS_read
    | .b => d.on r F.CG_RIGHTS_change
    | .q => d.on r F.CG_RIGHTS_queue

/-- The checks of R363 up to the length of the body: the status of the first that fails. -/
def Dev.reqStatus (d : Dev) (fn : Nat) (h : Hdr) (c : Option Cmd) (i : CmdIn) : Option Nat :=
  if !h.good then some 2
  else if 2032 < h.length then some 3
  else
    match c with
    | none => some 1
    | some c =>
      if c.pf && fn != 0 then some 6
      else if !d.hasRight fn c.lvl then some 0x10
      else if c.lvl = .e && !d.granted fn then some 5
      else if h.length < c.len i || (c.len i + 7) / 8 * 8 < h.length then some 3
      else none

/-- The word of the first field out of range. -/
def firstBad (l : List BadArg) : Option Nat := (l.find? (·.1)).map (·.2)

/-- Run a command whose checks up to the length passed: the ranges, the blocks it needs, then its effect. -/
def Dev.runCmd (d : Dev) (c : Cmd) (i : CmdIn) : Option Ans × Dev :=
  match firstBad (c.bad i d) with
  | some w => (ansErr 4 w, d)
  | none =>
    if (c.regs i).any (fun a => !d.reachable a) then (ansErr (if d.powerMode = 0 then 0x0E else 0x0F), d)
    else c.run i d

/-- Write the reply, then clear busy and set done in one write, then send MSI-X entry 1 (R362). -/
def Dev.reply (d : Dev) (fn : Nat) (h : Hdr) (a : Ans) : Dev :=
  let bs := a.body.take 1264
  let low := h.low % 2 ^ 24 + 2 ^ 24 + bs.length * 2 ^ 32 + a.status % 256 * 2 ^ 48 + a.detail % 256 * 2 ^ 56
  let d := (d.put (cageBase fn + 0x910) bs).put (cageBase fn + 0x900) (leBytes 8 low ++ leBytes 8 (2 ^ 64 - 1 - low))
  let r := R.CG_STAT fn
  ({ (d.wr r F.CG_STAT_busy 0).wr r F.CG_STAT_done 1 with cg := { d.cg with turn := fn } } : Dev).msix fn 1

/-- The Overman takes requests: it is in charge, and the device is READY or in LULL. -/
def Dev.taking (d : Dev) : Bool := d.devState == 1 || d.devState == 2

/-- A function has a request that waits for its reply. -/
def Dev.asking (d : Dev) (fn : Nat) : Bool := d.on (R.CG_STAT fn) F.CG_STAT_busy && !d.cg.lost.contains fn

/-- A function's request is the next that the Overman takes: the Cages are served in rotation (R364). -/
def Dev.waiting (d : Dev) (fn : Nat) : Bool :=
  d.taking && d.asking fn && ((List.range 64).map (fun i => (d.cg.turn + 1 + i) % 64)).find? d.asking == some fn

/-- The Overman runs the command `c` of code `code` that a function's request area holds (R362, R363). Nothing happens where
the area holds another command or one that a check refuses, which is BAD_REQUEST's. -/
def Dev.cageRun (d : Dev) (fn code : Nat) (c : Cmd) (i : CmdIn) : Dev :=
  let h := d.reqHdr fn
  let i := { i with fn := fn, body := d.reqBody fn (h.length.min 2032) }
  if !d.waiting fn || h.code ≠ code || (d.reqStatus fn h (some c) i).isSome then d
  else
    let x := d.runCmd c i
    match x.1 with
    | some a => x.2.reply fn h a
    | none => x.2

end Sys2Proof.Machine
end

