-- ==== Sys2Proof/Machine/CageDev.lean ====
section
/-!
DEFINITION. The device-wide commands (R375, with R391, R412, R475 to R477, R484, R489, R498).
-/

namespace Sys2Proof.Machine

/-! ## Seam and relief -/

def seamParts (d : Dev) : List Part :=
  (List.range 5).flatMap (fun c =>
    let r := R.SM_CHSTAT c
    [.w (d.smState c + d.rd r F.SM_CHSTAT_temp_c * 2 ^ 8 + d.rd r F.SM_CHSTAT_dbl * 2 ^ 16), .c .SM_CHSTAT [c]])

def cmdSeamStatus : Cmd where
  lvl := .r
  len := fun _ => 8
  bad := fun i _ => i.badUc 1
  regs := fun _ => [R.SM_CFG.addr]
  run := fun i d => answered (d.parts i.fn i.clr (seamParts d))

/-- SEAM_STATUS (R375). -/
def execSeamStatus (fn : Fin 64) (s : State) : Outc := s.go (fun d => d.cageRun fn 0x0F01 cmdSeamStatus ⟨fn, [], true, none, none⟩)

def cmdSeamSpare : Cmd where
  lvl := .e
  len := fun _ => 1
  bad := fun i _ => [(decide (3 < i.u 1 0), 0)]
  regs := fun _ => [R.SM_CFG.addr]
  run := fun i d => takenOr 0x0B (d.fwSet .SM_SPARE [] [(F.SM_SPARE_src, i.u 1 0), (F.SM_SPARE_start, 1)])

/-- SEAM_SPARE (R391): the copy starts. -/
def execSeamSpare (fn : Fin 64) (s : State) : Outc := s.go (fun d => d.cageRun fn 0x0F02 cmdSeamSpare ⟨fn, [], true, none, none⟩)

/-- The logical channel that the physical channel 4 serves, 0xFF none. -/
def Dev.onSpare (d : Dev) : Nat := ((List.range 4).find? (fun l => d.smPhys l == 4)).getD 0xFF

/-- Phases shed on every rail. -/
def Dev.phasesLost (d : Dev) : Nat :=
  ([F.RL_PHASE_vcg, F.RL_PHASE_vcf, F.RL_PHASE_vsr, F.RL_PHASE_vdq, F.RL_PHASE_vsd, F.RL_PHASE_vsv].map (d.rd R.RL_PHASE)).sum

def cmdReliefStatus : Cmd where
  lvl := .r
  len := fun _ => 0
  run := fun _ d =>
    (ansOk (leBytes 4 (d.rd R.RL_GALSTAT F.RL_GALSTAT_active) ++ leBytes 4 (d.rd R.RL_GALSTAT F.RL_GALSTAT_relief)
      ++ leBytes 4 (d.rd R.RL_FENCE F.RL_FENCE_gallery) ++ leBytes 1 (b2n (!d.planeFenced 0) + 2 * b2n (!d.planeFenced 1))
      ++ leBytes 1 d.cg.om ++ leBytes 2 d.onSpare ++ leBytes 4 d.phasesLost ++ leBytes 4 d.rl.takeovers), d)

/-- RELIEF_STATUS (R375). -/
def execReliefStatus (fn : Fin 64) (s : State) : Outc := s.go (fun d => d.cageRun fn 0x0F11 cmdReliefStatus ⟨fn, [], true, none, none⟩)

def cmdReliefForce : Cmd where
  lvl := .e
  len := fun _ => 3
  bad := fun i _ => [(decide (3 < i.u 1 0) || decide (1 < i.u 1 2)
    || decide ((match i.u 1 0 with | 0 => 26 | 1 => 2 | 2 => 5 | _ => 1) ≤ i.u 1 1), 0)]
  regs := fun _ => [R.RL_CTL.addr]
  run := fun i d => takenOr 0x0B (d.force (i.u 1 0) (i.u 1 2 == 1) (i.u 1 1) i.ok 0)

/-- RELIEF_FORCE (R412): `ok` is the outcome of the self-test that a return runs. -/
def execReliefForce (fn : Fin 64) (ok : Bool) (s : State) : Outc := s.go (fun d => d.cageRun fn 0x0F12 cmdReliefForce ⟨fn, [], ok, none, none⟩)

/-! ## Power, policies and the ledger -/

def cmdPowerStatus : Cmd where
  lvl := .r
  len := fun _ => 0
  run := fun _ d =>
    let v : Word64 := BitVec.ofNat 64 (leNat (d.bg.snapshot.take 8))
    let t : Word64 := BitVec.ofNat 64 (leNat ((d.bg.snapshot.drop 8).take 4))
    let on := (List.range 50).foldl (fun a k => if d.domSt k = 2 then a + 2 ^ k else a) 0
    (ansOk (leBytes 4 (F.PW_VMON_vmain_mv.get v) ++ leBytes 4 (F.PW_VMON_vkeep_mv.get v) ++ leBytes 4 (F.PW_VMON_pin_cw.get v * 10)
      ++ leBytes 2 (F.PW_THERM_tcp.get t) ++ leBytes 2 (F.PW_THERM_tj_max.get t) ++ leBytes 8 (b2n (d.powerMode == 2)) ++ leBytes 8 on), d)

/-- POWER_STATUS (R477). -/
def execPowerStatus (fn : Fin 64) (s : State) : Outc := s.go (fun d => d.cageRun fn 0x0F21 cmdPowerStatus ⟨fn, [], true, none, none⟩)

/-- The parameter of a policy is in its range (R475). -/
def Dev.policyParamOk (d : Dev) (p : Nat) (fixed : Bool) (v : Nat) : Bool :=
  match p, fixed with
  | 0, false => 90 ≤ v % 256 && v % 256 < d.rd R.PW_TLIM F.PW_TLIM_thr_c
  | 0, true => 200 ≤ v % 2048 && v % 2048 ≤ 1750
  | 1, false => 24 ≤ v % 65536 && v % 65536 ≤ 8760
  | 6, true => v % 256 ≤ 60
  | _, _ => true

/-- A policy comes into its mode with its parameter; the values of a fixed mode take effect at once (R475, R476). -/
def Dev.policySet (d : Dev) (p : Nat) (fixed : Bool) (v : Nat) : Dev :=
  let d := d.modBg (fun b => { b with fixed := b.fixed.set false p fixed, param := b.param.set none p (some v) })
  match p, fixed with
  | 0, true => (List.range 26).foldl (fun d g => d.freqPolicy g (v % 2048)) d
  | 4, true =>
    let last := d.bg.dblSet.getD (F.SM_CFG_dbl_c.get R.SM_CFG.reset)
    if d.rd R.SM_CFG F.SM_CFG_dbl_c = last then d else (d.wr R.SM_CFG F.SM_CFG_dbl_c last).policyChange 4 last 0
  | 5, true => (List.range 4).foldl (fun (d : Dev) q =>
      let last := (d.bg.holdSet.get none q).getD (F.ST_MOVE_hold_ms.get (R.ST_MOVE q).reset)
      if d.rd (R.ST_MOVE q) F.ST_MOVE_hold_ms = last then d else (d.wr (R.ST_MOVE q) F.ST_MOVE_hold_ms last).policyChange 5 last q) d
  | 6, true => (List.range 100).foldl (fun d isl => if (isleRange isl).isSome then d.setMargin isl (v % 256) else d) d
  | _, _ => d

def cmdPolicySet : Cmd where
  lvl := .e
  len := fun _ => 16
  bad := fun i d => [(decide (6 < i.u 1 0) || decide (1 < i.u 1 1), 0), (!d.policyParamOk (i.u 1 0) (i.u 1 1 == 1) (i.u 8 8), 1)]
  run := fun i d => (ansOk, d.policySet (i.u 1 0) (i.u 1 1 == 1) (i.u 8 8))

/-- POLICY_SET (R476). -/
def execPolicySet (fn : Fin 64) (s : State) : Outc := s.go (fun d => d.cageRun fn 0x1001 cmdPolicySet ⟨fn, [], true, none, none⟩)

def cmdPolicyStatus : Cmd where
  lvl := .r
  len := fun _ => 1
  bad := fun i _ => [(decide (6 < i.u 1 0), 0)]
  run := fun i d =>
    let p := i.u 1 0
    (ansOk (leBytes 8 (b2n (d.policyFixed p)) ++ leBytes 8 (d.policyParam p) ++ leBytes 8 (stampOf (d.bg.stamps.get 0 p))), d)

/-- POLICY_STATUS (R375). -/
def execPolicyStatus (fn : Fin 64) (s : State) : Outc := s.go (fun d => d.cageRun fn 0x1002 cmdPolicyStatus ⟨fn, [], true, none, none⟩)

def cmdLedgerRead : Cmd where
  lvl := .r
  len := fun _ => 0
  run := fun _ d =>
    (ansOk (leBytes 8 d.bg.poweredS ++ leBytes 4 d.bg.cycles ++ (List.range 8).flatMap (fun b => leBytes 4 (d.bg.bands.get 0 b))
      ++ leBytes 4 (d.rd R.TL_WEAR F.TL_WEAR_erase_max) ++ leBytes 4 d.bg.rotations ++ leBytes 4 (d.rd R.BG_AGE F.BG_AGE_margin_mv)
      ++ leBytes 8 d.bg.calSec), d)

/-- LEDGER_READ (R375). -/
def execLedgerRead (fn : Fin 64) (s : State) : Outc := s.go (fun d => d.cageRun fn 0x1003 cmdLedgerRead ⟨fn, [], true, none, none⟩)

/-! ## Calibration (R482, R484, R485) -/

/-- The value copy and the complement copy in NOR. -/
def calValue : Nat := norAddr 2 0
def calComp : Nat := norAddr 2 0x2000

/-- A calibration set passes the checks of a commit. -/
def calGood (bs : List Byte) : Bool :=
  leNat (bs.take 4) == 0x3216CA1B && leNat ((bs.drop 4).take 2) == 1 && leNat ((bs.drop 6).take 2) == 0x2000
    && leNat ((bs.drop 8188).take 4) == crc32c (bs.take 8188)

def cmdCalibRead : Cmd where
  lvl := .r
  len := fun _ => 6
  bad := fun i _ => [(i.u 2 4 == 0 || decide (1264 < i.u 2 4) || decide (8192 < i.u 4 0 + i.u 2 4), 0)]
  run := fun i d => (ansOk (d.bytes (calValue + i.u 4 0) (i.u 2 4)), d)

/-- CALIB_READ (R375). -/
def execCalibRead (fn : Fin 64) (s : State) : Outc := s.go (fun d => d.cageRun fn 0x1004 cmdCalibRead ⟨fn, [], true, none, none⟩)

/-- Stage bytes of a calibration set. -/
def Dev.calStage (d : Dev) (o : Nat) : List Byte → Dev
  | [] => d
  | b :: r => (d.modBg (fun x => { x with staged := x.staged.set 0 o b })).calStage (o + 1) r

/-- Program both copies and load the working copy; one record (R484, R485). -/
def Dev.calCommit (d : Dev) (bs : List Byte) : Dev :=
  let d := ((d.put calValue bs).put calComp (bs.map (fun b => ~~~ b))).put (calAddr 0) bs
  (d.modBg (fun b => { b with calWrites := b.calWrites + 1 })).tally 0x1004 0

def cmdCalibWrite : Cmd where
  lvl := .e
  pf := true
  len := fun i => 8 + i.u 2 4
  bad := fun i _ => [(i.u 2 4 == 0 || decide (2000 < i.u 2 4) || decide (8192 < i.u 4 0 + i.u 2 4) || decide (1 < i.u 1 6), 0)]
  run := fun i d =>
    let d := d.calStage (i.u 4 0) (i.bytes (i.u 2 4) 8)
    if i.u 1 6 = 0 then (ansOk, d)
    else
      let bs := (List.range 8192).map (fun o => d.bg.staged.get 0 o)
      if calGood bs then (ansOk, d.calCommit bs) else (ansErr 0x0D, d)

/-- CALIB_WRITE (R484). -/
def execCalibWrite (fn : Fin 64) (s : State) : Outc := s.go (fun d => d.cageRun fn 0x1005 cmdCalibWrite ⟨fn, [], true, none, none⟩)

/-! ## Tally -/

/-- Up to `n` records from an index on. -/
def Dev.tallyRun (d : Dev) (area idx : Nat) : Nat → List (BitVec 512)
  | 0 => []
  | n + 1 =>
    match d.tallyAt area idx with
    | none => []
    | some r => r :: d.tallyRun area (idx + 1) n

def cmdTallyRead : Cmd where
  lvl := .r
  len := fun _ => 9
  bad := fun i _ => [(decide (1 < i.u 1 0), 0), (i.u 1 8 == 0 || decide (19 < i.u 1 8), 1)]
  run := fun i d =>
    match d.tallyRun (i.u 1 0) (i.u 4 4) (i.u 1 8) with
    | [] => (ansErr 9, d)
    | rs => (ansOk (leBytes 8 rs.length ++ rs.flatMap (fun r => leBytes 64 r.toNat)), d)

/-- TALLY_READ (R375). -/
def execTallyRead (fn : Fin 64) (s : State) : Outc := s.go (fun d => d.cageRun fn 0x1101 cmdTallyRead ⟨fn, [], true, none, none⟩)

def cmdTallyStatus : Cmd where
  lvl := .r
  len := fun _ => 0
  run := fun _ d =>
    let (_, d) := d.pollReg .TL_LOST []
    (ansOk (leBytes 4 (d.rd R.TL_STAT F.TL_STAT_first_cnt) ++ leBytes 4 (d.rd R.TL_STAT F.TL_STAT_next_idx)
      ++ leBytes 8 (d.cg.acc.get 0 (accKey R.TL_LOST F.TL_LOST_suppressed)) ++ leBytes 4 (d.rd R.TL_STAT F.TL_STAT_bad_blk)), d)

/-- TALLY_STATUS (R375). -/
def execTallyStatus (fn : Fin 64) (s : State) : Outc := s.go (fun d => d.cageRun fn 0x1102 cmdTallyStatus ⟨fn, [], true, none, none⟩)

def cmdTallyLimit : Cmd where
  lvl := .e
  len := fun _ => 6
  bad := fun i _ => [(decide (4864 ≤ i.u 2 0), 0)]
  run := fun i d => takenOr 8 (d.fwSet .TL_LIM [i.u 2 0] [(F.TL_LIM_rate, i.u 2 2), (F.TL_LIM_burst, i.u 2 4)])

/-- TALLY_LIMIT (R489): a protected code's entry is refused. -/
def execTallyLimit (fn : Fin 64) (s : State) : Outc := s.go (fun d => d.cageRun fn 0x1103 cmdTallyLimit ⟨fn, [], true, none, none⟩)

/-! ## Debug (R498) -/

def cmdDebugChallenge : Cmd where
  lvl := .b
  pf := true
  len := fun _ => 0
  run := fun _ d =>
    let (n, d) := d.challenge
    (ansOk (leBytes 32 n ++ leBytes 8 Config.serial.toNat), d)

/-- DEBUG_CHALLENGE (R498). -/
def execDebugChallenge (fn : Fin 64) (s : State) : Outc := s.go (fun d => d.cageRun fn 0x1201 cmdDebugChallenge ⟨fn, [], true, none, none⟩)

def cmdDebugUnlock : Cmd where
  lvl := .b
  pf := true
  len := fun _ => 96
  run := fun i d =>
    if !d.nonceStands then (ansErr 9, d)
    else takenOr 0x0D (d.unlockTry i.ok)

/-- DEBUG_UNLOCK (R498): `ok` says that r and s verify over the nonce and the serial. -/
def execDebugUnlock (fn : Fin 64) (ok : Bool) (s : State) : Outc := s.go (fun d => d.cageRun fn 0x1202 cmdDebugUnlock ⟨fn, [], ok, none, none⟩)

def cmdDebugLock : Cmd where
  lvl := .b
  pf := true
  len := fun _ => 0
  run := fun _ d => (ansOk, d.lockDebug)

/-- DEBUG_LOCK (R498). -/
def execDebugLock (fn : Fin 64) (s : State) : Outc := s.go (fun d => d.cageRun fn 0x1203 cmdDebugLock ⟨fn, [], true, none, none⟩)

end Sys2Proof.Machine
end

