-- ==== Sys2Proof/Machine/CageGal.lean ====
section
/-!
DEFINITION. The commands of Draught, the galleries, the coprocessors and the phasor engine (R373, with R128, R132, R133, R144, R145,
R149, R158, R168, R208, R210, R215, R226).
-/

namespace Sys2Proof.Machine

/-! ## Draught -/

def cmdTemplateLoad : Cmd where
  lvl := .b
  len := fun _ => 264
  bad := fun i _ => i.badU 256
  regs := fun i => [(R.DR_TCTL i.unit).addr]
  run := fun i d =>
    if d.tmplOn i.unit || d.rd (R.DR_TCTL i.unit) F.DR_TCTL_live ≠ 0 then (ansErr 0x0B, d)
    else (ansOk, d.put (tmplAddr i.unit) (i.bytes 256 8))

/-- TEMPLATE_LOAD (R373). -/
def execTemplateLoad (fn : Fin 64) (s : State) : Outc := s.go (fun d => d.cageRun fn 0x0501 cmdTemplateLoad ⟨fn, [], true, none, none⟩)

def cmdTemplateEnable : Cmd where
  lvl := .b
  len := fun _ => 9
  bad := fun i _ => i.badU 256 ++ [(decide (1 < i.u 1 8), 1)]
  regs := fun i => [(R.DR_TCTL i.unit).addr]
  run := fun i d =>
    takenThen 8 (d.fwSet .DR_TCTL [i.unit] [(F.DR_TCTL_en, i.u 1 8)]) (fun d => d.parts i.fn false [.s .DR_TCTL [i.unit]])

/-- TEMPLATE_ENABLE (R128). -/
def execTemplateEnable (fn : Fin 64) (s : State) : Outc := s.go (fun d => d.cageRun fn 0x0502 cmdTemplateEnable ⟨fn, [], true, none, none⟩)

def cmdTemplateStatus : Cmd := readCmd .r 8 (·.badU 256) (fun i => [.s .DR_TCTL [i.unit]]) false

/-- TEMPLATE_STATUS (R373). -/
def execTemplateStatus (fn : Fin 64) (s : State) : Outc := s.go (fun d => d.cageRun fn 0x0503 cmdTemplateStatus ⟨fn, [], true, none, none⟩)

def cmdAffinitySet : Cmd where
  lvl := .b
  len := fun i => 8 + 4 * i.u 2 2
  bad := fun i _ => [(decide (3 < i.u 1 0) || i.u 2 2 == 0 || decide (256 < i.u 1 1 + i.u 2 2), 0)]
  regs := fun i => [(R.DR_AFF (i.u 1 0) (i.u 1 1)).addr]
  run := fun i d =>
    (ansOk, (d.putImgs ((List.range (i.u 2 2)).map (fun n => (.DR_AFF, [i.u 1 0, i.u 1 1 + n], BitVec.ofNat 64 (i.u 4 (8 + 4 * n)))))).2)

/-- AFFINITY_SET (R132). -/
def execAffinitySet (fn : Fin 64) (s : State) : Outc := s.go (fun d => d.cageRun fn 0x0504 cmdAffinitySet ⟨fn, [], true, none, none⟩)

def cmdTwinConfig : Cmd where
  lvl := .b
  len := fun _ => 112
  bad := fun i _ => [(decide (1 < i.u 1 0), 0)]
  regs := fun _ => [R.DR_CFG.addr]
  run := fun i d =>
    let d := (d.fwSet .DR_CFG [] [(F.DR_CFG_twin_en, i.u 1 0)]).2
    (ansOk, (d.putImgs ((List.range 26).map (fun g => (.DR_TWIN, [g], BitVec.ofNat 64 (i.u 4 (8 + 4 * g)))))).2)

/-- TWIN_CONFIG (R133). -/
def execTwinConfig (fn : Fin 64) (s : State) : Outc := s.go (fun d => d.cageRun fn 0x0505 cmdTwinConfig ⟨fn, [], true, none, none⟩)

def cmdSchedStats : Cmd := readCmd .r 8 (·.badUc 30) (fun i =>
  let g := i.unit
  if g < 26 then
    (List.range 8).flatMap (fun c => [.c .DR_CQ [g, c], .c .DR_CLOAD [g, c]] ++ (List.range 4).map (fun k => .c .DR_CHIST [g, c, k]))
      ++ [.c .DR_GSTAT [g]]
  else [.s .DR_PSTAT [g - 26], .c .DR_PSTAT [g - 26], .c .DR_PCNT [g - 26]]) true

/-- SCHED_STATS (R144). -/
def execSchedStats (fn : Fin 64) (s : State) : Outc := s.go (fun d => d.cageRun fn 0x0506 cmdSchedStats ⟨fn, [], true, none, none⟩)

def cmdTraceStart : Cmd where
  lvl := .b
  len := fun _ => 16
  regs := fun _ => [R.DR_TRCTL.addr]
  run := fun i d =>
    if d.on R.DR_TRCTL F.DR_TRCTL_en then (ansErr 7, d)
    else takenOr 8 (d.putImgs [(.DR_TRRING, [], i.w64 0), (.DR_TRCTL, [], F.DR_TRCTL_en.put (i.w64 8) 1)])

/-- TRACE_START (R145). -/
def execTraceStart (fn : Fin 64) (s : State) : Outc := s.go (fun d => d.cageRun fn 0x0507 cmdTraceStart ⟨fn, [], true, none, none⟩)

def cmdTraceStop : Cmd where
  lvl := .b
  len := fun _ => 8
  bad := fun i _ => i.badUc 1
  regs := fun _ => [R.DR_TRCTL.addr]
  run := fun i d =>
    let (_, d) := d.fwSet .DR_TRCTL [] [(F.DR_TRCTL_en, 0)]
    let (bs, d) := d.parts i.fn i.clr [.s .DR_TRSTAT [], .c .DR_TRSTAT []]
    (ansOk bs, d)

/-- TRACE_STOP (R145). -/
def execTraceStop (fn : Fin 64) (s : State) : Outc := s.go (fun d => d.cageRun fn 0x0508 cmdTraceStop ⟨fn, [], true, none, none⟩)

def cmdDraughtConfig : Cmd :=
  writeCmd .e false 16 (fun i => i.badI .DR_CFG 0 ++ i.badI .DR_HTO 8) (fun i => [(.DR_CFG, [], i.w64 0), (.DR_HTO, [], i.w64 8)]) (fun _ => [])

/-- DRAUGHT_CONFIG (R373). -/
def execDraughtConfig (fn : Fin 64) (s : State) : Outc := s.go (fun d => d.cageRun fn 0x0509 cmdDraughtConfig ⟨fn, [], true, none, none⟩)

/-! ## Galleries -/

def cmdGalleryLoad : Cmd where
  lvl := .b
  len := fun _ => 20
  bad := fun i _ => i.badU 26
  regs := fun i => [(R.GL_CTL i.unit).addr]
  run := fun i d =>
    if d.galActive i.unit then (ansErr 0x0B, d)
    else
      match d.smRead 0 (i.u 8 8) (i.u 4 16), i.img with
      | (.ok _, d), some bs => (ansOk, d.loadImage i.unit bs)
      | (_, d), _ => (ansErr 0x0D, d)

/-- GALLERY_LOAD (R149): `img` is what the image gives as the instruction memories, none where it fails its checks. -/
def execGalleryLoad (fn : Fin 64) (img : Option (List Byte)) (s : State) : Outc :=
  s.go (fun d => d.cageRun fn 0x0601 cmdGalleryLoad ⟨fn, [], true, img, none⟩)

def cmdGalleryStatus : Cmd := readCmd .r 8 (·.badUc 26) (fun i =>
  [.s .GL_STAT [i.unit], .c .GL_ECC [i.unit]] ++ (List.range 64).map (fun t => .s .GL_TSTAT [i.unit, t / 8, t % 8])) true

/-- GALLERY_STATUS (R373). -/
def execGalleryStatus (fn : Fin 64) (s : State) : Outc := s.go (fun d => d.cageRun fn 0x0602 cmdGalleryStatus ⟨fn, [], true, none, none⟩)

def cmdRoseSet : Cmd where
  lvl := .b
  len := fun _ => 32
  bad := fun i _ => i.badU 26 ++ [(decide (7 < i.u 1 8), 1)]
  regs := fun i => [(R.GL_CTL i.unit).addr]
  run := fun i d =>
    let g := i.unit
    let c := i.u 1 8
    if d.on (R.GL_ROSECTL g c) F.GL_ROSECTL_pending then (ansErr 7, d)
    else
      let (_, d) := d.putImgs [(.GL_ROSE0, [g, c], i.w64 16), (.GL_ROSE1, [g, c], i.w64 24)]
      let (_, d) := d.fwSet .GL_ROSECTL [g, c] [(F.GL_ROSECTL_commit, 1)]
      let (bs, d) := d.parts i.fn false [.s .GL_ROSECTL [g, c]]
      (ansOk bs, d)

/-- ROSE_SET (R158). -/
def execRoseSet (fn : Fin 64) (s : State) : Outc := s.go (fun d => d.cageRun fn 0x0603 cmdRoseSet ⟨fn, [], true, none, none⟩)

/-- The oldest records of some galleries leave a queue, at most so many: those taken, and the rest. -/
def pickFaults (p : Nat → Bool) : Nat → List (Nat × BitVec 192) → List (BitVec 192) × List (Nat × BitVec 192)
  | _, [] => ([], [])
  | n, e :: es =>
    if p e.1 && 0 < n then
      let x := pickFaults p (n - 1) es
      (e.2 :: x.1, x.2)
    else
      let x := pickFaults p n es
      (x.1, e :: x.2)

/-- Take the oldest forwarded fault records, of one gallery or of any. -/
def Dev.takeFaults (d : Dev) (n : Nat) (p : Nat → Bool) : List (BitVec 192) × Dev :=
  let x := pickFaults p n d.cg.faults
  (x.1, d.modCg (fun c => { c with faults := x.2 }))

def cmdFaultRead : Cmd where
  lvl := .r
  len := fun _ => 8
  bad := fun i _ => [((decide (26 ≤ i.unit) && i.unit != 2 ^ 32 - 1) || i.u 1 4 == 0 || decide (48 < i.u 1 4), 0)]
  run := fun i d =>
    let (rs, d) := d.takeFaults (i.u 1 4) (fun g => g == i.unit || i.unit == 2 ^ 32 - 1)
    (ansOk (leBytes 8 rs.length ++ rs.flatMap (fun r => leBytes 24 r.toNat)), d)

/-- FAULT_READ (R373). -/
def execFaultRead (fn : Fin 64) (s : State) : Outc := s.go (fun d => d.cageRun fn 0x0604 cmdFaultRead ⟨fn, [], true, none, none⟩)

def cmdGalleryReset : Cmd where
  lvl := .e
  len := fun _ => 8
  bad := fun i _ => [(decide (26 ≤ i.unit) || decide (1 < i.u 1 4), 0)]
  regs := fun i => [(R.GL_CTL i.unit).addr]
  run := fun i d =>
    (ansOk, (d.fwSet .GL_CTL [i.unit] (if i.u 1 4 = 0 then [(F.GL_CTL_gal_rst, 1)] else [(F.GL_CTL_core_rst, i.u 1 5)])).2)

/-- GALLERY_RESET (R168). -/
def execGalleryReset (fn : Fin 64) (s : State) : Outc := s.go (fun d => d.cageRun fn 0x0605 cmdGalleryReset ⟨fn, [], true, none, none⟩)

def cmdThreadReset : Cmd where
  lvl := .e
  len := fun _ => 8
  bad := fun i _ => [(decide (1664 ≤ i.unit) || decide (1 < i.u 1 4), 0)]
  regs := fun i => [(R.GL_CTL (i.unit / 64)).addr]
  run := fun i d =>
    (ansOk, (d.fwSet .GL_TCTL [i.unit / 64, i.unit / 8 % 8, i.unit % 8] [(if i.u 1 4 = 0 then F.GL_TCTL_rst else F.GL_TCTL_kill, 1)]).2)

/-- THREAD_RESET (R168). -/
def execThreadReset (fn : Fin 64) (s : State) : Outc := s.go (fun d => d.cageRun fn 0x0606 cmdThreadReset ⟨fn, [], true, none, none⟩)

/-! ## Face tiles and coprocessors -/

/-- Galleries named by a mask in bytes 0 to 3. -/
def CmdIn.gals (i : CmdIn) : List Nat := (List.range 26).filter (bitAt (i.u 4 0))
def maskOf (l : List Nat) : Nat := l.foldl (fun a g => a + 2 ^ g) 0

def cmdFaceLoad : Cmd where
  lvl := .b
  len := fun _ => 18
  bad := fun i _ => [(decide (2 ^ 26 ≤ i.u 4 0), 0), (i.u 8 8 % 64 != 0 || decide (2 ^ 37 ≤ i.u 8 8), 1), (decide (3 < i.u 1 16) || decide (1 < i.u 1 17), 2)]
  regs := fun i => i.gals.map (fun g => (R.GL_CTL g).addr)
  run := fun i d =>
    if i.gals.any d.galActive then (ansErr 0x0B, d)
    else
      let load (d : Dev) (g : Nat) : Dev :=
        let (_, d) := d.fwSet .GL_FCLOAD [g] [(F.GL_FCLOAD_addr, i.u 8 8 / 64)]
        let (_, d) := d.fwSet .GL_FCCTL [g] [(F.GL_FCCTL_face_div, i.u 1 16), (F.GL_FCCTL_auto_restart, i.u 1 17), (F.GL_FCCTL_load, 1)]
        if d.faceState g = 1 then d.faceLoadEnd g else d
      let d := i.gals.foldl load d
      if i.gals.any (fun g => d.faceState g == 0) then (ansErr 0x0D, d)
      else (ansOk (leBytes 4 (maskOf (i.gals.filter (fun g => d.faceState g == 2)))), d)

/-- FACE_LOAD (R208). -/
def execFaceLoad (fn : Fin 64) (s : State) : Outc := s.go (fun d => d.cageRun fn 0x0701 cmdFaceLoad ⟨fn, [], true, none, none⟩)

def cmdFaceRun : Cmd where
  lvl := .b
  len := fun _ => 5
  bad := fun i _ => [(decide (2 ^ 26 ≤ i.u 4 0) || decide (1 < i.u 1 4), 0)]
  regs := fun i => i.gals.map (fun g => (R.GL_CTL g).addr)
  run := fun i d =>
    if i.u 1 4 = 1 && i.gals.any (fun g => d.faceState g != 2) then (ansErr 0x0B, d)
    else
      let d := i.gals.foldl (fun d g => (d.fwSet .GL_FCCTL [g] [(F.GL_FCCTL_run, i.u 1 4)]).2) d
      (ansOk (leBytes 4 (maskOf (i.gals.filter (fun g => d.faceState g == 3)))), d)

/-- FACE_RUN (R210). -/
def execFaceRun (fn : Fin 64) (s : State) : Outc := s.go (fun d => d.cageRun fn 0x0702 cmdFaceRun ⟨fn, [], true, none, none⟩)

def cmdFaceStatus : Cmd := readCmd .r 8 (·.badUc 26)
  (fun i => [.s .GL_FCSTAT [i.unit], .c .GL_FCSTAT [i.unit], .s .GL_FCID [i.unit], .s .GL_FCINFO [i.unit]]) true

/-- FACE_STATUS (R373). -/
def execFaceStatus (fn : Fin 64) (s : State) : Outc := s.go (fun d => d.cageRun fn 0x0703 cmdFaceStatus ⟨fn, [], true, none, none⟩)

def cmdCpStats : Cmd := readCmd .r 8 (·.badUc 26) (fun i => [.c .GL_CPSTAT [i.unit], .s .GL_CP2STAT [i.unit], .c .GL_CP2STAT [i.unit]]) true

/-- CP_STATS (R373). -/
def execCpStats (fn : Fin 64) (s : State) : Outc := s.go (fun d => d.cageRun fn 0x0704 cmdCpStats ⟨fn, [], true, none, none⟩)

/-! ## The phasor engine -/

/-- The rate and nominal frequency go together (R214). -/
def rateFits (rate : Nat) (f60 : Bool) : Bool :=
  match rate with
  | 0 | 2 => !f60
  | 4 => f60
  | 1 | 3 => true
  | _ => false

/-- The affinity map of a stream: that of the template its stream entry names, else of the rule that gives its handle (R84,
R215). Where neither names one, it is a free value. -/
def Dev.streamMap (d : Dev) (sh : Nat) : Nat × Dev :=
  let e := d.streamRaw sh
  if XE.valid.get e = 1 && XE.tmpl_en.get e = 1 then (TH.aff_map (d.tmplHdr (XE.tmpl.get e)), d)
  else
    match d.as.rules.find? (fun r => r.2.inSlot d.curSlot && A.sh_valid.get r.2.action == 1 && A.sh.get r.2.action == sh) with
    | some (_, r) => (TH.aff_map (d.tmplHdr (A.template.get r.action)), d)
    | none => d.fresh 2

/-- The lowest state block of a gallery that no other binding uses (R215). -/
def Dev.freeBlock (d : Dev) (g b : Nat) : Option Nat :=
  let used := ((List.range 32768).filter (fun x => x != b && d.on (R.PH_BIND x) F.PH_BIND_valid && d.rd (R.PH_BIND x) F.PH_BIND_gallery == g)).map
    (fun x => d.rd (R.PH_BIND x) F.PH_BIND_slot)
  (List.range 1536).find? (fun s => !used.contains s)

/-- The stream block that PHASOR_BIND writes: its reporting parameters from the request and its output. -/
def bindBlock (i : CmdIn) (out : Word64) : List Byte :=
  let w0 := 2 ^ 63 + 2 ^ 62 + i.u 1 11 * 2 ^ 59 + i.u 1 12 * 2 ^ 58 + i.u 1 13 * 2 ^ 54 + i.u 1 14 * 2 ^ 53 + i.u 1 15 * 2 ^ 50
    + F.PH_OUT_fr.get out * 2 ^ 46 + i.u 2 16 * 2 ^ 32 + F.PH_OUT_hold_us.get out * 2 ^ 16 + i.u 2 8
  let f := singleR ((f0Of (i.u 1 12 == 1) : Int) * one80) false
  leBytes 8 w0 ++ leBytes 8 (f * 2 ^ 32 + f0Of (i.u 1 12 == 1) * 2 ^ 25) ++ List.replicate 48 0 ++ i.bytes 32 24

/-- A stream is bound to a free block of its gallery. -/
def Dev.phasorBindTo (d : Dev) (i : CmdIn) (out : Word64) (g dom aff : Nat) : Option Ans × Dev :=
  match d.freeBlock g i.unit with
  | none => (ansErr 0x0A, d)
  | some slot =>
    let blk := bindBlock i out
    takenThen 8 ((d.writeBlock g slot blk).fwSet .PH_BIND [i.unit]
        [(F.PH_BIND_sh, i.u 2 8), (F.PH_BIND_gallery, g), (F.PH_BIND_slot, slot), (F.PH_BIND_valid, 1)])
      (fun d => (leBytes 2 g ++ leBytes 2 slot, { d with ph := { d.ph with copies := d.ph.copies.put i.unit ⟨blk, aff, dom⟩ } }))

def cmdPhasorBind : Cmd where
  lvl := .b
  len := fun _ => 56
  bad := fun i _ => i.badU 32768
    ++ [(decide (3 < i.u 1 10) || decide (1 < i.u 1 12) || !rateFits (i.u 1 11) (i.u 1 12 == 1) || i.u 1 13 == 0 || decide (8 < i.u 1 13)
        || decide (1 < i.u 1 14) || decide (7 < i.u 1 15), 1), (decide (4095 < i.u 2 16), 2)]
  regs := fun _ => [R.PH_CFG.addr]
  run := fun i d =>
    let sh := i.u 2 8
    let out := d.rget (R.PH_OUT (i.unit / 32))
    if F.PH_OUT_f60.get out ≠ i.u 1 12 || !outOk out then (ansErr 8, d)
    else
      let dom := sh % 2 ^ 14 * 4 + i.u 1 10
      let m := d.streamMap sh
      let a := R.DR_AFF m.1 (crc32c (leBytes 2 dom) % 256)
      if !m.2.on a F.DR_AFF_valid || 26 ≤ m.2.rd a F.DR_AFF_gallery then (ansErr 8, m.2)
      else m.2.phasorBindTo i out (m.2.rd a F.DR_AFF_gallery) dom m.1

/-- PHASOR_BIND (R215). -/
def execPhasorBind (fn : Fin 64) (s : State) : Outc := s.go (fun d => d.cageRun fn 0x0801 cmdPhasorBind ⟨fn, [], true, none, none⟩)

def cmdPhasorUnbind : Cmd where
  lvl := .b
  len := fun _ => 8
  bad := fun i _ => i.badU 32768
  regs := fun _ => [R.PH_CFG.addr]
  run := fun i d =>
    let b := i.unit
    if !d.on (R.PH_BIND b) F.PH_BIND_valid then (ansErr 9, d)
    else
      let g := d.rd (R.PH_BIND b) F.PH_BIND_gallery
      let s := d.rd (R.PH_BIND b) F.PH_BIND_slot
      let d := d.setBlkWord g s 0 (withBit (d.blkWord g s 0) 63 false)
      let (_, d) := d.fwSet .PH_BIND [b] [(F.PH_BIND_valid, 0)]
      (ansOk, { d with ph := { d.ph with copies := d.ph.copies.del b, rewrite := d.ph.rewrite.filter (· != b) } })

/-- PHASOR_UNBIND (R373). -/
def execPhasorUnbind (fn : Fin 64) (s : State) : Outc := s.go (fun d => d.cageRun fn 0x0802 cmdPhasorUnbind ⟨fn, [], true, none, none⟩)

def cmdPhasorEnable : Cmd where
  lvl := .b
  len := fun _ => 1
  bad := fun i _ => [(decide (1 < i.u 1 0), 0)]
  regs := fun _ => [R.PH_CFG.addr]
  run := fun i d => (ansOk, (d.fwSet .PH_CFG [] [(F.PH_CFG_en, i.u 1 0)]).2)

/-- PHASOR_ENABLE (R373). -/
def execPhasorEnable (fn : Fin 64) (s : State) : Outc := s.go (fun d => d.cageRun fn 0x0803 cmdPhasorEnable ⟨fn, [], true, none, none⟩)

def cmdPmuOutputSet : Cmd where
  lvl := .b
  len := fun _ => 80
  bad := fun i _ => i.badU 1024
  regs := fun _ => [R.PH_CFG.addr]
  run := fun i d =>
    takenThen 8 (d.putImg .PH_OUT [i.unit] (i.w64 8)) (fun d => ([], d.put (0xC20000 + i.unit * 0x40) (i.bytes 64 16)))

/-- PMU_OUTPUT_SET (R226). -/
def execPmuOutputSet (fn : Fin 64) (s : State) : Outc := s.go (fun d => d.cageRun fn 0x0804 cmdPmuOutputSet ⟨fn, [], true, none, none⟩)

def cmdPhasorStatus : Cmd where
  lvl := .r
  len := fun _ => 8
  bad := fun i _ => i.badU 32768
  regs := fun _ => [R.PH_CFG.addr]
  run := fun i d =>
    let r := R.PH_BIND i.unit
    if !d.on r F.PH_BIND_valid then (ansErr 9, d)
    else
      let (bs, d) := d.parts i.fn false [.s .PH_BIND [i.unit]]
      (ansOk (bs ++ d.bytes (blockAddr (d.rd r F.PH_BIND_gallery) (d.rd r F.PH_BIND_slot)) 64), d)

/-- PHASOR_STATUS (R373). -/
def execPhasorStatus (fn : Fin 64) (s : State) : Outc := s.go (fun d => d.cageRun fn 0x0805 cmdPhasorStatus ⟨fn, [], true, none, none⟩)

def cmdPmuStats : Cmd := readCmd .r 8 (fun i => [((decide (1024 ≤ i.unit) && i.unit != 2 ^ 32 - 1) || decide (1 < i.u 4 4), 0)])
  (fun i => if i.unit < 1024 then [.c .PH_OCNT [i.unit]] else [.c .PH_STAT []]) true

/-- PMU_STATS (R373). -/
def execPmuStats (fn : Fin 64) (s : State) : Outc := s.go (fun d => d.cageRun fn 0x0806 cmdPmuStats ⟨fn, [], true, none, none⟩)

end Sys2Proof.Machine
end

