-- ==== Sys2Proof/Machine/CagePort.lean ====
section
/-!
DEFINITION. The commands of the ports, of time, of Assay and of the tables (R372, with R29, R36, R40, R41, R46, R62, R63, R66, R76,
R81, R89 to R93, R96, R118, R122).
-/

namespace Sys2Proof.Machine

/-! ## Ports -/

def cmdPortConfig : Cmd :=
  writeCmd .b false 24 (fun i => i.badU 32 ++ i.badI .PT_PCFG 8 ++ i.badI .PT_TMR 16)
    (fun i => [(.PT_PCFG, [i.unit], i.w64 8), (.PT_TMR, [i.unit], i.w64 16)]) (fun _ => [])

/-- PORT_CONFIG (R29). -/
def execPortConfig (fn : Fin 64) (s : State) : Outc := s.go (fun d => d.cageRun fn 0x0101 cmdPortConfig ⟨fn, [], true, none, none⟩)

def cmdPortStatus : Cmd := readCmd .r 8 (·.badU 32) (fun i => [.s .PT_PSTAT [i.unit], .s .XC_PORT [i.unit]]) false

/-- PORT_STATUS (R372). -/
def execPortStatus (fn : Fin 64) (s : State) : Outc := s.go (fun d => d.cageRun fn 0x0102 cmdPortStatus ⟨fn, [], true, none, none⟩)

def cmdPortStats : Cmd where
  lvl := .r
  len := fun _ => 8
  bad := fun i _ => i.badUc 32
  regs := fun i => [(R.PT_PSTAT i.unit).addr]
  run := fun i d =>
    let x := (List.range 16).foldl (fun (a : List Nat × Dev) n =>
      let v := a.2.sinceBase i.fn i.clr (2 ^ 39 + (i.unit * 16 + n)) (a.2.pt.stats.get 0 (i.unit * 16 + n))
      (a.1 ++ [v.1], v.2)) ([], d)
    (ansOk (x.1.flatMap (leBytes 8)), x.2)

/-- PORT_STATS (R372). -/
def execPortStats (fn : Fin 64) (s : State) : Outc := s.go (fun d => d.cageRun fn 0x0103 cmdPortStats ⟨fn, [], true, none, none⟩)

def cmdGateListLoad : Cmd where
  lvl := .b
  len := fun i => 32 + 4 * i.u 2 10
  bad := fun i _ => i.badU 32 ++ [(decide (500 < i.u 2 10) || decide (1024 < i.u 2 8 + i.u 2 10) || decide (1 < i.u 1 12), 1)]
  regs := fun i => [(R.PT_GCLCTL i.unit).addr]
  run := fun i d =>
    let p := i.unit
    if d.on (R.PT_GCLCTL p) F.PT_GCLCTL_pending then (ansErr 7, d)
    else
      let d := d.put (adminAddr p + 4 * i.u 2 8) (i.bytes (4 * i.u 2 10) 32)
      let d := (d.putImgs [(.PT_GCLCTL, [p], i.w64 16), (.PT_GCLBASE, [p], i.w64 24)]).2
      if i.u 1 12 = 1 && !d.adminOk p then (ansErr 8, d.gclCommit p)
      else answered ((if i.u 1 12 = 1 then d.gclCommit p else d).parts i.fn false [.s .PT_GCLCTL [p]])

/-- GATE_LIST_LOAD (R46). -/
def execGateListLoad (fn : Fin 64) (s : State) : Outc := s.go (fun d => d.cageRun fn 0x0104 cmdGateListLoad ⟨fn, [], true, none, none⟩)

def cmdMacsecSaSet : Cmd where
  lvl := .b
  len := fun _ => 80
  bad := fun i _ => i.badU 32
    ++ [(decide (1 < i.u 1 8) || decide (63 < i.u 1 9) || decide (3 < i.u 1 10) || decide (1 < i.u 1 11) || decide (1 < i.u 1 12), 1)]
  regs := fun i => [(R.PT_PCFG i.unit).addr]
  run := fun i d =>
    let rx := i.u 1 8 == 1
    let an := i.u 1 10
    -- a port has one transmit channel, and its key is the association (R35)
    let key := if rx then 256 + i.u 1 9 * 4 + an else an
    let sa : MacSa := { suite := i.u 1 11, sci := i.u 8 16, pn := i.u 8 24, ssci := i.u 4 32, salt := i.u 12 36, key := i.u 32 48 }
    let d := d.wipe (cageBase i.fn + 0x100) (cageBase i.fn + 0x900)
    (ansOk, d.modPort i.unit (fun x =>
      if i.u 1 12 = 1 then { x with sas := x.sas.put key sa, txAn := if rx then x.txAn else an }
      else { x with sas := x.sas.del key }))

/-- MACSEC_SA_SET (R36). -/
def execMacsecSaSet (fn : Fin 64) (s : State) : Outc := s.go (fun d => d.cageRun fn 0x0105 cmdMacsecSaSet ⟨fn, [], true, none, none⟩)

def cmdPtpConfig : Cmd where
  lvl := .b
  len := fun _ => 24
  bad := fun i _ => [((decide (32 ≤ i.unit) && i.unit != 2 ^ 32 - 1) || i.u 4 4 != 0, 0),
    (decide (3 < i.u 1 8) || decide (2 < i.u 1 9) || decide (7 < i.u 1 10)
      || decide (toSigned 8 (i.u 1 11) < -7) || decide (4 < toSigned 8 (i.u 1 11)), 1)]
  regs := fun i => if i.unit < 32 then [(R.PT_PCFG i.unit).addr] else []
  run := fun i d =>
    let c : PtpCfg := { role := i.u 1 8, profile := i.u 1 9, flags := i.u 1 10, logSync := i.u 1 11, asym := i.u 4 12, inLat := i.u 4 16, egLat := i.u 4 20 }
    let oneStep := bitAt c.flags 0
    -- R40: no one-step over UDP on IPv6, and none where a transmit association protects what the port sends
    if oneStep && (bitAt c.flags 2 || (decide (i.unit < 32) && ((d.port i.unit).sas.find (d.port i.unit).txAn).isSome)) then (ansErr 8, d)
    else (ansOk, if i.unit < 32 then d.modPort i.unit (fun x => { x with ptp := c }) else { d with pt := { d.pt with clock := c } })

/-- PTP_CONFIG (R40). -/
def execPtpConfig (fn : Fin 64) (s : State) : Outc := s.go (fun d => d.cageRun fn 0x0106 cmdPtpConfig ⟨fn, [], true, none, none⟩)

/-- Two ports can form a pair (R41): they differ, have one rate and width, and neither is in a pair with a third port. -/
def Dev.pairFits (d : Dev) (p q : Nat) : Bool :=
  let role (x : Nat) : Nat := d.rd (R.PT_RED x) F.PT_RED_role
  let peer (x : Nat) : Nat := d.rd (R.PT_RED x) F.PT_RED_peer
  p != q && d.rd (R.PT_PCFG p) F.PT_PCFG_lane_rate == d.rd (R.PT_PCFG q) F.PT_PCFG_lane_rate
    && d.rd (R.PT_PCFG p) F.PT_PCFG_width == d.rd (R.PT_PCFG q) F.PT_PCFG_width
    && (role p == 0 || peer p == q) && (role q == 0 || peer q == p)
    && (List.range 32).all (fun r => r == p || r == q || role r == 0 || (peer r != p && peer r != q))

def cmdRedPairSet : Cmd where
  lvl := .b
  len := fun _ => 11
  bad := fun i d => i.badU 32
    ++ [(decide (5 < i.u 1 8) || decide (i.u 1 9 ≤ i.unit) || decide (31 < i.u 1 9) || decide (1 < i.u 1 10)
      || (i.u 1 8 != 0 && !d.pairFits i.unit (i.u 1 9)), 1)]
  regs := fun i => [(R.PT_RED i.unit).addr, (R.PT_RED (i.u 1 9)).addr]
  run := fun i d =>
    let p := i.unit
    let q := i.u 1 9
    let (_, d) := d.fwSet .PT_RED [p] [(F.PT_RED_role, i.u 1 8), (F.PT_RED_peer, q), (F.PT_RED_lan_b, i.u 1 10)]
    let (_, d) := d.fwSet .PT_RED [q] [(F.PT_RED_role, i.u 1 8), (F.PT_RED_peer, p), (F.PT_RED_lan_b, 1 - i.u 1 10)]
    let (bs, d) := d.parts i.fn false [.s .PT_RED [p], .s .PT_RED [q]]
    (ansOk bs, d)

/-- RED_PAIR_SET (R41). -/
def execRedPairSet (fn : Fin 64) (s : State) : Outc := s.go (fun d => d.cageRun fn 0x0107 cmdRedPairSet ⟨fn, [], true, none, none⟩)

/-! ## Time -/

def cmdTimeConfig : Cmd :=
  writeCmd .b false 24 (fun i => i.badI .TB_CTL 0 ++ i.badI .TB_PPS 8 ++ i.badI .TB_TICK 16)
    (fun i => [(.TB_CTL, [], i.w64 0), (.TB_PPS, [], i.w64 8), (.TB_TICK, [], i.w64 16)]) (fun _ => [.s .TB_STAT []])

/-- TIME_CONFIG (R62). -/
def execTimeConfig (fn : Fin 64) (s : State) : Outc := s.go (fun d => d.cageRun fn 0x0201 cmdTimeConfig ⟨fn, [], true, none, none⟩)

def cmdTimeStatus : Cmd := readCmd .r 0 (fun _ => []) (fun _ => [.s .TB_STAT [], .s .TB_NOW_LO [], .s .TB_NOW_HI [], .s .TB_UTC []]) false

/-- TIME_STATUS (R372). -/
def execTimeStatus (fn : Fin 64) (s : State) : Outc := s.go (fun d => d.cageRun fn 0x0202 cmdTimeStatus ⟨fn, [], true, none, none⟩)

def cmdUtcSet : Cmd := writeCmd .b false 8 (·.badI .TB_UTC 0) (fun i => [(.TB_UTC, [], i.w64 0)]) (fun _ => [])

/-- UTC_SET (R66). -/
def execUtcSet (fn : Fin 64) (s : State) : Outc := s.go (fun d => d.cageRun fn 0x0203 cmdUtcSet ⟨fn, [], true, none, none⟩)

def cmdTimeStep : Cmd where
  lvl := .e
  len := fun _ => 8
  regs := fun _ => [R.TB_STEP.addr]
  run := fun i d =>
    takenThen 8 (d.putImg .TB_STEP [] (i.w64 0) true) (fun d => d.parts i.fn false [.s .TB_STAT []])

/-- TIME_STEP (R63). -/
def execTimeStep (fn : Fin 64) (s : State) : Outc := s.go (fun d => d.cageRun fn 0x0204 cmdTimeStep ⟨fn, [], true, none, none⟩)

/-! ## Rules and parse programs -/

/-- The staging slot. -/
def Dev.stageSlot (d : Dev) : Nat := 1 - d.curSlot

def cmdRuleWrite : Cmd where
  lvl := .b
  len := fun _ => 168
  bad := fun i _ => i.badU 32768
  regs := fun _ => [R.AS_RVER.addr]
  run := fun i d =>
    if !d.stageReady then (ansErr 7, d)
    else takenOr 8 (d.ruleWrite i.unit (ruleOf (i.bytes 160 8)))

/-- RULE_WRITE (R89). -/
def execRuleWrite (fn : Fin 64) (s : State) : Outc := s.go (fun d => d.cageRun fn 0x0301 cmdRuleWrite ⟨fn, [], true, none, none⟩)

def cmdRuleFlag : Cmd where
  lvl := .b
  len := fun _ => 9
  bad := fun i _ => i.badU 32768 ++ [(decide (1 < i.u 1 8), 1)]
  regs := fun _ => [R.AS_RVER.addr]
  run := fun i d => if !d.stageReady then (ansErr 7, d) else (ansOk, (d.ruleFlag i.unit (i.u 1 8 == 1)).2)

/-- RULE_FLAG (R89). -/
def execRuleFlag (fn : Fin 64) (s : State) : Outc := s.go (fun d => d.cageRun fn 0x0302 cmdRuleFlag ⟨fn, [], true, none, none⟩)

def cmdRuleRead : Cmd where
  lvl := .r
  len := fun _ => 8
  bad := fun i _ => i.badU 32768
  regs := fun _ => [R.AS_RVER.addr]
  run := fun i d => (ansOk (d.rule i.unit).image, d)

/-- RULE_READ (R372). -/
def execRuleRead (fn : Fin 64) (s : State) : Outc := s.go (fun d => d.cageRun fn 0x0303 cmdRuleRead ⟨fn, [], true, none, none⟩)

def cmdKeyProfileSet : Cmd where
  lvl := .b
  len := fun _ => 136
  bad := fun i _ => [(decide (7 < i.u 1 0), 0)]
  regs := fun _ => [R.AS_RVER.addr]
  run := fun i d =>
    if !d.stageReady then (ansErr 7, d)
    else (ansOk, (d.putImgs ((List.range 32).map (fun c => (.AS_KSEL, [d.stageSlot, i.u 1 0, c], BitVec.ofNat 64 (i.u 4 (8 + 4 * c)))))).2)

/-- KEY_PROFILE_SET (R81). -/
def execKeyProfileSet (fn : Fin 64) (s : State) : Outc := s.go (fun d => d.cageRun fn 0x0304 cmdKeyProfileSet ⟨fn, [], true, none, none⟩)

def cmdParseLoad : Cmd where
  lvl := .b
  len := fun i => 8 + 4 * i.u 2 2
  bad := fun i _ => [(i.u 2 2 == 0 || decide (500 < i.u 2 2) || decide (1024 < i.u 2 0 + i.u 2 2), 0)]
  regs := fun _ => [R.AS_RVER.addr]
  run := fun i d =>
    if !d.stageReady then (ansErr 7, d) else (ansOk, d.put (bankAddr d.stageSlot + 4 * i.u 2 0) (i.bytes (4 * i.u 2 2) 8))

/-- PARSE_LOAD (R76). -/
def execParseLoad (fn : Fin 64) (s : State) : Outc := s.go (fun d => d.cageRun fn 0x0305 cmdParseLoad ⟨fn, [], true, none, none⟩)

def cmdRuleCommit : Cmd where
  lvl := .b
  len := fun _ => 0
  regs := fun _ => [R.AS_RVER.addr]
  run := fun i d =>
    takenThen 7 d.ruleCommit (fun d => d.parts i.fn false [.s .AS_RVER []])

/-- RULE_COMMIT (R90). -/
def execRuleCommit (fn : Fin 64) (s : State) : Outc := s.go (fun d => d.cageRun fn 0x0306 cmdRuleCommit ⟨fn, [], true, none, none⟩)

def cmdRuleStatus : Cmd := readCmd .r 8 (·.badUc 1) (fun _ => [.s .AS_RVER [], .s .AS_RSTAT [], .c .AS_RSTAT []]) true

/-- RULE_STATUS (R372). -/
def execRuleStatus (fn : Fin 64) (s : State) : Outc := s.go (fun d => d.cageRun fn 0x0307 cmdRuleStatus ⟨fn, [], true, none, none⟩)

def cmdRuleRetire : Cmd where
  lvl := .e
  len := fun _ => 0
  regs := fun _ => [R.AS_RVER.addr]
  run := fun i d =>
    if !d.on R.AS_RVER F.AS_RVER_prev_live then (ansErr 0x0B, d)
    else let (bs, d) := d.ruleRetire.parts i.fn false [.s .AS_RVER []]; (ansOk bs, d)

/-- RULE_RETIRE (R92). -/
def execRuleRetire (fn : Fin 64) (s : State) : Outc := s.go (fun d => d.cageRun fn 0x0308 cmdRuleRetire ⟨fn, [], true, none, none⟩)

def cmdExcConfig : Cmd := writeCmd .b false 16 (·.badU 256) (fun i => [(.AS_EXCCFG, [i.unit], i.w64 8)]) (fun _ => [])

/-- EXC_CONFIG (R96). -/
def execExcConfig (fn : Fin 64) (s : State) : Outc := s.go (fun d => d.cageRun fn 0x0309 cmdExcConfig ⟨fn, [], true, none, none⟩)

def cmdExcStats : Cmd := readCmd .r 8 (·.badUc 256) (fun i => [.c .AS_EXCCNT [i.unit]]) true

/-- EXC_STATS (R372). -/
def execExcStats (fn : Fin 64) (s : State) : Outc := s.go (fun d => d.cageRun fn 0x030A cmdExcStats ⟨fn, [], true, none, none⟩)

def cmdEddyConfig : Cmd :=
  writeCmd .b false 40 (fun i => i.badI .AS_EDDYCFG 0 ++ (List.range 4).flatMap (fun p => i.badI .AS_PCFG (8 + 8 * p)))
    (fun i => (.AS_EDDYCFG, [], i.w64 0) :: (List.range 4).map (fun p => (.AS_PCFG, [p], i.w64 (8 + 8 * p)))) (fun _ => [])

/-- EDDY_CONFIG (R93). -/
def execEddyConfig (fn : Fin 64) (s : State) : Outc := s.go (fun d => d.cageRun fn 0x030B cmdEddyConfig ⟨fn, [], true, none, none⟩)

def cmdAssayStats : Cmd := readCmd .r 8 (·.badUc 4) (fun i => [.c .AS_PSTAT [i.unit], .s .AS_EDDYSTAT [], .c .AS_EDDYSTAT []]) true

/-- ASSAY_STATS (R372). -/
def execAssayStats (fn : Fin 64) (s : State) : Outc := s.go (fun d => d.cageRun fn 0x030C cmdAssayStats ⟨fn, [], true, none, none⟩)

/-! ## Stations, streams and meters -/

/-- A mask of pipes in byte 0: at least one of 0 to 3. -/
def CmdIn.badMask (i : CmdIn) : BadArg := (i.u 1 0 == 0 || decide (15 < i.u 1 0), 0)
def CmdIn.pipes (i : CmdIn) : List Nat := (List.range 4).filter (bitAt (i.u 1 0))
def CmdIn.pipeRegs (i : CmdIn) : List Nat := i.pipes.map (fun p => (R.ST_PCFG p).addr)

/-- One byte for each pipe from `f`; that of a pipe outside the mask is a free value. -/
def Dev.perPipe (d : Dev) (ps : List Nat) (f : Dev → Nat → Nat × Dev) : List Nat × Dev :=
  (List.range 4).foldl (fun (a : List Nat × Dev) p =>
    let x := if ps.contains p then f a.2 p else a.2.fresh 8
    (a.1 ++ [x.1], x.2)) ([], d)

/-- Install a static entry in a pipe: 0 added, 1 replaced, 2 set full. -/
def Dev.stationAdd (d : Dev) (e : BitVec 128) (p : Nat) : Nat × Dev :=
  let mac := SE.mac.get e
  let fid := SE.fid.get e
  match d.stFind p mac fid with
  | some i => (1, (d.stWrite p i e).2)
  | none =>
    match d.stFree p (stSet mac fid) with
    | some i => (0, (d.stWrite p i e).2)
    | none => (2, d)

def cmdStationAdd : Cmd where
  lvl := .b
  len := fun _ => 24
  bad := fun i _ => [i.badMask, (!stPortOk (SE.port.get (BitVec.ofNat 128 (i.u 16 8))), 2)]
  regs := fun i => i.pipeRegs
  run := fun i d =>
    let e : BitVec 128 := BitVec.ofNat 128 (i.u 16 8)
    let x := d.perPipe i.pipes (fun d p => d.stationAdd (SE.static.put (SE.valid.put e 1) 1) p)
    (if i.pipes.all (fun p => x.1.getD p 0 == 2) then ansErr 0x0A else ansOk (x.1.flatMap (leBytes 1)), x.2)

/-- STATION_ADD (R372). -/
def execStationAdd (fn : Fin 64) (s : State) : Outc := s.go (fun d => d.cageRun fn 0x0401 cmdStationAdd ⟨fn, [], true, none, none⟩)

/-- Strike a station entry and the Overman's copy of it. -/
def Dev.stationStrike (d : Dev) (k : Nat) : Dev :=
  { d with st := { d.st with station := d.st.station.del k, stationCopy := d.st.stationCopy.del k } }

/-- A pipe gives up the entry of an address, if it has one: the answer's byte for the pipe. -/
def Dev.stationDel (d : Dev) (p mac vid : Nat) : Nat × Dev :=
  match d.stFind p mac vid with
  | some n => (0, d.stationStrike (stKeyOf p n))
  | none => (1, d)

def cmdStationDel : Cmd where
  lvl := .b
  len := fun _ => 16
  bad := fun i _ => [i.badMask, (decide (4095 < i.u 2 14), 1)]
  regs := fun i => i.pipeRegs
  run := fun i d =>
    let mac := beNat (i.bytes 6 8)
    let x := d.perPipe i.pipes (fun d p => d.stationDel p mac (i.u 2 14))
    (ansOk (x.1.flatMap (leBytes 1)), x.2)

/-- STATION_DEL (R372). -/
def execStationDel (fn : Fin 64) (s : State) : Outc := s.go (fun d => d.cageRun fn 0x0402 cmdStationDel ⟨fn, [], true, none, none⟩)

def cmdStationFlush : Cmd where
  lvl := .b
  len := fun _ => 5
  bad := fun i _ => [i.badMask, (decide (2 < i.u 1 1) || decide (1 < i.u 1 4), 0)]
  regs := fun i => i.pipeRegs
  run := fun i d =>
    let hit (e : BitVec 128) : Bool := SE.valid.get e == 1 && seGood e && (SE.static.get e == 0 || i.u 1 4 == 1)
      && (match i.u 1 1 with | 0 => true | 1 => SE.port.get e == i.u 2 2 | _ => SE.fid.get e == i.u 2 2)
    let (rs, d) := (List.range 4).foldl (fun (a : List Nat × Dev) p =>
      let ks := if i.pipes.contains p then (a.2.st.station.filter (fun e => e.1 / 262144 == p && hit e.2)).map (·.1) else []
      (a.1 ++ [ks.length], ks.foldl Dev.stationStrike a.2)) ([], d)
    (ansOk (rs.flatMap (leBytes 4)), d)

/-- STATION_FLUSH (R372). -/
def execStationFlush (fn : Fin 64) (s : State) : Outc := s.go (fun d => d.cageRun fn 0x0403 cmdStationFlush ⟨fn, [], true, none, none⟩)

def cmdStationRead : Cmd where
  lvl := .r
  len := fun _ => 10
  bad := fun i _ => [(decide (3 < i.u 1 0) || decide (262144 < i.u 4 4 + i.u 2 8), 0), (i.u 2 8 == 0 || decide (64 < i.u 2 8), 1)]
  regs := fun i => [(R.ST_PCFG (i.u 1 0)).addr]
  run := fun i d => (ansOk ((List.range (i.u 2 8)).flatMap (fun n => leBytes 16 (d.station (i.u 1 0) (i.u 4 4 + n)).toNat)), d)

/-- STATION_READ (R372). -/
def execStationRead (fn : Fin 64) (s : State) : Outc := s.go (fun d => d.cageRun fn 0x0404 cmdStationRead ⟨fn, [], true, none, none⟩)

def cmdStationConfig : Cmd :=
  writeCmd .b false 32 (fun i => [i.badMask] ++ i.badI .ST_PCFG 8 ++ i.badI .ST_AGE 16 ++ i.badI .ST_MOVE 24)
    (fun i => i.pipes.flatMap (fun p => [(.ST_PCFG, [p], i.w64 8), (.ST_AGE, [p], i.w64 16), (.ST_MOVE, [p], i.w64 24)])) (fun _ => [])

/-- STATION_CONFIG (R372). -/
def execStationConfig (fn : Fin 64) (s : State) : Outc := s.go (fun d => d.cageRun fn 0x0405 cmdStationConfig ⟨fn, [], true, none, none⟩)

def cmdStreamSet : Cmd where
  lvl := .b
  len := fun _ => 24
  bad := fun i _ => i.badU 65536
  regs := fun _ => [R.ST_SSTAT.addr]
  run := fun i d => (ansOk, d.streamWrite i.unit (BitVec.ofNat 128 (i.u 16 8)))

/-- STREAM_SET (R122). -/
def execStreamSet (fn : Fin 64) (s : State) : Outc := s.go (fun d => d.cageRun fn 0x0406 cmdStreamSet ⟨fn, [], true, none, none⟩)

def cmdStreamGet : Cmd where
  lvl := .r
  len := fun _ => 8
  bad := fun i _ => i.badU 65536
  regs := fun _ => [R.ST_SSTAT.addr]
  run := fun i d => (ansOk (leBytes 16 (d.streamRaw i.unit).toNat), d)

/-- STREAM_GET (R372). -/
def execStreamGet (fn : Fin 64) (s : State) : Outc := s.go (fun d => d.cageRun fn 0x0407 cmdStreamGet ⟨fn, [], true, none, none⟩)

def cmdMeterSet : Cmd := writeCmd .b false 16 (·.badU 4096) (fun i => [(.ST_MTR, [i.unit], i.w64 8)]) (fun _ => [])

/-- METER_SET (R118). -/
def execMeterSet (fn : Fin 64) (s : State) : Outc := s.go (fun d => d.cageRun fn 0x0408 cmdMeterSet ⟨fn, [], true, none, none⟩)

def cmdTableStats : Cmd := readCmd .r 8 (·.badUc 5) (fun i =>
  if i.unit < 4 then [.c .ST_PCNT [i.unit], .c .ST_PMOV [i.unit], .c .ST_PERR [i.unit]] else [.c .ST_SSTAT [], .c .ST_SPERR []]) true

/-- TABLE_STATS (R372). -/
def execTableStats (fn : Fin 64) (s : State) : Outc := s.go (fun d => d.cageRun fn 0x0409 cmdTableStats ⟨fn, [], true, none, none⟩)

end Sys2Proof.Machine
end

