-- ==== Sys2Proof/Machine/CageSys.lean ====
section
/-!
DEFINITION. The system and host commands (R371, with R345, R352, R366, R367, R377, R456, R457).
-/

namespace Sys2Proof.Machine

/-! ## Grants (R367) -/

/-- The grants whose leases have ended end (R367). -/
def Dev.leaseEnds (d : Dev) : Dev :=
  (List.range 4).foldl (fun d k =>
    if d.on (R.CG_GRANT k) F.CG_GRANT_valid && !d.granted (d.rd (R.CG_GRANT k) F.CG_GRANT_fn) then d.grantEnd k else d) d

/-- Give a function a grant, or renew the one it holds; `none` where four others are held. -/
def Dev.grantGive (d : Dev) (fn lease : Nat) : Option (Nat × Dev) :=
  let d := d.leaseEnds
  let last := (secOf d.now + lease) % 2 ^ 32
  match d.grantOf fn with
  | some k => some (k, d.wr (R.CG_GRANT k) F.CG_GRANT_lease_end last)
  | none =>
    match (List.range 4).find? (fun k => !d.on (R.CG_GRANT k) F.CG_GRANT_valid) with
    | none => none
    | some k =>
      let r := R.CG_GRANT k
      let d := ((d.wr r F.CG_GRANT_lease_end last).wr r F.CG_GRANT_fn fn).wr r F.CG_GRANT_valid 1
      some (k, (d.tally 0x0E03 fn [1]).event 0x03 fn 1)

/-! ## Images (R456, R457) -/

/-- Where the header of the image in a slot stands. -/
def slotAddr (slot : Nat) : Nat := norAddr slot 0
/-- Bytes of a slot. -/
def slotBytes : Nat := 2 ^ 24

/-- The checks of R457 on a header of 256 bytes; `signed` says that the key has the fused hash and the signature verifies. -/
def Dev.imageGood (d : Dev) (h : List Byte) (signed : Bool) : Bool :=
  let len := leNat ((h.drop 16).take 4)
  leNat (h.take 4) == 0x3216B007 && leNat ((h.drop 4).take 2) == 1 && decide (1 ≤ len) && decide (len ≤ 16776960)
    && signed && decide (d.rd R.SY_BOOT F.SY_BOOT_fuse_ver ≤ leNat ((h.drop 8).take 1))

/-! ## The commands -/

def cmdIdentify : Cmd := readCmd .r 0 (fun _ => []) (fun _ => []) false |> fun (c : Cmd) =>
  { c with run := fun i d =>
      let v := d.rget R.SY_IDENT
      (ansOk ([F.SY_IDENT_rev_letter, F.SY_IDENT_rev_digit, F.SY_IDENT_fw_major, F.SY_IDENT_fw_minor].map (fun f => BitVec.ofNat 8 (f.get v))
        ++ leBytes 1 i.fn ++ leBytes 3 d.hi.numVfs ++ leBytes 8 Config.serial.toNat ++ leBytes 8 d.bo.build), d) }

/-- IDENTIFY (R371). -/
def execIdentify (fn : Fin 64) (s : State) : Outc := s.go (fun d => d.cageRun fn 0x0001 cmdIdentify ⟨fn, [], true, none, none⟩)

def cmdNop : Cmd where
  lvl := .free
  len := fun i => if i.body.length ≤ 1264 then i.body.length else 0
  run := fun i d => (ansOk i.body, d)

/-- CAGE_NOP (R371). -/
def execCageNop (fn : Fin 64) (s : State) : Outc := s.go (fun d => d.cageRun fn 0x0002 cmdNop ⟨fn, [], true, none, none⟩)

def cmdDeviceStatus : Cmd where
  lvl := .r
  len := fun _ => 0
  run := fun i d =>
    (ansOk (leBytes 8 (d.gstat i.fn) ++ leBytes 8 (d.rget R.RL_ALARM).toNat ++ leBytes 8 (d.rget R.RL_FAULT).toNat), d)

/-- DEVICE_STATUS (R371). -/
def execDeviceStatus (fn : Fin 64) (s : State) : Outc := s.go (fun d => d.cageRun fn 0x0003 cmdDeviceStatus ⟨fn, [], true, none, none⟩)

/-- The event class mask of a function (R377). -/
def Dev.evMask (d : Dev) (fn : Nat) : Nat := (d.cg.masks.get none fn).getD (if fn = 0 then 0xFFFF else 0x0003)

def cmdEventMask : Cmd where
  lvl := .free
  len := fun _ => 2
  run := fun i d => (ansOk (leBytes 2 (d.evMask i.fn)), d.modCg (fun c => { c with masks := c.masks.set none i.fn (some (i.u 2 0)) }))

/-- EVENT_MASK (R377). -/
def execEventMask (fn : Fin 64) (s : State) : Outc := s.go (fun d => d.cageRun fn 0x0004 cmdEventMask ⟨fn, [], true, none, none⟩)

/-- A grant is given, or every grant is held (R367). -/
def Dev.grantAns (d : Dev) (f secs : Nat) : Option Ans × Dev :=
  match d.grantGive f secs with
  | none => (ansErr 0x0A, d)
  | some x => (ansOk (leBytes 8 (x.2.rget (R.CG_GRANT x.1)).toNat), x.2)

def cmdExpertGrant : Cmd where
  lvl := .b
  pf := true
  len := fun _ => 8
  bad := fun i _ => [(decide (64 ≤ i.u 1 0) || i.u 4 4 == 0 || decide (86400 < i.u 4 4), 0)]
  run := fun i d =>
    let f := i.u 1 0
    if !d.on (R.CG_RIGHTS f) F.CG_RIGHTS_expert_ok then (ansErr 0x10, d)
    else
      d.grantAns f (i.u 4 4)

/-- EXPERT_GRANT (R367). -/
def execExpertGrant (fn : Fin 64) (s : State) : Outc := s.go (fun d => d.cageRun fn 0x0005 cmdExpertGrant ⟨fn, [], true, none, none⟩)

def cmdExpertRelease : Cmd where
  lvl := .free
  len := fun _ => 1
  bad := fun i _ => [(decide (64 ≤ i.u 1 0) || (i.fn != 0 && i.u 1 0 != i.fn), 0)]
  run := fun i d =>
    match d.grantOf (i.u 1 0) with
    | none => (ansErr 9, d)
    | some k => (ansOk, d.grantEnd k)

/-- EXPERT_RELEASE (R367). -/
def execExpertRelease (fn : Fin 64) (s : State) : Outc := s.go (fun d => d.cageRun fn 0x0006 cmdExpertRelease ⟨fn, [], true, none, none⟩)

def cmdFunctionRights : Cmd :=
  writeCmd .b true 16 (fun i => (i.unit == 0, 0) :: i.badU 64 ++ i.badI .CG_RIGHTS 8) (fun i => [(.CG_RIGHTS, [i.unit], i.w64 8)]) (fun _ => [])

/-- FUNCTION_RIGHTS (R366). -/
def execFunctionRights (fn : Fin 64) (s : State) : Outc := s.go (fun d => d.cageRun fn 0x0007 cmdFunctionRights ⟨fn, [], true, none, none⟩)

def cmdFwUpdate : Cmd where
  lvl := .e
  pf := true
  len := fun _ => 13
  bad := fun i _ => [(i.u 8 0 % 64 != 0, 0), (decide (i.u 4 8 < 257) || decide (slotBytes < i.u 4 8) || decide (1 < i.u 1 12), 1)]
  run := fun i d =>
    let slot := i.u 1 12
    if d.rd R.SY_BOOT F.SY_BOOT_slot = slot then (ansErr 0x0B, d)
    else
      let x := d.smRead 0 (i.u 8 0) (i.u 4 8)
      match x.1 with
      | .ok bs =>
        if x.2.imageGood (bs.take 256) i.ok && leNat ((bs.drop 16).take 4) + 256 = bs.length then
          (ansOk, (x.2.wipe (slotAddr slot) (slotAddr slot + slotBytes)).put (slotAddr slot) bs)
        else (ansErr 0x0D, x.2)
      | _ => (ansErr 0x0D, x.2)

/-- FW_UPDATE (R457): `ok` says that the key has the fused hash and that the signature verifies. -/
def execFwUpdate (fn : Fin 64) (ok : Bool) (s : State) : Outc := s.go (fun d => d.cageRun fn 0x0008 cmdFwUpdate ⟨fn, [], ok, none, none⟩)

def cmdFwActivate : Cmd where
  lvl := .e
  pf := true
  len := fun _ => 2
  bad := fun i _ => [(decide (1 < i.u 1 0) || decide (1 < i.u 1 1), 0)]
  run := fun i d =>
    let slot := i.u 1 0
    if !d.imageGood (d.bytes (slotAddr slot) 256) i.ok then (ansErr 0x0D, d)
    else
      let e : Dev := { d with bo := { d.bo with active := slot } }
      (ansOk, if i.u 1 1 = 1 then e.warmRequest else e)

/-- FW_ACTIVATE (R371, R467): `ok` as for FW_UPDATE. -/
def execFwActivate (fn : Fin 64) (ok : Bool) (s : State) : Outc := s.go (fun d => d.cageRun fn 0x0009 cmdFwActivate ⟨fn, [], ok, none, none⟩)

def cmdWarmReset : Cmd where
  lvl := .e
  pf := true
  len := fun _ => 0
  run := fun _ d => (ansOk, d.warmRequest)

/-- WARM_RESET (R467). The reset itself begins once every reply is written (WARM_RESET_BEGIN). -/
def execWarmReset (fn : Fin 64) (s : State) : Outc := s.go (fun d => d.cageRun fn 0x000A cmdWarmReset ⟨fn, [], true, none, none⟩)

/-! ## Queue pairs and the link (R345, R352) -/

/-- Fields of an image, to write into a register that keeps the others. -/
def taking (fs : List Fld) (img : Word64) : List (Fld × Nat) := fs.map (fun f => (f, f.get img))

def cmdQueueAssign : Cmd where
  lvl := .b
  pf := true
  len := fun _ => 16
  bad := fun i _ => i.badU 1024
  regs := fun i => [(R.HI_QCFG i.unit).addr]
  run := fun i d =>
    let (ok, d) := d.fwSet .HI_QCFG [i.unit] (taking [F.HI_QCFG_asg, F.HI_QCFG_fn, F.HI_QCFG_lidx, F.HI_QCFG_vec] (i.w64 8))
    if !ok then (ansErr 8, d) else let (bs, d) := d.parts i.fn false [.s .HI_QCFG [i.unit]]; (ansOk bs, d)

/-- QUEUE_ASSIGN (R345). -/
def execQueueAssign (fn : Fin 64) (s : State) : Outc := s.go (fun d => d.cageRun fn 0x0E01 cmdQueueAssign ⟨fn, [], true, none, none⟩)

/-- A command on a pair of the function by its local index: 0x09 where it has none there. -/
def onPair (i : CmdIn) (d : Dev) (f : Nat → Option Ans × Dev) : Option Ans × Dev :=
  match d.pairAt i.fn i.unit with
  | none => (ansErr 9, d)
  | some q => f q

def cmdQueueSetup : Cmd where
  lvl := .q
  len := fun _ => 40
  bad := fun i _ => i.badU 512 ++ i.badI .HI_QITR 32
  regs := fun _ => [R.HI_CFG.addr]
  run := fun i d => onPair i d (fun q =>
    takenThen 8 (d.fwSet .HI_QCFG [q]
        (taking [F.HI_QCFG_weight, F.HI_QCFG_rx_buf, F.HI_QCFG_rx_size, F.HI_QCFG_tx_size, F.HI_QCFG_vec] (i.w64 8)))
      (fun d => ([], (d.putImgs [(.HI_QTXBASE, [q], i.w64 16), (.HI_QRXBASE, [q], i.w64 24), (.HI_QITR, [q], i.w64 32)]).2)))

/-- QUEUE_SETUP (R345). -/
def execQueueSetup (fn : Fin 64) (s : State) : Outc := s.go (fun d => d.cageRun fn 0x0E02 cmdQueueSetup ⟨fn, [], true, none, none⟩)

def cmdQueueEnable : Cmd where
  lvl := .q
  len := fun _ => 9
  bad := fun i _ => i.badU 512 ++ [(decide (3 < i.u 1 8), 1)]
  regs := fun _ => [R.HI_CFG.addr]
  run := fun i d => onPair i d (fun q =>
    if !d.on R.HI_CFG F.HI_CFG_en then (ansErr 0x0B, d)
    else
      let b := i.u 1 8
      answered ((d.fwSet .HI_QCFG [q] [(F.HI_QCFG_tx_en, b % 2), (F.HI_QCFG_rx_en, b / 2 % 2)]).2.parts i.fn false [.s .HI_QSTAT [q]]))

/-- QUEUE_ENABLE (R352). -/
def execQueueEnable (fn : Fin 64) (s : State) : Outc := s.go (fun d => d.cageRun fn 0x0E03 cmdQueueEnable ⟨fn, [], true, none, none⟩)

def cmdQueueStats : Cmd where
  lvl := .q
  len := fun _ => 8
  bad := fun i _ => i.badUc 512
  regs := fun _ => [R.HI_CFG.addr]
  run := fun i d => onPair i d (fun q =>
    answered (d.parts i.fn i.clr [.s .HI_QIDX [q], .s .HI_QSTAT [q], .c .HI_QSTAT [q], .c .HI_QCNT [q]]))

/-- QUEUE_STATS (R371). -/
def execQueueStats (fn : Fin 64) (s : State) : Outc := s.go (fun d => d.cageRun fn 0x0E04 cmdQueueStats ⟨fn, [], true, none, none⟩)

def cmdLinkStatus : Cmd := readCmd .r 8 (·.badUc 1) (fun _ => [.s .HI_LINK [], .c .HI_ERR []]) true

/-- LINK_STATUS (R371). -/
def execLinkStatus (fn : Fin 64) (s : State) : Outc := s.go (fun d => d.cageRun fn 0x0E05 cmdLinkStatus ⟨fn, [], true, none, none⟩)

def cmdHostConfig : Cmd :=
  writeCmd .e true 16 (fun i => i.badI .HI_CFG 0 ++ i.badI .HI_BAR2 8) (fun i => [(.HI_CFG, [], i.w64 0), (.HI_BAR2, [], i.w64 8)]) (fun _ => [])

/-- HOST_CONFIG (R371): HI_BAR2 acts at the next PERST_N. -/
def execHostConfig (fn : Fin 64) (s : State) : Outc := s.go (fun d => d.cageRun fn 0x0E06 cmdHostConfig ⟨fn, [], true, none, none⟩)

end Sys2Proof.Machine
end

