-- ==== Sys2Proof/Machine/CageXc.lean ====
section
/-!
DEFINITION. The commands of Lode, the Token board, Hoist, Crosscut and Bin (R374, with R239, R240, R242, R256 to R260, R268, R277,
R279, R283, R284, R307, R308, R310, R319, R320, R330).
-/

namespace Sys2Proof.Machine

/-! ## Lode -/

/-- Run a function of the software port for the firmware: `fn` on an argument block, with a record for WRX. It waits while the
port is busy or a displacement path runs. -/
def Dev.fwLode (d : Dev) (fn : Nat) (pair : Bool) (args : List Byte) (win : LRec) (bad : Option (Nat × Bool)) : Option LRes × Dev :=
  if d.on R.LD_SWCMD F.LD_SWCMD_busy || d.quadFull (homeQuad (leNat args)) then (none, d)
  else
    let d := (d.put swWin args).put (swWin + 32) (leBytes 64 win.toNat)
    let d := (d.wr R.LD_SWCMD F.LD_SWCMD_fn fn).wr R.LD_SWCMD F.LD_SWCMD_pair_out (b2n pair)
    match d.lodeOp .port fn args win true pair bad with
    | (none, d) => (none, d)
    | (some x, d) =>
      let d := (d.put swWin (leBytes 4 x.word)).put (swWin + 32) (leBytes 64 x.r.toNat)
      let d := if pair then d.put (swWin + 96) (leBytes 64 x.ext.toNat) else d
      (some x, d.wr R.LD_SWCMD F.LD_SWCMD_status x.status)

/-- The reply of an operation that returns a record (R242). -/
def lodeReply (x : LRes) (pair : Bool) : List Byte :=
  leBytes 8 x.word ++ leBytes 64 x.r.toNat ++ (if pair then leBytes 64 x.ext.toNat else [])

/-- An argument block that addresses a record by index; its kind plays no part. -/
def indexArgs (i : Nat) : List Byte := leBytes 32 (2 ^ 24 + 2 ^ 22 + i * 2 ^ 32)

def cmdLodeOp : Cmd where
  lvl := .b
  len := fun _ => 40
  bad := fun i _ => [(decide (9 < i.u 1 0) || decide (1 < i.u 1 1), 0)]
  regs := fun _ => [R.LD_SWCMD.addr]
  run := fun i d =>
    let pair := i.u 1 1 == 1
    match d.fwLode (i.u 1 0) pair (i.bytes 32 8) 0 i.bad with
    | (none, d) => (none, d)
    | (some x, d) => (ansOk (lodeReply x pair), d)

/-- LODE_OP (R374): `bad` is a record with an uncorrectable word that the operation meets (R262). -/
def execLodeOp (fn : Fin 64) (bad : LodeErr) (s : State) : Outc :=
  s.go (fun d => d.cageRun fn 0x0901 cmdLodeOp ⟨fn, [], true, none, bad.at⟩)

def cmdLodeRead : Cmd where
  lvl := .r
  len := fun _ => 8
  bad := fun i _ => [(decide (2 ^ 25 ≤ i.unit) || decide (1 < i.u 1 4), 0)]
  regs := fun _ => [R.LD_SWCMD.addr]
  run := fun i d =>
    let pair := i.u 1 4 == 1
    match d.fwLode 9 pair (indexArgs i.unit) 0 i.bad with
    | (none, d) => (none, d)
    | (some x, d) => (ansOk (lodeReply x pair), d)

/-- LODE_READ (R374): `bad` as for LODE_OP. -/
def execLodeRead (fn : Fin 64) (bad : LodeErr) (s : State) : Outc :=
  s.go (fun d => d.cageRun fn 0x0902 cmdLodeRead ⟨fn, [], true, none, bad.at⟩)

def cmdLodeWrite : Cmd where
  lvl := .b
  len := fun _ => 72
  bad := fun i _ => i.badU (2 ^ 25)
  regs := fun _ => [R.LD_SWCMD.addr]
  run := fun i d =>
    let x := d.fwLode 10 false (indexArgs i.unit) (BitVec.ofNat 512 (i.u 64 8)) none
    (x.1.bind (fun y => ansOk (leBytes 8 y.word)), x.2)

/-- LODE_WRITE (R374). -/
def execLodeWrite (fn : Fin 64) (s : State) : Outc := s.go (fun d => d.cageRun fn 0x0903 cmdLodeWrite ⟨fn, [], true, none, none⟩)

def cmdLodeFlush : Cmd where
  lvl := .b
  len := fun _ => 2
  bad := fun i _ => [(decide (1 < i.u 1 1), 0)]
  regs := fun _ => [R.LD_SWCMD.addr]
  run := fun i d =>
    if d.on R.LD_SWEEP F.LD_SWEEP_flushing then (ansErr 7, d)
    else
      (ansOk, (d.fwSet .LD_SWEEP [] [(F.LD_SWEEP_flush_kind, i.u 1 0), (F.LD_SWEEP_flush_pin, i.u 1 1), (F.LD_SWEEP_flush, 1)]).2)

/-- LODE_FLUSH (R257). -/
def execLodeFlush (fn : Fin 64) (s : State) : Outc := s.go (fun d => d.cageRun fn 0x0904 cmdLodeFlush ⟨fn, [], true, none, none⟩)

def cmdLodeExportSet : Cmd where
  lvl := .b
  len := fun _ => 24
  bad := fun i _ => [(decide (1 < i.u 1 1), 0)]
  regs := fun _ => [R.LD_SWCMD.addr]
  run := fun i d =>
    let d := (d.fwSet .LD_KIND [i.u 1 0] [(F.LD_KIND_exp_rm, i.u 1 1), (F.LD_KIND_active_sw, i.u 1 2)]).2
    takenOr 8 (d.putImgs [(.LD_EXPRING, [], i.w64 8), (.LD_EXPIDX, [], i.w64 16)])

/-- LODE_EXPORT_SET (R260). -/
def execLodeExportSet (fn : Fin 64) (s : State) : Outc := s.go (fun d => d.cageRun fn 0x0905 cmdLodeExportSet ⟨fn, [], true, none, none⟩)

def cmdLodeAnomalyRead : Cmd where
  lvl := .r
  len := fun _ => 1
  bad := fun i _ => [(i.u 1 0 == 0 || decide (64 < i.u 1 0), 0)]
  run := fun i d =>
    let es := d.ld.fwd.take (i.u 1 0)
    (ansOk (leBytes 8 es.length ++ es.flatMap (fun e => leBytes 16 e.toNat)), { d with ld := { d.ld with fwd := d.ld.fwd.drop (i.u 1 0) } })

/-- LODE_ANOMALY_READ (R374). -/
def execLodeAnomalyRead (fn : Fin 64) (s : State) : Outc := s.go (fun d => d.cageRun fn 0x0906 cmdLodeAnomalyRead ⟨fn, [], true, none, none⟩)

def cmdLodeStats : Cmd := readCmd .r 8 (·.badUc 4) (fun i =>
  [.c .LD_STAT [], .s .LD_OCC [], .c .LD_EXPSTAT [], .c .LD_ANSTAT [], .c .LD_ECC [], .s .LD_REPAIR [i.unit], .c .LD_QSTAT [i.unit]]) true

/-- LODE_STATS (R374). -/
def execLodeStats (fn : Fin 64) (s : State) : Outc := s.go (fun d => d.cageRun fn 0x0907 cmdLodeStats ⟨fn, [], true, none, none⟩)

def cmdLodeAgeSet : Cmd where
  lvl := .e
  len := fun _ => 24
  bad := fun i _ => i.badU 16
  regs := fun _ => [R.LD_SWCMD.addr]
  run := fun i d =>
    let (_, d) := d.putImg .LD_TMO [i.unit] (i.w64 8)
    -- the flush fields keep what they hold
    let old := d.rget R.LD_SWEEP
    let v := F.LD_SWEEP_flush_kind.put (F.LD_SWEEP_flush_pin.put (i.w64 16) (F.LD_SWEEP_flush_pin.get old)) (F.LD_SWEEP_flush_kind.get old)
    (ansOk, (d.putImg .LD_SWEEP [] v).2)

/-- LODE_AGE_SET (R259). -/
def execLodeAgeSet (fn : Fin 64) (s : State) : Outc := s.go (fun d => d.cageRun fn 0x0908 cmdLodeAgeSet ⟨fn, [], true, none, none⟩)

def cmdLodeConfig : Cmd where
  lvl := .e
  len := fun _ => 272
  bad := fun i _ => i.badI .LD_CFG 0 ++ (List.range 256).map (fun t => (decide (3 < i.u 1 (16 + t)), 2 + t / 8))
  regs := fun _ => [R.LD_SWCMD.addr]
  run := fun i d =>
    let d := ((d.putImg .LD_CFG [] (i.w64 0)).2.fwSet .LD_KIND [0x40] [(F.LD_KIND_forget_ms, i.u 2 8)]).2
    (ansOk, (List.range 256).foldl (fun d t => (d.fwSet .LD_TDEF [t] [(F.LD_TDEF_action, i.u 1 (16 + t))]).2) d)

/-- LODE_CONFIG (R374). -/
def execLodeConfig (fn : Fin 64) (s : State) : Outc := s.go (fun d => d.cageRun fn 0x0909 cmdLodeConfig ⟨fn, [], true, none, none⟩)

/-! ## The Token board -/

def cmdLockGroupSet : Cmd := writeCmd .b false 16 (·.badU 64) (fun i => [(.TK_GRP, [i.unit], i.w64 8)]) (fun _ => [])

/-- LOCK_GROUP_SET (R268). -/
def execLockGroupSet (fn : Fin 64) (s : State) : Outc := s.go (fun d => d.cageRun fn 0x0A01 cmdLockGroupSet ⟨fn, [], true, none, none⟩)

def cmdLockStatus : Cmd where
  lvl := .r
  len := fun _ => 8
  bad := fun i _ => [(decide (4096 ≤ i.unit) || decide (32 < i.u 1 4), 0)]
  regs := fun _ => [R.TK_CFG.addr]
  run := fun i d =>
    let (bs, d) := d.parts i.fn false [.s .TK_LOCK [i.unit]]
    let rs := d.tk.records.take (i.u 1 4)
    let d := { d with tk := { d.tk with records := d.tk.records.drop (i.u 1 4) } }
    (ansOk (bs ++ leBytes 8 rs.length ++ rs.flatMap (fun r => leBytes 16 r.toNat)), d.wr R.TK_RSTAT F.TK_RSTAT_depth d.tk.records.length)

/-- LOCK_STATUS (R374). -/
def execLockStatus (fn : Fin 64) (s : State) : Outc := s.go (fun d => d.cageRun fn 0x0A02 cmdLockStatus ⟨fn, [], true, none, none⟩)

def cmdChannelSet : Cmd := writeCmd .b false 16 (·.badU 1024) (fun i => [(.TK_CHAN, [i.unit], i.w64 8)]) (fun _ => [])

/-- CHANNEL_SET (R283). -/
def execChannelSet (fn : Fin 64) (s : State) : Outc := s.go (fun d => d.cageRun fn 0x0A03 cmdChannelSet ⟨fn, [], true, none, none⟩)

def cmdDoldrumsConfig : Cmd :=
  writeCmd .b false 80 (fun i => i.badU 26 ++ i.badI .TK_DOLCFG 8 ++ (List.range 8).flatMap (fun w => i.badI .TK_WGRP (16 + 8 * w)))
    (fun i => (.TK_DOLCFG, [i.unit], i.w64 8) :: (List.range 8).map (fun w => (.TK_WGRP, [i.unit, w], i.w64 (16 + 8 * w)))) (fun _ => [])

/-- DOLDRUMS_CONFIG (R284). -/
def execDoldrumsConfig (fn : Fin 64) (s : State) : Outc := s.go (fun d => d.cageRun fn 0x0A04 cmdDoldrumsConfig ⟨fn, [], true, none, none⟩)

def cmdTokenStats : Cmd := readCmd .r 8 (fun i => [((decide (26 ≤ i.unit) && i.unit != 2 ^ 32 - 1) || decide (1 < i.u 4 4), 0)])
  (fun i => if i.unit < 26 then [.s .TK_DOLSTAT [i.unit], .c .TK_DOLSTAT [i.unit]] else [.c .TK_STAT [], .c .TK_RSTAT []]) true

/-- TOKEN_STATS (R374). -/
def execTokenStats (fn : Fin 64) (s : State) : Outc := s.go (fun d => d.cageRun fn 0x0A05 cmdTokenStats ⟨fn, [], true, none, none⟩)

def cmdLockForceRelease : Cmd where
  lvl := .e
  len := fun _ => 8
  bad := fun i _ => i.badU 4096
  regs := fun _ => [R.TK_CFG.addr]
  run := fun i d =>
    let (bs, d) := d.parts i.fn false [.s .TK_LOCK [i.unit]]
    (ansOk bs, d.forceRelease i.unit)

/-- LOCK_FORCE_RELEASE (R277). -/
def execLockForceRelease (fn : Fin 64) (s : State) : Outc := s.go (fun d => d.cageRun fn 0x0A06 cmdLockForceRelease ⟨fn, [], true, none, none⟩)

/-! ## Hoist -/

def cmdHoistStats : Cmd where
  lvl := .r
  len := fun _ => 8
  bad := fun i _ => i.badUc 1
  regs := fun _ => [R.HO_CFG.addr]
  run := fun i d =>
    let x := d.parts i.fn i.clr [.c .HO_CNT [], .c .HO_VCNT0 [], .c .HO_VCNT1 [], .c .HO_ERR [], .s .HO_OCC [], .s .HO_LATE []]
    (ansOk x.1, x.2.wrIf i.clr R.HO_LATE F.HO_LATE_valid 0)

/-- HOIST_STATS (R374). -/
def execHoistStats (fn : Fin 64) (s : State) : Outc := s.go (fun d => d.cageRun fn 0x0B01 cmdHoistStats ⟨fn, [], true, none, none⟩)

def cmdHoistDomainRead : Cmd where
  lvl := .r
  len := fun _ => 8
  bad := fun i _ => i.badU 65536
  regs := fun _ => [R.HO_CFG.addr]
  run := fun i d => (ansOk (leBytes 8 (d.domStat i.unit)), d)

/-- HOIST_DOMAIN_READ (R374). -/
def execHoistDomainRead (fn : Fin 64) (s : State) : Outc := s.go (fun d => d.cageRun fn 0x0B02 cmdHoistDomainRead ⟨fn, [], true, none, none⟩)

def cmdHoistConfig : Cmd :=
  writeCmd .e false 16 (fun i => i.badI .HO_CFG 0 ++ i.badI .HO_PART 8) (fun i => [(.HO_CFG, [], i.w64 0), (.HO_PART, [], i.w64 8)]) (fun _ => [])

/-- HOIST_CONFIG (R374). -/
def execHoistConfig (fn : Fin 64) (s : State) : Outc := s.go (fun d => d.cageRun fn 0x0B03 cmdHoistConfig ⟨fn, [], true, none, none⟩)

/-! ## Crosscut -/

def cmdMcastGroupSet : Cmd := writeCmd .b false 16 (·.badU 65536) (fun i => [(.XC_GRP, [i.unit], i.w64 8)]) (fun _ => [])

/-- MCAST_GROUP_SET (R308). -/
def execMcastGroupSet (fn : Fin 64) (s : State) : Outc := s.go (fun d => d.cageRun fn 0x0C01 cmdMcastGroupSet ⟨fn, [], true, none, none⟩)

def cmdMcastGroupGet : Cmd := readCmd .r 8 (·.badU 65536) (fun i => [.s .XC_GRP [i.unit]]) false

/-- MCAST_GROUP_GET (R374). -/
def execMcastGroupGet (fn : Fin 64) (s : State) : Outc := s.go (fun d => d.cageRun fn 0x0C02 cmdMcastGroupGet ⟨fn, [], true, none, none⟩)

def cmdMirrorSet : Cmd := writeCmd .b false 16 (fun i => (i.unit == 0, 0) :: i.badU 16) (fun i => [(.XC_MIRSES, [i.unit], i.w64 8)]) (fun _ => [])

/-- MIRROR_SET (R319). -/
def execMirrorSet (fn : Fin 64) (s : State) : Outc := s.go (fun d => d.cageRun fn 0x0C03 cmdMirrorSet ⟨fn, [], true, none, none⟩)

def cmdSwitchPortSet : Cmd := writeCmd .b false 16 (·.badU 32) (fun i => [(.XC_PORT, [i.unit], i.w64 8)]) (fun _ => [])

/-- SWITCH_PORT_SET (R374). -/
def execSwitchPortSet (fn : Fin 64) (s : State) : Outc := s.go (fun d => d.cageRun fn 0x0C04 cmdSwitchPortSet ⟨fn, [], true, none, none⟩)

def cmdCaptureSet : Cmd := writeCmd .b false 16 (fun _ => []) (fun i => [(.XC_CAPRING, [], i.w64 0), (.XC_CAPIDX, [], i.w64 8)]) (fun _ => [])

/-- CAPTURE_SET (R320). -/
def execCaptureSet (fn : Fin 64) (s : State) : Outc := s.go (fun d => d.cageRun fn 0x0C05 cmdCaptureSet ⟨fn, [], true, none, none⟩)

def cmdCaptureStatus : Cmd := readCmd .r 8 (·.badUc 1) (fun _ => [.s .XC_CAPIDX [], .c .XC_CAPSTAT []]) true

/-- CAPTURE_STATUS (R374). -/
def execCaptureStatus (fn : Fin 64) (s : State) : Outc := s.go (fun d => d.cageRun fn 0x0C06 cmdCaptureStatus ⟨fn, [], true, none, none⟩)

def cmdPlaneStatus : Cmd := readCmd .r 8 (·.badUc 1) (fun _ => [.s .XC_CFG [], .s .XC_PLMAP [], .s .XC_PLMOVE [], .c .XC_PLLOST []]) true

/-- PLANE_STATUS (R374). -/
def execPlaneStatus (fn : Fin 64) (s : State) : Outc := s.go (fun d => d.cageRun fn 0x0C07 cmdPlaneStatus ⟨fn, [], true, none, none⟩)

def cmdSwitchStats : Cmd := readCmd .r 8 (·.badUc 57) (fun i =>
  let n := i.unit
  if n < 32 then [.s .XC_PORT [n], .c .XC_PORT [n], .c .XC_PCNT [n]]
  else if n < 44 then [.s .XC_ROWSTAT [n - 32], .c .XC_ROWSTAT [n - 32], .c .XC_ROWREF [n - 32]]
  else if n < 56 then [.s .XC_COL [n - 44], .c .XC_COL [n - 44]]
  else [.c .XC_ERR [], .c .XC_LENERR []] ++ (List.range 15).map (fun s => .c .XC_MIRCNT [s + 1])) true

/-- SWITCH_STATS (R374). -/
def execSwitchStats (fn : Fin 64) (s : State) : Outc := s.go (fun d => d.cageRun fn 0x0C08 cmdSwitchStats ⟨fn, [], true, none, none⟩)

def cmdSwitchThreshSet : Cmd := writeCmd .e false 16 (·.badU 12) (fun i => [(.XC_ROWTHR, [i.unit], i.w64 8)]) (fun _ => [])

/-- SWITCH_THRESH_SET (R307). -/
def execSwitchThreshSet (fn : Fin 64) (s : State) : Outc := s.go (fun d => d.cageRun fn 0x0C09 cmdSwitchThreshSet ⟨fn, [], true, none, none⟩)

def cmdPlaneMapSet : Cmd := writeCmd .e false 8 (fun _ => []) (fun i => [(.XC_PLMAP, [], i.w64 0)]) (fun _ => []) 7

/-- PLANE_MAP_SET (R310). -/
def execPlaneMapSet (fn : Fin 64) (s : State) : Outc := s.go (fun d => d.cageRun fn 0x0C0A cmdPlaneMapSet ⟨fn, [], true, none, none⟩)

def cmdSwitchConfig : Cmd :=
  writeCmd .e false 168 (fun i => i.badI .XC_CFG 0 ++ (List.range 8).flatMap (fun c => i.badI .XC_RESLIM (8 + 8 * c)))
    (fun i => (.XC_CFG, [], i.w64 0) :: (List.range 8).map (fun c => (.XC_RESLIM, [c], i.w64 (8 + 8 * c)))
      ++ (List.range 12).map (fun c => (.XC_COL, [c], i.w64 (72 + 8 * c)))) (fun _ => [])

/-- SWITCH_CONFIG (R374). -/
def execSwitchConfig (fn : Fin 64) (s : State) : Outc := s.go (fun d => d.cageRun fn 0x0C0B cmdSwitchConfig ⟨fn, [], true, none, none⟩)

/-! ## Bin -/

def cmdBinStats : Cmd where
  lvl := .r
  len := fun _ => 8
  bad := fun i _ => i.badUc 12
  regs := fun i => [(R.BN_ROWCFG i.unit).addr]
  run := fun i d =>
    let r := i.unit
    answered (d.parts i.fn i.clr ([.s .BN_ROWSTAT [r], .c .BN_ROWSTAT [r]]
      ++ (List.range 34).map (fun q => .w (d.rd (R.BN_QUOTA q r) F.BN_QUOTA_used)) ++ [.c .BN_ERR [], .s .BN_BAD []]))

/-- BIN_STATS (R374). -/
def execBinStats (fn : Fin 64) (s : State) : Outc := s.go (fun d => d.cageRun fn 0x0D01 cmdBinStats ⟨fn, [], true, none, none⟩)

def cmdBinQuotaSet : Cmd :=
  writeCmd .e false 288 (·.badU 12)
    (fun i => (.BN_ROWCFG, [i.unit], i.w64 8) :: (List.range 34).map (fun q => (.BN_QUOTA, [q, i.unit], i.w64 (16 + 8 * q)))) (fun _ => [])

/-- BIN_QUOTA_SET (R330). -/
def execBinQuotaSet (fn : Fin 64) (s : State) : Outc := s.go (fun d => d.cageRun fn 0x0D02 cmdBinQuotaSet ⟨fn, [], true, none, none⟩)

end Sys2Proof.Machine
end

