-- ==== Sys2Proof/Machine/Cage.lean ====
section
/-!
DEFINITION. Cage control and the Overman (R361 to R380): the doorbell, requests that a check refuses, events, leases, polls and
takeovers.
-/

namespace Sys2Proof.Machine

/-- The commands by their codes (R371 to R375). -/
def cmdOf : Nat → Option Cmd
  | 0x0001 => some cmdIdentify
  | 0x0002 => some cmdNop
  | 0x0003 => some cmdDeviceStatus
  | 0x0004 => some cmdEventMask
  | 0x0005 => some cmdExpertGrant
  | 0x0006 => some cmdExpertRelease
  | 0x0007 => some cmdFunctionRights
  | 0x0008 => some cmdFwUpdate
  | 0x0009 => some cmdFwActivate
  | 0x000A => some cmdWarmReset
  | 0x0101 => some cmdPortConfig
  | 0x0102 => some cmdPortStatus
  | 0x0103 => some cmdPortStats
  | 0x0104 => some cmdGateListLoad
  | 0x0105 => some cmdMacsecSaSet
  | 0x0106 => some cmdPtpConfig
  | 0x0107 => some cmdRedPairSet
  | 0x0201 => some cmdTimeConfig
  | 0x0202 => some cmdTimeStatus
  | 0x0203 => some cmdUtcSet
  | 0x0204 => some cmdTimeStep
  | 0x0301 => some cmdRuleWrite
  | 0x0302 => some cmdRuleFlag
  | 0x0303 => some cmdRuleRead
  | 0x0304 => some cmdKeyProfileSet
  | 0x0305 => some cmdParseLoad
  | 0x0306 => some cmdRuleCommit
  | 0x0307 => some cmdRuleStatus
  | 0x0308 => some cmdRuleRetire
  | 0x0309 => some cmdExcConfig
  | 0x030A => some cmdExcStats
  | 0x030B => some cmdEddyConfig
  | 0x030C => some cmdAssayStats
  | 0x0401 => some cmdStationAdd
  | 0x0402 => some cmdStationDel
  | 0x0403 => some cmdStationFlush
  | 0x0404 => some cmdStationRead
  | 0x0405 => some cmdStationConfig
  | 0x0406 => some cmdStreamSet
  | 0x0407 => some cmdStreamGet
  | 0x0408 => some cmdMeterSet
  | 0x0409 => some cmdTableStats
  | 0x0501 => some cmdTemplateLoad
  | 0x0502 => some cmdTemplateEnable
  | 0x0503 => some cmdTemplateStatus
  | 0x0504 => some cmdAffinitySet
  | 0x0505 => some cmdTwinConfig
  | 0x0506 => some cmdSchedStats
  | 0x0507 => some cmdTraceStart
  | 0x0508 => some cmdTraceStop
  | 0x0509 => some cmdDraughtConfig
  | 0x0601 => some cmdGalleryLoad
  | 0x0602 => some cmdGalleryStatus
  | 0x0603 => some cmdRoseSet
  | 0x0604 => some cmdFaultRead
  | 0x0605 => some cmdGalleryReset
  | 0x0606 => some cmdThreadReset
  | 0x0701 => some cmdFaceLoad
  | 0x0702 => some cmdFaceRun
  | 0x0703 => some cmdFaceStatus
  | 0x0704 => some cmdCpStats
  | 0x0801 => some cmdPhasorBind
  | 0x0802 => some cmdPhasorUnbind
  | 0x0803 => some cmdPhasorEnable
  | 0x0804 => some cmdPmuOutputSet
  | 0x0805 => some cmdPhasorStatus
  | 0x0806 => some cmdPmuStats
  | 0x0901 => some cmdLodeOp
  | 0x0902 => some cmdLodeRead
  | 0x0903 => some cmdLodeWrite
  | 0x0904 => some cmdLodeFlush
  | 0x0905 => some cmdLodeExportSet
  | 0x0906 => some cmdLodeAnomalyRead
  | 0x0907 => some cmdLodeStats
  | 0x0908 => some cmdLodeAgeSet
  | 0x0909 => some cmdLodeConfig
  | 0x0A01 => some cmdLockGroupSet
  | 0x0A02 => some cmdLockStatus
  | 0x0A03 => some cmdChannelSet
  | 0x0A04 => some cmdDoldrumsConfig
  | 0x0A05 => some cmdTokenStats
  | 0x0A06 => some cmdLockForceRelease
  | 0x0B01 => some cmdHoistStats
  | 0x0B02 => some cmdHoistDomainRead
  | 0x0B03 => some cmdHoistConfig
  | 0x0C01 => some cmdMcastGroupSet
  | 0x0C02 => some cmdMcastGroupGet
  | 0x0C03 => some cmdMirrorSet
  | 0x0C04 => some cmdSwitchPortSet
  | 0x0C05 => some cmdCaptureSet
  | 0x0C06 => some cmdCaptureStatus
  | 0x0C07 => some cmdPlaneStatus
  | 0x0C08 => some cmdSwitchStats
  | 0x0C09 => some cmdSwitchThreshSet
  | 0x0C0A => some cmdPlaneMapSet
  | 0x0C0B => some cmdSwitchConfig
  | 0x0D01 => some cmdBinStats
  | 0x0D02 => some cmdBinQuotaSet
  | 0x0E01 => some cmdQueueAssign
  | 0x0E02 => some cmdQueueSetup
  | 0x0E03 => some cmdQueueEnable
  | 0x0E04 => some cmdQueueStats
  | 0x0E05 => some cmdLinkStatus
  | 0x0E06 => some cmdHostConfig
  | 0x0F01 => some cmdSeamStatus
  | 0x0F02 => some cmdSeamSpare
  | 0x0F11 => some cmdReliefStatus
  | 0x0F12 => some cmdReliefForce
  | 0x0F21 => some cmdPowerStatus
  | 0x1001 => some cmdPolicySet
  | 0x1002 => some cmdPolicyStatus
  | 0x1003 => some cmdLedgerRead
  | 0x1004 => some cmdCalibRead
  | 0x1005 => some cmdCalibWrite
  | 0x1101 => some cmdTallyRead
  | 0x1102 => some cmdTallyStatus
  | 0x1103 => some cmdTallyLimit
  | 0x1201 => some cmdDebugChallenge
  | 0x1202 => some cmdDebugUnlock
  | 0x1203 => some cmdDebugLock
  | _ => none

/-- CAGE_DOORBELL (R362): a write of a function's CG_DOOR. -/
def execCageDoorbell (src : Src) (fn : Fin 64) (v : Word32) (s : State) : Outc :=
  s.go (fun d => d.busWrite src (R.CG_DOOR fn).addr 4 (v.setWidth 64) true)

/-- BAD_REQUEST (R363): the request of a function fails a check before its command runs. -/
def execBadRequest (fn : Fin 64) (s : State) : Outc := s.go (fun d =>
  let h := d.reqHdr fn
  if !d.waiting fn then d
  else
    match d.reqStatus fn h (cmdOf h.code) ⟨fn, d.reqBody fn (h.length.min 2032), true, none, none⟩ with
    | some st => d.reply fn h ⟨st, 0xFF, []⟩
    | none => d)

/-- A request of the start-up configuration (R464), as if it came from the PF with a grant: the status it ends with. What the
outside decides of it goes its good way. -/
def Dev.runRequest (d : Dev) (code : Nat) (body : List Byte) : Nat × Dev :=
  let i : CmdIn := ⟨0, body, true, none, none⟩
  match cmdOf code with
  | none => (1, d)
  | some c =>
    if body.length < c.len i || (c.len i + 7) / 8 * 8 < body.length then (3, d)
    else
      match d.runCmd c i with
      | (some a, d) => (a.status, d)
      | (none, d) => (7, d)

/-! ## Events (R376, R377) -/

/-- The 32 bytes of an event. -/
def Event.bytes (e : Event) : List Byte :=
  leBytes 32 (e.code + e.unit % 2 ^ 16 * 2 ^ 16 + e.detail % 2 ^ 32 * 2 ^ 32 + stampOf e.time * 2 ^ 64 + e.extra * 2 ^ 128)

/-- Write an event into a function's ring, or count it lost at a full ring. -/
def Dev.eventPut (d : Dev) (e : Event) (fn : Nat) : Dev :=
  let r := R.CG_EVIDX fn
  let w := d.rd r F.CG_EVIDX_ev_wr
  if (w + 2 ^ 16 - d.rd r F.CG_EVIDX_ev_rd) % 2 ^ 16 = 16 then d.inc (R.CG_EVLOST fn) F.CG_EVLOST_lost
  else
    let d := (d.put (cageBase fn + 0xE00 + w % 16 * 32) e.bytes).wr r F.CG_EVIDX_ev_wr (w + 1)
    if d.pba fn 1 then d else d.msix fn 1

/-- EVENT_WRITE (R377): the oldest raised event goes into every ring whose mask takes its class. -/
def execEventWrite (s : State) : Outc := s.go (fun d =>
  match d.events with
  | [] => d
  | e :: rest =>
    let d := { d with events := rest }
    ((List.range 64).filter (fun fn => d.fnExists fn && bitAt (d.evMask fn) (e.code / 16))).foldl (fun d fn => d.eventPut e fn) d)

/-! ## Leases and polls (R367, R368) -/

/-- GRANT_EXPIRY k (R367). -/
def execGrantExpiry (k : Fin 4) (s : State) : Outc := s.go (fun d =>
  if d.on (R.CG_GRANT k) F.CG_GRANT_valid && !d.granted (d.rd (R.CG_GRANT k) F.CG_GRANT_fn) then d.grantEnd k else d)

/-- Registers whose RC counters a statistics command names. -/
def polled : RegId → Bool
  | .HI_QSTAT | .HI_QCNT | .HI_ERR | .AS_RSTAT | .AS_EXCCNT | .AS_PSTAT | .AS_EDDYSTAT | .ST_PCNT | .ST_PMOV | .ST_PERR | .ST_SSTAT
  | .ST_SPERR | .DR_CQ | .DR_CLOAD | .DR_CHIST | .DR_GSTAT | .DR_PSTAT | .DR_PCNT | .DR_TRSTAT | .GL_ECC | .GL_FCSTAT | .GL_CPSTAT
  | .GL_CP2STAT | .PH_OCNT | .PH_STAT | .LD_STAT | .LD_EXPSTAT | .LD_ANSTAT | .LD_ECC | .LD_QSTAT | .TK_DOLSTAT | .TK_STAT | .TK_RSTAT
  | .HO_CNT | .HO_VCNT0 | .HO_VCNT1 | .HO_ERR | .XC_CAPSTAT | .XC_PLLOST | .XC_PORT | .XC_PCNT | .XC_ROWSTAT | .XC_ROWREF | .XC_COL
  | .XC_ERR | .XC_LENERR | .XC_MIRCNT | .BN_ROWSTAT | .BN_ERR | .SM_CHSTAT | .TL_LOST => true
  | _ => false

/-- COUNTER_POLL a (R368): the poll of the register at an address. -/
def execCounterPoll (a : Fin 67108864) (s : State) : Outc := s.go (fun d =>
  match findReg a with
  | some (id, ix) => if polled id && d.reachable a then (d.pollReg id ix).2 else d
  | none => d)

/-! ## Takeovers (R380) -/

/-- CANARY_EXPIRY (R380). -/
def execCanaryExpiry (s : State) : Outc := s.go (fun d => d.omTakeover 1)
/-- LOCKSTEP_MISMATCH (R380). -/
def execLockstepMismatch (s : State) : Outc := s.go (fun d => d.omTakeover 0)
/-- OVERMAN_MEMORY_ERROR (R380). -/
def execOvermanMemoryError (s : State) : Outc := s.go (fun d => d.omTakeover 2)

/-- TAKEOVER_COMPLETE (R380, R416): core C is in charge, or cores A and B are again after a return, and what was taken is answered with
status 0x0C. -/
def execTakeoverComplete (s : State) : Outc := s.go (fun d =>
  if d.devState ≠ 3 then d
  else
    let lost := d.cg.lost.filter (fun fn => d.on (R.CG_STAT fn) F.CG_STAT_busy)
    let d := lost.foldl (fun (d : Dev) fn => d.reply fn (d.reqHdr fn) ⟨0x0C, 0xFF, []⟩) d
    let d := { d with devState := d.cg.was, cg := { d.cg with lost := [] } }
    if d.on R.RL_FENCE F.RL_FENCE_om_ab then
      (({ d with cg := { d.cg with om := 1 } }).event 0x02 0 0).alarm F.RL_ALARM_om_single true
    else ({ d with cg := { d.cg with om := 0 } }).alarm F.RL_ALARM_om_single false)

end Sys2Proof.Machine
end

