-- ==== Sys2Proof/Machine/Ingress.lean ====
section
/-!
DEFINITION. The commands from a frame's arrival to its tub: ports, pipes, assayers, the in-order stage, the exception path,
rule versions and Eddy (R31, R73 to R103).
-/

namespace Sys2Proof.Machine

/-! ## Arrival -/

/-- A new frame under a fresh handle. -/
def Dev.newFrame (d : Dev) (f : Frame) : Dev := { (d.setFrame (d.nextFrame + 1) f) with nextFrame := d.nextFrame + 1 }

/-- The ingress stamp at J1 in units of 2^-16 ns (R37, R39). -/
def Dev.inStamp (d : Dev) (p : Nat) : Nat × Dev :=
  let (e, d) := d.stampErr p
  (quarters (((d.now / 16384 : Nat) : Int) - (d.rd (R.PT_TSDLY p) F.PT_TSDLY_in_delay : Nat) + e), d)

/-- FRAME_RECEIVE p (R31, R35, R37, R39): the bytes from destination address to FCS after MACsec. `sec`: none without
protection, some true when the association verified the frame, some false when it refused it. -/
def execFrameReceive (p : Fin 32) (data : List Byte) (sec : Option Bool) (s : State) : Outc := s.go (fun d =>
  let p := p.val
  if d.portSt p ≠ 2 || d.isleFenced (26 + p / 4) then d
  else if sec = some false then d.stat p 12
  else
    let d := if sec = some true then d.stat p 11 else d
    if data.length < 64 then d.stat p 5
    else
      let d := (d.stat p 0).stat p 2 data.length
      let cal := d.on (R.PT_PSTAT p) F.PT_PSTAT_ts_cal_valid
      let (st, d) := if cal then d.inStamp p else (0, d)
      let bytes := data.take 16383
      let beyond := decide (16383 < data.length)
      let ok := crc32 (bytes.take (bytes.length - 4)) == leNat (bytes.drop (bytes.length - 4))
      d.newFrame { stage := .wire, row := p / 4, inPort := p, pipe := p / 8, data := bytes, beyond := beyond, fcsOk := beyond || ok
                   stamp := stampOf st, tsValid := cal, secOk := sec == some true })

/-- Frames that wait for a pipe: from its ports, from Eddy or from the host. -/
def Dev.inPipe (d : Dev) (p : Nat) (src : Nat) : Option (Nat × Frame) :=
  d.frames.find? (fun e => e.2.pipe == p && (match src with
    | 0 => e.2.stage == .wire && e.2.inPort < 32
    | 1 => e.2.stage == .eddy
    | _ => e.2.stage == .wire && e.2.inPort == 32))

/-- The source among Eddy and host that the weighted round robin serves (R74), and its state after. -/
def Dev.pickSource (d : Dev) (p : Nat) : Nat × Nat :=
  let st := d.as.wrr.get 0 p
  let src := st % 2
  let w := (if src = 0 then d.rd (R.AS_PCFG p) F.AS_PCFG_eddy_w else d.rd (R.AS_PCFG p) F.AS_PCFG_host_w).max 1
  match (d.inPipe p 1).isSome, (d.inPipe p 2).isSome with
  | true, true => if st / 2 < w then (src, st + 2) else (1 - src, 2 + (1 - src))
  | true, false => (0, if src = 0 then (st + 2).min (2 * w) else 2)
  | _, _ => (1, if src = 1 then (st + 2).min (2 * w + 1) else 3)

/-- The rule version of an accepted frame (R88, R90, R95). -/
def Dev.takeVersion (d : Dev) (f : Frame) : Frame × Dev :=
  let now := d.as.pipeVer.get 0 f.pipe
  let up (d : Dev) (f : Frame) := if d.isPrev f then d.wr R.AS_RVER F.AS_RVER_prev_cnt (d.rd R.AS_RVER F.AS_RVER_prev_cnt + 1) else d
  if f.pass = 0 then (let f := { f with ver := now, retired := false }; (f, up d f))
  else if f.eddyNew then
    let d := if d.isPrev f then d.wr R.AS_RVER F.AS_RVER_prev_cnt (d.rd R.AS_RVER F.AS_RVER_prev_cnt - 1) else d
    let f := { f with ver := now, retired := false, eddyNew := false }
    (f, (up d f).prevDrain)
  else (f, d)

/-- A pipe takes a frame: arrival index, FIFO, version (R75). -/
def Dev.accept (d : Dev) (h : Nat) (f : Frame) : Dev :=
  let p := f.pipe
  let f := if f.stage = .eddy then { f with pass := f.pass + 1 } else { f with winLen := f.data.length.min 256 }
  let f := if f.inPort < 32 && !f.tsValid && f.pass = 0 then { f with stamp := stampOf (quarter d.now) } else f
  let f := if f.inPort = 32 && f.pass = 0 then { f with stamp := stampOf (quarter d.now) } else f
  let d := if f.inPort = 32 && f.pass = 0 then d.txPassed f else d
  let (f, d) := d.takeVersion f
  let i := d.as.nextIdx.get 0 p
  let d := { d with as := { d.as with nextIdx := d.as.nextIdx.set 0 p (i + 1), fifo := d.as.fifo.upd [] p (· ++ [h])
                                      order := d.as.order.upd [] p (· ++ [h]) } }
  (d.setFrame h { f with stage := .fifo, idx := i, exc := none, dropped := false, notReady := !d.as.ready.get false p }).inc
    (R.AS_PSTAT p) F.AS_PSTAT_in_cnt

/-- Port frames meet a full FIFO (R75): a row that uses pause or PFC holds its partners once, and the oldest frame of a port without flow
control is discarded. -/
def Dev.pipeFull (d : Dev) (p : Nat) : Dev :=
  let waits (fc : Bool) (e : Nat × Frame) : Bool :=
    e.2.pipe == p && e.2.stage == .wire && e.2.inPort < 32 && (d.rd (R.PT_PCFG e.2.inPort) F.PT_PCFG_fc_mode == 0) != fc
  match d.frames.find? (fun e => waits true e && !d.bn.pausing.get false e.2.row), d.frames.find? (waits false) with
  | some (_, f), _ => ({ d with bn := { d.bn with pausing := d.bn.pausing.set false f.row true } }).sendPause f.row true
  | none, some (h, _) => ({ d with frames := d.frames.del h }).inc (R.AS_PSTAT p) F.AS_PSTAT_ovf_cnt
  | none, none => d

/-- PIPE_ACCEPT p (R73 to R75): port frames first, then Eddy and host by weight. -/
def execPipeAccept (p : Fin 4) (s : State) : Outc := s.go (fun d =>
  let p := p.val
  let full := 64 ≤ (d.as.fifo.get [] p).length
  if d.isleFenced (34 + p) || d.isleFenced (38 + p) then d
  else
  match d.inPipe p 0 with
  | some (h, f) => if full then d.pipeFull p else d.accept h f
  | none =>
    if full then d
    else
      let (src, st) := d.pickSource p
      match d.inPipe p (1 + src) with
      | some (h, f) => ({ d with as := { d.as with wrr := d.as.wrr.set 0 p st } }).accept h f
      | none => d)

/-- BODY_COMPLETE (R16, R31, R108): the last byte of a body is in, or the rest was cut for want of a cell. -/
def execBodyComplete (h : Nat) (s : State) : Outc := s.go (fun d =>
  match d.frames.find h with
  | none => d
  | some f =>
    if f.bodyDone || f.stage = .wire || f.stage = .held || (f.stored < f.data.length && !f.trunc && f.stage != .ending) then d
    else
      let d := if f.beyond then d.stat f.inPort 6 else if !f.trunc && !f.fcsOk then d.stat f.inPort 4 else d
      let d := (d.modFrame h (fun f => { f with bodyDone := true })).learnTry h
      let f := d.frame h
      match f.stage with
      | .ending => { d with frames := d.frames.del h }
      | .excepted => if f.bad then d.dropFrame h else d
      | .job =>
        match d.ho.tickets.find? (fun e => e.2.frame == h && e.2.st == 2) with
        | some (t, _) => if f.bad then d.bodyBad t else d
        | none => d
      | _ => d)

/-! ## Assayers -/

/-- The admission queue of a pipe and class has room (R129). -/
def Dev.admRoom (d : Dev) (p tclass : Nat) : Bool := (d.dr.adm.get [] (admKey p tclass)).length < 64

/-- The exception of a frame that stands at the head of the order: a frame not accepted under a commit takes 0x09 (R102). -/
def Frame.excNow (f : Frame) : Option Nat := if f.notReady then some 0x09 else f.exc

/-- The in-order stage of a pipe stalls: the frame whose turn it is finds its admission queue full (R129). -/
def Dev.issueStalled (d : Dev) (p : Nat) : Bool :=
  match d.as.order.get [] p with
  | [] => false
  | h :: _ =>
    let f := d.frame h
    f.stage == .parsed && !f.bad && f.cell.isSome && !d.admRoom p (T.tclass.get f.tub)
      && (match f.excNow with | some c => d.rd (R.AS_EXCCFG c) F.AS_EXCCFG_target == 2 | none => !f.dropped)

/-- PARSE_START p a (R76, R79): an idle assayer takes the oldest header window, unless the in-order stage stalls: the FIFO then fills
(R129; DESIGN CHOICE, log entry 184). -/
def execParseStart (p : Fin 4) (a : Fin 16) (s : State) : Outc := s.go (fun d =>
  let p := p.val
  let k := asKey p a
  match d.as.assayers.find k, d.as.fifo.get [] p with
  | none, h :: r =>
    if d.issueStalled p then d else
    let f := d.frame h
    let (v, d) := d.lookupVer f.ver f.retired
    let x : Assayer := { frame := h, ver := v, wv := f.window, fv := f.startFv }
    let d := { d with as := { d.as with fifo := d.as.fifo.set [] p r, assayers := d.as.assayers.put k x } }
    d.modFrame h (fun f => { f with stage := .parsing })
  | _, _ => d)

/-- ASSAY_EXT (R77). -/
def execAssayExt (p : Fin 4) (a : Fin 16) (s : State) : Outc := s.go (fun d => d.assay p a 0 (fun w x =>
  let n := bitsOf w 3 7 + 1
  let pos := bitsOf w 10 10
  let o := x.cur + bitsOf w 20 8
  let nb := (n + 7) / 8
  if 896 < pos + n then .exc 0x05
  else if x.wv.length < o + nb then .exc 0x03
  else .go { x.next with fv := BF.put ⟨pos, n⟩ x.fv (beNat ((x.wv.drop o).take nb) / 2 ^ (8 * nb - n)) }))

/-- LDR (R77). -/
def execLdr (p : Fin 4) (a : Fin 16) (s : State) : Outc := s.go (fun d => d.assay p a 1 (fun w x =>
  let o := x.cur + bitsOf w 20 8
  let size := bitsOf w 16 2
  if x.wv.length < o + (if size = 1 then 2 else 1) then .exc 0x03
  else
    let v := match size with
      | 0 => wire8 x.wv o
      | 1 => beNat ((x.wv.drop o).take 2)
      | 2 => wire8 x.wv o / 16
      | _ => wire8 x.wv o % 16
    .go (x.next.setP (bitsOf w 18 2) v)))

/-- ADVI (R77). -/
def execAdvi (p : Fin 4) (a : Fin 16) (s : State) : Outc :=
  s.go (fun d => d.assay p a 2 (fun w x => .go { x.next with cur := x.cur + bitsOf w 0 8 }))

/-- ADVR (R77). -/
def execAdvr (p : Fin 4) (a : Fin 16) (s : State) : Outc := s.go (fun d => d.assay p a 3 (fun w x =>
  .go { x.next with cur := x.cur + ((x.p (bitsOf w 26 2)).toNat &&& bitsOf w 18 8) * 2 ^ bitsOf w 16 2 }))

/-- BEQ (R77). -/
def execBeq (p : Fin 4) (a : Fin 16) (s : State) : Outc := s.go (fun d => d.assay p a 4 (fun w x => asBranch w x (fun r i => r == i)))

/-- BNE (R77). -/
def execBne (p : Fin 4) (a : Fin 16) (s : State) : Outc := s.go (fun d => d.assay p a 5 (fun w x => asBranch w x (fun r i => r != i)))

/-- BSET (R77). -/
def execBset (p : Fin 4) (a : Fin 16) (s : State) : Outc :=
  s.go (fun d => d.assay p a 6 (fun w x => asBranch w x (fun r i => (r &&& i) != 0)))

/-- JMP (R77). -/
def execJmp (p : Fin 4) (a : Fin 16) (s : State) : Outc := s.go (fun d => d.assay p a 7 (fun w x => .go (x.goto (bitsOf w 0 10))))

/-- SETB (R77). -/
def execSetb (p : Fin 4) (a : Fin 16) (s : State) : Outc := s.go (fun d => d.assay p a 8 (fun w x =>
  let pos := bitsOf w 10 10
  if 896 ≤ pos then .exc 0x05 else .go { x.next with fv := BF.put ⟨pos, 1⟩ x.fv 1 }))

/-- PUTR (R77). -/
def execPutr (p : Fin 4) (a : Fin 16) (s : State) : Outc := s.go (fun d => d.assay p a 9 (fun w x =>
  let pos := bitsOf w 10 10
  if 896 < pos + 16 then .exc 0x05 else .go { x.next with fv := BF.put ⟨pos, 16⟩ x.fv (x.p (bitsOf w 26 2)).toNat }))

/-- KEYP (R77). -/
def execKeyp (p : Fin 4) (a : Fin 16) (s : State) : Outc :=
  s.go (fun d => d.assay p a 10 (fun w x => .go { x.next with prof := bitsOf w 0 3 }))

/-- HDR (R77, R79). -/
def execHdr (p : Fin 4) (a : Fin 16) (s : State) : Outc := s.go (fun d => d.assay p a 11 (fun w x =>
  if 255 < x.cur then .exc 0x03 else .go { x.next with fv := (FV.layer (bitsOf w 0 2)).put x.fv x.cur }))

/-- DONE (R81, R82, R85, R103, R107, R116). -/
def execDone (p : Fin 4) (a : Fin 16) (s : State) : Outc := s.go (fun d => d.assay p a 12 (fun _ _ => .done))

/-- FAIL (R78). -/
def execFail (p : Fin 4) (a : Fin 16) (s : State) : Outc := s.go (fun d => d.assay p a 13 (fun w _ =>
  let c := bitsOf w 0 8
  .exc (if 0x20 ≤ c && c ≤ 0x3F then c else 0x05)))

/-- LDM (R77). -/
def execLdm (p : Fin 4) (a : Fin 16) (s : State) : Outc := s.go (fun d => d.assay p a 14 (fun w x =>
  let f : Option BF := match bitsOf w 22 4 with
    | 0 => some FV.rflags | 1 => some FV.appid | 2 => some FV.etype_off | 3 => some FV.in_port
    | 4 => some FV.pass | 5 => some FV.length | 6 => some FV.red_seq | 7 => some FV.rtag_seq | _ => none
  match f with
  | some f => .go (x.next.setP (bitsOf w 26 2) (f.get x.fv))
  | none => .exc 0x05))

/-- ASSAYER_ILLEGAL_OP (R78): op 15. -/
def execAssayerIllegalOp (p : Fin 4) (a : Fin 16) (s : State) : Outc := s.go (fun d => d.assay p a 15 (fun _ _ => .exc 0x05))

/-- PARSE_OVERRUN (R78). -/
def execParseOverrun (p : Fin 4) (a : Fin 16) (s : State) : Outc := s.go (fun d =>
  match d.as.assayers.find (asKey p a) with
  | some x => if d.stepMax p ≤ x.steps then d.parseFail (asKey p a) x 0x04 else d
  | none => d)

/-! ## The in-order stage (R87) -/

/-- TUB_ISSUE p (R85, R87, R96, R102): the frame whose turn it is. -/
def execTubIssue (p : Fin 4) (s : State) : Outc := s.go (fun d =>
  let p := p.val
  match d.as.order.get [] p with
  | [] => d
  | h :: r =>
    let f := d.frame h
    let pop (d : Dev) := { d with as := { d.as with order := d.as.order.set [] p r } }
    let ready (d : Dev) := (pop d).modFrame h (fun f => { f with tub := T.cell.put f.tub (f.cell.getD 0) })
    if f.stage ≠ .parsed then d
    else if f.bad then (pop d).dropFrame h
    else
      match f.excNow, f.cell with
      | none, none => if f.dropped then (pop d).dropFrame h else d
      | some _, none => d
      | some c, some _ =>
        if d.rd (R.AS_EXCCFG c) F.AS_EXCCFG_target = 2 && !d.admRoom p (T.tclass.get f.tub) then d else (ready d).exception h c
      | none, some _ =>
        if f.dropped then (pop d).dropFrame h
        else if !d.admRoom p (T.tclass.get f.tub) then d
        else
          let d := ready d
          (if f.hasSeq then d else d.giveSeq h f.dom).admEnqueue h)

/-! ## The exception path (R96, R97) -/

/-- A frame enters the Crosscut and leaves the Eddy. -/
def Dev.excSend (d : Dev) (h : Nat) (r : EnqReq) : Dev :=
  let e := (d.eddyTicketEnd h).eddyReturn h
  { (e.modFrame h (fun f => { f with stage := .switched })) with xc := { e.xc with reqs := e.xc.reqs ++ [r] } }

/-- A frame on a later pass takes a header cell of its own first; with none it waits. -/
def Dev.excCell (d : Dev) (h : Nat) (f : Frame) (p : Nat) (req : EnqReq) : Dev :=
  let x := d.alloc f.row tagXc none
  match x.1 with
  | some c => ((x.2.put (rowAddr f.row (ptrIdx c) 0) f.eh).append p c).excSend h { req with orig := false, eh := f.eh, hdr := c }
  | none => x.2

/-- The delivery of a frame to the exception engine's queue. -/
def Dev.excDeliver (d : Dev) (h : Nat) (f : Frame) (p : Nat) : Dev :=
  let req : EnqReq := { src := 3, tub := Tub.clean f.tub, winLen := f.winLen, frame := h, qp := f.qp, exc := f.exc.getD 0, mirror := f.mirror }
  if f.pass = 0 then d.excSend h req else d.excCell h f p req

/-- EXCEPTION_DELIVER h (R96): a frame for the Overman or a host queue whose body is complete and good goes to Crosscut. One that
re-entered from Eddy leaves with its edited header, in a cell of its own, and gives its credit back (R93). -/
def execExceptionDeliver (h : Nat) (s : State) : Outc := s.go (fun d =>
  match d.frames.find h with
  | none => d
  | some f =>
    match f.cell with
    | some p => if f.stage == .excepted && f.bodyDone && !f.bad then d.excDeliver h f p else d
    | none => d)

/-- EXC_TOKEN_CREDIT (R97): every bucket that is not full gains a microsecond's tokens. -/
def execExcTokenCredit (s : State) : Outc := s.go (fun d =>
  d.as.excTokens.foldl (fun d e =>
    let full := (d.rd (R.AS_EXCCFG e.1) F.AS_EXCCFG_burst).max 1 * 1000000
    d.setExcTokens e.1 ((d.excTokens e.1 + d.rd (R.AS_EXCCFG e.1) F.AS_EXCCFG_rate).min full)) d)

/-! ## Versions -/

/-- COMMIT_EFFECT p (R90, R102). -/
def execCommitEffect (p : Fin 4) (s : State) : Outc := s.go (fun d => d.commitEffect p)

/-- STAGING_COPY_DONE (R91). -/
def execStagingCopyDone (s : State) : Outc := s.go (fun d =>
  if d.as.copying then ({ d.copySlot with as := { d.copySlot.as with copying := false } }).wr R.AS_RVER F.AS_RVER_stage_ready 1 else d)

/-! ## Eddy (R93, R94) -/

/-- EDDY_ENQUEUE (R93 to R95, R314): the oldest tub at column 9. -/
def execEddyEnqueue (s : State) : Outc := s.go (fun d =>
  match d.xc.eddy with
  | [] => d
  | r :: rest =>
    let d := { d with xc := { d.xc with eddy := rest } }
    let h := r.frame
    let merged := T.length.get r.tub - r.winLen + r.eh.length
    if (d.frames.find h).isNone then d.dropref (T.cell.get r.tub)
    else if T.pass.get r.tub = 2 then (d.inc R.AS_EDDYSTAT F.AS_EDDYSTAT_pass_drop).dropFrame h
    else if 16383 < merged then (d.inc R.XC_LENERR F.XC_LENERR_long_drop).dropFrame h
    else if d.rd R.AS_EDDYCFG F.AS_EDDYCFG_credit ≤ d.rd R.AS_EDDYSTAT F.AS_EDDYSTAT_in_use then
      (d.inc R.AS_EDDYSTAT F.AS_EDDYSTAT_full_drop).dropFrame h
    else
      match d.take 9 tagEddy with
      | (none, d) => (d.inc R.AS_EDDYSTAT F.AS_EDDYSTAT_full_drop).dropFrame h
      | (some c, d) =>
        let d := d.put (rowAddr 9 (ptrIdx c) 0) r.eh
        let d := d.wr R.AS_EDDYSTAT F.AS_EDDYSTAT_in_use (d.rd R.AS_EDDYSTAT F.AS_EDDYSTAT_in_use + 1)
        d.modFrame h (fun f => { f with stage := .eddy, credit := true, eddyCell := some c, eh := r.eh
                                        pipe := if f.dom % 2 = 0 then 0 else 2 }))

end Sys2Proof.Machine
end

