-- ==== Sys2Proof/Machine/RegCmd.lean ====
section
/-!
DEFINITION. The commands that are accesses to registers and areas. `src` is the requester; a value written is given whole, or is
the register's present value with the action the command names.
-/

namespace Sys2Proof.Machine

/-- REGISTER_WRITE src a size v (R3, R4, R7, R8, R512, R514): a write of `size` bytes at BAR0 offset a, or at 2^32 plus a BAR4 offset. -/
def execRegisterWrite (src : Src) (a : Fin 4296015872) (size : Fin 9) (v : Word64) (s : State) : Outc :=
  s.go (fun d => d.busWrite src a size v true)

/-- RC_READ src a size (R4, R6). -/
def execRcRead (src : Src) (a : Fin 4296015872) (size : Fin 9) (s : State) : Outc := s.go (fun d => d.busRead src a size)

/-- PT_TSDLY_WRITE src p size v (R5). -/
def execPtTsdlyWrite (src : Src) (p : Fin 32) (size : Fin 9) (v : Word64) (s : State) : Outc :=
  s.go (fun d => d.busWrite src (R.PT_TSDLY p).addr size v true)

/-- The access is one that R508, R509 or R512 turns away. -/
def Dev.turnsAway (d : Dev) (a size : Nat) : Bool :=
  match areaOf a with
  | some ar => !d.reachable a || !areaWidth ar a size
  | none =>
    match inReg a with
    | none => true
    | some ((id, _), off) => !d.reachable a || !regAccess id off size

/-- UNMAPPED_ACCESS src a size v (R508, R509, R512): a read (no v) or a write that the bus turns away. -/
def execUnmappedAccess (src : Src) (a : Fin 4296015872) (size : Fin 9) (v : Option Word64) (s : State) : Outc := s.go (fun d =>
  if !d.turnsAway a size then d
  else
    match v with
    | some x => d.busWrite src a size x true
    | none => d.busRead src a size)

/-- TB_NOW_LO_READ src (R10). -/
def execTbNowLoRead (src : Src) (s : State) : Outc := s.go (fun d => d.busRead src R.TB_NOW_LO.addr 8)
/-- GL_FREC2_READ src g (R166). -/
def execGlFrec2Read (src : Src) (g : Fin 26) (s : State) : Outc := s.go (fun d => d.busRead src (R.GL_FREC2 g).addr 8)
/-- LD_ANQ1_READ src (R256). -/
def execLdAnq1Read (src : Src) (s : State) : Outc := s.go (fun d => d.busRead src R.LD_ANQ1.addr 8)
/-- TK_RREC1_READ src (R279). -/
def execTkRrec1Read (src : Src) (s : State) : Outc := s.go (fun d => d.busRead src R.TK_RREC1.addr 8)

/-- AREA_WRITE src a size v (R509, R46, R76, R89, R128, R149, R362): a write to an area. -/
def execAreaWrite (src : Src) (a : Fin 4296015872) (size : Fin 9) (v : Word64) (s : State) : Outc := s.go (fun d =>
  if (areaOf a).isSome then d.busWrite src a size v true else d)

/-- Write a register whole. -/
def Dev.write64 (d : Dev) (src : Src) (r : Reg) (v : Word64) : Dev := d.busWrite src r.addr 8 v true
def Dev.write32 (d : Dev) (src : Src) (r : Reg) (v : Word32) : Dev := d.busWrite src r.addr 4 (v.setWidth 64) true

/-- Write a register with its present value and one field at `x`. -/
def Dev.act64 (d : Dev) (src : Src) (r : Reg) (f : Fld) (x : Nat) : Dev := d.busWrite src r.addr 8 (f.put (d.rget r) x) true
def Dev.act32 (d : Dev) (src : Src) (r : Reg) (f : Fld) (x : Nat) : Dev := d.busWrite src r.addr 4 (f.put (d.rget r) x) true

/-- ST_DMACTL_START src op tbl index count (R121, R122). -/
def execStDmactlStart (src : Src) (op : Bool) (tbl : Fin 8) (index : Fin 262144) (count : Fin 524288) (s : State) : Outc := s.go (fun d =>
  let v := F.ST_DMACTL_err.put (d.rget R.ST_DMACTL) 0
  let v := F.ST_DMACTL_count.put (F.ST_DMACTL_index.put (F.ST_DMACTL_tbl.put (F.ST_DMACTL_op.put v (b2n op)) tbl) index) count
  d.write64 src R.ST_DMACTL (F.ST_DMACTL_start.put v 1))

/-- ST_DMACTL_LOCK src tbl lock (R122). -/
def execStDmactlLock (src : Src) (tbl : Fin 8) (lock : Bool) (s : State) : Outc := s.go (fun d =>
  let v := F.ST_DMACTL_err.put (d.rget R.ST_DMACTL) 0
  d.write64 src R.ST_DMACTL (F.ST_DMACTL_lock.put (F.ST_DMACTL_tbl.put v tbl) (b2n lock)))

/-- XC_PLMAP_WRITE src v (R310). -/
def execXcPlmapWrite (src : Src) (v : Word64) (s : State) : Outc := s.go (fun d => d.write64 src R.XC_PLMAP v)

/-- GL_GENCMD_GO src g v (R334): v with go set. -/
def execGlGencmdGo (src : Src) (g : Fin 26) (v : Word64) (s : State) : Outc :=
  s.go (fun d => d.write64 src (R.GL_GENCMD g) (F.GL_GENCMD_go.put v 1))

/-- PT_PCFG_WRITE src p v (R29). -/
def execPtPcfgWrite (src : Src) (p : Fin 32) (v : Word32) (s : State) : Outc := s.go (fun d => d.write32 src (R.PT_PCFG p) v)

/-- PT_GCLCTL_COMMIT src p cycle length (R46). -/
def execPtGclctlCommit (src : Src) (p : Fin 32) (cycle : Word32) (length : Fin 2048) (s : State) : Outc := s.go (fun d =>
  d.write64 src (R.PT_GCLCTL p) (BitVec.ofNat 64 (cycle.toNat * 2 ^ 32 + length * 2 ^ 11 + 1)))

/-- TB_CTL_WRITE src v (R57, R62). -/
def execTbCtlWrite (src : Src) (v : Word32) (s : State) : Outc := s.go (fun d => d.write32 src R.TB_CTL v)
/-- TB_STEP_WRITE src v (R63). -/
def execTbStepWrite (src : Src) (v : Word64) (s : State) : Outc := s.go (fun d => d.write64 src R.TB_STEP v)
/-- TB_FREQ_WRITE src v (R61). -/
def execTbFreqWrite (src : Src) (v : Word32) (s : State) : Outc := s.go (fun d => d.write32 src R.TB_FREQ v)
/-- TB_UTC_WRITE src v (R66). -/
def execTbUtcWrite (src : Src) (v : Word64) (s : State) : Outc := s.go (fun d => d.write64 src R.TB_UTC v)

/-- GL_TCTL_RST src g c t (R168). -/
def execGlTctlRst (src : Src) (g : Fin 26) (c t : Fin 8) (s : State) : Outc :=
  s.go (fun d => d.act32 src (R.GL_TCTL g c t) F.GL_TCTL_rst 1)
/-- GL_TCTL_KILL src g c t (R165, R167). -/
def execGlTctlKill (src : Src) (g : Fin 26) (c t : Fin 8) (s : State) : Outc :=
  s.go (fun d => d.act32 src (R.GL_TCTL g c t) F.GL_TCTL_kill 1)
/-- GL_CTL_CORE_RST src g mask (R168). -/
def execGlCtlCoreRst (src : Src) (g : Fin 26) (mask : Fin 256) (s : State) : Outc :=
  s.go (fun d => d.act32 src (R.GL_CTL g) F.GL_CTL_core_rst mask)
/-- GL_CTL_GAL_RST src g (R168). -/
def execGlCtlGalRst (src : Src) (g : Fin 26) (s : State) : Outc := s.go (fun d => d.act32 src (R.GL_CTL g) F.GL_CTL_gal_rst 1)
/-- GL_CTL_SUP_RUN src g (R160). -/
def execGlCtlSupRun (src : Src) (g : Fin 26) (s : State) : Outc := s.go (fun d => d.act32 src (R.GL_CTL g) F.GL_CTL_sup_run 1)
/-- GL_TSOFT src g thread (R162). -/
def execGlTsoft (src : Src) (g : Fin 26) (thread : Fin 64) (s : State) : Outc :=
  s.go (fun d => d.act32 src (R.GL_TSOFT g) F.GL_TSOFT_thread thread)
/-- GL_ROSECTL_COMMIT src g c (R158). -/
def execGlRosectlCommit (src : Src) (g : Fin 26) (c : Fin 8) (s : State) : Outc :=
  s.go (fun d => d.write32 src (R.GL_ROSECTL g c) ((F.GL_ROSECTL_commit.put (F.GL_ROSECTL_err.put (d.rget (R.GL_ROSECTL g c)) 0) 1).setWidth 32))

/-- TK_FREL src lock (R274, R277). -/
def execTkFrel (src : Src) (lock : Fin 4096) (s : State) : Outc := s.go (fun d => d.write32 src R.TK_FREL (BitVec.ofNat 32 lock))
/-- TK_CHAN_WRITE src c v (R283). -/
def execTkChanWrite (src : Src) (c : Fin 1024) (v : Word64) (s : State) : Outc := s.go (fun d => d.write64 src (R.TK_CHAN c) v)

/-- GL_FCCTL_LOAD src g (R208, R210). -/
def execGlFcctlLoad (src : Src) (g : Fin 26) (s : State) : Outc := s.go (fun d => d.act32 src (R.GL_FCCTL g) F.GL_FCCTL_load 1)
/-- GL_FCCTL_CLEAR src g (R210). -/
def execGlFcctlClear (src : Src) (g : Fin 26) (s : State) : Outc := s.go (fun d => d.act32 src (R.GL_FCCTL g) F.GL_FCCTL_clear 1)
/-- GL_FCCTL_RUN src g run (R210). -/
def execGlFcctlRun (src : Src) (g : Fin 26) (run : Bool) (s : State) : Outc :=
  s.go (fun d => d.act32 src (R.GL_FCCTL g) F.GL_FCCTL_run (b2n run))

/-- LD_SWEEP_FLUSH src kind pinned (R257). -/
def execLdSweepFlush (src : Src) (kind : Fin 256) (pinned : Bool) (s : State) : Outc := s.go (fun d =>
  let v := F.LD_SWEEP_flush_pin.put (F.LD_SWEEP_flush_kind.put (d.rget R.LD_SWEEP) kind) (b2n pinned)
  d.write64 src R.LD_SWEEP (F.LD_SWEEP_flush.put v 1))

/-- SY_RST_WARM src (R467). -/
def execSyRstWarm (src : Src) (s : State) : Outc := s.go (fun d => d.write32 src R.SY_RST 1)

/-- HI_QCFG_WRITE src q v (R345). -/
def execHiQcfgWrite (src : Src) (q : Fin 1024) (v : Word64) (s : State) : Outc := s.go (fun d => d.write64 src (R.HI_QCFG q) v)

/-- RL_FORCE_GO src kind ret unit pass (R412 to R416); `pass`: the self-test of a returned unit passes. -/
def execRlForceGo (src : Src) (kind : Fin 4) (ret : Bool) (unit : Fin 32) (pass : Bool) (s : State) : Outc := s.go (fun d =>
  let v := F.RL_FORCE_unit.put (F.RL_FORCE_ret.put (F.RL_FORCE_kind.put 0 kind) (b2n ret)) unit
  d.busWrite src R.RL_FORCE.addr 4 (F.RL_FORCE_go.put v 1) pass)

/-- PW_DOM_REQ src dom req (R448). -/
def execPwDomReq (src : Src) (dom : Fin 50) (req : Fin 4) (s : State) : Outc :=
  s.go (fun d => d.write32 src (R.PW_DOM dom) (BitVec.ofNat 32 req))

/-- DR_TCTL_EN src t en (R128). -/
def execDrTctlEn (src : Src) (t : Fin 256) (en : Bool) (s : State) : Outc :=
  s.go (fun d => d.write64 src (R.DR_TCTL t) (BitVec.ofNat 64 (b2n en)))

/-- SM_SPARE_START src chan (R391). -/
def execSmSpareStart (src : Src) (chan : Fin 8) (s : State) : Outc :=
  s.go (fun d => d.write64 src R.SM_SPARE (BitVec.ofNat 64 (32 + chan)))

/-- A DB_TCMD write (R499, R501, R502). -/
def Dev.tcmdWrite (d : Dev) (src : Src) (op thread : Nat) (all : Bool) : Dev :=
  d.write32 src R.DB_TCMD (BitVec.ofNat 32 (op * 2 ^ 30 + b2n all * 2 ^ 29 + thread))

/-- DB_TCMD_HALT src thread all (R501). -/
def execDbTcmdHalt (src : Src) (thread : Fin 2048) (all : Bool) (s : State) : Outc := s.go (fun d => d.tcmdWrite src 0 thread all)
/-- DB_TCMD_RESUME src thread all (R502). -/
def execDbTcmdResume (src : Src) (thread : Fin 2048) (all : Bool) (s : State) : Outc := s.go (fun d => d.tcmdWrite src 1 thread all)
/-- DB_TCMD_STEP src thread all (R502). -/
def execDbTcmdStep (src : Src) (thread : Fin 2048) (all : Bool) (s : State) : Outc := s.go (fun d => d.tcmdWrite src 2 thread all)
/-- DB_TCMD_KILL src thread all (R165, R502). -/
def execDbTcmdKill (src : Src) (thread : Fin 2048) (all : Bool) (s : State) : Outc := s.go (fun d => d.tcmdWrite src 3 thread all)

/-- AS_RVER_COMMIT src (R90, R91). -/
def execAsRverCommit (src : Src) (s : State) : Outc := s.go (fun d => d.write64 src R.AS_RVER 1)
/-- AS_RVER_RETIRE src commit (R92): with commit set in the same write, the version is retired first. -/
def execAsRverRetire (src : Src) (commit : Bool) (s : State) : Outc :=
  s.go (fun d => d.write64 src R.AS_RVER (BitVec.ofNat 64 (4 + b2n commit)))
/-- AS_RCMD_START src op index flag (R89). -/
def execAsRcmdStart (src : Src) (op : Fin 4) (index : Fin 32768) (flag : Bool) (s : State) : Outc := s.go (fun d =>
  d.write32 src R.AS_RCMD (BitVec.ofNat 32 (2 ^ 31 + op * 2 ^ 28 + b2n flag * 2 ^ 27 + index)))

end Sys2Proof.Machine
end

