-- ==== Sys2Proof/Machine/Seam.lean ====
section
/-!
DEFINITION. The commands of Seam (R382 to R403).
-/

namespace Sys2Proof.Machine

/-- REFRESH (R386, R388): every 8,192 refreshes the channel's tables are cleared. -/
def execRefresh (c : Fin 5) (s : State) : Outc := s.go (fun d =>
  if d.smState c ≠ 2 && d.smState c ≠ 3 then d
  else
    let n := d.sm.refs.get 0 c + 1
    if n < 8192 then { d with sm := { d.sm with refs := d.sm.refs.set 0 c n, opened := d.sm.opened.filter (fun e => d.smPhys (e.1 / 16) != c.val) } }
    else
      { d with sm := { d.sm with refs := d.sm.refs.set 0 c 0
                                 opened := d.sm.opened.filter (fun e => d.smPhys (e.1 / 16) != c.val)
                                 acts := d.sm.acts.filter (fun e => d.smPhys (e.1 / 16) != c.val) } })

/-- TEMP_POLL (R386): the hottest device is above 85 °C or not, and the thermistor in °C. Refresh doubles at once and
returns to normal after 1 s in which every poll finds the channel cool. -/
def execTempPoll (c : Fin 5) (hot : Bool) (therm : Int) (s : State) : Outc := s.go (fun d =>
  let st := d.smState c
  if st = 0 || st = 4 then d
  else
    let d := d.wr (R.SM_CHSTAT c) F.SM_CHSTAT_temp_c (ofSigned 8 therm)
    let thr : Int := d.rd R.SM_CFG F.SM_CFG_dbl_c
    if hot || thr ≤ therm then
      ({ d with sm := { d.sm with cool := d.sm.cool.set none c none } }).wr (R.SM_CHSTAT c) F.SM_CHSTAT_dbl 1
    else if d.on (R.SM_CHSTAT c) F.SM_CHSTAT_dbl then
      if therm < thr - 3 then
        match d.sm.cool.get none c with
        | none => { d with sm := { d.sm with cool := d.sm.cool.set none c (some d.now) } }
        | some t =>
          if d.now < t + unitsPerSec then d
          else ({ d with sm := { d.sm with cool := d.sm.cool.set none c none } }).wr (R.SM_CHSTAT c) F.SM_CHSTAT_dbl 0
      else { d with sm := { d.sm with cool := d.sm.cool.set none c none } }
    else d)

/-- TRACKING_STEP (R385): the smallest eye width found, in 1/64 UI, with the device of that lane, and how many centres
had drifted by a step. A width below 0.20 UI marks the device. -/
def execTrackingStep (c : Fin 5) (width : Fin 256) (dev : Fin 18) (moved : Nat) (s : State) : Outc := s.go (fun d =>
  let st := d.smState c
  if !d.on R.SM_CFG F.SM_CFG_track_en || (st ≠ 2 && st ≠ 3) then d
  else
    let d := d.wr (R.SM_CHSTAT c) F.SM_CHSTAT_margin width
    let d := { d with sm := { d.sm with steps := d.sm.steps.upd 0 c (· + moved) } }
    if width.val * 5 < 64 && !d.devMarked c dev then d.markDevice c dev else d)

/-- NEIGHBOUR_REFRESH (R387): the oldest entry of a logical channel's queue. -/
def execNeighbourRefresh (log : Fin 4) (s : State) : Outc := s.go (fun d =>
  match d.sm.nq.get [] log with
  | _ :: r => (d.setNq log r).inc R.SM_RDSTAT F.SM_RDSTAT_nr_issued
  | [] => d)

/-- The sparing copy takes what credit the maintenance agent has left in a window (R391, R393; DESIGN CHOICE, log entry 198). -/
def Dev.copyOn (d : Dev) : Dev :=
  match d.sm.sparing with
  | none => d
  | some (l, _, _) =>
    if d.smMasked 7 l then d
    else
      let done := d.rd R.SM_SPARE F.SM_SPARE_done
      let n := (d.rd (R.SM_AGCFG 7) F.SM_AGCFG_cap - d.sm.used.get 0 (28 + l)).min (536870912 - done)
      (d.wr R.SM_SPARE F.SM_SPARE_done (done + n)).wr (R.SM_AGCNT 7) F.SM_AGCNT_bursts (d.rd (R.SM_AGCNT 7) F.SM_AGCNT_bursts + n)

/-- CREDIT_WINDOW (R393): windows start at whole multiples of 10 µs of station time, and credit that is left over is lost. -/
def execCreditWindow (s : State) : Outc := s.go (fun d =>
  if d.now / usU 10 = d.sm.window then d
  else
    let d := d.copyOn
    { d with sm := { d.sm with used := [], window := d.now / usU 10 } })

/-- The request the arbiter grants for a channel: the highest-priority agent with a head request and credit (R394). -/
def Dev.smPick (d : Dev) (chan : Nat) : Option SmReq :=
  ((List.range 8).filterMap (fun a =>
    if d.smMasked a chan || d.rd (R.SM_AGCFG a) F.SM_AGCFG_cap ≤ d.sm.used.get 0 (a * 4 + chan) then none
    else d.sm.reqs.find? (fun r => r.agent == a && r.chan == chan))).head?

/-- SLOT_GRANT (R394 to R396, R389): the burst read or written shows no error, a corrected device or a lost burst. -/
def execSlotGrant (log : Fin 4) (ecc : Ecc) (s : State) : Outc := s.go (fun d =>
  match d.smPick log with
  | none => d
  | some r =>
    let rest := (d.sm.reqs.erase r).map (fun x => if x.chan = r.chan then { x with wait := x.wait + 1 } else x)
    let d := { d with sm := { d.sm with reqs := rest } }
    if r.stale then d.inc (R.SM_AGCFG r.agent) F.SM_AGCFG_stale
    else
      let d := d.markHigh (R.SM_AGCFG r.agent) F.SM_AGCFG_wait_max (r.wait.min 65535)
      let d := d.inc (R.SM_AGCNT r.agent) F.SM_AGCNT_bursts
      let d := { d with sm := { d.sm with used := d.sm.used.upd 0 (r.agent * 4 + r.chan) (· + 1) } }
      let d := d.activate r.agent r.burst
      match ecc with
      | .good => d
      | .corrected dev => d.smCorrected (d.smPhys r.chan) dev r.burst
      | .lost dev => d.smLost (d.smPhys r.chan) dev r.burst)

/-- SPARING_COMPLETE (R391, R403): the last burst is copied and the map switches. -/
def execSparingComplete (s : State) : Outc := s.go (fun d =>
  match d.sm.sparing with
  | none => d
  | some (l, sp, cmd) =>
    let src := d.smPhys l
    let d := (d.wr R.SM_SPARE F.SM_SPARE_done 536870912).wr R.SM_SPARE F.SM_SPARE_busy 0
    let d := d.wr (R.SM_CHSTAT src) F.SM_CHSTAT_state (if cmd then 0 else 4)
    let d := (d.wr (R.SM_CHSTAT sp) F.SM_CHSTAT_state 2).setPhys l sp
    let d := { d with sm := { d.sm with sparing := none } }
    let d := (d.wr R.RL_TKSTAT F.RL_TKSTAT_dur_us (((d.now - d.rl.since) / usU 1).min 65535)).tkIdle.wr R.RL_FORCE F.RL_FORCE_busy 0
    ((d.tkCount F.RL_CNT_seam).event 0x42 (2 * 256 + src) 1).alarm F.RL_ALARM_seam_spare d.smSpare.isNone)

/-- CHANNEL_ABRUPT_FAIL (R392). -/
def execChannelAbruptFail (c : Fin 5) (s : State) : Outc := s.go (fun d => d.abruptFail c)

end Sys2Proof.Machine
end

