-- ==== Sys2Proof/Machine/Startup.lean ====
section
/-!
DEFINITION. Start-up and the cold and warm resets (R455 to R468, R481).
-/

namespace Sys2Proof.Machine

/-- Take over a register, or one field of it, from the state before. -/
def Dev.keepReg (d old : Dev) (r : Reg) : Dev := d.rset r (old.rget r)
def Dev.keepFld (d old : Dev) (r : Reg) (f : Fld) : Dev := d.wr r f (old.rd r f)

/-! ## The ledger at start-up (R480, R481) -/

/-- The newest valid record of the ledger ring: its seq and bytes. -/
def Dev.ledgerNewest (d : Dev) : Option (Nat × List Byte) :=
  (List.range 16384).foldl (fun (best : Option (Nat × List Byte)) i =>
    if d.byte (norAddr 3 (i * 256)) ≠ 0xD6 then best
    else
      let bs := d.bytes (norAddr 3 (i * 256)) 256
      let seq := leNat ((bs.drop 4).take 4)
      if leNat (bs.take 4) ≠ 0x32161ED6 || leNat (bs.drop 252) ≠ crc32c (bs.take 252) then best
      else match best with
        | some (n, _) => if n < seq then some (seq, bs) else best
        | none => some (seq, bs)) none

/-- A field of a ledger record. -/
def ledgerFld (bs : List Byte) (o n : Nat) : Nat := leNat ((bs.drop o).take n)

/-- What firmware takes back from the newest record at every cold reset: the hours, rotations, commits and stresses, and the galleries
that have failed (R473, R479, R480, R428). -/
def Dev.ledgerBack (d : Dev) : Dev :=
  match d.ledgerNewest with
  | none => d
  | some (seq, bs) =>
    let bad := ledgerFld bs 200 4
    let d := d.modBg (fun b => { b with
      ledgerSeq := seq
      bands := (List.range 8).foldl (fun m i => m.set 0 i (ledgerFld bs (28 + 4 * i) 4)) []
      rotations := ledgerFld bs 64 4
      calWrites := ledgerFld bs 84 4
      stress := (List.range 26).foldl (fun m g => m.set 0 g (ledgerFld bs (88 + 4 * g) 4 * 2 ^ 16)) []
      galFailed := bad })
    d.wr R.RL_GALSTAT F.RL_GALSTAT_relief
      (((List.range 26).filter (fun g => bitAt (ledgerFld bs 204 4) g && !bitAt bad g)).foldl (fun a g => a + 2 ^ g) 0)

/-- R481: KA lost its contents; the calendar, the counters and the UTC offset come from the record, or start at zero. -/
def Dev.calendarBack (d : Dev) : Dev :=
  let bs := (d.ledgerNewest.map (·.2)).getD (List.replicate 256 0)
  let d := d.modBg (fun b => { b with
    calSec := ledgerFld bs 8 6
    calTick := 0
    poweredS := ledgerFld bs 16 8
    cycles := ledgerFld bs 24 4
    kaUtc := utcWord (ledgerFld bs 70 2) (ledgerFld bs 76 1) (ledgerFld bs 72 4) })
  let d := d.wr R.PW_TLIM F.PW_TLIM_trip_cnt (ledgerFld bs 80 4)
  (d.wr R.BG_KA F.BG_KA_cal_lost 1).tally 0x1005 0

/-! ## What the resets keep (R460, R468) -/

/-- NOR keeps its contents: image slots, the calibration set, the ledger ring. -/
def norCells (m : List Host.Cell) : List Host.Cell := m.filter (fun e => decide (2 ^ 44 ≤ e.1) && decide (e.1 < 2 ^ 45))

/-- A repair that the log does not hold is undone: its spare is free again. -/
def Dev.undoRepair (d : Dev) (k : Nat) : Dev :=
  if 2 ^ 20 ≤ k then { d with ld := { d.ld with spareBank := d.ld.spareBank.set false (chanOf (k - 2 ^ 20)) false } }
  else { d with ld := { d.ld with rowsUsed := d.ld.rowsUsed.upd 0 (k / 1024) (· - 1) } }

/-- The spare that a finished repair took counts as left again. -/
def Dev.uncountRepair (d : Dev) (k : Nat) : Dev :=
  if 2 ^ 20 ≤ k then
    let r := R.LD_REPAIR ((k - 2 ^ 20) % 4)
    d.wr r F.LD_REPAIR_banks_left (d.rd r F.LD_REPAIR_banks_left + 1)
  else
    let r := R.LD_REPAIR (k / 1024 % 4)
    d.wr r F.LD_REPAIR_rows_left (d.rd r F.LD_REPAIR_rows_left + 1)

/-- The repairs that the repair log holds stand in NOR, and start-up applies them again (R263, R265); those that did not fit it, and
those that had not ended, are gone (R480). -/
def Dev.keepRepairs (d old : Dev) : Dev :=
  let d := { d with ld := { d.ld with rowsUsed := old.ld.rowsUsed, spareBank := old.ld.spareBank } }
  let d := (List.range 4).foldl (fun d q =>
    (d.keepFld old (R.LD_REPAIR q) F.LD_REPAIR_rows_left).keepFld old (R.LD_REPAIR q) F.LD_REPAIR_banks_left) d
  let d := (old.ld.unlogged ++ (old.ld.repairs.filter (fun e => e.2.isSome)).map (·.1)).foldl Dev.undoRepair d
  old.ld.unlogged.foldl Dev.uncountRepair d

/-- The output pins that a reset releases or drives low, after what drove them is gone: ALARM_N, FAULT_N and 1PPS_OUT. -/
def Dev.pinsAfter (d old : Dev) : Dev :=
  let d := if old.alarmOn && !d.alarmOn then d.out (.pin pinAlarmN true) else d
  let d := if old.rget R.RL_FAULT ≠ 0 && d.rget R.RL_FAULT = 0 then d.out (.pin pinFaultN true) else d
  if old.tb.ppsHigh && !d.tb.ppsHigh then d.out (.pin pinPps false) else d

/-- The NAND after a loss of power (R491, R494, R495): what had not been programmed is gone. -/
def Tally.afterLoss (t : Tally) : Tally :=
  { nand := t.nand, first := t.first, block := t.block, chunks := t.chunks, held := t.held, retired := t.retired, erases := t.erases,
    lossy := t.lossy, nextSeq := (t.nand.getLast?.map (fun e => e.1 + 1)).getD 0 }

/-- What keeps its contents without power: KA, the fuses, NOR and NAND; all else is at its reset value. -/
def Dev.coldBase (old : Dev) : Dev :=
  { mem := norCells old.mem, outbox := old.outbox, free := old.free, tl := old.tl.afterLoss
    bg := { calSec := old.bg.calSec, calTick := old.bg.calTick, poweredS := old.bg.poweredS, cycles := old.bg.cycles
            kaUtc := old.bg.kaUtc, kaHeld := old.bg.kaHeld, repairLog := old.bg.repairLog }
    bo := { active := old.bo.active }, hi := { perst := old.hi.perst } }

/-- The register fields that are read back from what kept its contents. -/
def Dev.coldFields (d old : Dev) : Dev :=
  let d := d.keepFld old R.SY_BOOT F.SY_BOOT_fuse_ver
  let d := (d.wr R.BG_KA F.BG_KA_ka_valid (b2n old.bg.kaHeld)).keepFld old R.PW_TLIM F.PW_TLIM_trip_cnt
  let d := ([F.TL_STAT_bad_blk, F.TL_STAT_first_short, F.TL_STAT_short]).foldl (fun (d : Dev) f => d.keepFld old R.TL_STAT f) d
  let d := d.wr R.TL_STAT F.TL_STAT_first_cnt ((old.rd R.TL_STAT F.TL_STAT_first_cnt).min d.tl.nextSeq)
  (d.wr R.TL_STAT F.TL_STAT_next_idx d.tl.nextSeq).keepFld old R.TL_WEAR F.TL_WEAR_erase_max

/-- The device at the start of a cold start: KA, the fuses, NOR and NAND have kept their contents, and nothing else has. -/
def Dev.coldDev (old : Dev) : Dev :=
  (((old.coldBase.coldFields old).keepRepairs old).ledgerBack).pinsAfter old

/-- COLD_RESET (R440, R460, R428, R468): VMAIN becomes valid. A module that is off begins its cold start. -/
def execColdReset (s : State) : Outc := s.go (fun d =>
  if d.powerMode ≠ 4 then { d with bo := { d.bo with vmain := true } } else d.coldDev)

/-- STRAP_SAMPLE bootSel lullEn (R455). -/
def execStrapSample (bootSel lullEn : Bool) (s : State) : Outc := s.go (fun d =>
  if d.rd R.SY_BOOT F.SY_BOOT_stage ≠ 1 then d
  else (d.wr R.SY_BOOT F.SY_BOOT_boot_sel (b2n bootSel)).wr R.PW_LSTAT F.PW_LSTAT_lull_en (b2n lullEn))

/-! ## The stages (R460) -/

def Dev.stage (d : Dev) : Nat := d.rd R.SY_BOOT F.SY_BOOT_stage
def Dev.toStage (d : Dev) (n : Nat) : Dev := d.wr R.SY_BOOT F.SY_BOOT_stage n

/-- Start-up fails (R465). -/
def Dev.startFail (d : Dev) (code : Nat) (f : Fld) : Dev :=
  (((d.wr R.SY_BOOT F.SY_BOOT_fail code).toStage 15).tally 0x1102 code).deviceFault f

def Dev.domsOn (d : Dev) (l : List Nat) : Dev :=
  l.foldl (fun d k => (domIsles k).foldl Dev.isleStart (d.wr (R.PW_DOM k) F.PW_DOM_state 2)) d

/-- STRAPS (R460, R478, R481): PD49 and PD47 are up, the calendar seeds station time, and Tally is open. -/
def Dev.endStraps (d : Dev) : Dev :=
  let d := (d.domsOn [47, 49]).tallyOpen 0
  let d := if d.on R.BG_KA F.BG_KA_ka_valid then d else d.calendarBack
  let d := d.modBg (fun b => { b with kaHeld := true })
  let seed := d.bg.calSec * unitsPerSec + d.bg.calTick * 2000000000
  let d := { d with now := seed + (d.now - d.bo.began), bo := { d.bo with began := seed } }
  let d := (d.rset R.TB_UTC d.bg.kaUtc).timeAlarm
  let d : Dev :=
    if d.hi.perst then d
    else
      let (sp, d) := d.fresh 4
      let (w, d) := d.fresh 5
      ((d.wr R.HI_LINK F.HI_LINK_up 1).wr R.HI_LINK F.HI_LINK_speed sp).wr R.HI_LINK F.HI_LINK_width w
  d.toStage 2

/-- The chosen slot's image runs (R456, R458). -/
def Dev.runSlot (d : Dev) (slot : Nat) : Dev :=
  let h := d.bytes (slotAddr slot) 256
  let d := (d.wr R.SY_BOOT F.SY_BOOT_slot slot).wr R.SY_BOOT F.SY_BOOT_sec_ver (leNat ((h.drop 8).take 1))
  let d := (d.wr R.SY_IDENT F.SY_IDENT_fw_major (leNat ((h.drop 6).take 1))).wr R.SY_IDENT F.SY_IDENT_fw_minor (leNat ((h.drop 7).take 1))
  { d with bo := { d.bo with build := leNat ((h.drop 24).take 8), raise := bitAt (leNat ((h.drop 9).take 1)) 0 } }

/-- A slot fails R457: one record. -/
def Dev.slotRefused (d : Dev) (slot : Nat) : Dev := d.tally 0x1101 slot [leNat ((d.bytes (slotAddr slot + 8) 1))]

/-- VERIFY (R457, R458, R465): a slot is chosen, and Overman cores start. -/
def Dev.endVerify (d : Dev) (signedA signedB lockstep coreC : Bool) : Dev :=
  let first := (d.bo.active + d.rd R.SY_BOOT F.SY_BOOT_boot_sel) % 2
  let good (slot : Nat) : Bool := d.imageGood (d.bytes (slotAddr slot) 256) (if slot = 0 then signedA else signedB)
  let up (d : Dev) : Dev :=
    if lockstep then (d.domsOn [48]).toStage 3
    else if coreC then
      let d := { ((d.domsOn [48]).wr R.RL_FENCE F.RL_FENCE_om_ab 1) with cg := { d.cg with om := 1 } }
      (d.alarm F.RL_ALARM_om_single true).toStage 3
    else ({ d with cg := { d.cg with om := 2 } }).startFail 2 F.RL_FAULT_overman
  if good first then up (d.runSlot first)
  else
    let d := (d.slotRefused first).wr R.SY_BOOT F.SY_BOOT_fallback 1
    if good (1 - first) then up (d.runSlot (1 - first))
    else (d.slotRefused (1 - first)).startFail 1 F.RL_FAULT_boot

/-- CALIB (R461, R37): the set is chosen word by word and loaded. Built-in defaults are of no stated value: they are free. -/
def Dev.endCalib (d : Dev) : Dev :=
  let v := d.bytes calValue 8192
  let c := (d.bytes calComp 8192).map (fun b => ~~~ b)
  let ok (bs : List Byte) : Bool := leNat (bs.drop 8188) == crc32c (bs.take 8188)
  let d : Dev :=
    if ok v then (if v = c then d.put (calAddr 0) v else ((d.wr R.SY_BOOT F.SY_BOOT_calib_half 1).alarm F.RL_ALARM_calib true).put (calAddr 0) v)
    else if ok c then ((d.wr R.SY_BOOT F.SY_BOOT_calib_half 1).alarm F.RL_ALARM_calib true).put (calAddr 0) c
    else
      let (x, d) := d.fresh 65536
      ((d.wr R.SY_BOOT F.SY_BOOT_calib_def 1).alarm F.RL_ALARM_calib true).put (calAddr 0) (leBytes 8192 x)
  ((List.range 32).foldl (fun d p => d.loadDelay p) d).toStage 4

/-- Bin starts to thread every row's free list; until it has, ALLOC and RESERVE are refused, Eddy's default pool among them (R93, R339). -/
def Dev.rowsThread (d : Dev) : Dev := (List.range 12).foldl (fun d r => d.wr (R.BN_ROWSTAT r) F.BN_ROWSTAT_rebuild 1) d

/-- RAMP (R448, R401, R403, R339): every domain is up; the newest record gives the state of each Seam channel. -/
def Dev.endRamp (d : Dev) (ok : Bool) : Dev :=
  if !ok then d.startFail 5 F.RL_FAULT_rail
  else
    let d := (d.domsOn (List.range 50)).rowsThread
    let failed (c : Nat) : Bool := match d.ledgerNewest with | some (_, bs) => ledgerFld bs (194 + c) 1 == 4 | none => false
    let d := (List.range 5).foldl (fun d c => d.wr (R.SM_CHSTAT c) F.SM_CHSTAT_state (if failed c then 4 else 1)) d
    d.toStage 5

/-- TRAIN and LODE run in parallel; SELFTEST starts when both have ended. -/
def Dev.afterPair (d : Dev) : Dev :=
  if d.bo.trained then d.toStage (if d.bo.lodeUp then 7 else 6) else d

/-- TRAIN (R384, R401, R403): the map of the ledger is applied; the spare takes the place of a channel that has failed. -/
def Dev.endTrain (d : Dev) (passed : BitVec 5) : Dev :=
  let d := match d.ledgerNewest with
    | some (_, bs) => d.rset R.SM_CHMAP (BitVec.ofNat 64 (ledgerFld bs 192 2))
    | none => d
  let good (c : Nat) : Bool := bitAt passed.toNat c && d.smState c != 4
  let free := (List.range 5).find? (fun c => good c && !(List.range 4).any (fun l => d.smPhys l == c))
  let lost := (List.range 4).filter (fun l => !good (d.smPhys l))
  let d := (List.range 5).foldl (fun d c => d.wr (R.SM_CHSTAT c) F.SM_CHSTAT_state (if good c then 3 else 4)) d
  let place (d : Dev) : Dev := (List.range 4).foldl (fun d l => d.wr (R.SM_CHSTAT (d.smPhys l)) F.SM_CHSTAT_state 2) d
  let up (d : Dev) : Dev := { (place d) with bo := { d.bo with trained := true } }.afterPair
  match lost, free with
  | [], _ => up d
  | [l], some c => up ((d.setPhys l c).alarm F.RL_ALARM_seam_spare true)
  | _, _ => d.startFail 3 F.RL_FAULT_seam

/-- LODE (R263, R265, R465): quadrants that fail are fenced, and rows that the self-test finds are repaired. -/
def Dev.endLode (d : Dev) (bad : BitVec 4) (rows : List (Fin 8388608)) : Dev :=
  let d := ((List.range 4).filter (fun q => bitAt bad.toNat q)).foldl (fun d q => d.fenceUnit { kind := 5, unit := q, cause := 4 }) d
  let d := rows.foldl (fun d b => d.rowRepair b) d
  { d with bo := { d.bo with lodeUp := true } }.afterPair

/-- SELFTEST (R462, R465). -/
def Dev.endSelftest (d : Dev) (bad : BitVec 26) (fail : Option (Fin 4)) : Dev :=
  match fail with
  | some f => d.startFail 4 (match f with | 0 => F.RL_FAULT_bin | 1 => F.RL_FAULT_hoist | 2 => F.RL_FAULT_timebase | _ => F.RL_FAULT_central)
  | none =>
    let gs := (List.range 26).filter (fun g => bitAt bad.toNat g)
    let d := gs.foldl (fun d g => d.tally 0x0F05 g) d
    ({ d with bo := { d.bo with galBad := gs } }).toStage 8

/-- A gallery that passes is loaded and its supervisor started (R462). -/
def Dev.galUp (d : Dev) (imgs bits : List (Fin 26 × List Byte)) (g : Nat) : Dev :=
  let d := match imgs.find? (fun e => e.1.val == g) with | some e => d.loadImage g e.2 | none => d
  let d := match bits.find? (fun e => e.1.val == g) with | some e => d.faceTake g none e.2 | none => d
  let d := d.setGalState g 2
  (if d.inRelief g then d else d.setGalState g 3).supStart (supOf g)

/-- A gallery that failed is left FENCED, and the lowest relief gallery that passed takes its place (R462). -/
def Dev.galOut (d : Dev) (bad : Nat → Bool) (g : Nat) : Dev :=
  let had := !d.inRelief g
  let d := ((d.setGalState g 4).setRelief g false).wr R.RL_FENCE F.RL_FENCE_gallery (withBit (d.rd R.RL_FENCE F.RL_FENCE_gallery) g true)
  if !had then d
  else match (List.range 26).find? (fun r => d.inRelief r && !bad r) with
    | some r => (d.rewriteMaps g r).setRelief r false
    | none => d

/-- CONFIG (R462, R463). -/
def Dev.endConfig (d : Dev) (imgs bits : List (Fin 26 × List Byte)) : Dev :=
  let bad (g : Nat) : Bool := d.bo.galBad.contains g || bitAt d.bg.galFailed g
  let was := d.bg.galFailed
  let d := ((List.range 26).filter bad).foldl (fun d g => d.galOut bad g) d
  let d := (d.bo.galBad.filter (fun g => !bitAt was g)).foldl (fun d g => d.galFailed g true) d
  let up := (List.range 26).filter (fun g => !bad g)
  let d := if up.length < 24 then up.foldl (fun d g => d.setRelief g false) d else d
  let d := up.foldl (fun d g => d.galUp imgs bits g) d
  let d := ((d.wr R.LD_CFG F.LD_CFG_en 1).wr R.SM_CFG F.SM_CFG_en 1).wr R.XC_CFG F.XC_CFG_en 1
  (d.wr R.HI_CFG F.HI_CFG_en 1).galAlarms.toStage 9

/-- READY (R379, R459, R460). -/
def Dev.endReady (d : Dev) : Dev :=
  let d := (d.showState 1).wr R.SY_BOOT F.SY_BOOT_ready_ms ((d.now - d.bo.began) / msU 1)
  let v := d.rd R.SY_BOOT F.SY_BOOT_sec_ver
  let d := if d.bo.raise && decide (d.rd R.SY_BOOT F.SY_BOOT_fuse_ver < v) then (d.wr R.SY_BOOT F.SY_BOOT_fuse_ver v).tally 0x1103 0 [v] else d
  (d.event 0x00 0 ((d.rget R.SY_IDENT).toNat % 65536)).toStage 10

/-- The requests of the start-up configuration in order; one that fails is recorded with its place, status and code (R464). -/
def Dev.runConfig (d : Dev) (n : Nat) : List (BitVec 16 × List Byte) → Dev
  | [] => d
  | r :: rest =>
    let x := d.runRequest r.1.toNat r.2
    (if x.1 = 0 then x.2 else x.2.tally 0x1104 n [x.1, r.1.toNat]).runConfig (n + 1) rest

/-- APPLY (R464): the start-up configuration; firmware then commits the rules and sets adm_en where it has not, and the ports it names
are enabled. -/
def Dev.endApply (d : Dev) (reqs : List (BitVec 16 × List Byte)) (ports : BitVec 32) : Dev :=
  let d : Dev :=
    if reqs.isEmpty then d
    else
      let d := d.runConfig 0 reqs
      let d := if reqs.any (fun r => r.1 == 0x0306) then d else d.ruleCommit.2
      let d := if d.on R.DR_CFG F.DR_CFG_adm_en then d else (d.fwSet .DR_CFG [] [(F.DR_CFG_adm_en, 1)]).2
      ((List.range 32).filter (fun p => bitAt ports.toNat p)).foldl (fun d p => (d.fwSet .PT_PCFG [p] [(F.PT_PCFG_enable, 1)]).2) d
  ({ d with bo := { d.bo with warm := false } }).toStage 11

/-- STARTUP_STAGE_END (R460): the end of the stage that runs. -/
def execStartupStageEnd (e : StageEnd) (s : State) : Outc := s.go (fun d =>
  match e with
  | .straps => if d.stage = 1 then d.endStraps else d
  | .verify a b l c => if d.stage = 2 then d.endVerify a b l c else d
  | .calib => if d.stage = 3 then d.endCalib else d
  | .ramp ok => if d.stage = 4 then d.endRamp ok else d
  | .train passed => if d.stage = 5 then d.endTrain passed else d
  | .lode bad rows => if d.stage = 6 || d.stage = 5 && !d.bo.lodeUp then d.endLode bad rows else d
  | .selftest bad fail => if d.stage = 7 then d.endSelftest bad fail else d
  | .config imgs bits => if d.stage = 8 then d.endConfig imgs bits else d
  | .ready => if d.stage = 9 then d.endReady else d
  | .apply reqs ports => if d.stage = 10 then d.endApply reqs ports else d)

/-- The longest time of a stage's end, in ms from VMAIN becoming valid or from the warm reset (R460, R467). -/
def stageMax (n : Nat) : Nat := [0, 2, 90, 100, 110, 520, 160, 600, 1450, 1500, 2300].getD n 0

/-- STAGE_TIMEOUT (R465): the stage that runs passes twice its maximum. -/
def execStageTimeout (s : State) : Outc := s.go (fun d =>
  if 1 ≤ d.stage && d.stage ≤ 10 && d.bo.began + msU (2 * stageMax d.stage) < d.now then d.startFail 6 F.RL_FAULT_boot else d)

/-! ## Warm reset (R467, R468) -/

/-- Registers that a warm reset keeps: those of the timebase and Tally, RL_FAULT, what KA shows, the link, and identity. -/
def warmRegs : List Reg :=
  [R.TB_NOW_LO, R.TB_NOW_HI, R.TB_CTL, R.TB_STAT, R.TB_STEP, R.TB_FREQ, R.TB_UTC, R.TB_PPS, R.TB_TICK,
   R.TL_STAT, R.TL_LOST, R.TL_WEAR, R.RL_FAULT, R.BG_KA, R.BG_LIFE, R.HI_LINK, R.SY_IDENT]

/-- The state that a warm reset keeps; all else is at its reset value. -/
def Dev.warmBase (old : Dev) : Dev :=
  { now := old.now, mem := norCells old.mem, outbox := old.outbox, free := old.free, tl := { old.tl with limIn := [] }, tb := { old.tb with volt := [] }
    bg := { ledgerDue := old.bg.ledgerDue, calSec := old.bg.calSec, calTick := old.bg.calTick, poweredS := old.bg.poweredS
            cycles := old.bg.cycles, kaUtc := old.bg.kaUtc, kaHeld := old.bg.kaHeld, repairLog := old.bg.repairLog
            ledgerSeq := old.bg.ledgerSeq, bands := old.bg.bands, stress := old.bg.stress, rotations := old.bg.rotations
            calWrites := old.bg.calWrites, galFailed := old.bg.galFailed }
    hi := { perst := old.hi.perst, bme := old.hi.bme, d3 := old.hi.d3, vfEn := old.hi.vfEn, numVfs := old.hi.numVfs, ide := old.hi.ide
            bar2 := old.hi.bar2 }
    bo := { vmain := old.bo.vmain, active := old.bo.active, began := old.now, warm := true }
    devState := if old.devState = 4 then 4 else 0 }

/-- The registers and fields that a warm reset keeps. -/
def Dev.warmFields (d old : Dev) : Dev :=
  let d := warmRegs.foldl (fun (d : Dev) r => d.keepReg old r) d
  let d := ([F.SY_BOOT_fuse_ver, F.SY_BOOT_boot_sel]).foldl (fun (d : Dev) f => d.keepFld old R.SY_BOOT f) d
  let d := (d.wr R.SY_BOOT F.SY_BOOT_warm 1).toStage 2
  let d := ([F.PW_LSTAT_lull_en, F.PW_LSTAT_store_ok]).foldl (fun (d : Dev) f => d.keepFld old R.PW_LSTAT f) d
  let d := (d.keepFld old R.PW_TLIM F.PW_TLIM_trip_cnt).keepFld old R.DB_STAT F.DB_STAT_fail_cnt
  (d.domsOn [47, 48, 49]).keepFld old R.RL_GALSTAT F.RL_GALSTAT_relief

/-- The device at the start of a warm reset. -/
def Dev.warmDev (old : Dev) : Dev :=
  (((old.warmBase.warmFields old).keepRepairs old).timeAlarm).pinsAfter old

/-- WARM_RESET_BEGIN (R467): every command taken has been answered; BOOT, every grant ends, and stage 2 begins. -/
def execWarmResetBegin (s : State) : Outc := s.go (fun d =>
  if !d.bo.warmReq || d.devState = 3 || d.powerMode ≠ 0 || (List.range 64).any d.waiting then d
  else ((List.range 4).foldl Dev.grantEnd d).warmDev)

end Sys2Proof.Machine
end

