-- ==== Sys2Proof/Machine/TimeCmd.lean ====
section
/-!
DEFINITION. The commands of the clock islands and of the timebase (R53 to R71).
-/

namespace Sys2Proof.Machine

/-! ## Crossings (R53, R55) -/

/-- CROSSING_TOKEN isl bad (R53): a token reaches an island; one whose parity fails is resent and counted, and the 16th
failure in a row fences the receiving island. -/
def execCrossingToken (isl : Fin 100) (bad : Bool) (s : State) : Outc := s.go (fun d =>
  if !bad then d.modTb (fun t => { t with xfails := t.xfails.set 0 isl 0 })
  else
    let n := d.tb.xfails.get 0 isl + 1
    let d := (d.inc (R.CK_ISLSTAT isl) F.CK_ISLSTAT_xerr_cnt).modTb (fun t => { t with xfails := t.xfails.set 0 isl (n % 16) })
    if n = 16 then d.islandFault isl 1 else d)

/-- ISLAND_CLOCK_RESTART isl (R52, R55): a request restarts a gated island's clock. -/
def execIslandClockRestart (isl : Fin 100) (s : State) : Outc := s.go (fun d => d.wr (R.CK_ISLSTAT isl) F.CK_ISLSTAT_gated 0)

/-! ## Delays (R70, R71) -/

/-- DELAY_FIRE g (R71): the latest tick of a gallery's delay list. -/
def execDelayFire (g : Fin 26) (s : State) : Outc := s.go (fun d => d.fireDelays g (tickFloor d.now d.tickExp))

/-! ## References (R56, R57) -/

/-- REF_MEASUREMENT b ok (R56): one 1 s measurement of REFA or REFB; `ok`: within ±4.6 ppm of the OCXO. -/
def execRefMeasurement (b : Fin 2) (ok : Bool) (s : State) : Outc := s.go (fun d =>
  if ok then
    let n := d.tb.refRun.get 0 b + 1
    let d := d.modTb (fun t => { t with refRun := t.refRun.set 0 b (n.min 10) })
    if 10 ≤ n && !d.on R.TB_STAT (refQual b) then d.refGood b else d
  else d.refBad b)

/-- REF_EDGE_LOSS b (R56). -/
def execRefEdgeLoss (b : Fin 2) (s : State) : Outc := s.go (fun d => d.refBad b)

/-- REF_REVERT (R57): the preferred reference has been qualified for 60 s. -/
def execRefRevert (s : State) : Outc := s.go (fun d =>
  match d.prefRef with
  | some b =>
    if d.on R.TB_CTL F.TB_CTL_revert && d.on R.TB_STAT (refQual b) && d.tb.refAt.get 0 b + 60 * unitsPerSec ≤ d.now then
      (d.wr R.TB_STAT F.TB_STAT_fsel (b + 1)).modTb (fun t => { t with moved := false })
    else d
  | none => d)

/-! ## 1PPS_IN (R58, R62) -/

/-- A pulse comes 1 s ± 1 µs after the one before. -/
def ppsInterval (last st : Int) : Bool := decide (((st - last) - (unitsPerSec : Int)).natAbs ≤ usU 1)

/-- The offset that a pulse gives with the second that IRIG_IN last named (DEDUCED, log entry 40). -/
def Dev.ppsOffset (d : Dev) (st : Int) : Option Int :=
  match d.tb.irigLast with
  | some (sec, at_) =>
    -- whole seconds since the IRIG frame's on-time point
    let k := (st - at_ + (unitsPerSec : Int) / 2) / (unitsPerSec : Int)
    some (st - secU (sec + k))
  | none => none

/-- PPS_IN_EDGE wide (R58): a rising edge; `wide`: the pulse is at least 100 ns wide. A narrow one does not count toward qualification,
and only a pulse outside 1 s ± 1 µs disqualifies. -/
def execPpsInEdge (wide : Bool) (s : State) : Outc := s.go (fun d =>
  let st := d.pinStamp
  let onTime := match d.tb.ppsLast with | some l => ppsInterval l st | none => false
  let first := d.tb.ppsLast.isNone
  let d := d.modTb (fun t => { t with ppsLast := some st, ppsRun := if wide && onTime then (t.ppsRun + 1).min 4 else 0 })
  let d := if onTime && 4 ≤ d.tb.ppsRun then d.setQual F.TB_STAT_pps_qual true
    else if !onTime && !first then d.setQual F.TB_STAT_pps_qual false
    else d
  if onTime && d.tsrc = 1 && d.srcQual then
    match d.ppsOffset st with
    | some x => d.measure x
    | none => d
  else d)

/-- No pulse has come for 1.1 s. -/
def Dev.ppsLate (d : Dev) : Bool := match d.tb.ppsLast with | some l => decide (l + 72089600000000 ≤ d.pinStamp) | none => false

/-- PPS_IN_LOSS (R58): no pulse for 1.1 s. -/
def execPpsInLoss (s : State) : Outc := s.go (fun d =>
  if d.ppsLate then (d.modTb (fun t => { t with ppsRun := 0, ppsLast := none })).setQual F.TB_STAT_pps_qual false else d)

/-! ## IRIG_IN (R59, R67) -/


/-- IRIG_FRAME soy year off leap (R59, R67): a well-formed frame whose on-time point is now: its UTC second of the year, its year
where the code carries one, and with the control-function extension the UTC offset, the pending leap with its TAI second, and the time
quality. A frame that does not follow on the one before starts the count of three again; only a missing or malformed one disqualifies. -/
def execIrigFrame (soy : Nat) (year : Option Nat) (ext : Option (BitVec 16 × Fin 3 × BitVec 32 × BitVec 4)) (s : State) : Outc := s.go (fun d =>
  let st := d.pinStamp
  let d := match ext with
    | some (off, leap, at_, tq) =>
      if d.on R.TB_CTL F.TB_CTL_irig_ext then (d.modTb (fun t => { t with irigTq := some tq })).setUtc (utcWord off.toNat leap at_.toNat) else d
    | none => d
  let tai : Int := (d.irigUtc year soy : Nat) + d.utcOff
  -- consistent: the frame before named the second before
  let ok := match d.tb.irigLast with | some (sec, _) => decide (tai = sec + 1) | none => false
  let n := if ok then (d.tb.irigRun + 1).min 3 else 1
  let d := d.modTb (fun t => { t with irigRun := n, irigLast := some (tai, st) })
  let d := if n = 3 then d.setQual F.TB_STAT_irig_qual true else d
  if d.tsrc = 2 && d.srcQual then d.measure (st - secU tai) else d)

/-- IRIG_MISSING (R59): a frame is missing or malformed. -/
def execIrigMissing (s : State) : Outc := s.go (fun d =>
  (d.modTb (fun t => { t with irigRun := 0, irigLast := none })).setQual F.TB_STAT_irig_qual false)

/-! ## PTP (R60, R67) -/

/-- PTP_MEASUREMENT off late stale ann (R60, R62, R67): the servo measures an offset from its parent, in 2^-16 ns; `late`: more than 4
Sync intervals after the one before; `stale`: its path-delay measurement is older than 16 s; `ann`: the parent announces a UTC
offset and a pending leap, which counts as an update whatever the time source (R67). The measurement that qualifies the selected source
is the first of ACQUIRE, as a pulse or an IRIG frame is (DESIGN CHOICE, log entry 167). -/
def execPtpMeasurement (off : BitVec 64) (late stale : Bool) (ann : Option (BitVec 16 × Fin 3 × BitVec 32)) (s : State) : Outc := s.go (fun d =>
  match d.pt.parent with
  | none => d
  | some p =>
    if d.portSt p ≠ 2 then d
    else
      let n := if stale then 0 else if late then 1 else (d.tb.ptpRun + 1).min 8
      let d := d.modTb (fun t => { t with ptpRun := n })
      let d := d.setQual F.TB_STAT_ptp_qual (decide (n = 8) || (d.on R.TB_STAT F.TB_STAT_ptp_qual && !late && !stale))
      let d := match ann with
        | some (o, leap, at_) => d.setUtc (utcWord o.toNat leap at_.toNat)
        | none => d
      if d.tsrc = 0 && d.srcQual then d.measure off.toInt else d)

/-- PTP_TIMEOUT (R60): announceReceiptTimeout, or no Sync for 4 intervals. -/
def execPtpTimeout (s : State) : Outc := s.go (fun d => d.ptpDrop)

/-! ## The state machine's own timers (R62, R72) -/

/-- HOLD_VALID_SET (R62): 1,000 s of LOCKED with the oven ready throughout. -/
def execHoldValidSet (s : State) : Outc := s.go (fun d =>
  d.wrIf (d.tbSt == 2 && d.tb.holdFrom.any (fun t => decide (t + 1000 * unitsPerSec ≤ d.now))) R.TB_STAT F.TB_STAT_hold_valid 1)

/-- HOLDOVER_EXPIRY (R62): hold_min reaches 1,440. -/
def execHoldoverExpiry (s : State) : Outc := s.go (fun d => if d.tbSt = 3 && 1440 ≤ d.holdMin then d.tbGo 0 else d)

/-- OVEN_READY (R72). -/
def execOvenReady (s : State) : Outc := s.go (fun d =>
  (d.wr R.TB_STAT F.TB_STAT_oven_ready 1).modTb (fun t =>
    { t with holdFrom := if d.tbSt = 2 && t.holdFrom.isNone then some d.now else t.holdFrom }))

/-! ## Steps, leaps, ticks and pulses (R63, R65, R66, R70) -/

/-- The instant at which a step takes effect (R63): the first whole nanosecond strictly after its arrival, or the present one if that has
gone by. -/
def Dev.stepAt (d : Dev) (arrived : Nat) : Nat := ((arrived / 65536 + 1) * 65536).max ((d.now + 65535) / 65536 * 65536)

/-- STEP_TAKES_EFFECT (R63): the oldest step, if the timebase is still in ACQUIRE with step_en = 1; else it lapses (log entry 168). -/
def execStepTakesEffect (s : State) : Outc := s.go (fun d =>
  match d.tb.steps with
  | [] => d
  | (t, x) :: rest =>
    let live := d.tbSt == 1 && d.on R.TB_CTL F.TB_CTL_step_en
    let old := d.stepAt t
    let new := ((old : Int) + x).toNat
    let word (t i : Nat) : Nat := time96 t / 2 ^ (32 * i) % 2 ^ 32
    let d := d.modTb (fun t => { t with steps := rest })
    if !live then d else
    let d := ({ d with now := new } : Dev)
    let d := (d.inc R.TB_STAT F.TB_STAT_step_cnt).tally 0x0203 0
      [d.tbSt, d.tbSt, word old 0, word old 1, word old 2, word new 0, word new 1, word new 2]
    -- every delay entry fires at the first tick at or after its deadline in the new time
    let moved : Tab (List Delay) := d.dr.delays.map (fun (e : Nat × List Delay) => (e.1, e.2.map (fun y => { y with entered := new })))
    let d : Dev := { d with dr := { d.dr with delays := moved } }
    ((List.range 32).foldl (fun (d : Dev) p => d.gateStep p old) d).phasorStepped)

/-- LEAP_TAKES_EFFECT (R66): TAI second leap_tai has begun. An inserted leap adds 1 to the offset, a deleted one takes 1 away; for
the reserved code the new offset is open. -/
def execLeapTakesEffect (s : State) : Outc := s.go (fun d =>
  let v := d.rget R.TB_UTC
  let leap := F.TB_UTC_leap.get v
  if leap = 0 || F.TB_UTC_leap_tai.get v > d.taiLow then d
  else
    let off := F.TB_UTC_utc_offset.get v
    let at_ := (secOf d.now - (d.taiLow - F.TB_UTC_leap_tai.get v)) * unitsPerSec
    let (n, d) := if leap = 3 then d.fresh 16 else (if leap = 1 then off + 1 else off + 65535, d)
    (d.modTb (fun t => { t with leapAt := some at_, leapDel := leap == 2 })).setUtcAt at_ (F.TB_UTC_leap.put (F.TB_UTC_utc_offset.put v n) 0))

/-- TICK_CHANGE (R70): the second boundary after a write of TB_TICK has come. -/
def execTickChange (s : State) : Outc := s.go (fun d =>
  match d.tb.tickSet with
  | some t => if secOf t < secOf d.now then d.modTb (fun x => { x with tick := d.tickExp, tickSet := none }) else d
  | none => d)

/-- PPS_OUT_RISE (R65): the station-time nanoseconds are 0. -/
def execPpsOutRise (s : State) : Outc := s.go (fun d => if d.ppsDriven && nsOf d.now == 0 then d.setPps true else d)

/-- PPS_OUT_FALL (R65): pps_width ms after the rise. -/
def execPpsOutFall (s : State) : Outc := s.go (fun d =>
  if d.tb.ppsRise + msU (d.rd R.TB_PPS F.TB_PPS_pps_width) ≤ d.now then d.setPps false else d)

end Sys2Proof.Machine
end

