-- ==== Sys2Proof/Machine/Dispatch.lean ====
section
/-!
DEFINITION. The dispatcher: each command has one meaning.
-/

namespace Sys2Proof.Machine

def exec (i : Instr) (s : State) : Host.Outcome State Fault Refusal :=
  match i with
  | .registerWrite src a size v => Sys2Proof.Machine.execRegisterWrite src a size v s
  | .rcRead src a size => Sys2Proof.Machine.execRcRead src a size s
  | .ptTsdlyWrite src p size v => Sys2Proof.Machine.execPtTsdlyWrite src p size v s
  | .unmappedAccess src a size v => Sys2Proof.Machine.execUnmappedAccess src a size v s
  | .tbNowLoRead src => Sys2Proof.Machine.execTbNowLoRead src s
  | .glFrec2Read src g => Sys2Proof.Machine.execGlFrec2Read src g s
  | .ldAnq1Read src => Sys2Proof.Machine.execLdAnq1Read src s
  | .tkRrec1Read src => Sys2Proof.Machine.execTkRrec1Read src s
  | .coldReset => Sys2Proof.Machine.execColdReset s
  | .strapSample bootSel lullEn => Sys2Proof.Machine.execStrapSample bootSel lullEn s
  | .startupStageEnd e => Sys2Proof.Machine.execStartupStageEnd e s
  | .stageTimeout => Sys2Proof.Machine.execStageTimeout s
  | .warmResetBegin => Sys2Proof.Machine.execWarmResetBegin s
  | .perstNAssert => Sys2Proof.Machine.execPerstNAssert s
  | .perstNRelease => Sys2Proof.Machine.execPerstNRelease s
  | .flr fn => Sys2Proof.Machine.execFlr fn s
  | .frameReceive p data sec => Sys2Proof.Machine.execFrameReceive p data sec s
  | .pipeAccept p => Sys2Proof.Machine.execPipeAccept p s
  | .bodyComplete h => Sys2Proof.Machine.execBodyComplete h s
  | .parseStart p a => Sys2Proof.Machine.execParseStart p a s
  | .assayExt p a => Sys2Proof.Machine.execAssayExt p a s
  | .ldr p a => Sys2Proof.Machine.execLdr p a s
  | .advi p a => Sys2Proof.Machine.execAdvi p a s
  | .advr p a => Sys2Proof.Machine.execAdvr p a s
  | .beq p a => Sys2Proof.Machine.execBeq p a s
  | .bne p a => Sys2Proof.Machine.execBne p a s
  | .bset p a => Sys2Proof.Machine.execBset p a s
  | .jmp p a => Sys2Proof.Machine.execJmp p a s
  | .setb p a => Sys2Proof.Machine.execSetb p a s
  | .putr p a => Sys2Proof.Machine.execPutr p a s
  | .keyp p a => Sys2Proof.Machine.execKeyp p a s
  | .hdr p a => Sys2Proof.Machine.execHdr p a s
  | .ldm p a => Sys2Proof.Machine.execLdm p a s
  | .done p a => Sys2Proof.Machine.execDone p a s
  | .fail p a => Sys2Proof.Machine.execFail p a s
  | .parseOverrun p a => Sys2Proof.Machine.execParseOverrun p a s
  | .tubIssue p => Sys2Proof.Machine.execTubIssue p s
  | .exceptionDeliver h => Sys2Proof.Machine.execExceptionDeliver h s
  | .excTokenCredit => Sys2Proof.Machine.execExcTokenCredit s
  | .commitEffect p => Sys2Proof.Machine.execCommitEffect p s
  | .stagingCopyDone => Sys2Proof.Machine.execStagingCopyDone s
  | .eddyEnqueue => Sys2Proof.Machine.execEddyEnqueue s
  | .learnApply p => Sys2Proof.Machine.execLearnApply p s
  | .stationSweepVisit p => Sys2Proof.Machine.execStationSweepVisit p s
  | .stDmactlStart src op tbl index count => Sys2Proof.Machine.execStDmactlStart src op tbl index count s
  | .stDmaDone => Sys2Proof.Machine.execStDmaDone s
  | .stDmactlLock src tbl lock => Sys2Proof.Machine.execStDmactlLock src tbl lock s
  | .lockTimeout => Sys2Proof.Machine.execLockTimeout s
  | .tableClearDone => Sys2Proof.Machine.execTableClearDone s
  | .drTctlEn src t en => Sys2Proof.Machine.execDrTctlEn src t en s
  | .admission p c7 => Sys2Proof.Machine.execAdmission p c7 s
  | .nodeDispatch g => Sys2Proof.Machine.execNodeDispatch g s
  | .threadTakeNode k => Sys2Proof.Machine.execThreadTakeNode k s
  | .nodeComplete => Sys2Proof.Machine.execNodeComplete s
  | .helperTimeout g slot node => Sys2Proof.Machine.execHelperTimeout g slot node s
  | .delayFire g => Sys2Proof.Machine.execDelayFire g s
  | .jobVoid g slot => Sys2Proof.Machine.execJobVoid g slot s
  | .dispatchTraceDrain => Sys2Proof.Machine.execDispatchTraceDrain s
  | .lodeHelper g bad => Sys2Proof.Machine.execLodeHelper g bad s
  | .streamHelper g => Sys2Proof.Machine.execStreamHelper g s
  | .ruleHelper g => Sys2Proof.Machine.execRuleHelper g s
  | .ddrFetch g => Sys2Proof.Machine.execDdrFetch g s
  | .releaseNodeComplete g => Sys2Proof.Machine.execReleaseNodeComplete g s
  | .hoistRelease => Sys2Proof.Machine.execHoistRelease s
  | .bareVoid p c7 => Sys2Proof.Machine.execBareVoid p c7 s
  | .reorderLimit t => Sys2Proof.Machine.execReorderLimit t s
  | .hoistReclaim g => Sys2Proof.Machine.execHoistReclaim g s
  | .enqueueRequest => Sys2Proof.Machine.execEnqueueRequest s
  | .columnMove col => Sys2Proof.Machine.execColumnMove col s
  | .transmitOpportunity p => Sys2Proof.Machine.execTransmitOpportunity p s
  | .egressEdit p => Sys2Proof.Machine.execEgressEdit p s
  | .frameSent p => Sys2Proof.Machine.execFrameSent p s
  | .captureWrite => Sys2Proof.Machine.execCaptureWrite s
  | .holdWindowEnd p => Sys2Proof.Machine.execHoldWindowEnd p s
  | .xcPlmapWrite src v => Sys2Proof.Machine.execXcPlmapWrite src v s
  | .planeMoveDone e => Sys2Proof.Machine.execPlaneMoveDone e s
  | .thresholdTune => Sys2Proof.Machine.execThresholdTune s
  | .alloc h => Sys2Proof.Machine.execAlloc h s
  | .reserve row tag n cls7 => Sys2Proof.Machine.execReserve row tag n cls7 s
  | .take row tag => Sys2Proof.Machine.execTake row tag s
  | .unreserve row tag n => Sys2Proof.Machine.execUnreserve row tag n s
  | .xfer ptr old new => Sys2Proof.Machine.execXfer ptr old new s
  | .append ptr hdr => Sys2Proof.Machine.execAppend ptr hdr s
  | .setref ptr tag k => Sys2Proof.Machine.execSetref ptr tag k s
  | .addref ptr => Sys2Proof.Machine.execAddref ptr s
  | .dropref ptr => Sys2Proof.Machine.execDropref ptr s
  | .free ptr tag => Sys2Proof.Machine.execFree ptr tag s
  | .binReclaimScan p => Sys2Proof.Machine.execBinReclaimScan p s
  | .freeListRebuildDone row => Sys2Proof.Machine.execFreeListRebuildDone row s
  | .conservationCheck bad => Sys2Proof.Machine.execConservationCheck bad s
  | .glGencmdGo src g v => Sys2Proof.Machine.execGlGencmdGo src g v s
  | .generatorCopyDone g => Sys2Proof.Machine.execGeneratorCopyDone g s
  | .ptPcfgWrite src p v => Sys2Proof.Machine.execPtPcfgWrite src p v s
  | .linkLoss p lock loc rem => Sys2Proof.Machine.execLinkLoss p lock loc rem s
  | .linkConditionClears p => Sys2Proof.Machine.execLinkConditionClears p s
  | .debounceExpiry p => Sys2Proof.Machine.execDebounceExpiry p s
  | .linkUp p => Sys2Proof.Machine.execLinkUp p s
  | .linkFaultSignalled p loc rem => Sys2Proof.Machine.execLinkFaultSignalled p loc rem s
  | .faultClear p => Sys2Proof.Machine.execFaultClear p s
  | .lockLost p => Sys2Proof.Machine.execLockLost p s
  | .tsCalDone p => Sys2Proof.Machine.execTsCalDone p s
  | .pauseFrameRx p pfc hold release => Sys2Proof.Machine.execPauseFrameRx p pfc hold release s
  | .pauseRefresh row => Sys2Proof.Machine.execPauseRefresh row s
  | .pauseWatchdog p q => Sys2Proof.Machine.execPauseWatchdog p q s
  | .watchdogDiscardEnd p q => Sys2Proof.Machine.execWatchdogDiscardEnd p q s
  | .ptGclctlCommit src p cycle length => Sys2Proof.Machine.execPtGclctlCommit src p cycle length s
  | .gateChangeover p => Sys2Proof.Machine.execGateChangeover p s
  | .gateEntryBoundary p => Sys2Proof.Machine.execGateEntryBoundary p s
  | .prpSupervisionSend p => Sys2Proof.Machine.execPrpSupervisionSend p s
  | .crossingToken isl bad => Sys2Proof.Machine.execCrossingToken isl bad s
  | .islandClockRestart isl => Sys2Proof.Machine.execIslandClockRestart isl s
  | .refMeasurement b ok => Sys2Proof.Machine.execRefMeasurement b ok s
  | .refEdgeLoss b => Sys2Proof.Machine.execRefEdgeLoss b s
  | .refRevert => Sys2Proof.Machine.execRefRevert s
  | .ppsInEdge wide => Sys2Proof.Machine.execPpsInEdge wide s
  | .ppsInLoss => Sys2Proof.Machine.execPpsInLoss s
  | .irigFrame soy year ext => Sys2Proof.Machine.execIrigFrame soy year ext s
  | .irigMissing => Sys2Proof.Machine.execIrigMissing s
  | .ptpMeasurement off late stale ann => Sys2Proof.Machine.execPtpMeasurement off late stale ann s
  | .ptpTimeout => Sys2Proof.Machine.execPtpTimeout s
  | .holdValidSet => Sys2Proof.Machine.execHoldValidSet s
  | .holdoverExpiry => Sys2Proof.Machine.execHoldoverExpiry s
  | .ovenReady => Sys2Proof.Machine.execOvenReady s
  | .tbCtlWrite src v => Sys2Proof.Machine.execTbCtlWrite src v s
  | .tbStepWrite src v => Sys2Proof.Machine.execTbStepWrite src v s
  | .stepTakesEffect => Sys2Proof.Machine.execStepTakesEffect s
  | .tbFreqWrite src v => Sys2Proof.Machine.execTbFreqWrite src v s
  | .tbUtcWrite src v => Sys2Proof.Machine.execTbUtcWrite src v s
  | .leapTakesEffect => Sys2Proof.Machine.execLeapTakesEffect s
  | .tickChange => Sys2Proof.Machine.execTickChange s
  | .ppsOutRise => Sys2Proof.Machine.execPpsOutRise s
  | .ppsOutFall => Sys2Proof.Machine.execPpsOutFall s
  | .dvfsComplete g => Sys2Proof.Machine.execDvfsComplete g s
  | .interruptLatch k => Sys2Proof.Machine.execInterruptLatch k s
  | .supTimeout g => Sys2Proof.Machine.execSupTimeout g s
  | .glTctlRst src g c t => Sys2Proof.Machine.execGlTctlRst src g c t s
  | .glTctlKill src g c t => Sys2Proof.Machine.execGlTctlKill src g c t s
  | .glCtlCoreRst src g mask => Sys2Proof.Machine.execGlCtlCoreRst src g mask s
  | .glCtlGalRst src g => Sys2Proof.Machine.execGlCtlGalRst src g s
  | .galleryResetDone g => Sys2Proof.Machine.execGalleryResetDone g s
  | .glCtlSupRun src g => Sys2Proof.Machine.execGlCtlSupRun src g s
  | .glTsoft src g thread => Sys2Proof.Machine.execGlTsoft src g thread s
  | .glRosectlCommit src g c => Sys2Proof.Machine.execGlRosectlCommit src g c s
  | .roseChangeover g c => Sys2Proof.Machine.execRoseChangeover g c s
  | .add k dst src => Sys2Proof.Machine.execAdd k dst src s
  | .sub k dst src => Sys2Proof.Machine.execSub k dst src s
  | .andR k dst src => Sys2Proof.Machine.execAndR k dst src s
  | .orR k dst src => Sys2Proof.Machine.execOrR k dst src s
  | .xorR k dst src => Sys2Proof.Machine.execXorR k dst src s
  | .mov k dst src => Sys2Proof.Machine.execMov k dst src s
  | .adc k dst src => Sys2Proof.Machine.execAdc k dst src s
  | .sbc k dst src => Sys2Proof.Machine.execSbc k dst src s
  | .cmp k dst src => Sys2Proof.Machine.execCmp k dst src s
  | .tst k dst src => Sys2Proof.Machine.execTst k dst src s
  | .mul k dst src => Sys2Proof.Machine.execMul k dst src s
  | .mulh k dst src => Sys2Proof.Machine.execMulh k dst src s
  | .mulhu k dst src => Sys2Proof.Machine.execMulhu k dst src s
  | .shl k dst src => Sys2Proof.Machine.execShl k dst src s
  | .shr k dst src => Sys2Proof.Machine.execShr k dst src s
  | .sar k dst src => Sys2Proof.Machine.execSar k dst src s
  | .ror k dst src => Sys2Proof.Machine.execRor k dst src s
  | .addi k dst imm => Sys2Proof.Machine.execAddi k dst imm s
  | .movi k dst imm => Sys2Proof.Machine.execMovi k dst imm s
  | .cmpi k dst imm => Sys2Proof.Machine.execCmpi k dst imm s
  | .shli k dst n => Sys2Proof.Machine.execShli k dst n s
  | .shri k dst n => Sys2Proof.Machine.execShri k dst n s
  | .sari k dst n => Sys2Proof.Machine.execSari k dst n s
  | .rori k dst n => Sys2Proof.Machine.execRori k dst n s
  | .ldb k dst b => Sys2Proof.Machine.execLdb k dst b s
  | .ldh k dst b => Sys2Proof.Machine.execLdh k dst b s
  | .ldw k dst b => Sys2Proof.Machine.execLdw k dst b s
  | .ldhs k dst b => Sys2Proof.Machine.execLdhs k dst b s
  | .stb k src b => Sys2Proof.Machine.execStb k src b s
  | .sth k src b => Sys2Proof.Machine.execSth k src b s
  | .stw k src b => Sys2Proof.Machine.execStw k src b s
  | .bcc k cond off => Sys2Proof.Machine.execBcc k cond off s
  | .call k off => Sys2Proof.Machine.execCall k off s
  | .jr k src => Sys2Proof.Machine.execJr k src s
  | .callr k src => Sys2Proof.Machine.execCallr k src s
  | .ret k => Sys2Proof.Machine.execRet k s
  | .mfs k dst num => Sys2Proof.Machine.execMfs k dst num s
  | .mts k num src => Sys2Proof.Machine.execMts k num src s
  | .nop k => Sys2Proof.Machine.execNop k s
  | .endNode k => Sys2Proof.Machine.execEndNode k s
  | .rti k => Sys2Proof.Machine.execRti k s
  | .fence k => Sys2Proof.Machine.execFence k s
  | .brk k => Sys2Proof.Machine.execBrk k s
  | .notR k r => Sys2Proof.Machine.execNotR k r s
  | .neg k r => Sys2Proof.Machine.execNeg k r s
  | .clz k r => Sys2Proof.Machine.execClz k r s
  | .bswap k r => Sys2Proof.Machine.execBswap k r s
  | .sxb k r => Sys2Proof.Machine.execSxb k r s
  | .sxh k r => Sys2Proof.Machine.execSxh k r s
  | .popc k r => Sys2Proof.Machine.execPopc k r s
  | .imw k a b => Sys2Proof.Machine.execImw k a b s
  | .minR k dst src => Sys2Proof.Machine.execMinR k dst src s
  | .maxR k dst src => Sys2Proof.Machine.execMaxR k dst src s
  | .ext k imm => Sys2Proof.Machine.execExt k imm s
  | .storePerform k => Sys2Proof.Machine.execStorePerform k s
  | .longLoadReturn k n ecc => Sys2Proof.Machine.execLongLoadReturn k n ecc s
  | .lka k r => Sys2Proof.Machine.execLka k r s
  | .lkt k r => Sys2Proof.Machine.execLkt k r s
  | .lkr k r => Sys2Proof.Machine.execLkr k r s
  | .wla k r => Sys2Proof.Machine.execWla k r s
  | .wlt k r => Sys2Proof.Machine.execWlt k r s
  | .wlr k r => Sys2Proof.Machine.execWlr k r s
  | .evw k r => Sys2Proof.Machine.execEvw k r s
  | .evs k r => Sys2Proof.Machine.execEvs k r s
  | .chp k r => Sys2Proof.Machine.execChp k r s
  | .chc k r => Sys2Proof.Machine.execChc k r s
  | .chg k r => Sys2Proof.Machine.execChg k r s
  | .evwTimeout k => Sys2Proof.Machine.execEvwTimeout k s
  | .tkFrel src lock => Sys2Proof.Machine.execTkFrel src lock s
  | .tkChanWrite src c v => Sys2Proof.Machine.execTkChanWrite src c v s
  | .tokenReclaim g => Sys2Proof.Machine.execTokenReclaim g s
  | .doldrumsFire g w => Sys2Proof.Machine.execDoldrumsFire g w s
  | .doldrumsAnswer g mask => Sys2Proof.Machine.execDoldrumsAnswer g mask s
  | .doldrumsEscalate g w => Sys2Proof.Machine.execDoldrumsEscalate g w s
  | .sel k r => Sys2Proof.Machine.execSel k r s
  | .acb k r => Sys2Proof.Machine.execAcb k r s
  | .ach k r => Sys2Proof.Machine.execAch k r s
  | .acw k r => Sys2Proof.Machine.execAcw k r s
  | .acm k r => Sys2Proof.Machine.execAcm k r s
  | .fin k r => Sys2Proof.Machine.execFin k r s
  | .csu k r => Sys2Proof.Machine.execCsu k r s
  | .hsh k r => Sys2Proof.Machine.execHsh k r s
  | .lda k r => Sys2Proof.Machine.execLda k r s
  | .ler k r => Sys2Proof.Machine.execLer k r s
  | .mack k j r => Sys2Proof.Machine.execMack k j r s
  | .adv k => Sys2Proof.Machine.execAdv k s
  | .sph k r => Sys2Proof.Machine.execSph k r s
  | .sdp k r => Sys2Proof.Machine.execSdp k r s
  | .clr k r => Sys2Proof.Machine.execClr k r s
  | .rdr k r => Sys2Proof.Machine.execRdr k r s
  | .rdi k r => Sys2Proof.Machine.execRdi k r s
  | .rst k r => Sys2Proof.Machine.execRst k r s
  | .cp2Complete k n bad => Sys2Proof.Machine.execCp2Complete k n bad s
  | .cp2Timeout k n => Sys2Proof.Machine.execCp2Timeout k n s
  | .lateError g => Sys2Proof.Machine.execLateError g s
  | .faceOperation k op r => Sys2Proof.Machine.execFaceOperation k op r s
  | .faceReply g tag data err => Sys2Proof.Machine.execFaceReply g tag data err s
  | .faceTimeout g tag => Sys2Proof.Machine.execFaceTimeout g tag s
  | .fcIrq g => Sys2Proof.Machine.execFcIrq g s
  | .glFcctlLoad src g => Sys2Proof.Machine.execGlFcctlLoad src g s
  | .faceLoadDone g => Sys2Proof.Machine.execFaceLoadDone g s
  | .glFcctlClear src g => Sys2Proof.Machine.execGlFcctlClear src g s
  | .glFcctlRun src g run => Sys2Proof.Machine.execGlFcctlRun src g run s
  | .faceFrameScrub g ecc => Sys2Proof.Machine.execFaceFrameScrub g ecc s
  | .faceRestart g => Sys2Proof.Machine.execFaceRestart g s
  | .step g => Sys2Proof.Machine.execStep g s
  | .state g => Sys2Proof.Machine.execState g s
  | .windowDeadline g slot set => Sys2Proof.Machine.execWindowDeadline g slot set s
  | .blockArrive => Sys2Proof.Machine.execBlockArrive s
  | .frameEmission o => Sys2Proof.Machine.execFrameEmission o s
  | .cfgChgEnd o => Sys2Proof.Machine.execCfgChgEnd o s
  | .lookup bad => Sys2Proof.Machine.execLookup bad s
  | .insert bad => Sys2Proof.Machine.execInsert bad s
  | .displacementMove n => Sys2Proof.Machine.execDisplacementMove n s
  | .lodeAdd bad => Sys2Proof.Machine.execLodeAdd bad s
  | .supv bad => Sys2Proof.Machine.execSupv bad s
  | .lodeMax bad => Sys2Proof.Machine.execLodeMax bad s
  | .cas bad => Sys2Proof.Machine.execCas bad s
  | .seq bad => Sys2Proof.Machine.execSeq bad s
  | .delete bad => Sys2Proof.Machine.execDelete bad s
  | .gen bad => Sys2Proof.Machine.execGen bad s
  | .rdx bad => Sys2Proof.Machine.execRdx bad s
  | .wrx bad => Sys2Proof.Machine.execWrx bad s
  | .watchExpiry slot => Sys2Proof.Machine.execWatchExpiry slot s
  | .lodeSweepVisit => Sys2Proof.Machine.execLodeSweepVisit s
  | .ldSweepFlush src kind pinned => Sys2Proof.Machine.execLdSweepFlush src kind pinned s
  | .exportWrite => Sys2Proof.Machine.execExportWrite s
  | .repairStep k => Sys2Proof.Machine.execRepairStep k s
  | .anomalyDrain => Sys2Proof.Machine.execAnomalyDrain s
  | .agePolicyStep => Sys2Proof.Machine.execAgePolicyStep s
  | .cageDoorbell src fn v => Sys2Proof.Machine.execCageDoorbell src fn v s
  | .identify fn => Sys2Proof.Machine.execIdentify fn s
  | .cageNop fn => Sys2Proof.Machine.execCageNop fn s
  | .deviceStatus fn => Sys2Proof.Machine.execDeviceStatus fn s
  | .eventMask fn => Sys2Proof.Machine.execEventMask fn s
  | .expertGrant fn => Sys2Proof.Machine.execExpertGrant fn s
  | .expertRelease fn => Sys2Proof.Machine.execExpertRelease fn s
  | .functionRights fn => Sys2Proof.Machine.execFunctionRights fn s
  | .fwUpdate fn ok => Sys2Proof.Machine.execFwUpdate fn ok s
  | .fwActivate fn ok => Sys2Proof.Machine.execFwActivate fn ok s
  | .warmReset fn => Sys2Proof.Machine.execWarmReset fn s
  | .syRstWarm src => Sys2Proof.Machine.execSyRstWarm src s
  | .queueAssign fn => Sys2Proof.Machine.execQueueAssign fn s
  | .queueSetup fn => Sys2Proof.Machine.execQueueSetup fn s
  | .queueEnable fn => Sys2Proof.Machine.execQueueEnable fn s
  | .queueStats fn => Sys2Proof.Machine.execQueueStats fn s
  | .linkStatus fn => Sys2Proof.Machine.execLinkStatus fn s
  | .hostConfig fn => Sys2Proof.Machine.execHostConfig fn s
  | .portConfig fn => Sys2Proof.Machine.execPortConfig fn s
  | .portStatus fn => Sys2Proof.Machine.execPortStatus fn s
  | .portStats fn => Sys2Proof.Machine.execPortStats fn s
  | .gateListLoad fn => Sys2Proof.Machine.execGateListLoad fn s
  | .macsecSaSet fn => Sys2Proof.Machine.execMacsecSaSet fn s
  | .ptpConfig fn => Sys2Proof.Machine.execPtpConfig fn s
  | .redPairSet fn => Sys2Proof.Machine.execRedPairSet fn s
  | .timeConfig fn => Sys2Proof.Machine.execTimeConfig fn s
  | .timeStatus fn => Sys2Proof.Machine.execTimeStatus fn s
  | .utcSet fn => Sys2Proof.Machine.execUtcSet fn s
  | .timeStep fn => Sys2Proof.Machine.execTimeStep fn s
  | .ruleWrite fn => Sys2Proof.Machine.execRuleWrite fn s
  | .ruleFlag fn => Sys2Proof.Machine.execRuleFlag fn s
  | .ruleRead fn => Sys2Proof.Machine.execRuleRead fn s
  | .keyProfileSet fn => Sys2Proof.Machine.execKeyProfileSet fn s
  | .parseLoad fn => Sys2Proof.Machine.execParseLoad fn s
  | .ruleCommit fn => Sys2Proof.Machine.execRuleCommit fn s
  | .ruleStatus fn => Sys2Proof.Machine.execRuleStatus fn s
  | .ruleRetire fn => Sys2Proof.Machine.execRuleRetire fn s
  | .excConfig fn => Sys2Proof.Machine.execExcConfig fn s
  | .excStats fn => Sys2Proof.Machine.execExcStats fn s
  | .eddyConfig fn => Sys2Proof.Machine.execEddyConfig fn s
  | .assayStats fn => Sys2Proof.Machine.execAssayStats fn s
  | .stationAdd fn => Sys2Proof.Machine.execStationAdd fn s
  | .stationDel fn => Sys2Proof.Machine.execStationDel fn s
  | .stationFlush fn => Sys2Proof.Machine.execStationFlush fn s
  | .stationRead fn => Sys2Proof.Machine.execStationRead fn s
  | .stationConfig fn => Sys2Proof.Machine.execStationConfig fn s
  | .streamSet fn => Sys2Proof.Machine.execStreamSet fn s
  | .streamGet fn => Sys2Proof.Machine.execStreamGet fn s
  | .meterSet fn => Sys2Proof.Machine.execMeterSet fn s
  | .tableStats fn => Sys2Proof.Machine.execTableStats fn s
  | .templateLoad fn => Sys2Proof.Machine.execTemplateLoad fn s
  | .templateEnable fn => Sys2Proof.Machine.execTemplateEnable fn s
  | .templateStatus fn => Sys2Proof.Machine.execTemplateStatus fn s
  | .affinitySet fn => Sys2Proof.Machine.execAffinitySet fn s
  | .twinConfig fn => Sys2Proof.Machine.execTwinConfig fn s
  | .schedStats fn => Sys2Proof.Machine.execSchedStats fn s
  | .traceStart fn => Sys2Proof.Machine.execTraceStart fn s
  | .traceStop fn => Sys2Proof.Machine.execTraceStop fn s
  | .draughtConfig fn => Sys2Proof.Machine.execDraughtConfig fn s
  | .galleryLoad fn img => Sys2Proof.Machine.execGalleryLoad fn img s
  | .galleryStatus fn => Sys2Proof.Machine.execGalleryStatus fn s
  | .roseSet fn => Sys2Proof.Machine.execRoseSet fn s
  | .faultRead fn => Sys2Proof.Machine.execFaultRead fn s
  | .galleryReset fn => Sys2Proof.Machine.execGalleryReset fn s
  | .threadReset fn => Sys2Proof.Machine.execThreadReset fn s
  | .faceLoad fn => Sys2Proof.Machine.execFaceLoad fn s
  | .faceRun fn => Sys2Proof.Machine.execFaceRun fn s
  | .faceStatus fn => Sys2Proof.Machine.execFaceStatus fn s
  | .cpStats fn => Sys2Proof.Machine.execCpStats fn s
  | .phasorBind fn => Sys2Proof.Machine.execPhasorBind fn s
  | .phasorUnbind fn => Sys2Proof.Machine.execPhasorUnbind fn s
  | .phasorEnable fn => Sys2Proof.Machine.execPhasorEnable fn s
  | .pmuOutputSet fn => Sys2Proof.Machine.execPmuOutputSet fn s
  | .phasorStatus fn => Sys2Proof.Machine.execPhasorStatus fn s
  | .pmuStats fn => Sys2Proof.Machine.execPmuStats fn s
  | .lodeOp fn bad => Sys2Proof.Machine.execLodeOp fn bad s
  | .lodeRead fn bad => Sys2Proof.Machine.execLodeRead fn bad s
  | .lodeWrite fn => Sys2Proof.Machine.execLodeWrite fn s
  | .lodeFlush fn => Sys2Proof.Machine.execLodeFlush fn s
  | .lodeExportSet fn => Sys2Proof.Machine.execLodeExportSet fn s
  | .lodeAnomalyRead fn => Sys2Proof.Machine.execLodeAnomalyRead fn s
  | .lodeStats fn => Sys2Proof.Machine.execLodeStats fn s
  | .lodeAgeSet fn => Sys2Proof.Machine.execLodeAgeSet fn s
  | .lodeConfig fn => Sys2Proof.Machine.execLodeConfig fn s
  | .lockGroupSet fn => Sys2Proof.Machine.execLockGroupSet fn s
  | .lockStatus fn => Sys2Proof.Machine.execLockStatus fn s
  | .channelSet fn => Sys2Proof.Machine.execChannelSet fn s
  | .doldrumsConfig fn => Sys2Proof.Machine.execDoldrumsConfig fn s
  | .tokenStats fn => Sys2Proof.Machine.execTokenStats fn s
  | .lockForceRelease fn => Sys2Proof.Machine.execLockForceRelease fn s
  | .hoistStats fn => Sys2Proof.Machine.execHoistStats fn s
  | .hoistDomainRead fn => Sys2Proof.Machine.execHoistDomainRead fn s
  | .hoistConfig fn => Sys2Proof.Machine.execHoistConfig fn s
  | .mcastGroupSet fn => Sys2Proof.Machine.execMcastGroupSet fn s
  | .mcastGroupGet fn => Sys2Proof.Machine.execMcastGroupGet fn s
  | .mirrorSet fn => Sys2Proof.Machine.execMirrorSet fn s
  | .switchPortSet fn => Sys2Proof.Machine.execSwitchPortSet fn s
  | .captureSet fn => Sys2Proof.Machine.execCaptureSet fn s
  | .captureStatus fn => Sys2Proof.Machine.execCaptureStatus fn s
  | .planeStatus fn => Sys2Proof.Machine.execPlaneStatus fn s
  | .switchStats fn => Sys2Proof.Machine.execSwitchStats fn s
  | .switchThreshSet fn => Sys2Proof.Machine.execSwitchThreshSet fn s
  | .planeMapSet fn => Sys2Proof.Machine.execPlaneMapSet fn s
  | .switchConfig fn => Sys2Proof.Machine.execSwitchConfig fn s
  | .binStats fn => Sys2Proof.Machine.execBinStats fn s
  | .binQuotaSet fn => Sys2Proof.Machine.execBinQuotaSet fn s
  | .seamStatus fn => Sys2Proof.Machine.execSeamStatus fn s
  | .seamSpare fn => Sys2Proof.Machine.execSeamSpare fn s
  | .reliefStatus fn => Sys2Proof.Machine.execReliefStatus fn s
  | .reliefForce fn ok => Sys2Proof.Machine.execReliefForce fn ok s
  | .powerStatus fn => Sys2Proof.Machine.execPowerStatus fn s
  | .policySet fn => Sys2Proof.Machine.execPolicySet fn s
  | .policyStatus fn => Sys2Proof.Machine.execPolicyStatus fn s
  | .ledgerRead fn => Sys2Proof.Machine.execLedgerRead fn s
  | .calibRead fn => Sys2Proof.Machine.execCalibRead fn s
  | .calibWrite fn => Sys2Proof.Machine.execCalibWrite fn s
  | .tallyRead fn => Sys2Proof.Machine.execTallyRead fn s
  | .tallyStatus fn => Sys2Proof.Machine.execTallyStatus fn s
  | .tallyLimit fn => Sys2Proof.Machine.execTallyLimit fn s
  | .debugChallenge fn => Sys2Proof.Machine.execDebugChallenge fn s
  | .debugUnlock fn ok => Sys2Proof.Machine.execDebugUnlock fn ok s
  | .debugLock fn => Sys2Proof.Machine.execDebugLock fn s
  | .eventWrite => Sys2Proof.Machine.execEventWrite s
  | .grantExpiry k => Sys2Proof.Machine.execGrantExpiry k s
  | .counterPoll a => Sys2Proof.Machine.execCounterPoll a s
  | .canaryExpiry => Sys2Proof.Machine.execCanaryExpiry s
  | .lockstepMismatch => Sys2Proof.Machine.execLockstepMismatch s
  | .takeoverComplete => Sys2Proof.Machine.execTakeoverComplete s
  | .txDoorbell by_ fn j tail wide ide => Sys2Proof.Machine.execTxDoorbell by_ fn j tail wide ide s
  | .rxDoorbell by_ fn j tail wide ide => Sys2Proof.Machine.execRxDoorbell by_ fn j tail wide ide s
  | .txDescriptor q desc data => Sys2Proof.Machine.execTxDescriptor q desc data s
  | .txRetry q => Sys2Proof.Machine.execTxRetry q s
  | .hostDeliver addrs => Sys2Proof.Machine.execHostDeliver addrs s
  | .hostWatchdog q => Sys2Proof.Machine.execHostWatchdog q s
  | .dmaError q tx => Sys2Proof.Machine.execDmaError q tx s
  | .msixMessage q => Sys2Proof.Machine.execMsixMessage q s
  | .itrExpiry q => Sys2Proof.Machine.execItrExpiry q s
  | .hiQcfgWrite src q v => Sys2Proof.Machine.execHiQcfgWrite src q v s
  | .bar2Access off n data poisoned ide => Sys2Proof.Machine.execBar2Access off n data poisoned ide s
  | .ideIntegrityFail fn => Sys2Proof.Machine.execIdeIntegrityFail fn s
  | .refresh c => Sys2Proof.Machine.execRefresh c s
  | .tempPoll c hot therm => Sys2Proof.Machine.execTempPoll c hot therm s
  | .trackingStep c width dev moved => Sys2Proof.Machine.execTrackingStep c width dev moved s
  | .neighbourRefresh log => Sys2Proof.Machine.execNeighbourRefresh log s
  | .creditWindow => Sys2Proof.Machine.execCreditWindow s
  | .slotGrant log ecc => Sys2Proof.Machine.execSlotGrant log ecc s
  | .smSpareStart src chan => Sys2Proof.Machine.execSmSpareStart src chan s
  | .sparingComplete => Sys2Proof.Machine.execSparingComplete s
  | .channelAbruptFail c => Sys2Proof.Machine.execChannelAbruptFail c s
  | .pllLockLoss isl => Sys2Proof.Machine.execPllLockLoss isl s
  | .selfCheckFail u => Sys2Proof.Machine.execSelfCheckFail u s
  | .unitFence => Sys2Proof.Machine.execUnitFence s
  | .draughtReclaim g => Sys2Proof.Machine.execDraughtReclaim g s
  | .galleryTakeover => Sys2Proof.Machine.execGalleryTakeover s
  | .rlForceGo src kind ret unit pass => Sys2Proof.Machine.execRlForceGo src kind ret unit pass s
  | .swapDrainDone => Sys2Proof.Machine.execSwapDrainDone s
  | .phaseShed rail low dead => Sys2Proof.Machine.execPhaseShed rail low dead s
  | .drainTimeout g slot => Sys2Proof.Machine.execDrainTimeout g slot s
  | .alarmCauseExpiry b => Sys2Proof.Machine.execAlarmCauseExpiry b s
  | .vmainFall => Sys2Proof.Machine.execVmainFall s
  | .vmainDip => Sys2Proof.Machine.execVmainDip s
  | .shedComplete => Sys2Proof.Machine.execShedComplete s
  | .vmainRise => Sys2Proof.Machine.execVmainRise s
  | .restoreComplete => Sys2Proof.Machine.execRestoreComplete s
  | .storeLow => Sys2Proof.Machine.execStoreLow s
  | .vmainInvalid => Sys2Proof.Machine.execVmainInvalid s
  | .storeCharged => Sys2Proof.Machine.execStoreCharged s
  | .vkeepLoss => Sys2Proof.Machine.execVkeepLoss s
  | .pwDomReq src dom req => Sys2Proof.Machine.execPwDomReq src dom req s
  | .domainRampDone dom ok => Sys2Proof.Machine.execDomainRampDone dom ok s
  | .thermalStep isl => Sys2Proof.Machine.execThermalStep isl s
  | .thermalTrip => Sys2Proof.Machine.execThermalTrip s
  | .scrubStep item => Sys2Proof.Machine.execScrubStep item s
  | .scrubPassLate region => Sys2Proof.Machine.execScrubPassLate region s
  | .calibrationCycle item => Sys2Proof.Machine.execCalibrationCycle item s
  | .ageingMeasure slow => Sys2Proof.Machine.execAgeingMeasure slow s
  | .stressAccrue g p tj => Sys2Proof.Machine.execStressAccrue g p tj s
  | .rotationStep => Sys2Proof.Machine.execRotationStep s
  | .thermalPolicyStep g tj => Sys2Proof.Machine.execThermalPolicyStep g tj s
  | .refreshPolicyStep count => Sys2Proof.Machine.execRefreshPolicyStep count s
  | .freezePolicyStep p count => Sys2Proof.Machine.execFreezePolicyStep p count s
  | .telemetrySnapshot vmon therm rest => Sys2Proof.Machine.execTelemetrySnapshot vmon therm rest s
  | .calendarSecond => Sys2Proof.Machine.execCalendarSecond s
  | .ledgerWrite => Sys2Proof.Machine.execLedgerWrite s
  | .tallyRecord => Sys2Proof.Machine.execTallyRecord s
  | .tallyCredit => Sys2Proof.Machine.execTallyCredit s
  | .suppressionRecord code => Sys2Proof.Machine.execSuppressionRecord code s
  | .chunkProgram => Sys2Proof.Machine.execChunkProgram s
  | .blockRetire b erase => Sys2Proof.Machine.execBlockRetire b erase s
  | .tallyClose => Sys2Proof.Machine.execTallyClose s
  | .tallyOpen torn => Sys2Proof.Machine.execTallyOpen torn s
  | .smbStatusRead => Sys2Proof.Machine.execSmbStatusRead s
  | .smbPointerWrite area index => Sys2Proof.Machine.execSmbPointerWrite area index s
  | .smbRecordRead => Sys2Proof.Machine.execSmbRecordRead s
  | .smbCountRead => Sys2Proof.Machine.execSmbCountRead s
  | .bypass tdi => Sys2Proof.Machine.execBypass tdi s
  | .idcode => Sys2Proof.Machine.execIdcode s
  | .samplePreload pins load => Sys2Proof.Machine.execSamplePreload pins load s
  | .extest load => Sys2Proof.Machine.execExtest load s
  | .challenge => Sys2Proof.Machine.execChallenge s
  | .unlock verifies => Sys2Proof.Machine.execUnlock verifies s
  | .lock => Sys2Proof.Machine.execLock s
  | .dbacc write off data => Sys2Proof.Machine.execDbacc write off data s
  | .nonceExpiry => Sys2Proof.Machine.execNonceExpiry s
  | .dbTcmdHalt src thread all => Sys2Proof.Machine.execDbTcmdHalt src thread all s
  | .dbTcmdResume src thread all => Sys2Proof.Machine.execDbTcmdResume src thread all s
  | .dbTcmdStep src thread all => Sys2Proof.Machine.execDbTcmdStep src thread all s
  | .dbTcmdKill src thread all => Sys2Proof.Machine.execDbTcmdKill src thread all s
  | .traceSync => Sys2Proof.Machine.execTraceSync s
  | .galleryTraceDrain => Sys2Proof.Machine.execGalleryTraceDrain s
  | .cp2Operation k op r => Sys2Proof.Machine.execCp2Operation k op r s
  | .illegalInstruction k => Sys2Proof.Machine.execIllegalInstruction k s
  | .assayerIllegalOp p a => Sys2Proof.Machine.execAssayerIllegalOp p a s
  | .areaWrite src a size v => Sys2Proof.Machine.execAreaWrite src a size v s
  | .asRverCommit src => Sys2Proof.Machine.execAsRverCommit src s
  | .asRverRetire src commit => Sys2Proof.Machine.execAsRverRetire src commit s
  | .asRcmdStart src op index flag => Sys2Proof.Machine.execAsRcmdStart src op index flag s
  | .badRequest fn => Sys2Proof.Machine.execBadRequest fn s
  | .overmanTakesFrame full => Sys2Proof.Machine.execOvermanTakesFrame full s
  | .ptpMessageSend p kind => Sys2Proof.Machine.execPtpMessageSend p kind s
  | .ptpParentChange p => Sys2Proof.Machine.execPtpParentChange p s
  | .pauseQuantaExpiry p mask => Sys2Proof.Machine.execPauseQuantaExpiry p mask s
  | .configurationWrite fn bme d3 vf => Sys2Proof.Machine.execConfigurationWrite fn bme d3 vf s
  | .msixUnmask fn e => Sys2Proof.Machine.execMsixUnmask fn e s
  | .ideKm fn => Sys2Proof.Machine.execIdeKm fn s
  | .overmanMemoryError => Sys2Proof.Machine.execOvermanMemoryError s
  | .coreCFailure => Sys2Proof.Machine.execCoreCFailure s
  | .phasorBlockRewrite b => Sys2Proof.Machine.execPhasorBlockRewrite b s
  | .testLogicReset => Sys2Proof.Machine.execTestLogicReset s

end Sys2Proof.Machine
end

