-- ==== Sys2Proof/Safety.lean ====
section
/-!
DEFINITION. The words in which claims about the model are stated: what a command does to the device, when a thread's instruction
issues and what stays as it was, when a Cage request is good, and what every step keeps.
-/

namespace Sys2Proof.Machine

/-- Command `c` answers a next state: the device `d` becomes `e`, whatever commands wait, and they wait on. -/
def Does (c : Instr) (d e : Dev) : Prop := ∀ q, exec c { dev := d, pending := q } = .next { dev := e, pending := q }

/-- What every step keeps: the canonical form of memory. -/
def State.Inv (s : State) : Prop := Memory.wf s.dev.mem = true

/-! ## Instructions of the threads -/

/-- Thread `k` issues its fetched word (R154, R165, R179, R181, R501): it may issue, the word has the pattern, no breakpoint
holds it and its word is whole, the registers it uses are not marked, no prefix stands before a word that takes none, and the
node's budget has room. -/
def Dev.issues (d : Dev) (k mask pat cost : Nat) (rs : List Nat) (x : Bool) : Bool :=
  let t := d.thr k
  d.mayIssue k && (t.fetched.toNat &&& mask == pat) && !(d.breakHit k t.pc.toNat && !t.stepping)
    && !t.fetchBad && !t.scored rs && (t.ext.isEmpty || x) && !t.overBudget cost

/-- The device after an issuing instruction that uses the registers `rs` has taken its slots and the next word has been fetched (R154,
R156, R181). -/
def Dev.begun (d : Dev) (k cost : Nat) (rs : List Nat) : Dev :=
  let pc := (d.thr k).pc.toNat
  (((if (d.thr k).st = .stall then d.galTrace k 2 pc else d).ownSlot k rs).galTrace k 0 pc).taken k cost

/-- The instruction is over: the device `e` that its effect left goes on with the next bundle. -/
def Dev.beyond (e d : Dev) (k : Nat) : Dev := e.finish k (d.thr k).delayed.length

/-- A thread with the book-keeping of issue struck out: pc, fetched word, slots, prefixes, state, what it waited for, the cycles its
results come in, and mode changes. -/
def Thread.arch (t : Thread) : Thread :=
  { t with pc := 0, fetched := 0, fetchBad := false, slots := 0, ext := [], st := .free, heldFrom := .free, stepping := false, delayed := []
           agmLive := 0, ctlLive := none, why := 0, need := [], busy := [], lastOpen := 0 }

/-- Registers that the issue of an instruction of thread `k` counts in (R144, R505). -/
def issueRegs (k : Nat) : List Nat :=
  [R.DB_GTRSTAT.addr, (R.DR_CLOAD (k / 64) (k / 8 % 8)).addr, (R.DR_CHIST (k / 64) (k / 8 % 8) 0).addr,
   (R.DR_CHIST (k / 64) (k / 8 % 8) 1).addr, (R.DR_CHIST (k / 64) (k / 8 % 8) 2).addr, (R.DR_CHIST (k / 64) (k / 8 % 8) 3).addr]

/-- What an instruction of thread `k` that only computes leaves alone: every other thread, every byte of memory, every register
but the counters of issue, and every other part of the device; of the galleries only a cycle counter moves on, and of the debug
unit only the trace. -/
def IssueFrame (k : Nat) (d e : Dev) : Prop :=
  e = { d with regs := e.regs, free := e.free, db := { d.db with trace := e.db.trace, gap := e.db.gap }, gals := e.gals, threads := e.threads }
    ∧ (∀ a, e.byte a = d.byte a)
    ∧ (∀ j, j ≠ k → e.thr j = d.thr j)
    ∧ (∀ g, e.gal g = { d.gal g with cycle := (e.gal g).cycle })
    ∧ ∀ r : Reg, r.addr ∉ issueRegs k → e.rget r = d.rget r

/-- Command `c` is an instruction of thread `k` that retires: it takes `cost` slots, the thread goes on at `pc` with the word there,
its registers, flags and coprocessor state become those of `f` of the thread as it was, and all else stays. -/
def Retires (c : Instr) (d : Dev) (k cost pc : Nat) (f : Thread → Thread) : Prop :=
  ∃ e, Does c d e ∧ IssueFrame k d e ∧ (e.thr k).pc = BitVec.ofNat 14 pc ∧ (e.thr k).fetched = d.imem k pc
    ∧ (e.thr k).slots = (d.thr k).slots + cost ∧ (e.thr k).ext = [] ∧ (e.thr k).arch = (f (d.thr k)).arch

/-- The flags of R184, as TSW holds them. -/
def Thread.flags (t : Thread) (z n c v : Bool) : Thread := { t with z := z, n := n, c := c, v := v }

/-- Where an access of `n` bytes through base register `b` goes: the address and the place, if it passes every check (R150, R189,
R191, R501). -/
def Dev.reaches (d : Dev) (k b n : Nat) (store : Bool) (dst : Option Nat) : Option (Nat × Place) :=
  match d.access k (d.thr k) b n store dst with
  | .ok x => some x
  | .error _ => none

/-- The regions whose stores are buffered and whose loads are long (R182). -/
def Place.isLong : Place → Bool
  | .shared _ => true
  | .ddr _ => true
  | .lode _ => true
  | _ => false

/-- A wide sum's carry out of 32 bits. -/
def carries (a b : Word32) (cin : Bool) : Bool := decide (2 ^ 32 ≤ a.toNat + b.toNat + b2n cin)

/-- An exact signed result does not fit 32 bits. -/
def overflows (x : Int) : Bool := decide (x < -2 ^ 31) || decide (2 ^ 31 ≤ x)

/-! ## Assayers -/

/-- The next word of assayer `a` of pipe `p` is an instruction of opcode `op`, and its steps have not run out (R75, R78): the word, and the
assayer with the step counted. -/
def Dev.assayNext (d : Dev) (p a op : Nat) : Option (Nat × Assayer) :=
  match d.as.assayers.find (asKey p a) with
  | none => none
  | some x => if d.asWord x / 2 ^ 28 = op ∧ x.steps < d.stepMax p then some (d.asWord x, { x with steps := x.steps + 1 }) else none

/-! ## The service bus -/

/-- The islands of an address answer, and the clocks that a request needs run: none of them is gated (R55, R512). -/
def Dev.served (d : Dev) (a : Nat) : Bool :=
  d.reachable a && ((islandsOf a).filter d.islandUp).all (fun i => !d.on (R.CK_ISLSTAT i) F.CK_ISLSTAT_gated)

/-- An access of `src` to register `r` is delivered, and the register's island answers at once (R55, R342, R499, R512). -/
def Dev.answers (d : Dev) (src : Src) (r : Reg) : Bool := d.path src r.addr == .go && d.served r.addr

/-- A write of `src` to register `r` arrives and takes effect whole: debug is not locked before it, and the writer holds the expert
grant where one is asked for (R8, R499, R512, R514). -/
def Dev.lands (d : Dev) (src : Src) (r : Reg) : Bool :=
  d.answers src r && !d.dbLocked r.addr && (d.grantOk src || decide (2 ^ 32 ≤ r.addr))

/-- The value of a write as it takes effect: fields that cannot be written, and reserved bits, are left out (R3, R4). -/
def Dev.eff (d : Dev) (id : RegId) (ix : List Nat) (v : Word64) : Word64 :=
  (regRow id).effective (d.rget (regOf id ix)) (if (regRow id).wide then v else v &&& 0xFFFFFFFF) true

/-- What a register holds after a write that takes effect and starts nothing (R4). -/
def Dev.kept (d : Dev) (id : RegId) (ix : List Nat) (v : Word64) : Word64 := (regRow id).stored (d.rget (regOf id ix)) (d.eff id ix v)

/-- The device with that value kept, and nothing started yet. -/
def Dev.wrote (d : Dev) (id : RegId) (ix : List Nat) (v : Word64) : Dev := d.rset (regOf id ix) (d.kept id ix v)

/-! ## Cage requests -/

/-- The request that a function's area holds, as a command sees it; `ok`, `img` and `bad` are what the outside decides. -/
def Dev.request (d : Dev) (fn : Nat) (ok : Bool) (img : Option (List Byte)) (bad : Option (Nat × Bool)) : CmdIn :=
  ⟨fn, d.reqBody fn ((d.reqHdr fn).length.min 2032), ok, img, bad⟩

/-- The request of a function is command `c` of code `code`, it waits, and it passes every check of R363: the header, the rights, the
length, the ranges, and the blocks the command needs. -/
def Dev.asked (d : Dev) (fn code : Nat) (c : Cmd) (i : CmdIn) : Bool :=
  d.waiting fn && (d.reqHdr fn).code == code && (d.reqStatus fn (d.reqHdr fn) (some c) i).isNone && (firstBad (c.bad i d)).isNone
    && (c.regs i).all d.reachable

/-- The command leaves the device `e` and replies OK with these bytes. -/
def Gives (c : Instr) (d : Dev) (fn : Nat) (e : Dev) (bs : List Byte) : Prop := Does c d (e.reply fn (d.reqHdr fn) ⟨0, 0, bs⟩)

/-- The command leaves the device `e` and replies with parts read from it. -/
def Shows (c : Instr) (d : Dev) (fn : Nat) (e : Dev) (clr : Bool) (ps : List Part) : Prop :=
  Gives c d fn (e.parts fn clr ps).2 (e.parts fn clr ps).1

/-- The command writes images into registers, and if none refuses, replies with parts. -/
def Writes (c : Instr) (d : Dev) (fn : Nat) (ims : List (RegId × List Nat × Word64)) (ps : List Part) : Prop :=
  (d.putImgs ims).1 = true → Shows c d fn (d.putImgs ims).2 false ps

end Sys2Proof.Machine
end

