-- ==== Sys2Proof/Certificates/Slice0/Obligations.lean ====
section
/-!
DEFINITION. The statements about the model that the provers prove. `Does c d e` says that command c answers a next state in which
the device d has become e, whatever commands wait; where a statement says `Retires`, it says what an instruction of a thread
computes and that everything else stays as it was.
-/

open Sys2Proof Sys2Proof.Machine

/-! ## The queue, reset, memory and registers -/

/-- A step takes the command at the front of the queue and runs it with the rest of the queue. -/
def Obligations.StepRunsFront : Prop :=  ∀ (c : Instr) (s : State) (rest : List Instr), s.pending = c :: rest → step s = exec c { s with pending := rest }

/-- With no command waiting, a step lets 1 ns of station time pass, in which the Overman writes back static station entries and pinned
records and each running Face takes a request, or none while the device is DOWN (log entry 1: the model's choice). -/
def Obligations.IdleStepPassesTime : Prop :=  (∀ d : Dev, d.rd R.PW_LSTAT F.PW_LSTAT_mode ≠ 4 →
      step ⟨d, []⟩ = .next ⟨{ d.staticsBack.pinsBack.faceSends with now := d.now + 65536 }, []⟩)
    ∧ ∀ d : Dev, d.rd R.PW_LSTAT F.PW_LSTAT_mode = 4 → step ⟨d, []⟩ = .next ⟨d, []⟩

/-- Every command answers a next state from every state, and leaves the commands that wait as they are. -/
def Obligations.EveryCommandCompletes : Prop :=  ∀ (c : Instr) (s : State), ∃ e, exec c s = .next { s with dev := e }

/-! ## Instructions of the threads -/

/-- The additions and subtractions of R183 and the flags of R184: the register takes the sum or difference modulo 2^32 (a compare
writes none), z and n show it, c the carry out or the absent borrow, v signed overflow; an immediate is the whole bundle's (R178). -/
def Obligations.ArithmeticResults : Prop :=  ∀ (d : Dev) (k : Fin 1664) (dst src : Fin 16) (imm : Fin 64),
    let t := d.thr k
    let a := t.reg dst
    let b := t.reg src
    let i := t.imm 6 imm
    let pc := t.pc.toNat + 1
    let borrow : Int := 1 - b2n t.c
    let sum (b : Word32) (cin : Bool) : Word32 := a + b + BitVec.ofNat 32 (b2n cin)
    let diff (b : Word32) : Word32 := a - b
    let two (op : Nat) : Bool := d.issues k 0x3FFF (op * 256 + dst * 16 + src) 1 [dst, src] false
    let addF (b : Word32) (cin : Bool) (t : Thread) : Thread :=
      t.flags (sum b cin == 0) (sum b cin).msb (carries a b cin) (overflows (a.toInt + b.toInt + b2n cin))
    let subF (b : Word32) (t : Thread) : Thread :=
      t.flags (a == b) (diff b).msb (decide (b.toNat ≤ a.toNat)) (overflows (a.toInt - b.toInt))
    let sbc : Word32 := a - b - BitVec.ofNat 32 (1 - b2n t.c)
    (two 0x00 = true → Retires (.add k dst src) d k 1 pc (fun t => addF b false (t.setReg dst (a + b))))
      ∧ (two 0x01 = true → Retires (.sub k dst src) d k 1 pc (fun t => subF b (t.setReg dst (diff b))))
      ∧ (two 0x06 = true → Retires (.adc k dst src) d k 1 pc (fun x => addF b t.c (x.setReg dst (sum b t.c))))
      ∧ (two 0x07 = true → Retires (.sbc k dst src) d k 1 pc (fun x => (x.setReg dst sbc).flags (sbc == 0) sbc.msb
          (decide (b.toNat + (1 - b2n t.c) ≤ a.toNat)) (overflows (a.toInt - b.toInt - borrow))))
      ∧ (two 0x08 = true → Retires (.cmp k dst src) d k 1 pc (subF b))
      ∧ (d.issues k 0x3FFF (0x3200 + 9 * 16 + dst) 1 [dst] false = true → Retires (.neg k dst) d k 1 pc (fun t =>
          (t.setReg dst (-a)).flags (a == 0) (-a).msb (a == 0) (overflows (-a.toInt))))
      ∧ (d.issues k 0x3FFF (4 * 1024 + dst * 64 + imm) 1 [dst] true = true →
          Retires (.addi k dst imm) d k 1 pc (fun t => addF i false (t.setReg dst (a + i))))
      ∧ (d.issues k 0x3FFF (6 * 1024 + dst * 64 + imm) 1 [dst] true = true → Retires (.cmpi k dst imm) d k 1 pc (subF i))

/-- The logic, moves, products, minima and maxima, and the one-register group of R183: what the register takes, and z and n where
the spec names them; c and v stay. -/
def Obligations.LogicResults : Prop :=  ∀ (d : Dev) (k : Fin 1664) (dst src : Fin 16) (imm : Fin 64),
    let t := d.thr k
    let a := t.reg dst
    let b := t.reg src
    let pc := t.pc.toNat + 1
    let two (op : Nat) : Bool := d.issues k 0x3FFF (op * 256 + dst * 16 + src) 1 [dst, src] false
    let one (op : Nat) : Bool := d.issues k 0x3FFF (0x3200 + op * 16 + dst) 1 [dst] false
    let zn (r : Word32) (t : Thread) : Thread := t.flags (r == 0) r.msb t.c t.v
    let high (x : Int) : Word32 := BitVec.ofInt 32 (x / 2 ^ 32)
    (two 0x02 = true → Retires (.andR k dst src) d k 1 pc (fun t => zn (a &&& b) (t.setReg dst (a &&& b))))
      ∧ (two 0x03 = true → Retires (.orR k dst src) d k 1 pc (fun t => zn (a ||| b) (t.setReg dst (a ||| b))))
      ∧ (two 0x04 = true → Retires (.xorR k dst src) d k 1 pc (fun t => zn (a ^^^ b) (t.setReg dst (a ^^^ b))))
      ∧ (two 0x05 = true → Retires (.mov k dst src) d k 1 pc (fun t => t.setReg dst b))
      ∧ (two 0x09 = true → Retires (.tst k dst src) d k 1 pc (zn (a &&& b)))
      ∧ (two 0x0A = true → Retires (.mul k dst src) d k 1 pc (fun t => zn (a * b) (t.setReg dst (a * b))))
      ∧ (two 0x0B = true → Retires (.mulh k dst src) d k 1 pc
          (fun t => zn (high (a.toInt * b.toInt)) (t.setReg dst (high (a.toInt * b.toInt)))))
      ∧ (two 0x37 = true → Retires (.mulhu k dst src) d k 1 pc (fun t => t.setReg dst (BitVec.ofNat 32 (a.toNat * b.toNat / 2 ^ 32))))
      ∧ (two 0x35 = true → Retires (.minR k dst src) d k 1 pc (fun t => t.setReg dst (if a.toInt < b.toInt then a else b)))
      ∧ (two 0x36 = true → Retires (.maxR k dst src) d k 1 pc (fun t => t.setReg dst (if a.toInt < b.toInt then b else a)))
      ∧ (d.issues k 0x3FFF (5 * 1024 + dst * 64 + imm) 1 [dst] true = true →
          Retires (.movi k dst imm) d k 1 pc (fun x => x.setReg dst (t.imm 6 imm)))
      ∧ (one 8 = true → Retires (.notR k dst) d k 1 pc (fun t => zn (~~~a) (t.setReg dst (~~~a))))
      ∧ (one 10 = true → ∃ n ≤ 32, (a = 0 ↔ n = 32) ∧ (∀ i < n, a[31 - i]? = some false) ∧ (n < 32 → a[31 - n]? = some true)
          ∧ Retires (.clz k dst) d k 1 pc (fun t => t.setReg dst (BitVec.ofNat 32 n)))
      ∧ (one 11 = true → Retires (.bswap k dst) d k 1 pc (fun t => t.setReg dst
          (a.extractLsb' 0 8 ++ a.extractLsb' 8 8 ++ a.extractLsb' 16 8 ++ a.extractLsb' 24 8)))
      ∧ (one 12 = true → Retires (.sxb k dst) d k 1 pc (fun t => t.setReg dst ((a.extractLsb' 0 8).signExtend 32)))
      ∧ (one 13 = true → Retires (.sxh k dst) d k 1 pc (fun t => t.setReg dst ((a.extractLsb' 0 16).signExtend 32)))
      ∧ (one 14 = true → Retires (.popc k dst) d k 1 pc
          (fun t => t.setReg dst (BitVec.ofNat 32 ((List.range 32).countP (fun i => a.getLsbD i)))))

/-- The shifts and rotations of R183 by a register's low five bits or by 1 to 16: the result, z and n of it, and c the last bit out,
which a count of 0 leaves. -/
def Obligations.ShiftResults : Prop :=  ∀ (d : Dev) (k : Fin 1664) (dst src : Fin 16),
    let t := d.thr k
    let a := t.reg dst
    let m := (t.reg src).toNat % 32
    let n := src.val + 1
    let pc := t.pc.toNat + 1
    let reg (op : Nat) : Bool := d.issues k 0x3FFF (op * 256 + dst * 16 + src) 1 [dst, src] false
    let imm (op : Nat) : Bool := d.issues k 0x3FFF (op * 256 + dst * 16 + src) 1 [dst] false
    let shift (r : Word32) (n : Nat) (out : Bool) (t : Thread) : Thread :=
      (t.setReg dst r).flags (r == 0) r.msb (if n = 0 then t.c else out) t.v
    let left (n : Nat) : Thread → Thread := shift (a <<< n) n (a.getLsbD (32 - n))
    let right (n : Nat) : Thread → Thread := shift (a >>> n) n (a.getLsbD (n - 1))
    let arith (n : Nat) : Thread → Thread := shift (a.sshiftRight n) n (a.getLsbD (n - 1))
    let rot (n : Nat) : Thread → Thread := shift (a.rotateRight n) n (a.getLsbD (n - 1))
    (reg 0x0C = true → Retires (.shl k dst src) d k 1 pc (left m))
      ∧ (reg 0x0D = true → Retires (.shr k dst src) d k 1 pc (right m))
      ∧ (reg 0x0E = true → Retires (.sar k dst src) d k 1 pc (arith m))
      ∧ (reg 0x0F = true → Retires (.ror k dst src) d k 1 pc (rot m))
      ∧ (imm 0x1C = true → Retires (.shli k dst src) d k 1 pc (left n))
      ∧ (imm 0x1D = true → Retires (.shri k dst src) d k 1 pc (right n))
      ∧ (imm 0x1E = true → Retires (.sari k dst src) d k 1 pc (arith n))
      ∧ (imm 0x1F = true → Retires (.rori k dst src) d k 1 pc (rot n))

/-- R185: Bcc at each of the fifteen conditions, taken or not; code 15 is illegal. After a compare the U conditions are unsigned and the
S conditions signed. -/
def Obligations.BranchConditions : Prop :=  (∀ (d : Dev) (k : Fin 1664) (cond : Fin 16) (off : Fin 64), d.issues k 0x3FFF (0x2800 + cond * 64 + off) 2 [] true = true →
    let t := d.thr k
    let next := t.pc.toNat + 1
    let taken : List Bool := [true, t.z, !t.z, t.n, !t.n, t.v, !t.v, t.c, !t.c, t.c && !t.z, !t.c || t.z, t.n == t.v, !(t.n == t.v),
      !t.z && t.n == t.v, t.z || !(t.n == t.v)]
    (∀ b, taken[cond.val]? = some b →
      Retires (.bcc k cond off) d k 2 (if b then next + (t.imm 6 off).toNat else next) (fun t => t))
      ∧ (cond.val = 15 → Does (.bcc k cond off) d (d.faultThread k 1 t.fetched.toNat t.pc.toNat)))
    ∧ ∀ (t : Thread) (a b : Word32),
      let u := t.flags (a == b) (a - b).msb (decide (b.toNat ≤ a.toNat)) (overflows (a.toInt - b.toInt))
      u.cond 1 = decide (a = b) ∧ u.cond 7 = decide (b.toNat ≤ a.toNat) ∧ u.cond 8 = decide (a.toNat < b.toNat)
        ∧ u.cond 9 = decide (b.toNat < a.toNat) ∧ u.cond 10 = decide (a.toNat ≤ b.toNat) ∧ u.cond 11 = decide (b.toInt ≤ a.toInt)
        ∧ u.cond 12 = decide (a.toInt < b.toInt) ∧ u.cond 13 = decide (b.toInt < a.toInt) ∧ u.cond 14 = decide (a.toInt ≤ b.toInt)

/-- Calls, jumps through a register, return from a handler, NOP and BRK of a locked device (R163, R183, R499): where the thread goes on,
and that the link register takes the address after the call. RTI outside a handler is illegal, and BRK halts the thread of an
unlocked device. -/
def Obligations.ControlFlow : Prop :=  ∀ (d : Dev) (k : Fin 1664) (src : Fin 16) (off : Fin 512),
    let t := d.thr k
    let next := t.pc.toNat + 1
    let link (x : Thread) : Thread := x.setReg 15 (BitVec.ofNat 32 (next % 2 ^ 14))
    (d.issues k 0x3FFF (0x2C00 + off) 2 [15] true = true → Retires (.call k off) d k 2 (next + (t.imm 9 off).toNat) link)
      ∧ (d.issues k 0x3F8F (0x2E00 + src) 2 [src] false = true → Retires (.jr k src) d k 2 (t.reg src).toNat (fun t => t))
      ∧ (d.issues k 0x3F8F (0x2E80 + src) 2 [src, 15] false = true → Retires (.callr k src) d k 2 (t.reg src).toNat link)
      ∧ (d.issues k 0x3F80 0x2F00 2 [15] false = true → Retires (.ret k) d k 2 (t.reg 15).toNat (fun t => t))
      ∧ (d.issues k 0x3FF0 0x3200 1 [] false = true → Retires (.nop k) d k 1 next (fun t => t))
      ∧ (d.issues k 0x3FF0 0x3220 2 [] false = true → t.inHnd = true →
          Retires (.rti k) d k 2 t.ipc.toNat (fun x => { x.setTsw t.itsw with inHnd := false }))
      ∧ (d.issues k 0x3FF0 0x3220 2 [] false = true → t.inHnd = false →
          Does (.rti k) d (d.faultThread k 1 t.fetched.toNat t.pc.toNat))
      ∧ (d.issues k 0x3FF0 0x3240 1 [] false = true → d.unlocked = false → Retires (.brk k) d k 1 next (fun t => t))
      ∧ (d.issues k 0x3FF0 0x3240 1 [] false = true → d.unlocked = true → Does (.brk k) d (((d.begun k 1 []).holdThread k).beyond d k))

/-- EXT, IMW, FENCE, END and the reserved encodings (R165, R178, R187, R190): a prefix joins the bundle, and a fourth in a row is
illegal; IMW stores its word in the core's instruction memory; FENCE and END wait, and go on once the store buffer and the scoreboard
are clear; a reserved encoding faults. -/
def Obligations.PrefixFenceAndIllegal : Prop :=  ∀ (d : Dev) (k : Fin 1664) (a b : Fin 16) (imm : Fin 1024),
    let t := d.thr k
    let u := d.begun k 1 []
    let g := k.val / 64
    let x := imemAddr g (k.val / 8 % 8) (t.reg b).toNat
    let wait (n : Nat) : Dev := ((((u.modThr k (fun t => { t with draining := n })).sitOut k).stallThread k 0).beyond d k).drainCheck k
    (d.issues k 0x3FFF (0x3C00 + imm) 1 [] true = true → t.ext.length < 3 → Does (.ext k imm) d (u.modThr k (fun y =>
        { y with ext := t.ext ++ [BitVec.ofNat 10 imm], extPc := if t.ext.isEmpty then t.pc else t.extPc })))
      ∧ (d.issues k 0x3FFF (0x3C00 + imm) 1 [] true = true → 3 ≤ t.ext.length →
          Does (.ext k imm) d (d.faultThread k 1 t.fetched.toNat t.pc.toNat))
      ∧ (d.issues k 0x3FFF (0x3400 + a * 16 + b) 1 [a, b] false = true → (t.reg b).toNat < 2 ^ 14 → ∃ e, Does (.imw k a b) d e
          ∧ e.imem k (t.reg b).toNat = (t.reg a).setWidth 14 ∧ (∀ y, y ≠ x → y ≠ x + 1 → e.byte y = d.byte y)
          ∧ (∀ j, j ≠ k.val → e.thr j = d.thr j) ∧ (e.thr k).g = t.g ∧ (e.thr k).tsw = t.tsw)
      ∧ (d.issues k 0x3FFF (0x3400 + a * 16 + b) 1 [a, b] false = true → 2 ^ 14 ≤ (t.reg b).toNat →
          Does (.imw k a b) d (d.faultThread k 2 (t.reg b).toNat t.pc.toNat))
      ∧ (d.issues k 0x3FF0 0x3230 1 [] false = true → Does (.fence k) d (wait 1))
      ∧ (d.issues k 0x3FF0 0x3210 1 [] false = true → Does (.endNode k) d (wait 2))
      ∧ ∀ c, reservedFault t.fetched.toNat = some c → d.issues k 0 0 1 [] false = true →
          Does (.illegalInstruction k) d (d.faultThread k c t.fetched.toNat t.pc.toNat)

/-- MFS and MTS over every special register (R173 to R175): what a read returns, what a write changes, that AGM takes effect later
(R164), and that the reserved numbers are illegal. The count of gallery cycles an instruction takes is left free (log entry 31). -/
def Obligations.SpecialRegisters : Prop :=  ∀ (d : Dev) (k : Fin 1664) (r num : Fin 16),
    let t := d.thr k
    let v := t.reg r
    let pc := t.pc.toNat + 1
    let fault : Dev := d.faultThread k 1 t.fetched.toNat t.pc.toNat
    let shown : List Word32 := [t.tsw.setWidth 32, t.agm.setWidth 32, t.ab0, t.al0, t.as0, t.ab1, t.al1, t.as1, t.ipc.setWidth 32,
      t.itsw.setWidth 32, t.epoch.setWidth 32, BitVec.ofNat 32 k]
    (d.issues k 0x3FFF (0x3000 + r * 16 + num) 1 [r] false = true →
        (∀ x, shown[num.val]? = some x → Retires (.mfs k r num) d k 1 pc (fun t => t.setReg r x))
        ∧ (num.val = 12 → ∃ n, (d.gal (k.val / 64)).cycle < n ∧ Retires (.mfs k r num) d k 1 pc (fun t => t.setReg r (BitVec.ofNat 32 n)))
        ∧ (num.val = 13 → Retires (.mfs k r num) d k 1 pc (fun x => x.setReg r (BitVec.ofNat 32 (t.slots + 1))))
        ∧ (14 ≤ num.val → Does (.mfs k r num) d fault))
      ∧ (d.issues k 0x3FFF (0x3100 + num * 16 + r) 1 [r] false = true →
          let set (f : Thread → Thread) : Prop := Retires (.mts k num r) d k 1 pc f
          (num.val = 0 → set (fun t => t.setTsw (v.setWidth 4)))
          ∧ (num.val = 1 → set (fun t => { t with agm := v.setWidth 4 }) ∧ ∃ e, Does (.mts k num r) d e
              ∧ (2, ModeChange.agm (v.setWidth 4)) ∈ (e.thr k).delayed)
          ∧ (num.val = 2 → set (fun t => { t with ab0 := v })) ∧ (num.val = 3 → set (fun t => { t with al0 := v }))
          ∧ (num.val = 4 → set (fun t => { t with as0 := v })) ∧ (num.val = 5 → set (fun t => { t with ab1 := v }))
          ∧ (num.val = 6 → set (fun t => { t with al1 := v })) ∧ (num.val = 7 → set (fun t => { t with as1 := v }))
          ∧ (num.val = 8 → set (fun t => { t with ipc := v.setWidth 14 })) ∧ (num.val = 9 → set (fun t => { t with itsw := v.setWidth 4 }))
          ∧ (10 ≤ num.val → Does (.mts k num r) d fault))

/-- The loads of R183 by the region they reach (R150, R182, R187): private data is in the register when the load retires, the other
memories leave a marked register and a load in flight, the supervisor's GL window answers at once; the address generator steps the base
(R189). -/
def Obligations.Loads : Prop :=  ∀ (d : Dev) (k : Fin 1664) (dst b : Fin 16),
    let t := d.thr k
    let pc := t.pc.toNat + 1
    let u := d.begun k 1 [dst, b]
    let bytes (a n : Nat) : List Byte := d.bytes (privAddr (k.val / 64) (k.val / 8 % 8) a) n
    let whole (a n : Nat) : Bool := !d.wordBad (k.val / 64) (privAddr (k.val / 64) (k.val / 8 % 8) a) n
    let one (c : Instr) (size n : Nat) (sx : Bool) (val : List Byte → Word32) : Prop :=
      d.issues k 0x3FFF (0x2000 + size * 256 + dst * 16 + b) 1 [dst, b] true = true →
        (∀ a o, d.reaches k b n false (some dst.val) = some (a, .priv o) → whole o n = true →
          Retires c d k 1 pc (fun x => (x.setReg dst (val (bytes o n))).agStep b (sizeLog n)))
        ∧ (∀ a o, d.reaches k b n false (some dst.val) = some (a, .gl o) →
          let x := u.supLoad (k.val / 64) o n
          Does c d (((x.2.modThr k (fun t => t.setReg dst (val (leBytes n x.1)))).modThr k (fun t => t.agStep b (sizeLog n))).beyond d k))
        ∧ (∀ a p, d.reaches k b n false (some dst.val) = some (a, p) → p.isLong = true →
          Does c d (((u.longLoad k t dst a n sx p).modThr k (fun t => t.agStep b (sizeLog n))).beyond d k))
    one (.ldb k dst b) 0 1 false (fun bs => BitVec.ofNat 32 (leNat bs))
      ∧ one (.ldh k dst b) 1 2 false (fun bs => BitVec.ofNat 32 (leNat bs))
      ∧ one (.ldw k dst b) 2 4 false (fun bs => BitVec.ofNat 32 (leNat bs))
      ∧ one (.ldhs k dst b) 3 2 true (fun bs => (BitVec.ofNat 16 (leNat bs)).signExtend 32)

/-- The stores of R183 by the region they reach: a private store is in memory when it retires and changes no other byte, a store to a
buffered region joins the store buffer behind the others (R187), and the supervisor's store to the GL window goes once the buffer is
empty. A full buffer stalls the thread. -/
def Obligations.Stores : Prop :=  ∀ (d : Dev) (k : Fin 1664) (src b : Fin 16),
    let t := d.thr k
    let u := d.begun k 1 [src, b]
    let one (c : Instr) (size n : Nat) : Prop :=
      d.issues k 0x3FFF (0x2400 + size * 256 + src * 16 + b) 1 [src, b] true = true →
        let bs := leBytes n (t.reg src).toNat
        (∀ a o, d.reaches k b n true none = some (a, .priv o) →
          let x := privAddr (k.val / 64) (k.val / 8 % 8) o
          ∃ e, Does c d e ∧ e.bytes x n = bs ∧ (∀ y, y < x ∨ x + n ≤ y → e.byte y = d.byte y) ∧ (∀ j, j ≠ k.val → e.thr j = d.thr j)
            ∧ (e.thr k).arch = (t.agStep b (sizeLog n)).arch)
        ∧ (∀ a o, d.reaches k b n true none = some (a, .gl o) → t.sb.isEmpty = true →
          Does c d (((u.modThr k (fun t => t.agStep b (sizeLog n))).supStore (k.val / 64) o n (leNat bs)).beyond d k))
        ∧ (∀ a o, d.reaches k b n true none = some (a, .gl o) → t.sb.isEmpty = false → Does c d (d.stallThread k 4))
        ∧ (∀ a p, d.reaches k b n true none = some (a, p) → p.isLong = true → t.sb.length < 4 →
          Retires c d k 1 (t.pc.toNat + 1) (fun x => Thread.agStep { x with sb := x.sb ++ [SbEntry.store p.code bs] } b (sizeLog n)))
        ∧ (∀ a p, d.reaches k b n true none = some (a, p) → p.isLong = true → 4 ≤ t.sb.length → Does c d (d.stallThread k 1))
    one (.stb k src b) 0 1 ∧ one (.sth k src b) 1 2 ∧ one (.stw k src b) 2 4

/-- A store buffer performs its head (R187, R203), and a long load returns: its register takes the value and is no longer marked; a word
that cannot be corrected faults the thread with the load's own pc and address (R191). -/
def Obligations.BufferedAccessesComplete : Prop :=  ∀ (d : Dev) (k : Fin 1664) (n : Fin 16) (ecc : MemEcc),
    let t := d.thr k
    let g := k.val / 64
    (∀ c bs rest, t.sb = .store c bs :: rest → Does (.storePerform k) d
        ((((((d.setThr k { t with sb := rest }).storeBytes k (placeOf c) bs).afterPerform k).wakeThread k).drainCheck k)))
      ∧ (∀ id rest, t.sb = .cp2 id :: rest → Does (.storePerform k) d
          (((((((d.setThr k { t with sb := rest }).modGal g (fun x => { x with nextOp := x.nextOp + 1 })).modThr k (fun y =>
            { y with ops := y.ops.map (fun (o : CpOp) => if o.cp = 2 && o.id = id then
              { o with args := some (d.bytes (sharedAddr g (o.a - 0x100000)) 32), num := (d.gal g).nextOp } else o) })).afterPerform
                k).wakeThread k).drainCheck k)))
      ∧ (∀ l bs, t.loads[n.val]? = some l → l.data = some bs → l.bad = false → ecc ≠ .lost → ∃ e f : Dev, Does (.longLoadReturn k n ecc) d f
          ∧ f = e.drainCheck k ∧ (e.thr k).reg l.dst = loaded bs l.signed ∧ (e.thr k).scored [l.dst] = false
          ∧ (e.thr k).loads = t.loads.erase l ∧ ∀ a, e.byte a = d.byte a)
      ∧ (∀ l bs, t.loads[n.val]? = some l → l.data = some bs → (l.bad = true ∨ ecc = .lost) → t.st ≠ .hold →
          Does (.longLoadReturn k n ecc) d (((d.galEcc (k.val / 64) ecc).modThr k (fun t => { t with loads := t.loads.erase l })).faultThread k 4 l.addr l.pc))

/-! ## Coprocessors -/

/-- CP0 (R199, R200): what each operation leaves in the selector, the accumulator and the register. SEL refuses the reserved functions, CSU
every function but 2, and ACM an empty or too long range and one outside the job contexts and shared data.

CP1 (R201): a multiply-accumulate adds the sample turned by the phase into one accumulator and clamps it at 64 bits, with a
saturation bit; the phase advances by its step; the reads shift and clamp to 32 bits. -/
def Obligations.CopZeroAndOne : Prop :=
  (∀ (d : Dev) (k : Fin 1664) (r : Fin 16),
      let t := d.thr k
      let v := t.reg r
      let w := t.reg (r.val ^^^ 1)
      let pc := t.pc.toNat + 1
      let ok (op : Nat) : Bool := d.issues k 0x3FFF (0x3800 + op * 16 + r) 1 [r, r.val ^^^ 1] false
      let cp (f : Cp0 → Cp0) (t : Thread) : Thread := { t with cp0 := f t.cp0 }
      let fault (code detail : Nat) : Dev := d.faultThread k code detail t.pc.toNat
      let x := sharedAddr (k.val / 64) (v.toNat - 0x100000)
      let l := w.toNat % 512
      (ok 0 = true → v.toNat % 16 < 4 → Retires (.sel k r) d k 1 pc
          (cp (fun _ => { fsel := v.toNat % 16, acc := if v.toNat % 16 = 2 then 0 else 0xFFFFFFFF, poison := false, odd := false })))
        ∧ (ok 0 = true → 4 ≤ v.toNat % 16 → Does (.sel k r) d (fault 7 t.fetched.toNat))
        ∧ (ok 1 = true → Retires (.acb k r) d k 1 pc (cp (fun c => c.absorb (v.extractLsb' 0 8))))
        ∧ (ok 2 = true → Retires (.ach k r) d k 1 pc (cp (fun c => (c.absorb (v.extractLsb' 0 8)).absorb (v.extractLsb' 8 8))))
        ∧ (ok 3 = true → Retires (.acw k r) d k 1 pc (cp (fun c =>
            (((c.absorb (v.extractLsb' 0 8)).absorb (v.extractLsb' 8 8)).absorb (v.extractLsb' 16 8)).absorb (v.extractLsb' 24 8))))
        ∧ (ok 4 = true → 1 ≤ l → l ≤ 256 → 0x100000 ≤ v.toNat → v.toNat + l ≤ 0x300000 → d.wordBad (k.val / 64) x l = false →
            Retires (.acm k r) d k 1 pc (cp (fun c => (d.bytes x l).foldl Cp0.absorb c)))
        ∧ (ok 4 = true → l = 0 ∨ 256 < l → Does (.acm k r) d (fault 7 t.fetched.toNat))
        ∧ (ok 4 = true → 1 ≤ l → l ≤ 256 → v.toNat < 0x100000 ∨ 0x300000 < v.toNat + l → Does (.acm k r) d (fault 2 v.toNat))
        ∧ (ok 5 = true → Retires (.fin k r) d k 1 pc (fun t => t.setReg r
            (if t.cp0.poison then 0 else if t.cp0.fsel = 2 then BitVec.ofNat 32 (65535 - fold16 t.cp0.acc.toNat) else ~~~t.cp0.acc)))
        ∧ (ok 6 = true → t.cp0.fsel = 2 → Retires (.csu k r) d k 1 pc
            (cp (fun c => { c with acc := onesAdd (onesAdd c.acc (v.toNat % 65536)) (65535 - v.toNat / 65536) })))
        ∧ (ok 6 = true → t.cp0.fsel ≠ 2 → Does (.csu k r) d (fault 7 t.fetched.toNat))
        ∧ (ok 7 = true → Retires (.hsh k r) d k 1 pc
            (fun t => t.setReg r (BitVec.ofNat 32 (crc32c (leBytes 8 (v.toNat + w.toNat * 2 ^ 32))))))
        ∧ (ok 8 = true → Retires (.lda k r) d k 1 pc (cp (fun c => { c with acc := v, poison := false, odd := false })))
        ∧ (ok 15 = true → Retires (.ler k r) d k 1 pc (fun t => { t.setReg r t.late with late := 0 })))
    ∧ (∀ (d : Dev) (k : Fin 1664) (i : Fin 4) (r : Fin 16),
      let t := d.thr k
      let v := t.reg r
      let pc := t.pc.toNat + 1
      let ok (op : Nat) (r : Nat) : Bool := d.issues k 0x3FFF (0x3900 + op * 16 + r) 1 [r, r ^^^ 1] false
      let cp (f : Cp1 → Cp1) (t : Thread) : Thread := { t with cp1 := f t.cp1 }
      let a := t.cp1.acc i
      let re := a.1 + v.toInt * phaseC t.cp1.ph
      let im := a.2 - v.toInt * phaseS t.cp1.ph
      let clamp (w : Nat) (x : Int) : Int := max (-2 ^ (w - 1)) (min (2 ^ (w - 1) - 1) x)
      let fits (x : Int) : Bool := decide (-2 ^ 63 ≤ x) && decide (x < 2 ^ 63)
      (ok i r = true → Retires (.mack k i r) d k 1 pc (cp (fun c =>
          { c.setAcc i (clamp 64 re, clamp 64 im) with sat := if fits re && fits im then c.sat else c.sat ||| BitVec.ofNat 4 (2 ^ i.val) })))
        ∧ (ok 4 (t.fetched.toNat % 16) = true → Retires (.adv k) d k 1 pc (cp (fun c => { c with ph := c.ph + c.dph })))
        ∧ (ok 5 r = true → Retires (.sph k r) d k 1 pc (cp (fun c => { c with ph := v })))
        ∧ (ok 6 r = true → Retires (.sdp k r) d k 1 pc (cp (fun c => { c with dph := v })))
        ∧ (ok 7 r = true → Retires (.clr k r) d k 1 pc (cp (fun c => c.clear v.toNat))
            ∧ ∀ j : Fin 4, (t.cp1.clear v.toNat).acc j = if v.getLsbD j then (0, 0) else t.cp1.acc j)
        ∧ (ok 8 r = true → Retires (.rdr k r) d k 1 pc
            (fun t => t.setReg r (BitVec.ofInt 32 (clamp 32 ((t.cp1.acc (v.toNat % 4)).1 / 2 ^ (v.toNat / 4 % 64))))))
        ∧ (ok 9 r = true → Retires (.rdi k r) d k 1 pc
            (fun t => t.setReg r (BitVec.ofInt 32 (clamp 32 ((t.cp1.acc (v.toNat % 4)).2 / 2 ^ (v.toNat / 4 % 64))))))
        ∧ (ok 10 r = true → Retires (.rst k r) d k 1 pc (fun t => t.setReg r (t.cp1.sat.setWidth 32))))

/-- CP2 operations (R194, R202 to R204): one is sent when its block is good and there is room, marks its register unless it is posted and
counts in GL_CP2STAT; it stalls at a full store buffer, at four in flight or at a full quadrant queue (R249), and faults at a bad or
misaligned block. Lode's answer in the order of the gallery's port (R245) and the timeout end it. -/
def Obligations.CopTwoOperations : Prop :=  ∀ (d : Dev) (k : Fin 1664) (op r : Fin 16) (n : Fin 4) (bad : LodeErr),
    let t := d.thr k
    let g := k.val / 64
    let a := (t.reg r).toNat
    let cpst := R.GL_CP2STAT g
    let u := d.begun k 2 [r, r.val ^^^ 1]
    let id := (u.gal g).nextOp
    let q := u.cp2Quad k a
    let o : CpOp := { id := id, cp := 2, fn := op.val % 8, posted := 8 ≤ op.val, r := r, a := a, epoch := t.epoch.toNat, pc := t.pc.toNat,
                      quad := q }
    let sent := ((u.modGal g (fun x => { x with nextOp := x.nextOp + 1 })).joinQueue q).modThr k (fun t =>
      { (if o.posted then t else t.mark r true) with ops := t.ops ++ [o], sb := t.sb ++ [.cp2 id] })
    let flight := (sent.rd cpst F.GL_CP2STAT_in_flight + 1).min 255
    let ok := d.issues k 0x3FFF (0x3A00 + op * 16 + r) 2 [r, r.val ^^^ 1] false
    let room := decide (t.sb.length < 4) && decide ((t.live 2).length < 4)
    (ok = true → room = true → cp2Block a = true → a % 8 = 0 → u.quadFull q = false →
        Does (.cp2Operation k op r) d (((sent.wr cpst F.GL_CP2STAT_in_flight flight).markHigh cpst F.GL_CP2STAT_max flight).beyond d k))
      ∧ (ok = true → room = false → Does (.cp2Operation k op r) d (d.stallThread k 2))
      ∧ (ok = true → room = true → cp2Block a = true → a % 8 = 0 → u.quadFull q = true →
          Does (.cp2Operation k op r) d ((d.turnAway k (6 + q)).stallThread k (6 + q)))
      ∧ (ok = true → room = true → cp2Block a = false → Does (.cp2Operation k op r) d (d.faultThread k 2 a t.pc.toNat))
      ∧ (ok = true → room = true → cp2Block a = true → a % 8 ≠ 0 → Does (.cp2Operation k op r) d (d.faultThread k 3 a t.pc.toNat))
      ∧ (∀ y, (t.ops.filter (fun o => o.cp == 2))[n.val]? = some y →
          (∀ args x e, y.args = some args → d.lodeTurn g y.num = true → d.lodeOp (.gallery g y.num) y.fn args 0 false false bad.at = (some x, e) →
            y.dead = false → (e.thr k).node = none → Does (.cp2Complete k n bad) d
              (((e.leaveQueue y.quad).modThr k (fun t => { t with ops := t.ops.erase y })).cp2Done k y x.word (some (leBytes 64 x.r.toNat))))
          ∧ (∀ args x e m, y.args = some args → d.lodeTurn g y.num = true →
            d.lodeOp (.gallery g y.num) y.fn args 0 false false bad.at = (some x, e) → y.dead = false → (e.thr k).node = some m →
            Does (.cp2Complete k n bad) d ((((e.leaveQueue y.quad).modThr k (fun t => { t with ops := t.ops.erase y })).noteGen g m y.fn
              x.status x.r.toNat).cp2Done k y x.word (some (leBytes 64 x.r.toNat))))
          ∧ (y.dead = false → Does (.cp2Timeout k n) d
            (((d.modThr k (fun t => { t with ops := t.ops.map (fun z => if z = y then { z with dead := true } else z) })).inc cpst
              F.GL_CP2STAT_to_cnt).cp2Done k y 4 none)))

/-- The Face tile (R206 to R211): a request of a running tile, its reply and its timeout, the interrupt, the end of a load, the scrub of
its configuration and its restart; and a late error that reaches its thread (R198). -/
def Obligations.FaceTile : Prop :=  ∀ (d : Dev) (k : Fin 1664) (op r err : Fin 16) (g : Fin 26) (tag : BitVec 8) (data : Word32),
    let t := d.thr k
    let h := k.val / 64
    let u := d.begun k 2 [r, r.val ^^^ 1]
    let post := !bitAt (u.rd (R.GL_FCINFO h) F.GL_FCINFO_res_mask) op
    let o : CpOp := { id := (u.gal h).nextOp, cp := 3, fn := op, posted := post, r := r, a := (t.reg r).toNat, b := (t.reg (r.val ^^^ 1)).toNat
                      tag := t.freeTag k, epoch := t.epoch.toNat, pc := t.pc.toNat }
    let ok := d.issues k 0x3FFF (0x3B00 + op * 16 + r) 2 [r, r.val ^^^ 1] false
    let runs := u.faceState h == 3 && bitAt (u.rd (R.GL_FCINFO h) F.GL_FCINFO_fn_mask) op
    let q := g.val * 64 + tag.toNat / 4
    let st := d.faceState g
    let n := (d.gal g).face.scrubAt
    let scrubbed := d.modGal g (fun x => { x with face := { x.face with scrubAt := (n + 1) % 4096 } })
    (ok = true → runs = true → (t.live 3).length < 4 → u.faceQueue h < 32 → Does (.faceOperation k op r) d
        (((u.modGal h (fun x => { x with nextOp := x.nextOp + 1 })).modThr k (fun t =>
          { (if post then t else t.mark r true) with ops := t.ops ++ [o] })).beyond d k))
      ∧ (ok = true → (4 ≤ (t.live 3).length ∨ 32 ≤ u.faceQueue h) → Does (.faceOperation k op r) d (d.stallThread k 3))
      ∧ (ok = true → (t.live 3).length < 4 → u.faceQueue h < 32 → runs = false →
          Does (.faceOperation k op r) d (d.faultThread k 7 t.fetched.toNat t.pc.toNat))
      ∧ (∀ y, ((d.thr q).live 3).find? (fun o => o.sent && o.tag == tag.toNat) = some y →
          let e := (d.setThr q { d.thr q with ops := (d.thr q).ops.erase y }).writeBack q y data.toNat
          Does (.faceReply g tag data err) d ((if err.val = 0 then e else e.sendLate q y.epoch 3 3 err y.pc).opsOver q))
      ∧ (∀ y, ((d.thr q).live 3).find? (fun o => o.tag == tag.toNat) = some y →
          Does (.faceTimeout g tag) d ((((d.modThr q (fun t => t.faceEnd y)).writeBack q y 0).sendLate q y.epoch 3 4 0 y.pc).opsOver q))
      ∧ (((d.thr q).live 3).find? (fun o => o.sent && o.tag == tag.toNat) = none →
          (d.thr q).ops.find? (fun o => o.cp == 3 && o.dead && o.tag == tag.toNat) = none →
          Does (.faceReply g tag data err) d (d.inc (R.GL_FCSTAT g) F.GL_FCSTAT_bad_tag))
      ∧ (st = 3 → Does (.fcIrq g) d ((d.wr (R.GL_FCSTAT g) F.GL_FCSTAT_user_irq 1).pendSource (supOf g) 4))
      ∧ (∀ a bs e, st = 1 → (d.gal g).face.loading = some a → d.smRead 6 a 0x100040 = (.ok bs, e) →
          Does (.faceLoadDone g) d (e.faceTake g (some a) bs))
      ∧ (st = 2 ∨ st = 3 →
          Does (.faceFrameScrub g .good) d scrubbed
          ∧ Does (.faceFrameScrub g .corrected) d (scrubbed.inc (R.GL_FCSTAT g) F.GL_FCSTAT_cfg_corr)
          ∧ ∃ e, Does (.faceFrameScrub g .lost) d e ∧ n ∈ (e.gal g).face.bad ∧ e.rd (R.GL_FCSTAT g) F.GL_FCSTAT_user_irq = 1)
      ∧ (∀ m l, (d.gal g).face.bad = m :: l → Does (.faceRestart g) d (d.faceReload g m))
      ∧ ∀ j e cp code detail pc rest, (d.gal g).late = (j, e, cp, code, detail, pc) :: rest →
          Does (.lateError g) d ((d.modGal g (fun x => { x with late := rest })).lateError j e cp code detail pc)

/-- The instructions of the Token board (R186, R187): a release-kind operation takes effect at once when the store buffer is empty and
waits for it otherwise, with its register marked; another ends with its status or puts the thread to sleep; a rank fault stops the
thread; all wait for an earlier release.

Hardware locks (R268, R269, R273, R274, R277): a free lock goes to the thread that asks, with status 2 and no mark after an
abandonment; at a held one LKA waits behind the others and LKT is told; a rank not above the held ones is a rank fault; a number or a
group that is refused changes no lock; a release hands the lock to the oldest waiter, and of a free lock it is refused with status 4. -/
def Obligations.TokensAndLocks : Prop :=
  (∀ (d : Dev) (k : Fin 1664) (r : Fin 16),
      let t := d.thr k
      let v := (t.reg r).toNat
      let u := d.begun k 1 [r]
      let ok (f : Nat) : Bool := d.issues k 0x3FFF (0x3300 + f * 16 + r) 1 [r] false
      let write (e : Dev) (x : Nat) : Dev := (e.modThr k (fun t => t.setReg r (BitVec.ofNat 32 x))).beyond d k
      let release (c : Instr) (f : Nat) (act : Nat × Dev) : Prop :=
        (ok f = true → t.rel = none → t.sb = [] → Does c d (write act.2 act.1))
          ∧ (ok f = true → t.rel = none → t.sb ≠ [] →
              Retires c d k 1 (t.pc.toNat + 1) (fun t => { t.mark r true with rel := some (f, v, r, t.sb.length) }))
          ∧ (ok f = true → t.rel ≠ none → Does c d (d.stallThread k 5))
      let other (c : Instr) (f : Nat) (act : TokRes × Dev) : Prop :=
        (∀ x e, ok f = true → t.rel = none → act = (.done x, e) → Does c d (write e x))
          ∧ (∀ w e, ok f = true → t.rel = none → act = (.sleep w, e) → Does c d (((e.modThr k (fun t =>
              if t.st = .hold then { t with heldFrom := .sleep, wait := some w } else { t with st := .sleep, wait := some w })).galTrace
              k 3 t.pc.toNat).beyond d k))
          ∧ (∀ x e, ok f = true → t.rel = none → act = (.rank x, e) → Does c d (({ d with regs := e.regs }).faultThread k 6 x t.pc.toNat))
          ∧ (ok f = true → t.rel ≠ none → Does c d (d.stallThread k 5))
      other (.lka k r) 0 (u.lockAcquire k v r true) ∧ other (.lkt k r) 1 (u.lockAcquire k v r false)
        ∧ release (.lkr k r) 2 (u.lockRelease k v) ∧ other (.wla k r) 3 (u.wordAcquire k v r true)
        ∧ other (.wlt k r) 4 (u.wordAcquire k v r false) ∧ release (.wlr k r) 5 (u.wordRelease k v)
        ∧ other (.evw k r) 6 (u.eventWait k v r) ∧ release (.evs k r) 7 (u.eventSignal v)
        ∧ other (.chp k r) 8 (u.chanPut k v) ∧ release (.chc k r) 9 (u.chanCommit k v) ∧ other (.chg k r) 10 (u.chanGet k v r))
    ∧ (∀ (d : Dev) (k v r : Nat) (wait : Bool),
      let l := d.lock v
      let free := d.lockAcquire k v r wait
      (2 ^ 12 ≤ v → free.1 = .done 7 ∧ (d.lockRelease k v).1 = 7 ∧ free.2.tk = d.tk)
        ∧ (v < 2 ^ 12 → d.groupAllows v (k / 64) = false → free.1 = .done 3 ∧ (d.lockRelease k v).1 = 3 ∧ free.2.tk = d.tk)
        ∧ (v < 2 ^ 12 → d.groupAllows v (k / 64) = true →
            (d.rankOk k (d.lockRank v) = false → free.1 = .rank v ∧ free.2.tk = d.tk)
            ∧ (d.rankOk k (d.lockRank v) = true → l.held = false →
                free.1 = .done (if l.abandoned then 2 else 0) ∧ free.2.lock v = { held := true, owner := k }
                ∧ ∀ n, n ≠ v → free.2.lock n = d.lock n)
            ∧ (d.rankOk k (d.lockRank v) = true → l.held = true → wait = true →
                free.1 = .sleep (.lock v r) ∧ free.2.lock v = { l with waiters := l.waiters ++ [(k, r)] })
            ∧ (d.rankOk k (d.lockRank v) = true → l.held = true → wait = false → free.1 = .done 1 ∧ free.2 = d)
            ∧ (l.held = false → d.lockRelease k v = (4, d))
            ∧ (l.held = true → l.waiters = [] → (d.lockRelease k v).1 = 0 ∧ (d.lockRelease k v).2.lock v = {})
            ∧ (∀ j q rest, l.held = true → l.waiters = (j, q) :: rest → (d.lockRelease k v).1 = 0
                ∧ (d.lockRelease k v).2.lock v = { held := true, owner := j, waiters := rest }
                ∧ ((d.lockRelease k v).2.thr j).reg q = 0 ∧ ((d.lockRelease k v).2.thr j).st ≠ .sleep)))

/-- Channels and events (R280 to R282): CHP stages up to sixteen words, CHC sends them as one message or is refused, a CHG reads a word of
the head message and removes the message on demand; EVS sets pending bits or wakes the waiting thread with the bits it waits for, which
EVW takes at once where they are pending.

Commands of the Token board (R277, R278, R280, R284, R285): the timeout of an EVW, reclaim of a fenced gallery, and the Doldrums
detector's firing, answer and escalation. -/
def Obligations.ChannelsAndBoard : Prop :=
  (∀ (d : Dev) (k v r t : Nat),
      let staged (e : Dev) : List Word32 := e.tk.staging.get [] k
      let c := v % 2 ^ 10
      let m := v % 2 ^ 16
      let bits := d.pendEvents t ||| BitVec.ofNat 16 (v / 2 ^ 16 % 2 ^ 16)
      ((staged d).length < 16 → (d.chanPut k v).1 = .done 0 ∧ staged (d.chanPut k v).2 = staged d ++ [BitVec.ofNat 32 v])
        ∧ (16 ≤ (staged d).length → d.chanPut k v = (.done 1, d))
        ∧ (v < 2 ^ 10 → d.chanAllows v (k / 64) = true → staged d = [] → (d.chanCommit k v).1 = 7)
        ∧ (v < 2 ^ 10 → d.chanAllows v (k / 64) = true → staged d ≠ [] → d.rd (R.TK_CHAN v) F.TK_CHAN_depth ≤ (d.chan v).length →
            d.chanCommit k v = (1, d))
        ∧ (v < 2 ^ 10 → d.chanAllows v (k / 64) = true → staged d ≠ [] → (d.chan v).length < d.rd (R.TK_CHAN v) F.TK_CHAN_depth →
            d.tk.receivers.get [] v = [] →
            (d.chanCommit k v).1 = 0 ∧ (d.chanCommit k v).2.chan v = d.chan v ++ [staged d] ∧ staged (d.chanCommit k v).2 = [])
        ∧ (v < 2 ^ 15 → d.chanAllows c (k / 64) = true → d.chan c ≠ [] →
            (d.chanGet k v r).1 = .done (((d.chan c).headD []).getD (v / 2 ^ 10 % 16) 0).toNat
            ∧ (d.chanGet k v r).2.chan c = if v / 2 ^ 14 % 2 = 1 then (d.chan c).drop 1 else d.chan c)
        ∧ (v < 2 ^ 15 → d.chanAllows c (k / 64) = true → d.chan c = [] →
            (d.chanGet k v r).1 = .sleep (.channel c (v / 2 ^ 10 % 16) (decide (v / 2 ^ 14 % 2 = 1)) r)
            ∧ (d.chanGet k v r).2.tk.receivers.get [] c = d.tk.receivers.get [] c ++ [k])
        ∧ (v < 2 ^ 28 → m ≠ 0 → (d.pendEvents k).toNat &&& m ≠ 0 → (d.eventWait k v r).1 = .done (((d.pendEvents k).toNat &&& m) * 2 ^ 16)
            ∧ (d.eventWait k v r).2.pendEvents k = d.pendEvents k &&& ~~~BitVec.ofNat 16 m)
        ∧ (t = v % 2 ^ 11 → v / 2 ^ 11 % 32 = 0 → t ≤ 1663 → (∀ a b e, (d.thr t).wait ≠ some (.event a b e)) →
            (d.eventSignal v).1 = 0 ∧ (d.eventSignal v).2.pendEvents t = bits))
    ∧ (∀ (d : Dev) (k : Fin 1664) (g : Fin 26) (w : Fin 8) (mask : BitVec 8),
      let st := R.TK_DOLSTAT g
      let fired := d.rd st F.TK_DOLSTAT_fired
      (∀ m r, (d.thr k).wait = some (.event m r true) → Does (.evwTimeout k) d (d.tokDone k r 6))
        ∧ (d.reclaiming g 1 = true → Does (.tokenReclaim g) d (d.tokenReclaim g).reclaimNext)
        ∧ (d.on (R.TK_DOLCFG g) F.TK_DOLCFG_en = true → d.groupIdle g w = true → bitAt fired w = false → Does (.doldrumsFire g w) d
            (((d.wr st F.TK_DOLSTAT_fired (withBit fired w true)).inc st F.TK_DOLSTAT_fire_cnt).pendSource (supOf g) 3))
        ∧ Does (.doldrumsAnswer g mask) d (d.wr st F.TK_DOLSTAT_fired (fired &&& (255 - mask.toNat)))
        ∧ (bitAt fired w = true → (d.thr (supOf g)).st ≠ .hold → Does (.doldrumsEscalate g w) d (d.escalate g w)))

/-! ## Threads and galleries -/

/-- A thread takes a node (R137, R159, R160): free, in a gallery that runs, with nothing of an earlier epoch in
flight, no reset to come and a node queued for it, it goes to the
node's entry with its context and job in g0 and g1, clear flags, and the node's budget. -/
def Obligations.ThreadTakesNode : Prop :=  ∀ (d : Dev) (k : Fin 1664) (r : NodeRef),
    let g := k.val / 64
    let op := ND.operand (d.tmplNode (d.job (jobKey g r.slot)).tmpl r.node)
    (d.thr k).st = .free → isSup k = false → (d.galState g = 2 ∨ d.galState g = 3) → (d.thr k).owed = none →
    (d.thr k).ops.all (fun o => o.dead || o.epoch == (d.thr k).epoch.toNat) = true → d.nodeFor k = some r →
      ∃ e, Does (.threadTakeNode k) d e
        ∧ let t := e.thr k
          t.st = .ready ∧ t.node = some r ∧ t.nodeLive = true ∧ t.pc = BitVec.ofNat 14 (bitsOf op 26 14) ∧ t.fetched = d.imem k (bitsOf op 26 14)
            ∧ t.reg 0 = BitVec.ofNat 32 (0x100000 + r.slot * 0x200) ∧ t.reg 1 = BitVec.ofNat 32 (r.slot + r.node * 2 ^ 12 + g * 2 ^ 16)
            ∧ t.tsw = 0 ∧ t.slots = 0 ∧ t.cap = bitsOf op 0 8 ∧ t.ext = []
            ∧ (∀ j, j ≠ k.val → e.thr j = d.thr j) ∧ ∀ a, e.byte a = d.byte a

/-- A thread latches an interrupt (R162, R163): ipc and itsw take the return point and the flags, the source is no longer pending unless it
is the fault source and records remain, and the thread goes to the source's vector.

A fault stops a thread (R165, R166): it is in FAULT, nothing it has not retired takes effect, its epoch advances, its registers stay,
and a record with the code, the detail and the pc joins the gallery's FIFO of sixteen unless that is full; of a supervisor's the Overman
hears at once (R167). Where its node still ran, its job ends as a void after that. -/
def Obligations.InterruptsAndFaults : Prop :=
  (∀ (d : Dev) (k : Fin 1664) (b : Nat),
      let t := d.thr k
      let g := k.val / 64
      t.inHnd = false → (t.st = .ready ∨ t.st = .stall ∨ t.st = .sleep) → (d.galState g = 2 ∨ d.galState g = 3) → d.nextSource k = some b →
        ∃ e, Does (.interruptLatch k) d e
          ∧ let x := e.thr k
            x.inHnd = true ∧ x.ipc = t.returnPoint ∧ x.itsw = t.tsw ∧ x.st = .ready ∧ x.wait = none
              ∧ x.pc = BitVec.ofNat 14 (d.rd (R.GL_CCTL g (k.val / 8 % 8)) F.GL_CCTL_vec_base + 8 * b) ∧ x.g = t.g
              ∧ x.pend = (if b = 2 ∧ (d.gal g).faults ≠ [] then t.pend else t.pend &&& BitVec.ofNat 8 (255 - 2 ^ b))
              ∧ ∀ a, e.byte a = d.byte a)
    ∧ (∀ (d : Dev) (k : Fin 1664) (code detail pc : Nat),
      let e := d.faultThread k code detail pc
      let g := k.val / 64
      let t := d.thr k
      let at_ : NodeRef := t.node.getD {}
      (t.nodeLive = false →
        (e.thr k).st = .fault ∧ (e.thr k).ext = [] ∧ (e.thr k).loads = [] ∧ (e.thr k).wait = none ∧ (e.thr k).epoch = t.epoch + 1
          ∧ (e.thr k).g = t.g ∧ (∀ a, e.byte a = d.byte a)
          ∧ ((d.gal g).faults.length < 16 → (e.gal g).faults = (d.gal g).faults ++ [faultRec code (t.epoch + 1).toNat t.inflight
              (k.val / 8 % 8) (k.val % 8) (match t.node with | some _ => at_.slot | none => 0) (match t.node with | some _ => at_.node | none => 0)
              pc detail (stampOf d.now)])
          ∧ (16 ≤ (d.gal g).faults.length → (e.gal g).faults = (d.gal g).faults))
        ∧ (t.nodeLive = false → code ≠ 7 → isSup k = true → e.events = d.events ++ [⟨0x32, g, code, 0, d.now⟩])
        ∧ (code ≠ 7 → e = (((((d.galTrace k 8 pc).stopThread k).modThr k (fun t => { t with st := .fault })).pushFault
            k code detail pc).withdraw k).endNodeBad k))

/-- Events of a gallery (R164, R168, R169, R171, R172, R334, R410, R502, R505): a frequency change ends, a reset ends, Rose takes its shadow
with core 0's supervisor slots kept, the generator's copy ends, the supervisor's fault times out, a drain times out, and the trace writes
its records. -/
def Obligations.GalleryEvents : Prop :=  ∀ (d : Dev) (g : Fin 26) (c : Fin 8) (slot : Fin 2048),
    (∀ f, (d.gal g).dvfs = some f → Does (.dvfsComplete g) d
        ((((d.modGal g (fun x => { x with dvfs := none })).wr (R.CK_ISLSTAT g) F.CK_ISLSTAT_freq_mhz (d.isleLimit g f)).setVolt g
          (d.isleLimit g f)).pendSource (supOf g) 7))
      ∧ (d.galState g = 1 → Does (.galleryResetDone g) d ((d.setGalState g 2).supStart (supOf g)))
      ∧ (d.on (R.GL_ROSECTL g c) F.GL_ROSECTL_pending = true → ∃ e, Does (.roseChangeover g c) d e
          ∧ e.rget (R.GL_ROSELIVE0 g c) = d.rget (R.GL_ROSE0 g c)
          ∧ (c.val ≠ 0 → e.rget (R.GL_ROSELIVE1 g c) = d.rget (R.GL_ROSE1 g c))
          ∧ (c.val = 0 → (e.rget (R.GL_ROSELIVE1 g c)).toNat = (d.rget (R.GL_ROSE1 g c)).toNat % 2 ^ 56 + 0x17 * 2 ^ 56)
          ∧ e.on (R.GL_ROSECTL g c) F.GL_ROSECTL_pending = false)
      ∧ Does (.generatorCopyDone g) d (d.genDone g)
      ∧ (∀ src v, (d.gal g).gen = some (src, v) →
          let u := ((d.modGal g (fun x => { x with gen := none })).wr (R.GL_GENCMD g) F.GL_GENCMD_busy 0).takeChain 10 (tagGen g)
            ((F.GL_GENCMD_length.get v + 255) / 256) none
          (u.1 = none → Does (.generatorCopyDone g) d (u.2.inc (R.GL_GENSTAT g) F.GL_GENSTAT_dropped))
          ∧ (∀ p, u.1 = some p → ∃ e r, Does (.generatorCopyDone g) d e ∧ e.xc.reqs = u.2.xc.reqs ++ [r] ∧ r.src = 1 ∧ r.orig = true
              ∧ r.tag = tagGen g))
      ∧ (∀ r rest, (d.gal g).faults = r :: rest → (d.thr (supOf g)).st ≠ .hold →
          (d.gal g).headAt + usU ((d.rd (R.GL_SUPTO g) F.GL_SUPTO_sup_to).max 1) ≤ d.now →
          let k := g.val * 64 + bitsOf r.toNat 169 3 * 8 + bitsOf r.toNat 166 3
          Does (.supTimeout g) d ((((d.event 0x32 g (bitsOf r.toNat 184 8)).keepFault g r).popFault g).resetThread k))
      ∧ (∀ x, d.dr.jobs.find (jobKey g slot) = some x → x.st = 2 → x.drainAt + d.drainLimit ≤ d.now → Does (.drainTimeout g slot) d
          ((((List.range 64).map (· + g.val * 64)).filter (fun k =>
            match (d.thr k).node with
            | some r => (d.thr k).nodeLive && r.slot == slot.val && r.gen == d.gen (jobKey g slot)
            | none => false)).foldl (fun d k => (d.inc R.RL_CNT F.RL_CNT_kill).killThread k 9) d))
      ∧ (d.on R.DB_GTRCFG F.DB_GTRCFG_en = true → bitAt (d.rd R.DB_GTRCFG F.DB_GTRCFG_ev_mask) 10 = true →
          let u := d.cycles (d.rd R.DB_GTRCFG F.DB_GTRCFG_gal)
          let st := stampOf d.now
          Does .traceSync d (u.galTraceAdd (galTraceRec (u.gal (d.rd R.DB_GTRCFG F.DB_GTRCFG_gal)).cycle 10 0 0 (st / 2 ^ 49 * 2 ^ 7) 0 0 st)))
      ∧ (d.on R.DB_GTRCFG F.DB_GTRCFG_wrap = true → d.db.trace ≠ [] →
          let n := ringRecs (d.rd R.DB_GTRRING F.DB_GTRRING_size_log2) 16
          let x := d.ringPut (d.rd R.DB_GTRRING F.DB_GTRRING_base * 4096) n (d.rd R.DB_GTRSTAT F.DB_GTRSTAT_wr_idx) true ((d.db.trace.take 4).map (·.toNat))
          Does .galleryTraceDrain d (x.2.galTraceAt n (d.db.trace.take 4).length (if n ≤ x.1 then 0 else x.1) true))

/-! ## Draught, Hoist and the helpers -/

/-- Draught and Hoist (R126 to R148, R289 to R303): admission, the refusal of a tub, dispatch of a ready node to a core, an engine or the
delay list, the end of a node, a helper's timeout, the end of a job as a void, the delays that fire, release nodes, the release of
frames in order, the reorder limit, and the reclaims of a fenced gallery.

The helper engines (R116, R122, R125, R214, R250): an engine that holds a ticket serves it and answers Draught. -/
def Obligations.JobsAndHelpers : Prop :=
  (∀ (d : Dev) (g : Fin 26) (slot : Fin 2048) (node : Fin 16) (p : Fin 4) (c7 : Bool) (t : Fin 16384),
      let j := jobKey g slot
      let u := d.countTurned g
      let limit := usU ((d.rd R.DR_HTO F.DR_HTO_hto_us).max 1)
      let due := (d.dr.delays.get [] g).filter (fun x => x.due.max x.entered ≤ tickFloor d.now d.tickExp)
      let ended (q n : Nat) (x : Job) (e : Dev) : Prop :=
        e.job q = { x with out := x.out.filter (fun o => o.1 != n), done := withBit x.done n true, cnt := (e.job q).cnt }
      Does (.admission p c7) d (if c7 then d.admission (p * 2 + 1) else (d.admission (p * 2 + 1)).admission (p * 2))
        ∧ (∀ h rest a, d.on R.DR_CFG F.DR_CFG_adm_en = true → (c7 = false → d.dr.adm.get [] (p * 2 + 1) = []) →
            d.dr.adm.get [] (p * 2 + b2n c7) = h :: rest → (0 < (d.frame h).pass → (d.frame h).ticket.isSome = true) → d.refusal h = none →
            TH.affinity (d.tmplHdr (T.template.get (d.frame h).tub)) = false → d.frames.find h ≠ none →
            (((List.range 26).map (fun i => ((d.dr.rr.get none p).getD (6 * p) + i) % 26)).filter
              (fun x => d.galActive x && d.rl.swapOld != some x)).find? (fun x => (d.missing x (d.frame h).row (1 + TH.res_cells
                (d.tmplHdr (T.template.get (d.frame h).tub))) (T.tclass.get (d.frame h).tub == 7) (d.frame h).ticket.isSome).isNone) = some a →
            ∃ e s, Does (.admission p c7) d e ∧ (e.frame h).stage = .job ∧ (e.job (jobKey a s)).frame = h ∧ (e.job (jobKey a s)).st = 1
              ∧ e.dr.adm.get [] (p * 2 + b2n c7) = rest)
        ∧ (∀ h rest code, d.dr.adm.get [] (p * 2 + b2n c7) = h :: rest → d.refusal h = some code → d.on R.DR_CFG F.DR_CFG_adm_en = true →
            Does (.bareVoid p c7) d (d.refuseTub (p * 2 + b2n c7) h code))
        ∧ (∀ r, (u.dr.ready.get [] g).find? (u.canDispatch g) = some r →
            let nd := u.tmplNode (u.job (jobKey g r.slot)).tmpl r.node
            Does (.nodeDispatch g) d (({ u with dr := { u.dr with ready := u.dr.ready.upd [] g (·.erase r) } }).dispatch g r)
            ∧ (∀ c, ND.kind nd = 0 → u.pickCore g (ND.operand nd) = some c → ∃ e, Does (.nodeDispatch g) d e
                ∧ e.dr.ready.get [] g = (d.dr.ready.get [] g).erase r ∧ e.dr.cq.get [] (g * 8 + c) = d.dr.cq.get [] (g * 8 + c) ++ [r])
            ∧ (1 ≤ ND.kind nd → ND.kind nd ≠ 6 → ∃ e x, Does (.nodeDispatch g) d e ∧ e.dr.ready.get [] g = (d.dr.ready.get [] g).erase r
                ∧ e.dr.engine = d.dr.engine ++ [x] ∧ x.g = g.val ∧ x.kind = ND.kind nd ∧ x.op = ND.operand nd ∧ x.ref = r)
            ∧ (∀ t, ND.kind nd = 6 → d.delayDue (jobKey g r.slot) (ND.operand nd) = some t → (d.dr.delays.get [] g).length < 4096 →
                ∃ e, Does (.nodeDispatch g) d e ∧ e.dr.ready.get [] g = (d.dr.ready.get [] g).erase r
                  ∧ e.dr.delays.get [] g = insertDelay { due := t, entered := d.now, ref := r } (d.dr.delays.get [] g)))
        ∧ (∀ q r kind status rest, d.dr.returns = (q, r, kind, status) :: rest →
            Does .nodeComplete d (({ d with dr := { d.dr with returns := rest } }).nodeComplete q r kind status)
            ∧ (d.dr.jobs.find (jobKey q r.slot) = none → Does .nodeComplete d
                (({ d with dr := { d.dr with returns := rest } } : Dev).inc (R.DR_GSTAT q) F.DR_GSTAT_late))
            ∧ ∀ x, d.dr.jobs.find (jobKey q r.slot) = some x → d.gen (jobKey q r.slot) = r.gen → x.st = 1 →
                x.out.any (fun o => o.1 == r.node) = true → status < 3 → (kind = 1 → status ≠ 2) →
                ∃ e, Does .nodeComplete d e ∧ e.dr.returns = rest ∧ ended (jobKey q r.slot) r.node x e)
        ∧ (∀ x, d.dr.jobs.find j = some x → x.st = 1 → x.out.any (fun o => o.1 == node.val && decide (o.2 + limit ≤ d.now)) = true →
            1 ≤ ND.kind (d.tmplNode x.tmpl node) → ND.kind (d.tmplNode x.tmpl node) ≤ 5 →
            Does (.helperTimeout g slot node) d (d.nodeComplete g { slot := slot, node := node, gen := d.gen j } (ND.kind (d.tmplNode x.tmpl node)) 4)
            ∧ (TH.err_void (d.tmplHdr x.tmpl) = false → ∃ e, Does (.helperTimeout g slot node) d e ∧ ended j node x e))
        ∧ Does (.jobVoid g slot) d (d.jobVoid j false)
        ∧ (∀ x, d.dr.jobs.find j = some x → x.st = 1 → 0 < x.running → ∃ e, Does (.jobVoid g slot) d e
            ∧ e.job j = { x with st := 2, hoistVoid := false, leave := none, drainAt := d.now })
        ∧ (∀ x, d.dr.jobs.find j = some x → x.st = 1 → x.running = 0 → Does (.jobVoid g slot) d
            ((((d.jobTrace 6 j).purgeNodes j).setJob j { x with hoistVoid := false, leave := none }).endVoid j))
        ∧ Does (.delayFire g) d (d.fireDelays g (tickFloor d.now d.tickExp))
        ∧ (∃ e, Does (.delayFire g) d e
            ∧ e.dr.delays.get [] g = (d.dr.delays.get [] g).filter (fun x => tickFloor d.now d.tickExp < x.due.max x.entered)
            ∧ ∀ y x, due = [y] → d.dr.jobs.find (jobKey g y.ref.slot) = some x → d.gen (jobKey g y.ref.slot) = y.ref.gen → x.st = 1 →
                x.out.any (fun o => o.1 == y.ref.node) = true → ended (jobKey g y.ref.slot) y.ref.node x e)
        ∧ (d.on R.DR_TRCTL F.DR_TRCTL_wrap = true → d.dr.trace ≠ [] →
            let n := ringRecs (d.rd R.DR_TRRING F.DR_TRRING_size_log2) 16
            let x := d.ringPut (d.rd R.DR_TRRING F.DR_TRRING_base * 4096) n (d.rd R.DR_TRSTAT F.DR_TRSTAT_wr_idx) true ((d.dr.trace.take 4).map (·.toNat))
            Does .dispatchTraceDrain d (x.2.dispTraceAt n 4 (if n ≤ x.1 then 0 else x.1) true))
        ∧ (∀ e, (d.takeEngine g 7).1 = some e →
            Does (.releaseNodeComplete g) d ((d.takeEngine g 7).2.releaseNode (jobKey g e.ref.slot) e.ref)
            ∧ ∀ x, d.dr.jobs.find (jobKey g e.ref.slot) = some x → d.gen (jobKey g e.ref.slot) = e.ref.gen → x.st = 1 →
                (d.tix x.ticket).st = 1 → (d.tix x.ticket).jobs = [jobKey g e.ref.slot] →
                d.ahead (d.tix x.ticket).dom (d.tix x.ticket).seq = true → (d.frame x.frame).bad = false →
                ∃ f r, Does (.releaseNodeComplete g) d f ∧ (f.job (jobKey g e.ref.slot)).st = 3
                  ∧ f.tix x.ticket = { (d.tix x.ticket).to d.now 2 with rel := some r })
        ∧ Does .hoistRelease d d.hoistRelease
        ∧ (∀ k x tub eh psel q, d.nextEligible = some (k, x) → x.rel = some (tub, eh, psel, q) → T.drop.get tub = 1 → T.drop_n.get tub = 0 →
            Does .hoistRelease d ((d.inc R.HO_VCNT1 F.HO_VCNT1_drop).passDone k))
        ∧ (∀ k x tub eh psel q, d.nextEligible = some (k, x) → x.rel = some (tub, eh, psel, q) → (T.drop.get tub = 1 → T.drop_n.get tub ≠ 0) →
            let h := d.handOver q tub eh (T.dcol.get tub == 9 && T.multicast.get tub == 0)
            ∃ e r, Does .hoistRelease d e ∧ e.xc.reqs = h.2.xc.reqs ++ [r] ∧ r.tub = tub ∧ r.eh = eh ∧ r.psel = psel ∧ r.frame = x.frame
              ∧ r.hdr = h.1)
        ∧ Does (.reorderLimit t) d (d.reorderLimit t)
        ∧ (∀ x, d.ho.tickets.find t = some x → x.st = 1 → usU ((d.rd R.HO_CFG F.HO_CFG_limit_us).max 1) ≤ x.ran d.now →
            Does (.reorderLimit t) d ((((d.inc R.HO_VCNT0 F.HO_VCNT0_late).rset R.HO_LATE (BitVec.ofNat 64 (x.dom * 2 ^ 48 + x.seq * 2 ^ 28
              + x.jobs.headD 0 / 2048 * 2 ^ 23 + x.jobs.headD 0 % 2048 * 2 ^ 12 + 1))).tally 0x0B02 x.dom [x.seq]).hoistVoid t))
        ∧ (d.reclaiming g 0 = true → Does (.hoistReclaim g) d (d.hoistReclaim g).reclaimNext)
        ∧ (∀ r, d.reclaiming g 3 = true → d.rl.cur = some r → Does (.draughtReclaim g) d ((d.draughtReclaim g).reclaimNext.reclaimEnd r)))
    ∧ (∀ (d : Dev) (g : Fin 26) (bad : LodeErr) (e : EngineOp),
      let answers (c : Instr) (kind status : Nat) : Prop := ∃ f, Does c d f ∧ f.dr.returns = d.dr.returns ++ [(g.val, e.ref, kind, status)]
      let blk := ctxWord (jobKey g e.ref.slot) (HO.arg e.op)
      let arg := d.load blk 8
      let v := (d.takeEngine g 3).2.lookupVer e.ver (d.frame e.frame).retired
      let step := (d.takePhasor g (· != 1)).2.phasorStep (jobKey g e.ref.slot) arg
      ((d.takeEngine g 1).1 = some e → d.lodeTurn g e.num = true →
          Does (.lodeHelper g bad) d ((d.takeEngine g 1).2.lodeTicket g e (bad.at))
          ∧ (bitsOf e.op 4 16 ≠ 0 → answers (.lodeHelper g bad) 1 7)
          ∧ ∀ r u, bitsOf e.op 4 16 = 0 → bitsOf e.op 1 2 ≠ 3 → bitsOf e.op 26 6 ≤ 60 →
              bitsOf e.op 20 6 + (if bitAt e.op 0 then 16 else 8) ≤ 64 → d.wordBad g (ctxWord (jobKey g e.ref.slot) (bitsOf e.op 26 6)) 32 = false →
              (d.takeEngine g 1).2.lodeOp (.gallery g e.num) (bitsOf e.op 32 8) (leBytes 32 (d.lodeBlock (jobKey g e.ref.slot) e.op)) 0 false
                (bitAt e.op 0) bad.at = (some r, u) →
              ∃ f, Does (.lodeHelper g bad) d f ∧ f.dr.returns = u.dr.returns ++ [(g.val, e.ref, 1, r.status)])
        ∧ ((d.takeEngine g 2).1 = some e → Does (.streamHelper g) d ((d.takeEngine g 2).2.streamTicket g e)
          ∧ (62 < HO.res e.op → answers (.streamHelper g) 2 7)
          ∧ (HO.res e.op ≤ 62 → d.wordBad g blk 8 = true → answers (.streamHelper g) 2 3)
          ∧ (HO.res e.op ≤ 62 → d.wordBad g blk 8 = false → XE.valid.get (d.streamLook (arg % 65536)).1 = 1 → answers (.streamHelper g) 2 0))
        ∧ ((d.takeEngine g 3).1 = some e → Does (.ruleHelper g) d ((d.takeEngine g 3).2.ruleTicket g e)
          ∧ (56 < HO.arg e.op → answers (.ruleHelper g) 3 7)
          ∧ ∀ i r, HO.arg e.op ≤ 56 → d.wordBad g blk 64 = false →
              v.2.searchRules (slotOf v.1) (HO.fn e.op % 8) (BitVec.ofNat 512 (v.2.load blk 64)) = .hit i r → answers (.ruleHelper g) 3 0)
        ∧ ((d.takeEngine g 4).1 = some e → Does (.ddrFetch g) d ((d.takeEngine g 4).2.ddrFetch g e)
          ∧ ((bitsOf e.op 0 9 = 0 ∨ 256 < bitsOf e.op 0 9) → answers (.ddrFetch g) 4 7)
          ∧ ∀ bs u, 1 ≤ bitsOf e.op 0 9 → bitsOf e.op 0 9 ≤ 256 → 8 * HO.res e.op + bitsOf e.op 0 9 ≤ 512 → d.wordBad g blk 8 = false →
              arg + bitsOf e.op 0 9 ≤ 2 ^ 37 → (d.takeEngine g 4).2.smRead 1 arg (bitsOf e.op 0 9) = (.ok bs, u) →
              ∃ f, Does (.ddrFetch g) d f ∧ f.dr.returns = u.dr.returns ++ [(g.val, e.ref, 4, 0)]
                ∧ (u.awaited g e.ref = true → f.bytes (ctxWord (jobKey g e.ref.slot) (HO.res e.op)) bs.length = bs))
        ∧ ((d.takePhasor g (· != 1)).1 = some e → d.lull = false → Does (.step g) d ((d.takePhasor g (· != 1)).2.phasorTicket g e)
          ∧ (bitsOf e.op 32 8 ≠ 0 → answers (.step g) 5 7)
          ∧ (bitsOf e.op 32 8 = 0 → ∃ f, Does (.step g) d f ∧ f.dr.returns = step.2.2.dr.returns ++ [(g.val, e.ref, 5, step.1)]))
        ∧ ((d.takePhasor g (· == 1)).1 = some e → d.lull = false → Does (.state g) d ((d.takePhasor g (· == 1)).2.phasorState g e)
          ∧ (arg % 2 ^ 11 < 1536 → HO.res e.op ≤ 56 → ∃ f, Does (.state g) d f ∧ f.dr.returns = d.dr.returns ++ [(g.val, e.ref, 5, 0)]
            ∧ (d.awaited g e.ref = true → f.bytes (ctxWord (jobKey g e.ref.slot) (HO.res e.op)) 64 = d.bytes (blockAddr g (arg % 2 ^ 11)) 64))))

/-! ## The packet path -/

/-- A frame arrives (R31, R32, R39, R41): at a port that is up it is counted and becomes a frame on the wire of its row, cut at 16,383
bytes, with its FCS checked and, at a calibrated port, a stamp; a frame below 64 bytes is a runt, and one that MACsec refuses is
counted alone.

The way of a frame through Assay (R80 to R103): a pipe takes the next header, an assayer takes the head of its pipe's FIFO, a body is
complete, a program that runs too long fails, the tubs leave in order, exceptions are delivered and their credit returns. -/
def Obligations.Ingress : Prop :=
  (∀ (d : Dev) (p : Fin 32) (data : List Byte) (sec : Option Bool),
      d.portSt p = 2 → d.isleFenced (26 + p.val / 4) = false →
        let v := if sec = some true then d.stat p 11 else d
        (sec = some false → Does (.frameReceive p data sec) d (d.stat p 12))
          ∧ (sec ≠ some false → data.length < 64 → Does (.frameReceive p data sec) d (v.stat p 5))
          ∧ (sec ≠ some false → 64 ≤ data.length → ∃ e h f, Does (.frameReceive p data sec) d e ∧ e.frames.find h = some f
              ∧ f.stage = .wire ∧ f.row = p.val / 4 ∧ f.inPort = p.val ∧ f.pipe = p.val / 8 ∧ f.data = data.take 16383
              ∧ f.beyond = decide (16383 < data.length) ∧ f.tsValid = d.on (R.PT_PSTAT p) F.PT_PSTAT_ts_cal_valid
              ∧ f.secOk = decide (sec = some true) ∧ ∀ a, e.byte a = d.byte a))
    ∧ (∀ (d : Dev) (p : Fin 4) (a : Fin 16) (h : Nat) (f : Frame),
      (d.isleFenced (34 + p) = false → d.isleFenced (38 + p) = false → (d.as.fifo.get [] p).length < 64 → d.inPipe p 0 = some (h, f) →
          Does (.pipeAccept p) d (d.accept h f))
        ∧ (∀ r, d.as.assayers.find (asKey p a) = none → d.as.fifo.get [] p = h :: r → d.issueStalled p = false →
            let v := d.lookupVer (d.frame h).ver (d.frame h).retired
            let y : Assayer := { frame := h, ver := v.1, wv := (d.frame h).window, fv := (d.frame h).startFv }
            let u : Dev := { v.2 with as := { v.2.as with fifo := v.2.as.fifo.set [] p r, assayers := v.2.as.assayers.put (asKey p a) y } }
            Does (.parseStart p a) d (u.modFrame h (fun f => { f with stage := .parsing })))
        ∧ (∀ x, d.as.assayers.find (asKey p a) = some x → d.stepMax p ≤ x.steps → Does (.parseOverrun p a) d (d.parseFail (asKey p a) x 0x04))
        ∧ (d.frames.find h = some f → f.bodyDone = false → f.stage = .parsed → f.data.length ≤ f.stored →
            let u := if f.beyond then d.stat f.inPort 6 else if !f.trunc && !f.fcsOk then d.stat f.inPort 4 else d
            Does (.bodyComplete h) d ((u.modFrame h (fun f => { f with bodyDone := true })).learnTry h))
        ∧ (∀ r c, d.as.order.get [] p = h :: r → (d.frame h).stage = .parsed → (d.frame h).bad = false → (d.frame h).excNow = none →
            (d.frame h).cell = some c → (d.frame h).dropped = false → (d.frame h).hasSeq = true → d.admRoom p (T.tclass.get (d.frame h).tub) = true →
            Does (.tubIssue p) d ((({ d with as := { d.as with order := d.as.order.set [] p r } } : Dev).modFrame h
              (fun f => { f with tub := T.cell.put f.tub (f.cell.getD 0) })).admEnqueue h))
        ∧ (∀ r, d.as.order.get [] p = h :: r → (d.frame h).stage = .parsed → (d.frame h).bad = true →
            Does (.tubIssue p) d (({ d with as := { d.as with order := d.as.order.set [] p r } } : Dev).dropFrame h))
        ∧ (∀ q, d.frames.find h = some f → f.cell = some q → f.stage = .excepted → f.bodyDone = true → f.bad = false →
            Does (.exceptionDeliver h) d (d.excDeliver h f q))
        ∧ Does .excTokenCredit d (d.as.excTokens.foldl (fun d e => d.setExcTokens e.1 (min (d.excTokens e.1 + d.rd (R.AS_EXCCFG e.1)
            F.AS_EXCCFG_rate) (max (d.rd (R.AS_EXCCFG e.1) F.AS_EXCCFG_burst) 1 * 1000000))) d))

/-- The instructions of the assayers (R75 to R78): loads from the header window and extractions into the field vector, moves of the cursor,
branches, and the ends of a parse. Outside the window or the field vector they fail with the codes of R78. Here w is the word and x the
assayer with the step counted. -/
def Obligations.AssayerInstructions : Prop :=  ∀ (d : Dev) (p : Fin 4) (a : Fin 16) (w : Nat) (x : Assayer),
    let at_ (op : Nat) : Prop := d.assayNext p a op = some (w, x)
    let goes (c : Instr) (y : Assayer) : Prop := Does c d { d with as := { d.as with assayers := d.as.assayers.put (asKey p a) y } }
    let fails (c : Instr) (code : Nat) : Prop := Does c d (d.parseFail (asKey p a) x code)
    let next : Assayer := { x with pc := (x.pc + 1) % 1024 }
    let jump (t : Nat) : Assayer := { x with pc := t % 1024 }
    let pos := bitsOf w 10 10
    let n := bitsOf w 3 7 + 1
    let o := x.cur + bitsOf w 20 8
    let nb := (n + 7) / 8
    let reg := (x.p (bitsOf w 26 2)).toNat
    let imm := bitsOf w 10 16
    let field (pos n v : Nat) : Assayer := { next with fv := BF.put ⟨pos, n⟩ x.fv v }
    let fixed : List BF := [FV.rflags, FV.appid, FV.etype_off, FV.in_port, FV.pass, FV.length, FV.red_seq, FV.rtag_seq]
    (at_ 0 → 896 < pos + n → fails (.assayExt p a) 0x05)
      ∧ (at_ 0 → pos + n ≤ 896 → x.wv.length < o + nb → fails (.assayExt p a) 0x03)
      ∧ (at_ 0 → pos + n ≤ 896 → o + nb ≤ x.wv.length →
          goes (.assayExt p a) (field pos n (beNat ((x.wv.drop o).take nb) / 2 ^ (8 * nb - n))))
      ∧ (at_ 1 → bitsOf w 16 2 = 1 → o + 2 ≤ x.wv.length → goes (.ldr p a) (next.setP (bitsOf w 18 2) (beNat ((x.wv.drop o).take 2))))
      ∧ (at_ 1 → bitsOf w 16 2 ≠ 1 → o + 1 ≤ x.wv.length → goes (.ldr p a) (next.setP (bitsOf w 18 2)
          (match bitsOf w 16 2 with | 0 => wire8 x.wv o | 2 => wire8 x.wv o / 16 | _ => wire8 x.wv o % 16)))
      ∧ (at_ 1 → x.wv.length < o + (if bitsOf w 16 2 = 1 then 2 else 1) → fails (.ldr p a) 0x03)
      ∧ (at_ 2 → goes (.advi p a) { next with cur := x.cur + bitsOf w 0 8 })
      ∧ (at_ 3 → goes (.advr p a) { next with cur := x.cur + (reg &&& bitsOf w 18 8) * 2 ^ bitsOf w 16 2 })
      ∧ (at_ 4 → goes (.beq p a) (if reg = imm then jump (bitsOf w 0 10) else next))
      ∧ (at_ 5 → goes (.bne p a) (if reg = imm then next else jump (bitsOf w 0 10)))
      ∧ (at_ 6 → goes (.bset p a) (if reg &&& imm = 0 then next else jump (bitsOf w 0 10)))
      ∧ (at_ 7 → goes (.jmp p a) (jump (bitsOf w 0 10)))
      ∧ (at_ 8 → pos < 896 → goes (.setb p a) (field pos 1 1)) ∧ (at_ 8 → 896 ≤ pos → fails (.setb p a) 0x05)
      ∧ (at_ 9 → pos + 16 ≤ 896 → goes (.putr p a) (field pos 16 reg)) ∧ (at_ 9 → 896 < pos + 16 → fails (.putr p a) 0x05)
      ∧ (at_ 10 → goes (.keyp p a) { next with prof := bitsOf w 0 3 })
      ∧ (at_ 11 → x.cur ≤ 255 → goes (.hdr p a) { next with fv := (FV.layer (bitsOf w 0 2)).put x.fv x.cur })
      ∧ (at_ 11 → 255 < x.cur → fails (.hdr p a) 0x03)
      ∧ (at_ 12 → Does (.done p a) d (((d.parseLeave (asKey p a) x).classify x.frame (slotOf x.ver) x.prof x.fv).learnTry x.frame))
      ∧ (at_ 13 → fails (.fail p a) (if 0x20 ≤ bitsOf w 0 8 ∧ bitsOf w 0 8 ≤ 0x3F then bitsOf w 0 8 else 0x05))
      ∧ (∀ f, at_ 14 → fixed[bitsOf w 22 4]? = some f → goes (.ldm p a) (next.setP (bitsOf w 26 2) (f.get x.fv)))
      ∧ (at_ 14 → 8 ≤ bitsOf w 22 4 → fails (.ldm p a) 0x05)
      ∧ (at_ 15 → fails (.assayerIllegalOp p a) 0x05)

/-- Rule versions and Eddy (R89 to R95): a commit takes effect in a pipe, the staging copy ends, and Eddy takes a frame into a cell of row 9
or drops it for its third pass, for its length, or for want of credit. -/
def Obligations.VersionsAndEddy : Prop :=  ∀ (d : Dev) (p : Fin 4) (r : EnqReq) (rest : List EnqReq),
    let h := r.frame
    let u : Dev := { d with xc := { d.xc with eddy := rest } }
    let merged := T.length.get r.tub - r.winLen + r.eh.length
    let in_use := d.rd R.AS_EDDYSTAT F.AS_EDDYSTAT_in_use
    let lives := (d.frames.find h).isNone = false
    (d.as.pipeVer.get 0 p ≠ d.curVer → Does (.commitEffect p) d
        ({ d with as := { d.as with pipeVer := d.as.pipeVer.set 0 p d.curVer, ready := d.as.ready.set false p true } } : Dev).prevDrain)
      ∧ (d.as.copying = true → ∃ e, Does .stagingCopyDone d e ∧ e.as.copying = false ∧ e.stageReady = true
          ∧ ∀ i, e.rule i = if d.curSlot = 0 then { d.rule i with inB := (d.rule i).inA } else { d.rule i with inA := (d.rule i).inB })
      ∧ (d.xc.eddy = r :: rest → lives → T.pass.get r.tub = 2 →
          Does .eddyEnqueue d ((u.inc R.AS_EDDYSTAT F.AS_EDDYSTAT_pass_drop).dropFrame h))
      ∧ (d.xc.eddy = r :: rest → lives → T.pass.get r.tub ≠ 2 → 16383 < merged →
          Does .eddyEnqueue d ((u.inc R.XC_LENERR F.XC_LENERR_long_drop).dropFrame h))
      ∧ (d.xc.eddy = r :: rest → lives → T.pass.get r.tub ≠ 2 → merged ≤ 16383 → d.rd R.AS_EDDYCFG F.AS_EDDYCFG_credit ≤ in_use →
          Does .eddyEnqueue d ((u.inc R.AS_EDDYSTAT F.AS_EDDYSTAT_full_drop).dropFrame h))
      ∧ (∀ c e, d.xc.eddy = r :: rest → lives → T.pass.get r.tub ≠ 2 → merged ≤ 16383 → in_use < d.rd R.AS_EDDYCFG F.AS_EDDYCFG_credit →
          u.take 9 tagEddy = (some c, e) →
          let e := e.put (rowAddr 9 (ptrIdx c) 0) r.eh
          let e := e.wr R.AS_EDDYSTAT F.AS_EDDYSTAT_in_use (e.rd R.AS_EDDYSTAT F.AS_EDDYSTAT_in_use + 1)
          Does .eddyEnqueue d (e.modFrame h (fun f => { f with stage := .eddy, credit := true, eddyCell := some c, eh := r.eh,
                                                                       pipe := if f.dom % 2 = 0 then 0 else 2 })))

/-- Egress and Crosscut (R304 to R323): what an egress port sends, edits and finishes, the enqueue of a released tub, a move down a column,
the capture ring, the end of a hold window and of a plane move, the tuning of thresholds, and the Overman's exception frames.

Bin's operations (R325 to R339): each is one of the pool's own, for the parties that may ask for it; a reclaim scan of a gallery or of a
due party, the end of a rebuild, and a failed conservation check, which stops the device's pools with the fault bin. -/
def Obligations.SwitchAndBin : Prop :=
  (∀ (d : Dev) (p : Fin 32) (x : Desc) (q : Nat) (rest : List Desc) (col : Fin 12) (e : Fin 64),
      let edited := (d.port p).edited
      let m := (d.rget R.XC_PLMOVE).toNat
      (d.portSt p = 2 → d.hstate p = 0 → d.isleFenced (26 + p.val / 4) = false →
          Does (.transmitOpportunity p) d (((d.shape p).dropAllStale p).sendNext p)
          ∧ ∀ k u, (((d.shape p).dropAllStale p).port p).sending = none → ((d.shape p).dropAllStale p).pickQueue p = (some k, u) →
              (u.port p).frag = none → u.pqQ (p * 8 + k) = x :: rest →
              ∃ f, Does (.transmitOpportunity p) d f ∧ (f.port p).sending = some (x, k) ∧ f.pqQ (p * 8 + k) = rest)
        ∧ ((d.port p).sending = some (x, q) → edited = false → x.pairsGood = false →
            Does (.egressEdit p) d ((((d.inc R.XC_ERR F.XC_ERR_cmpl_eg).tally 0x0C01 (p.val / 4) [1]).descEnd x).clearSending p))
        ∧ ((d.port p).sending = some (x, q) → edited = false → x.pairsGood = true → 16383 < x.mergedLen →
            Does (.egressEdit p) d (((d.inc R.XC_LENERR F.XC_LENERR_long_drop).descEnd x).clearSending p))
        ∧ ((d.port p).sending = some (x, q) → edited = false → x.pairsGood = true → x.mergedLen ≤ 16383 → 60 ≤ (x.cut (d.mergedBytes x)).length →
            let u := (d.egressMirror p x).oneStep p x (x.cut (d.mergedBytes x))
            let v := u.2.dressAll p x u.1
            Does (.egressEdit p) d (v.2.modPort p (fun y => { y with edited := true, tx := v.1 })))
        ∧ ((d.port p).sending = some (x, q) → edited = true → Does (.frameSent p) d (((((d.port p).tx.foldl Dev.wireOut d).shape p).descEnd x).clearSending p))
        ∧ (∀ r, d.nextReq = some r → Does .enqueueRequest d (d.enqueueOne r)
            ∧ (r.tub.pairsGood = true → T.dcol.get r.tub < 12 → T.drop.get r.tub = 1 → Does .enqueueRequest d
                (({ d with xc := { d.xc with reqs := d.xc.reqs.erase r } } : Dev).releaseFrame (T.cell.get r.tub)))
            ∧ (r.tub.pairsGood = true → T.drop.get r.tub = 0 → d.on R.XC_CFG F.XC_CFG_en = true → r.mirror = 0 →
                (∀ a, d.portOfLane (T.in_port.get r.tub) = some a → d.rd (R.XC_PORT a) F.XC_PORT_imir = 0) →
                let c := T.dcol.get r.tub
                let s := T.queue.get r.tub
                let row := ptrRow (T.cell.get r.tub)
                let n := (T.length.get r.tub + 255) / 256 + b2n (!r.orig)
                let en := planeEntry (T.domain.get r.tub)
                let xk := xpKey (d.planeOf en) row c s
                (c = 9 → T.multicast.get r.tub = 0 → ∃ f, Does .enqueueRequest d f ∧ f.xc.eddy = d.xc.eddy ++ [r])
                ∧ ∀ a, c < 8 → T.multicast.get r.tub = 0 →
                    d.portOfLane (4 * c + if r.src = 0 then r.psel else d.rd (R.XC_COL c) F.XC_COL_dflt_psel) = some a →
                    d.columnOn c = true → d.planeFenced (d.planeOf en) = false → d.rd (R.XC_COL c) F.XC_COL_occ < 16384 →
                    d.xc.q.get 0 (qKey row c s) + n ≤ d.threshold row s →
                    ∃ f y, Does .enqueueRequest d f ∧ f.xpQ xk = d.xpQ xk ++ [y] ∧ y.port = a ∧ y.n = n))
        ∧ (∀ i, d.pickMove col = some i → d.xpQ (xpKey (i / 96) (i / 8 % 12) col (i % 8)) = x :: rest →
            let u := d.setXp (xpKey (i / 96) (i / 8 % 12) col (i % 8)) rest
            Does (.columnMove col) d ((if i % 8 = 7 then u else { u with xc := { u.xc with turn := u.xc.turn.set 191 col i } }).arrive col x)
            ∧ (9 ≤ col.val → ∃ f, Does (.columnMove col) d f ∧ f.pqQ (pqKey col x.port (D.queue.get x.w)) =
                d.pqQ (pqKey col x.port (D.queue.get x.w)) ++ [x]))
        ∧ (d.pqQ (pqKey 10 0 0) = x :: rest → Does .captureWrite d ((d.setPq (pqKey 10 0 0) rest).capTake x)
            ∧ let u := d.setPq (pqKey 10 0 0) rest
              let bs := u.capBytes x
              let n := (32 + bs.length + 63) / 64
              let size := 2 ^ d.rd R.XC_CAPRING F.XC_CAPRING_size_log2 / 64
              let i := d.rd R.XC_CAPIDX F.XC_CAPIDX_wr_idx
              let w := u.capPut (d.rd R.XC_CAPRING F.XC_CAPRING_base * 4096) size n i (u.capHeader x bs.length ++ bs)
              x.pairsGood = true → d.on R.XC_CAPRING F.XC_CAPRING_wrap = false →
                ((d.on R.XC_CAPRING F.XC_CAPRING_en = false ∨ size < n + d.capUsed) →
                  Does .captureWrite d ((u.inc R.XC_CAPSTAT F.XC_CAPSTAT_lost).descEnd x))
                ∧ (d.on R.XC_CAPRING F.XC_CAPRING_en = true → n + d.capUsed ≤ size → w.1 = true →
                  Does .captureWrite d (((({ w.2 with xc := { w.2.xc with capRecs := w.2.xc.capRecs ++ [n] } } : Dev).wr R.XC_CAPIDX F.XC_CAPIDX_wr_idx
                    ((i + n) % 2 ^ 32)).inc R.XC_CAPSTAT F.XC_CAPSTAT_written).descEnd x)))
        ∧ (d.hstate p = 2 → d.xc.holdEnd.get 0 p ≤ d.now → Does (.holdWindowEnd p) d (d.toDiscard p F.XC_PCNT_hold_drop))
        ∧ (bitAt m e = true → d.oldPlaneHolds e = false →
            Does (.planeMoveDone e) d (d.rset R.XC_PLMOVE (BitVec.ofNat 64 (withBit m e false))))
        ∧ (let u := (if d.policyOn 2 then (List.range 12).foldl Dev.tuneRow d else d);
            Does .thresholdTune d { u with xc := { u.xc with refused := [], freeMin := [] } })
        ∧ (d.pqQ (pqKey 11 0 0) = x :: rest → x.pairsGood = true → x.mergedLen ≤ 16383 → 60 ≤ (x.cut ((d.setPq (pqKey 11 0 0) rest).mergedBytes x)).length →
            let u := d.setPq (pqKey 11 0 0) rest
            Does (.overmanTakesFrame false) d ((u.out (.overman x.exc (x.cut (u.mergedBytes x)))).descEnd x)
              ∧ Does (.overmanTakesFrame true) d (u.descEnd x)))
    ∧ (∀ (d : Dev) (h n : Nat) (row : Fin 12) (tag new : Fin 1048576) (cls7 : Bool) (ptr hdr : Fin 16777216) (k : Fin 256) (g : Fin 26) (p : Party),
      let at_ := ptrIdx ptr
      let pr := ptrRow ptr
      let ce := d.entry pr at_
      let cs := d.chainOf ptr
      Does (.alloc h) d (d.allocFor h)
        ∧ (∀ f, d.frames.find h = some f → f.bodyDone = false → f.trunc = false → f.stored < f.data.length →
            [FStage.wire, .held, .ending].contains f.stage = false →
            (∀ e, d.alloc f.row f.requester f.cell = (none, e) → Does (.alloc h) d (e.truncate h))
            ∧ ∀ c e, d.alloc f.row f.requester f.cell = (some c, e) → Does (.alloc h) d
                ((e.put (rowAddr f.row (ptrIdx c) 0) ((f.data.drop f.stored).take 256)).modFrame h (fun y =>
                  { y with cell := some (f.cell.getD c), stored := y.stored + 256, tub := T.cell.put y.tub (f.cell.getD c) })))
        ∧ (tagKind tag = 2 ∨ tagKind tag = 5 ∨ tagKind tag = 8 ∨ tagKind tag = 9 →
            Does (.reserve row tag n cls7) d (d.reserve row tag n (cls7 && tagKind tag == 2)).2
            ∧ (d.rowBusy row = false → d.quotaRoom tag row n = true → n + d.rd (R.BN_ROWCFG row) F.BN_ROWCFG_c7_cells ≤ d.rowF row →
                ∃ e, Does (.reserve row tag n cls7) d e ∧ e.resvOf row tag = d.resvOf row tag + n))
        ∧ (∀ c e, d.resvOf row tag ≠ 0 → d.pop row = (some c, e) → ∃ f, Does (.take row tag) d f
            ∧ f.resvOf row tag = e.resvOf row tag - 1 ∧ f.entry row c = CE.owner.put (CE.last.put (0 : Word64) 1) tag)
        ∧ (n ≤ d.resvOf row tag → ∃ e, Does (.unreserve row tag n) d e ∧ e.resvOf row tag = d.resvOf row tag - n)
        ∧ (d.resvOf row tag < n → Does (.unreserve row tag n) d (d.binRefuse F.BN_ERR_dbl_free 3 tag (ptrOf row 0)))
        ∧ (ptrGood ptr = true → CE.owner.get ce = tag →
            Does (.xfer ptr tag new) d (((d.useQuota tag pr 0 cs.length).useQuota new pr cs.length 0).ownAll pr new cs)
            ∧ (k.val = 0 → Does (.setref ptr tag k) d (d.freeChain ptr))
            ∧ (k.val ≠ 0 → Does (.setref ptr tag k) d ((d.xfer ptr tag tagXc).setEntry pr at_
                (CE.refs.put ((d.xfer ptr tag tagXc).entry pr at_) k)))
            ∧ (CE.head.get ce ≠ 0 → Does (.free ptr tag) d (d.freeChain ptr)))
        ∧ (ptrGood ptr = true → CE.owner.get ce ≠ tag → Does (.xfer ptr tag new) d (d.binRefuse F.BN_ERR_owner_err 4 tag ptr))
        ∧ (ptrGood ptr = true → ptrGood hdr = true → ptrRow hdr = pr → CE.head.get ce ≠ 0 →
            let l := (cs.getLast?).getD at_
            Does (.append ptr hdr) d ((d.setEntry pr l (CE.next.put (CE.last.put (d.entry pr l) 0) (ptrIdx hdr))).setEntry pr (ptrIdx hdr)
              (CE.owner.put (CE.last.put (0 : Word64) 1) (CE.owner.get ce))))
        ∧ (ptrGood ptr = true → CE.head.get ce ≠ 0 → CE.owner.get ce = tagXc →
            (CE.refs.get ce ≠ 255 → Does (.addref ptr) d (d.setEntry pr at_ (CE.refs.put ce (CE.refs.get ce + 1))))
            ∧ (CE.refs.get ce = 255 → Does (.addref ptr) d d)
            ∧ (CE.refs.get ce = 1 → Does (.dropref ptr) d (d.freeChain ptr))
            ∧ (2 ≤ CE.refs.get ce → Does (.dropref ptr) d (d.setEntry pr at_ (CE.refs.put ce (CE.refs.get ce - 1)))))
        ∧ Does (.take row tag) d (d.take row tag).2
        ∧ Does (.unreserve row tag n) d (d.unreserve row tag n)
        ∧ Does (.xfer ptr tag new) d (d.xfer ptr tag new)
        ∧ Does (.append ptr hdr) d (d.append ptr hdr)
        ∧ Does (.setref ptr tag k) d (d.setref ptr tag k)
        ∧ Does (.addref ptr) d (d.addref ptr).2
        ∧ Does (.dropref ptr) d (d.dropref ptr)
        ∧ Does (.free ptr tag) d (d.freeBy ptr tag)
        ∧ (d.reclaiming g 2 = true → Does (.binReclaimScan (.gallery g)) d (d.binReclaim (.gallery g)).reclaimNext)
        ∧ ((∀ g, p ≠ .gallery g) → d.bn.due.contains p = true →
            Does (.binReclaimScan p) d { d.binReclaim p with bn := { (d.binReclaim p).bn with due := d.bn.due.erase p } })
        ∧ (d.on (R.BN_ROWSTAT row) F.BN_ROWSTAT_rebuild = true → Does (.freeListRebuildDone row) d (d.listBack row)
            ∧ ∃ e, Does (.freeListRebuildDone row) d e ∧ e.bn.head.get none row = none ∧ e.restOf row = gaps (rowCells row) 0 (d.usedCells row))
        ∧ Does (.conservationCheck true) d (({ d with bn := { d.bn with stopped := true } } : Dev).deviceFault F.RL_FAULT_bin)
        ∧ ((∀ r : Fin 12, d.conserved r = true) → Does (.conservationCheck false) d d))

/-! ## Ports and time -/

/-- The states of a port (R35 to R41, R43 to R48): what loss of a link, its return, the debounce, faults and lock losses do, and the end of
a stamp calibration.

Flow control and gates (R42, R45 to R47, R49, R318): pause masks, their refresh, expiry and watchdog, the change of a gate list at its
instant, and the supervision and PTP frames a port sends. -/
def Obligations.PortsAndGates : Prop :=
  (∀ (d : Dev) (p : Fin 32) (lock loc rem : Bool),
      let lost := ((d.setPortSt p 4).ptpPortLeft p).setFaults p loc rem
      let lost := if lock then lost.setLocks p false else lost
      (d.portSt p = 2 → (lock || loc || rem) = true → Does (.linkLoss p lock loc rem) d (if d.rd (R.PT_TMR p) F.PT_TMR_ld_debounce = 0 then lost.debounceEnd p else lost))
        ∧ (d.portSt p = 4 → Does (.linkConditionClears p) d ((((d.setPortSt p 2).setFaults p false false).setLocks p true).stat p 9))
        ∧ (d.portSt p = 4 → Does (.debounceExpiry p) d (d.debounceEnd p))
        ∧ (d.portSt p = 1 → Does (.linkUp p) d (((d.setFaults p false false).setLocks p true).portUp p))
        ∧ (d.portSt p = 1 → loc = true ∨ rem = true →
            Does (.linkFaultSignalled p loc rem) d (((d.setPortSt p 3).setLocks p true).setFaults p loc rem))
        ∧ (d.portSt p = 3 → Does (.faultClear p) d ((d.setFaults p false false).portUp p))
        ∧ (d.portSt p = 3 → Does (.lockLost p) d (((d.setLocks p false).setFaults p false false).portLeave p 1))
        ∧ (d.portSt p = 2 → d.portLanes p ≠ 1 → ∃ e, Does (.tsCalDone p) d e ∧ e.on (R.PT_PSTAT p) F.PT_PSTAT_ts_cal_valid = true
            ∧ ∀ r : Reg, r.addr ≠ (R.PT_PSTAT p).addr → e.rget r = d.rget r))
    ∧ (∀ (d : Dev) (p : Fin 32) (pfc : Bool) (hold release mask : Fin 256) (row q : Fin 8) (kind : Fin 16),
      let st := R.PT_PSTAT p
      let was := d.rd st F.PT_PSTAT_paused_mask
      let m := (d.stat p 7).pauseScope p pfc
      let wd := d.rd st F.PT_PSTAT_pause_wd_mask
      let scope := if d.rd (R.PT_PCFG p) F.PT_PCFG_fc_mode = 1 then 255 else 2 ^ q.val
      let ctl := R.PT_GCLCTL p
      let x := d.port p
      (d.portSt p = 2 → Does (.pauseFrameRx p pfc hold release) d
          ((d.stat p 7).setPaused p (((was ||| hold.val &&& m) ||| (release.val &&& m)) - (release.val &&& m))))
        ∧ (d.bn.pausing.get false row = true → Does (.pauseRefresh row) d (d.sendPause row true)
            ∧ ∃ e, Does (.pauseRefresh row) d e ∧ e.outbox = d.outbox ++ d.pauseFrames row true)
        ∧ Does (.pauseQuantaExpiry p mask) d (d.setPaused p (was - (was &&& mask.val)))
        ∧ (d.rd (R.PT_TMR p) F.PT_TMR_pause_wd ≠ 0 → d.hstate p = 0 → bitAt was q = true → bitAt wd q = false →
            let u := (List.range 8).foldl (fun d k => if bitAt scope k then d.wdEnter p k else d) (d.wr st F.PT_PSTAT_pause_wd_mask (wd ||| scope))
            Does (.pauseWatchdog p q) d (((u.tally 0x0102 p [scope]).event 0x13 p scope).stat p 15))
        ∧ (bitAt wd q = true → was &&& scope = 0 →
            Does (.watchdogDiscardEnd p q) d (d.wr st F.PT_PSTAT_pause_wd_mask (wd - (wd &&& scope))))
        ∧ (d.on ctl F.PT_GCLCTL_pending = true → d.changeAt p ≤ d.now →
            let u := (d.shape p).modPort p (fun y => { y with run := d.adminList p, runBase := d.changeAt p, listBase := d.adminBase p
                                                              runCycle := d.adminCycle p, keep := none, entry := 0 })
            Does (.gateChangeover p) d ((u.put (runAddr p) (u.bytes (adminAddr p) (4 * u.rd ctl F.PT_GCLCTL_length))).wr ctl F.PT_GCLCTL_pending 0))
        ∧ (x.run ≠ [] → x.sending = none →
            Does (.gateEntryBoundary p) d ((d.shape p).modPort p (fun y => { y with entry := (y.gateAt d.now).1 })))
        ∧ (∀ a b, d.pairOf p = [a, b] → p.val ≤ b → Does (.prpSupervisionSend p) d ((d.freeFrame 60).2.emitAll p {}
            (patch (patch (d.freeFrame 60).1 0 [0x01, 0x15, 0x4E, 0x00, 0x01]) 12 [0x88, 0xFB])))
        ∧ ((d.port p).ptp.role = 1 → d.portSt p = 2 →
            let f := d.freeFrame 78
            let t := BitVec.ofNat 8 ((f.1.getD 14 0).toNat / 16 * 16 + kind.val)
            let b := patch (patch (patch f.1 0 [0x01, 0x1B, 0x19, 0, 0, 0]) 12 [0x88, 0xF7]) 14 [t]
            let z := f.2.ptpFollow p kind (if kind.val = 11 then patch b 58 (beBytes 2 (d.rd R.TB_UTC F.TB_UTC_utc_offset)) else b)
            let y := z.2.oneStep p { w := D.in_port.put (D.flags.put 0 (if kind.val < 4 then 16 else 0)) 35 } z.1
            Does (.ptpMessageSend p kind) d (y.2.emit p y.1))
        ∧ Does (.ptpParentChange p) d ({ d with pt := { d.pt with parent := some p.val } } : Dev).ptpDrop)

/-- Clocks and references (R51 to R58): crossing tokens and their sixteenth failure, islands, the qualification of a frequency reference by
ten good measurements, and the oscillator's oven.

Sources of time of day (R59 to R62): a pulse per second at its pin qualifies after four good intervals and measures, an IRIG frame
that names the second after the one before qualifies at the third, eight PTP measurements qualify, and each source's loss. -/
def Obligations.ClocksAndSources : Prop :=
  (∀ (d : Dev) (isl : Fin 100) (b : Fin 2),
      let n := d.tb.xfails.get 0 isl + 1
      let failed := (d.inc (R.CK_ISLSTAT isl) F.CK_ISLSTAT_xerr_cnt).modTb (fun t => { t with xfails := t.xfails.set 0 isl (n % 16) })
      let m := d.tb.refRun.get 0 b + 1
      let counted := d.modTb (fun t => { t with refRun := t.refRun.set 0 b (m.min 10) })
      Does (.crossingToken isl false) d (d.modTb (fun t => { t with xfails := t.xfails.set 0 isl 0 }))
        ∧ Does (.crossingToken isl true) d (if n = 16 then failed.islandFault isl 1 else failed)
        ∧ Does (.islandClockRestart isl) d (d.wr (R.CK_ISLSTAT isl) F.CK_ISLSTAT_gated 0)
        ∧ Does (.refMeasurement b false) d (d.refBad b)
        ∧ (m < 10 → Does (.refMeasurement b true) d counted)
        ∧ (10 ≤ m → d.on R.TB_STAT (refQual b) = false → Does (.refMeasurement b true) d (counted.refGood b))
        ∧ Does (.refEdgeLoss b) d (d.refBad b)
        ∧ (∀ a, d.prefRef = some a → d.on R.TB_CTL F.TB_CTL_revert = true → d.on R.TB_STAT (refQual a) = true →
            d.tb.refAt.get 0 a + 60 * unitsPerSec ≤ d.now →
            Does .refRevert d ((d.wr R.TB_STAT F.TB_STAT_fsel (a + 1)).modTb (fun t => { t with moved := false })))
        ∧ (d.tb.holdFrom = none → Does .ovenReady d ((d.wr R.TB_STAT F.TB_STAT_oven_ready 1).modTb (fun t =>
            { t with holdFrom := if d.rd R.TB_STAT F.TB_STAT_state = 2 then some d.now else none })))
        ∧ (∀ t, d.tbSt = 2 → d.tb.holdFrom = some t → t + 1000 * unitsPerSec ≤ d.now → Does .holdValidSet d (d.wr R.TB_STAT F.TB_STAT_hold_valid 1))
        ∧ (d.tbSt = 3 → 1440 ≤ d.holdMin → Does .holdoverExpiry d (d.tbGo 0)))
    ∧ (∀ (d : Dev) (wide : Bool) (soy : Nat) (year : Option Nat) (off : BitVec 64),
      let st := d.pinStamp
      let tai : Int := ((d.irigUtc year soy : Nat) : Int) + d.utcOff
      (d.tb.ppsLast = none → Does (.ppsInEdge wide) d (d.modTb (fun t => { t with ppsLast := some st, ppsRun := 0 })))
        ∧ (∀ l, wide = true → d.tb.ppsLast = some l → ppsInterval l st = true → d.tsrc ≠ 1 →
            let n := (d.tb.ppsRun + 1).min 4
            let u := d.modTb (fun t => { t with ppsLast := some st, ppsRun := n })
            Does (.ppsInEdge wide) d (if 4 ≤ n then u.setQual F.TB_STAT_pps_qual true else u))
        ∧ (∀ l, d.tb.ppsLast = some l → ppsInterval l st = false →
            Does (.ppsInEdge wide) d ((d.modTb (fun t => { t with ppsLast := some st, ppsRun := 0 })).setQual F.TB_STAT_pps_qual false))
        ∧ (d.ppsLate = true →
            Does .ppsInLoss d ((d.modTb (fun t => { t with ppsRun := 0, ppsLast := none })).setQual F.TB_STAT_pps_qual false))
        ∧ (∀ s₀ l, d.tb.irigLast = some (s₀, l) → tai = s₀ + 1 → d.tb.irigRun = 2 → d.tsrc ≠ 2 →
            Does (.irigFrame soy year none) d ((d.modTb (fun t => { t with irigRun := 3, irigLast := some (tai, st) })).setQual F.TB_STAT_irig_qual true))
        ∧ (∀ s₀ l, d.tb.irigLast = some (s₀, l) → tai ≠ s₀ + 1 → d.tsrc ≠ 2 →
            Does (.irigFrame soy year none) d (d.modTb (fun t => { t with irigRun := 1, irigLast := some (tai, st) })))
        ∧ (∀ (o : BitVec 16) (leap : Fin 3) (sec : BitVec 32) (tq : BitVec 4) (e : Dev), d.on R.TB_CTL F.TB_CTL_irig_ext = true →
            Does (.irigFrame soy year none) ((d.modTb (fun t => { t with irigTq := some tq })).setUtc (utcWord o.toNat leap sec.toNat)) e →
            Does (.irigFrame soy year (some (o, leap, sec, tq))) d e)
        ∧ Does .irigMissing d ((d.modTb (fun t => { t with irigRun := 0, irigLast := none })).setQual F.TB_STAT_irig_qual false)
        ∧ (∀ p, d.pt.parent = some p → d.portSt p = 2 → 7 ≤ d.tb.ptpRun →
            let u := (d.modTb (fun t => { t with ptpRun := 8 })).setQual F.TB_STAT_ptp_qual true
            let serve (v : Dev) : Dev := if v.tsrc = 0 && v.srcQual then v.measure off.toInt else v
            Does (.ptpMeasurement off false false none) d (serve u)
              ∧ ∀ (o : BitVec 16) (leap : Fin 3) (sec : BitVec 32),
                  Does (.ptpMeasurement off false false (some (o, leap, sec))) d (serve (u.setUtc (utcWord o.toNat leap sec.toNat))))
        ∧ (∀ p (late : Bool), d.pt.parent = some p → d.portSt p = 2 → d.tsrc ≠ 0 →
            Does (.ptpMeasurement off late true none) d ((d.modTb (fun t => { t with ptpRun := 0 })).setQual F.TB_STAT_ptp_qual false))
        ∧ Does .ptpTimeout d d.ptpDrop)

/-- Station time (R10, R57, R61, R63 to R66): the oldest step moves it from the next whole nanosecond and is counted and recorded, a leap takes effect
on the UTC offset, the tick follows its register, and the pulse output rises and falls. -/
def Obligations.StationTime : Prop :=  ∀ (d : Dev),
    (∀ t x rest, d.tb.steps = (t, x) :: rest → d.tbSt = 1 → d.on R.TB_CTL F.TB_CTL_step_en = true → ∃ e, Does .stepTakesEffect d e
        ∧ e.now = ((d.stepAt t : Int) + x).toNat ∧ e.tb.steps = rest)
      ∧ (∀ y rest, d.tb.steps = y :: rest → d.tbSt ≠ 1 → Does .stepTakesEffect d (d.modTb (fun t => { t with steps := rest })))
      ∧ (let v := d.rget R.TB_UTC
         F.TB_UTC_leap.get v = 1 ∨ F.TB_UTC_leap.get v = 2 → F.TB_UTC_leap_tai.get v ≤ d.taiLow →
          let n := if F.TB_UTC_leap.get v = 1 then F.TB_UTC_utc_offset.get v + 1 else F.TB_UTC_utc_offset.get v + 65535
          let begun := (secOf d.now - (d.taiLow - F.TB_UTC_leap_tai.get v)) * unitsPerSec
          Does .leapTakesEffect d ((d.modTb (fun t => { t with leapAt := some begun, leapDel := F.TB_UTC_leap.get v == 2 })).setUtcAt begun
            (F.TB_UTC_leap.put (F.TB_UTC_utc_offset.put v n) 0)))
      ∧ (∀ t, d.tb.tickSet = some t → secOf t < secOf d.now →
          Does .tickChange d (d.modTb (fun x => { x with tick := d.rd R.TB_TICK F.TB_TICK_tick_exp, tickSet := none })))
      ∧ (d.ppsDriven = true → nsOf d.now = 0 → Does .ppsOutRise d (d.setPps true))
      ∧ (d.tb.ppsRise + msU (d.rd R.TB_PPS F.TB_PPS_pps_width) ≤ d.now → Does .ppsOutFall d (d.setPps false))

/-- R11: the short stamp of an instant is its station time truncated: the low 24 bits of the seconds, the nanoseconds, and the top two bits
of the fraction; the seconds field wraps every 16,777,216 s. -/
def Obligations.ShortStamp : Prop :=  (∀ t : Nat, t < 2 ^ 48 * unitsPerSec →
      let w := time96 t
      let x := stampOf t
      x < 2 ^ 56 ∧ bitsOf x 32 24 = bitsOf w 48 24 ∧ bitsOf x 2 30 = bitsOf w 16 30 ∧ bitsOf x 0 2 = bitsOf w 14 2
        ∧ stampOf (t + 16777216 * unitsPerSec) = x)
    ∧ (let t := 0x00006A3F1C20 * unitsPerSec + nsU 500000000 + 0xC000
       bitsOf (stampOf t) 32 24 = 0x3F1C20 ∧ bitsOf (stampOf t) 2 30 = 500000000 ∧ bitsOf (stampOf t) 0 2 = 3)

/-! ## Power, background work, relief -/

/-- Power (R433 to R451): the fall, dip and return of VMAIN, the charged and the low store, the loss of VKEEP, a domain's ramp, and the
thermal step and trip. In LULL a fall changes nothing more; from DOWN only a cold reset leads.

SHED ends in LULL and RESTORE ends in RUN (R439 to R443): the domains that Lull does not keep go off, the ramp list empties, and the
power state, the device state and the lull alarm follow. -/
def Obligations.PowerAndLull : Prop :=
  (∀ (d : Dev) (dom : Fin 50) (isl : Fin 100),
      let mode := d.powerMode
      let lull := d.devState ≠ 0 ∧ d.on R.PW_LSTAT F.PW_LSTAT_lull_en = true
      let trips := d.rd R.PW_TLIM F.PW_TLIM_trip_cnt
      (mode = 0 → lull → Does .vmainFall d d.shed)
        ∧ (mode = 0 → ¬lull → Does .vmainFall d d.enterDown)
        ∧ (mode = 3 → Does .vmainFall d d.shed)
        ∧ (mode ≠ 4 → Does .vmainDip d (({ d with bo := { d.bo with vmain := true } } : Dev).inc R.PW_LSTAT F.PW_LSTAT_dip_cnt))
        ∧ (mode = 2 → d.lullAtEnd ≤ d.now → ∃ e, Does .vmainRise d e ∧ e.bo.vmain = true ∧ e.powerMode = 3)
        ∧ (mode = 1 ∨ mode = 2 ∨ mode = 3 → Does .storeLow d d.enterDown)
        ∧ (mode = 0 ∨ mode = 4 → ∃ e, Does .vmainInvalid d e ∧ e.bo.vmain = false ∧ e.powerMode = 4 ∧ ∀ k : Fin 50, e.domSt k = 0)
        ∧ (mode = 1 ∨ mode = 2 ∨ mode = 3 → d.on R.PW_LSTAT F.PW_LSTAT_store_ok = true → d.pw.tripped = false →
            Does .vmainInvalid d { d with bo := { d.bo with vmain := false } })
        ∧ (d.bo.vmain = true → Does .storeCharged d (d.wr R.PW_LSTAT F.PW_LSTAT_store_ok 1))
        ∧ (d.bo.vmain = false → ∃ e, Does .vkeepLoss d e ∧ e.on R.BG_KA F.BG_KA_ka_valid = false ∧ e.rd R.PW_TLIM F.PW_TLIM_trip_cnt = 0
            ∧ e.bg.calSec = 0 ∧ e.bg.poweredS = 0 ∧ e.bg.cycles = 0)
        ∧ (d.domSt dom = 1 → Does (.domainRampDone dom true) d (d.domOn dom).rampGo
            ∧ Does (.domainRampDone dom false) d ((d.wr (R.PW_DOM dom) F.PW_DOM_state 0).wr (R.PW_DOM dom) F.PW_DOM_err 1).rampGo)
        ∧ (∀ lo hi, isleRange isl = some (lo, hi) →
            lo < d.rd (R.CK_ISLSTAT isl) F.CK_ISLSTAT_freq_mhz → (∀ t, d.pw.steps.find isl = some t → t + msU 1 ≤ d.now) →
            let f := (d.rd (R.CK_ISLSTAT isl) F.CK_ISLSTAT_freq_mhz - 50).max lo
            let u : Dev := { d with pw := { d.pw with steps := d.pw.steps.put isl d.now } }
            Does (.thermalStep isl) d (((u.isleClamp isl f).event 0x43 isl f).alarmOnce F.RL_ALARM_thermal))
        ∧ (mode ≠ 4 → trips < 65535 → Does .thermalTrip d
            (((({ d.wr R.PW_TLIM F.PW_TLIM_trip_cnt (trips + 1) with pw := { d.pw with tripped := true } } : Dev).out (.pin pinFaultN false)).tally
              0x0F07 0 []).enterDown)))
    ∧ (∀ (d : Dev),
      (d.powerMode = 1 →
          let stay := d.lullDoms
          let u : Dev := { d with pw := { d.pw with ramp := [] } }
          let u := (List.range 50).foldl (fun d k => if stay.contains k then d else d.domOff k) u
          let u := u.wrIf (u.domSt 46 == 2) (R.PW_DOM 46) F.PW_DOM_state 3
          let u := u.pw.lullGals.foldl (fun d g => d.isleClamp g 600) u
          let u := ((((u.isleClamp 86 200).isleClamp 87 200).lullLink).setPower 2).showState 2
          Does .shedComplete d
            (((({ u with pw := { u.pw with lullAt := u.now } } : Dev).alarm F.RL_ALARM_lull true).galAlarms).tally 0x0F06 0 [2]))
        ∧ (d.powerMode = 3 → d.pw.run.all (fun k => d.domSt k == 2 || d.domSt k == 4) = true →
            ∃ e u : Dev, Does .restoreComplete d e ∧ e = ((((u.phasorAll.setPower 0).showState 1).alarm F.RL_ALARM_lull false).galAlarms).tally 0x0F06 0 [0]
              ∧ e.powerMode = 0))

/-- Background work (R470, R471, R482): what a scrub read finds is counted and repaired by the block it concerns, a pass that runs late is
counted and recorded, the oscillator takes its correction and a bad sensor is noted, ageing sets margins. -/
def Obligations.ScrubAndCalibration : Prop :=  ∀ (d : Dev) (g : Fin 26) (mem : Fin 3) (core : Fin 8) (w : Fin 524288) (ecc : MemEcc) (region : Fin 9) (i : Fin 32768) (q : Fin 33554432)
    (temp off : Int) (isl : Fin 100) (slow : List (Fin 100 × Fin 10001)) (area : Fin 4) (pt : Fin 32) (u : Upset),
    let a := galWord g mem core w
    let swept := (d.scrubEcc ecc).galEcc g ecc
    (d.on R.BG_CFG F.BG_CFG_sram_en = true → d.domSt g = 2 → Does (.scrubStep (.gallery g mem core w ecc)) d
        (if ecc = .lost then swept.markWord g a else swept))
      ∧ (d.on R.BG_CFG F.BG_CFG_sram_en = true → ecc = .lost → Does (.scrubStep (.overman ecc)) d ((d.scrubEcc ecc).omTakeover 2))
      ∧ (d.on R.BG_CFG F.BG_CFG_table_en = true → Does (.scrubStep (.rule i true)) d ((d.ruleRepair i).scrubbed true)
          ∧ Does (.scrubStep (.template ecc)) d (d.scrubEcc ecc))
      ∧ (d.on R.BG_CFG F.BG_CFG_lode_en = true → d.domSt (42 + quadOf (q.val / 4)) = 2 → d.quadFenced (quadOf (q.val / 4)) = false →
          Does (.scrubStep (.lode q .corrected)) d ((d.lodeCorrected (q.val / 4)).scrubbed false)
            ∧ Does (.scrubStep (.lode q .lost)) d ((d.scrapWay q).scrubbed true))
      ∧ (d.on R.BG_CFG F.BG_CFG_nor_en = true → Does (.scrubStep (.nor area true)) d
          (((d.scrubbed true).wr R.BG_SCRUB F.BG_SCRUB_nor_bad 1).tally 0x1002 7 [area]))
      ∧ Does (.scrubStep (.paired pt true)) d (((d.scrubbed true).tally 0x0012 0 [(R.PT_TSDLY pt).addr]).alarmOnce F.RL_ALARM_cmpl)
      ∧ Does (.scrubStep (.elsewhere u)) d (d.upsetTable u)
      ∧ Does (.scrubPassLate region) d ((d.inc R.BG_SCRUB F.BG_SCRUB_pass_late).tally 0x1001 region)
      ∧ Does (.calibrationCycle (.ocxo temp)) d
          { (d.ocxoCorrection temp).2 with tb := { (d.ocxoCorrection temp).2.tb with ocxo := (d.ocxoCorrection temp).1 } }
      ∧ (80 < off.natAbs → d.bg.badSensors.contains isl.val = false → Does (.calibrationCycle (.sensor isl off)) d
          (d.modBg (fun b => { b with badSensors := b.badSensors ++ [isl.val] })))
      ∧ (d.policyOn 6 = false → ∃ e, Does (.ageingMeasure slow) d e
          ∧ e.rd R.BG_AGE F.BG_AGE_slow_max = min (((slow.filter (fun x => (isleRange x.1).isSome)).map (fun x => x.2.val)).foldl max 0) 0xFFF
          ∧ ∀ r : Reg, r.addr ≠ R.BG_AGE.addr → e.rget r = d.rget r)

/-- The policies of R475 to R481: stress accrues, a rotation swaps the most and the least stressed gallery, and the thermal, refresh and freeze
policies step their parameter or set it back.

Telemetry, calendar and ledger (R472 to R474, R483 to R485). -/
def Obligations.PoliciesAndLedger : Prop :=
  (∀ (d : Dev) (g : Fin 26) (pw : Fin 65537) (tj : Fin 4096) (t : Int) (count o r : Nat) (p : Fin 4),
      let soft : Int := (d.policyParam 0 % 256 : Nat)
      let f := d.rd (R.CK_ISLCFG g) F.CK_ISLCFG_freq_req
      let c := d.rd R.SM_CFG F.SM_CFG_dbl_c
      let h := d.rd (R.ST_MOVE p) F.ST_MOVE_hold_ms
      let top := (4 * (d.bg.holdSet.get none p).getD (F.ST_MOVE_hold_ms.get (R.ST_MOVE p).reset)).min 65535
      let so := d.bg.stress.get 0 o
      let sr := d.bg.stress.get 0 r
      let cooled := (d.stepMade 4).modBg (fun b => { b with coolHours := 0 })
      Does (.stressAccrue g pw tj) d (d.modBg (fun b => { b with stress := b.stress.upd 0 g (· + stressGain pw ((tj.val : Int) - 1024)) }))
        ∧ (d.policyOn 0 = true → soft * 16 ≤ t → 600 < f → d.stepDue (16 + g) (msU 100) = true →
            Does (.thermalPolicyStep g t) d ((d.stepMade (16 + g)).freqPolicy g ((f - 50).max 600)))
        ∧ (d.policyOn 0 = true → t < (soft - 5) * 16 → f < d.freqWritten g → d.stepDue (16 + g) unitsPerSec = true →
            Does (.thermalPolicyStep g t) d ((d.stepMade (16 + g)).freqPolicy g ((f + 50).min (d.freqWritten g))))
        ∧ (d.policyOn 4 = true → d.stepDue 4 (3600 * unitsPerSec) = true → d.policyParam 4 % 2 ^ 16 < count → 70 < c →
            Does (.refreshPolicyStep count) d ((cooled.wr R.SM_CFG F.SM_CFG_dbl_c ((c - 5).max 70)).policyChange 4 ((c - 5).max 70) 0))
        ∧ (d.policyOn 5 = true → d.stepDue (8 + p) (60 * unitsPerSec) = true → d.policyParam 5 % 256 < count → top ≠ h →
            let u := (d.stepMade (8 + p)).modBg (fun b => { b with quiet := b.quiet.set 0 p 0 })
            Does (.freezePolicyStep p count) d ((u.wr (R.ST_MOVE p) F.ST_MOVE_hold_ms top).policyChange 5 top p))
        ∧ (d.policyOn 1 = true → d.tkBusy = false → d.on R.RL_FORCE F.RL_FORCE_busy = false → d.rl.queue = [] → bitAt (d.policyParam 1) 16 = true →
            d.byStress (fun a b => b < a) d.activeGals = some o →
            d.byStress (fun a b => a < b) ((List.range 26).filter (fun g => d.inRelief g && d.galState g == 2)) = some r →
            so.max sr ≤ 100 * (so.max sr - so.min sr) → sr < so → d.stepDue 1 (d.policyParam 1 % 2 ^ 16 * 3600 * unitsPerSec) = true →
            Does .rotationStep d ((d.stepMade 1).swapStart o r 7)))
    ∧ (∀ (d : Dev) (vmon : Word64) (therm : Word32) (rest : List Byte),
      let t := toSigned 16 (therm.toNat / 2 ^ 16)
      let u := (d.rset R.PW_VMON vmon).rset R.PW_THERM (BitVec.ofNat 64 therm.toNat)
      let set := d.tbSt = 2 ∨ d.tbSt = 3
      let seq := d.bg.ledgerSeq + 1
      let a := ledgerAddr seq
      Does (.telemetrySnapshot vmon therm rest) d ((u.modBg (fun b =>
          { b with snapshot := leBytes 8 vmon.toNat ++ leBytes 4 therm.toNat ++ rest, hourSum := b.hourSum + t, hourN := b.hourN + 1 })).cycleDetect t)
        ∧ (d.bo.vmain = false → Does .calendarSecond d (d.modBg (fun b => { b with calSec := (b.calSec + 1) % 2 ^ 48 })))
        ∧ (d.bo.vmain = true → (d.bg.poweredS + 1) % 3600 ≠ 0 → ∃ e, Does .calendarSecond d e ∧ e.bg.poweredS = d.bg.poweredS + 1
            ∧ (set → e.bg.calSec = secOf d.now % 2 ^ 48 ∧ e.bg.calTick = 0) ∧ (¬set → e.bg.calSec = (d.bg.calSec + 1) % 2 ^ 48))
        ∧ (d.bg.ledgerDue = true → d.powerMode ≠ 4 →
            let v := if seq % 256 = 0 then d.wipe a (a + 65536) else d
            let bs := v.ledgerBytes seq
            Does .ledgerWrite d ((v.put a (bs ++ leBytes 4 (crc32c bs))).modBg (fun b => { b with ledgerDue := false, ledgerSeq := seq }))))

/-- Relief (R398 to R425): a unit is fenced, a copy that fails its check, a gallery is taken over or its load shared out, a swap ends, a
supply phase is shed, a lasting alarm cause expires, and the failures of the islands and of the third core. -/
def Obligations.ReliefCommands : Prop :=  ∀ (d : Dev) (isl : Fin 100) (rail : Fin 6) (b : Fin 16),
    let n := d.rd R.RL_PHASE (phaseFld rail)
    (∀ r rest, d.rl.detected = r :: rest →
        let u : Dev := { d with rl := { d.rl with detected := rest } }
        Does .unitFence d (u.fenceUnit r).tkFence
          ∧ (r.kind = 4 → r.unit < 34 → d.isleFenced r.unit = false →
              Does .unitFence d (({ u with rl := { u.rl with isles := u.rl.isles ++ [r.unit] } } : Dev).alarm F.RL_ALARM_unit true).tkFence))
      ∧ (∀ r g, d.rd R.RL_TKSTAT F.RL_TKSTAT_step = 3 → d.rl.cur = some r → d.reliefGal = some g →
          Does .galleryTakeover d (d.takeOver r.unit g).tkIdle)
      ∧ (∀ r, d.rd R.RL_TKSTAT F.RL_TKSTAT_step = 3 → d.rl.cur = some r → d.reliefGal = none →
          Does .galleryTakeover d ((d.shareOut r.unit).galAlarms).tkIdle)
      ∧ (∀ o, d.rl.swapOld = some o → d.affinityDone o = true →
          let r := d.rd R.RL_TKSTAT F.RL_TKSTAT_relief
          let u := (((d.copyMem (sharedAddr o 0x100000) (sharedAddr r 0x100000) 0x100000).loadAs o r).rewriteMaps o r)
          let one := if u.rl.cur.any (fun c => c.cause == 7) then 1 else 0
          let u : Dev := { u with rl := { u.rl with swapOld := none, leaving := u.rl.leaving ++ [o] }
                                  bg := { u.bg with ledgerDue := true, rotations := u.bg.rotations + one } }
          let u := (((u.event 0x42 o 1).tkDur).tkCount F.RL_CNT_gal).phasorMoves o
          Does .swapDrainDone d (u.wr R.RL_FORCE F.RL_FORCE_busy 0).tkIdle.leaveCheck)
      ∧ (∀ g, d.rl.swapOld = none → d.rl.leaving = [g] → d.slotsUsed g = 0 →
          let u := (d.setGalState g 2).setRelief g true
          Does .swapDrainDone d (({ u with rl := { u.rl with leaving := [] }, bg := { u.bg with ledgerDue := true } } : Dev).galAlarms))
      ∧ Does (.phaseShed rail [] false) d
          ((d.wr R.RL_PHASE (phaseFld rail) ((n + 1).min (phaseMax rail))).alarm F.RL_ALARM_phase true)
      ∧ (∀ t, d.rl.lastAlarm.get none b = some t → t + 60 * unitsPerSec ≤ d.now → Does (.alarmCauseExpiry b) d
          (({ d with rl := { d.rl with lastAlarm := d.rl.lastAlarm.set none b none } } : Dev).alarm (alarmFld b) false))
      ∧ Does .coreCFailure d d.coreCFails
      ∧ (d.cg.om ≠ 1 → d.on R.RL_FENCE F.RL_FENCE_om_ab = false →
          Does .coreCFailure d ((d.wr R.RL_FENCE F.RL_FENCE_om_c 1).alarm F.RL_ALARM_unit true))
      ∧ Does (.pllLockLoss isl) d ((d.wr (R.CK_ISLSTAT isl) F.CK_ISLSTAT_lock 0).islandFault isl 2)
      ∧ Does (.selfCheckFail (.island isl)) d (d.islandFault isl 4)

/-- R405: a copy of Draught's admission logic or of the Token board that fails its check is fenced and the other goes on, with nothing
else of the device changed; when both copies have failed, that is a device fault with cause central. -/
def Obligations.SelfCheckedCopies : Prop :=  ∀ d : Dev,
    (d.rl.draughtLost = 0 → Does (.selfCheckFail .draughtCopy) d { d with rl := { d.rl with draughtLost := 1 } })
      ∧ (d.rl.tokenLost = 0 → Does (.selfCheckFail .tokenCopy) d { d with rl := { d.rl with tokenLost := 1 } })
      ∧ (d.rl.draughtLost ≠ 0 → Does (.selfCheckFail .draughtCopy) d
          (({ d with rl := { d.rl with draughtLost := 2 } } : Dev).deviceFault F.RL_FAULT_central))
      ∧ (d.rl.tokenLost ≠ 0 → Does (.selfCheckFail .tokenCopy) d
          (({ d with rl := { d.rl with tokenLost := 2 } } : Dev).deviceFault F.RL_FAULT_central))

/-! ## Seam, Lode, the tables, Phasor -/

/-- Seam (R382 to R397): refresh, temperature and the doubling of refresh, tracking, neighbour refreshes, the credit window, a granted slot,
the end of sparing and an abrupt channel failure. -/
def Obligations.SeamCommands : Prop :=  ∀ (d : Dev) (c : Fin 5) (hot : Bool) (therm : Int) (width : Fin 256) (dev : Fin 18) (moved : Nat) (log : Fin 4),
    let st := d.smState c
    let n := d.sm.refs.get 0 c + 1
    let open_ := d.sm.opened.filter (fun e => d.smPhys (e.1 / 16) != c.val)
    let chst := R.SM_CHSTAT c
    let polled := d.wr chst F.SM_CHSTAT_temp_c (ofSigned 8 therm)
    let thr : Int := polled.rd R.SM_CFG F.SM_CFG_dbl_c
    let cool (k : Option Nat) : Dev := { polled with sm := { polled.sm with cool := polled.sm.cool.set none c k } }
    let tracked : Dev := { d.wr chst F.SM_CHSTAT_margin width with sm := { d.sm with steps := d.sm.steps.upd 0 c (· + moved) } }
    (st = 2 ∨ st = 3 → n < 8192 → Does (.refresh c) d { d with sm := { d.sm with refs := d.sm.refs.set 0 c n, opened := open_ } })
      ∧ (st = 2 ∨ st = 3 → 8192 ≤ n → Does (.refresh c) d { d with sm := { d.sm with
          refs := d.sm.refs.set 0 c 0, opened := open_, acts := d.sm.acts.filter (fun e => d.smPhys (e.1 / 16) != c.val) } })
      ∧ (st ≠ 0 → st ≠ 4 → hot = true ∨ thr ≤ therm → Does (.tempPoll c hot therm) d ((cool none).wr chst F.SM_CHSTAT_dbl 1))
      ∧ (st ≠ 0 → st ≠ 4 → hot = false → therm < thr - 3 → polled.on chst F.SM_CHSTAT_dbl = true → d.sm.cool.get none c = none →
          Does (.tempPoll c hot therm) d (cool (some d.now)))
      ∧ (∀ t, st ≠ 0 → st ≠ 4 → hot = false → therm < thr - 3 → polled.on chst F.SM_CHSTAT_dbl = true → d.sm.cool.get none c = some t →
          t + unitsPerSec ≤ d.now → Does (.tempPoll c hot therm) d ((cool none).wr chst F.SM_CHSTAT_dbl 0))
      ∧ (st = 2 ∨ st = 3 → d.on R.SM_CFG F.SM_CFG_track_en = true → 64 ≤ width.val * 5 → Does (.trackingStep c width dev moved) d tracked)
      ∧ (st = 2 ∨ st = 3 → d.on R.SM_CFG F.SM_CFG_track_en = true → width.val * 5 < 64 → tracked.devMarked c dev = false →
          Does (.trackingStep c width dev moved) d (tracked.markDevice c dev))
      ∧ (∀ x rest, d.sm.nq.get [] log = x :: rest → Does (.neighbourRefresh log) d ((d.setNq log rest).inc R.SM_RDSTAT F.SM_RDSTAT_nr_issued))
      ∧ (d.now / usU 10 ≠ d.sm.window →
          Does .creditWindow d { d.copyOn with sm := { d.copyOn.sm with used := [], window := d.now / usU 10 } })
      ∧ (∀ r, d.smPick log = some r → r.stale = true →
          let rest := (d.sm.reqs.erase r).map (fun x => if x.chan = r.chan then { x with wait := x.wait + 1 } else x)
          Does (.slotGrant log .good) d (({ d with sm := { d.sm with reqs := rest } } : Dev).inc (R.SM_AGCFG r.agent) F.SM_AGCFG_stale))
      ∧ (∀ r, d.smPick log = some r → r.stale = false →
          let rest := (d.sm.reqs.erase r).map (fun x => if x.chan = r.chan then { x with wait := x.wait + 1 } else x)
          let u := ({ d with sm := { d.sm with reqs := rest } } : Dev).markHigh (R.SM_AGCFG r.agent) F.SM_AGCFG_wait_max (r.wait.min 65535)
          let u := u.inc (R.SM_AGCNT r.agent) F.SM_AGCNT_bursts
          let u := ({ u with sm := { u.sm with used := u.sm.used.upd 0 (r.agent * 4 + r.chan) (· + 1) } } : Dev).activate r.agent r.burst
          Does (.slotGrant log .good) d u ∧ Does (.slotGrant log (.corrected dev)) d (u.smCorrected (u.smPhys r.chan) dev r.burst)
            ∧ Does (.slotGrant log (.lost dev)) d (u.smLost (u.smPhys r.chan) dev r.burst))
      ∧ (∀ l sp cmd, d.sm.sparing = some (l, sp, cmd) → l < 4 → sp < 5 → d.rl.queue = [] → d.rl.beyond = [] →
          ∃ e, Does .sparingComplete d e ∧ e.sm.sparing = none ∧ e.smPhys l = sp ∧ e.smState sp = 2)
      ∧ Does (.channelAbruptFail c) d (d.abruptFail c)

/-- Lode's functions at the software port (R214 to R255): each runs on the argument block of the port, on the record that it names or that
holds its key, and answers there: the status word, the record and its extension go into the window and the port is free again.

Lode's own work (R240 to R265): a displacement goes on, a watch expires, the sweep visits a bucket, an export is written or lost, a repair
steps on, an anomaly is forwarded and the ages follow their policy. -/
def Obligations.Lode : Prop :=
  (∀ (d : Dev) (i : Nat),
      let a := leNat (d.bytes swWin 32)
      let q := quadOf (bucketsOf a).1
      let v := d.dropKick .port
      let r := v.lrec i
      let op := LA.operand a
      let fld : BF := ⟨256 + 32 * LA.field a, if LA.w64 a then 64 else 32⟩
      -- the port was started with the function, and nothing holds it up
      let ready (fn : Nat) : Prop := d.on R.LD_SWCMD F.LD_SWCMD_busy = true ∧ d.rd R.LD_SWCMD F.LD_SWCMD_fn = fn ∧ d.swHeld = false
        ∧ d.on R.LD_CFG F.LD_CFG_en = true ∧ lodeBad fn a = false ∧ d.quadFenced q = false ∧ d.kickFailed .port = false ∧ d.kickWaits .port = false
      let twoFenced := d.quadFenced (quadOf (bucketsOf a).2)
      let found := (d.findIn (bucketsOf a).1 (LA.kind a) (LA.key a)).or
        (if twoFenced then none else d.findIn (bucketsOf a).2 (LA.kind a) (LA.key a))
      -- the record that holds the key
      let hit (fn : Nat) : Prop := ready fn ∧ LA.idx a = false ∧ found = some i
      let named (fn : Nat) : Prop := ready fn ∧ LA.idx a = true ∧ LA.index a = i
      let answer (x : LRes × Dev) : Dev :=
        let u := x.2.countOp q x.1
        let u := (u.put swWin (leBytes 4 x.1.word)).put (swWin + 32) (leBytes 64 x.1.r.toNat)
        let u := if d.on R.LD_SWCMD F.LD_SWCMD_pair_out then u.put (swWin + 96) (leBytes 64 x.1.ext.toNat) else u
        (u.wr R.LD_SWCMD F.LD_SWCMD_status x.1.status).wr R.LD_SWCMD F.LD_SWCMD_busy 0
      let done (j : Judged) : Dev := answer (v.applyDone i (L.kind.get r) 0 j)
      (hit 0 → Does (.lookup none) d (done { r := r }))
        ∧ (hit 1 → Does (.insert none) d (done { r := r }))
        ∧ (ready 1 → LA.idx a = false → found = none → twoFenced = false →
            (if LA.pair a then d.placePair (bucketsOf a).1 (bucketsOf a).2 else d.placeSingle (bucketsOf a).1 (bucketsOf a).2) = some i →
            Does (.insert none) d (answer (v.insertAt 1 a i)))
        ∧ (hit 2 → Does (.lodeAdd none) d (done { r := fld.put r (fld.get r + op) }))
        ∧ (hit 3 → L.kind.get r = 0x43 → (L.armed.get r = 0 ∨ L.idle.get r = 0) → (supGoose r op).verdict ≠ 4 →
            let j := supGoose r op
            Does (.supv none) d (done { j with r := L.expired.put (L.armed.put (L.deadline.put j.r (msTime d.now + supTime j.r)) 1) 0, arms := true }))
        ∧ (hit 4 → Does (.lodeMax none) d (done { r := fld.put r ((fld.get r).max (op % 2 ^ fld.w)) }))
        ∧ (hit 5 → Does (.cas none) d (done (if fld.get r = bitsOf op 0 32 then { r := fld.put r (bitsOf op 32 32) } else { r := r, verdict := 9 })))
        ∧ (hit 6 → L.kind.get r = 0x40 → Does (.seq none) d (done (seqDiscard r
            (L.idle.get r == 1 || d.rd (R.LD_KIND 0x40) F.LD_KIND_forget_ms ≤ d.msSince r) (op % 2 ^ 16))))
        ∧ (hit 7 → Does (.delete none) d (answer (v.applyDelete i 0 r)))
        ∧ (hit 8 → Does (.gen none) d (done { r := satAdd (L.payload 1) (BF.put ⟨256, 16⟩ r (BF.get ⟨256, 16⟩ r + 1)) 1 }))
        ∧ (named 9 → Does (.rdx none) d
            (answer ({ status := 0, idx := i, r := d.lrec i, ext := if L.pair.get (d.lrec i) = 1 then d.lrec (i + 1) else 0 }, d)))
        ∧ (named 10 → Does (.wrx none) d (answer (d.wrx i (BitVec.ofNat 512 (d.load (swWin + 32) 64)))))
        ∧ (∀ c : Fin 33554432, hit 0 → c.val = i → Does (.lookup (some (c, false))) d (answer ({ status := 3, idx := i }, v.scrapWay i))))
    ∧ (∀ (d : Dev) (n : Fin 1024) (slot : Fin 65536) (k : Fin 1049600),
      let b := d.ld.sweepAt
      let r := R.LD_REPAIR ((if 2 ^ 20 ≤ k.val then k.val - 2 ^ 20 else k.val / 1024) % 4)
      let ways := if k.val < 2 ^ 20 then 8 else 8192
      let ring := ringRecs (d.rd R.LD_EXPRING F.LD_EXPRING_size_log2) 128
      let w := d.rd R.LD_EXPIDX F.LD_EXPIDX_wr_idx
      (∀ x a b' rest, d.ld.kicks[n.val]? = some x → x.moves = (a, b') :: rest → d.wayFree b' = true → d.movableRec a = true →
          d.otherBucket a = b' / 4 → L.kind.get (d.lrec a) ≠ 0x43 → L.kind.get (d.lrec a) ≠ 0x44 →
          let u := (d.setRec a 0).setRec b' (d.lrec a)
          Does (.displacementMove n) d
            { u with ld := { u.ld with kicks := u.ld.kicks.map (fun y => if y.who = x.who then { x with moves := rest } else y) } })
        ∧ (∀ i dl, d.on R.LD_CFG F.LD_CFG_watch_en = true → d.ld.watch.find slot = some (i, dl) → (msTime d.now + 2 ^ 24 - dl) % 2 ^ 24 < 2 ^ 23 →
            Does (.watchExpiry slot) d ((d.expireRec i (d.lrec i)).2.lput i (d.expireRec i (d.lrec i)).1))
        ∧ (b + 1 < 2 ^ 23 → d.quadFenced (quadOf b) = false →
            let u := (List.range 4).foldl (fun d w => d.sweepWay (b * 4 + w)) (d.flushTurn b)
            Does .lodeSweepVisit d { u with ld := { u.ld with sweepAt := b + 1 } })
        ∧ (∀ e rest, d.ld.exports = e :: rest → d.on R.LD_EXPRING F.LD_EXPRING_en = true →
            (w + 2 ^ 32 - d.rd R.LD_EXPIDX F.LD_EXPIDX_rd_idx) % 2 ^ 32 ≠ ring →
            let u := ({ d with ld := { d.ld with exports := rest } } : Dev).smWrite 4 (d.rd R.LD_EXPRING F.LD_EXPRING_base * 4096 + w % ring * 128) e
            Does .exportWrite d (if u.1 then (u.2.wr R.LD_EXPIDX F.LD_EXPIDX_wr_idx ((w + 1) % 2 ^ 32)).inc R.LD_EXPSTAT F.LD_EXPSTAT_exported
              else u.2.inc R.LD_EXPSTAT F.LD_EXPSTAT_lost))
        ∧ (∀ e rest, d.ld.exports = e :: rest → d.on R.LD_EXPRING F.LD_EXPRING_en = false →
            Does .exportWrite d (({ d with ld := { d.ld with exports := rest } } : Dev).inc R.LD_EXPSTAT F.LD_EXPSTAT_lost))
        ∧ (∀ m, d.ld.repairs.get none k = some m → m + 1 < ways →
            Does (.repairStep k) d { d with ld := { d.ld with repairs := d.ld.repairs.set none k (some (m + 1)) } })
        ∧ (∀ m, d.ld.repairs.get none k = some m → ways ≤ m + 1 → ∃ e, Does (.repairStep k) d e ∧ e.ld.repairs = d.ld.repairs.set none k none
            ∧ (2 ^ 20 ≤ k.val → e.rd r F.LD_REPAIR_banks_left = d.rd r F.LD_REPAIR_banks_left - 1)
            ∧ (k.val < 2 ^ 20 → e.rd r F.LD_REPAIR_rows_left = d.rd r F.LD_REPAIR_rows_left - 1))
        ∧ (∀ e rest, d.ld.anoms = e :: rest → ∃ u, Does .anomalyDrain d u ∧ u.ld.anoms = rest
            ∧ u.ld.fwd = (if 16384 ≤ d.ld.fwd.length then d.ld.fwd else d.ld.fwd ++ [e]) ∧ u.rd R.LD_ANSTAT F.LD_ANSTAT_depth = rest.length % 2 ^ F.LD_ANSTAT_depth.w)
        ∧ Does .agePolicyStep d ((List.range 16).foldl Dev.agePolicy d)
        ∧ (∀ c : Fin 16, let x := R.LD_TMO c
            let lim := d.rd x F.LD_TMO_limit
            d.policyOn 3 = true → d.on x F.LD_TMO_adapt = true → (∀ c' : Fin 16, c' ≠ c → d.on (R.LD_TMO c') F.LD_TMO_adapt = false) →
            4 * 33554432 < 5 * d.rd R.LD_OCC F.LD_OCC_occ → d.rd x F.LD_TMO_floor < lim →
            Does .agePolicyStep d ((d.wr x F.LD_TMO_limit (lim - 1)).policyChange 3 (lim - 1) c)))

/-- The station and stream tables (R104 to R125): a learned entry goes in while the table is not locked, the sweep visits an entry and moves
on, a DMA ends, a lock times out, and a clear ends. -/
def Obligations.TableCommands : Prop :=  ∀ (d : Dev) (p : Fin 4) (l : Learn) (rest : List Learn),
    let i := d.st.sweepAt.get 0 p
    (d.st.learnQ.get [] p = l :: rest → d.tblLocked p = false →
        let u : Dev := { d with st := { d.st with learnQ := d.st.learnQ.set [] p rest } }
        let v := u.stRepairSet p (stSet l.mac l.fid)
        Does (.learnApply p) d (u.learnApply p l)
          ∧ ∀ w, v.stFind p l.mac l.fid = none → v.stFree p (stSet l.mac l.fid) = some w →
              let e := SE.valid.put (SE.port.put (SE.queue.put (SE.fid.put (SE.mac.put 0 l.mac) l.fid) l.tclass) l.port) 1
              Does (.learnApply p) d ((v.setStation p w (seSeal e)).inc (R.ST_PCNT p) F.ST_PCNT_learned))
      ∧ (d.tblLocked p = false → d.st.clearing = false → Does (.stationSweepVisit p) d
          { d.sweepEntry p i with st := { (d.sweepEntry p i).st with sweepAt := d.st.sweepAt.set 0 p ((i + 1) % 262144) } })
      ∧ Does .stDmaDone d (d.wr R.ST_DMACTL F.ST_DMACTL_busy 0)
      ∧ (d.on R.ST_DMACTL F.ST_DMACTL_lock = true → ∃ e, Does .lockTimeout d e ∧ e.on R.ST_DMACTL F.ST_DMACTL_lock = false
          ∧ e.on R.ST_DMASTAT F.ST_DMASTAT_lock_to = true ∧ e.st.staged = [] ∧ ∀ a, e.byte a = d.byte a)
      ∧ Does .tableClearDone d { d with st := { d.st with clearing := false } }

/-- Phasor (R215 to R233): a window closes at its deadline, a block meets its frame, a due report is sent, a configuration change ends, and
a lost block is written again. -/
def Obligations.PhasorCommands : Prop :=  ∀ (d : Dev) (g : Fin 26) (slot : Fin 1536) (set : Fin 3) (o : Fin 1024) (b : Fin 32768),
    let w := d.blkWord g slot 0
    let x := d.blkWord g slot (3 + set.val)
    let fr := frOf (PB.f60 w) (PB.fr w)
    let dl := deadlineNs w (fullIndex (PS.k x) (nowNs d) fr)
    (d.lull = false → PB.valid w = true → PS.open x = true → fr ≠ 0 → dl < nowNs d ∨ (dl = nowNs d ∧ d.stepWaits g slot = false) →
        Does (.windowDeadline g slot set) d (d.closeWindow g slot set))
      ∧ (∀ y rest, d.lull = false → d.ph.transit = y :: rest → Does .blockArrive d (({ d with ph := { d.ph with transit := rest } } : Dev).blockMeets y))
      ∧ (∀ k, d.dueReport o = some k → Does (.frameEmission o) d (d.emitReport o k))
      ∧ (d.cfgSettled o = true → Does (.cfgChgEnd o) d (d.setCfgChg o false))
      ∧ (∀ c, d.ph.rewrite.contains b.val = true → d.ph.copies.find b = some c → d.on (R.PH_BIND b) F.PH_BIND_valid = true →
          let u : Dev := { d with ph := { d.ph with rewrite := d.ph.rewrite.erase b.val } }
          let at_ := u.bindGallery c
          let v := u.wr (R.PH_BIND b) F.PH_BIND_gallery at_
          ∃ blk : List Byte, Does (.phasorBlockRewrite b) d (v.writeBlock at_ (v.rd (R.PH_BIND b) F.PH_BIND_slot) blk)
            ∧ blk.take 8 = leBytes 8 (withBit (withBit (leNat (c.block.take 8)) 63 true) 62 true))

/-! ## Tally, the debug port, the host -/

/-- Tally (R483 to R497): a record arrives, credit returns to the limits, a suppression record goes in, a chunk is programmed, a block is retired,
and the recorder closes and opens; and the reads of the maintenance bus (R434, R436).

The test access port (R498 to R500): each instruction goes into the instruction register and shifts out what it selects; EXTEST drives the
pins only of an unlocked device, and the debug block turns a write of a locked one away. -/
def Obligations.TallyAndTap : Prop :=
  (∀ (d : Dev) (code : Fin 4864) (b : Fin 4096) (erase : Bool) (torn : Fin 17) (area : Fin 256) (index : Word32),
      (∀ r rest, d.tl.transit = r :: rest → d.tlOpen = true →
          let u := d.modTl (fun t => { t with transit := rest })
          Does .tallyRecord d (u.tallyArrive r) ∧ (tallyProtected r.code = true → r.code ≠ 0x0301 → Does .tallyRecord d (u.tallyTake r)))
        ∧ (∀ c t, d.tl.tokens = [(c, t)] → d.tl.limIn = [] → Does .tallyCredit d (d.creditCode c))
        ∧ Does .tallyCredit d (((d.tl.tokens.map (·.1)) ++ (d.tl.limIn.map (·.1)).filter (fun c => (d.tl.tokens.find c).isNone)).foldl
            (fun d c => d.creditCode c) d)
        ∧ (∀ n f l, d.tl.supp.find code = some (n, f, l) → secOf l < secOf d.now → d.tlOpen = true → Does (.suppressionRecord code) d
            ((d.modTl (fun t => { t with supp := t.supp.del code })).tallyTake
              { code := 0x0001, unit := code, data := timeWords f ++ timeWords l, count := n, time := d.now }))
        ∧ (d.tlOpen = true → Does .chunkProgram d d.tlChunk.tlOverflow)
        ∧ (∀ x rest, d.tlOpen = true → d.tl.queue = x :: rest → rest.length < 16 → d.tl.chunks ≠ 0 → d.tl.chunks < 255 → d.tl.lost = 0 →
            let stop := d.rd R.TL_STAT F.TL_STAT_first_cnt
            Does .chunkProgram d (d.modTl (fun t => { t with
              queue := []
              nand := (x :: rest).foldl (fun m e => m.put e.1 e.2) t.nand
              first := (x :: rest).foldl (fun m e => if e.1 < stop then m.put e.1 e.2 else m) t.first
              held := t.held.put t.block (((t.held.find t.block).map (·.1)).getD x.1, ((x :: rest).getLast (by simp)).1)
              chunks := t.chunks + 1 })))
        ∧ (d.tlOpen = true → d.tl.retired.contains b.val = false → 8 ≤ b.val → b.val ≤ 71 → Does (.blockRetire b erase) d (d.tlRetire b erase))
        ∧ (d.tlOpen = true → d.tl.retired.contains b.val = false → 71 < b.val → d.tl.block = b.val →
            Does (.blockRetire b erase) d ((d.tlRetire b erase).tlAdvance.tlChunk.tlOverflow))
        ∧ (d.rd R.PW_LSTAT F.PW_LSTAT_mode = 4 → d.tlOpen = true → ∃ e, Does .tallyClose d e ∧ e.on R.TL_STAT F.TL_STAT_open = false
            ∧ ∀ k : Fin 50, e.domSt k = 0)
        ∧ (d.rd R.SY_BOOT F.SY_BOOT_stage = 1 → Does (.tallyOpen torn) d (d.tallyOpen torn))
        ∧ (d.rd R.SY_BOOT F.SY_BOOT_stage = 1 → d.tlOpen = false → d.tl.lossy = false → d.tl.chunks < 256 →
            let last := (d.tl.nand.getLast?).map (fun e => bitsOf e.2.toNat 144 16)
            Does (.tallyOpen torn) d ((((d.wr R.TL_STAT F.TL_STAT_open 1).inc R.TL_LOST F.TL_LOST_torn 0).modTl (fun t => { t with lossy := true })).tallyTake
              { code := 0x0002, data := [b2n (last == some 0x0003), 0], time := d.now }))
        ∧ (d.smbUp = true →
            Does .smbStatusRead d (d.out (.smb (leBytes 4 (d.rget R.RL_FAULT).toNat ++ leBytes 4 (d.rget R.RL_ALARM).toNat
              ++ [BitVec.ofNat 8 d.devState, BitVec.ofNat 8 (d.rd R.PW_LSTAT F.PW_LSTAT_mode)] ++ leBytes 4 (d.rget R.SY_IDENT).toNat ++ [0, 0])))
            ∧ Does (.smbPointerWrite area index) d (d.modTl (fun t => { t with ptr := (area, index.toNat) }))
            ∧ (∀ r, d.tl.ptr.1 ≤ 1 → d.tallyAt d.tl.ptr.1 d.tl.ptr.2 = some r → Does .smbRecordRead d
              ((d.out (.smb (leBytes 64 r.toNat))).modTl (fun t => { t with ptr := (d.tl.ptr.1, (d.tl.ptr.2 + 1) % 2 ^ 32) })))
            ∧ Does .smbCountRead d (d.out (.smb (leBytes 4 (d.rd R.TL_STAT F.TL_STAT_first_cnt) ++ leBytes 4 (d.rd R.TL_STAT F.TL_STAT_next_idx)
              ++ leBytes 4 (d.rd R.TL_STAT F.TL_STAT_bad_blk))))))
    ∧ (∀ (d : Dev) (tdi : List Bool) (pins load : BitVec 14) (ok : Bool) (off : Fin 67108864) (data : Word32),
      let shifted (ir n x : Nat) : Dev := (d.setIr ir).out (.tdo (bitsOut n x))
      let unlocked := d.on R.DB_STAT F.DB_STAT_unlocked
      Does (.bypass tdi) d ((d.setIr 0xFF).bypassShift tdi)
        ∧ Does .idcode d (shifted 1 32 0x1321656B)
        ∧ (∃ e, Does (.samplePreload pins load) d e ∧ e.db.boundary = load ∧ e.db.ir = 2 ∧ e.regs = (d.setIr 2).regs)
        ∧ (unlocked = false → Does (.extest load) d ((d.setIr 0xFF).bypassShift (bitsOut 14 load.toNat)))
        ∧ (unlocked = true → ∃ e, Does (.extest load) d e ∧ e.db.boundary = load ∧ e.db.extest = true ∧ e.db.ir = 0
            ∧ .tdo ((List.range 14).map (fun i => bitAt d.db.boundary.toNat i)) ∈ e.outbox)
        ∧ (let x := (d.setIr 0x10).challenge
           Does .challenge d (x.2.out (.tdo (bitsOut 256 x.1 ++ bitsOut 64 Config.serial.toNat))))
        ∧ Does (.unlock ok) d ((d.setIr 0x11).unlockTry ok).2
        ∧ (let u := d.setIr 0x11
           u.nonceStands = true → u.unlockBarred = false → Does (.unlock true) d ((u.nonceEnd.wr R.DB_STAT F.DB_STAT_unlocked 1).tally 0x1201 0 [1])
             ∧ Does (.unlock false) d (u.nonceEnd.wr R.DB_STAT F.DB_STAT_fail_cnt (u.rd R.DB_STAT F.DB_STAT_fail_cnt + 1)))
        ∧ Does .lock d ((d.setIr 0x12).lockDebug)
        ∧ Does (.dbacc false off data) d ((d.setIr 0x20).busRead .tap off 4)
        ∧ ((d.setIr 0x20).on R.DB_STAT F.DB_STAT_unlocked = false → blockOf off = 0x13 →
            Does (.dbacc true off data) d ((d.setIr 0x20).inc R.DB_STAT F.DB_STAT_ref_cnt))
        ∧ ((d.setIr 0x20).on R.DB_STAT F.DB_STAT_unlocked = true →
            Does (.dbacc true off data) d ((d.setIr 0x20).busWrite .tap off 4 (BitVec.ofNat 64 data.toNat) false))
        ∧ (d.nonceStands = false → Does .nonceExpiry d d.nonceEnd)
        ∧ Does .testLogicReset d (d.setIr 1))

/-- The host interface: resets, configuration and protection (R346 to R352, R357 to R360).

The host interface: queue pairs, from the doorbell to the interrupt (R353 to R356): doorbells of functions that may ring, a transmit
descriptor of a good length becomes a frame that asks for its cells, a wrong length goes back with an error, a held frame asks again,
received frames and their watchdog, DMA errors, and messages. -/
def Obligations.HostLinkAndQueues : Prop :=
  (∀ (d : Dev) (fn : Fin 64) (e : Fin 2048) (off n : Nat) (ide : Bool),
      let a := F.HI_BAR2_base.get d.bar2 * 2 ^ 30 + off
      (∃ x, Does .perstNAssert d x ∧ x.hi = { perst := true, bar2 := some ((d.perstClear.wr R.HI_LINK F.HI_LINK_up 0).rget R.HI_BAR2) }
          ∧ x.rd R.HI_LINK F.HI_LINK_up = 0)
        ∧ (d.hi.perst = true → ∃ x, Does .perstNRelease d x ∧ x.hi = { d.hi with perst := false } ∧ x.rd R.HI_LINK F.HI_LINK_up = 1
            ∧ x.mem = d.mem)
        ∧ (d.fnExists fn = true → Does (.flr fn) d (d.flr fn))
        ∧ (d.hi.ide.get 0 fn = 1 → ∃ x, Does (.ideIntegrityFail fn) d x ∧ x.hi.ide.get 0 fn = 2)
        ∧ (d.hi.perst = false → d.fnExists fn = true → e.val < msixSize fn → Does (.msixUnmask fn e) d (d.msixUnmask fn e))
        ∧ (∀ u, d.hi.perst = false → off + n ≤ 2 ^ F.HI_BAR2_size_log2.get d.bar2 → d.ideRefused 0 ide = false → a + n ≤ 2 ^ 37 →
            (∀ bs, d.smRead 2 a n = (.ok bs, u) → Does (.bar2Access off n none false ide) d (u.out (.data 0 (BitVec.ofNat 64 (leNat bs)))))
            ∧ ∀ bs : List Byte, bs.length = n → d.smWrite 2 a bs = (true, u) → Does (.bar2Access off n (some bs) false ide) d u)
        ∧ (d.hi.perst = false → d.fnExists fn = true → Does (.ideKm fn) d (d.modHi (fun h => { h with ide := h.ide.set 0 fn 1 })))
        ∧ (d.hi.perst = false → d.fnExists fn = true → (∀ q : Fin 1024, d.pqQ (hostKey q) = []) → Does (.configurationWrite fn true false none) d
            (d.modHi (fun h => { h with bme := h.bme.set false fn true, d3 := h.d3.set false fn false })))
        ∧ (d.hi.perst = false → off + n ≤ 2 ^ F.HI_BAR2_size_log2.get d.bar2 → d.ideRefused 0 ide = false → a + n ≤ 2 ^ 37 →
            Does (.bar2Access off n none false ide) d (d.bar2Seam a n none))
        ∧ (d.hi.perst = false → off + n ≤ 2 ^ F.HI_BAR2_size_log2.get d.bar2 → d.ideRefused 0 ide = false → 2 ^ 37 < a + n →
            Does (.bar2Access off n none false ide) d (d.bar2Refuse true 0)))
    ∧ (∀ (d : Dev) (by_ fn : Fin 64) (i : Fin 512) (tail : BitVec 16) (wide ide tx : Bool) (q : Fin 1024) (desc : BitVec 192) (data : List Byte)
      (addrs : List (BitVec 64)),
      let low := desc.toNat % 2 ^ 128
      let len := bitsOf low 64 14
      let busy := d.frames.any (fun e => e.2.inPort == 32 && e.2.txQp == q.val && (e.2.stage == .held || (e.2.stage == .wire && e.2.pass == 0)))
      let takes := d.pairDma q = true ∧ d.txSt q = 1 ∧ d.txPosted q ≠ 0 ∧ busy = false
      let body := fit (len.max 60) (fit len data)
      let f : Frame := { stage := .held, row := 8, inPort := 32, pipe := d.txPipe q, data := body ++ leBytes 4 (crc32 body), bodyDone := true, txQp := q
                         txDesc := low }
      let n := d.hi.done.get 0 q
      (d.hostIn by_ ide = true → Does (.txDoorbell by_ fn i tail wide ide) d (d.txDoor by_ fn i tail.toNat wide)
          ∧ Does (.rxDoorbell by_ fn i tail wide ide) d (d.rxDoor by_ fn i tail.toNat wide))
        ∧ (∀ k, d.hostIn fn ide = true → d.pairAt fn i = some k → d.on (R.HI_QCFG k) F.HI_QCFG_tx_en = true →
          Does (.txDoorbell fn fn i tail true ide) d (d.wr (R.HI_QIDX k) F.HI_QIDX_tx_tail (tail.toNat % d.txSize k)))
        ∧ (∀ k, d.hostIn fn ide = true → d.pairAt fn i = some k → d.on (R.HI_QCFG k) F.HI_QCFG_rx_en = true → d.rxSt k = 1 →
          let u := d.wr (R.HI_QIDX k) F.HI_QIDX_rx_tail (tail.toNat % d.rxSize k)
          Does (.rxDoorbell fn fn i tail true ide) d { u with bn := { u.bn with posted := u.bn.posted.set 0 k (u.rxPosted k) } })
        ∧ (takes → 1 ≤ len → len ≤ 16379 → Does (.txDescriptor q desc data) d
            (({ d.setFrame (d.nextFrame + 1) f with nextFrame := d.nextFrame + 1 } : Dev).txCells (d.nextFrame + 1)))
        ∧ (takes → len = 0 ∨ 16379 < len → Does (.txDescriptor q desc data) d ((d.txBack q low 1 0).inc (R.HI_QSTAT q) F.HI_QSTAT_tx_lerr))
        ∧ (∀ h x, d.hi.tried.get 0 q + usU 1 / 10 ≤ d.now →
            d.frames.find? (fun e => e.2.inPort == 32 && e.2.stage == .held && e.2.txQp == q.val) = some (h, x) →
            Does (.txRetry q) d (d.txCells h)
              ∧ ∀ g u v c, d.frames.find h = some g → d.reserve 8 (tagHost g.txQp) ((g.data.length + 255) / 256) true = (true, u) →
                  u.takeChain 8 (tagHost g.txQp) ((g.data.length + 255) / 256) none = (some c, v) →
                  let v := v.fillCells 8 (v.chainOf c) g.data
                  Does (.txRetry q) d (v.setFrame h { g with stage := .wire, cell := some c, stored := g.data.length, pipe := v.txPipe g.txQp }))
        ∧ (∀ k x rest, d.pickPair = some k → d.pqQ (hostKey k) = x :: rest → x.pairsGood = false →
            let u := d.modHi (fun h => { h with served := if h.turn = k then h.served + 1 else 1, turn := k })
            Does (.hostDeliver addrs) d (((((u.setPq (hostKey k) rest).inc R.XC_ERR F.XC_ERR_cmpl_eg).tally 0x0C01 8 [1]).descEnd x).hostHead k
              rest.length))
        ∧ (∀ k x rest, d.pickPair = some k → d.pqQ (hostKey k) = x :: rest → x.pairsGood = true → x.mergedLen ≤ 16383 →
            let u := (d.modHi (fun h => { h with served := if h.turn = k then h.served + 1 else 1, turn := k })).setPq (hostKey k) rest
            60 ≤ (x.cut (u.mergedBytes x)).length →
            let c := u.rxNeed k x
            let j := u.rd (R.HI_QIDX k) F.HI_QIDX_rx_head % u.rxSize k
            let w := rxWrites x (u.rxBuf k) (u.relaxes k) true c (x.cut (u.mergedBytes x)) addrs ((List.range c).map (fun m => u.rxAddr k ((j + m) % u.rxSize k)))
            let v := ((w.1 ++ w.2).foldl Dev.out u).wr (R.HI_QIDX k) F.HI_QIDX_rx_head ((j + c) % u.rxSize k)
            let v : Dev := { v with bn := { v.bn with posted := v.bn.posted.set 0 k (v.rxPosted k) } }
            Does (.hostDeliver addrs) d ((((v.descEnd x).inc (R.HI_QCNT k) F.HI_QCNT_rx_frames).completed k).hostHead k rest.length))
        ∧ (d.rxSt q = 2 → d.hi.starved.get 0 q + msU ((d.rd R.HI_CFG F.HI_CFG_host_wd_ms).max 1) ≤ d.now → Does (.hostWatchdog q) d
            (((d.freeHostQ q F.HI_QSTAT_wd_drop).setRxSt q 3).tally 0x0E01 q [(d.pqQ (hostKey q)).length]))
        ∧ ((if tx then d.txSt q else d.rxSt q) ≠ 0 → (if tx then d.txSt q else d.rxSt q) ≠ 4 → d.pairDma q = true →
            Does (.dmaError q tx) d (d.queueError q tx))
        ∧ (n ≠ 0 → (d.rd (R.HI_QITR q) F.HI_QITR_itr_cnt).max 1 ≤ n → Does (.msixMessage q) d (d.pairMessage q))
        ∧ (n ≠ 0 → d.hi.doneAt.get 0 q + usU (d.rd (R.HI_QITR q) F.HI_QITR_itr_us) ≤ d.now → Does (.itrExpiry q) d (d.pairMessage q)))

/-! ## Registers and areas on the service bus -/

/-- A write that arrives at a register at its width does what the register gives it, and a read shows it and clears its RC fields (R3, R4,
R509); at a register of the debug unit a write counts while debug is locked (R499); without the expert grant only RW and RW1C fields
take effect (R8, R514); a write that needs a gated clock restarts it and is served then (R55); an access the bus does not deliver changes
nothing (R342). -/
def Obligations.RegisterAccess : Prop :=  ∀ (d : Dev) (src : Src) (a : Fin 4296015872) (size : Fin 9) (v : Word64) (id : RegId) (ix : List Nat),
    findReg a = some (id, ix) → areaOf a = none →
    let r := regOf id ix
    let x := d.regRead id ix
    (d.path src a = .go → d.served a = true → size.val = regWidth id → d.dbLocked r.addr = false → id ≠ .PT_TSDLY →
        (d.grantOk src = true ∨ 2 ^ 32 ≤ r.addr) → blockOf r.addr ≠ 0x20 →
        Does (.registerWrite src a size v) d (d.regEffect id ix (d.rget r) (d.eff id ix v) true))
      ∧ (d.path src a = .go → d.served a = true → size.val = regWidth id → d.dbLocked r.addr = false → id ≠ .PT_TSDLY →
        (d.grantOk src = true ∨ 2 ^ 32 ≤ r.addr) → blockOf r.addr = 0x20 →
        Does (.registerWrite src a size v) d (d.glWrite id ix (d.eff id ix v) src))
      ∧ (d.path src a = .go → d.served a = true → size.val = regWidth id → d.dbLocked r.addr = true →
        Does (.registerWrite src a size v) d (d.inc R.DB_STAT F.DB_STAT_ref_cnt))
      ∧ (d.path src a = .go → d.served a = true → size.val = regWidth id → d.dbLocked r.addr = false → id ≠ .PT_TSDLY →
        d.grantOk src = false → r.addr < 2 ^ 32 → ∃ e, Does (.registerWrite src a size v) d e ∧
        ∀ f ∈ (regRow id).flds, f.acc = .xp ∨ f.acc = .xpwo ∨ f.acc = .ro → f.get (e.rget r) = f.get (d.rget r))
      ∧ (∀ e, d.path src a = .go → d.reachable a = true → Does (.registerWrite src a size v) (d.wakeIsles a) e → size.val = regWidth id →
        Does (.registerWrite src a size v) d e)
      ∧ (d.path src a = .none → Does (.registerWrite src a size v) d d)
      ∧ (d.path src a = .foreign → Does (.registerWrite src a size v) d d.dbBad)
      ∧ (d.path src a = .go → d.served a = true → size.val = regWidth id →
        Does (.rcRead src a size) d (x.2.out (.data (srcCode src) (BitVec.ofNat 64 (x.1 % 2 ^ (8 * size.val))))))

/-- R508: an offset that no register or area occupies reads as zero, a write to it is discarded, and SY_BUSERR counts either; the two named
ranges hold nothing. An access to a fenced island, or of a width the register does not have, goes the same way (R509, R512). -/
def Obligations.MisaddressedAccess : Prop :=  (∀ (d : Dev) (src : Src) (a : Fin 4296015872) (size : Fin 9) (v : Word64), d.path src a = .go → areaOf a = none → inReg a = none →
      let e := d.busErr src a F.SY_BUSERR_unmapped
      Does (.unmappedAccess src a size (some v)) d e ∧ Does (.registerWrite src a size v) d e
        ∧ Does (.unmappedAccess src a size none) d (e.out (.data (srcCode src) 0))
        ∧ Does (.rcRead src a size) d (e.out (.data (srcCode src) 0)))
    ∧ (∀ a, 0x1400000 ≤ a ∧ a ≤ 0x1FFFFFF ∨ 0x2D00000 ≤ a ∧ a ≤ 0x3FFFFFF → areaOf a = none ∧ inReg a = none)
    ∧ ∀ (d : Dev) (src : Src) (a : Fin 4296015872) (size : Fin 9) (v : Word64) (id : RegId) (ix : List Nat),
      ∀ off, d.path src a = .go → areaOf a = none → inReg a = some ((id, ix), off) →
      let f := d.busErr src a F.SY_BUSERR_fenced
      let w := d.busErr src a F.SY_BUSERR_width
      (d.reachable a = false → Does (.unmappedAccess src a size (some v)) d f
          ∧ Does (.unmappedAccess src a size none) d (f.out (.data (srcCode src) 0)))
        ∧ (d.reachable a = true → regAccess id off size = false → id ≠ .PT_TSDLY → Does (.unmappedAccess src a size (some v)) d w)
        ∧ (d.reachable a = true → regAccess id off size = false → id = .PT_TSDLY →
            Does (.unmappedAccess src a size (some v)) d (w.rwpRefuse src (regOf id ix).addr))
        ∧ (d.reachable a = true → regAccess id off size = false → Does (.unmappedAccess src a size none) d (w.out (.data (srcCode src) 0)))

/-- A write to an area that arrives at a width it accepts does what the area gives it (R46, R76, R89, R128, R149, R362, R509): an admin gate
list not pending, the header of an output, the words of a gallery that is not active, a Cage while no request runs.

The paired write of PT_TSDLY (R5) and the reads that move a queue on (R10, R166, R256, R279). -/
def Obligations.AreasAndQueueHeads : Prop :=
  (∀ (d : Dev) (src : Src) (a : Fin 4296015872) (size : Fin 9) (v : Word64) (ar : Area),
      d.path src a = .go → areaOf a = some ar → d.served a = true → areaWidth ar a size = true →
      d.grantOk src = true ∨ ar.expert = false →
      let bs := leBytes size v.toNat
      Does (.areaWrite src a size v) d (d.areaPut src ar a size v)
        ∧ Does (.registerWrite src a size v) d (d.areaPut src ar a size v)
        ∧ (∀ p, ar = .gateAdmin p → d.on (R.PT_GCLCTL p) F.PT_GCLCTL_pending = false → Does (.areaWrite src a size v) d (d.put a bs))
        ∧ (∀ p, ar = .gateAdmin p → d.on (R.PT_GCLCTL p) F.PT_GCLCTL_pending = true →
            Does (.areaWrite src a size v) d (d.wr (R.PT_GCLCTL p) F.PT_GCLCTL_err 1))
        ∧ (∀ o, ar = .header o → Does (.areaWrite src a size v) d (d.put a bs))
        ∧ (∀ g, ar = .imem g → d.galActive g = true → Does (.areaWrite src a size v) d (d.tally 0x0601 g [a.val]))
        ∧ (∀ g, ar = .imem g → d.galActive g = false → ∃ e, Does (.areaWrite src a size v) d e ∧ e.load a 2 = v.toNat % 2 ^ 14)
        ∧ (∀ t, ar = .template t → d.tmplOn t = true → Does (.areaWrite src a size v) d (d.wr (R.DR_TCTL t) F.DR_TCTL_wr_ref 1))
        ∧ (∀ fn f i, ar = .request fn → src = .host f i → d.on (R.CG_STAT fn) F.CG_STAT_busy = true →
            Does (.areaWrite src a size v) d (d.cageRefuse fn))
        ∧ (∀ fn f i, ar = .request fn → src = .host f i → d.on (R.CG_STAT fn) F.CG_STAT_busy = false →
            Does (.areaWrite src a size v) d (d.put a bs)))
    ∧ (∀ (d : Dev) (src : Src) (p : Fin 32) (g : Fin 26) (size : Fin 9) (v : Word64),
      let t := R.PT_TSDLY p
      (d.path src t.addr = .go → d.served t.addr = true → size.val = 8 → v.toNat / 2 ^ 32 + v.toNat % 2 ^ 32 = 2 ^ 32 - 1 →
          Does (.ptTsdlyWrite src p size v) d (d.rset t v))
        ∧ (d.path src t.addr = .go → d.served t.addr = true → size.val = 8 → v.toNat / 2 ^ 32 + v.toNat % 2 ^ 32 ≠ 2 ^ 32 - 1 →
          Does (.ptTsdlyWrite src p size v) d (d.rwpRefuse src t.addr))
        ∧ (d.path src t.addr = .go → d.reachable t.addr = true → size.val ≠ 8 →
          Does (.ptTsdlyWrite src p size v) d ((d.busErr src t.addr F.SY_BUSERR_width).rwpRefuse src t.addr))
        ∧ (d.answers src R.TB_NOW_LO = true → ∃ e, Does (.tbNowLoRead src) d e ∧ e.rget R.TB_NOW_HI = BitVec.ofNat 64 (time96 d.now / 2 ^ 64)
          ∧ e.outbox = d.outbox ++ [.data (srcCode src) (BitVec.ofNat 64 (time96 d.now))])
        ∧ (d.answers src (R.GL_FREC2 g) = true → ∃ e, Does (.glFrec2Read src g) d e ∧ (e.gal g).faults = (d.gal g).faults.drop 1
          ∧ e.outbox = d.outbox ++ [.data (srcCode src) (BitVec.ofNat 64 ((((d.gal g).faults.head?.map (·.toNat)).getD 0) / 2 ^ 128))])
        ∧ (d.answers src R.LD_ANQ1 = true → ∃ e, Does (.ldAnq1Read src) d e ∧ e.ld.anoms = d.ld.anoms.drop 1
          ∧ e.outbox = d.outbox ++ [.data (srcCode src) (BitVec.ofNat 64 ((((d.ld.anoms.head?).map (·.toNat)).getD 0) / 2 ^ 64))])
        ∧ (d.answers src R.TK_RREC1 = true → ∃ e, Does (.tkRrec1Read src) d e ∧ e.tk.records = d.tk.records.drop 1
          ∧ e.outbox = d.outbox ++ [.data (srcCode src) (BitVec.ofNat 64 ((((d.tk.records.head?).map (·.toNat)).getD 0) / 2 ^ 64))]))

/-- Writes that land at a register of the ports, the time base, the tables, the switch, the tokens, the host link, Relief, the power
manager and the reset manager (R12, R29, R46, R53 to R63, R89 to R92, R121, R122, R128, R251, R270, R283, R310, R352, R391, R410, R450, R467).

A DMA of the tables, its lock, a rule command and a forced action of Relief start as the fields of their registers say (R89, R121,
R122, R410). -/
def Obligations.ControlRegisters : Prop :=
  (∀ (d : Dev) (src : Src) (v : Word64) (w : Word32) (p : Fin 32) (c : Fin 1024) (q : Fin 1024) (lock : Fin 4096) (t : Fin 256) (dom : Fin 50)
      (req : Fin 4) (chan : Fin 8) (kind : Fin 256) (pin : Bool),
      let w64 := w.setWidth 64
      let keep (r : Reg) : Dev := d.rset r (d.rget r)
      let rv := R.AS_RVER
      (d.lands src (R.PT_PCFG p) = true → d.pcfgOk p (d.eff .PT_PCFG [p.val] w64) = true →
          Does (.ptPcfgWrite src p w) d ((d.pcfgWrite p (d.eff .PT_PCFG [p.val] w64)).2.pairCheck (List.range 32)))
        ∧ (∀ length : Fin 2048, d.lands src (R.PT_GCLCTL p) = true →
          let v := BitVec.ofNat 64 (w.toNat * 2 ^ 32 + length.val * 2 ^ 11 + 1)
          let u := d.wrote .PT_GCLCTL [p.val] v
          d.on (R.PT_GCLCTL p) F.PT_GCLCTL_pending = false → u.adminOk p = true →
          Does (.ptGclctlCommit src p w length) d ((u.wr (R.PT_GCLCTL p) F.PT_GCLCTL_pending 1).modPort p (fun x => { x with commitAt := d.now })))
        ∧ (∀ length : Fin 2048, d.lands src (R.PT_GCLCTL p) = true → d.on (R.PT_GCLCTL p) F.PT_GCLCTL_pending = true →
          ∃ e, Does (.ptGclctlCommit src p w length) d e ∧ e.on (R.PT_GCLCTL p) F.PT_GCLCTL_err = true
            ∧ e.rd (R.PT_GCLCTL p) F.PT_GCLCTL_length = d.rd (R.PT_GCLCTL p) F.PT_GCLCTL_length
            ∧ e.rd (R.PT_GCLCTL p) F.PT_GCLCTL_cycle = d.rd (R.PT_GCLCTL p) F.PT_GCLCTL_cycle)
        ∧ (d.lands src R.TB_CTL = true → Does (.tbCtlWrite src w) d (d.tbCtlWrite (d.eff .TB_CTL [] w64)))
        ∧ (d.lands src R.TB_STEP = true → d.tbSt = 1 → d.on R.TB_CTL F.TB_CTL_step_en = true → v ≠ 0 → Does (.tbStepWrite src v) d (d.askStep v.toInt))
        ∧ (d.lands src R.TB_STEP = true → d.tbSt ≠ 1 ∨ d.on R.TB_CTL F.TB_CTL_step_en = false →
          Does (.tbStepWrite src v) d (d.wr R.TB_STAT F.TB_STAT_step_ref 1))
        ∧ (d.lands src R.TB_FREQ = true → d.tsrc = 0 →
          Does (.tbFreqWrite src w) d (d.wr R.TB_FREQ F.TB_FREQ_steer (ofSigned 32 (slewClamp (slewLimit d.tbSt) w.toInt))))
        ∧ (d.lands src R.TB_FREQ = true → d.tsrc ≠ 0 → Does (.tbFreqWrite src w) d d)
        ∧ (let u := d.eff .TB_UTC [] v
          d.lands src R.TB_UTC = true → F.TB_UTC_leap.get u = 0 ∨ d.taiLow < F.TB_UTC_leap_tai.get u → Does (.tbUtcWrite src v) d (d.setUtc u))
        ∧ (d.lands src R.XC_PLMAP = true → (d.rget R.XC_PLMAP ^^^ v) &&& d.rget R.XC_PLMOVE = 0 →
          ∃ e, Does (.xcPlmapWrite src v) d e ∧ e.rget R.XC_PLMAP = v
            ∧ ∀ n, n < 64 → e.planeOf n = b2n (bitAt v.toNat n))
        ∧ (d.lands src R.XC_PLMAP = true → (d.rget R.XC_PLMAP ^^^ v) &&& d.rget R.XC_PLMOVE ≠ 0 → Does (.xcPlmapWrite src v) d d)
        ∧ (d.lands src (R.TK_CHAN c) = true → d.chanBad c (d.eff .TK_CHAN [c.val] v) = true → Does (.tkChanWrite src c v) d (d.wr R.TK_CFG F.TK_CFG_err 1))
        ∧ (d.lands src (R.TK_CHAN c) = true → d.chanBad c (d.eff .TK_CHAN [c.val] v) = false →
          ∃ e, Does (.tkChanWrite src c v) d e ∧ e.rd (R.TK_CHAN c) F.TK_CHAN_depth = F.TK_CHAN_depth.get v
            ∧ e.rd (R.TK_CHAN c) F.TK_CHAN_gal_mask = F.TK_CHAN_gal_mask.get v)
        ∧ (d.lands src R.TK_FREL = true → Does (.tkFrel src lock) d (d.abandonLock lock 4))
        ∧ (let l := d.lock lock
          d.lands src R.TK_FREL = true → l.held = true →
            Does (.tkFrel src lock) d ((d.relRecord 4 0 0x7FF (recOwner l.jobHeld l.owner) lock).passLock lock true))
        ∧ (d.lands src (R.DR_TCTL t) = true → d.on (R.DR_TCTL t) F.DR_TCTL_en = false → d.tmplGood t = true →
          Does (.drTctlEn src t true) d ((keep (R.DR_TCTL t)).wr (R.DR_TCTL t) F.DR_TCTL_en 1))
        ∧ (d.lands src (R.DR_TCTL t) = true → d.on (R.DR_TCTL t) F.DR_TCTL_en = false → d.tmplGood t = false →
          Does (.drTctlEn src t true) d ((keep (R.DR_TCTL t)).wr (R.DR_TCTL t) F.DR_TCTL_bad 1))
        ∧ (d.lands src (R.DR_TCTL t) = true → d.on (R.DR_TCTL t) F.DR_TCTL_en = true →
          Does (.drTctlEn src t false) d ((keep (R.DR_TCTL t)).wr (R.DR_TCTL t) F.DR_TCTL_en 0))
        ∧ (d.lands src R.LD_SWEEP = true → ∃ e, Does (.ldSweepFlush src kind pin) d e ∧ e.rd R.LD_SWEEP F.LD_SWEEP_flushing = 1
            ∧ e.rd R.LD_SWEEP F.LD_SWEEP_flush_kind = kind.val ∧ e.rd R.LD_SWEEP F.LD_SWEEP_flush_pin = b2n pin)
        ∧ (d.lands src (R.HI_QCFG q) = true → Does (.hiQcfgWrite src q v) d (d.qcfgWrite q (d.kept .HI_QCFG [q.val] v)).2)
        ∧ (let x := d.kept .HI_QCFG [q.val] v
          let old := d.rget (R.HI_QCFG q)
          d.lands src (R.HI_QCFG q) = true → d.qcfgBad q x = false → F.HI_QCFG_rx_en.get x = 0 → F.HI_QCFG_rx_en.get old = 0 →
            F.HI_QCFG_tx_en.get x = 0 → F.HI_QCFG_tx_en.get old = 0 → Does (.hiQcfgWrite src q v) d (d.rset (R.HI_QCFG q) x))
        ∧ (d.lands src R.SM_SPARE = true → chan.val < 4 → d.on R.SM_SPARE F.SM_SPARE_busy = false → d.smSpare.isSome = true → d.smState chan = 2 →
          Does (.smSpareStart src chan) d
            (((d.wrote .SM_SPARE [] (BitVec.ofNat 64 (32 + chan.val))).wr R.SM_SPARE F.SM_SPARE_src chan).spareStart chan true))
        ∧ (d.lands src R.SM_SPARE = true → d.on R.SM_SPARE F.SM_SPARE_busy = true →
          ∃ e, Does (.smSpareStart src chan) d e ∧ e.rd R.SM_SPARE F.SM_SPARE_err = 1)
        ∧ (d.lands src (R.PW_DOM dom) = true → Does (.pwDomReq src dom req) d ((keep (R.PW_DOM dom)).domReq dom req.val))
        ∧ (let u := keep (R.PW_DOM dom)
          d.lands src (R.PW_DOM dom) = true → u.domRefused dom 1 = false → u.domSt dom = 0 →
            Does (.pwDomReq src dom 1) d ((u.wr (R.PW_DOM dom) F.PW_DOM_req 1).rampAsk dom))
        ∧ (d.lands src R.SY_RST = true → d.bo.warmReq = false → d.bo.warm = false → Does (.syRstWarm src) d { d with bo := { d.bo with warmReq := true } })
        ∧ (d.lands src R.SY_RST = true → d.bo.warmReq = true ∨ d.bo.warm = true → Does (.syRstWarm src) d (d.inc R.SY_RST F.SY_RST_warm_ign))
        ∧ (d.lands src rv = true → d.on rv F.AS_RVER_prev_live = false → d.stageReady = true → ∃ e, Does (.asRverCommit src) d e
            ∧ e.curVer = (d.curVer + 1) % 16 ∧ e.curSlot = 1 - d.curSlot ∧ e.on rv F.AS_RVER_prev_live = true ∧ e.stageReady = false
            ∧ e.rd rv F.AS_RVER_prev_ver = d.curVer ∧ (∀ r : Reg, r.addr ≠ rv.addr → e.rget r = d.rget r) ∧ e = { d with regs := e.regs })
        ∧ (d.lands src rv = true → d.on rv F.AS_RVER_prev_live = true → ∃ e, Does (.asRverCommit src) d e ∧ e.on rv F.AS_RVER_err = true
            ∧ e.curVer = d.curVer ∧ e.curSlot = d.curSlot ∧ (∀ r : Reg, r.addr ≠ rv.addr → e.rget r = d.rget r) ∧ e = { d with regs := e.regs })
        ∧ (d.lands src rv = true → d.on rv F.AS_RVER_prev_live = true →
          let u := keep rv
          let old := d.rd rv F.AS_RVER_prev_ver
          Does (.asRverRetire src false) d ((({ u with frames := u.frames.map (fun (e : Nat × Frame) =>
            (e.1, if e.2.counts && e.2.ver == old then { e.2 with retired := true } else e.2)) } : Dev).wr rv F.AS_RVER_prev_cnt 0).prevEnds))
        ∧ (d.lands src rv = true → Does (.asRverRetire src false) d (keep rv).ruleRetire
          ∧ Does (.asRverRetire src true) d (keep rv).ruleRetire.ruleCommit.2))
    ∧ (∀ (d : Dev) (src : Src) (op : Bool) (tbl : Fin 8) (index : Fin 262144) (count : Fin 524288) (rop : Fin 4) (i : Fin 32768) (flag : Bool)
      (kind : Fin 4) (ret : Bool) (unit : Fin 32) (pass : Bool),
      let c := R.ST_DMACTL
      (d.lands src c = true → d.on c F.ST_DMACTL_busy = false → d.on c F.ST_DMACTL_lock = false → count.val ≠ 0 → tbl.val ≤ 4 →
          index.val + count.val ≤ tblSize tbl →
          ∃ e, Does (.stDmactlStart src op tbl index count) d e ∧ e.on c F.ST_DMACTL_busy = true
            ∧ e.rd R.ST_DMASTAT F.ST_DMASTAT_done = count.val % 2 ^ F.ST_DMASTAT_done.w)
        ∧ (d.lands src c = true → d.on c F.ST_DMACTL_busy = false → d.on c F.ST_DMACTL_lock = false → count.val = 0 →
          ∃ e, Does (.stDmactlStart src op tbl index count) d e ∧ e.on c F.ST_DMACTL_err = true)
        ∧ (d.lands src c = true → d.on c F.ST_DMACTL_start = false → d.on c F.ST_DMACTL_lock = false → ∃ e, Does (.stDmactlLock src tbl true) d e ∧ e.on c F.ST_DMACTL_lock = true
            ∧ e.rd c F.ST_DMACTL_tbl = tbl.val)
        ∧ (d.lands src c = true → d.on c F.ST_DMACTL_start = false → d.on c F.ST_DMACTL_lock = true → tbl.val = d.rd c F.ST_DMACTL_tbl →
          ∃ e, Does (.stDmactlLock src tbl false) d e ∧ e.on c F.ST_DMACTL_lock = false ∧ e.st.staged = [])
        ∧ (d.lands src R.AS_RCMD = true → rop.val = 0 → ∃ e, Does (.asRcmdStart src rop i flag) d e ∧ e.bytes rwinAddr 160 = (d.rule i).image)
        ∧ (d.lands src R.AS_RCMD = true → rop.val = 2 → d.stageReady = true → ∃ e, Does (.asRcmdStart src rop i flag) d e
            ∧ e.rule i = (d.rule i).setSlot (1 - d.curSlot) flag)
        ∧ (d.lands src R.AS_RCMD = true → rop.val = 1 → d.stageReady = false → ∃ e, Does (.asRcmdStart src rop i flag) d e
            ∧ e.on R.AS_RCMD F.AS_RCMD_err = true ∧ e.rule i = d.rule i)
        ∧ (d.lands src R.RL_FORCE = true →
          let v := F.RL_FORCE_go.put (F.RL_FORCE_unit.put (F.RL_FORCE_ret.put (F.RL_FORCE_kind.put 0 kind) (b2n ret)) unit) 1
          let u := d.wrote .RL_FORCE [] v
          Does (.rlForceGo src kind ret unit pass) d (u.forceGo kind ret unit pass)
            ∧ (kind.val = 3 → ret = false → u.on R.RL_FORCE F.RL_FORCE_busy = false → d.cg.om = 0 → u.on R.RL_FENCE F.RL_FENCE_om_c = false →
              Does (.rlForceGo src kind ret unit pass) d (u.detect { kind := 3, unit := 0, cause := 0 }))))

/-- Writes that land at the registers of a gallery and at DB_TCMD (R158, R164, R165, R167, R168, R207 to R210, R334, R501, R502): thread,
core and gallery resets, kills, software events, the Rose, the Face tile, the generator, halt, resume and step. -/
def Obligations.GalleryRegisterCommands : Prop :=  ∀ (d : Dev) (src : Src) (g : Fin 26) (c t : Fin 8) (v : Word64),
    let k := thrKey g c t
    let tc := R.GL_TCTL g c t
    let ctl := R.GL_CTL g
    let fc := R.GL_FCCTL g
    let act := d.rd fc F.GL_FCCTL_load + d.rd fc F.GL_FCCTL_clear
    let rs := R.GL_ROSECTL g c
    (d.lands src tc = true → isSup k = false → d.rd tc F.GL_TCTL_kill = 0 →
        Does (.glTctlRst src g c t) d ((d.wrote .GL_TCTL [g.val, c.val, t.val] (F.GL_TCTL_rst.put (d.rget tc) 1)).resetThread k))
      ∧ (d.lands src tc = true → isSup k = false →
        Does (.glTctlKill src g c t) d ((d.wrote .GL_TCTL [g.val, c.val, t.val] (F.GL_TCTL_kill.put (d.rget tc) 1)).killThread k 9))
      ∧ (d.lands src ctl = true → trusted src = true → d.rd ctl F.GL_CTL_core_rst = 0 →
        Does (.glCtlGalRst src g) d (((d.wrote .GL_CTL [g.val] (F.GL_CTL_gal_rst.put (d.rget ctl) 1)).resetGallery g).supStart (supOf g)))
      ∧ (d.lands src ctl = true → trusted src = false → d.rd ctl F.GL_CTL_core_rst = 0 →
        Does (.glCtlGalRst src g) d ((d.wrote .GL_CTL [g.val] (F.GL_CTL_gal_rst.put (d.rget ctl) 1)).supStart (supOf g)))
      ∧ (∀ mask : Fin 256, d.lands src ctl = true → d.rd ctl F.GL_CTL_gal_rst = 0 → Does (.glCtlCoreRst src g mask) d
          (((List.range 8).foldl (fun (e : Dev) n => if bitAt mask.val n && (n != 0 || trusted src) then e.resetCore g n else e)
            (d.wrote .GL_CTL [g.val] (F.GL_CTL_core_rst.put (d.rget ctl) mask.val))).supStart (supOf g)))
      ∧ (d.lands src ctl = true → d.rd ctl F.GL_CTL_gal_rst = 0 → d.rd ctl F.GL_CTL_core_rst = 0 →
        Does (.glCtlSupRun src g) d ((d.wr ctl F.GL_CTL_sup_run 1).supStart (supOf g)))
      ∧ (∀ n : Fin 64, d.lands src (R.GL_TSOFT g) = true → ∃ e, Does (.glTsoft src g n) d e
          ∧ (e.thr (g.val * 64 + n.val)).pend = (d.thr (g.val * 64 + n.val)).pend ||| 2)
      ∧ (d.lands src rs = true → d.on rs F.GL_ROSECTL_pending = false → ∃ e, Does (.glRosectlCommit src g c) d e ∧ e.on rs F.GL_ROSECTL_pending = true)
      ∧ (d.lands src rs = true → d.on rs F.GL_ROSECTL_pending = true → ∃ e, Does (.glRosectlCommit src g c) d e ∧ e.on rs F.GL_ROSECTL_err = true)
      ∧ (d.lands src (R.GL_GENCMD g) = true → d.on (R.GL_GENCMD g) F.GL_GENCMD_busy = false →
        let x := F.GL_GENCMD_go.put v 1
        let e := d.eff .GL_GENCMD [g.val] x
        let len := F.GL_GENCMD_length.get e
        let from_ := F.GL_GENCMD_src.get e
        Does (.glGencmdGo src g v) d ((d.wrote .GL_GENCMD [g.val] x).genStart g e)
          ∧ ∀ u, 64 ≤ len → len ≤ 16383 → 0x100000 ≤ from_ → from_ + (len - 4) ≤ 0x300000 → from_ % 8 = 0 →
              (d.wrote .GL_GENCMD [g.val] x).reserve 10 (tagGen g) ((len + 255) / 256) (F.GL_GENCMD_queue.get e == 7) = (true, u) →
              Does (.glGencmdGo src g v) d ((u.wr (R.GL_GENCMD g) F.GL_GENCMD_busy 1).modGal g (fun y => { y with gen := some (from_, e) })))
      ∧ (d.lands src fc = true → d.faceState g = 0 ∨ d.faceState g = 2 ∨ d.faceState g = 4 → ∃ e, Does (.glFcctlLoad src g) d e ∧ e.faceState g = 1
          ∧ (e.gal g).face.loading = some (d.rd (R.GL_FCLOAD g) F.GL_FCLOAD_addr * 64))
      ∧ (d.lands src fc = true → d.rd fc F.GL_FCCTL_load = 0 → d.faceState g = 2 ∨ d.faceState g = 4 → ∃ e, Does (.glFcctlClear src g) d e ∧ e.faceState g = 0)
      ∧ (d.lands src fc = true → act = 0 → d.faceState g = 2 → ∃ e, Does (.glFcctlRun src g true) d e ∧ e.faceState g = 3)
      ∧ (d.lands src fc = true → act = 0 → d.faceState g = 3 → ∃ e, Does (.glFcctlRun src g false) d e ∧ e.faceState g = 2)
      ∧ ∀ n : Fin 2048, n.val < 1664 → d.lands src R.DB_TCMD = true →
        Does (.dbTcmdHalt src n false) d (d.holdThread n) ∧ Does (.dbTcmdResume src n false) d (d.resumeThread n)
          ∧ Does (.dbTcmdStep src n false) d (d.stepThread n) ∧ Does (.dbTcmdKill src n false) d (d.killThread n 10)
          ∧ ((d.thr n).st = .ready → Does (.dbTcmdHalt src n false) d
              ((d.setThr n { d.thr n with st := .hold, heldFrom := .ready }).galTrace n 9 (d.thr n).pc.toNat).limits)
          ∧ ((d.thr n).st = .hold → Does (.dbTcmdStep src n false) d (d.setThr n { d.thr n with stepping := true })
              ∧ Does (.dbTcmdResume src n false) d ((d.setThr n { d.thr n with st := (d.thr n).heldFrom, stepping := false }).limits.drainCheck n))
          ∧ (d.resetBlocked n = false → Does (.dbTcmdKill src n false) d
              (((((d.stopThread n).pushFault n 10 0 (d.thr n).pc.toNat).clearThread n).galTrace n 8 (d.thr n).pc.toNat).supStart n))

/-! ## Cage requests: `A n c` says that the function's request is command c of code n and passes its checks -/

/-- The system and host commands (R345, R352, R366, R367, R371, R377, R456, R457, R467).

The doorbell, a request that a check refuses, an event, a lease that ends, a poll, and the Overman's takeovers (R362, R363, R367, R368,
R376, R377, R380). -/
def Obligations.CageSystem : Prop :=
  (∀ (d : Dev) (fn : Fin 64) (ok : Bool),
      let i := d.request fn ok none none
      let n := d.request fn true none none
      let A (code : Nat) (c : Cmd) : Prop := d.asked fn code c n = true
      let B (code : Nat) (c : Cmd) : Prop := d.asked fn code c i = true
      let id := d.rget R.SY_IDENT
      let f := n.u 1 0
      let slot := n.u 1 12
      let q := R.HI_CFG
      let base := slotAddr slot
      (A 0x0001 cmdIdentify → Gives (.identify fn) d fn d
          ([F.SY_IDENT_rev_letter, F.SY_IDENT_rev_digit, F.SY_IDENT_fw_major, F.SY_IDENT_fw_minor].map (fun f => BitVec.ofNat 8 (f.get id))
            ++ leBytes 1 fn ++ leBytes 3 d.hi.numVfs ++ leBytes 8 Config.serial.toNat ++ leBytes 8 d.bo.build))
        ∧ (A 0x0002 cmdNop → Gives (.cageNop fn) d fn d n.body)
        ∧ (A 0x0003 cmdDeviceStatus → Gives (.deviceStatus fn) d fn d
          (leBytes 8 (d.gstat fn) ++ leBytes 8 (d.rget R.RL_ALARM).toNat ++ leBytes 8 (d.rget R.RL_FAULT).toNat))
        ∧ (A 0x0004 cmdEventMask → Gives (.eventMask fn) d fn { d with cg := { d.cg with masks := d.cg.masks.set none fn (some (n.u 2 0)) } }
          (leBytes 2 (d.evMask fn)))
        ∧ (∀ k e, A 0x0005 cmdExpertGrant → d.on (R.CG_RIGHTS f) F.CG_RIGHTS_expert_ok = true → d.grantGive f (n.u 4 4) = some (k, e) →
          Gives (.expertGrant fn) d fn e (leBytes 8 (e.rget (R.CG_GRANT k)).toNat))
        ∧ (∀ k, A 0x0006 cmdExpertRelease → d.grantOf f = some k → Gives (.expertRelease fn) d fn (d.grantEnd k) [])
        ∧ (A 0x0007 cmdFunctionRights → Writes (.functionRights fn) d fn [(.CG_RIGHTS, [n.unit], n.w64 8)] [])
        ∧ (∀ bs e, B 0x0008 cmdFwUpdate → d.rd R.SY_BOOT F.SY_BOOT_slot ≠ slot → d.smRead 0 (n.u 8 0) (n.u 4 8) = (.ok bs, e) →
          e.imageGood (bs.take 256) ok = true → leNat ((bs.drop 16).take 4) + 256 = bs.length →
          Gives (.fwUpdate fn ok) d fn ((e.wipe base (base + slotBytes)).put base bs) [])
        ∧ (B 0x0009 cmdFwActivate → d.imageGood (d.bytes (slotAddr f) 256) ok = true →
          let e : Dev := { d with bo := { d.bo with active := f } }
          Gives (.fwActivate fn ok) d fn (if n.u 1 1 = 1 then e.warmRequest else e) [])
        ∧ (A 0x000A cmdWarmReset → Gives (.warmReset fn) d fn d.warmRequest [])
        ∧ (let x := d.fwSet .HI_QCFG [n.unit] (taking [F.HI_QCFG_asg, F.HI_QCFG_fn, F.HI_QCFG_lidx, F.HI_QCFG_vec] (n.w64 8))
          A 0x0E01 cmdQueueAssign → x.1 = true → Shows (.queueAssign fn) d fn x.2 false [.s .HI_QCFG [n.unit]])
        ∧ (∀ p, A 0x0E02 cmdQueueSetup → d.pairAt fn n.unit = some p →
          let x := d.fwSet .HI_QCFG [p] (taking [F.HI_QCFG_weight, F.HI_QCFG_rx_buf, F.HI_QCFG_rx_size, F.HI_QCFG_tx_size, F.HI_QCFG_vec] (n.w64 8))
          x.1 = true → Gives (.queueSetup fn) d fn
            (x.2.putImgs [(.HI_QTXBASE, [p], n.w64 16), (.HI_QRXBASE, [p], n.w64 24), (.HI_QITR, [p], n.w64 32)]).2 [])
        ∧ (∀ p, A 0x0E03 cmdQueueEnable → d.pairAt fn n.unit = some p → d.on q F.HI_CFG_en = true →
          Shows (.queueEnable fn) d fn (d.fwSet .HI_QCFG [p] [(F.HI_QCFG_tx_en, n.u 1 8 % 2), (F.HI_QCFG_rx_en, n.u 1 8 / 2 % 2)]).2 false [.s .HI_QSTAT [p]])
        ∧ (∀ p, A 0x0E04 cmdQueueStats → d.pairAt fn n.unit = some p →
          Shows (.queueStats fn) d fn d n.clr [.s .HI_QIDX [p], .s .HI_QSTAT [p], .c .HI_QSTAT [p], .c .HI_QCNT [p]])
        ∧ (A 0x0E05 cmdLinkStatus → Shows (.linkStatus fn) d fn d n.clr [.s .HI_LINK [], .c .HI_ERR []])
        ∧ (A 0x0E06 cmdHostConfig → Writes (.hostConfig fn) d fn [(.HI_CFG, [], n.w64 0), (.HI_BAR2, [], n.w64 8)] []))
    ∧ (∀ (d : Dev) (src : Src) (fn : Fin 64) (k : Fin 4) (a : Fin 67108864),
      let door := R.CG_DOOR fn
      let st := R.CG_STAT fn
      let h := d.reqHdr fn
      let code := h.code
      (d.answers src door = true → d.on st F.CG_STAT_busy = false → d.devState = 1 ∨ d.devState = 2 ∨ d.devState = 3 →
          ∃ e, Does (.cageDoorbell src fn 1) d e ∧ e.on st F.CG_STAT_busy = true ∧ e.on st F.CG_STAT_done = false
            ∧ e.rd st F.CG_STAT_tag = d.load (cageBase fn + 0x102) 1 ∧ (∀ r : Reg, r.addr ≠ st.addr → e.rget r = d.rget r))
        ∧ (d.answers src door = true → d.on st F.CG_STAT_busy = true →
          ∃ e, Does (.cageDoorbell src fn 1) d e ∧ e.on st F.CG_STAT_busy = true ∧ e.on st F.CG_STAT_err = true
            ∧ (∀ r : Reg, r.addr ≠ st.addr → e.rget r = d.rget r))
        ∧ (∀ s, d.waiting fn = true → d.reqStatus fn h (cmdOf code) (d.request fn true none none) = some s →
          Does (.badRequest fn) d (d.reply fn h ⟨s, 0xFF, []⟩))
        ∧ (d.waiting fn = true → h.good = true → h.length ≤ 2032 → cmdOf code = none → Does (.badRequest fn) d (d.reply fn h ⟨1, 0xFF, []⟩))
        ∧ (d.waiting fn = true → h.good = false → Does (.badRequest fn) d (d.reply fn h ⟨2, 0xFF, []⟩))
        ∧ (∀ ev rest, d.events = ev :: rest → Does .eventWrite d (((List.range 64).filter (fun fn => d.fnExists fn && bitAt (d.evMask fn) (ev.code / 16))).foldl
            (fun (x : Dev) fn => x.eventPut ev fn) { d with events := rest }))
        ∧ (d.on (R.CG_GRANT k) F.CG_GRANT_valid = true → d.granted (d.rd (R.CG_GRANT k) F.CG_GRANT_fn) = false → Does (.grantExpiry k) d (d.grantEnd k))
        ∧ (∀ id ix, findReg a = some (id, ix) → polled id = true → d.reachable a = true → Does (.counterPoll a) d (d.pollReg id ix).2)
        ∧ (d.cg.om = 0 → d.on R.RL_FENCE F.RL_FENCE_om_ab = false → d.on R.RL_FENCE F.RL_FENCE_om_c = false →
          let taken (cause : Nat) : Dev :=
            let u := ((d.wr R.RL_FENCE F.RL_FENCE_om_ab 1).event 0x01 0 cause).tally 0x0F05 768
            { u with devState := if u.devState = 4 then 4 else 3
                     cg := { u.cg with lost := (List.range 64).filter (fun n => u.on (R.CG_STAT n) F.CG_STAT_busy), was := u.devState }
                     rl := { u.rl with takeovers := u.rl.takeovers + 1 } }
          Does .lockstepMismatch d (taken 0) ∧ Does .canaryExpiry d (taken 1) ∧ Does .overmanMemoryError d (taken 2))
        ∧ Does .lockstepMismatch d (d.omTakeover 0) ∧ Does .canaryExpiry d (d.omTakeover 1) ∧ Does .overmanMemoryError d (d.omTakeover 2)
        ∧ (d.devState = 3 → ∃ e, Does .takeoverComplete d e ∧ e.cg.om = b2n (d.on R.RL_FENCE F.RL_FENCE_om_ab) ∧ e.cg.lost = [] ∧ e.devState = d.cg.was))

/-- The commands of the ports and of time (R29, R36, R40, R41, R46, R62, R63, R66, R372).

The commands of Assay (R76, R81, R89 to R93, R96, R372). -/
def Obligations.CagePortsAndAssay : Prop :=
  (∀ (d : Dev) (fn : Fin 64),
      let i := d.request fn true none none
      let A (code : Nat) (c : Cmd) : Prop := d.asked fn code c i = true
      let p := i.unit
      let an := i.u 1 10
      let rx := i.u 1 8 == 1
      let key := if rx then 256 + i.u 1 9 * 4 + an else an
      let sa : MacSa := { suite := i.u 1 11, sci := i.u 8 16, pn := i.u 8 24, ssci := i.u 4 32, salt := i.u 12 36, key := i.u 32 48 }
      let wiped := d.wipe (cageBase fn + 0x100) (cageBase fn + 0x900)
      let ptp : PtpCfg :=
        { role := i.u 1 8, profile := i.u 1 9, flags := i.u 1 10, logSync := i.u 1 11, asym := i.u 4 12, inLat := i.u 4 16, egLat := i.u 4 20 }
      let gate := d.put (adminAddr p + 4 * i.u 2 8) (i.bytes (4 * i.u 2 10) 32)
      let gate := (gate.putImgs [(.PT_GCLCTL, [p], i.w64 16), (.PT_GCLBASE, [p], i.w64 24)]).2
      let stats := (List.range 16).foldl (fun (a : List Nat × Dev) n =>
        let v := a.2.sinceBase fn i.clr (2 ^ 39 + (p * 16 + n)) (a.2.pt.stats.get 0 (p * 16 + n))
        (a.1 ++ [v.1], v.2)) ([], d)
      (A 0x0101 cmdPortConfig → Writes (.portConfig fn) d fn [(.PT_PCFG, [p], i.w64 8), (.PT_TMR, [p], i.w64 16)] [])
        ∧ (A 0x0102 cmdPortStatus → Shows (.portStatus fn) d fn d false [.s .PT_PSTAT [p], .s .XC_PORT [p]])
        ∧ (A 0x0103 cmdPortStats → Gives (.portStats fn) d fn stats.2 (stats.1.flatMap (leBytes 8)))
        ∧ (A 0x0104 cmdGateListLoad → d.on (R.PT_GCLCTL p) F.PT_GCLCTL_pending = false → i.u 1 12 = 0 →
          Shows (.gateListLoad fn) d fn gate false [.s .PT_GCLCTL [p]])
        ∧ (A 0x0104 cmdGateListLoad → d.on (R.PT_GCLCTL p) F.PT_GCLCTL_pending = false → i.u 1 12 = 1 → gate.adminOk p = true →
          Shows (.gateListLoad fn) d fn (gate.gclCommit p) false [.s .PT_GCLCTL [p]])
        ∧ (A 0x0105 cmdMacsecSaSet → i.u 1 12 = 1 → Gives (.macsecSaSet fn) d fn
          (wiped.modPort p (fun x => { x with sas := x.sas.put key sa, txAn := if rx then x.txAn else an })) [])
        ∧ (A 0x0105 cmdMacsecSaSet → i.u 1 12 ≠ 1 → Gives (.macsecSaSet fn) d fn (wiped.modPort p (fun x => { x with sas := x.sas.del key })) [])
        ∧ (A 0x0106 cmdPtpConfig → bitAt ptp.flags 0 = false → p < 32 → Gives (.ptpConfig fn) d fn (d.modPort p (fun x => { x with ptp := ptp })) [])
        ∧ (A 0x0106 cmdPtpConfig → bitAt ptp.flags 0 = false → 32 ≤ p → Gives (.ptpConfig fn) d fn { d with pt := { d.pt with clock := ptp } } [])
        ∧ (A 0x0107 cmdRedPairSet →
          let e := (d.fwSet .PT_RED [p] [(F.PT_RED_role, i.u 1 8), (F.PT_RED_peer, i.u 1 9), (F.PT_RED_lan_b, an)]).2
          let e := (e.fwSet .PT_RED [i.u 1 9] [(F.PT_RED_role, i.u 1 8), (F.PT_RED_peer, p), (F.PT_RED_lan_b, 1 - an)]).2
          Shows (.redPairSet fn) d fn e false [.s .PT_RED [p], .s .PT_RED [i.u 1 9]])
        ∧ (A 0x0201 cmdTimeConfig → Writes (.timeConfig fn) d fn [(.TB_CTL, [], i.w64 0), (.TB_PPS, [], i.w64 8), (.TB_TICK, [], i.w64 16)] [.s .TB_STAT []])
        ∧ (A 0x0202 cmdTimeStatus → Shows (.timeStatus fn) d fn d false [.s .TB_STAT [], .s .TB_NOW_LO [], .s .TB_NOW_HI [], .s .TB_UTC []])
        ∧ (A 0x0203 cmdUtcSet → Writes (.utcSet fn) d fn [(.TB_UTC, [], i.w64 0)] [])
        ∧ (let x := d.putImg .TB_STEP [] (i.w64 0) true
          A 0x0204 cmdTimeStep → x.1 = true → Shows (.timeStep fn) d fn x.2 false [.s .TB_STAT []]))
    ∧ (∀ (d : Dev) (fn : Fin 64),
      let i := d.request fn true none none
      let A (code : Nat) (c : Cmd) : Prop := d.asked fn code c i = true
      let u := i.unit
      (A 0x0301 cmdRuleWrite → d.stageReady = true → (d.ruleWrite u (ruleOf (i.bytes 160 8))).1 = true →
          Gives (.ruleWrite fn) d fn (d.ruleWrite u (ruleOf (i.bytes 160 8))).2 [])
        ∧ (A 0x0302 cmdRuleFlag → d.stageReady = true → Gives (.ruleFlag fn) d fn (d.setRule u ((d.rule u).setSlot (1 - d.curSlot) (i.u 1 8 == 1))) [])
        ∧ (A 0x0303 cmdRuleRead → Gives (.ruleRead fn) d fn d (d.rule u).image)
        ∧ (A 0x0304 cmdKeyProfileSet → d.stageReady = true → Gives (.keyProfileSet fn) d fn
          (d.putImgs ((List.range 32).map (fun c => (.AS_KSEL, [1 - d.curSlot, i.u 1 0, c], BitVec.ofNat 64 (i.u 4 (8 + 4 * c)))))).2 [])
        ∧ (A 0x0305 cmdParseLoad → d.stageReady = true →
          Gives (.parseLoad fn) d fn (d.put (bankAddr (1 - d.curSlot) + 4 * i.u 2 0) (i.bytes (4 * i.u 2 2) 8)) [])
        ∧ (A 0x0306 cmdRuleCommit → d.ruleCommit.1 = true → Shows (.ruleCommit fn) d fn d.ruleCommit.2 false [.s .AS_RVER []])
        ∧ (A 0x0307 cmdRuleStatus → Shows (.ruleStatus fn) d fn d i.clr [.s .AS_RVER [], .s .AS_RSTAT [], .c .AS_RSTAT []])
        ∧ (A 0x0308 cmdRuleRetire → d.on R.AS_RVER F.AS_RVER_prev_live = true → Shows (.ruleRetire fn) d fn d.ruleRetire false [.s .AS_RVER []])
        ∧ (A 0x0309 cmdExcConfig → Writes (.excConfig fn) d fn [(.AS_EXCCFG, [u], i.w64 8)] [])
        ∧ (A 0x030A cmdExcStats → Shows (.excStats fn) d fn d i.clr [.c .AS_EXCCNT [u]])
        ∧ (A 0x030B cmdEddyConfig → Writes (.eddyConfig fn) d fn [(.AS_EDDYCFG, [], i.w64 0), (.AS_PCFG, [0], i.w64 8), (.AS_PCFG, [1], i.w64 16),
            (.AS_PCFG, [2], i.w64 24), (.AS_PCFG, [3], i.w64 32)] [])
        ∧ (A 0x030C cmdAssayStats → Shows (.assayStats fn) d fn d i.clr [.c .AS_PSTAT [u], .s .AS_EDDYSTAT [], .c .AS_EDDYSTAT []]))

/-- The commands of the station, stream and meter tables and of Draught (R118, R122, R128, R132, R133, R145, R372, R373).

The commands of the galleries, the Face tiles and the phasor engine (R149, R158, R168, R208, R210, R215, R226, R373). -/
def Obligations.CageTablesAndGalleries : Prop :=
  (∀ (d : Dev) (fn : Fin 64),
      let i := d.request fn true none none
      let A (code : Nat) (c : Cmd) : Prop := d.asked fn code c i = true
      let u := i.unit
      let e : BitVec 128 := SE.static.put (SE.valid.put (BitVec.ofNat 128 (i.u 16 8)) 1) 1
      let add := d.perPipe i.pipes (fun d p => d.stationAdd e p)
      let del := d.perPipe i.pipes (fun d p => d.stationDel p (beNat (i.bytes 6 8)) (i.u 2 14))
      let ring := d.putImgs [(.DR_TRRING, [], i.w64 0), (.DR_TRCTL, [], F.DR_TRCTL_en.put (i.w64 8) 1)]
      let tmpl := d.fwSet .DR_TCTL [u] [(F.DR_TCTL_en, i.u 1 8)]
      (A 0x0401 cmdStationAdd → i.pipes.all (fun p => add.1.getD p 0 == 2) = false → Gives (.stationAdd fn) d fn add.2 (add.1.flatMap (leBytes 1)))
        ∧ (A 0x0402 cmdStationDel → Gives (.stationDel fn) d fn del.2 (del.1.flatMap (leBytes 1)))
        ∧ (A 0x0403 cmdStationFlush → ∃ e bs, Gives (.stationFlush fn) d fn e bs ∧ bs.length = 16 ∧
          ∀ k v, (k, v) ∈ e.st.station → (k, v) ∈ d.st.station)
        ∧ (A 0x0404 cmdStationRead → Gives (.stationRead fn) d fn d
          ((List.range (i.u 2 8)).flatMap (fun n => leBytes 16 (d.station (i.u 1 0) (i.u 4 4 + n)).toNat)))
        ∧ (A 0x0405 cmdStationConfig → Writes (.stationConfig fn) d fn
          (i.pipes.flatMap (fun p => [(.ST_PCFG, [p], i.w64 8), (.ST_AGE, [p], i.w64 16), (.ST_MOVE, [p], i.w64 24)])) [])
        ∧ (A 0x0406 cmdStreamSet → Gives (.streamSet fn) d fn (d.streamWrite u (BitVec.ofNat 128 (i.u 16 8))) [])
        ∧ (A 0x0407 cmdStreamGet → Gives (.streamGet fn) d fn d (leBytes 16 (d.streamRaw u).toNat))
        ∧ (A 0x0408 cmdMeterSet → Writes (.meterSet fn) d fn [(.ST_MTR, [u], i.w64 8)] [])
        ∧ (A 0x0409 cmdTableStats → u < 4 → Shows (.tableStats fn) d fn d i.clr [.c .ST_PCNT [u], .c .ST_PMOV [u], .c .ST_PERR [u]])
        ∧ (A 0x0409 cmdTableStats → u = 4 → Shows (.tableStats fn) d fn d i.clr [.c .ST_SSTAT [], .c .ST_SPERR []])
        ∧ (A 0x0501 cmdTemplateLoad → d.tmplOn u = false → d.rd (R.DR_TCTL u) F.DR_TCTL_live = 0 →
          Gives (.templateLoad fn) d fn (d.put (tmplAddr u) (i.bytes 256 8)) [])
        ∧ (A 0x0502 cmdTemplateEnable → tmpl.1 = true → Shows (.templateEnable fn) d fn tmpl.2 false [.s .DR_TCTL [u]])
        ∧ (A 0x0503 cmdTemplateStatus → Shows (.templateStatus fn) d fn d false [.s .DR_TCTL [u]])
        ∧ (A 0x0504 cmdAffinitySet → Gives (.affinitySet fn) d fn
          (d.putImgs ((List.range (i.u 2 2)).map (fun n => (.DR_AFF, [i.u 1 0, i.u 1 1 + n], BitVec.ofNat 64 (i.u 4 (8 + 4 * n)))))).2 [])
        ∧ (A 0x0505 cmdTwinConfig → Gives (.twinConfig fn) d fn ((d.fwSet .DR_CFG [] [(F.DR_CFG_twin_en, i.u 1 0)]).2.putImgs
            ((List.range 26).map (fun g => (.DR_TWIN, [g], BitVec.ofNat 64 (i.u 4 (8 + 4 * g)))))).2 [])
        ∧ (A 0x0506 cmdSchedStats → u < 26 → Shows (.schedStats fn) d fn d i.clr ((List.range 8).flatMap (fun c =>
            [.c .DR_CQ [u, c], .c .DR_CLOAD [u, c]] ++ (List.range 4).map (fun k => .c .DR_CHIST [u, c, k])) ++ [.c .DR_GSTAT [u]]))
        ∧ (A 0x0506 cmdSchedStats → 26 ≤ u → Shows (.schedStats fn) d fn d i.clr [.s .DR_PSTAT [u - 26], .c .DR_PSTAT [u - 26], .c .DR_PCNT [u - 26]])
        ∧ (A 0x0507 cmdTraceStart → d.on R.DR_TRCTL F.DR_TRCTL_en = false → ring.1 = true → Gives (.traceStart fn) d fn ring.2 [])
        ∧ (A 0x0508 cmdTraceStop →
          Shows (.traceStop fn) d fn (d.fwSet .DR_TRCTL [] [(F.DR_TRCTL_en, 0)]).2 i.clr [.s .DR_TRSTAT [], .c .DR_TRSTAT []])
        ∧ (A 0x0509 cmdDraughtConfig → Writes (.draughtConfig fn) d fn [(.DR_CFG, [], i.w64 0), (.DR_HTO, [], i.w64 8)] []))
    ∧ (∀ (d : Dev) (fn : Fin 64) (img : Option (List Byte)),
      let i := d.request fn true none none
      let j := d.request fn true img none
      let A (code : Nat) (c : Cmd) : Prop := d.asked fn code c i = true
      let g := i.unit
      let c := i.u 1 8
      let rose := (d.putImgs [(.GL_ROSE0, [g, c], i.w64 16), (.GL_ROSE1, [g, c], i.w64 24)]).2
      let taken := d.takeFaults (i.u 1 4) (fun n => n == g || g == 2 ^ 32 - 1)
      let load (d : Dev) (g : Nat) : Dev :=
        let d := (d.fwSet .GL_FCLOAD [g] [(F.GL_FCLOAD_addr, i.u 8 8 / 64)]).2
        let d := (d.fwSet .GL_FCCTL [g] [(F.GL_FCCTL_face_div, i.u 1 16), (F.GL_FCCTL_auto_restart, i.u 1 17), (F.GL_FCCTL_load, 1)]).2
        if d.faceState g = 1 then d.faceLoadEnd g else d
      let loaded := i.gals.foldl load d
      let ran := i.gals.foldl (fun (d : Dev) g => (d.fwSet .GL_FCCTL [g] [(F.GL_FCCTL_run, i.u 1 4)]).2) d
      let b := R.PH_BIND g
      let blk := d.setBlkWord (d.rd b F.PH_BIND_gallery) (d.rd b F.PH_BIND_slot) 0
        (withBit (d.blkWord (d.rd b F.PH_BIND_gallery) (d.rd b F.PH_BIND_slot) 0) 63 false)
      let freed := (blk.fwSet .PH_BIND [g] [(F.PH_BIND_valid, 0)]).2
      (∀ bs x e, d.asked fn 0x0601 cmdGalleryLoad j = true → d.galActive g = false → d.smRead 0 (i.u 8 8) (i.u 4 16) = (.ok x, e) → img = some bs →
          Gives (.galleryLoad fn img) d fn (e.loadImage g bs) [])
        ∧ (A 0x0602 cmdGalleryStatus → Shows (.galleryStatus fn) d fn d i.clr
          ([.s .GL_STAT [g], .c .GL_ECC [g]] ++ (List.range 64).map (fun t => .s .GL_TSTAT [g, t / 8, t % 8])))
        ∧ (A 0x0603 cmdRoseSet → d.on (R.GL_ROSECTL g c) F.GL_ROSECTL_pending = false → Shows (.roseSet fn) d fn
          (rose.fwSet .GL_ROSECTL [g, c] [(F.GL_ROSECTL_commit, 1)]).2 false [.s .GL_ROSECTL [g, c]])
        ∧ (A 0x0604 cmdFaultRead → Gives (.faultRead fn) d fn taken.2 (leBytes 8 taken.1.length ++ taken.1.flatMap (fun r => leBytes 24 r.toNat)))
        ∧ (A 0x0605 cmdGalleryReset → i.u 1 4 = 0 → Gives (.galleryReset fn) d fn (d.fwSet .GL_CTL [g] [(F.GL_CTL_gal_rst, 1)]).2 [])
        ∧ (A 0x0605 cmdGalleryReset → i.u 1 4 = 1 → Gives (.galleryReset fn) d fn (d.fwSet .GL_CTL [g] [(F.GL_CTL_core_rst, i.u 1 5)]).2 [])
        ∧ (A 0x0606 cmdThreadReset → i.u 1 4 = 0 → Gives (.threadReset fn) d fn (d.fwSet .GL_TCTL [g / 64, g / 8 % 8, g % 8] [(F.GL_TCTL_rst, 1)]).2 [])
        ∧ (A 0x0606 cmdThreadReset → i.u 1 4 = 1 → Gives (.threadReset fn) d fn (d.fwSet .GL_TCTL [g / 64, g / 8 % 8, g % 8] [(F.GL_TCTL_kill, 1)]).2 [])
        ∧ (A 0x0701 cmdFaceLoad → i.gals.any d.galActive = false → i.gals.any (fun g => loaded.faceState g == 0) = false →
          Gives (.faceLoad fn) d fn loaded (leBytes 4 (maskOf (i.gals.filter (fun g => loaded.faceState g == 2)))))
        ∧ (A 0x0702 cmdFaceRun → i.u 1 4 = 1 → i.gals.all (fun g => d.faceState g == 2) = true →
          Gives (.faceRun fn) d fn ran (leBytes 4 (maskOf (i.gals.filter (fun g => ran.faceState g == 3)))))
        ∧ (A 0x0702 cmdFaceRun → i.u 1 4 = 0 → Gives (.faceRun fn) d fn ran (leBytes 4 (maskOf (i.gals.filter (fun g => ran.faceState g == 3)))))
        ∧ (A 0x0703 cmdFaceStatus → Shows (.faceStatus fn) d fn d i.clr [.s .GL_FCSTAT [g], .c .GL_FCSTAT [g], .s .GL_FCID [g], .s .GL_FCINFO [g]])
        ∧ (A 0x0704 cmdCpStats → Shows (.cpStats fn) d fn d i.clr [.c .GL_CPSTAT [g], .s .GL_CP2STAT [g], .c .GL_CP2STAT [g]])
        ∧ (let out := d.rget (R.PH_OUT (g / 32))
          let dom := i.u 2 8 % 2 ^ 14 * 4 + i.u 1 10
          let m := d.streamMap (i.u 2 8)
          let a := R.DR_AFF m.1 (crc32c (leBytes 2 dom) % 256)
          let gal := m.2.rd a F.DR_AFF_gallery
          ∀ slot, A 0x0801 cmdPhasorBind → F.PH_OUT_f60.get out = i.u 1 12 → outOk out = true → m.2.on a F.DR_AFF_valid = true → gal < 26 →
            m.2.freeBlock gal g = some slot →
            let x := (m.2.writeBlock gal slot (bindBlock i out)).fwSet .PH_BIND [g]
              [(F.PH_BIND_sh, i.u 2 8), (F.PH_BIND_gallery, gal), (F.PH_BIND_slot, slot), (F.PH_BIND_valid, 1)]
            x.1 = true → Gives (.phasorBind fn) d fn { x.2 with ph := { x.2.ph with copies := x.2.ph.copies.put g ⟨bindBlock i out, m.1, dom⟩ } }
              (leBytes 2 gal ++ leBytes 2 slot))
        ∧ (A 0x0802 cmdPhasorUnbind → d.on b F.PH_BIND_valid = true → Gives (.phasorUnbind fn) d fn
          { freed with ph := { freed.ph with copies := freed.ph.copies.del g, rewrite := freed.ph.rewrite.filter (· != g) } } [])
        ∧ (A 0x0803 cmdPhasorEnable → Gives (.phasorEnable fn) d fn (d.fwSet .PH_CFG [] [(F.PH_CFG_en, i.u 1 0)]).2 [])
        ∧ (A 0x0804 cmdPmuOutputSet → (d.putImg .PH_OUT [g] (i.w64 8)).1 = true →
          Gives (.pmuOutputSet fn) d fn ((d.putImg .PH_OUT [g] (i.w64 8)).2.put (0xC20000 + g * 0x40) (i.bytes 64 16)) [])
        ∧ (A 0x0805 cmdPhasorStatus → d.on b F.PH_BIND_valid = true →
          let x := d.parts fn false [.s .PH_BIND [g]]
          Gives (.phasorStatus fn) d fn x.2 (x.1 ++ x.2.bytes (blockAddr (x.2.rd b F.PH_BIND_gallery) (x.2.rd b F.PH_BIND_slot)) 64))
        ∧ (A 0x0806 cmdPmuStats → g < 1024 → Shows (.pmuStats fn) d fn d i.clr [.c .PH_OCNT [g]])
        ∧ (A 0x0806 cmdPmuStats → 1024 ≤ g → Shows (.pmuStats fn) d fn d i.clr [.c .PH_STAT []]))

/-- The commands of Lode, the Token board and Hoist (R239, R242, R256 to R260, R268, R277, R279, R283, R284, R374).

The commands of Crosscut and Bin (R307, R308, R310, R319, R320, R330, R374). -/
def Obligations.CageLodeAndSwitch : Prop :=
  (∀ (d : Dev) (fn : Fin 64) (bad : LodeErr),
      let i := d.request fn true none none
      let A (code : Nat) (c : Cmd) : Prop := d.asked fn code c i = true
      let m := bad.at
      let u := i.unit
      let swept := d.rget R.LD_SWEEP
      let kinds := (d.fwSet .LD_KIND [i.u 1 0] [(F.LD_KIND_exp_rm, i.u 1 1), (F.LD_KIND_active_sw, i.u 1 2)]).2
      let rings := kinds.putImgs [(.LD_EXPRING, [], i.w64 8), (.LD_EXPIDX, [], i.w64 16)]
      let tmo := (d.putImg .LD_TMO [u] (i.w64 8)).2
      let cfg := ((d.putImg .LD_CFG [] (i.w64 0)).2.fwSet .LD_KIND [0x40] [(F.LD_KIND_forget_ms, i.u 2 8)]).2
      let lock := d.parts fn false [.s .TK_LOCK [u]]
      let recs := lock.2.tk.records
      let left : Dev := { lock.2 with tk := { lock.2.tk with records := recs.drop (i.u 1 4) } }
      let ho := d.parts fn i.clr [.c .HO_CNT [], .c .HO_VCNT0 [], .c .HO_VCNT1 [], .c .HO_ERR [], .s .HO_OCC [], .s .HO_LATE []]
      (∀ x e, d.asked fn 0x0901 cmdLodeOp (d.request fn true none m) = true → d.fwLode (i.u 1 0) (i.u 1 1 == 1) (i.bytes 32 8) 0 m = (some x, e) →
          Gives (.lodeOp fn bad) d fn e (lodeReply x (i.u 1 1 == 1)))
        ∧ (∀ x e, d.asked fn 0x0902 cmdLodeRead (d.request fn true none m) = true → d.fwLode 9 (i.u 1 4 == 1) (indexArgs u) 0 m = (some x, e) →
          Gives (.lodeRead fn bad) d fn e (lodeReply x (i.u 1 4 == 1)))
        ∧ (∀ x e, A 0x0903 cmdLodeWrite → d.fwLode 10 false (indexArgs u) (BitVec.ofNat 512 (i.u 64 8)) none = (some x, e) →
          Gives (.lodeWrite fn) d fn e (leBytes 8 x.word))
        ∧ (A 0x0904 cmdLodeFlush → d.on R.LD_SWEEP F.LD_SWEEP_flushing = false → Gives (.lodeFlush fn) d fn
          (d.fwSet .LD_SWEEP [] [(F.LD_SWEEP_flush_kind, i.u 1 0), (F.LD_SWEEP_flush_pin, i.u 1 1), (F.LD_SWEEP_flush, 1)]).2 [])
        ∧ (A 0x0905 cmdLodeExportSet → rings.1 = true → Gives (.lodeExportSet fn) d fn rings.2 [])
        ∧ (A 0x0906 cmdLodeAnomalyRead → Gives (.lodeAnomalyRead fn) d fn { d with ld := { d.ld with fwd := d.ld.fwd.drop (i.u 1 0) } }
          (leBytes 8 (d.ld.fwd.take (i.u 1 0)).length ++ (d.ld.fwd.take (i.u 1 0)).flatMap (fun e => leBytes 16 e.toNat)))
        ∧ (A 0x0907 cmdLodeStats → Shows (.lodeStats fn) d fn d i.clr
          [.c .LD_STAT [], .s .LD_OCC [], .c .LD_EXPSTAT [], .c .LD_ANSTAT [], .c .LD_ECC [], .s .LD_REPAIR [u], .c .LD_QSTAT [u]])
        ∧ (A 0x0908 cmdLodeAgeSet → tmo.rget R.LD_SWEEP = swept → Gives (.lodeAgeSet fn) d fn (tmo.putImg .LD_SWEEP []
          (F.LD_SWEEP_flush_kind.put (F.LD_SWEEP_flush_pin.put (i.w64 16) (F.LD_SWEEP_flush_pin.get swept)) (F.LD_SWEEP_flush_kind.get swept))).2 [])
        ∧ (A 0x0909 cmdLodeConfig → Gives (.lodeConfig fn) d fn
          ((List.range 256).foldl (fun (d : Dev) t => (d.fwSet .LD_TDEF [t] [(F.LD_TDEF_action, i.u 1 (16 + t))]).2) cfg) [])
        ∧ (A 0x0A01 cmdLockGroupSet → Writes (.lockGroupSet fn) d fn [(.TK_GRP, [u], i.w64 8)] [])
        ∧ (A 0x0A02 cmdLockStatus → Gives (.lockStatus fn) d fn (left.wr R.TK_RSTAT F.TK_RSTAT_depth left.tk.records.length)
          (lock.1 ++ leBytes 8 (recs.take (i.u 1 4)).length ++ (recs.take (i.u 1 4)).flatMap (fun r => leBytes 16 r.toNat)))
        ∧ (A 0x0A03 cmdChannelSet → Writes (.channelSet fn) d fn [(.TK_CHAN, [u], i.w64 8)] [])
        ∧ (A 0x0A04 cmdDoldrumsConfig → Writes (.doldrumsConfig fn) d fn
          ((.TK_DOLCFG, [u], i.w64 8) :: (List.range 8).map (fun w => (.TK_WGRP, [u, w], i.w64 (16 + 8 * w)))) [])
        ∧ (A 0x0A05 cmdTokenStats → u < 26 → Shows (.tokenStats fn) d fn d i.clr [.s .TK_DOLSTAT [u], .c .TK_DOLSTAT [u]])
        ∧ (A 0x0A05 cmdTokenStats → 26 ≤ u → Shows (.tokenStats fn) d fn d i.clr [.c .TK_STAT [], .c .TK_RSTAT []])
        ∧ (A 0x0A06 cmdLockForceRelease → Gives (.lockForceRelease fn) d fn (lock.2.abandonLock u 4) lock.1)
        ∧ (A 0x0B01 cmdHoistStats → Gives (.hoistStats fn) d fn (ho.2.wrIf i.clr R.HO_LATE F.HO_LATE_valid 0) ho.1)
        ∧ (A 0x0B02 cmdHoistDomainRead → Gives (.hoistDomainRead fn) d fn d (leBytes 8 (d.domStat u)))
        ∧ (A 0x0B03 cmdHoistConfig → Writes (.hoistConfig fn) d fn [(.HO_CFG, [], i.w64 0), (.HO_PART, [], i.w64 8)] []))
    ∧ (∀ (d : Dev) (fn : Fin 64),
      let i := d.request fn true none none
      let A (code : Nat) (c : Cmd) : Prop := d.asked fn code c i = true
      let n := i.unit
      (A 0x0C01 cmdMcastGroupSet → Writes (.mcastGroupSet fn) d fn [(.XC_GRP, [n], i.w64 8)] [])
        ∧ (A 0x0C02 cmdMcastGroupGet → Shows (.mcastGroupGet fn) d fn d false [.s .XC_GRP [n]])
        ∧ (A 0x0C03 cmdMirrorSet → Writes (.mirrorSet fn) d fn [(.XC_MIRSES, [n], i.w64 8)] [])
        ∧ (A 0x0C04 cmdSwitchPortSet → Writes (.switchPortSet fn) d fn [(.XC_PORT, [n], i.w64 8)] [])
        ∧ (A 0x0C05 cmdCaptureSet → Writes (.captureSet fn) d fn [(.XC_CAPRING, [], i.w64 0), (.XC_CAPIDX, [], i.w64 8)] [])
        ∧ (A 0x0C06 cmdCaptureStatus → Shows (.captureStatus fn) d fn d i.clr [.s .XC_CAPIDX [], .c .XC_CAPSTAT []])
        ∧ (A 0x0C07 cmdPlaneStatus → Shows (.planeStatus fn) d fn d i.clr [.s .XC_CFG [], .s .XC_PLMAP [], .s .XC_PLMOVE [], .c .XC_PLLOST []])
        ∧ (A 0x0C08 cmdSwitchStats → n < 32 → Shows (.switchStats fn) d fn d i.clr [.s .XC_PORT [n], .c .XC_PORT [n], .c .XC_PCNT [n]])
        ∧ (A 0x0C08 cmdSwitchStats → 32 ≤ n → n < 44 →
          Shows (.switchStats fn) d fn d i.clr [.s .XC_ROWSTAT [n - 32], .c .XC_ROWSTAT [n - 32], .c .XC_ROWREF [n - 32]])
        ∧ (A 0x0C08 cmdSwitchStats → 44 ≤ n → n < 56 → Shows (.switchStats fn) d fn d i.clr [.s .XC_COL [n - 44], .c .XC_COL [n - 44]])
        ∧ (A 0x0C08 cmdSwitchStats → n = 56 → Shows (.switchStats fn) d fn d i.clr
          ([.c .XC_ERR [], .c .XC_LENERR []] ++ (List.range 15).map (fun s => .c .XC_MIRCNT [s + 1])))
        ∧ (A 0x0C09 cmdSwitchThreshSet → Writes (.switchThreshSet fn) d fn [(.XC_ROWTHR, [n], i.w64 8)] [])
        ∧ (A 0x0C0A cmdPlaneMapSet → Writes (.planeMapSet fn) d fn [(.XC_PLMAP, [], i.w64 0)] [])
        ∧ (A 0x0C0B cmdSwitchConfig → Writes (.switchConfig fn) d fn
          ((.XC_CFG, [], i.w64 0) :: (List.range 8).map (fun c => (.XC_RESLIM, [c], i.w64 (8 + 8 * c)))
            ++ (List.range 12).map (fun c => (.XC_COL, [c], i.w64 (72 + 8 * c)))) [])
        ∧ (A 0x0D01 cmdBinStats → Shows (.binStats fn) d fn d i.clr ([.s .BN_ROWSTAT [n], .c .BN_ROWSTAT [n]]
          ++ (List.range 34).map (fun q => .w (d.rd (R.BN_QUOTA q n) F.BN_QUOTA_used)) ++ [.c .BN_ERR [], .s .BN_BAD []]))
        ∧ (A 0x0D02 cmdBinQuotaSet → Writes (.binQuotaSet fn) d fn
          ((.BN_ROWCFG, [n], i.w64 8) :: (List.range 34).map (fun q => (.BN_QUOTA, [q, n], i.w64 (16 + 8 * q)))) []))

/-- The device-wide commands (R375, R391, R412, R475 to R477, R484, R489, R498). -/
def Obligations.CageDeviceCommands : Prop :=  ∀ (d : Dev) (fn : Fin 64) (ok : Bool),
    let i := d.request fn true none none
    let j := d.request fn ok none none
    let A (code : Nat) (c : Cmd) : Prop := d.asked fn code c i = true
    let B (code : Nat) (c : Cmd) : Prop := d.asked fn code c j = true
    let spare := d.fwSet .SM_SPARE [] [(F.SM_SPARE_src, i.u 1 0), (F.SM_SPARE_start, 1)]
    let force := d.force (i.u 1 0) (i.u 1 2 == 1) (i.u 1 1) ok 0
    let v : Word64 := BitVec.ofNat 64 (leNat (d.bg.snapshot.take 8))
    let t : Word64 := BitVec.ofNat 64 (leNat ((d.bg.snapshot.drop 8).take 4))
    let on := (List.range 50).foldl (fun a k => if d.domSt k = 2 then a + 2 ^ k else a) 0
    let p := i.u 1 0
    let staged := d.calStage (i.u 4 0) (i.bytes (i.u 2 4) 8)
    let set := (List.range 8192).map (fun o => staged.bg.staged.get 0 o)
    let rs := d.tallyRun p (i.u 4 4) (i.u 1 8)
    let lost := (d.pollReg .TL_LOST []).2
    let lim := d.fwSet .TL_LIM [i.u 2 0] [(F.TL_LIM_rate, i.u 2 2), (F.TL_LIM_burst, i.u 2 4)]
    (A 0x0F01 cmdSeamStatus → Shows (.seamStatus fn) d fn d i.clr (seamParts d))
      ∧ (A 0x0F02 cmdSeamSpare → spare.1 = true → Gives (.seamSpare fn) d fn spare.2 [])
      ∧ (A 0x0F11 cmdReliefStatus → Gives (.reliefStatus fn) d fn d
        (leBytes 4 (d.rd R.RL_GALSTAT F.RL_GALSTAT_active) ++ leBytes 4 (d.rd R.RL_GALSTAT F.RL_GALSTAT_relief)
          ++ leBytes 4 (d.rd R.RL_FENCE F.RL_FENCE_gallery) ++ leBytes 1 (b2n (!d.planeFenced 0) + 2 * b2n (!d.planeFenced 1))
          ++ leBytes 1 d.cg.om ++ leBytes 2 d.onSpare ++ leBytes 4 d.phasesLost ++ leBytes 4 d.rl.takeovers))
      ∧ (B 0x0F12 cmdReliefForce → force.1 = true → Gives (.reliefForce fn ok) d fn force.2 [])
      ∧ (A 0x0F21 cmdPowerStatus → Gives (.powerStatus fn) d fn d
        (leBytes 4 (F.PW_VMON_vmain_mv.get v) ++ leBytes 4 (F.PW_VMON_vkeep_mv.get v) ++ leBytes 4 (F.PW_VMON_pin_cw.get v * 10)
          ++ leBytes 2 (F.PW_THERM_tcp.get t) ++ leBytes 2 (F.PW_THERM_tj_max.get t) ++ leBytes 8 (b2n (d.powerMode == 2)) ++ leBytes 8 on))
      ∧ (A 0x1001 cmdPolicySet → Gives (.policySet fn) d fn (d.policySet p (i.u 1 1 == 1) (i.u 8 8)) [])
      ∧ (A 0x1002 cmdPolicyStatus → Gives (.policyStatus fn) d fn d
        (leBytes 8 (b2n (d.policyFixed p)) ++ leBytes 8 (d.policyParam p) ++ leBytes 8 (stampOf (d.bg.stamps.get 0 p))))
      ∧ (A 0x1003 cmdLedgerRead → Gives (.ledgerRead fn) d fn d
        (leBytes 8 d.bg.poweredS ++ leBytes 4 d.bg.cycles ++ (List.range 8).flatMap (fun b => leBytes 4 (d.bg.bands.get 0 b))
          ++ leBytes 4 (d.rd R.TL_WEAR F.TL_WEAR_erase_max) ++ leBytes 4 d.bg.rotations ++ leBytes 4 (d.rd R.BG_AGE F.BG_AGE_margin_mv)
          ++ leBytes 8 d.bg.calSec))
      ∧ (A 0x1004 cmdCalibRead → Gives (.calibRead fn) d fn d (d.bytes (calValue + i.u 4 0) (i.u 2 4)))
      ∧ (A 0x1005 cmdCalibWrite → i.u 1 6 = 0 → Gives (.calibWrite fn) d fn staged [])
      ∧ (A 0x1005 cmdCalibWrite → i.u 1 6 = 1 → calGood set = true → Gives (.calibWrite fn) d fn (staged.calCommit set) [])
      ∧ (A 0x1101 cmdTallyRead → rs ≠ [] → Gives (.tallyRead fn) d fn d (leBytes 8 rs.length ++ rs.flatMap (fun r => leBytes 64 r.toNat)))
      ∧ (A 0x1102 cmdTallyStatus → Gives (.tallyStatus fn) d fn lost
        (leBytes 4 (lost.rd R.TL_STAT F.TL_STAT_first_cnt) ++ leBytes 4 (lost.rd R.TL_STAT F.TL_STAT_next_idx)
          ++ leBytes 8 (lost.cg.acc.get 0 (accKey R.TL_LOST F.TL_LOST_suppressed)) ++ leBytes 4 (lost.rd R.TL_STAT F.TL_STAT_bad_blk)))
      ∧ (A 0x1103 cmdTallyLimit → lim.1 = true → Gives (.tallyLimit fn) d fn lim.2 [])
      ∧ (A 0x1201 cmdDebugChallenge → Gives (.debugChallenge fn) d fn d.challenge.2 (leBytes 32 d.challenge.1 ++ leBytes 8 Config.serial.toNat))
      ∧ (B 0x1202 cmdDebugUnlock → d.nonceStands = true → (d.unlockTry ok).1 = true → Gives (.debugUnlock fn ok) d fn (d.unlockTry ok).2 [])
      ∧ (A 0x1203 cmdDebugLock → Gives (.debugLock fn) d fn d.lockDebug [])

/-! ## Start-up and the resets -/

/-- Cold start and the stages (R455 to R466, R468): what a cold reset leaves, the straps, and the end of every stage.

A warm reset (R467, R468): it begins once every request has its reply; it keeps the time base, Tally, NOR and the strap, and starts
again at stage 2. -/
def Obligations.StartUp : Prop :=
  (∀ (d : Dev) (bootSel lullEn a b lock coreC : Bool) (passed : BitVec 5) (bad : BitVec 4) (gals : BitVec 26) (imgs bits : List (Fin 26 × List Byte))
      (reqs : List (BitVec 16 × List Byte)) (ports : BitVec 32) (f : Fin 4) (rows : List (Fin 8388608)),
      let boot := R.SY_BOOT
      let first := (d.bo.active + d.rd boot F.SY_BOOT_boot_sel) % 2
      let good (slot : Nat) : Bool := d.imageGood (d.bytes (slotAddr slot) 256) (if slot = 0 then a else b)
      let v := d.bytes calValue 8192
      let after := if d.bo.lodeUp then 7 else 6
      (d.powerMode = 4 → ∃ e, Does .coldReset d e ∧ e.stage = 1 ∧ e.now = 0 ∧ (∀ k, k < 50 → e.domSt k = 0) ∧ e.threads = [] ∧ e.frames = []
          ∧ e.devState = 0 ∧ (∀ x, e.byte x = if 2 ^ 44 ≤ x ∧ x < 2 ^ 45 then d.byte x else memDefault x))
        ∧ (d.powerMode ≠ 4 → Does .coldReset d { d with bo := { d.bo with vmain := true } })
        ∧ (d.stage = 1 → Does (.strapSample bootSel lullEn) d
          ((d.wr boot F.SY_BOOT_boot_sel (b2n bootSel)).wr R.PW_LSTAT F.PW_LSTAT_lull_en (b2n lullEn)))
        ∧ (d.stage = 1 → ∃ e, Does (.startupStageEnd .straps) d e ∧ e.stage = 2)
        ∧ (d.stage = 2 → good first = true → lock = true → ∃ e, Does (.startupStageEnd (.verify a b lock coreC)) d e ∧ e.stage = 3
            ∧ e.rd boot F.SY_BOOT_slot = first ∧ e.domSt 48 = 2)
        ∧ (d.stage = 2 → good first = false → good (1 - first) = false → ∃ e, Does (.startupStageEnd (.verify a b lock coreC)) d e
            ∧ e.stage = 15 ∧ e.rd boot F.SY_BOOT_fail = 1 ∧ e.devState = 4)
        ∧ (d.stage = 3 → leNat (v.drop 8188) = crc32c (v.take 8188) → v = (d.bytes calComp 8192).map (fun b => ~~~ b) →
            ∃ e, Does (.startupStageEnd .calib) d e ∧ e.stage = 4 ∧ e.bytes (calAddr 0) 8192 = v)
        ∧ (d.stage = 4 → ∃ e, Does (.startupStageEnd (.ramp true)) d e ∧ e.stage = 5 ∧ ∀ k, k < 50 → e.domSt k = 2)
        ∧ (d.stage = 4 → ∃ e, Does (.startupStageEnd (.ramp false)) d e ∧ e.stage = 15 ∧ e.rd boot F.SY_BOOT_fail = 5 ∧ e.devState = 4)
        ∧ (d.stage = 5 → d.ledgerNewest = none → (∀ c, c < 5 → d.smState c ≠ 4) → (∀ l, l < 4 → d.smPhys l = l) → passed = 0x1F →
            ∃ e, Does (.startupStageEnd (.train passed)) d e ∧ e.bo.trained = true ∧ e.stage = after ∧ (∀ c, c < 4 → e.smState c = 2) ∧ e.smState 4 = 3)
        ∧ (d.stage = 5 → d.bo.lodeUp = false → d.bo.trained = false →
            ∃ e, Does (.startupStageEnd (.lode 0 [])) d e ∧ e.bo.lodeUp = true ∧ e.stage = 5)
        ∧ (d.stage = 6 → d.bo.trained = true → ∃ e, Does (.startupStageEnd (.lode 0 [])) d e ∧ e.stage = 7)
        ∧ (d.stage = 5 ∨ d.stage = 6 → d.bo.lodeUp = false → Does (.startupStageEnd (.lode bad rows)) d (d.endLode bad rows))
        ∧ (d.stage = 7 → ∃ e, Does (.startupStageEnd (.selftest gals none)) d e ∧ e.stage = 8
            ∧ e.bo.galBad = (List.range 26).filter (fun g => bitAt gals.toNat g))
        ∧ (d.stage = 7 → ∃ e, Does (.startupStageEnd (.selftest gals (some f))) d e ∧ e.stage = 15 ∧ e.rd boot F.SY_BOOT_fail = 4 ∧ e.devState = 4)
        ∧ (d.stage = 8 → ∃ e, Does (.startupStageEnd (.config imgs bits)) d e ∧ e.stage = 9 ∧ e.on R.LD_CFG F.LD_CFG_en = true
            ∧ e.on R.SM_CFG F.SM_CFG_en = true ∧ e.on R.XC_CFG F.XC_CFG_en = true ∧ e.on R.HI_CFG F.HI_CFG_en = true)
        ∧ (d.stage = 9 → d.devState = 0 → ∃ e, Does (.startupStageEnd .ready) d e ∧ e.stage = 10 ∧ e.devState = 1)
        ∧ (d.stage = 10 → ∃ e, Does (.startupStageEnd (.apply reqs ports)) d e ∧ e.stage = 11 ∧ e.bo.warm = false)
        ∧ (1 ≤ d.stage → d.stage ≤ 10 → d.bo.began + msU (2 * stageMax d.stage) < d.now → ∃ e, Does .stageTimeout d e ∧ e.stage = 15 ∧ e.rd boot F.SY_BOOT_fail = 6 ∧ e.devState = 4
            ∧ e.on R.RL_FAULT F.RL_FAULT_boot = true))
    ∧ (∀ d : Dev, d.bo.warmReq = true → d.powerMode = 0 →
      (d.devState = 3 ∨ (List.range 64).any d.waiting = true → Does .warmResetBegin d d)
        ∧ (d.devState ≠ 3 → (List.range 64).any d.waiting = false → (∀ k, k < 4 → d.on (R.CG_GRANT k) F.CG_GRANT_valid = false) →
          ∃ e, Does .warmResetBegin d e ∧ e.stage = 2 ∧ e.on R.SY_BOOT F.SY_BOOT_warm = true ∧ e.now = d.now ∧ e.tb = { d.tb with volt := e.tb.volt }
            ∧ e.rget R.TB_CTL = d.rget R.TB_CTL ∧ e.rget R.TB_FREQ = d.rget R.TB_FREQ ∧ e.rget R.RL_FAULT = d.rget R.RL_FAULT
            ∧ e.rd R.SY_BOOT F.SY_BOOT_boot_sel = d.rd R.SY_BOOT F.SY_BOOT_boot_sel ∧ e.tl.nand = d.tl.nand ∧ e.threads = [] ∧ e.frames = []
            ∧ e.as.rules = [] ∧ ∀ x, e.byte x = if 2 ^ 44 ≤ x ∧ x < 2 ^ 45 then d.byte x else memDefault x))

/-! ## Reset, registers and memory -/

/-- After reset every register holds its reset value, start-up stands at its first stage, every domain is off, no frame, thread or command
is there, and the parse banks hold FAIL (R4, R101, R460). -/
def Obligations.ResetState : Prop :=  (∀ r : Reg, State.reset.dev.rget r = r.reset) ∧ State.reset.dev.stage = 1 ∧ (∀ k, k < 50 → State.reset.dev.domSt k = 0)
    ∧ State.reset.pending = [] ∧ State.reset.dev.frames = [] ∧ State.reset.dev.threads = [] ∧ State.reset.dev.mem = []
    ∧ (∀ slot n, slot < 2 → n < 1024 → State.reset.dev.load (bankAddr slot + 4 * n) 4 = 0xD0000020)

/-- The reset state meets the invariant of `EveryStepKeepsMemory`. -/
def Obligations.ResetMeetsInvariant : Prop := State.reset.Inv

/-- Whatever a step does, memory keeps its canonical form. -/
def Obligations.EveryStepKeepsMemory : Prop := ∀ s s' : State, s.Inv → step s = .next s' → s'.Inv

/-- A register holds what is written to it; a write of one field gives that field its value, cut to its width, and leaves the fields beside it
and every other register as they were; a counter counts up, and one that saturates stops at its end (R4). -/
def Obligations.RegisterFields : Prop :=  ∀ (d : Dev) (r : Reg) (f : Fld) (x : Nat), f.lo + f.w ≤ 64 →
    (∀ v, (d.rset r v).rget r = v)
      ∧ (d.wr r f x).rd r f = x % 2 ^ f.w
      ∧ (∀ g : Fld, g.lo + g.w ≤ 64 → g.lo + g.w ≤ f.lo ∨ f.lo + f.w ≤ g.lo → (d.wr r f x).rd r g = d.rd r g)
      ∧ (∀ q : Reg, q.addr ≠ r.addr → (d.wr r f x).rget q = d.rget q)
      ∧ (d.rd r f + x ≤ f.max → (d.inc r f x).rd r f = d.rd r f + x)
      ∧ (f.sat = true → f.max < d.rd r f + x → (d.inc r f x).rd r f = f.max)

/-- Memory: what is stored is read back, the bytes beside it stay, and a range struck from memory reads as unlisted. -/
def Obligations.MemoryReadWrite : Prop :=  ∀ (d : Dev) (a n x b : Nat) (bs : List Byte),
    (d.store a n x).load a n = x % 2 ^ (8 * n)
      ∧ (d.put a bs).bytes a bs.length = bs
      ∧ (b < a ∨ a + bs.length ≤ b → (d.put a bs).byte b = d.byte b)
      ∧ (b < a ∨ n ≤ b → (d.wipe a n).byte b = d.byte b)
      ∧ (a ≤ b → b < n → (d.wipe a n).byte b = memDefault b)
end

