-- ==== Sys2Proof/Laws/Tab.lean ====
section
/-!
SUPPORT. Sparse tables and memory: a table stays in canonical form, and a read after a write gives what was written.
-/

namespace Sys2Proof.Machine

theorem Tab.risesFrom_mono {α : Type} {lo hi : Nat} {m : Tab α} (h : Tab.risesFrom hi m = true) (hl : lo ≤ hi) :
    Tab.risesFrom lo m = true := by
  cases m with
  | nil => rfl
  | cons e r =>
    simp only [Tab.risesFrom, Bool.and_eq_true, decide_eq_true_eq] at h ⊢
    exact ⟨by omega, h.2⟩

/-- Striking a key keeps the order. -/
theorem Tab.strike_rises {α : Type} [DecidableEq α] {lo : Nat} {m : Tab α} (d : α) (k : Nat)
    (h : Tab.risesFrom lo m = true) : Tab.risesFrom lo (m.set d k d) = true := by
  induction m generalizing lo with
  | nil => simp [Tab.set, Tab.risesFrom]
  | cons e r ih =>
    obtain ⟨i, w⟩ := e
    simp only [Tab.risesFrom, Bool.and_eq_true, decide_eq_true_eq] at h
    simp only [Tab.set, if_true]
    split
    · exact ih (Tab.risesFrom_mono h.2 (by omega))
    · split <;> simp [Tab.risesFrom, h.1, ih h.2]

theorem Tab.set_rises {α : Type} [DecidableEq α] {lo : Nat} {m : Tab α} (d : α) (k : Nat) (v : α)
    (h : Tab.risesFrom lo m = true) (hk : lo ≤ k) : Tab.risesFrom lo (m.set d k v) = true := by
  by_cases hv : v = d
  · subst hv; exact Tab.strike_rises _ _ h
  · induction m generalizing lo with
    | nil => simp [Tab.set, Tab.risesFrom, hk, hv]
    | cons e r ih =>
      obtain ⟨i, w⟩ := e
      simp only [Tab.risesFrom, Bool.and_eq_true, decide_eq_true_eq] at h
      simp only [Tab.set, hv, if_false]
      split
      · subst i; simp [Tab.risesFrom, hk, h.2]
      · split
        · simp [Tab.risesFrom, h.2, hk]; omega
        · simp only [Tab.risesFrom, Bool.and_eq_true, decide_eq_true_eq]
          exact ⟨h.1, ih h.2 (by omega)⟩

theorem Tab.set_mem {α : Type} [DecidableEq α] {m : Tab α} {d : α} {k : Nat} {v : α} {e : Nat × α} (h : e ∈ m.set d k v) :
    e ∈ m ∨ (e = (k, v) ∧ v ≠ d) := by
  induction m with
  | nil => simp only [Tab.set] at h; split at h <;> simp_all
  | cons x r ih =>
    obtain ⟨i, w⟩ := x
    simp only [Tab.set] at h
    split at h
    · split at h
      · exact (ih h).imp_left (List.mem_cons_of_mem _)
      · rcases List.mem_cons.1 h with h | h
        · exact .inr ⟨h, by assumption⟩
        · exact .inl (List.mem_cons_of_mem _ h)
    · split at h
      · split at h
        · rcases List.mem_cons.1 h with h | h
          · exact .inl (h ▸ List.mem_cons_self)
          · exact (ih h).imp_left (List.mem_cons_of_mem _)
        · rcases List.mem_cons.1 h with h | h
          · exact .inr ⟨h, by assumption⟩
          · exact .inl h
      · rcases List.mem_cons.1 h with h | h
        · exact .inl (h ▸ List.mem_cons_self)
        · exact (ih h).imp_left (List.mem_cons_of_mem _)

/-- A read after a write to the same key gives the value written. -/
@[simp] theorem Tab.get_set_self {α : Type} [DecidableEq α] (m : Tab α) (d : α) (k : Nat) (v : α) : (m.set d k v).get d k = v := by
  simp only [Tab.get]
  induction m with
  | nil => simp only [Tab.set]; split <;> simp_all [Tab.find]
  | cons e r ih =>
    obtain ⟨i, w⟩ := e
    simp only [Tab.set]
    split
    · split
      · exact ih
      · simp [Tab.find]
    · split
      · split
        · rw [Tab.find, if_neg (by assumption)]; exact ih
        · simp [Tab.find]
      · rw [Tab.find, if_neg (by assumption)]; exact ih

/-- A write leaves every other key alone. -/
theorem Tab.get_set_other {α : Type} [DecidableEq α] {m : Tab α} (d d' : α) (k j : Nat) (v : α)
    (hj : j ≠ k) : (m.set d k v).get d' j = m.get d' j := by
  simp only [Tab.get]
  induction m with
  | nil => simp only [Tab.set]; split <;> simp [Tab.find, hj.symm]
  | cons e r ih =>
    obtain ⟨i, w⟩ := e
    simp only [Tab.set]
    split
    · subst i
      split <;> simp [Tab.find, hj.symm, ih]
    · split
      · split
        · simp only [Tab.find]; split
          · rfl
          · exact ih
        · simp [Tab.find, hj.symm]
      · simp only [Tab.find]; split
        · rfl
        · exact ih

theorem Tab.filter_rises {α : Type} {lo : Nat} {m : Tab α} (p : Nat × α → Bool) (h : Tab.risesFrom lo m = true) :
    Tab.risesFrom lo (m.filter p) = true := by
  induction m generalizing lo with
  | nil => rfl
  | cons e r ih =>
    obtain ⟨i, w⟩ := e
    simp only [Tab.risesFrom, Bool.and_eq_true, decide_eq_true_eq] at h
    simp only [List.filter]
    split
    · simp only [Tab.risesFrom, Bool.and_eq_true, decide_eq_true_eq]; exact ⟨h.1, ih h.2⟩
    · exact ih (Tab.risesFrom_mono h.2 (by omega))

/-! ## Memory -/

/-- Every memory operation keeps the canonical form. -/
theorem Memory.write_wf {m : List Host.Cell} (a : Nat) (v : Byte) (h : Memory.wf m = true) : Memory.wf (Memory.write m a v) = true := by
  simp only [Memory.wf, Bool.and_eq_true, List.all_eq_true, decide_eq_true_eq, Memory.write] at h ⊢
  refine ⟨Tab.set_rises _ _ _ h.1 (Nat.zero_le _), fun e he => ?_⟩
  rcases Tab.set_mem he with he | ⟨rfl, hv⟩
  · exact h.2 e he
  · exact hv

theorem Memory.writes_wf {m : List Host.Cell} (a : Nat) (bs : List Byte) (h : Memory.wf m = true) : Memory.wf (Memory.writes m a bs) = true := by
  induction bs generalizing m a with
  | nil => exact h
  | cons b r ih => exact ih _ (Memory.write_wf a b h)

theorem Memory.filter_wf {m : List Host.Cell} (p : Host.Cell → Bool) (h : Memory.wf m = true) : Memory.wf (m.filter p) = true := by
  simp only [Memory.wf, Bool.and_eq_true, List.all_eq_true, decide_eq_true_eq] at h ⊢
  exact ⟨Tab.filter_rises p h.1, fun e he => h.2 e ((List.mem_filter.1 he).1)⟩

theorem Memory.clear_wf {m : List Host.Cell} (lo hi : Nat) (h : Memory.wf m = true) : Memory.wf (Memory.clear m lo hi) = true :=
  Memory.filter_wf _ h

@[simp] theorem Memory.read_write_self (m : List Host.Cell) (a : Nat) (v : Byte) : Memory.read (Memory.write m a v) a = v :=
  Tab.get_set_self _ _ _ _

theorem Memory.read_write_other {m : List Host.Cell} (a b : Nat) (v : Byte) (hb : b ≠ a) : Memory.read (Memory.write m a v) b = Memory.read m b :=
  Tab.get_set_other _ _ _ _ _ hb

/-- Bytes outside those written read as before. -/
theorem Memory.read_writes_other {m : List Host.Cell} (a b : Nat) (bs : List Byte) (hb : b < a ∨ a + bs.length ≤ b) :
    Memory.read (Memory.writes m a bs) b = Memory.read m b := by
  induction bs generalizing m a with
  | nil => rfl
  | cons x r ih =>
    simp only [List.length_cons] at hb
    rw [Memory.writes, ih _ (by omega), Memory.read_write_other _ _ _ (by omega)]

@[simp] theorem Dev.put_wf (d : Dev) (a : Nat) (bs : List Byte) (h : Memory.wf d.mem = true) : Memory.wf (d.put a bs).mem = true :=
  Memory.writes_wf a bs h

@[simp] theorem Dev.store_wf (d : Dev) (a n x : Nat) (h : Memory.wf d.mem = true) : Memory.wf (d.store a n x).mem = true :=
  Memory.writes_wf a _ h

@[simp] theorem Dev.wipe_wf (d : Dev) (lo hi : Nat) (h : Memory.wf d.mem = true) : Memory.wf (d.wipe lo hi).mem = true :=
  Memory.clear_wf lo hi h

@[simp] theorem Dev.copyMem_wf (d : Dev) (src dst n : Nat) (h : Memory.wf d.mem = true) : Memory.wf (d.copyMem src dst n).mem = true := by
  have key : ∀ (l m : List Host.Cell), Memory.wf m = true →
      Memory.wf (l.foldl (fun m e => Memory.write m (e.1 - src + dst) e.2) m) = true := by
    intro l
    induction l with
    | nil => intro m hm; exact hm
    | cons e r ih => intro m hm; exact ih _ (Memory.write_wf _ _ hm)
  exact key _ _ (Dev.wipe_wf d _ _ h)

end Sys2Proof.Machine
end

