-- ==== Sys2Proof/Laws/Memory.lean ====
section
/-!
SUPPORT. What the operations on registers, bins, the switch, time, ports, the Seam, galleries, jobs and the Lode do to memory: most leave it
as it was, and each that stores into it keeps its canonical form.
-/

namespace Sys2Proof.Machine

set_option linter.unusedSimpArgs false
set_option linter.unreachableTactic false
set_option linter.unusedTactic false
set_option linter.unnecessarySeqFocus false
set_option linter.unusedVariables false

@[simp] theorem ite_mem (c : Prop) [Decidable c] (a b : Dev) : (if c then a else b).mem = if c then a.mem else b.mem := by split <;> rfl
@[simp] theorem ite_snd_mem {α : Type} (c : Prop) [Decidable c] (a b : α × Dev) : (if c then a else b).2.mem = if c then a.2.mem else b.2.mem := by split <;> rfl
@[simp] theorem ite_snd2_mem {α β : Type} (c : Prop) [Decidable c] (a b : α × β × Dev) : (if c then a else b).2.2.mem = if c then a.2.2.mem else b.2.2.mem := by split <;> rfl
@[simp] theorem foldl_mem {α : Type} (f : Dev → α → Dev) (h : ∀ d x, (f d x).mem = d.mem) (l : List α) (d : Dev) : (l.foldl f d).mem = d.mem := by
  induction l generalizing d with
  | nil => rfl
  | cons a l ih => simp [ih, h]
@[simp] theorem foldl_snd_mem {α β : Type} (f : β × Dev → α → β × Dev) (h : ∀ a x, (f a x).2.mem = a.2.mem) (l : List α) (a : β × Dev) : (l.foldl f a).2.mem = a.2.mem := by
  induction l generalizing a with
  | nil => rfl
  | cons x l ih => simp [ih, h]
@[simp] theorem foldl_snd2_mem {α β γ : Type} (f : β × γ × Dev → α → β × γ × Dev) (h : ∀ a x, (f a x).2.2.mem = a.2.2.mem) (l : List α) (a : β × γ × Dev) : (l.foldl f a).2.2.mem = a.2.2.mem := by
  induction l generalizing a with
  | nil => rfl
  | cons x l ih => simp [ih, h]
abbrev okM (m : List Host.Cell) : Prop := Memory.wf m = true
theorem foldl_ok {α : Type} (f : Dev → α → Dev) (h : ∀ d x, Memory.wf d.mem = true → Memory.wf (f d x).mem = true) (l : List α) (d : Dev) (hd : Memory.wf d.mem = true) : Memory.wf (l.foldl f d).mem = true := by
  induction l generalizing d with
  | nil => simpa using hd
  | cons a l ih => simp only [List.foldl_cons]; exact ih _ (h _ _ hd)
theorem foldl_snd_ok {α β : Type} (f : β × Dev → α → β × Dev) (h : ∀ a x, Memory.wf a.2.mem = true → Memory.wf (f a x).2.mem = true) (l : List α) (a : β × Dev) (hd : Memory.wf a.2.mem = true) : Memory.wf (l.foldl f a).2.mem = true := by
  induction l generalizing a with
  | nil => simpa using hd
  | cons x l ih => simp only [List.foldl_cons]; exact ih _ (h _ _ hd)
theorem foldl_snd2_ok {α β γ : Type} (f : β × γ × Dev → α → β × γ × Dev) (h : ∀ a x, Memory.wf a.2.2.mem = true → Memory.wf (f a x).2.2.mem = true) (l : List α) (a : β × γ × Dev) (hd : Memory.wf a.2.2.mem = true) : Memory.wf (l.foldl f a).2.2.mem = true := by
  induction l generalizing a with
  | nil => simpa using hd
  | cons x l ih => simp only [List.foldl_cons]; exact ih _ (h _ _ hd)
theorem snd_eq {α β : Type} {e : α × β} {a : α} {b : β} (h : e = (a, b)) : b = e.2 := by rw [h]
theorem snd2_eq {α β γ : Type} {e : α × β × γ} {a : α} {b : β} {c : γ} (h : e = (a, b, c)) : c = e.2.2 := by rw [h]

@[simp] theorem Dev.rset_mem (d : Dev) (r : Reg) (v : Word64) : (Dev.rset d r v).mem = d.mem := (rfl)

@[simp] theorem Dev.wr_mem (d : Dev) (r : Reg) (f : Fld) (x : Nat) : (Dev.wr d r f x).mem = d.mem := (rfl)

@[simp] theorem Dev.wrIf_mem (d : Dev) (c : Bool) (r : Reg) (f : Fld) (x : Nat) : (Dev.wrIf d c r f x).mem = d.mem := by
  simp [Dev.wrIf, -List.foldl_append]

@[simp] theorem Dev.fresh_mem (d : Dev) (w : Nat) : (Dev.fresh d w).2.mem = d.mem := (rfl)

@[simp] theorem Dev.inc_mem (d : Dev) (r : Reg) (f : Fld) (n : Nat) : (Dev.inc d r f n).mem = d.mem := by
  simp [Dev.inc, -List.foldl_append]

@[simp] theorem Dev.markHigh_mem (d : Dev) (r : Reg) (f : Fld) (x : Nat) : (Dev.markHigh d r f x).mem = d.mem := by
  simp [Dev.markHigh, -List.foldl_append]

@[simp] theorem Dev.markLow_mem (d : Dev) (r : Reg) (f : Fld) (x : Nat) : (Dev.markLow d r f x).mem = d.mem := by
  simp [Dev.markLow, -List.foldl_append]

@[simp] theorem Dev.out_mem (d : Dev) (o : Out) : (Dev.out d o).mem = d.mem := by
  unfold Dev.out; (repeat' split) <;> simp

@[simp] theorem Dev.tally_mem (d : Dev) (code unit : Nat) (data : List Nat) (count : Nat) : (Dev.tally d code unit data count).mem = d.mem := (rfl)

@[simp] theorem Dev.event_mem (d : Dev) (code unit detail : Nat) (extra : Nat) : (Dev.event d code unit detail extra).mem = d.mem := (rfl)

@[simp] theorem Dev.alarmEdge_mem (was : Bool) (d : Dev) : (Dev.alarmEdge was d).mem = d.mem := by
  simp [Dev.alarmEdge, -List.foldl_append]

@[simp] theorem Dev.alarm_mem (d : Dev) (f : Fld) (on : Bool) : (Dev.alarm d f on).mem = d.mem := by
  simp [Dev.alarm, -List.foldl_append]

@[simp] theorem Dev.alarmOnce_mem (d : Dev) (f : Fld) : (Dev.alarmOnce d f).mem = d.mem := by
  simp [Dev.alarmOnce, -List.foldl_append]

@[simp] theorem Dev.policyChange_mem (d : Dev) (p new unit : Nat) : (Dev.policyChange d p new unit).mem = d.mem := (rfl)

@[simp] theorem Dev.stat_mem (d : Dev) (p i : Nat) (n : Nat) : (Dev.stat d p i n).mem = d.mem := (rfl)

@[simp] theorem Dev.modPort_mem (d : Dev) (p : Nat) (f : Port → Port) : (Dev.modPort d p f).mem = d.mem := (rfl)

@[simp] theorem Dev.setVolt_mem (d : Dev) (isl mhz : Nat) : (Dev.setVolt d isl mhz).mem = d.mem := (rfl)

@[simp] theorem Dev.isleStart_mem (d : Dev) (isl : Nat) : (Dev.isleStart d isl).mem = d.mem := by
  unfold Dev.isleStart; (repeat' split) <;> simp

@[simp] theorem Dev.isleStop_mem (d : Dev) (isl : Nat) : (Dev.isleStop d isl).mem = d.mem := (rfl)

@[simp] theorem Dev.clampDom_mem (d : Dev) (dom : Nat) : (Dev.clampDom d dom).mem = d.mem := by
  simp [Dev.clampDom, -List.foldl_append]

@[simp] theorem Dev.prevEnds_mem (d : Dev) : (Dev.prevEnds d).mem = d.mem := (rfl)

@[simp] theorem Dev.prevDrain_mem (d : Dev) : (Dev.prevDrain d).mem = d.mem := by
  simp [Dev.prevDrain, -List.foldl_append]

@[simp] theorem Dev.tubEnd_mem (d : Dev) (h : Nat) : (Dev.tubEnd d h).mem = d.mem := by
  unfold Dev.tubEnd; (repeat' split) <;> simp

@[simp] theorem Dev.setFrame_mem (d : Dev) (h : Nat) (f : Frame) : (Dev.setFrame d h f).mem = d.mem := (rfl)

@[simp] theorem Dev.modFrame_mem (d : Dev) (h : Nat) (f : Frame → Frame) : (Dev.modFrame d h f).mem = d.mem := by
  unfold Dev.modFrame; (repeat' split) <;> simp

@[simp] theorem Dev.setEntry_mem (d : Dev) (row idx : Nat) (v : Word64) : (Dev.setEntry d row idx v).mem = d.mem := (rfl)

@[simp] theorem Dev.sendPause_mem (d : Dev) (row : Nat) (on : Bool) : (Dev.sendPause d row on).mem = d.mem := by
  unfold Dev.sendPause; (iterate 3 (all_goals ((repeat' split) <;> (try simp only [Prod.ext_iff] at *) <;> (try casesm* _ ∧ _) <;> (try subst_vars) <;> (try simp) <;> (try refine foldl_mem _ (fun d x => ?_) _ _))))

@[simp] theorem Dev.pauseCheck_mem (d : Dev) (row : Nat) : (Dev.pauseCheck d row).mem = d.mem := by
  simp [Dev.pauseCheck, -List.foldl_append]

@[simp] theorem Dev.setRow_mem (d : Dev) (row free resv : Nat) : (Dev.setRow d row free resv).mem = d.mem := by
  simp [Dev.setRow, -List.foldl_append]

@[simp] theorem Dev.useQuota_mem (d : Dev) (tag row : Nat) (add sub : Nat) : (Dev.useQuota d tag row add sub).mem = d.mem := by
  unfold Dev.useQuota; (repeat' split) <;> simp

@[simp] theorem Dev.setResv_mem (d : Dev) (row tag n : Nat) : (Dev.setResv d row tag n).mem = d.mem := (rfl)

@[simp] theorem Dev.binRefuse_mem (d : Dev) (f : Fld) (req tag ptr : Nat) : (Dev.binRefuse d f req tag ptr).mem = d.mem := by
  simp [Dev.binRefuse, -List.foldl_append]

@[simp] theorem Dev.linkFault_mem (d : Dev) (row : Nat) : (Dev.linkFault d row).mem = d.mem := by
  simp [Dev.linkFault, -List.foldl_append]

@[simp] theorem Dev.pop_mem (d : Dev) (row : Nat) : (Dev.pop d row).2.mem = d.mem := by
  unfold Dev.pop; (repeat' split) <;> simp

@[simp] theorem Dev.push_mem (d : Dev) (row c : Nat) (hm : Memory.wf d.mem = true) : Memory.wf (Dev.push d row c).mem = true := by
  simp (maxDischargeDepth := 40) [Dev.push, hm, -List.foldl_append]

@[simp] theorem Dev.alloc_mem (d : Dev) (row tag : Nat) (at_ : Option Nat) : (Dev.alloc d row tag at_).2.mem = d.mem := by
  unfold Dev.alloc; (iterate 3 (all_goals ((repeat' split) <;> (try simp only [Prod.ext_iff] at *) <;> (try casesm* _ ∧ _) <;> (try subst_vars) <;> (try simp) <;> (try refine foldl_mem _ (fun d x => ?_) _ _))))

@[simp] theorem Dev.reserve_mem (d : Dev) (row tag n : Nat) (cls7 : Bool) : (Dev.reserve d row tag n cls7).2.mem = d.mem := by
  simp [Dev.reserve, -List.foldl_append]

@[simp] theorem Dev.cutPop_mem (d : Dev) (row : Nat) : (Dev.cutPop d row).2.mem = d.mem := by
  unfold Dev.cutPop; (repeat' split) <;> simp

@[simp] theorem Dev.popResv_mem (d : Dev) (row : Nat) : (Dev.popResv d row).2.mem = d.mem := by
  unfold Dev.popResv; (iterate 3 (all_goals ((repeat' split) <;> (try simp only [Prod.ext_iff] at *) <;> (try casesm* _ ∧ _) <;> (try subst_vars) <;> (try simp) <;> (try refine foldl_mem _ (fun d x => ?_) _ _))))

@[simp] theorem Dev.take_mem (d : Dev) (row tag : Nat) : (Dev.take d row tag).2.mem = d.mem := by
  unfold Dev.take; (iterate 3 (all_goals ((repeat' split) <;> (try simp only [Prod.ext_iff] at *) <;> (try casesm* _ ∧ _) <;> (try subst_vars) <;> (try simp) <;> (try refine foldl_mem _ (fun d x => ?_) _ _))))

@[simp] theorem Dev.unreserve_mem (d : Dev) (row tag n : Nat) : (Dev.unreserve d row tag n).mem = d.mem := by
  simp [Dev.unreserve, -List.foldl_append]

@[simp] theorem Dev.ownAll_mem (d : Dev) (row tag : Nat) (z0 : List Nat) : (Dev.ownAll d row tag z0).mem = d.mem := by
  induction z0 generalizing d <;> simp [Dev.ownAll, *]

@[simp] theorem Dev.xfer_mem (d : Dev) (ptr old new : Nat) : (Dev.xfer d ptr old new).mem = d.mem := by
  simp [Dev.xfer, -List.foldl_append]

@[simp] theorem Dev.append_mem (d : Dev) (ptr hdr : Nat) : (Dev.append d ptr hdr).mem = d.mem := by
  simp [Dev.append, -List.foldl_append]

@[simp] theorem Dev.pushAll_mem (d : Dev) (row : Nat) (z0 : List Nat) (hm : Memory.wf d.mem = true) : Memory.wf (Dev.pushAll d row z0).mem = true := by
  induction z0 generalizing d <;> simp_all (maxDischargeDepth := 40) [Dev.pushAll]

@[simp] theorem Dev.freeChain_mem (d : Dev) (ptr : Nat) (hm : Memory.wf d.mem = true) : Memory.wf (Dev.freeChain d ptr).mem = true := by
  unfold Dev.freeChain; (iterate 3 (all_goals ((repeat' split) <;> (try simp only [Prod.ext_iff] at *) <;> (try casesm* _ ∧ _) <;> (try subst_vars) <;> (try simp (maxDischargeDepth := 40) +contextual [foldl_ok, foldl_snd_ok, foldl_snd2_ok, *]) <;> (try refine foldl_ok _ (fun d x hm => ?_) _ _ ?_))))

@[simp] theorem Dev.freeBy_mem (d : Dev) (ptr tag : Nat) (hm : Memory.wf d.mem = true) : Memory.wf (Dev.freeBy d ptr tag).mem = true := by
  unfold Dev.freeBy; (iterate 3 (all_goals ((repeat' split) <;> (try simp only [Prod.ext_iff] at *) <;> (try casesm* _ ∧ _) <;> (try subst_vars) <;> (try simp (maxDischargeDepth := 40) +contextual [foldl_ok, foldl_snd_ok, foldl_snd2_ok, *]) <;> (try refine foldl_ok _ (fun d x hm => ?_) _ _ ?_))))

@[simp] theorem Dev.setref_mem (d : Dev) (ptr tag k : Nat) (hm : Memory.wf d.mem = true) : Memory.wf (Dev.setref d ptr tag k).mem = true := by
  unfold Dev.setref; (iterate 3 (all_goals ((repeat' split) <;> (try simp only [Prod.ext_iff] at *) <;> (try casesm* _ ∧ _) <;> (try subst_vars) <;> (try simp (maxDischargeDepth := 40) +contextual [foldl_ok, foldl_snd_ok, foldl_snd2_ok, *]) <;> (try refine foldl_ok _ (fun d x hm => ?_) _ _ ?_))))

@[simp] theorem Dev.addref_mem (d : Dev) (ptr : Nat) : (Dev.addref d ptr).2.mem = d.mem := by
  simp [Dev.addref, -List.foldl_append]

@[simp] theorem Dev.dropref_mem (d : Dev) (ptr : Nat) (hm : Memory.wf d.mem = true) : Memory.wf (Dev.dropref d ptr).mem = true := by
  unfold Dev.dropref; (iterate 3 (all_goals ((repeat' split) <;> (try simp only [Prod.ext_iff] at *) <;> (try casesm* _ ∧ _) <;> (try subst_vars) <;> (try simp (maxDischargeDepth := 40) +contextual [foldl_ok, foldl_snd_ok, foldl_snd2_ok, *]) <;> (try refine foldl_ok _ (fun d x hm => ?_) _ _ ?_))))

@[simp] theorem Dev.freeAll_mem (d : Dev) (z0 : List Nat) (hm : Memory.wf d.mem = true) : Memory.wf (Dev.freeAll d z0).mem = true := by
  induction z0 generalizing d <;> simp_all (maxDischargeDepth := 40) [Dev.freeAll]

@[simp] theorem Dev.dropResv_mem (d : Dev) (z0 : List (Nat × Nat)) : (Dev.dropResv d z0).mem = d.mem := by
  induction z0 generalizing d <;> simp [Dev.dropResv, *]

@[simp] theorem Dev.binReclaim_mem (d : Dev) (p : Party) (hm : Memory.wf d.mem = true) : Memory.wf (Dev.binReclaim d p).mem = true := by
  unfold Dev.binReclaim; (repeat' split) <;> simp (maxDischargeDepth := 40) [hm]

@[simp] theorem Dev.rebuilt_mem (d : Dev) (row : Nat) : (Dev.rebuilt d row).mem = d.mem := by
  simp [Dev.rebuilt, -List.foldl_append]

@[simp] theorem Dev.fillCells_mem (d : Dev) (row : Nat) (l : List Nat) (bs : List Byte) (hm : Memory.wf d.mem = true) : Memory.wf (d.fillCells row l bs).mem = true := by
  induction l generalizing d bs with
  | nil => simpa [Dev.fillCells] using hm
  | cons c r ih => exact ih _ _ (by simp [hm])

@[simp] theorem Dev.takeChain_mem (d : Dev) (row tag : Nat) (n : Nat) (p : Option Nat) : (d.takeChain row tag n p).2.mem = d.mem := by
  induction n generalizing d p with
  | zero => rfl
  | succ n ih =>
    simp only [Dev.takeChain]
    have h := Dev.take_mem d row tag
    split
    · rename_i heq; rw [heq] at h; exact h
    · rename_i heq; rw [heq] at h
      split <;> simp [ih] <;> exact h

@[simp] theorem Dev.setXp_mem (d : Dev) (k : Nat) (l : List Desc) : (Dev.setXp d k l).mem = d.mem := (rfl)

@[simp] theorem Dev.setPq_mem (d : Dev) (k : Nat) (l : List Desc) : (Dev.setPq d k l).mem = d.mem := (rfl)

@[simp] theorem Dev.addQ_mem (d : Dev) (k add sub : Nat) : (Dev.addQ d k add sub).mem = d.mem := (rfl)

@[simp] theorem Dev.refuseTarget_mem (d : Dev) (t : Target) : (Dev.refuseTarget d t).mem = d.mem := by
  simp [Dev.refuseTarget, -List.foldl_append]

@[simp] theorem Dev.refuseRow_mem (d : Dev) (row cls : Nat) : (Dev.refuseRow d row cls).mem = d.mem := by
  simp [Dev.refuseRow, -List.foldl_append]

theorem Dev.dropsFor_mem {d d' : Dev} {row pl n : Nat} {t : Target} (h : d.dropsFor row pl n t = some d') : d'.mem = d.mem := by
  unfold Dev.dropsFor at h
  repeat' split at h
  all_goals first | (simp only [Option.some.injEq] at h; subst h; simp) | simp at h

@[simp] theorem Dev.admitTarget_mem (r : EnqReq) (hcell pl e : Nat) (acc : Nat × Dev) (t : Target) : (Dev.admitTarget r hcell pl e acc t).2.mem = acc.2.mem := by
  unfold Dev.admitTarget
  dsimp only
  split
  · rename_i h; simpa using Dev.dropsFor_mem h
  · split <;> simp

@[simp] theorem Dev.sampleHit_mem (d : Dev) (s : Nat) : (Dev.sampleHit d s).2.mem = d.mem := by
  simp [Dev.sampleHit, -List.foldl_append]

@[simp] theorem Dev.addMirror_mem (acc : List Target × Dev) (s : Nat) : (Dev.addMirror acc s).2.mem = acc.2.mem := by
  unfold Dev.addMirror; (iterate 3 (all_goals ((repeat' split) <;> (try simp only [Prod.ext_iff] at *) <;> (try casesm* _ ∧ _) <;> (try subst_vars) <;> (try simp) <;> (try refine foldl_mem _ (fun d x => ?_) _ _))))

@[simp] theorem Dev.releaseFrame_mem (d : Dev) (ptr : Nat) (hm : Memory.wf d.mem = true) : Memory.wf (Dev.releaseFrame d ptr).mem = true := by
  unfold Dev.releaseFrame; (repeat' split) <;> simp (maxDischargeDepth := 40) [hm]

@[simp] theorem Dev.giveRefs_mem (d : Dev) (ptr k : Nat) (hm : Memory.wf d.mem = true) : Memory.wf (Dev.giveRefs d ptr k).mem = true := by
  unfold Dev.giveRefs; (iterate 3 (all_goals ((repeat' split) <;> (try simp only [Prod.ext_iff] at *) <;> (try casesm* _ ∧ _) <;> (try subst_vars) <;> (try simp (maxDischargeDepth := 40) +contextual [foldl_ok, foldl_snd_ok, foldl_snd2_ok, *]) <;> (try refine foldl_ok _ (fun d x hm => ?_) _ _ ?_))))

@[simp] theorem Dev.groupRepair_mem (d : Dev) (g : Nat) (hm : Memory.wf d.mem = true) : Memory.wf (Dev.groupRepair d g).mem = true := by
  simp (maxDischargeDepth := 40) [Dev.groupRepair, hm, -List.foldl_append]

@[simp] theorem Dev.enqueue_mem (d : Dev) (r : EnqReq) (hm : Memory.wf d.mem = true) : Memory.wf (d.enqueue r).2.mem = true := by
  unfold Dev.enqueue
  extract_lets ptr col cls mc r
  clear_value r
  split
  · simp [hm]
  split
  · simp [hm]
  split
  · simp [hm]
  split
  · simp [hm]
  split
  rename_i tg d1 h1
  have hd1 : Memory.wf d1.mem = true := by
    rw [snd_eq h1]
    repeat' split
    all_goals simp [hm]
  extract_lets tg d2 imir
  have hd2 : Memory.wf d2.mem = true := by
    simp only [d2]; split <;> simp [hd1]
  clear_value d2
  split
  rename_i c d3 h3
  have hd3 : Memory.wf d3.mem = true := by rw [snd_eq h3]; simp [hd2]
  split
  rename_i k d4 h4
  have hd4 : Memory.wf d4.mem = true := by rw [snd_eq h4]; simp [hd3]
  simp [hd4]

@[simp] theorem Dev.descEnd_mem (d : Dev) (x : Desc) (hm : Memory.wf d.mem = true) : Memory.wf (Dev.descEnd d x).mem = true := by
  simp (maxDischargeDepth := 40) [Dev.descEnd, hm, -List.foldl_append]

@[simp] theorem Dev.descEnds_mem (d : Dev) (z0 : List Desc) (hm : Memory.wf d.mem = true) : Memory.wf (Dev.descEnds d z0).mem = true := by
  induction z0 generalizing d <;> simp_all (maxDischargeDepth := 40) [Dev.descEnds]

@[simp] theorem Dev.syncQueued_mem (d : Dev) (p : Nat) : (Dev.syncQueued d p).mem = d.mem := (rfl)

@[simp] theorem Dev.freeQueue_mem (d : Dev) (p q : Nat) (r : Reg) (f : Fld) (hm : Memory.wf d.mem = true) : Memory.wf (Dev.freeQueue d p q r f).mem = true := by
  simp (maxDischargeDepth := 40) [Dev.freeQueue, hm, -List.foldl_append]

@[simp] theorem Dev.freePort_mem (d : Dev) (p : Nat) (r : Reg) (f : Fld) (hm : Memory.wf d.mem = true) : Memory.wf (Dev.freePort d p r f).mem = true := by
  simp (maxDischargeDepth := 40) +contextual [Dev.freePort, foldl_ok, foldl_snd_ok, foldl_snd2_ok, hm, -List.foldl_append]

@[simp] theorem Dev.plmapWrite_mem (d : Dev) (v : Word64) : (Dev.plmapWrite d v).mem = d.mem := by
  simp [Dev.plmapWrite, -List.foldl_append]

@[simp] theorem Dev.planeReclaim_mem (d : Dev) (pl : Nat) (hm : Memory.wf d.mem = true) : Memory.wf (Dev.planeReclaim d pl).mem = true := by
  simp (maxDischargeDepth := 40) +contextual [Dev.planeReclaim, foldl_ok, foldl_snd_ok, foldl_snd2_ok, hm, -List.foldl_append]

@[simp] theorem Dev.modTb_mem (d : Dev) (f : Timebase → Timebase) : (Dev.modTb d f).mem = d.mem := (rfl)

@[simp] theorem Dev.setPps_mem (d : Dev) (h : Bool) : (Dev.setPps d h).mem = d.mem := by
  simp [Dev.setPps, -List.foldl_append]

@[simp] theorem Dev.ppsHold_mem (d : Dev) : (Dev.ppsHold d).mem = d.mem := by
  simp [Dev.ppsHold, -List.foldl_append]

@[simp] theorem Dev.timeAlarm_mem (d : Dev) : (Dev.timeAlarm d).mem = d.mem := by
  simp [Dev.timeAlarm, -List.foldl_append]

@[simp] theorem Dev.steerEnter_mem (d : Dev) (s : Nat) : (Dev.steerEnter d s).mem = d.mem := (rfl)

@[simp] theorem Dev.tbGo_mem (d : Dev) (s : Nat) : (Dev.tbGo d s).mem = d.mem := by
  simp [Dev.tbGo, -List.foldl_append]

@[simp] theorem Dev.acquire_mem (d : Dev) : (Dev.acquire d).mem = d.mem := by
  simp [Dev.acquire, -List.foldl_append]

@[simp] theorem Dev.qualEdge_mem (was : Bool) (d : Dev) : (Dev.qualEdge was d).mem = d.mem := by
  unfold Dev.qualEdge; (repeat' split) <;> simp

@[simp] theorem Dev.setQual_mem (d : Dev) (f : Fld) (q : Bool) : (Dev.setQual d f q).mem = d.mem := by
  simp [Dev.setQual, -List.foldl_append]

@[simp] theorem Dev.pickRef_mem (d : Dev) : (Dev.pickRef d).mem = d.mem := (rfl)

@[simp] theorem Dev.refGood_mem (d : Dev) (b : Nat) : (Dev.refGood d b).mem = d.mem := by
  simp [Dev.refGood, -List.foldl_append]

@[simp] theorem Dev.refBad_mem (d : Dev) (b : Nat) : (Dev.refBad d b).mem = d.mem := by
  simp [Dev.refBad, -List.foldl_append]

@[simp] theorem Dev.steer_mem (d : Dev) : (Dev.steer d).mem = d.mem := by
  unfold Dev.steer; (iterate 3 (all_goals ((repeat' split) <;> (try simp only [Prod.ext_iff] at *) <;> (try casesm* _ ∧ _) <;> (try subst_vars) <;> (try simp) <;> (try refine foldl_mem _ (fun d x => ?_) _ _))))

@[simp] theorem Dev.askStep_mem (d : Dev) (x : Int) : (Dev.askStep d x).mem = d.mem := (rfl)

@[simp] theorem Dev.measure_mem (d : Dev) (off : Int) : (Dev.measure d off).mem = d.mem := by
  unfold Dev.measure; (repeat' split) <;> simp

@[simp] theorem Dev.tbStepWrite_mem (d : Dev) (v : Word64) : (Dev.tbStepWrite d v).mem = d.mem := by
  simp [Dev.tbStepWrite, -List.foldl_append]

@[simp] theorem Dev.tbFreqWrite_mem (d : Dev) (v : Nat) : (Dev.tbFreqWrite d v).mem = d.mem := by
  simp [Dev.tbFreqWrite, -List.foldl_append]

@[simp] theorem Dev.tbCtlWrite_mem (d : Dev) (v : Word64) : (Dev.tbCtlWrite d v).mem = d.mem := by
  simp [Dev.tbCtlWrite, -List.foldl_append]

@[simp] theorem Dev.offEnds_mem (d : Dev) (t : Nat) : (Dev.offEnds d t).mem = d.mem := (rfl)

@[simp] theorem Dev.setUtcAt_mem (d : Dev) (t : Nat) (v : Word64) : (Dev.setUtcAt d t v).mem = d.mem := by
  simp [Dev.setUtcAt, -List.foldl_append]

@[simp] theorem Dev.setUtc_mem (d : Dev) (v : Word64) : (Dev.setUtc d v).mem = d.mem := by
  simp [Dev.setUtc, -List.foldl_append]

@[simp] theorem Dev.tbUtcWrite_mem (d : Dev) (v : Word64) : (Dev.tbUtcWrite d v).mem = d.mem := by
  simp [Dev.tbUtcWrite, -List.foldl_append]

@[simp] theorem Dev.ptpDrop_mem (d : Dev) : (Dev.ptpDrop d).mem = d.mem := by
  simp [Dev.ptpDrop, -List.foldl_append]

@[simp] theorem Dev.ptpPortLeft_mem (d : Dev) (p : Nat) : (Dev.ptpPortLeft d p).mem = d.mem := by
  simp [Dev.ptpPortLeft, -List.foldl_append]

@[simp] theorem Dev.endSending_mem (d : Dev) (p : Nat) (f : Fld) (hm : Memory.wf d.mem = true) : Memory.wf (Dev.endSending d p f).mem = true := by
  simp (maxDischargeDepth := 40) [Dev.endSending, hm, -List.foldl_append]

@[simp] theorem Dev.toDiscard_mem (d : Dev) (p : Nat) (f : Fld) (hm : Memory.wf d.mem = true) : Memory.wf (Dev.toDiscard d p f).mem = true := by
  simp (maxDischargeDepth := 40) [Dev.toDiscard, hm, -List.foldl_append]

@[simp] theorem Dev.requeue_mem (d : Dev) (p : Nat) : (Dev.requeue d p).mem = d.mem := by
  simp [Dev.requeue, -List.foldl_append]

@[simp] theorem Dev.linkDown_mem (d : Dev) (p : Nat) (hm : Memory.wf d.mem = true) : Memory.wf (Dev.linkDown d p).mem = true := by
  unfold Dev.linkDown; (iterate 3 (all_goals ((repeat' split) <;> (try simp only [Prod.ext_iff] at *) <;> (try casesm* _ ∧ _) <;> (try subst_vars) <;> (try simp (maxDischargeDepth := 40) +contextual [foldl_ok, foldl_snd_ok, foldl_snd2_ok, *]) <;> (try refine foldl_ok _ (fun d x hm => ?_) _ _ ?_))))

@[simp] theorem Dev.dropCal_mem (d : Dev) (p : Nat) : (Dev.dropCal d p).mem = d.mem := (rfl)

@[simp] theorem Dev.setPortSt_mem (d : Dev) (p s : Nat) : (Dev.setPortSt d p s).mem = d.mem := (rfl)

@[simp] theorem Dev.portLeave_mem (d : Dev) (p s : Nat) (hm : Memory.wf d.mem = true) : Memory.wf (Dev.portLeave d p s).mem = true := by
  unfold Dev.portLeave; (iterate 3 (all_goals ((repeat' split) <;> (try simp only [Prod.ext_iff] at *) <;> (try casesm* _ ∧ _) <;> (try subst_vars) <;> (try simp (maxDischargeDepth := 40) +contextual [foldl_ok, foldl_snd_ok, foldl_snd2_ok, *]) <;> (try refine foldl_ok _ (fun d x hm => ?_) _ _ ?_))))

@[simp] theorem Dev.holdReturn_mem (d : Dev) (p : Nat) : (Dev.holdReturn d p).mem = d.mem := by
  simp [Dev.holdReturn, -List.foldl_append]

@[simp] theorem Dev.portUp_mem (d : Dev) (p : Nat) (hm : Memory.wf d.mem = true) : Memory.wf (Dev.portUp d p).mem = true := by
  unfold Dev.portUp; (iterate 3 (all_goals ((repeat' split) <;> (try simp only [Prod.ext_iff] at *) <;> (try casesm* _ ∧ _) <;> (try subst_vars) <;> (try simp (maxDischargeDepth := 40) +contextual [foldl_ok, foldl_snd_ok, foldl_snd2_ok, *]) <;> (try refine foldl_ok _ (fun d x hm => ?_) _ _ ?_))))

@[simp] theorem Dev.deviceFault_mem (d : Dev) (f : Fld) (hm : Memory.wf d.mem = true) : Memory.wf (Dev.deviceFault d f).mem = true := by
  unfold Dev.deviceFault; (iterate 3 (all_goals ((repeat' split) <;> (try simp only [Prod.ext_iff] at *) <;> (try casesm* _ ∧ _) <;> (try subst_vars) <;> (try simp (maxDischargeDepth := 40) +contextual [foldl_ok, foldl_snd_ok, foldl_snd2_ok, *]) <;> (try refine foldl_ok _ (fun d x hm => ?_) _ _ ?_))))

@[simp] theorem Dev.setPhys_mem (d : Dev) (log ph : Nat) : (Dev.setPhys d log ph).mem = d.mem := (rfl)

@[simp] theorem Dev.setBurstBad_mem (d : Dev) (b : Nat) (bad : Bool) : (Dev.setBurstBad d b bad).mem = d.mem := (rfl)

@[simp] theorem Dev.poisonChannel_mem (d : Dev) (log : Nat) : (Dev.poisonChannel d log).mem = d.mem := (rfl)

@[simp] theorem Dev.smAsk_mem (d : Dev) (agent a n : Nat) : (Dev.smAsk d agent a n).mem = d.mem := (rfl)

@[simp] theorem Dev.smRead_mem (d : Dev) (agent a n : Nat) : (Dev.smRead d agent a n).2.mem = d.mem := by
  simp [Dev.smRead, -List.foldl_append]

@[simp] theorem Dev.smWrite_mem (d : Dev) (agent a : Nat) (bs : List Byte) (hm : Memory.wf d.mem = true) : Memory.wf (Dev.smWrite d agent a bs).2.mem = true := by
  unfold Dev.smWrite; (iterate 3 (all_goals ((repeat' split) <;> (try simp only [Prod.ext_iff] at *) <;> (try casesm* _ ∧ _) <;> (try subst_vars) <;> (try simp (maxDischargeDepth := 40) +contextual [foldl_ok, foldl_snd_ok, foldl_snd2_ok, *]) <;> (try refine foldl_ok _ (fun d x hm => ?_) _ _ ?_))))

@[simp] theorem Dev.tkCount_mem (d : Dev) (f : Fld) : (Dev.tkCount d f).mem = d.mem := by
  simp [Dev.tkCount, -List.foldl_append]

@[simp] theorem Dev.tkShow_mem (d : Dev) (kind unit cause step : Nat) : (Dev.tkShow d kind unit cause step).mem = d.mem := (rfl)

@[simp] theorem Dev.planeRelief_mem (d : Dev) (pl : Nat) (hm : Memory.wf d.mem = true) : Memory.wf (Dev.planeRelief d pl).mem = true := by
  simp (maxDischargeDepth := 40) [Dev.planeRelief, hm, -List.foldl_append]

@[simp] theorem Dev.galReclaimStart_mem (d : Dev) (r : TkReq) : (Dev.galReclaimStart d r).mem = d.mem := (rfl)

theorem Dev.copyStart_some (d : Dev) (r : TkReq) (d' : Dev) (h : d.copyStart r = some d') : d'.mem = d.mem := by
  unfold Dev.copyStart at h
  split at h
  · simp only [Option.some.injEq] at h; subst h; simp
  · cases h
@[simp] theorem Dev.tkBegin_mem (d : Dev) (r : TkReq) (hm : Memory.wf d.mem = true) : Memory.wf (d.tkBegin r).2.mem = true := by
  unfold Dev.tkBegin
  split
  · simp [hm]
  · simp only []; split <;> simp [hm]
  · split
    · rename_i h; rw [Dev.copyStart_some _ _ _ h]; exact hm
    · simp [hm]

@[simp] theorem Dev.tkNext_mem (d : Dev) (n : Nat) (hm : Memory.wf d.mem = true) : Memory.wf (d.tkNext n).mem = true := by
  induction n generalizing d with
  | zero => simpa [Dev.tkNext] using hm
  | succ n ih =>
    unfold Dev.tkNext
    split
    · exact hm
    · dsimp only
      split <;> (rename_i h; have e := snd_eq h; subst e)
      · simp [hm]
      · exact ih _ (by simp [hm])

@[simp] theorem Dev.tkFence_mem (d : Dev) : (Dev.tkFence d).mem = d.mem := by
  unfold Dev.tkFence; (repeat' split) <;> simp

@[simp] theorem Dev.tkIdle_mem (d : Dev) (hm : Memory.wf d.mem = true) : Memory.wf (Dev.tkIdle d).mem = true := by
  simp (maxDischargeDepth := 40) [Dev.tkIdle, hm, -List.foldl_append]

@[simp] theorem Dev.tkJoin_mem (d : Dev) (r : TkReq) (hm : Memory.wf d.mem = true) : Memory.wf (Dev.tkJoin d r).mem = true := by
  unfold Dev.tkJoin; (repeat' split) <;> simp (maxDischargeDepth := 40) [hm]

@[simp] theorem Dev.spareStart_mem (d : Dev) (src : Nat) (cmd : Bool) (hm : Memory.wf d.mem = true) : Memory.wf (Dev.spareStart d src cmd).mem = true := by
  simp (maxDischargeDepth := 40) [Dev.spareStart, hm, -List.foldl_append]

@[simp] theorem Dev.spareRequest_mem (d : Dev) (src : Nat) (hm : Memory.wf d.mem = true) : Memory.wf (Dev.spareRequest d src).mem = true := by
  unfold Dev.spareRequest; (iterate 3 (all_goals ((repeat' split) <;> (try simp only [Prod.ext_iff] at *) <;> (try casesm* _ ∧ _) <;> (try subst_vars) <;> (try simp (maxDischargeDepth := 40) +contextual [foldl_ok, foldl_snd_ok, foldl_snd2_ok, *]) <;> (try refine foldl_ok _ (fun d x hm => ?_) _ _ ?_))))

@[simp] theorem Dev.markDevice_mem (d : Dev) (ph dev : Nat) (hm : Memory.wf d.mem = true) : Memory.wf (Dev.markDevice d ph dev).mem = true := by
  unfold Dev.markDevice; (iterate 3 (all_goals ((repeat' split) <;> (try simp only [Prod.ext_iff] at *) <;> (try casesm* _ ∧ _) <;> (try subst_vars) <;> (try simp (maxDischargeDepth := 40) +contextual [foldl_ok, foldl_snd_ok, foldl_snd2_ok, *]) <;> (try refine foldl_ok _ (fun d x hm => ?_) _ _ ?_))))

@[simp] theorem Dev.smCorrected_mem (d : Dev) (ph dev burst : Nat) (hm : Memory.wf d.mem = true) : Memory.wf (Dev.smCorrected d ph dev burst).mem = true := by
  unfold Dev.smCorrected; (iterate 3 (all_goals ((repeat' split) <;> (try simp only [Prod.ext_iff] at *) <;> (try casesm* _ ∧ _) <;> (try subst_vars) <;> (try simp (maxDischargeDepth := 40) +contextual [foldl_ok, foldl_snd_ok, foldl_snd2_ok, *]) <;> (try refine foldl_ok _ (fun d x hm => ?_) _ _ ?_))))

@[simp] theorem Dev.smLost_mem (d : Dev) (ph dev burst : Nat) (hm : Memory.wf d.mem = true) : Memory.wf (Dev.smLost d ph dev burst).mem = true := by
  unfold Dev.smLost; (iterate 3 (all_goals ((repeat' split) <;> (try simp only [Prod.ext_iff] at *) <;> (try casesm* _ ∧ _) <;> (try subst_vars) <;> (try simp (maxDischargeDepth := 40) +contextual [foldl_ok, foldl_snd_ok, foldl_snd2_ok, *]) <;> (try refine foldl_ok _ (fun d x hm => ?_) _ _ ?_))))

@[simp] theorem Dev.setNq_mem (d : Dev) (chan : Nat) (l : List (Nat × Nat)) : (Dev.setNq d chan l).mem = d.mem := (rfl)

@[simp] theorem Dev.askNeighbour_mem (d : Dev) (chan bank row : Nat) : (Dev.askNeighbour d chan bank row).mem = d.mem := by
  simp [Dev.askNeighbour, -List.foldl_append]

@[simp] theorem Dev.hostActivate_mem (d : Dev) (chan bank row : Nat) : (Dev.hostActivate d chan bank row).mem = d.mem := by
  simp [Dev.hostActivate, -List.foldl_append]

@[simp] theorem Dev.activate_mem (d : Dev) (agent burst : Nat) : (Dev.activate d agent burst).mem = d.mem := by
  simp [Dev.activate, -List.foldl_append]

@[simp] theorem Dev.smCancel_mem (d : Dev) (agent : Nat) : (Dev.smCancel d agent).mem = d.mem := (rfl)

@[simp] theorem Dev.abruptFail_mem (d : Dev) (ph : Nat) (hm : Memory.wf d.mem = true) : Memory.wf (Dev.abruptFail d ph).mem = true := by
  unfold Dev.abruptFail; (iterate 3 (all_goals ((repeat' split) <;> (try simp only [Prod.ext_iff] at *) <;> (try casesm* _ ∧ _) <;> (try subst_vars) <;> (try simp (maxDischargeDepth := 40) +contextual [foldl_ok, foldl_snd_ok, foldl_snd2_ok, *]) <;> (try refine foldl_ok _ (fun d x hm => ?_) _ _ ?_))))

@[simp] theorem Dev.setThr_mem (d : Dev) (k : Nat) (t : Thread) : (Dev.setThr d k t).mem = d.mem := (rfl)

@[simp] theorem Dev.modThr_mem (d : Dev) (k : Nat) (f : Thread → Thread) : (Dev.modThr d k f).mem = d.mem := (rfl)

@[simp] theorem Dev.modGal_mem (d : Dev) (g : Nat) (f : Gallery → Gallery) : (Dev.modGal d g f).mem = d.mem := (rfl)

@[simp] theorem Dev.joinQueue_mem (d : Dev) (q : Nat) : (Dev.joinQueue d q).mem = d.mem := (rfl)

@[simp] theorem Dev.leaveQueue_mem (d : Dev) (q : Nat) : (Dev.leaveQueue d q).mem = d.mem := (rfl)

@[simp] theorem Dev.opNumber_mem (d : Dev) (g : Nat) : (Dev.opNumber d g).2.mem = d.mem := (rfl)

@[simp] theorem Dev.setGalState_mem (d : Dev) (g s : Nat) : (Dev.setGalState d g s).mem = d.mem := (rfl)

@[simp] theorem Dev.resetOver_mem (d : Dev) (g : Nat) : (Dev.resetOver d g).mem = d.mem := by
  simp [Dev.resetOver, -List.foldl_append]

@[simp] theorem Dev.reclaimNext_mem (d : Dev) : (Dev.reclaimNext d).mem = d.mem := (rfl)

@[simp] theorem Dev.pendSource_mem (d : Dev) (k src : Nat) : (Dev.pendSource d k src).mem = d.mem := (rfl)

@[simp] theorem Dev.isleFreq_mem (d : Dev) (isl mhz : Nat) : (Dev.isleFreq d isl mhz).mem = d.mem := by
  unfold Dev.isleFreq; (repeat' split) <;> simp

@[simp] theorem Dev.freqAsk_mem (d : Dev) (g mhz : Nat) : (Dev.freqAsk d g mhz).mem = d.mem := by
  simp [Dev.freqAsk, -List.foldl_append]

@[simp] theorem Dev.freqDone_mem (d : Dev) (g : Nat) : (Dev.freqDone d g).mem = d.mem := by
  unfold Dev.freqDone; (repeat' split) <;> simp

@[simp] theorem Dev.goodWords_mem (d : Dev) (g a n : Nat) : (Dev.goodWords d g a n).mem = d.mem := (rfl)

@[simp] theorem Dev.markWord_mem (d : Dev) (g a : Nat) : (Dev.markWord d g a).mem = d.mem := by
  simp [Dev.markWord, -List.foldl_append]

@[simp] theorem Dev.supFault_mem (d : Dev) (g code : Nat) : (Dev.supFault d g code).mem = d.mem := by
  simp [Dev.supFault, -List.foldl_append]

@[simp] theorem Dev.pushFault_mem (d : Dev) (k code detail pc : Nat) : (Dev.pushFault d k code detail pc).mem = d.mem := by
  simp [Dev.pushFault, -List.foldl_append]

@[simp] theorem Dev.galTraceAdd_mem (d : Dev) (r : BitVec 128) : (Dev.galTraceAdd d r).mem = d.mem := by
  simp [Dev.galTraceAdd, -List.foldl_append]

@[simp] theorem Dev.galTrace_mem (d : Dev) (k ev pc : Nat) : (Dev.galTrace d k ev pc).mem = d.mem := by
  simp [Dev.galTrace, -List.foldl_append]

@[simp] theorem Dev.setLock_mem (d : Dev) (n : Nat) (l : Lock) : (Dev.setLock d n l).mem = d.mem := (rfl)

@[simp] theorem Dev.setWord_mem (d : Dev) (k : Nat) (w : Option HeldWord) : (Dev.setWord d k w).mem = d.mem := (rfl)

@[simp] theorem Dev.relRecord_mem (d : Dev) (reason lkind releaser owner ident : Nat) : (Dev.relRecord d reason lkind releaser owner ident).mem = d.mem := by
  simp [Dev.relRecord, -List.foldl_append]

@[simp] theorem Dev.tokDone_mem (d : Dev) (k r v : Nat) : (Dev.tokDone d k r v).mem = d.mem := by
  simp [Dev.tokDone, -List.foldl_append]

@[simp] theorem Dev.grantLock_mem (d : Dev) (n k r status : Nat) (rest : List (Nat × Nat)) : (Dev.grantLock d n k r status rest).mem = d.mem := by
  simp [Dev.grantLock, -List.foldl_append]

@[simp] theorem Dev.passLock_mem (d : Dev) (n : Nat) (abandon : Bool) : (Dev.passLock d n abandon).mem = d.mem := by
  unfold Dev.passLock; (repeat' split) <;> simp

@[simp] theorem Dev.putWord_mem (d : Dev) (key v : Nat) (hm : Memory.wf d.mem = true) : Memory.wf (Dev.putWord d key v).mem = true := by
  simp (maxDischargeDepth := 40) [Dev.putWord, hm, -List.foldl_append]

@[simp] theorem Dev.grantWord_mem (d : Dev) (key k r status : Nat) (rest : List (Nat × Nat)) (hm : Memory.wf d.mem = true) : Memory.wf (Dev.grantWord d key k r status rest).mem = true := by
  simp (maxDischargeDepth := 40) [Dev.grantWord, hm, -List.foldl_append]

@[simp] theorem Dev.passWord_mem (d : Dev) (key : Nat) (w : HeldWord) (abandon : Bool) (hm : Memory.wf d.mem = true) : Memory.wf (Dev.passWord d key w abandon).mem = true := by
  unfold Dev.passWord; (repeat' split) <;> simp (maxDischargeDepth := 40) [hm]

@[simp] theorem Dev.abandonLock_mem (d : Dev) (n reason : Nat) : (Dev.abandonLock d n reason).mem = d.mem := by
  simp [Dev.abandonLock, -List.foldl_append]

@[simp] theorem Dev.abandonWord_mem (d : Dev) (key reason : Nat) (hm : Memory.wf d.mem = true) : Memory.wf (Dev.abandonWord d key reason).mem = true := by
  unfold Dev.abandonWord; (repeat' split) <;> simp (maxDischargeDepth := 40) [hm]

@[simp] theorem Dev.abandonWhere_mem (d : Dev) (reason : Nat) (p : Bool → Nat → Bool) (hm : Memory.wf d.mem = true) : Memory.wf (Dev.abandonWhere d reason p).mem = true := by
  simp (maxDischargeDepth := 40) +contextual [Dev.abandonWhere, foldl_ok, foldl_snd_ok, foldl_snd2_ok, hm, -List.foldl_append]

@[simp] theorem Dev.jobLocks_mem (d : Dev) (job : Nat) (hm : Memory.wf d.mem = true) : Memory.wf (Dev.jobLocks d job).mem = true := by
  simp (maxDischargeDepth := 40) [Dev.jobLocks, hm, -List.foldl_append]

@[simp] theorem Dev.withdraw_mem (d : Dev) (k : Nat) : (Dev.withdraw d k).mem = d.mem := (rfl)

@[simp] theorem Dev.dropStaging_mem (d : Dev) (k : Nat) : (Dev.dropStaging d k).mem = d.mem := (rfl)

@[simp] theorem Dev.tokReset_mem (d : Dev) (k : Nat) (hm : Memory.wf d.mem = true) : Memory.wf (Dev.tokReset d k).mem = true := by
  simp (maxDischargeDepth := 40) [Dev.tokReset, hm, -List.foldl_append]

@[simp] theorem Dev.jobHold_mem (d : Dev) (k job : Nat) (hm : Memory.wf d.mem = true) : Memory.wf (Dev.jobHold d k job).mem = true := by
  unfold Dev.jobHold; (iterate 3 (all_goals ((repeat' split) <;> (try simp only [Prod.ext_iff] at *) <;> (try casesm* _ ∧ _) <;> (try subst_vars) <;> (try simp (maxDischargeDepth := 40) +contextual [foldl_ok, foldl_snd_ok, foldl_snd2_ok, *]) <;> (try refine foldl_ok _ (fun d x hm => ?_) _ _ ?_))))

@[simp] theorem Dev.syncOcc_mem (d : Dev) : (Dev.syncOcc d).mem = d.mem := by
  simp [Dev.syncOcc, -List.foldl_append]

@[simp] theorem Dev.setTix_mem (d : Dev) (t : Nat) (x : Ticket) : (Dev.setTix d t x).mem = d.mem := (rfl)

@[simp] theorem Dev.takeTicket_mem (d : Dev) (x : Ticket) : (Dev.takeTicket d x).2.mem = d.mem := by
  simp [Dev.takeTicket, -List.foldl_append]

@[simp] theorem Dev.freeTicket_mem (d : Dev) (t : Nat) : (Dev.freeTicket d t).mem = d.mem := by
  simp [Dev.freeTicket, -List.foldl_append]

@[simp] theorem Dev.bumpHead_mem (d : Dev) (dom : Nat) : (Dev.bumpHead d dom).mem = d.mem := (rfl)

@[simp] theorem Dev.advance_mem (d : Dev) (dom : Nat) (z0 : Nat) : (Dev.advance d dom z0).mem = d.mem := by
  induction z0 generalizing d <;> (unfold Dev.advance; (repeat' split) <;> simp_all)

@[simp] theorem Dev.resolve_mem (d : Dev) (dom : Nat) : (Dev.resolve d dom).mem = d.mem := by
  simp [Dev.resolve, -List.foldl_append]

@[simp] theorem Dev.voidTicket_mem (d : Dev) (t : Nat) : (Dev.voidTicket d t).mem = d.mem := by
  simp [Dev.voidTicket, -List.foldl_append]

@[simp] theorem Dev.seqErr_mem (d : Dev) (dom seq : Nat) : (Dev.seqErr d dom seq).mem = d.mem := by
  simp [Dev.seqErr, -List.foldl_append]

@[simp] theorem Dev.eddyPool_mem (d : Dev) : (Dev.eddyPool d).mem = d.mem := by
  simp [Dev.eddyPool, -List.foldl_append]

@[simp] theorem Dev.eddyReturn_mem (d : Dev) (h : Nat) (hm : Memory.wf d.mem = true) : Memory.wf (Dev.eddyReturn d h).mem = true := by
  unfold Dev.eddyReturn; (iterate 3 (all_goals ((repeat' split) <;> (try simp only [Prod.ext_iff] at *) <;> (try casesm* _ ∧ _) <;> (try subst_vars) <;> (try simp (maxDischargeDepth := 40) +contextual [foldl_ok, foldl_snd_ok, foldl_snd2_ok, *]) <;> (try refine foldl_ok _ (fun d x hm => ?_) _ _ ?_))))

@[simp] theorem Dev.endFrame_mem (d : Dev) (h : Nat) (hm : Memory.wf d.mem = true) : Memory.wf (Dev.endFrame d h).mem = true := by
  unfold Dev.endFrame; (repeat' split) <;> simp (maxDischargeDepth := 40) [hm]

@[simp] theorem Dev.eddyTicketEnd_mem (d : Dev) (h : Nat) : (Dev.eddyTicketEnd d h).mem = d.mem := by
  unfold Dev.eddyTicketEnd; (repeat' split) <;> simp

@[simp] theorem Dev.dropFrame_mem (d : Dev) (h : Nat) (hm : Memory.wf d.mem = true) : Memory.wf (Dev.dropFrame d h).mem = true := by
  simp (maxDischargeDepth := 40) [Dev.dropFrame, hm, -List.foldl_append]

@[simp] theorem Dev.setExcTokens_mem (d : Dev) (code n : Nat) : (Dev.setExcTokens d code n).mem = d.mem := (rfl)

@[simp] theorem Dev.excTake_mem (d : Dev) (code : Nat) : (Dev.excTake d code).2.mem = d.mem := by
  simp [Dev.excTake, -List.foldl_append]

@[simp] theorem Dev.syncAdm_mem (d : Dev) (pipe : Nat) : (Dev.syncAdm d pipe).mem = d.mem := (rfl)

@[simp] theorem Dev.admEnqueue_mem (d : Dev) (h : Nat) : (Dev.admEnqueue d h).mem = d.mem := by
  simp [Dev.admEnqueue, -List.foldl_append]

@[simp] theorem Dev.nextSeq_mem (d : Dev) (dom : Nat) : (Dev.nextSeq d dom).2.mem = d.mem := (rfl)

@[simp] theorem Dev.giveSeq_mem (d : Dev) (h dom : Nat) : (Dev.giveSeq d h dom).mem = d.mem := by
  simp [Dev.giveSeq, -List.foldl_append]

@[simp] theorem Dev.exception_mem (d : Dev) (h code : Nat) (hm : Memory.wf d.mem = true) : Memory.wf (Dev.exception d h code).mem = true := by
  unfold Dev.exception; (iterate 3 (all_goals ((repeat' split) <;> (try simp only [Prod.ext_iff] at *) <;> (try casesm* _ ∧ _) <;> (try subst_vars) <;> (try simp (maxDischargeDepth := 40) +contextual [foldl_ok, foldl_snd_ok, foldl_snd2_ok, *]) <;> (try refine foldl_ok _ (fun d x hm => ?_) _ _ ?_))))

@[simp] theorem Dev.setJob_mem (d : Dev) (j : Nat) (x : Job) : (Dev.setJob d j x).mem = d.mem := (rfl)

@[simp] theorem Dev.syncDrain_mem (d : Dev) (g : Nat) : (Dev.syncDrain d g).mem = d.mem := (rfl)

@[simp] theorem Dev.syncCq_mem (d : Dev) (g c : Nat) : (Dev.syncCq d g c).mem = d.mem := by
  simp [Dev.syncCq, -List.foldl_append]

@[simp] theorem Dev.traceLost_mem (d : Dev) : (Dev.traceLost d).mem = d.mem := by
  simp [Dev.traceLost, -List.foldl_append]

@[simp] theorem Dev.traceAdd_mem (d : Dev) (r : BitVec 128) : (Dev.traceAdd d r).mem = d.mem := by
  simp [Dev.traceAdd, -List.foldl_append]

@[simp] theorem Dev.trace_mem (d : Dev) (ev tmpl g slot : Nat) (tub : Tub) (pipe : Nat) (node core thread status : Nat) : (Dev.trace d ev tmpl g slot tub pipe node core thread status).mem = d.mem := by
  simp [Dev.trace, -List.foldl_append]

@[simp] theorem Dev.jobTrace_mem (d : Dev) (ev j : Nat) (node core thread status : Nat) : (Dev.jobTrace d ev j node core thread status).mem = d.mem := by
  simp [Dev.jobTrace, -List.foldl_append]

@[simp] theorem Dev.purgeNodes_mem (d : Dev) (j : Nat) (hm : Memory.wf d.mem = true) : Memory.wf (Dev.purgeNodes d j).mem = true := by
  simp (maxDischargeDepth := 40) [Dev.purgeNodes, hm, -List.foldl_append]

@[simp] theorem Dev.freeSlot_mem (d : Dev) (j : Nat) (hm : Memory.wf d.mem = true) : Memory.wf (Dev.freeSlot d j).mem = true := by
  simp (maxDischargeDepth := 40) [Dev.freeSlot, hm, -List.foldl_append]

@[simp] theorem Dev.limits_mem (d : Dev) : (Dev.limits d).mem = d.mem := (rfl)

@[simp] theorem Dev.hoistJobVoid_mem (d : Dev) (t j : Nat) (hm : Memory.wf d.mem = true) : Memory.wf (Dev.hoistJobVoid d t j).mem = true := by
  unfold Dev.hoistJobVoid; dsimp only; (repeat' split) <;> simp_all (maxDischargeDepth := 40)

@[simp] theorem Dev.endVoid_mem (d : Dev) (j : Nat) (hm : Memory.wf d.mem = true) : Memory.wf (Dev.endVoid d j).mem = true := by
  unfold Dev.endVoid; (iterate 3 (all_goals ((repeat' split) <;> (try simp only [Prod.ext_iff] at *) <;> (try casesm* _ ∧ _) <;> (try subst_vars) <;> (try simp (maxDischargeDepth := 40) +contextual [foldl_ok, foldl_snd_ok, foldl_snd2_ok, *]) <;> (try refine foldl_ok _ (fun d x hm => ?_) _ _ ?_))))

@[simp] theorem Dev.jobVoid_mem (d : Dev) (j : Nat) (hoist : Bool) (leave : Option Nat) (hm : Memory.wf d.mem = true) : Memory.wf (Dev.jobVoid d j hoist leave).mem = true := by
  unfold Dev.jobVoid; (iterate 3 (all_goals ((repeat' split) <;> (try simp only [Prod.ext_iff] at *) <;> (try casesm* _ ∧ _) <;> (try subst_vars) <;> (try simp (maxDischargeDepth := 40) +contextual [foldl_ok, foldl_snd_ok, foldl_snd2_ok, *]) <;> (try refine foldl_ok _ (fun d x hm => ?_) _ _ ?_))))

@[simp] theorem Dev.readyNode_mem (d : Dev) (j n : Nat) : (Dev.readyNode d j n).mem = d.mem := (rfl)

@[simp] theorem Dev.fanout_mem (d : Dev) (j n : Nat) : (Dev.fanout d j n).mem = d.mem := by
  simp [Dev.fanout, -List.foldl_append]

@[simp] theorem Dev.putStatus_mem (d : Dev) (j n status : Nat) (hm : Memory.wf d.mem = true) : Memory.wf (Dev.putStatus d j n status).mem = true := by
  simp (maxDischargeDepth := 40) [Dev.putStatus, hm, -List.foldl_append]

@[simp] theorem Dev.nodeComplete_mem (d : Dev) (g : Nat) (r : NodeRef) (kind status : Nat) (core thread : Nat) (hm : Memory.wf d.mem = true) : Memory.wf (Dev.nodeComplete d g r kind status core thread).mem = true := by
  unfold Dev.nodeComplete; dsimp only; (repeat' split) <;> simp_all (maxDischargeDepth := 40)

@[simp] theorem Dev.threadNodeEnd_mem (d : Dev) (k : Nat) (r : NodeRef) (good : Bool) (hm : Memory.wf d.mem = true) : Memory.wf (Dev.threadNodeEnd d k r good).mem = true := by
  unfold Dev.threadNodeEnd; dsimp only; (repeat' split) <;> simp_all (maxDischargeDepth := 40)

@[simp] theorem Dev.enter_mem (d : Dev) (h g : Nat) (twin : Bool) (hm : Memory.wf d.mem = true) : Memory.wf (Dev.enter d h g twin).2.mem = true := by
  simp (maxDischargeDepth := 40) [Dev.enter, hm, -List.foldl_append]

@[simp] theorem Dev.ownChain_mem (d : Dev) (h tag : Nat) : (Dev.ownChain d h tag).mem = d.mem := by
  unfold Dev.ownChain; (repeat' split) <;> simp

@[simp] theorem Dev.admPop_mem (d : Dev) (k : Nat) : (Dev.admPop d k).mem = d.mem := (rfl)

@[simp] theorem Dev.admit_mem (d : Dev) (h g : Nat) (partner : Option Nat) (hm : Memory.wf d.mem = true) : Memory.wf (Dev.admitTo d h g partner).mem = true := by
  unfold Dev.admitTo; (iterate 3 (all_goals ((repeat' split) <;> (try simp only [Prod.ext_iff] at *) <;> (try casesm* _ ∧ _) <;> (try subst_vars) <;> (try simp (maxDischargeDepth := 40) +contextual [foldl_ok, foldl_snd_ok, foldl_snd2_ok, *]) <;> (try refine foldl_ok _ (fun d x hm => ?_) _ _ ?_))))

@[simp] theorem Dev.refuseTub_mem (d : Dev) (k h code : Nat) (hm : Memory.wf d.mem = true) : Memory.wf (Dev.refuseTub d k h code).mem = true := by
  unfold Dev.refuseTub; (iterate 3 (all_goals ((repeat' split) <;> (try simp only [Prod.ext_iff] at *) <;> (try casesm* _ ∧ _) <;> (try subst_vars) <;> (try simp (maxDischargeDepth := 40) +contextual [foldl_ok, foldl_snd_ok, foldl_snd2_ok, *]) <;> (try refine foldl_ok _ (fun d x hm => ?_) _ _ ?_))))

@[simp] theorem Dev.countRefusal_mem (d : Dev) (h g why : Nat) : (Dev.countRefusal d h g why).mem = d.mem := by
  simp [Dev.countRefusal, -List.foldl_append]

@[simp] theorem Dev.admission_mem (d : Dev) (k : Nat) (hm : Memory.wf d.mem = true) : Memory.wf (Dev.admission d k).mem = true := by
  unfold Dev.admission; dsimp only; (repeat' split) <;> simp_all (maxDischargeDepth := 40)

@[simp] theorem Dev.voidJobs_mem (d : Dev) (js : List Nat) (hm : Memory.wf d.mem = true) : Memory.wf (Dev.voidJobs d js).mem = true := by
  simp (maxDischargeDepth := 40) +contextual [Dev.voidJobs, foldl_ok, foldl_snd_ok, foldl_snd2_ok, hm, -List.foldl_append]

@[simp] theorem Dev.hoistVoid_mem (d : Dev) (t : Nat) (hm : Memory.wf d.mem = true) : Memory.wf (Dev.hoistVoid d t).mem = true := by
  unfold Dev.hoistVoid; (iterate 3 (all_goals ((repeat' split) <;> (try simp only [Prod.ext_iff] at *) <;> (try casesm* _ ∧ _) <;> (try subst_vars) <;> (try simp (maxDischargeDepth := 40) +contextual [foldl_ok, foldl_snd_ok, foldl_snd2_ok, *]) <;> (try refine foldl_ok _ (fun d x hm => ?_) _ _ ?_))))

@[simp] theorem Dev.doneJob_mem (d : Dev) (j : Nat) (hm : Memory.wf d.mem = true) : Memory.wf (Dev.doneJob d j).mem = true := by
  unfold Dev.doneJob; (repeat' split) <;> simp (maxDischargeDepth := 40) [hm]

@[simp] theorem Dev.passDone_mem (d : Dev) (t : Nat) (hm : Memory.wf d.mem = true) : Memory.wf (Dev.passDone d t).mem = true := by
  unfold Dev.passDone; (iterate 3 (all_goals ((repeat' split) <;> (try simp only [Prod.ext_iff] at *) <;> (try casesm* _ ∧ _) <;> (try subst_vars) <;> (try simp (maxDischargeDepth := 40) +contextual [foldl_ok, foldl_snd_ok, foldl_snd2_ok, *]) <;> (try refine foldl_ok _ (fun d x hm => ?_) _ _ ?_))))

@[simp] theorem Dev.bodyBad_mem (d : Dev) (t : Nat) (hm : Memory.wf d.mem = true) : Memory.wf (Dev.bodyBad d t).mem = true := by
  simp (maxDischargeDepth := 40) [Dev.bodyBad, hm, -List.foldl_append]

@[simp] theorem Dev.releaseNode_mem (d : Dev) (j : Nat) (r : NodeRef) (hm : Memory.wf d.mem = true) : Memory.wf (Dev.releaseNode d j r).mem = true := by
  unfold Dev.releaseNode; (iterate 3 (all_goals ((repeat' split) <;> (try simp only [Prod.ext_iff] at *) <;> (try casesm* _ ∧ _) <;> (try subst_vars) <;> (try simp (maxDischargeDepth := 40) +contextual [foldl_ok, foldl_snd_ok, foldl_snd2_ok, *]) <;> (try refine foldl_ok _ (fun d x hm => ?_) _ _ ?_))))

@[simp] theorem Dev.handOver_mem (d : Dev) (j : Nat) (tub : Tub) (eh : List Byte) (eddy : Bool) (hm : Memory.wf d.mem = true) : Memory.wf (Dev.handOver d j tub eh eddy).2.mem = true := by
  unfold Dev.handOver; (iterate 3 (all_goals ((repeat' split) <;> (try simp only [Prod.ext_iff] at *) <;> (try casesm* _ ∧ _) <;> (try subst_vars) <;> (try simp (maxDischargeDepth := 40) +contextual [foldl_ok, foldl_snd_ok, foldl_snd2_ok, *]) <;> (try refine foldl_ok _ (fun d x hm => ?_) _ _ ?_))))

@[simp] theorem Dev.hoistRelease_mem (d : Dev) (hm : Memory.wf d.mem = true) : Memory.wf (Dev.hoistRelease d).mem = true := by
  unfold Dev.hoistRelease; (repeat' split) <;> simp (maxDischargeDepth := 40) [hm]

@[simp] theorem Dev.reorderLimit_mem (d : Dev) (t : Nat) (hm : Memory.wf d.mem = true) : Memory.wf (Dev.reorderLimit d t).mem = true := by
  unfold Dev.reorderLimit; (repeat' split) <;> simp (maxDischargeDepth := 40) [hm]

@[simp] theorem Dev.hoistReclaim_mem (d : Dev) (g : Nat) (hm : Memory.wf d.mem = true) : Memory.wf (Dev.hoistReclaim d g).mem = true := by
  unfold Dev.hoistReclaim; (iterate 3 (all_goals ((repeat' split) <;> (try simp only [Prod.ext_iff] at *) <;> (try casesm* _ ∧ _) <;> (try subst_vars) <;> (try simp (maxDischargeDepth := 40) +contextual [foldl_ok, foldl_snd_ok, foldl_snd2_ok, *]) <;> (try refine foldl_ok _ (fun d x hm => ?_) _ _ ?_))))

@[simp] theorem Dev.dropEngine_mem (d : Dev) (g : Nat) : (Dev.dropEngine d g).mem = d.mem := by
  simp [Dev.dropEngine, -List.foldl_append]

@[simp] theorem Dev.draughtReclaim_mem (d : Dev) (g : Nat) (hm : Memory.wf d.mem = true) : Memory.wf (Dev.draughtReclaim d g).mem = true := by
  simp (maxDischargeDepth := 40) +contextual [Dev.draughtReclaim, foldl_ok, foldl_snd_ok, foldl_snd2_ok, hm, -List.foldl_append]

@[simp] theorem Dev.lput_mem (d : Dev) (i : Nat) (r : LRec) (hm : Memory.wf d.mem = true) : Memory.wf (Dev.lput d i r).mem = true := by
  simp (maxDischargeDepth := 40) [Dev.lput, hm, -List.foldl_append]

@[simp] theorem Dev.setRec_mem (d : Dev) (i : Nat) (r : LRec) (hm : Memory.wf d.mem = true) : Memory.wf (Dev.setRec d i r).mem = true := by
  simp (maxDischargeDepth := 40) [Dev.setRec, hm, -List.foldl_append]

@[simp] theorem Dev.kickMove_mem (d : Dev) (k : Kick) (hm : Memory.wf d.mem = true) : Memory.wf (Dev.kickMove d k).mem = true := by
  unfold Dev.kickMove; (repeat' split) <;> simp (maxDischargeDepth := 40) [hm]

@[simp] theorem Dev.anomaly_mem (d : Dev) (code idx detail kind : Nat) : (Dev.anomaly d code idx detail kind).mem = d.mem := by
  simp [Dev.anomaly, -List.foldl_append]

@[simp] theorem Dev.unwatch_mem (d : Dev) (r : LRec) : (Dev.unwatch d r).mem = d.mem := by
  simp [Dev.unwatch, -List.foldl_append]

@[simp] theorem Dev.rewatch_mem (d : Dev) (i : Nat) (r : LRec) : (Dev.rewatch d i r).2.mem = d.mem := by
  unfold Dev.rewatch; (repeat' split) <;> simp

@[simp] theorem Dev.expireRec_mem (d : Dev) (i : Nat) (r : LRec) : (Dev.expireRec d i r).2.mem = d.mem := by
  simp [Dev.expireRec, -List.foldl_append]

@[simp] theorem Dev.exportOne_mem (d : Dev) (i reason : Nat) (ext : Bool) : (Dev.exportOne d i reason ext).mem = d.mem := (rfl)

@[simp] theorem Dev.exportRec_mem (d : Dev) (i reason : Nat) : (Dev.exportRec d i reason).mem = d.mem := by
  simp [Dev.exportRec, -List.foldl_append]

@[simp] theorem Dev.dropPin_mem (d : Dev) (i : Nat) : (Dev.dropPin d i).mem = d.mem := (rfl)

@[simp] theorem Dev.copyPin_mem (d : Dev) (i : Nat) : (Dev.copyPin d i).mem = d.mem := by
  simp [Dev.copyPin, -List.foldl_append]

@[simp] theorem Dev.removeRec_mem (d : Dev) (i reason : Nat) (hm : Memory.wf d.mem = true) : Memory.wf (Dev.removeRec d i reason).mem = true := by
  unfold Dev.removeRec; (iterate 3 (all_goals ((repeat' split) <;> (try simp only [Prod.ext_iff] at *) <;> (try casesm* _ ∧ _) <;> (try subst_vars) <;> (try simp (maxDischargeDepth := 40) +contextual [foldl_ok, foldl_snd_ok, foldl_snd2_ok, *]) <;> (try refine foldl_ok _ (fun d x hm => ?_) _ _ ?_))))

@[simp] theorem Dev.watchAs_mem (d : Dev) (i : Nat) (old r : LRec) (arms : Bool) : (Dev.watchAs d i old r arms).2.mem = d.mem := by
  simp [Dev.watchAs, -List.foldl_append]

@[simp] theorem Dev.applyDone_mem (d : Dev) (i kind status : Nat) (j : Judged) (hm : Memory.wf d.mem = true) : Memory.wf (Dev.applyDone d i kind status j).2.mem = true := by
  simp (maxDischargeDepth := 40) [Dev.applyDone, hm, -List.foldl_append]

@[simp] theorem Dev.applyBad_mem (d : Dev) (i : Nat) : (Dev.applyBad d i).2.mem = d.mem := (rfl)

@[simp] theorem Dev.applySup_mem (d : Dev) (i kind status op : Nat) (r : LRec) (hm : Memory.wf d.mem = true) : Memory.wf (Dev.applySup d i kind status op r).2.mem = true := by
  unfold Dev.applySup; (repeat' split) <;> simp (maxDischargeDepth := 40) [hm]

@[simp] theorem Dev.applySeq_mem (d : Dev) (i kind status s : Nat) (r : LRec) (hm : Memory.wf d.mem = true) : Memory.wf (Dev.applySeq d i kind status s r).2.mem = true := by
  unfold Dev.applySeq; (iterate 3 (all_goals ((repeat' split) <;> (try simp only [Prod.ext_iff] at *) <;> (try casesm* _ ∧ _) <;> (try subst_vars) <;> (try simp (maxDischargeDepth := 40) +contextual [foldl_ok, foldl_snd_ok, foldl_snd2_ok, *]) <;> (try refine foldl_ok _ (fun d x hm => ?_) _ _ ?_))))

@[simp] theorem Dev.applyDelete_mem (d : Dev) (i status : Nat) (r : LRec) (hm : Memory.wf d.mem = true) : Memory.wf (Dev.applyDelete d i status r).2.mem = true := by
  simp (maxDischargeDepth := 40) [Dev.applyDelete, hm, -List.foldl_append]

@[simp] theorem Dev.applyFn_mem (d : Dev) (fn a i status : Nat) (hm : Memory.wf d.mem = true) : Memory.wf (Dev.applyFn d fn a i status).2.mem = true := by
  unfold Dev.applyFn; (repeat' split) <;> simp (maxDischargeDepth := 40) [hm]

@[simp] theorem Dev.bankRepair_mem (d : Dev) (b : Nat) : (Dev.bankRepair d b).mem = d.mem := by
  simp [Dev.bankRepair, -List.foldl_append]

@[simp] theorem Dev.rowRepair_mem (d : Dev) (b : Nat) : (Dev.rowRepair d b).mem = d.mem := by
  simp [Dev.rowRepair, -List.foldl_append]

@[simp] theorem Dev.lodeCorrected_mem (d : Dev) (b : Nat) : (Dev.lodeCorrected d b).mem = d.mem := by
  simp [Dev.lodeCorrected, -List.foldl_append]

@[simp] theorem Dev.lodeBadRow_mem (d : Dev) (b : Nat) : (Dev.lodeBadRow d b).mem = d.mem := by
  simp [Dev.lodeBadRow, -List.foldl_append]

@[simp] theorem Dev.scrapWay_mem (d : Dev) (i : Nat) (hm : Memory.wf d.mem = true) : Memory.wf (Dev.scrapWay d i).mem = true := by
  unfold Dev.scrapWay; (iterate 3 (all_goals ((repeat' split) <;> (try simp only [Prod.ext_iff] at *) <;> (try casesm* _ ∧ _) <;> (try subst_vars) <;> (try simp (maxDischargeDepth := 40) +contextual [foldl_ok, foldl_snd_ok, foldl_snd2_ok, *]) <;> (try refine foldl_ok _ (fun d x hm => ?_) _ _ ?_))))

@[simp] theorem Dev.pinBack_mem (d : Dev) (i : Nat) (hm : Memory.wf d.mem = true) : Memory.wf (Dev.pinBack d i).mem = true := by
  unfold Dev.pinBack; (iterate 3 (all_goals ((repeat' split) <;> (try simp only [Prod.ext_iff] at *) <;> (try casesm* _ ∧ _) <;> (try subst_vars) <;> (try simp (maxDischargeDepth := 40) +contextual [foldl_ok, foldl_snd_ok, foldl_snd2_ok, *]) <;> (try refine foldl_ok _ (fun d x hm => ?_) _ _ ?_))))

@[simp] theorem Dev.pinsBack_mem (d : Dev) (hm : Memory.wf d.mem = true) : Memory.wf (Dev.pinsBack d).mem = true := by
  simp (maxDischargeDepth := 40) +contextual [Dev.pinsBack, foldl_ok, foldl_snd_ok, foldl_snd2_ok, hm, -List.foldl_append]

@[simp] theorem Dev.countOp_mem (d : Dev) (q : Nat) (x : LRes) : (Dev.countOp d q x).mem = d.mem := by
  simp [Dev.countOp, -List.foldl_append]

@[simp] theorem Dev.wrxPut_mem (d : Dev) (i : Nat) (r : LRec) (hm : Memory.wf d.mem = true) : Memory.wf (Dev.wrxPut d i r).2.mem = true := by
  simp (maxDischargeDepth := 40) [Dev.wrxPut, hm, -List.foldl_append]

@[simp] theorem Dev.wrx_mem (d : Dev) (i : Nat) (w : LRec) (hm : Memory.wf d.mem = true) : Memory.wf (d.wrx i w).2.mem = true := by
  unfold Dev.wrx
  extract_lets r b whole
  clear_value r b whole
  split
  · exact hm
  · exact Dev.wrxPut_mem _ _ _ hm

@[simp] theorem Dev.insertAt_mem (d : Dev) (fn a i : Nat) (hm : Memory.wf d.mem = true) : Memory.wf (Dev.insertAt d fn a i).2.mem = true := by
  unfold Dev.insertAt; dsimp only; (repeat' split) <;> simp_all (maxDischargeDepth := 40)

@[simp] theorem Dev.dropKick_mem (d : Dev) (who : LodeBy) : (Dev.dropKick d who).mem = d.mem := (rfl)

@[simp] theorem Dev.kicked_mem (d : Dev) (who : LodeBy) (a b1 b2 : Nat) : (Dev.kicked d who a b1 b2).2.mem = d.mem := by
  unfold Dev.kicked; (repeat' split) <;> simp

@[simp] theorem lodeAns_mem (q : Nat) (x : LRes × Dev) : (lodeAns q x).2.mem = x.2.mem := by
  simp [lodeAns, -List.foldl_append]

@[simp] theorem Dev.lodeByIdx_mem (d : Dev) (fn a q i : Nat) (win : LRec) (ext : Bool) (bad : Option Nat) (hm : Memory.wf d.mem = true) : Memory.wf (Dev.lodeByIdx d fn a q i win ext bad).2.mem = true := by
  unfold Dev.lodeByIdx; dsimp only; (repeat' split) <;> simp_all (maxDischargeDepth := 40)

@[simp] theorem Dev.lodeKicked_mem (d : Dev) (who : LodeBy) (a q b1 b2 : Nat) : (Dev.lodeKicked d who a q b1 b2).2.mem = d.mem := by
  unfold Dev.lodeKicked; (repeat' split) <;> simp

@[simp] theorem Dev.lodeMiss_mem (d : Dev) (who : LodeBy) (fn a q b1 b2 : Nat) (two : Bool) (hm : Memory.wf d.mem = true) : Memory.wf (Dev.lodeMiss d who fn a q b1 b2 two).2.mem = true := by
  unfold Dev.lodeMiss; (repeat' split) <;> simp (maxDischargeDepth := 40) [hm]

@[simp] theorem Dev.lodeByKey_mem (d : Dev) (who : LodeBy) (fn a q b1 b2 : Nat) (ext : Bool) (bad : Option Nat) (hm : Memory.wf d.mem = true) : Memory.wf (Dev.lodeByKey d who fn a q b1 b2 ext bad).2.mem = true := by
  unfold Dev.lodeByKey; dsimp only; (repeat' split) <;> simp_all (maxDischargeDepth := 40)

@[simp] theorem Dev.meetsWord_mem (d : Dev) (b1 b2 : Nat) (z0 : Option (Nat × Bool)) : (Dev.meetsWord d b1 b2 z0).2.mem = d.mem := by
  unfold Dev.meetsWord; (repeat' split) <;> simp

@[simp] theorem Dev.lodeOp_mem (d : Dev) (who : LodeBy) (fn : Nat) (args : List Byte) (win : LRec) (sw ext : Bool) (bad : Option (Nat × Bool)) (hm : Memory.wf d.mem = true) : Memory.wf (Dev.lodeOp d who fn args win sw ext bad).2.mem = true := by
  unfold Dev.lodeOp; (iterate 3 (all_goals ((repeat' split) <;> (try simp only [Prod.ext_iff] at *) <;> (try casesm* _ ∧ _) <;> (try subst_vars) <;> (try simp (maxDischargeDepth := 40) +contextual [foldl_ok, foldl_snd_ok, foldl_snd2_ok, *]) <;> (try refine foldl_ok _ (fun d x hm => ?_) _ _ ?_))))

@[simp] theorem Dev.lodeStore_mem (d : Dev) (off : Nat) (bs : List Byte) (hm : Memory.wf d.mem = true) : Memory.wf (Dev.lodeStore d off bs).mem = true := by
  simp (maxDischargeDepth := 40) +contextual [Dev.lodeStore, foldl_ok, foldl_snd_ok, foldl_snd2_ok, hm, -List.foldl_append]

end Sys2Proof.Machine
end

