-- ==== Sys2Proof/Laws/MemoryUnits.lean ====
section
/-!
SUPPORT. What the operations of threads, Draught, the host queues, egress, links, relief, the tables and the coprocessors do to memory: it
stays as it was or keeps its canonical form.
-/

namespace Sys2Proof.Machine

set_option linter.unusedSimpArgs false
set_option linter.unreachableTactic false
set_option linter.unusedTactic false
set_option linter.unnecessarySeqFocus false
set_option linter.unusedVariables false

@[simp] theorem Dev.cycles_mem (d : Dev) (g : Nat) : (Dev.cycles d g).mem = d.mem := (rfl)

@[simp] theorem Dev.endNodeBad_mem (d : Dev) (k : Nat) (hm : Memory.wf d.mem = true) : Memory.wf (Dev.endNodeBad d k).mem = true := by
  unfold Dev.endNodeBad; (iterate 3 (all_goals ((repeat' split) <;> (try simp only [Prod.ext_iff] at *) <;> (try casesm* _ ∧ _) <;> (try subst_vars) <;> (try simp (maxDischargeDepth := 40) +contextual [foldl_ok, foldl_snd_ok, foldl_snd2_ok, *]) <;> (try refine foldl_ok _ (fun d x hm => ?_) _ _ ?_))))

@[simp] theorem Dev.stopThread_mem (d : Dev) (k : Nat) : (Dev.stopThread d k).mem = d.mem := (rfl)

@[simp] theorem Dev.faultThread_mem (d : Dev) (k code detail pc : Nat) (hm : Memory.wf d.mem = true) : Memory.wf (Dev.faultThread d k code detail pc).mem = true := by
  simp (maxDischargeDepth := 40) [Dev.faultThread, hm, -List.foldl_append]

@[simp] theorem Dev.refetch_mem (d : Dev) (k pc : Nat) : (Dev.refetch d k pc).mem = d.mem := (rfl)

@[simp] theorem Dev.supStart_mem (d : Dev) (k : Nat) : (Dev.supStart d k).mem = d.mem := by
  simp [Dev.supStart, -List.foldl_append]

@[simp] theorem Dev.clearThread_mem (d : Dev) (k : Nat) (hm : Memory.wf d.mem = true) : Memory.wf (Dev.clearThread d k).mem = true := by
  simp (maxDischargeDepth := 40) [Dev.clearThread, hm, -List.foldl_append]

@[simp] theorem Dev.resetThread_mem (d : Dev) (k : Nat) (hm : Memory.wf d.mem = true) : Memory.wf (Dev.resetThread d k).mem = true := by
  unfold Dev.resetThread; (repeat' split) <;> simp (maxDischargeDepth := 40) [hm]

@[simp] theorem Dev.killThread_mem (d : Dev) (k code : Nat) (hm : Memory.wf d.mem = true) : Memory.wf (Dev.killThread d k code).mem = true := by
  unfold Dev.killThread; (repeat' split) <;> simp (maxDischargeDepth := 40) [hm]

@[simp] theorem Dev.popFault_mem (d : Dev) (g : Nat) : (Dev.popFault d g).mem = d.mem := by
  simp [Dev.popFault, -List.foldl_append]

@[simp] theorem Dev.dropCoreQueue_mem (d : Dev) (g c : Nat) (hm : Memory.wf d.mem = true) : Memory.wf (Dev.dropCoreQueue d g c).mem = true := by
  unfold Dev.dropCoreQueue; (iterate 3 (all_goals ((repeat' split) <;> (try simp only [Prod.ext_iff] at *) <;> (try casesm* _ ∧ _) <;> (try subst_vars) <;> (try simp (maxDischargeDepth := 40) +contextual [foldl_ok, foldl_snd_ok, foldl_snd2_ok, *]) <;> (try refine foldl_ok _ (fun d x hm => ?_) _ _ ?_))))

@[simp] theorem Dev.resetCoreRegs_mem (d : Dev) (g c : Nat) (hm : Memory.wf d.mem = true) : Memory.wf (Dev.resetCoreRegs d g c).mem = true := by
  simp (maxDischargeDepth := 40) [Dev.resetCoreRegs, hm, -List.foldl_append]

@[simp] theorem Dev.resetCore_mem (d : Dev) (g c : Nat) (hm : Memory.wf d.mem = true) : Memory.wf (Dev.resetCore d g c).mem = true := by
  unfold Dev.resetCore; (iterate 3 (all_goals ((repeat' split) <;> (try simp only [Prod.ext_iff] at *) <;> (try casesm* _ ∧ _) <;> (try subst_vars) <;> (try simp (maxDischargeDepth := 40) +contextual [foldl_ok, foldl_snd_ok, foldl_snd2_ok, *]) <;> (try refine foldl_ok _ (fun d x hm => ?_) _ _ ?_))))

@[simp] theorem Dev.applyMode_mem (d : Dev) (k : Nat) (m : ModeChange) : (Dev.applyMode d k m).mem = d.mem := by
  unfold Dev.applyMode; (repeat' split) <;> simp

@[simp] theorem Dev.delayMode_mem (d : Dev) (k : Nat) (m : ModeChange) : (Dev.delayMode d k m).mem = d.mem := (rfl)

@[simp] theorem Dev.tickModes_mem (d : Dev) (k n : Nat) : (Dev.tickModes d k n).mem = d.mem := by
  simp [Dev.tickModes, -List.foldl_append]

@[simp] theorem Dev.applyModes_mem (d : Dev) (k : Nat) : (Dev.applyModes d k).mem = d.mem := by
  simp [Dev.applyModes, -List.foldl_append]

@[simp] theorem Dev.lateError_mem (d : Dev) (k epoch cp code detail pc : Nat) : (Dev.lateError d k epoch cp code detail pc).mem = d.mem := by
  simp [Dev.lateError, -List.foldl_append]

@[simp] theorem Dev.loadBytes_mem (d : Dev) (k : Nat) (p : Place) (n : Nat) : (Dev.loadBytes d k p n).2.2.mem = d.mem := by
  unfold Dev.loadBytes; (iterate 3 (all_goals ((repeat' split) <;> (try simp only [Prod.ext_iff] at *) <;> (try casesm* _ ∧ _) <;> (try subst_vars) <;> (try simp) <;> (try refine foldl_mem _ (fun d x => ?_) _ _))))

@[simp] theorem Dev.storeBytes_mem (d : Dev) (k : Nat) (p : Place) (bs : List Byte) (hm : Memory.wf d.mem = true) : Memory.wf (Dev.storeBytes d k p bs).mem = true := by
  unfold Dev.storeBytes; (repeat' split) <;> simp (maxDischargeDepth := 40) [hm]

@[simp] theorem Dev.performEntry_mem (d : Dev) (k : Nat) (z0 : SbEntry) (hm : Memory.wf d.mem = true) : Memory.wf (Dev.performEntry d k z0).mem = true := by
  unfold Dev.performEntry; (repeat' split) <;> simp (maxDischargeDepth := 40) [hm]

@[simp] theorem Dev.holdThread_mem (d : Dev) (k : Nat) : (Dev.holdThread d k).mem = d.mem := by
  unfold Dev.holdThread; (iterate 3 (all_goals ((repeat' split) <;> (try simp only [Prod.ext_iff] at *) <;> (try casesm* _ ∧ _) <;> (try subst_vars) <;> (try simp) <;> (try refine foldl_mem _ (fun d x => ?_) _ _))))

@[simp] theorem Dev.stallThread_mem (d : Dev) (k why : Nat) (need : List Nat) : (Dev.stallThread d k why need).mem = d.mem := by
  simp [Dev.stallThread, -List.foldl_append]

@[simp] theorem Dev.wakeThread_mem (d : Dev) (k : Nat) : (Dev.wakeThread d k).mem = d.mem := by
  simp [Dev.wakeThread, -List.foldl_append]

@[simp] theorem Dev.ownSlot_mem (d : Dev) (k : Nat) (rs : List Nat) : (Dev.ownSlot d k rs).mem = d.mem := (rfl)

@[simp] theorem Dev.later_mem (d : Dev) (k lat : Nat) (rs : List Nat) : (Dev.later d k lat rs).mem = d.mem := (rfl)

@[simp] theorem Dev.sitOut_mem (d : Dev) (k : Nat) : (Dev.sitOut d k).mem = d.mem := (rfl)

@[simp] theorem Dev.countWait_mem (d : Dev) (k : Nat) (t : Thread) : (Dev.countWait d k t).mem = d.mem := by
  unfold Dev.countWait; (repeat' split) <;> simp

@[simp] theorem Dev.taken_mem (d : Dev) (k cost : Nat) : (Dev.taken d k cost).mem = d.mem := by
  simp [Dev.taken, -List.foldl_append]

@[simp] theorem Dev.finish_mem (d : Dev) (k n : Nat) : (Dev.finish d k n).mem = d.mem := by
  simp [Dev.finish, -List.foldl_append]

@[simp] theorem Dev.turnAway_mem (d : Dev) (k why : Nat) : (Dev.turnAway d k why).mem = d.mem := by
  simp [Dev.turnAway, -List.foldl_append]

/-- The device an instruction's action goes on with keeps the canonical form. -/
def Act.memOk : Act → Prop
  | .pre d | .go d | .jump d _ => Memory.wf d.mem = true
  | _ => True

theorem Dev.issue_mem (d : Dev) (k mask pat cost : Nat) (rs : List Nat) (x : Bool) (body : Thread → Dev → Act)
    (hb : ∀ t e, Memory.wf e.mem = true → (body t e).memOk) (hm : Memory.wf d.mem = true) : Memory.wf (d.issue k mask pat cost rs x body).mem = true := by
  unfold Dev.issue
  extract_lets t pc
  clear_value t pc
  have hd : Memory.wf ((((if t.st = .stall then d.galTrace k 2 pc else d).ownSlot k rs).galTrace k 0 pc).taken k cost).mem = true := by
    split <;> simp [hm]
  have ha := hb t _ hd
  iterate 6 (split; · simp [hm])
  split <;> rename_i h <;> rw [h] at ha <;> simp_all [Act.memOk]

@[simp] theorem Dev.endNode_mem (d : Dev) (k : Nat) (hm : Memory.wf d.mem = true) : Memory.wf (Dev.endNode d k).mem = true := by
  unfold Dev.endNode; (iterate 3 (all_goals ((repeat' split) <;> (try simp only [Prod.ext_iff] at *) <;> (try casesm* _ ∧ _) <;> (try subst_vars) <;> (try simp (maxDischargeDepth := 40) +contextual [foldl_ok, foldl_snd_ok, foldl_snd2_ok, *]) <;> (try refine foldl_ok _ (fun d x hm => ?_) _ _ ?_))))

@[simp] theorem Dev.drainCheck_mem (d : Dev) (k : Nat) (hm : Memory.wf d.mem = true) : Memory.wf (Dev.drainCheck d k).mem = true := by
  unfold Dev.drainCheck; (iterate 3 (all_goals ((repeat' split) <;> (try simp only [Prod.ext_iff] at *) <;> (try casesm* _ ∧ _) <;> (try subst_vars) <;> (try simp (maxDischargeDepth := 40) +contextual [foldl_ok, foldl_snd_ok, foldl_snd2_ok, *]) <;> (try refine foldl_ok _ (fun d x hm => ?_) _ _ ?_))))

@[simp] theorem Dev.opsOver_mem (d : Dev) (k : Nat) (hm : Memory.wf d.mem = true) : Memory.wf (Dev.opsOver d k).mem = true := by
  unfold Dev.opsOver; dsimp only; (repeat' split) <;> simp_all (maxDischargeDepth := 40)

@[simp] theorem Dev.genStart_mem (d : Dev) (g : Nat) (v : Word64) : (Dev.genStart d g v).mem = d.mem := by
  unfold Dev.genStart; (iterate 3 (all_goals ((repeat' split) <;> (try simp only [Prod.ext_iff] at *) <;> (try casesm* _ ∧ _) <;> (try subst_vars) <;> (try simp) <;> (try refine foldl_mem _ (fun d x => ?_) _ _))))

@[simp] theorem Dev.roseCommit_mem (d : Dev) (g c : Nat) : (Dev.roseCommit d g c).mem = d.mem := by
  simp [Dev.roseCommit, -List.foldl_append]

@[simp] theorem Dev.roseShadow_mem (d : Dev) (g c : Nat) (r : Reg) (v : Word64) : (Dev.roseShadow d g c r v).mem = d.mem := by
  simp [Dev.roseShadow, -List.foldl_append]

@[simp] theorem Dev.setFace_mem (d : Dev) (g s : Nat) : (Dev.setFace d g s).mem = d.mem := (rfl)

@[simp] theorem Dev.sendLate_mem (d : Dev) (k epoch cp code detail pc : Nat) : (Dev.sendLate d k epoch cp code detail pc).mem = d.mem := (rfl)

@[simp] theorem Dev.writeBack_mem (d : Dev) (k : Nat) (o : CpOp) (v : Nat) : (Dev.writeBack d k o v).mem = d.mem := by
  simp [Dev.writeBack, -List.foldl_append]

@[simp] theorem Dev.faceFlush_mem (d : Dev) (g : Nat) (hm : Memory.wf d.mem = true) : Memory.wf (Dev.faceFlush d g).mem = true := by
  unfold Dev.faceFlush; (iterate 3 (all_goals ((repeat' split) <;> (try simp only [Prod.ext_iff] at *) <;> (try casesm* _ ∧ _) <;> (try subst_vars) <;> (try simp (maxDischargeDepth := 40) +contextual [foldl_ok, foldl_snd_ok, foldl_snd2_ok, *]) <;> (try refine foldl_ok _ (fun d x hm => ?_) _ _ ?_))))

@[simp] theorem Dev.flushStores_mem (d : Dev) (k : Nat) (hm : Memory.wf d.mem = true) : Memory.wf (Dev.flushStores d k).mem = true := by
  simp (maxDischargeDepth := 40) +contextual [Dev.flushStores, foldl_ok, foldl_snd_ok, foldl_snd2_ok, hm, -List.foldl_append]

@[simp] theorem Dev.resetGallery_mem (d : Dev) (g : Nat) (hm : Memory.wf d.mem = true) : Memory.wf (Dev.resetGallery d g).mem = true := by
  unfold Dev.resetGallery; (iterate 3 (all_goals ((repeat' split) <;> (try simp only [Prod.ext_iff] at *) <;> (try casesm* _ ∧ _) <;> (try subst_vars) <;> (try simp (maxDischargeDepth := 40) +contextual [foldl_ok, foldl_snd_ok, foldl_snd2_ok, *]) <;> (try refine foldl_ok _ (fun d x hm => ?_) _ _ ?_))))

@[simp] theorem Dev.faceLoad_mem (d : Dev) (g : Nat) : (Dev.faceLoad d g).mem = d.mem := by
  simp [Dev.faceLoad, -List.foldl_append]

@[simp] theorem Dev.faceEmpty_mem (d : Dev) (g : Nat) (hm : Memory.wf d.mem = true) : Memory.wf (Dev.faceEmpty d g).mem = true := by
  simp (maxDischargeDepth := 40) [Dev.faceEmpty, hm, -List.foldl_append]

@[simp] theorem Dev.faceClear_mem (d : Dev) (g : Nat) (hm : Memory.wf d.mem = true) : Memory.wf (Dev.faceClear d g).mem = true := by
  unfold Dev.faceClear; (repeat' split) <;> simp (maxDischargeDepth := 40) [hm]

@[simp] theorem Dev.faceLimit_mem (d : Dev) (g : Nat) : (Dev.faceLimit d g).mem = d.mem := by
  simp [Dev.faceLimit, -List.foldl_append]

@[simp] theorem Dev.faceStart_mem (d : Dev) (g : Nat) : (Dev.faceStart d g).mem = d.mem := by
  simp [Dev.faceStart, -List.foldl_append]

@[simp] theorem Dev.faceRun_mem (d : Dev) (g : Nat) (run : Bool) (hm : Memory.wf d.mem = true) : Memory.wf (Dev.faceRun d g run).mem = true := by
  unfold Dev.faceRun; (repeat' split) <;> simp (maxDischargeDepth := 40) [hm]

@[simp] theorem Dev.glAfterRead_mem (d : Dev) (id : RegId) (ix : List Nat) : (Dev.glAfterRead d id ix).mem = d.mem := by
  unfold Dev.glAfterRead; (repeat' split) <;> simp

@[simp] theorem Dev.glCtl_mem (d : Dev) (g : Nat) (v : Word64) (src : Src) (hm : Memory.wf d.mem = true) : Memory.wf (d.glCtl g v src).mem = true := by
  unfold Dev.glCtl
  extract_lets e
  have he : Memory.wf e.mem = true := by
    refine foldl_ok _ (fun d c h => ?_) _ _ hm
    split
    · exact Dev.resetCore_mem _ _ _ h
    · exact h
  clear_value e
  split
  · simp [he]
  · simp [he]

@[simp] theorem Dev.glTctl_mem (d : Dev) (k : Nat) (old v : Word64) (was : BitVec 8 × Nat × Nat) (src : Src) (hm : Memory.wf d.mem = true) : Memory.wf (Dev.glTctl d k old v was src).mem = true := by
  unfold Dev.glTctl; (repeat' split) <;> simp (maxDischargeDepth := 40) [hm]

@[simp] theorem Dev.glAfterWrite_mem (d : Dev) (id : RegId) (ix : List Nat) (old v : Word64) (was : BitVec 8 × Nat × Nat) (src : Src) (hm : Memory.wf d.mem = true) : Memory.wf (Dev.glAfterWrite d id ix old v was src).mem = true := by
  unfold Dev.glAfterWrite; (repeat' split) <;> simp (maxDischargeDepth := 40) [hm]

@[simp] theorem Dev.glRead_mem (d : Dev) (id : RegId) (ix : List Nat) (lo hi : Nat) : (Dev.glRead d id ix lo hi).2.mem = d.mem := by
  simp [Dev.glRead, -List.foldl_append]

@[simp] theorem Dev.glWrite_mem (d : Dev) (id : RegId) (ix : List Nat) (eff : Word64) (src : Src) (hm : Memory.wf d.mem = true) : Memory.wf (Dev.glWrite d id ix eff src).mem = true := by
  simp (maxDischargeDepth := 40) [Dev.glWrite, hm, -List.foldl_append]

@[simp] theorem Dev.supLoad_mem (d : Dev) (g o n : Nat) : (Dev.supLoad d g o n).2.mem = d.mem := by
  unfold Dev.supLoad; (repeat' split) <;> simp

@[simp] theorem Dev.supStore_mem (d : Dev) (g o n v : Nat) (hm : Memory.wf d.mem = true) : Memory.wf (Dev.supStore d g o n v).mem = true := by
  unfold Dev.supStore; (repeat' split) <;> simp (maxDischargeDepth := 40) [hm]

@[simp] theorem Dev.form2_mem (d : Dev) (k op dst src : Nat) (f : Thread → Word32 → Word32 → Thread) (rs : List Nat) (hm : Memory.wf d.mem = true) : Memory.wf (Dev.form2 d k op dst src f rs).mem = true :=   Dev.issue_mem _ _ _ _ _ _ _ _ (fun _ _ h => by simp [Act.memOk, h]) hm

@[simp] theorem Dev.formMul_mem (d : Dev) (k op dst src : Nat) (rs : List Nat) (f : Thread → Word32 → Word32 → Thread) (hm : Memory.wf d.mem = true) : Memory.wf (d.formMul k op dst src rs f).mem = true :=
  Dev.issue_mem _ _ _ _ _ _ _ _ (fun _ _ h => by simp [Act.memOk, h]) hm

@[simp] theorem Dev.form1_mem (d : Dev) (k op r : Nat) (rs : List Nat) (f : Thread → Word32 → Thread) (hm : Memory.wf d.mem = true) : Memory.wf (Dev.form1 d k op r rs f).mem = true :=   Dev.issue_mem _ _ _ _ _ _ _ _ (fun _ _ h => by simp [Act.memOk, h]) hm

@[simp] theorem Dev.formImm_mem (d : Dev) (k major dst imm : Nat) (rs : List Nat) (f : Thread → Word32 → Word32 → Thread) (hm : Memory.wf d.mem = true) : Memory.wf (Dev.formImm d k major dst imm rs f).mem = true :=   Dev.issue_mem _ _ _ _ _ _ _ _ (fun _ _ h => by simp [Act.memOk, h]) hm

@[simp] theorem Dev.formShift_mem (d : Dev) (k op dst src : Nat) (s : ShiftOp) (hm : Memory.wf d.mem = true) : Memory.wf (Dev.formShift d k op dst src s).mem = true := by
  simp (maxDischargeDepth := 40) [Dev.formShift, hm, -List.foldl_append]

@[simp] theorem Dev.formShiftImm_mem (d : Dev) (k op dst n : Nat) (s : ShiftOp) (hm : Memory.wf d.mem = true) : Memory.wf (d.formShiftImm k op dst n s).mem = true :=
  Dev.issue_mem _ _ _ _ _ _ _ _ (fun _ _ h => by simp [Act.memOk, h]) hm

@[simp] theorem Dev.tmplEnable_mem (d : Dev) (t : Nat) (en : Bool) : (Dev.tmplEnable d t en).mem = d.mem := by
  simp [Dev.tmplEnable, -List.foldl_append]

@[simp] theorem Dev.setDelays_mem (d : Dev) (g : Nat) (l : List Delay) : (Dev.setDelays d g l).mem = d.mem := by
  simp [Dev.setDelays, -List.foldl_append]

@[simp] theorem Dev.dispatch_mem (d : Dev) (g : Nat) (r : NodeRef) (hm : Memory.wf d.mem = true) : Memory.wf (Dev.dispatch d g r).mem = true := by
  unfold Dev.dispatch; (iterate 3 (all_goals ((repeat' split) <;> (try simp only [Prod.ext_iff] at *) <;> (try casesm* _ ∧ _) <;> (try subst_vars) <;> (try simp (maxDischargeDepth := 40) +contextual [foldl_ok, foldl_snd_ok, foldl_snd2_ok, *]) <;> (try refine foldl_ok _ (fun d x hm => ?_) _ _ ?_))))

@[simp] theorem Dev.countTurned_mem (d : Dev) (g : Nat) : (Dev.countTurned d g).mem = d.mem := by
  simp [Dev.countTurned, -List.foldl_append]

@[simp] theorem Dev.takeEngine_mem (d : Dev) (g kind : Nat) : (Dev.takeEngine d g kind).2.mem = d.mem := by
  unfold Dev.takeEngine; (repeat' split) <;> simp

@[simp] theorem Dev.helperReturn_mem (d : Dev) (g : Nat) (r : NodeRef) (kind status : Nat) : (Dev.helperReturn d g r kind status).mem = d.mem := (rfl)

@[simp] theorem Dev.putResult_mem (d : Dev) (g : Nat) (r : NodeRef) (off : Nat) (bs : List Byte) (hm : Memory.wf d.mem = true) : Memory.wf (Dev.putResult d g r off bs).mem = true := by
  unfold Dev.putResult; (iterate 3 (all_goals ((repeat' split) <;> (try simp only [Prod.ext_iff] at *) <;> (try casesm* _ ∧ _) <;> (try subst_vars) <;> (try simp (maxDischargeDepth := 40) +contextual [foldl_ok, foldl_snd_ok, foldl_snd2_ok, *]) <;> (try refine foldl_ok _ (fun d x hm => ?_) _ _ ?_))))

@[simp] theorem Dev.noteGen_mem (d : Dev) (g : Nat) (r : NodeRef) (fn status record : Nat) : (Dev.noteGen d g r fn status record).mem = d.mem := by
  simp [Dev.noteGen, -List.foldl_append]

@[simp] theorem Dev.fireDelays_mem (d : Dev) (g tick : Nat) (hm : Memory.wf d.mem = true) : Memory.wf (Dev.fireDelays d g tick).mem = true := by
  simp (maxDischargeDepth := 40) +contextual [Dev.fireDelays, foldl_ok, foldl_snd_ok, foldl_snd2_ok, hm, -List.foldl_append]

@[simp] theorem Dev.ringPut_mem (d : Dev) (base n i : Nat) (wrap : Bool) (rs : List Nat) (hm : Memory.wf d.mem = true) : Memory.wf (d.ringPut base n i wrap rs).2.mem = true := by
  unfold Dev.ringPut
  refine foldl_snd_ok _ (fun a r h => ?_) _ _ hm
  simp [h]

@[simp] theorem Dev.dispTraceAt_mem (d : Dev) (n m i : Nat) (wrap : Bool) : (Dev.dispTraceAt d n m i wrap).mem = d.mem := by
  simp [Dev.dispTraceAt, -List.foldl_append]

@[simp] theorem Dev.modHi_mem (d : Dev) (f : HostIf → HostIf) : (Dev.modHi d f).mem = d.mem := (rfl)

@[simp] theorem Dev.setPba_mem (d : Dev) (fn e : Nat) (b : Bool) (hm : Memory.wf d.mem = true) : Memory.wf (Dev.setPba d fn e b).mem = true := by
  simp (maxDischargeDepth := 40) [Dev.setPba, hm, -List.foldl_append]

@[simp] theorem Dev.msix_mem (d : Dev) (fn e : Nat) (hm : Memory.wf d.mem = true) : Memory.wf (Dev.msix d fn e).mem = true := by
  unfold Dev.msix; (repeat' split) <;> simp (maxDischargeDepth := 40) [hm]

@[simp] theorem Dev.msixUnmask_mem (d : Dev) (fn e : Nat) (hm : Memory.wf d.mem = true) : Memory.wf (Dev.msixUnmask d fn e).mem = true := by
  unfold Dev.msixUnmask; (iterate 3 (all_goals ((repeat' split) <;> (try simp only [Prod.ext_iff] at *) <;> (try casesm* _ ∧ _) <;> (try subst_vars) <;> (try simp (maxDischargeDepth := 40) +contextual [foldl_ok, foldl_snd_ok, foldl_snd2_ok, *]) <;> (try refine foldl_ok _ (fun d x hm => ?_) _ _ ?_))))

@[simp] theorem Dev.setRxSt_mem (d : Dev) (q s : Nat) : (Dev.setRxSt d q s).mem = d.mem := (rfl)

@[simp] theorem Dev.setTxSt_mem (d : Dev) (q s : Nat) : (Dev.setTxSt d q s).mem = d.mem := (rfl)

@[simp] theorem Dev.freeHostQ_mem (d : Dev) (q : Nat) (f : Fld) (hm : Memory.wf d.mem = true) : Memory.wf (Dev.freeHostQ d q f).mem = true := by
  simp (maxDischargeDepth := 40) [Dev.freeHostQ, hm, -List.foldl_append]

@[simp] theorem Dev.hostHead_mem (d : Dev) (q n : Nat) (hm : Memory.wf d.mem = true) : Memory.wf (d.hostHead q n).mem = true := by
  induction n generalizing d with
  | zero => exact hm
  | succ n ih =>
    unfold Dev.hostHead
    dsimp only
    split
    · exact hm
    · split
      · exact ih _ (by simp [hm])
      · split <;> simp [hm]

@[simp] theorem Dev.hostArrive_mem (d : Dev) (x : Desc) (hm : Memory.wf d.mem = true) : Memory.wf (Dev.hostArrive d x).mem = true := by
  unfold Dev.hostArrive; (iterate 3 (all_goals ((repeat' split) <;> (try simp only [Prod.ext_iff] at *) <;> (try casesm* _ ∧ _) <;> (try subst_vars) <;> (try simp (maxDischargeDepth := 40) +contextual [foldl_ok, foldl_snd_ok, foldl_snd2_ok, *]) <;> (try refine foldl_ok _ (fun d x hm => ?_) _ _ ?_))))

@[simp] theorem Dev.dropHeld_mem (d : Dev) (p : Nat → Bool) (hm : Memory.wf d.mem = true) : Memory.wf (Dev.dropHeld d p).mem = true := by
  unfold Dev.dropHeld; (iterate 3 (all_goals ((repeat' split) <;> (try simp only [Prod.ext_iff] at *) <;> (try casesm* _ ∧ _) <;> (try subst_vars) <;> (try simp (maxDischargeDepth := 40) +contextual [foldl_ok, foldl_snd_ok, foldl_snd2_ok, *]) <;> (try refine foldl_ok _ (fun d x hm => ?_) _ _ ?_))))

@[simp] theorem Dev.stopRx_mem (d : Dev) (q : Nat) (hm : Memory.wf d.mem = true) : Memory.wf (Dev.stopRx d q).mem = true := by
  simp (maxDischargeDepth := 40) [Dev.stopRx, hm, -List.foldl_append]

@[simp] theorem Dev.stopTx_mem (d : Dev) (q : Nat) (hm : Memory.wf d.mem = true) : Memory.wf (Dev.stopTx d q).mem = true := by
  simp (maxDischargeDepth := 40) [Dev.stopTx, hm, -List.foldl_append]

@[simp] theorem Dev.queueError_mem (d : Dev) (q : Nat) (tx : Bool) (hm : Memory.wf d.mem = true) : Memory.wf (Dev.queueError d q tx).mem = true := by
  unfold Dev.queueError; (repeat' split) <;> simp (maxDischargeDepth := 40) [hm]

@[simp] theorem Dev.qcfgWrite_mem (d : Dev) (q : Nat) (v : Word64) (hm : Memory.wf d.mem = true) : Memory.wf (Dev.qcfgWrite d q v).2.mem = true := by
  unfold Dev.qcfgWrite; (iterate 3 (all_goals ((repeat' split) <;> (try simp only [Prod.ext_iff] at *) <;> (try casesm* _ ∧ _) <;> (try subst_vars) <;> (try simp (maxDischargeDepth := 40) +contextual [foldl_ok, foldl_snd_ok, foldl_snd2_ok, *]) <;> (try refine foldl_ok _ (fun d x hm => ?_) _ _ ?_))))

@[simp] theorem Dev.completed_mem (d : Dev) (q : Nat) : (Dev.completed d q).mem = d.mem := (rfl)

@[simp] theorem Dev.pairMessage_mem (d : Dev) (q : Nat) (hm : Memory.wf d.mem = true) : Memory.wf (Dev.pairMessage d q).mem = true := by
  simp (maxDischargeDepth := 40) [Dev.pairMessage, hm, -List.foldl_append]

@[simp] theorem Dev.txBack_mem (d : Dev) (q desc status stamp : Nat) : (Dev.txBack d q desc status stamp).mem = d.mem := (rfl)

@[simp] theorem Dev.txPassed_mem (d : Dev) (f : Frame) : (Dev.txPassed d f).mem = d.mem := by
  simp [Dev.txPassed, -List.foldl_append]

@[simp] theorem Dev.lullLink_mem (d : Dev) : (Dev.lullLink d).mem = d.mem := by
  simp [Dev.lullLink, -List.foldl_append]

@[simp] theorem Dev.runLink_mem (d : Dev) : (Dev.runLink d).mem = d.mem := by
  unfold Dev.runLink; (repeat' split) <;> simp

@[simp] theorem Dev.txCells_mem (d : Dev) (h : Nat) (hm : Memory.wf d.mem = true) : Memory.wf (Dev.txCells d h).mem = true := by
  unfold Dev.txCells; (iterate 3 (all_goals ((repeat' split) <;> (try simp only [Prod.ext_iff] at *) <;> (try casesm* _ ∧ _) <;> (try subst_vars) <;> (try simp (maxDischargeDepth := 40) +contextual [foldl_ok, foldl_snd_ok, foldl_snd2_ok, *]) <;> (try refine foldl_ok _ (fun d x hm => ?_) _ _ ?_))))

@[simp] theorem Dev.grantEnd_mem (d : Dev) (k : Nat) : (Dev.grantEnd d k).mem = d.mem := by
  simp [Dev.grantEnd, -List.foldl_append]

@[simp] theorem Dev.cageReset_mem (d : Dev) (fn : Nat) (hm : Memory.wf d.mem = true) : Memory.wf (Dev.cageReset d fn).mem = true := by
  simp (maxDischargeDepth := 40) [Dev.cageReset, hm, -List.foldl_append]

@[simp] theorem Dev.msixReset_mem (d : Dev) (fn : Nat) (hm : Memory.wf d.mem = true) : Memory.wf (Dev.msixReset d fn).mem = true := by
  unfold Dev.msixReset; (repeat' split) <;> simp (maxDischargeDepth := 40) [hm]

@[simp] theorem Dev.flr_mem (d : Dev) (fn : Nat) (hm : Memory.wf d.mem = true) : Memory.wf (Dev.flr d fn).mem = true := by
  unfold Dev.flr; (iterate 3 (all_goals ((repeat' split) <;> (try simp only [Prod.ext_iff] at *) <;> (try casesm* _ ∧ _) <;> (try subst_vars) <;> (try simp (maxDischargeDepth := 40) +contextual [foldl_ok, foldl_snd_ok, foldl_snd2_ok, *]) <;> (try refine foldl_ok _ (fun d x hm => ?_) _ _ ?_))))

@[simp] theorem Dev.enqueueOne_mem (d : Dev) (r : EnqReq) (hm : Memory.wf d.mem = true) : Memory.wf (Dev.enqueueOne d r).mem = true := by
  unfold Dev.enqueueOne; (iterate 3 (all_goals ((repeat' split) <;> (try simp only [Prod.ext_iff] at *) <;> (try casesm* _ ∧ _) <;> (try subst_vars) <;> (try simp (maxDischargeDepth := 40) +contextual [foldl_ok, foldl_snd_ok, foldl_snd2_ok, *]) <;> (try refine foldl_ok _ (fun d x hm => ?_) _ _ ?_))))

@[simp] theorem Dev.arrive_mem (d : Dev) (col : Nat) (x : Desc) (hm : Memory.wf d.mem = true) : Memory.wf (Dev.arrive d col x).mem = true := by
  unfold Dev.arrive; dsimp only; (repeat' split) <;> simp_all (maxDischargeDepth := 40)

@[simp] theorem Dev.setK_mem (d : Dev) (row cls : Nat) (k : Int) : (Dev.setK d row cls k).mem = d.mem := (rfl)

@[simp] theorem Dev.tuneRow_mem (d : Dev) (row : Nat) : (Dev.tuneRow d row).mem = d.mem := by
  simp [Dev.tuneRow, -List.foldl_append]

@[simp] theorem Dev.capRoom_mem (d : Dev) (u size : Nat) (z0 : Nat) : (Dev.capRoom d u size z0).mem = d.mem := by
  induction z0 generalizing d <;> (unfold Dev.capRoom; (repeat' split) <;> simp_all)

@[simp] theorem Dev.capRead_mem (d : Dev) (old new : Nat) : (Dev.capRead d old new).mem = d.mem := (rfl)

@[simp] theorem Dev.capPut_mem (d : Dev) (base size n i : Nat) (bs : List Byte) (hm : Memory.wf d.mem = true) : Memory.wf (d.capPut base size n i bs).2.mem = true := by
  induction n generalizing d i bs with
  | zero => exact hm
  | succ n ih =>
    unfold Dev.capPut
    dsimp only
    split
    · exact ih _ _ _ (by simp [hm])
    · simp [hm]

@[simp] theorem Dev.capStore_mem (d : Dev) (x : Desc) (bytes : List Byte) (size u : Nat) (hm : Memory.wf d.mem = true) : Memory.wf (Dev.capStore d x bytes size u).mem = true := by
  unfold Dev.capStore; (iterate 3 (all_goals ((repeat' split) <;> (try simp only [Prod.ext_iff] at *) <;> (try casesm* _ ∧ _) <;> (try subst_vars) <;> (try simp (maxDischargeDepth := 40) +contextual [foldl_ok, foldl_snd_ok, foldl_snd2_ok, *]) <;> (try refine foldl_ok _ (fun d x hm => ?_) _ _ ?_))))

@[simp] theorem Dev.capTake_mem (d : Dev) (x : Desc) (hm : Memory.wf d.mem = true) : Memory.wf (Dev.capTake d x).mem = true := by
  unfold Dev.capTake; dsimp only; (repeat' split) <;> simp_all (maxDischargeDepth := 40)

@[simp] theorem Dev.shape_mem (d : Dev) (p : Nat) : (Dev.shape d p).mem = d.mem := (rfl)

@[simp] theorem Dev.dwrr_mem (d : Dev) (p : Nat) (ok : List Nat) (z0 : Nat) : (Dev.dwrr d p ok z0).2.mem = d.mem := by
  induction z0 generalizing d <;> simp [Dev.dwrr, *]

@[simp] theorem Dev.pickOf_mem (d : Dev) (p : Nat) (ok : List Nat) : (Dev.pickOf d p ok).2.mem = d.mem := by
  unfold Dev.pickOf; (repeat' split) <;> simp

@[simp] theorem Dev.pickQueue_mem (d : Dev) (p : Nat) : (Dev.pickQueue d p).2.mem = d.mem := by
  unfold Dev.pickQueue; (iterate 3 (all_goals ((repeat' split) <;> (try simp only [Prod.ext_iff] at *) <;> (try casesm* _ ∧ _) <;> (try subst_vars) <;> (try simp) <;> (try refine foldl_mem _ (fun d x => ?_) _ _))))

@[simp] theorem Dev.startHead_mem (d : Dev) (p q : Nat) : (Dev.startHead d p q).mem = d.mem := by
  unfold Dev.startHead; (repeat' split) <;> simp

@[simp] theorem Dev.startFrame_mem (d : Dev) (p q : Nat) : (Dev.startFrame d p q).mem = d.mem := by
  unfold Dev.startFrame; (iterate 3 (all_goals ((repeat' split) <;> (try simp only [Prod.ext_iff] at *) <;> (try casesm* _ ∧ _) <;> (try subst_vars) <;> (try simp) <;> (try refine foldl_mem _ (fun d x => ?_) _ _))))

@[simp] theorem Dev.dropStale_mem (d : Dev) (p q : Nat) (z0 : Nat) (hm : Memory.wf d.mem = true) : Memory.wf (Dev.dropStale d p q z0).mem = true := by
  induction z0 generalizing d <;> (unfold Dev.dropStale; (repeat' split) <;> simp_all (maxDischargeDepth := 40))

@[simp] theorem Dev.cutFrame_mem (d : Dev) (p : Nat) (close : Bool) : (Dev.cutFrame d p close).mem = d.mem := by
  unfold Dev.cutFrame; (repeat' split) <;> simp

@[simp] theorem Dev.dropAllStale_mem (d : Dev) (p : Nat) (hm : Memory.wf d.mem = true) : Memory.wf (Dev.dropAllStale d p).mem = true := by
  simp (maxDischargeDepth := 40) +contextual [Dev.dropAllStale, foldl_ok, foldl_snd_ok, foldl_snd2_ok, hm, -List.foldl_append]

@[simp] theorem Dev.sendNext_mem (d : Dev) (p : Nat) : (Dev.sendNext d p).mem = d.mem := by
  unfold Dev.sendNext; (iterate 3 (all_goals ((repeat' split) <;> (try simp only [Prod.ext_iff] at *) <;> (try casesm* _ ∧ _) <;> (try subst_vars) <;> (try simp) <;> (try refine foldl_mem _ (fun d x => ?_) _ _))))

@[simp] theorem Dev.stampErr_mem (d : Dev) (p : Nat) : (Dev.stampErr d p).2.mem = d.mem := (rfl)

@[simp] theorem Dev.egressQ_mem (d : Dev) (p : Nat) : (Dev.egressQ d p).2.mem = d.mem := (rfl)

@[simp] theorem Dev.ptpOwed_mem (d : Dev) (p : Nat) (x : Desc) (kind : Nat) (eg : Int) : (Dev.ptpOwed d p x kind eg).2.mem = d.mem := by
  simp [Dev.ptpOwed, -List.foldl_append]

@[simp] theorem Dev.ptpEvent_mem (d : Dev) (p : Nat) (x : Desc) (bs : List Byte) (o : Nat) : (Dev.ptpEvent d p x bs o).2.mem = d.mem := by
  simp [Dev.ptpEvent, -List.foldl_append]

@[simp] theorem Dev.ptpSettle_mem (d : Dev) (p kind : Nat) (bs : List Byte) (o : Nat) : (Dev.ptpSettle d p kind bs o).2.mem = d.mem := by
  unfold Dev.ptpSettle; (repeat' split) <;> simp

@[simp] theorem Dev.ptpGeneral_mem (d : Dev) (p : Nat) (x : Desc) (bs : List Byte) (o : Nat) : (Dev.ptpGeneral d p x bs o).2.mem = d.mem := by
  unfold Dev.ptpGeneral; (repeat' split) <;> simp

@[simp] theorem Dev.oneStep_mem (d : Dev) (p : Nat) (x : Desc) (bs : List Byte) (hm : Memory.wf d.mem = true) : Memory.wf (Dev.oneStep d p x bs).2.mem = true := by
  unfold Dev.oneStep; dsimp only; (repeat' split) <;> simp_all (maxDischargeDepth := 40)

@[simp] theorem Dev.redSeq_mem (d : Dev) (p : Nat) (x : Desc) : (Dev.redSeq d p x).2.mem = d.mem := by
  unfold Dev.redSeq; (repeat' split) <;> simp

@[simp] theorem Dev.protect_mem (d : Dev) (p : Nat) (bs : List Byte) : (Dev.protect d p bs).2.2.mem = d.mem := by
  unfold Dev.protect; (iterate 3 (all_goals ((repeat' split) <;> (try simp only [Prod.ext_iff] at *) <;> (try casesm* _ ∧ _) <;> (try subst_vars) <;> (try simp) <;> (try refine foldl_mem _ (fun d x => ?_) _ _))))

@[simp] theorem Dev.dress_mem (d : Dev) (p : Nat) (bs : List Byte) : (Dev.dress d p bs).2.mem = d.mem := by
  unfold Dev.dress; (iterate 3 (all_goals ((repeat' split) <;> (try simp only [Prod.ext_iff] at *) <;> (try casesm* _ ∧ _) <;> (try subst_vars) <;> (try simp) <;> (try refine foldl_mem _ (fun d x => ?_) _ _))))

@[simp] theorem Dev.dressAll_mem (d : Dev) (p : Nat) (x : Desc) (bs : List Byte) : (Dev.dressAll d p x bs).2.mem = d.mem := by
  unfold Dev.dressAll; (iterate 3 (all_goals ((repeat' split) <;> (try simp only [Prod.ext_iff] at *) <;> (try casesm* _ ∧ _) <;> (try subst_vars) <;> (try simp) <;> (try refine foldl_mem _ (fun d x => ?_) _ _))))

@[simp] theorem Dev.wireOut_mem (d : Dev) (t : Nat × List Byte × Option (Nat × Nat × Nat)) : (Dev.wireOut d t).mem = d.mem := by
  simp [Dev.wireOut, -List.foldl_append]

@[simp] theorem Dev.emit_mem (d : Dev) (p : Nat) (bs : List Byte) : (Dev.emit d p bs).mem = d.mem := by
  unfold Dev.emit; (iterate 3 (all_goals ((repeat' split) <;> (try simp only [Prod.ext_iff] at *) <;> (try casesm* _ ∧ _) <;> (try subst_vars) <;> (try simp) <;> (try refine foldl_mem _ (fun d x => ?_) _ _))))

@[simp] theorem Dev.emitAll_mem (d : Dev) (p : Nat) (x : Desc) (bs : List Byte) : (Dev.emitAll d p x bs).mem = d.mem := by
  unfold Dev.emitAll; (iterate 3 (all_goals ((repeat' split) <;> (try simp only [Prod.ext_iff] at *) <;> (try casesm* _ ∧ _) <;> (try subst_vars) <;> (try simp) <;> (try refine foldl_mem _ (fun d x => ?_) _ _))))

@[simp] theorem Dev.mirrorQueue_mem (d : Dev) (p s : Nat) (x : Desc) (t : Target) : (Dev.mirrorQueue d p s x t).mem = d.mem := by
  simp [Dev.mirrorQueue, -List.foldl_append]

@[simp] theorem Dev.mirrorOffer_mem (d : Dev) (p s : Nat) (x : Desc) : (Dev.mirrorOffer d p s x).mem = d.mem := by
  unfold Dev.mirrorOffer
  dsimp only
  split
  · simp
  · split
    · rename_i h; exact Dev.dropsFor_mem h
    · split <;> simp

@[simp] theorem Dev.egressMirror_mem (d : Dev) (p : Nat) (x : Desc) (hm : Memory.wf d.mem = true) : Memory.wf (Dev.egressMirror d p x).mem = true := by
  unfold Dev.egressMirror; (iterate 3 (all_goals ((repeat' split) <;> (try simp only [Prod.ext_iff] at *) <;> (try casesm* _ ∧ _) <;> (try subst_vars) <;> (try simp (maxDischargeDepth := 40) +contextual [foldl_ok, foldl_snd_ok, foldl_snd2_ok, *]) <;> (try refine foldl_ok _ (fun d x hm => ?_) _ _ ?_))))

@[simp] theorem Dev.clearSending_mem (d : Dev) (p : Nat) : (Dev.clearSending d p).mem = d.mem := (rfl)

@[simp] theorem Dev.loadDelay_mem (d : Dev) (p : Nat) : (Dev.loadDelay d p).mem = d.mem := (rfl)

@[simp] theorem Dev.setLocks_mem (d : Dev) (p : Nat) (on : Bool) : (Dev.setLocks d p on).mem = d.mem := (rfl)

@[simp] theorem Dev.setFaults_mem (d : Dev) (p : Nat) (loc rem : Bool) : (Dev.setFaults d p loc rem).mem = d.mem := (rfl)

@[simp] theorem Dev.portRestart_mem (d : Dev) (p s : Nat) (hm : Memory.wf d.mem = true) : Memory.wf (Dev.portRestart d p s).mem = true := by
  simp (maxDischargeDepth := 40) [Dev.portRestart, hm, -List.foldl_append]

@[simp] theorem Dev.pcfgWrite_mem (d : Dev) (p : Nat) (v : Word64) (hm : Memory.wf d.mem = true) : Memory.wf (Dev.pcfgWrite d p v).2.mem = true := by
  unfold Dev.pcfgWrite; (iterate 3 (all_goals ((repeat' split) <;> (try simp only [Prod.ext_iff] at *) <;> (try casesm* _ ∧ _) <;> (try subst_vars) <;> (try simp (maxDischargeDepth := 40) +contextual [foldl_ok, foldl_snd_ok, foldl_snd2_ok, *]) <;> (try refine foldl_ok _ (fun d x hm => ?_) _ _ ?_))))

@[simp] theorem Dev.debounceEnd_mem (d : Dev) (p : Nat) (hm : Memory.wf d.mem = true) : Memory.wf (Dev.debounceEnd d p).mem = true := by
  simp (maxDischargeDepth := 40) [Dev.debounceEnd, hm, -List.foldl_append]

@[simp] theorem Dev.setPaused_mem (d : Dev) (p m : Nat) : (Dev.setPaused d p m).mem = d.mem := by
  unfold Dev.setPaused; (iterate 3 (all_goals ((repeat' split) <;> (try simp only [Prod.ext_iff] at *) <;> (try casesm* _ ∧ _) <;> (try subst_vars) <;> (try simp) <;> (try refine foldl_mem _ (fun d x => ?_) _ _))))

@[simp] theorem Dev.wdEnter_mem (d : Dev) (p q : Nat) (hm : Memory.wf d.mem = true) : Memory.wf (Dev.wdEnter d p q).mem = true := by
  unfold Dev.wdEnter; (iterate 3 (all_goals ((repeat' split) <;> (try simp only [Prod.ext_iff] at *) <;> (try casesm* _ ∧ _) <;> (try subst_vars) <;> (try simp (maxDischargeDepth := 40) +contextual [foldl_ok, foldl_snd_ok, foldl_snd2_ok, *]) <;> (try refine foldl_ok _ (fun d x hm => ?_) _ _ ?_))))

@[simp] theorem Dev.gclCommit_mem (d : Dev) (p : Nat) : (Dev.gclCommit d p).mem = d.mem := by
  simp [Dev.gclCommit, -List.foldl_append]

@[simp] theorem Dev.gateStep_mem (d : Dev) (p old : Nat) : (Dev.gateStep d p old).mem = d.mem := (rfl)

@[simp] theorem Dev.freeFrame_mem (d : Dev) (n : Nat) : (Dev.freeFrame d n).2.mem = d.mem := (rfl)

@[simp] theorem Dev.ptpFollow_mem (d : Dev) (p kind : Nat) (bs : List Byte) : (Dev.ptpFollow d p kind bs).2.mem = d.mem := by
  unfold Dev.ptpFollow; (iterate 3 (all_goals ((repeat' split) <;> (try simp only [Prod.ext_iff] at *) <;> (try casesm* _ ∧ _) <;> (try subst_vars) <;> (try simp) <;> (try refine foldl_mem _ (fun d x => ?_) _ _))))

@[simp] theorem Dev.setRelief_mem (d : Dev) (g : Nat) (b : Bool) : (Dev.setRelief d g b).mem = d.mem := (rfl)

@[simp] theorem Dev.galAlarms_mem (d : Dev) : (Dev.galAlarms d).mem = d.mem := by
  simp [Dev.galAlarms, -List.foldl_append]

@[simp] theorem Dev.loadImage_mem (d : Dev) (g : Nat) (bs : List Byte) (hm : Memory.wf d.mem = true) : Memory.wf (Dev.loadImage d g bs).mem = true := by
  simp (maxDischargeDepth := 40) [Dev.loadImage, hm, -List.foldl_append]

@[simp] theorem Dev.copyFace_mem (d : Dev) (f r : Nat) (hm : Memory.wf d.mem = true) : Memory.wf (Dev.copyFace d f r).mem = true := by
  unfold Dev.copyFace; (repeat' split) <;> simp (maxDischargeDepth := 40) [hm]

@[simp] theorem Dev.loadAs_mem (d : Dev) (f r : Nat) (hm : Memory.wf d.mem = true) : Memory.wf (Dev.loadAs d f r).mem = true := by
  unfold Dev.loadAs; (repeat' split) <;> simp (maxDischargeDepth := 40) [hm]

@[simp] theorem Dev.rewriteMaps_mem (d : Dev) (f r : Nat) : (Dev.rewriteMaps d f r).mem = d.mem := by
  simp [Dev.rewriteMaps, -List.foldl_append]

@[simp] theorem Dev.phasorMoves_mem (d : Dev) (f : Nat) : (Dev.phasorMoves d f).mem = d.mem := (rfl)

@[simp] theorem Dev.tkDur_mem (d : Dev) : (Dev.tkDur d).mem = d.mem := (rfl)

@[simp] theorem Dev.shareOut_mem (d : Dev) (f : Nat) : (Dev.shareOut d f).mem = d.mem := by
  simp [Dev.shareOut, -List.foldl_append]

@[simp] theorem Dev.galFailed_mem (d : Dev) (g : Nat) (b : Bool) : (Dev.galFailed d g b).mem = d.mem := (rfl)

@[simp] theorem Dev.takeOver_mem (d : Dev) (f r : Nat) (hm : Memory.wf d.mem = true) : Memory.wf (Dev.takeOver d f r).mem = true := by
  simp (maxDischargeDepth := 40) [Dev.takeOver, hm, -List.foldl_append]

@[simp] theorem Dev.reclaimEnd_mem (d : Dev) (r : TkReq) (hm : Memory.wf d.mem = true) : Memory.wf (Dev.reclaimEnd d r).mem = true := by
  unfold Dev.reclaimEnd; (repeat' split) <;> simp (maxDischargeDepth := 40) [hm]

@[simp] theorem Dev.omTakeover_mem (d : Dev) (cause : Nat) (hm : Memory.wf d.mem = true) : Memory.wf (Dev.omTakeover d cause).mem = true := by
  unfold Dev.omTakeover; (repeat' split) <;> simp (maxDischargeDepth := 40) [hm]

@[simp] theorem Dev.coreCFails_mem (d : Dev) (hm : Memory.wf d.mem = true) : Memory.wf (Dev.coreCFails d).mem = true := by
  unfold Dev.coreCFails; (iterate 3 (all_goals ((repeat' split) <;> (try simp only [Prod.ext_iff] at *) <;> (try casesm* _ ∧ _) <;> (try subst_vars) <;> (try simp (maxDischargeDepth := 40) +contextual [foldl_ok, foldl_snd_ok, foldl_snd2_ok, *]) <;> (try refine foldl_ok _ (fun d x hm => ?_) _ _ ?_))))

@[simp] theorem Dev.detect_mem (d : Dev) (r : TkReq) : (Dev.detect d r).mem = d.mem := by
  simp [Dev.detect, -List.foldl_append]

@[simp] theorem Dev.islandFault_mem (d : Dev) (isl cause : Nat) (hm : Memory.wf d.mem = true) : Memory.wf (Dev.islandFault d isl cause).mem = true := by
  unfold Dev.islandFault; (repeat' split) <;> simp (maxDischargeDepth := 40) [hm]

@[simp] theorem Dev.abandonSwap_mem (d : Dev) (g : Nat) : (Dev.abandonSwap d g).mem = d.mem := by
  unfold Dev.abandonSwap; (repeat' split) <;> simp

@[simp] theorem Dev.fenceGallery_mem (d : Dev) (r : TkReq) (hm : Memory.wf d.mem = true) : Memory.wf (Dev.fenceGallery d r).mem = true := by
  unfold Dev.fenceGallery; (iterate 3 (all_goals ((repeat' split) <;> (try simp only [Prod.ext_iff] at *) <;> (try casesm* _ ∧ _) <;> (try subst_vars) <;> (try simp (maxDischargeDepth := 40) +contextual [foldl_ok, foldl_snd_ok, foldl_snd2_ok, *]) <;> (try refine foldl_ok _ (fun d x hm => ?_) _ _ ?_))))

@[simp] theorem Dev.fencePlane_mem (d : Dev) (r : TkReq) (hm : Memory.wf d.mem = true) : Memory.wf (Dev.fencePlane d r).mem = true := by
  unfold Dev.fencePlane; (iterate 3 (all_goals ((repeat' split) <;> (try simp only [Prod.ext_iff] at *) <;> (try casesm* _ ∧ _) <;> (try subst_vars) <;> (try simp (maxDischargeDepth := 40) +contextual [foldl_ok, foldl_snd_ok, foldl_snd2_ok, *]) <;> (try refine foldl_ok _ (fun d x hm => ?_) _ _ ?_))))

@[simp] theorem Dev.losePipe_mem (d : Dev) (p : Nat) (hm : Memory.wf d.mem = true) : Memory.wf (Dev.losePipe d p).mem = true := by
  simp (maxDischargeDepth := 40) +contextual [Dev.losePipe, foldl_ok, foldl_snd_ok, foldl_snd2_ok, hm, -List.foldl_append]

@[simp] theorem Dev.dropCopy_mem (d : Dev) (hm : Memory.wf d.mem = true) : Memory.wf (Dev.dropCopy d).mem = true := by
  simp (maxDischargeDepth := 40) [Dev.dropCopy, hm, -List.foldl_append]

@[simp] theorem Dev.fenceUnit_mem (d : Dev) (r : TkReq) (hm : Memory.wf d.mem = true) : Memory.wf (Dev.fenceUnit d r).mem = true := by
  unfold Dev.fenceUnit; (iterate 3 (all_goals ((repeat' split) <;> (try simp only [Prod.ext_iff] at *) <;> (try casesm* _ ∧ _) <;> (try subst_vars) <;> (try simp (maxDischargeDepth := 40) +contextual [foldl_ok, foldl_snd_ok, foldl_snd2_ok, *]) <;> (try refine foldl_ok _ (fun d x hm => ?_) _ _ ?_))))

@[simp] theorem Dev.fenceNext_mem (d : Dev) (hm : Memory.wf d.mem = true) : Memory.wf (Dev.fenceNext d).mem = true := by
  unfold Dev.fenceNext; (repeat' split) <;> simp (maxDischargeDepth := 40) [hm]

@[simp] theorem Dev.swapStart_mem (d : Dev) (o r cause : Nat) : (Dev.swapStart d o r cause).mem = d.mem := by
  simp [Dev.swapStart, -List.foldl_append]

@[simp] theorem Dev.leaveCheck_mem (d : Dev) : (Dev.leaveCheck d).mem = d.mem := by
  simp [Dev.leaveCheck, -List.foldl_append]

@[simp] theorem Dev.swapDone_mem (d : Dev) (hm : Memory.wf d.mem = true) : Memory.wf (Dev.swapDone d).mem = true := by
  unfold Dev.swapDone; (repeat' split) <;> simp (maxDischargeDepth := 40) [hm]

@[simp] theorem Dev.galReturn_mem (d : Dev) (g : Nat) (hm : Memory.wf d.mem = true) : Memory.wf (Dev.galReturn d g).mem = true := by
  unfold Dev.galReturn; (iterate 3 (all_goals ((repeat' split) <;> (try simp only [Prod.ext_iff] at *) <;> (try casesm* _ ∧ _) <;> (try subst_vars) <;> (try simp (maxDischargeDepth := 40) +contextual [foldl_ok, foldl_snd_ok, foldl_snd2_ok, *]) <;> (try refine foldl_ok _ (fun d x hm => ?_) _ _ ?_))))

@[simp] theorem Dev.planeReturn_mem (d : Dev) (pl : Nat) : (Dev.planeReturn d pl).mem = d.mem := by
  unfold Dev.planeReturn; (iterate 3 (all_goals ((repeat' split) <;> (try simp only [Prod.ext_iff] at *) <;> (try casesm* _ ∧ _) <;> (try subst_vars) <;> (try simp) <;> (try refine foldl_mem _ (fun d x => ?_) _ _))))

@[simp] theorem Dev.omReturn_mem (d : Dev) : (Dev.omReturn d).mem = d.mem := by
  simp [Dev.omReturn, -List.foldl_append]

@[simp] theorem Dev.galRefused_mem (d : Dev) (g : Nat) : (Dev.galRefused d g).mem = d.mem := by
  simp [Dev.galRefused, -List.foldl_append]

@[simp] theorem Dev.force_mem (d : Dev) (kind : Nat) (ret : Bool) (unit : Nat) (pass : Bool) (cause : Nat) (hm : Memory.wf d.mem = true) : Memory.wf (Dev.force d kind ret unit pass cause).2.mem = true := by
  unfold Dev.force; (repeat' split) <;> simp (maxDischargeDepth := 40) [hm]

@[simp] theorem Dev.forceGo_mem (d : Dev) (kind : Nat) (ret : Bool) (unit : Nat) (pass : Bool) (hm : Memory.wf d.mem = true) : Memory.wf (Dev.forceGo d kind ret unit pass).mem = true := by
  unfold Dev.forceGo; (iterate 3 (all_goals ((repeat' split) <;> (try simp only [Prod.ext_iff] at *) <;> (try casesm* _ ∧ _) <;> (try subst_vars) <;> (try simp (maxDischargeDepth := 40) +contextual [foldl_ok, foldl_snd_ok, foldl_snd2_ok, *]) <;> (try refine foldl_ok _ (fun d x hm => ?_) _ _ ?_))))

@[simp] theorem Dev.longLoad_mem (d : Dev) (k : Nat) (t0 : Thread) (dst a n : Nat) (sx : Bool) (p : Place) : (Dev.longLoad d k t0 dst a n sx p).mem = d.mem := by
  unfold Dev.longLoad; (iterate 3 (all_goals ((repeat' split) <;> (try simp only [Prod.ext_iff] at *) <;> (try casesm* _ ∧ _) <;> (try subst_vars) <;> (try simp) <;> (try refine foldl_mem _ (fun d x => ?_) _ _))))

theorem Dev.access_memOk (d : Dev) (k : Nat) (t0 : Thread) (b n : Nat) (store : Bool) (dst : Option Nat) (a : Act) (h : d.access k t0 b n store dst = .error a) : a.memOk := by
  unfold Dev.access at h
  dsimp only at h
  repeat' (split at h)
  all_goals (first | (cases h; trivial) | (cases h))
@[simp] theorem Dev.loadIns_mem (d : Dev) (k size n : Nat) (sx : Bool) (dst b : Nat) (hm : Memory.wf d.mem = true) : Memory.wf (d.loadIns k size n sx dst b).mem = true := by
  refine Dev.issue_mem _ _ _ _ _ _ _ _ (fun t0 e h => ?_) hm
  split
  · rename_i a ha; exact Dev.access_memOk _ _ _ _ _ _ _ _ ha
  · dsimp only
    split
    · split <;> simp [Act.memOk, h]
    · simp [Act.memOk, h]
    · simp [Act.memOk, h]

@[simp] theorem Dev.storeIns_mem (d : Dev) (k size n src b : Nat) (hm : Memory.wf d.mem = true) : Memory.wf (d.storeIns k size n src b).mem = true := by
  refine Dev.issue_mem _ _ _ _ _ _ _ _ (fun t0 e h => ?_) hm
  split
  · rename_i a ha; exact Dev.access_memOk _ _ _ _ _ _ _ _ ha
  · dsimp only
    split
    · simp [Act.memOk, h]
    · split <;> simp [Act.memOk, h]
    · split <;> simp [Act.memOk, h]

@[simp] theorem Dev.galEcc_mem (d : Dev) (g : Nat) (e : MemEcc) : (Dev.galEcc d g e).mem = d.mem := by
  unfold Dev.galEcc; (repeat' split) <;> simp

@[simp] theorem Dev.loadReturn_mem (d : Dev) (k : Nat) (l : LongLoad) (bs : List Byte) (bad : Bool) (hm : Memory.wf d.mem = true) : Memory.wf (Dev.loadReturn d k l bs bad).mem = true := by
  unfold Dev.loadReturn; (repeat' split) <;> simp (maxDischargeDepth := 40) [hm]

@[simp] theorem Dev.tokStatus_mem (d : Dev) (c : Nat) : (Dev.tokStatus d c).2.mem = d.mem := by
  unfold Dev.tokStatus; (repeat' split) <;> simp

@[simp] theorem Dev.lockAcquire_mem (d : Dev) (k v r : Nat) (wait : Bool) : (Dev.lockAcquire d k v r wait).2.mem = d.mem := by
  simp [Dev.lockAcquire, -List.foldl_append]

@[simp] theorem Dev.releaseNote_mem (d : Dev) (k : Nat) (jobHeld : Bool) (owner kind ident : Nat) : (Dev.releaseNote d k jobHeld owner kind ident).mem = d.mem := by
  simp [Dev.releaseNote, -List.foldl_append]

@[simp] theorem Dev.lockRelease_mem (d : Dev) (k v : Nat) : (Dev.lockRelease d k v).2.mem = d.mem := by
  simp [Dev.lockRelease, -List.foldl_append]

@[simp] theorem Dev.wordAcquire_mem (d : Dev) (k v r : Nat) (wait : Bool) (hm : Memory.wf d.mem = true) : Memory.wf (Dev.wordAcquire d k v r wait).2.mem = true := by
  unfold Dev.wordAcquire; (iterate 3 (all_goals ((repeat' split) <;> (try simp only [Prod.ext_iff] at *) <;> (try casesm* _ ∧ _) <;> (try subst_vars) <;> (try simp (maxDischargeDepth := 40) +contextual [foldl_ok, foldl_snd_ok, foldl_snd2_ok, *]) <;> (try refine foldl_ok _ (fun d x hm => ?_) _ _ ?_))))

@[simp] theorem Dev.wordRelease_mem (d : Dev) (k v : Nat) (hm : Memory.wf d.mem = true) : Memory.wf (Dev.wordRelease d k v).2.mem = true := by
  unfold Dev.wordRelease; (repeat' split) <;> simp (maxDischargeDepth := 40) [hm]

@[simp] theorem Dev.setEvents_mem (d : Dev) (k : Nat) (e : BitVec 16) : (Dev.setEvents d k e).mem = d.mem := (rfl)

@[simp] theorem Dev.eventWait_mem (d : Dev) (k v r : Nat) : (Dev.eventWait d k v r).2.mem = d.mem := by
  simp [Dev.eventWait, -List.foldl_append]

@[simp] theorem Dev.eventSignal_mem (d : Dev) (v : Nat) : (Dev.eventSignal d v).2.mem = d.mem := by
  unfold Dev.eventSignal; (iterate 3 (all_goals ((repeat' split) <;> (try simp only [Prod.ext_iff] at *) <;> (try casesm* _ ∧ _) <;> (try subst_vars) <;> (try simp) <;> (try refine foldl_mem _ (fun d x => ?_) _ _))))

@[simp] theorem Dev.chanPut_mem (d : Dev) (k v : Nat) : (Dev.chanPut d k v).2.mem = d.mem := by
  simp [Dev.chanPut, -List.foldl_append]

@[simp] theorem Dev.setChan_mem (d : Dev) (c : Nat) (l : List (List Word32)) : (Dev.setChan d c l).mem = d.mem := (rfl)

@[simp] theorem Dev.chanRead_mem (d : Dev) (c i : Nat) (pop : Bool) : (Dev.chanRead d c i pop).2.mem = d.mem := by
  simp [Dev.chanRead, -List.foldl_append]

@[simp] theorem Dev.chanWake_mem (d : Dev) (c : Nat) : (Dev.chanWake d c).mem = d.mem := by
  unfold Dev.chanWake; (iterate 3 (all_goals ((repeat' split) <;> (try simp only [Prod.ext_iff] at *) <;> (try casesm* _ ∧ _) <;> (try subst_vars) <;> (try simp) <;> (try refine foldl_mem _ (fun d x => ?_) _ _))))

@[simp] theorem Dev.chanCommit_mem (d : Dev) (k v : Nat) : (Dev.chanCommit d k v).2.mem = d.mem := by
  simp [Dev.chanCommit, -List.foldl_append]

@[simp] theorem Dev.chanGet_mem (d : Dev) (k v r : Nat) : (Dev.chanGet d k v r).2.mem = d.mem := by
  simp [Dev.chanGet, -List.foldl_append]

@[simp] theorem Dev.tokRelease_mem (d : Dev) (k f v : Nat) (hm : Memory.wf d.mem = true) : Memory.wf (Dev.tokRelease d k f v).2.mem = true := by
  unfold Dev.tokRelease; (repeat' split) <;> simp (maxDischargeDepth := 40) [hm]

@[simp] theorem Dev.tokAct_mem (d : Dev) (k f v r : Nat) (hm : Memory.wf d.mem = true) : Memory.wf (Dev.tokAct d k f v r).2.mem = true := by
  unfold Dev.tokAct; (repeat' split) <;> simp (maxDischargeDepth := 40) [hm]

@[simp] theorem Dev.tokIns_mem (d : Dev) (k f r : Nat) (hm : Memory.wf d.mem = true) : Memory.wf (d.tokIns k f r).mem = true := by
  refine Dev.issue_mem _ _ _ _ _ _ _ _ (fun t0 e h => ?_) hm
  dsimp only
  split
  · trivial
  · split
    · split
      · simp [Act.memOk, h]
      · simp [Act.memOk, h]
    · have ht := Dev.tokAct_mem e k f (t0.reg r).toNat r h
      split <;> rename_i hq <;> rw [hq] at ht <;> simp_all [Act.memOk]

@[simp] theorem Dev.afterPerform_mem (d : Dev) (k : Nat) (hm : Memory.wf d.mem = true) : Memory.wf (Dev.afterPerform d k).mem = true := by
  unfold Dev.afterPerform; (iterate 3 (all_goals ((repeat' split) <;> (try simp only [Prod.ext_iff] at *) <;> (try casesm* _ ∧ _) <;> (try subst_vars) <;> (try simp (maxDischargeDepth := 40) +contextual [foldl_ok, foldl_snd_ok, foldl_snd2_ok, *]) <;> (try refine foldl_ok _ (fun d x hm => ?_) _ _ ?_))))

@[simp] theorem Dev.forceRelease_mem (d : Dev) (n : Nat) : (Dev.forceRelease d n).mem = d.mem := by
  simp [Dev.forceRelease, -List.foldl_append]

@[simp] theorem Dev.chanWrite_mem (d : Dev) (c : Nat) (v : Word64) : (Dev.chanWrite d c v).mem = d.mem := by
  simp [Dev.chanWrite, -List.foldl_append]

@[simp] theorem Dev.tokenReclaim_mem (d : Dev) (g : Nat) (hm : Memory.wf d.mem = true) : Memory.wf (Dev.tokenReclaim d g).mem = true := by
  simp (maxDischargeDepth := 40) [Dev.tokenReclaim, hm, -List.foldl_append]

@[simp] theorem Dev.escalate_mem (d : Dev) (g w : Nat) (hm : Memory.wf d.mem = true) : Memory.wf (d.escalate g w).mem = true := by
  unfold Dev.escalate
  dsimp only
  rw [Dev.wr_mem, Dev.wr_mem, Dev.tally_mem]
  refine foldl_ok _ (fun d k h => Dev.killThread_mem _ _ _ h) _ _ ?_
  rw [Dev.event_mem, Dev.inc_mem]
  exact hm

@[simp] theorem Dev.setStation_mem (d : Dev) (p idx : Nat) (e : BitVec 128) : (Dev.setStation d p idx e).mem = d.mem := (rfl)

@[simp] theorem Dev.stRepair_mem (d : Dev) (p idx : Nat) (hm : Memory.wf d.mem = true) : Memory.wf (Dev.stRepair d p idx).mem = true := by
  simp (maxDischargeDepth := 40) [Dev.stRepair, hm, -List.foldl_append]

@[simp] theorem Dev.stRepairSet_mem (d : Dev) (p set : Nat) (hm : Memory.wf d.mem = true) : Memory.wf (Dev.stRepairSet d p set).mem = true := by
  simp (maxDischargeDepth := 40) +contextual [Dev.stRepairSet, foldl_ok, foldl_snd_ok, foldl_snd2_ok, hm, -List.foldl_append]

@[simp] theorem Dev.staticBack_mem (d : Dev) (k : Nat) : (Dev.staticBack d k).mem = d.mem := by
  simp [Dev.staticBack, -List.foldl_append]

@[simp] theorem Dev.staticsBack_mem (d : Dev) : (Dev.staticsBack d).mem = d.mem := by
  simp [Dev.staticsBack, -List.foldl_append]

@[simp] theorem Dev.stForward_mem (d : Dev) (p inPort : Nat) (fv : BitVec 1024) (t : Tub) (hm : Memory.wf d.mem = true) : Memory.wf (Dev.stForward d p inPort fv t).2.2.mem = true := by
  unfold Dev.stForward; dsimp only; (repeat' split) <;> simp_all (maxDischargeDepth := 40)

@[simp] theorem Dev.learnPut_mem (d : Dev) (p : Nat) (l : Learn) : (Dev.learnPut d p l).mem = d.mem := by
  simp [Dev.learnPut, -List.foldl_append]

@[simp] theorem Dev.learnApply_mem (d : Dev) (p : Nat) (l : Learn) (hm : Memory.wf d.mem = true) : Memory.wf (Dev.learnApply d p l).mem = true := by
  unfold Dev.learnApply; (iterate 3 (all_goals ((repeat' split) <;> (try simp only [Prod.ext_iff] at *) <;> (try casesm* _ ∧ _) <;> (try subst_vars) <;> (try simp (maxDischargeDepth := 40) +contextual [foldl_ok, foldl_snd_ok, foldl_snd2_ok, *]) <;> (try refine foldl_ok _ (fun d x hm => ?_) _ _ ?_))))

@[simp] theorem Dev.sweepEntry_mem (d : Dev) (p i : Nat) (hm : Memory.wf d.mem = true) : Memory.wf (Dev.sweepEntry d p i).mem = true := by
  simp (maxDischargeDepth := 40) [Dev.sweepEntry, hm, -List.foldl_append]

@[simp] theorem Dev.setStream_mem (d : Dev) (sh : Nat) (e : BitVec 128) : (Dev.setStream d sh e).mem = d.mem := (rfl)

@[simp] theorem Dev.streamLook_mem (d : Dev) (sh : Nat) : (Dev.streamLook d sh).2.mem = d.mem := by
  simp [Dev.streamLook, -List.foldl_append]

@[simp] theorem Dev.meter_mem (d : Dev) (m len : Nat) : (Dev.meter d m len).2.mem = d.mem := by
  simp [Dev.meter, -List.foldl_append]

@[simp] theorem Dev.meterFill_mem (d : Dev) (m : Nat) : (Dev.meterFill d m).mem = d.mem := (rfl)

@[simp] theorem Dev.streamRed_mem (d : Dev) (t : Tub) : (Dev.streamRed d t).2.2.2.mem = d.mem := by
  simp [Dev.streamRed, -List.foldl_append]

@[simp] theorem Dev.streamMeter_mem (d : Dev) (e : BitVec 128) (len : Nat) (t : Tub) : (d.streamMeter e len t).2.2.2.mem = d.mem := by
  have h : (if XE.meter_en.get e = 1 then d.meter (XE.meter_id.get e) len else (0, d)).2.mem = d.mem := by
    split <;> simp
  unfold Dev.streamMeter
  extract_lets t' m
  have hm : m.2.mem = d.mem := h
  clear_value m t'
  split
  · simp [Dev.streamRed, hm]
  · exact hm

@[simp] theorem Dev.streamEntry_mem (d : Dev) (e : BitVec 128) (len : Nat) (t : Tub) (hm : Memory.wf d.mem = true) : Memory.wf (Dev.streamEntry d e len t).2.2.2.mem = true := by
  unfold Dev.streamEntry; (repeat' split) <;> simp (maxDischargeDepth := 40) [hm]

@[simp] theorem Dev.streamApply_mem (d : Dev) (sh len : Nat) (t : Tub) (hm : Memory.wf d.mem = true) : Memory.wf (Dev.streamApply d sh len t).2.2.2.mem = true := by
  simp (maxDischargeDepth := 40) [Dev.streamApply, hm, -List.foldl_append]

@[simp] theorem Dev.stWrite_mem (d : Dev) (p i : Nat) (e : BitVec 128) : (Dev.stWrite d p i e).2.mem = d.mem := by
  simp [Dev.stWrite, -List.foldl_append]

@[simp] theorem Dev.streamWrite_mem (d : Dev) (i : Nat) (e : BitVec 128) : (Dev.streamWrite d i e).mem = d.mem := (rfl)

@[simp] theorem Dev.dmaEntry_mem (d : Dev) (op tbl i addr : Nat) (hm : Memory.wf d.mem = true) : Memory.wf (Dev.dmaEntry d op tbl i addr).mem = true := by
  unfold Dev.dmaEntry; (iterate 3 (all_goals ((repeat' split) <;> (try simp only [Prod.ext_iff] at *) <;> (try casesm* _ ∧ _) <;> (try subst_vars) <;> (try simp (maxDischargeDepth := 40) +contextual [foldl_ok, foldl_snd_ok, foldl_snd2_ok, *]) <;> (try refine foldl_ok _ (fun d x hm => ?_) _ _ ?_))))

@[simp] theorem Dev.dmaErr_mem (d : Dev) : (Dev.dmaErr d).mem = d.mem := (rfl)

@[simp] theorem Dev.dmaStart_mem (d : Dev) (hm : Memory.wf d.mem = true) : Memory.wf (Dev.dmaStart d).mem = true := by
  unfold Dev.dmaStart; (iterate 3 (all_goals ((repeat' split) <;> (try simp only [Prod.ext_iff] at *) <;> (try casesm* _ ∧ _) <;> (try subst_vars) <;> (try simp (maxDischargeDepth := 40) +contextual [foldl_ok, foldl_snd_ok, foldl_snd2_ok, *]) <;> (try refine foldl_ok _ (fun d x hm => ?_) _ _ ?_))))

@[simp] theorem Dev.unlock_mem (d : Dev) : (Dev.unlock d).mem = d.mem := by
  simp [Dev.unlock, -List.foldl_append]

@[simp] theorem Dev.dmaCtlWrite_mem (d : Dev) (v : Word64) (hm : Memory.wf d.mem = true) : Memory.wf (Dev.dmaCtlWrite d v).mem = true := by
  unfold Dev.dmaCtlWrite; (iterate 3 (all_goals ((repeat' split) <;> (try simp only [Prod.ext_iff] at *) <;> (try casesm* _ ∧ _) <;> (try subst_vars) <;> (try simp (maxDischargeDepth := 40) +contextual [foldl_ok, foldl_snd_ok, foldl_snd2_ok, *]) <;> (try refine foldl_ok _ (fun d x hm => ?_) _ _ ?_))))

theorem Dev.cpIns_mem (d : Dev) (k mask code r : Nat) (f : Thread → Dev → Act) (hb : ∀ t e, Memory.wf e.mem = true → (f t e).memOk) (hm : Memory.wf d.mem = true) : Memory.wf (d.cpIns k mask code r f).mem = true :=
  Dev.issue_mem _ _ _ _ _ _ _ _ hb hm

@[simp] theorem Dev.cpResult_mem (d : Dev) (k code r lat : Nat) (v : Thread → Word32) (hm : Memory.wf d.mem = true) : Memory.wf (Dev.cpResult d k code r lat v).mem = true :=
  Dev.cpIns_mem _ _ _ _ _ _ (fun _ _ h => by simp [Act.memOk, h]) hm

@[simp] theorem Dev.modCp0_mem (d : Dev) (k : Nat) (f : Cp0 → Cp0) : (Dev.modCp0 d k f).mem = d.mem := (rfl)

@[simp] theorem Dev.modCp1_mem (d : Dev) (k : Nat) (f : Cp1 → Cp1) : (Dev.modCp1 d k f).mem = d.mem := (rfl)

@[simp] theorem Dev.cp2Done_mem (d : Dev) (k : Nat) (o : CpOp) (word : Nat) (record : Option (List Byte)) (hm : Memory.wf d.mem = true) : Memory.wf (Dev.cp2Done d k o word record).mem = true := by
  unfold Dev.cp2Done; dsimp only; (repeat' split) <;> simp_all (maxDischargeDepth := 40)

@[simp] theorem Dev.faceSend_mem (d : Dev) (g : Nat) : (Dev.faceSend d g).mem = d.mem := by
  unfold Dev.faceSend; (repeat' split) <;> simp

@[simp] theorem Dev.faceSends_mem (d : Dev) : (Dev.faceSends d).mem = d.mem := by
  simp [Dev.faceSends, -List.foldl_append]

@[simp] theorem Dev.faceTake_mem (d : Dev) (g : Nat) (src : Option Nat) (bs : List Byte) (hm : Memory.wf d.mem = true) : Memory.wf (Dev.faceTake d g src bs).mem = true := by
  unfold Dev.faceTake; (iterate 3 (all_goals ((repeat' split) <;> (try simp only [Prod.ext_iff] at *) <;> (try casesm* _ ∧ _) <;> (try subst_vars) <;> (try simp (maxDischargeDepth := 40) +contextual [foldl_ok, foldl_snd_ok, foldl_snd2_ok, *]) <;> (try refine foldl_ok _ (fun d x hm => ?_) _ _ ?_))))

@[simp] theorem Dev.faceLoadEnd_mem (d : Dev) (g : Nat) (hm : Memory.wf d.mem = true) : Memory.wf (Dev.faceLoadEnd d g).mem = true := by
  unfold Dev.faceLoadEnd; (iterate 3 (all_goals ((repeat' split) <;> (try simp only [Prod.ext_iff] at *) <;> (try casesm* _ ∧ _) <;> (try subst_vars) <;> (try simp (maxDischargeDepth := 40) +contextual [foldl_ok, foldl_snd_ok, foldl_snd2_ok, *]) <;> (try refine foldl_ok _ (fun d x hm => ?_) _ _ ?_))))

@[simp] theorem Dev.faceReload_mem (d : Dev) (g n : Nat) (hm : Memory.wf d.mem = true) : Memory.wf (Dev.faceReload d g n).mem = true := by
  unfold Dev.faceReload; (iterate 3 (all_goals ((repeat' split) <;> (try simp only [Prod.ext_iff] at *) <;> (try casesm* _ ∧ _) <;> (try subst_vars) <;> (try simp (maxDischargeDepth := 40) +contextual [foldl_ok, foldl_snd_ok, foldl_snd2_ok, *]) <;> (try refine foldl_ok _ (fun d x hm => ?_) _ _ ?_))))

end Sys2Proof.Machine
end

