-- ==== Sys2Proof/Laws/MemoryPower.lean ====
section
/-!
SUPPORT. What the operations of power, the phasor engine, parsing, background work, Tally, the buses, the debug port and the Cage's parts do
to memory: it stays as it was or keeps its canonical form.
-/

namespace Sys2Proof.Machine

set_option linter.unusedSimpArgs false
set_option linter.unreachableTactic false
set_option linter.unusedTactic false
set_option linter.unnecessarySeqFocus false
set_option linter.unusedVariables false

@[simp] theorem Dev.idle_mem (d : Dev) (hm : Memory.wf d.mem = true) : Memory.wf (Dev.idle d).mem = true := by
  unfold Dev.idle; (repeat' split) <;> simp (maxDischargeDepth := 40) [hm]

@[simp] theorem Dev.setPower_mem (d : Dev) (m : Nat) : (Dev.setPower d m).mem = d.mem := by
  simp [Dev.setPower, -List.foldl_append]

@[simp] theorem Dev.showState_mem (d : Dev) (s : Nat) : (Dev.showState d s).mem = d.mem := by
  simp [Dev.showState, -List.foldl_append]

@[simp] theorem Dev.rampFrom_mem (d : Dev) (busy l : List Nat) : (d.rampFrom busy l).2.mem = d.mem := by
  induction l generalizing d busy with
  | nil => rfl
  | cons k r ih =>
    unfold Dev.rampFrom
    dsimp only
    rw [ih]
    split <;> simp

@[simp] theorem Dev.rampGo_mem (d : Dev) (hm : Memory.wf d.mem = true) : Memory.wf (Dev.rampGo d).mem = true := by
  simp (maxDischargeDepth := 40) [Dev.rampGo, hm, -List.foldl_append]

@[simp] theorem Dev.rampAsk_mem (d : Dev) (k : Nat) (hm : Memory.wf d.mem = true) : Memory.wf (Dev.rampAsk d k).mem = true := by
  unfold Dev.rampAsk; (repeat' split) <;> simp (maxDischargeDepth := 40) [hm]

@[simp] theorem Dev.endDescs_mem (d : Dev) (p : Desc → Bool) (hm : Memory.wf d.mem = true) : Memory.wf (Dev.endDescs d p).2.mem = true := by
  simp (maxDischargeDepth := 40) [Dev.endDescs, hm, -List.foldl_append]

@[simp] theorem Dev.rowFrames_mem (d : Dev) (row : Nat) (hm : Memory.wf d.mem = true) : Memory.wf (Dev.rowFrames d row).mem = true := by
  unfold Dev.rowFrames; (iterate 3 (all_goals ((repeat' split) <;> (try simp only [Prod.ext_iff] at *) <;> (try casesm* _ ∧ _) <;> (try subst_vars) <;> (try simp (maxDischargeDepth := 40) +contextual [foldl_ok, foldl_snd_ok, foldl_snd2_ok, *]) <;> (try refine foldl_ok _ (fun d x hm => ?_) _ _ ?_))))

@[simp] theorem Dev.rowReset_mem (d : Dev) (row : Nat) (hm : Memory.wf d.mem = true) : Memory.wf (Dev.rowReset d row).mem = true := by
  simp (maxDischargeDepth := 40) [Dev.rowReset, hm, -List.foldl_append]

@[simp] theorem Dev.pipeReset_mem (d : Dev) (p : Nat) (hm : Memory.wf d.mem = true) : Memory.wf (Dev.pipeReset d p).mem = true := by
  simp (maxDischargeDepth := 40) [Dev.pipeReset, hm, -List.foldl_append]

@[simp] theorem Dev.pipeBack_mem (d : Dev) (p : Nat) : (Dev.pipeBack d p).mem = d.mem := (rfl)

@[simp] theorem Dev.imemLost_mem (d : Dev) (g : Nat) (hm : Memory.wf d.mem = true) : Memory.wf (Dev.imemLost d g).mem = true := by
  simp (maxDischargeDepth := 40) [Dev.imemLost, hm, -List.foldl_append]

@[simp] theorem Dev.domOff_mem (d : Dev) (k : Nat) (hm : Memory.wf d.mem = true) : Memory.wf (Dev.domOff d k).mem = true := by
  unfold Dev.domOff; (repeat' split) <;> simp (maxDischargeDepth := 40) [hm]

@[simp] theorem Dev.domOn_mem (d : Dev) (k : Nat) (hm : Memory.wf d.mem = true) : Memory.wf (Dev.domOn d k).mem = true := by
  unfold Dev.domOn; (iterate 3 (all_goals ((repeat' split) <;> (try simp only [Prod.ext_iff] at *) <;> (try casesm* _ ∧ _) <;> (try subst_vars) <;> (try simp (maxDischargeDepth := 40) +contextual [foldl_ok, foldl_snd_ok, foldl_snd2_ok, *]) <;> (try refine foldl_ok _ (fun d x hm => ?_) _ _ ?_))))

@[simp] theorem Dev.domReq_mem (d : Dev) (dom req : Nat) (hm : Memory.wf d.mem = true) : Memory.wf (Dev.domReq d dom req).mem = true := by
  unfold Dev.domReq; (iterate 3 (all_goals ((repeat' split) <;> (try simp only [Prod.ext_iff] at *) <;> (try casesm* _ ∧ _) <;> (try subst_vars) <;> (try simp (maxDischargeDepth := 40) +contextual [foldl_ok, foldl_snd_ok, foldl_snd2_ok, *]) <;> (try refine foldl_ok _ (fun d x hm => ?_) _ _ ?_))))

@[simp] theorem Dev.shedGallery_mem (d : Dev) (g : Nat) (hm : Memory.wf d.mem = true) : Memory.wf (Dev.shedGallery d g).mem = true := by
  unfold Dev.shedGallery; (iterate 3 (all_goals ((repeat' split) <;> (try simp only [Prod.ext_iff] at *) <;> (try casesm* _ ∧ _) <;> (try subst_vars) <;> (try simp (maxDischargeDepth := 40) +contextual [foldl_ok, foldl_snd_ok, foldl_snd2_ok, *]) <;> (try refine foldl_ok _ (fun d x hm => ?_) _ _ ?_))))

@[simp] theorem Dev.shedPlane_mem (d : Dev) (pl : Nat) (hm : Memory.wf d.mem = true) : Memory.wf (Dev.shedPlane d pl).mem = true := by
  simp (maxDischargeDepth := 40) [Dev.shedPlane, hm, -List.foldl_append]

@[simp] theorem Dev.lullNote_mem (d : Dev) : (Dev.lullNote d).mem = d.mem := by
  simp [Dev.lullNote, -List.foldl_append]

@[simp] theorem Dev.shedUnits_mem (d : Dev) (stay : List Nat) (hm : Memory.wf d.mem = true) : Memory.wf (Dev.shedUnits d stay).mem = true := by
  unfold Dev.shedUnits; (iterate 3 (all_goals ((repeat' split) <;> (try simp only [Prod.ext_iff] at *) <;> (try casesm* _ ∧ _) <;> (try subst_vars) <;> (try simp (maxDischargeDepth := 40) +contextual [foldl_ok, foldl_snd_ok, foldl_snd2_ok, *]) <;> (try refine foldl_ok _ (fun d x hm => ?_) _ _ ?_))))

@[simp] theorem Dev.shedPlanes_mem (d : Dev) (hm : Memory.wf d.mem = true) : Memory.wf (Dev.shedPlanes d).mem = true := by
  unfold Dev.shedPlanes; (iterate 3 (all_goals ((repeat' split) <;> (try simp only [Prod.ext_iff] at *) <;> (try casesm* _ ∧ _) <;> (try subst_vars) <;> (try simp (maxDischargeDepth := 40) +contextual [foldl_ok, foldl_snd_ok, foldl_snd2_ok, *]) <;> (try refine foldl_ok _ (fun d x hm => ?_) _ _ ?_))))

@[simp] theorem Dev.shedRows_mem (d : Dev) (stay : List Nat) (hm : Memory.wf d.mem = true) : Memory.wf (Dev.shedRows d stay).mem = true := by
  simp (maxDischargeDepth := 40) [Dev.shedRows, hm, -List.foldl_append]

@[simp] theorem Dev.shed_mem (d : Dev) (hm : Memory.wf d.mem = true) : Memory.wf (Dev.shed d).mem = true := by
  simp (maxDischargeDepth := 40) [Dev.shed, hm, -List.foldl_append]

@[simp] theorem Dev.isleClamp_mem (d : Dev) (isl mhz : Nat) : (Dev.isleClamp d isl mhz).mem = d.mem := by
  simp [Dev.isleClamp, -List.foldl_append]

@[simp] theorem Dev.isleBack_mem (d : Dev) (isl : Nat) : (Dev.isleBack d isl).mem = d.mem := by
  simp [Dev.isleBack, -List.foldl_append]

@[simp] theorem Dev.enterDown_mem (d : Dev) : (Dev.enterDown d).mem = d.mem := by
  simp [Dev.enterDown, -List.foldl_append]

@[simp] theorem Dev.setBlkWord_mem (d : Dev) (g slot k v : Nat) (hm : Memory.wf d.mem = true) : Memory.wf (Dev.setBlkWord d g slot k v).mem = true := by
  simp (maxDischargeDepth := 40) [Dev.setBlkWord, hm, -List.foldl_append]

@[simp] theorem Dev.setBitmap_mem (d : Dev) (g slot set v : Nat) : (Dev.setBitmap d g slot set v).mem = d.mem := (rfl)

@[simp] theorem Dev.setAcc_mem (d : Dev) (g slot set c : Nat) (v : Int × Int) (hm : Memory.wf d.mem = true) : Memory.wf (Dev.setAcc d g slot set c v).mem = true := by
  simp (maxDischargeDepth := 40) [Dev.setAcc, hm, -List.foldl_append]

@[simp] theorem Dev.blkCount_mem (d : Dev) (g slot i : Nat) (hm : Memory.wf d.mem = true) : Memory.wf (Dev.blkCount d g slot i).mem = true := by
  unfold Dev.blkCount; (iterate 3 (all_goals ((repeat' split) <;> (try simp only [Prod.ext_iff] at *) <;> (try casesm* _ ∧ _) <;> (try subst_vars) <;> (try simp (maxDischargeDepth := 40) +contextual [foldl_ok, foldl_snd_ok, foldl_snd2_ok, *]) <;> (try refine foldl_ok _ (fun d x hm => ?_) _ _ ?_))))

@[simp] theorem Dev.refreshSeen_mem (d : Dev) (g slot : Nat) (hm : Memory.wf d.mem = true) : Memory.wf (Dev.refreshSeen d g slot).mem = true := by
  simp (maxDischargeDepth := 40) [Dev.refreshSeen, hm, -List.foldl_append]

@[simp] theorem Dev.round_mem (d : Dev) (x : Int) : (Dev.round d x).2.mem = d.mem := (rfl)

@[simp] theorem Dev.phasorOf_mem (d : Dev) (g slot set c w k : Nat) (sumW : Int) : (Dev.phasorOf d g slot set c w k sumW).2.mem = d.mem := by
  unfold Dev.phasorOf; (iterate 3 (all_goals ((repeat' split) <;> (try simp only [Prod.ext_iff] at *) <;> (try casesm* _ ∧ _) <;> (try subst_vars) <;> (try simp) <;> (try refine foldl_mem _ (fun d x => ?_) _ _))))

@[simp] theorem Dev.windowPhasors_mem (d : Dev) (g slot set k : Nat) (w x : Nat) : (Dev.windowPhasors d g slot set k w x).2.mem = d.mem := by
  simp [Dev.windowPhasors, -List.foldl_append]

@[simp] theorem Dev.trackWord_mem (d : Dev) (w : Nat) (f : Int) : (Dev.trackWord d w f).2.mem = d.mem := (rfl)

@[simp] theorem Dev.windowNote_mem (d : Dev) (g slot set w x k fS ft tS : Nat) (invalid gap : Bool) (hm : Memory.wf d.mem = true) : Memory.wf (Dev.windowNote d g slot set w x k fS ft tS invalid gap).mem = true := by
  unfold Dev.windowNote; (repeat' split) <;> simp (maxDischargeDepth := 40) [hm]

@[simp] theorem Dev.windowSend_mem (d : Dev) (g slot w k : Nat) (blk : PmuBlock) (hm : Memory.wf d.mem = true) : Memory.wf (Dev.windowSend d g slot w k blk).mem = true := by
  simp (maxDischargeDepth := 40) [Dev.windowSend, hm, -List.foldl_append]

@[simp] theorem Dev.closeWindow_mem (d : Dev) (g slot set : Nat) (hm : Memory.wf d.mem = true) : Memory.wf (Dev.closeWindow d g slot set).mem = true := by
  simp (maxDischargeDepth := 40) [Dev.closeWindow, hm, -List.foldl_append]

@[simp] theorem Dev.windowOpen_mem (d : Dev) (g slot set low first : Nat) (hm : Memory.wf d.mem = true) : Memory.wf (Dev.windowOpen d g slot set low first).mem = true := by
  unfold Dev.windowOpen; (repeat' split) <;> simp (maxDischargeDepth := 40) [hm]

@[simp] theorem Dev.windowAdd_mem (d : Dev) (g slot set w j ctx : Nat) (off : Int) (hm : Memory.wf d.mem = true) : Memory.wf (Dev.windowAdd d g slot set w j ctx off).2.mem = true := by
  simp (maxDischargeDepth := 40) +contextual [Dev.windowAdd, foldl_ok, foldl_snd_ok, foldl_snd2_ok, hm, -List.foldl_append]

@[simp] theorem Dev.windowJoin_mem (d : Dev) (g slot set w k j t ctx : Nat) (unsync : Bool) (hm : Memory.wf d.mem = true) : Memory.wf (Dev.windowJoin d g slot set w k j t ctx unsync).2.mem = true := by
  unfold Dev.windowJoin; (iterate 3 (all_goals ((repeat' split) <;> (try simp only [Prod.ext_iff] at *) <;> (try casesm* _ ∧ _) <;> (try subst_vars) <;> (try simp (maxDischargeDepth := 40) +contextual [foldl_ok, foldl_snd_ok, foldl_snd2_ok, *]) <;> (try refine foldl_ok _ (fun d x hm => ?_) _ _ ?_))))

@[simp] theorem Dev.joinWindow_mem (d : Dev) (g slot w k smp t ctx : Nat) (unsync : Bool) (hm : Memory.wf d.mem = true) : Memory.wf (Dev.joinWindow d g slot w k smp t ctx unsync).2.mem = true := by
  unfold Dev.joinWindow; (repeat' split) <;> simp (maxDischargeDepth := 40) [hm]

theorem foldl_step_ok {α σ τ : Type} (f : Dev → α → τ × Dev) (g : σ → τ → σ) (h : ∀ d x, Memory.wf d.mem = true → Memory.wf (f d x).2.mem = true) (l : List α) (a : σ) (d : Dev) (hd : Memory.wf d.mem = true) :
    Memory.wf (l.foldl (fun (s : σ × Dev) k => let x := f s.2 k; (g s.1 x.1, x.2)) (a, d)).2.mem = true := by
  induction l generalizing a d with
  | nil => exact hd
  | cons x l ih => exact ih _ _ (h _ _ hd)
theorem joinFold_ok (f : Dev → Nat → Nat → Nat → Nat → Nat → Nat → Nat → Bool → Joined × Dev) (d : Dev) (g slot w n t ctx : Nat) (l : List Nat) (unsync : Bool)
    (h : ∀ (d : Dev) k, Memory.wf d.mem = true → Memory.wf (f d g slot w k n t ctx unsync).2.mem = true) (hm : Memory.wf d.mem = true) :
    Memory.wf (l.foldl (fun (s : StepSum × Dev) k =>
      let x := f s.2 g slot w k n t ctx unsync
      (s.1.add x.1, x.2)) ({}, d)).2.mem = true :=
  foldl_step_ok (fun d k => f d g slot w k n t ctx unsync) StepSum.add h _ _ _ hm
@[simp] theorem Dev.joinAll_mem (d : Dev) (g slot w n t ctx : Nat) (unsync : Bool) (hm : Memory.wf d.mem = true) : Memory.wf (d.joinAll g slot w n t ctx unsync).2.mem = true := by
  rw [Dev.joinAll]
  exact joinFold_ok Dev.joinWindow d g slot w n t ctx _ unsync (fun d k h => Dev.joinWindow_mem _ _ _ _ _ _ _ _ _ h) hm

@[simp] theorem Dev.stepSample_mem (d : Dev) (j a g slot w : Nat) (hm : Memory.wf d.mem = true) : Memory.wf (Dev.stepSample d j a g slot w).2.2.mem = true := by
  simp (maxDischargeDepth := 40) [Dev.stepSample, hm, -List.foldl_append]

@[simp] theorem Dev.phasorStep_mem (d : Dev) (j a : Nat) (hm : Memory.wf d.mem = true) : Memory.wf (Dev.phasorStep d j a).2.2.mem = true := by
  unfold Dev.phasorStep; (iterate 3 (all_goals ((repeat' split) <;> (try simp only [Prod.ext_iff] at *) <;> (try casesm* _ ∧ _) <;> (try subst_vars) <;> (try simp (maxDischargeDepth := 40) +contextual [foldl_ok, foldl_snd_ok, foldl_snd2_ok, *]) <;> (try refine foldl_ok _ (fun d x hm => ?_) _ _ ?_))))

@[simp] theorem Dev.takePhasor_mem (d : Dev) (g : Nat) (p : Nat → Bool) : (Dev.takePhasor d g p).2.mem = d.mem := by
  unfold Dev.takePhasor; (iterate 3 (all_goals ((repeat' split) <;> (try simp only [Prod.ext_iff] at *) <;> (try casesm* _ ∧ _) <;> (try subst_vars) <;> (try simp) <;> (try refine foldl_mem _ (fun d x => ?_) _ _))))

@[simp] theorem Dev.phasorTicket_mem (d : Dev) (g : Nat) (e : EngineOp) (hm : Memory.wf d.mem = true) : Memory.wf (Dev.phasorTicket d g e).mem = true := by
  unfold Dev.phasorTicket; (iterate 3 (all_goals ((repeat' split) <;> (try simp only [Prod.ext_iff] at *) <;> (try casesm* _ ∧ _) <;> (try subst_vars) <;> (try simp (maxDischargeDepth := 40) +contextual [foldl_ok, foldl_snd_ok, foldl_snd2_ok, *]) <;> (try refine foldl_ok _ (fun d x hm => ?_) _ _ ?_))))

@[simp] theorem Dev.phasorState_mem (d : Dev) (g : Nat) (e : EngineOp) (hm : Memory.wf d.mem = true) : Memory.wf (Dev.phasorState d g e).mem = true := by
  unfold Dev.phasorState; (iterate 3 (all_goals ((repeat' split) <;> (try simp only [Prod.ext_iff] at *) <;> (try casesm* _ ∧ _) <;> (try subst_vars) <;> (try simp (maxDischargeDepth := 40) +contextual [foldl_ok, foldl_snd_ok, foldl_snd2_ok, *]) <;> (try refine foldl_ok _ (fun d x hm => ?_) _ _ ?_))))

@[simp] theorem Dev.phasorStepped_mem (d : Dev) (hm : Memory.wf d.mem = true) : Memory.wf (Dev.phasorStepped d).mem = true := by
  unfold Dev.phasorStepped; (iterate 3 (all_goals ((repeat' split) <;> (try simp only [Prod.ext_iff] at *) <;> (try casesm* _ ∧ _) <;> (try subst_vars) <;> (try simp (maxDischargeDepth := 40) +contextual [foldl_ok, foldl_snd_ok, foldl_snd2_ok, *]) <;> (try refine foldl_ok _ (fun d x hm => ?_) _ _ ?_))))

@[simp] theorem Dev.blockAt_mem (d : Dev) (x : PmuBlock) (b : Nat) : (Dev.blockAt d x b).mem = d.mem := by
  simp [Dev.blockAt, -List.foldl_append]

theorem foldl_op_mem {α β : Type} (f : Dev → α → β → Dev) (h : ∀ d x b, (f d x b).mem = d.mem) (l : List β) (d : Dev) (x : α) : (l.foldl (fun d b => f d x b) d).mem = d.mem :=
  foldl_mem _ (fun d b => h d x b) _ _
@[simp] theorem Dev.blockMeets_mem (d : Dev) (x : PmuBlock) : (d.blockMeets x).mem = d.mem := by
  unfold Dev.blockMeets
  exact foldl_op_mem Dev.blockAt Dev.blockAt_mem _ _ _

@[simp] theorem Dev.countMissing_mem (d : Dev) (o n : Nat) : (Dev.countMissing d o n).mem = d.mem := by
  simp [Dev.countMissing, -List.foldl_append]

@[simp] theorem Dev.outReserve_mem (d : Dev) (o : Nat) : (Dev.outReserve d o).mem = d.mem := by
  simp [Dev.outReserve, -List.foldl_append]

@[simp] theorem Dev.emitReport_mem (d : Dev) (o k : Nat) (hm : Memory.wf d.mem = true) : Memory.wf (Dev.emitReport d o k).mem = true := by
  unfold Dev.emitReport; (iterate 3 (all_goals ((repeat' split) <;> (try simp only [Prod.ext_iff] at *) <;> (try casesm* _ ∧ _) <;> (try subst_vars) <;> (try simp (maxDischargeDepth := 40) +contextual [foldl_ok, foldl_snd_ok, foldl_snd2_ok, *]) <;> (try refine foldl_ok _ (fun d x hm => ?_) _ _ ?_))))

@[simp] theorem Dev.setCfgChg_mem (d : Dev) (o : Nat) (b : Bool) (hm : Memory.wf d.mem = true) : Memory.wf (Dev.setCfgChg d o b).mem = true := by
  simp (maxDischargeDepth := 40) [Dev.setCfgChg, hm, -List.foldl_append]

@[simp] theorem Dev.outChanged_mem (d : Dev) (o : Nat) (hm : Memory.wf d.mem = true) : Memory.wf (Dev.outChanged d o).mem = true := by
  simp (maxDischargeDepth := 40) [Dev.outChanged, hm, -List.foldl_append]

@[simp] theorem Dev.freqForget_mem (d : Dev) (b : Nat) : (Dev.freqForget d b).mem = d.mem := (rfl)

@[simp] theorem Dev.writeBlock_mem (d : Dev) (g slot : Nat) (bs : List Byte) (hm : Memory.wf d.mem = true) : Memory.wf (Dev.writeBlock d g slot bs).mem = true := by
  simp (maxDischargeDepth := 40) [Dev.writeBlock, hm, -List.foldl_append]

@[simp] theorem Dev.phasorAll_mem (d : Dev) : (Dev.phasorAll d).mem = d.mem := (rfl)

@[simp] theorem Dev.imageBack_mem (d : Dev) (g : Nat) (hm : Memory.wf d.mem = true) : Memory.wf (Dev.imageBack d g).mem = true := by
  unfold Dev.imageBack; (repeat' split) <;> simp (maxDischargeDepth := 40) [hm]

@[simp] theorem Dev.lookupVer_mem (d : Dev) (v : Nat) (retired : Bool) : (Dev.lookupVer d v retired).2.mem = d.mem := by
  simp [Dev.lookupVer, -List.foldl_append]

@[simp] theorem Dev.ruleCommit_mem (d : Dev) : (Dev.ruleCommit d).2.mem = d.mem := by
  simp [Dev.ruleCommit, -List.foldl_append]

@[simp] theorem Dev.ruleRetire_mem (d : Dev) : (Dev.ruleRetire d).mem = d.mem := by
  simp [Dev.ruleRetire, -List.foldl_append]

@[simp] theorem Dev.commitEffect_mem (d : Dev) (p : Nat) : (Dev.commitEffect d p).mem = d.mem := by
  simp [Dev.commitEffect, -List.foldl_append]

@[simp] theorem Dev.copySlot_mem (d : Dev) (hm : Memory.wf d.mem = true) : Memory.wf (Dev.copySlot d).mem = true := by
  simp (maxDischargeDepth := 40) +contextual [Dev.copySlot, foldl_ok, foldl_snd_ok, foldl_snd2_ok, hm, -List.foldl_append]

@[simp] theorem Dev.setRule_mem (d : Dev) (i : Nat) (r : Rule) : (Dev.setRule d i r).mem = d.mem := (rfl)

@[simp] theorem Dev.ruleWrite_mem (d : Dev) (i : Nat) (r : Rule) : (Dev.ruleWrite d i r).2.mem = d.mem := by
  simp [Dev.ruleWrite, -List.foldl_append]

@[simp] theorem Dev.ruleFlag_mem (d : Dev) (i : Nat) (b : Bool) : (Dev.ruleFlag d i b).2.mem = d.mem := by
  simp [Dev.ruleFlag, -List.foldl_append]

@[simp] theorem Dev.rcmdStart_mem (d : Dev) (hm : Memory.wf d.mem = true) : Memory.wf (Dev.rcmdStart d).mem = true := by
  unfold Dev.rcmdStart; dsimp only; split <;> (try dsimp only) <;> (try split) <;> simp [hm]

@[simp] theorem Dev.stageWrite_mem (d : Dev) (slot : Nat) : (Dev.stageWrite d slot).2.mem = d.mem := by
  simp [Dev.stageWrite, -List.foldl_append]

@[simp] theorem Dev.ruleRepair_mem (d : Dev) (i : Nat) : (Dev.ruleRepair d i).mem = d.mem := (rfl)

@[simp] theorem Dev.ruleBad_mem (d : Dev) (i : Nat) : (Dev.ruleBad d i).mem = d.mem := (rfl)

@[simp] theorem Dev.learnTry_mem (d : Dev) (h : Nat) : (Dev.learnTry d h).mem = d.mem := by
  unfold Dev.learnTry; (iterate 3 (all_goals ((repeat' split) <;> (try simp only [Prod.ext_iff] at *) <;> (try casesm* _ ∧ _) <;> (try subst_vars) <;> (try simp) <;> (try refine foldl_mem _ (fun d x => ?_) _ _))))

@[simp] theorem Dev.ruleJob_mem (d : Dev) (h : Nat) (fv : BitVec 1024) (key : BitVec 512) (act : Word64) (hm : Memory.wf d.mem = true) : Memory.wf (Dev.ruleJob d h fv key act).mem = true := by
  unfold Dev.ruleJob; (iterate 3 (all_goals ((repeat' split) <;> (try simp only [Prod.ext_iff] at *) <;> (try casesm* _ ∧ _) <;> (try subst_vars) <;> (try simp (maxDischargeDepth := 40) +contextual [foldl_ok, foldl_snd_ok, foldl_snd2_ok, *]) <;> (try refine foldl_ok _ (fun d x hm => ?_) _ _ ?_))))

@[simp] theorem Dev.classify_mem (d : Dev) (h slot prof : Nat) (fv : BitVec 1024) (hm : Memory.wf d.mem = true) : Memory.wf (Dev.classify d h slot prof fv).mem = true := by
  unfold Dev.classify; (iterate 3 (all_goals ((repeat' split) <;> (try simp only [Prod.ext_iff] at *) <;> (try casesm* _ ∧ _) <;> (try subst_vars) <;> (try simp (maxDischargeDepth := 40) +contextual [foldl_ok, foldl_snd_ok, foldl_snd2_ok, *]) <;> (try refine foldl_ok _ (fun d x hm => ?_) _ _ ?_))))

@[simp] theorem Dev.parseLeave_mem (d : Dev) (k : Nat) (x : Assayer) : (Dev.parseLeave d k x).mem = d.mem := by
  simp [Dev.parseLeave, -List.foldl_append]

@[simp] theorem Dev.parseFail_mem (d : Dev) (k : Nat) (x : Assayer) (code : Nat) : (Dev.parseFail d k x code).mem = d.mem := by
  simp [Dev.parseFail, -List.foldl_append]

@[simp] theorem Dev.assay_mem (d : Dev) (p a op : Nat) (f : Nat → Assayer → AsEnd) (hm : Memory.wf d.mem = true) : Memory.wf (Dev.assay d p a op f).mem = true := by
  unfold Dev.assay; (iterate 3 (all_goals ((repeat' split) <;> (try simp only [Prod.ext_iff] at *) <;> (try casesm* _ ∧ _) <;> (try subst_vars) <;> (try simp (maxDischargeDepth := 40) +contextual [foldl_ok, foldl_snd_ok, foldl_snd2_ok, *]) <;> (try refine foldl_ok _ (fun d x hm => ?_) _ _ ?_))))

@[simp] theorem Dev.modBg_mem (d : Dev) (f : Background → Background) : (Dev.modBg d f).mem = d.mem := (rfl)

@[simp] theorem Dev.scrubbed_mem (d : Dev) (bad : Bool) : (Dev.scrubbed d bad).mem = d.mem := by
  simp [Dev.scrubbed, -List.foldl_append]

@[simp] theorem Dev.scrubEcc_mem (d : Dev) (z0 : MemEcc) : (Dev.scrubEcc d z0).mem = d.mem := by
  unfold Dev.scrubEcc; (repeat' split) <;> simp

@[simp] theorem Dev.upsetTable_mem (d : Dev) (z0 : Upset) : (Dev.upsetTable d z0).mem = d.mem := by
  unfold Dev.upsetTable; (repeat' split) <;> simp

@[simp] theorem Dev.ocxoCorrection_mem (d : Dev) (temp : Int) : (Dev.ocxoCorrection d temp).2.mem = d.mem := by
  unfold Dev.ocxoCorrection; (iterate 3 (all_goals ((repeat' split) <;> (try simp only [Prod.ext_iff] at *) <;> (try casesm* _ ∧ _) <;> (try subst_vars) <;> (try simp) <;> (try refine foldl_mem _ (fun d x => ?_) _ _))))

@[simp] theorem Dev.showMargin_mem (d : Dev) : (Dev.showMargin d).mem = d.mem := (rfl)

@[simp] theorem Dev.setMargin_mem (d : Dev) (isl mv : Nat) : (Dev.setMargin d isl mv).mem = d.mem := by
  simp [Dev.setMargin, -List.foldl_append]

@[simp] theorem Dev.stepMade_mem (d : Dev) (key : Nat) : (Dev.stepMade d key).mem = d.mem := (rfl)

@[simp] theorem Dev.freqPolicy_mem (d : Dev) (g f : Nat) : (Dev.freqPolicy d g f).mem = d.mem := by
  simp [Dev.freqPolicy, -List.foldl_append]

@[simp] theorem Dev.cycleDetect_mem (d : Dev) (t : Int) : (Dev.cycleDetect d t).mem = d.mem := by
  unfold Dev.cycleDetect; (repeat' split) <;> simp

@[simp] theorem Dev.showLife_mem (d : Dev) : (Dev.showLife d).mem = d.mem := (rfl)

@[simp] theorem Dev.truncate_mem (d : Dev) (h : Nat) : (Dev.truncate d h).mem = d.mem := by
  simp [Dev.truncate, -List.foldl_append]

@[simp] theorem Dev.allocFor_mem (d : Dev) (h : Nat) (hm : Memory.wf d.mem = true) : Memory.wf (Dev.allocFor d h).mem = true := by
  unfold Dev.allocFor; (iterate 3 (all_goals ((repeat' split) <;> (try simp only [Prod.ext_iff] at *) <;> (try casesm* _ ∧ _) <;> (try subst_vars) <;> (try simp (maxDischargeDepth := 40) +contextual [foldl_ok, foldl_snd_ok, foldl_snd2_ok, *]) <;> (try refine foldl_ok _ (fun d x hm => ?_) _ _ ?_))))

@[simp] theorem Dev.listBack_mem (d : Dev) (row : Nat) : (Dev.listBack d row).mem = d.mem := by
  simp [Dev.listBack, -List.foldl_append]

@[simp] theorem Dev.modTl_mem (d : Dev) (f : Tally → Tally) : (Dev.modTl d f).mem = d.mem := (rfl)

@[simp] theorem Dev.tallyTake_mem (d : Dev) (r : TallyReq) : (Dev.tallyTake d r).mem = d.mem := by
  simp [Dev.tallyTake, -List.foldl_append]

@[simp] theorem Dev.limHold_mem (d : Dev) (c : Nat) (old : Word64) : (Dev.limHold d c old).mem = d.mem := by
  simp [Dev.limHold, -List.foldl_append]

@[simp] theorem Dev.tallyPass_mem (d : Dev) (c : Nat) : (Dev.tallyPass d c).2.mem = d.mem := by
  simp [Dev.tallyPass, -List.foldl_append]

@[simp] theorem Dev.suppEnd_mem (d : Dev) (c : Nat) : (Dev.suppEnd d c).mem = d.mem := by
  unfold Dev.suppEnd; (repeat' split) <;> simp

@[simp] theorem Dev.suppress_mem (d : Dev) (c : Nat) : (Dev.suppress d c).mem = d.mem := by
  simp [Dev.suppress, -List.foldl_append]

@[simp] theorem Dev.tallyArrive_mem (d : Dev) (r : TallyReq) : (Dev.tallyArrive d r).mem = d.mem := by
  simp [Dev.tallyArrive, -List.foldl_append]

@[simp] theorem Dev.creditCode_mem (d : Dev) (c : Nat) : (Dev.creditCode d c).mem = d.mem := (rfl)

@[simp] theorem Dev.tlAdvance_mem (d : Dev) : (Dev.tlAdvance d).mem = d.mem := (rfl)

@[simp] theorem Dev.tlErase_mem (d : Dev) : (Dev.tlErase d).mem = d.mem := by
  unfold Dev.tlErase; (iterate 3 (all_goals ((repeat' split) <;> (try simp only [Prod.ext_iff] at *) <;> (try casesm* _ ∧ _) <;> (try subst_vars) <;> (try simp) <;> (try refine foldl_mem _ (fun d x => ?_) _ _))))

@[simp] theorem Dev.tlChunk_mem (d : Dev) : (Dev.tlChunk d).mem = d.mem := by
  unfold Dev.tlChunk; (iterate 3 (all_goals ((repeat' split) <;> (try simp only [Prod.ext_iff] at *) <;> (try casesm* _ ∧ _) <;> (try subst_vars) <;> (try simp) <;> (try refine foldl_mem _ (fun d x => ?_) _ _))))

@[simp] theorem Dev.tlOverflow_mem (d : Dev) : (Dev.tlOverflow d).mem = d.mem := by
  simp [Dev.tlOverflow, -List.foldl_append]

@[simp] theorem Dev.tlRetire_mem (d : Dev) (b : Nat) (erase : Bool) : (Dev.tlRetire d b erase).mem = d.mem := by
  simp [Dev.tlRetire, -List.foldl_append]

@[simp] theorem Dev.tlFlush_mem (d : Dev) (z0 : Nat) : (Dev.tlFlush d z0).mem = d.mem := by
  induction z0 generalizing d <;> simp [Dev.tlFlush, *]

@[simp] theorem Dev.tallyOpen_mem (d : Dev) (torn : Nat) : (Dev.tallyOpen d torn).mem = d.mem := by
  simp [Dev.tallyOpen, -List.foldl_append]

@[simp] theorem Dev.dbBad_mem (d : Dev) : (Dev.dbBad d).mem = d.mem := by
  simp [Dev.dbBad, -List.foldl_append]

@[simp] theorem Dev.txDoor_mem (d : Dev) (by_ fn i tail : Nat) (wide : Bool) : (Dev.txDoor d by_ fn i tail wide).mem = d.mem := by
  unfold Dev.txDoor; (repeat' split) <;> simp

@[simp] theorem Dev.rxDoor_mem (d : Dev) (by_ fn i tail : Nat) (wide : Bool) (hm : Memory.wf d.mem = true) : Memory.wf (Dev.rxDoor d by_ fn i tail wide).mem = true := by
  unfold Dev.rxDoor; dsimp only; (repeat' split) <;> simp_all (maxDischargeDepth := 40)

@[simp] theorem Dev.bar2Refuse_mem (d : Dev) (rd : Bool) (kind : Nat) : (Dev.bar2Refuse d rd kind).mem = d.mem := by
  simp [Dev.bar2Refuse, -List.foldl_append]

@[simp] theorem Dev.bar2Seam_mem (d : Dev) (a n : Nat) (data : Option (List Byte)) (hm : Memory.wf d.mem = true) : Memory.wf (Dev.bar2Seam d a n data).mem = true := by
  unfold Dev.bar2Seam; (iterate 3 (all_goals ((repeat' split) <;> (try simp only [Prod.ext_iff] at *) <;> (try casesm* _ ∧ _) <;> (try subst_vars) <;> (try simp (maxDischargeDepth := 40) +contextual [foldl_ok, foldl_snd_ok, foldl_snd2_ok, *]) <;> (try refine foldl_ok _ (fun d x hm => ?_) _ _ ?_))))

@[simp] theorem Dev.pairReset_mem (d : Dev) (q : Nat) (hm : Memory.wf d.mem = true) : Memory.wf (Dev.pairReset d q).mem = true := by
  simp (maxDischargeDepth := 40) [Dev.pairReset, hm, -List.foldl_append]

@[simp] theorem Dev.perstClear_mem (d : Dev) (h : Memory.wf d.mem = true) : Memory.wf d.perstClear.mem = true := by
  unfold Dev.perstClear
  refine foldl_ok _ (fun d n h => Dev.cageReset_mem _ _ (Dev.msixReset_mem _ _ h)) _ _ ?_
  refine foldl_ok _ (fun d n h => ?_) _ _ ?_
  · simp [h]
  · rw [Dev.smCancel_mem]
    exact Dev.binReclaim_mem _ _ (foldl_ok _ (fun d n h => Dev.pairReset_mem _ _ h) _ _ h)

@[simp] theorem Dev.keepFault_mem (d : Dev) (g : Nat) (r : BitVec 192) : (Dev.keepFault d g r).mem = d.mem := by
  simp [Dev.keepFault, -List.foldl_append]

@[simp] theorem Dev.genDone_mem (d : Dev) (g : Nat) (hm : Memory.wf d.mem = true) : Memory.wf (Dev.genDone d g).mem = true := by
  unfold Dev.genDone; (iterate 3 (all_goals ((repeat' split) <;> (try simp only [Prod.ext_iff] at *) <;> (try casesm* _ ∧ _) <;> (try subst_vars) <;> (try simp (maxDischargeDepth := 40) +contextual [foldl_ok, foldl_snd_ok, foldl_snd2_ok, *]) <;> (try refine foldl_ok _ (fun d x hm => ?_) _ _ ?_))))

@[simp] theorem Dev.galTraceAt_mem (d : Dev) (n m i : Nat) (wrap : Bool) : (Dev.galTraceAt d n m i wrap).mem = d.mem := by
  simp [Dev.galTraceAt, -List.foldl_append]

@[simp] theorem Dev.resumeThread_mem (d : Dev) (k : Nat) (hm : Memory.wf d.mem = true) : Memory.wf (Dev.resumeThread d k).mem = true := by
  unfold Dev.resumeThread; (iterate 3 (all_goals ((repeat' split) <;> (try simp only [Prod.ext_iff] at *) <;> (try casesm* _ ∧ _) <;> (try subst_vars) <;> (try simp (maxDischargeDepth := 40) +contextual [foldl_ok, foldl_snd_ok, foldl_snd2_ok, *]) <;> (try refine foldl_ok _ (fun d x hm => ?_) _ _ ?_))))

@[simp] theorem Dev.stepThread_mem (d : Dev) (k : Nat) : (Dev.stepThread d k).mem = d.mem := by
  simp [Dev.stepThread, -List.foldl_append]

@[simp] theorem Dev.tcmd_mem (d : Dev) (op k : Nat) (all : Bool) (hm : Memory.wf d.mem = true) : Memory.wf (Dev.tcmd d op k all).mem = true := by
  unfold Dev.tcmd; (iterate 3 (all_goals ((repeat' split) <;> (try simp only [Prod.ext_iff] at *) <;> (try casesm* _ ∧ _) <;> (try subst_vars) <;> (try simp (maxDischargeDepth := 40) +contextual [foldl_ok, foldl_snd_ok, foldl_snd2_ok, *]) <;> (try refine foldl_ok _ (fun d x hm => ?_) _ _ ?_))))

@[simp] theorem Dev.ctxDrop_mem (d : Dev) (j : Nat) (hm : Memory.wf d.mem = true) : Memory.wf (Dev.ctxDrop d j).mem = true := by
  simp (maxDischargeDepth := 40) [Dev.ctxDrop, hm, -List.foldl_append]

@[simp] theorem Dev.lodeAnswer_mem (d : Dev) (g : Nat) (e : EngineOp) (fn : Nat) (x : LRes) (hm : Memory.wf d.mem = true) : Memory.wf (Dev.lodeAnswer d g e fn x).mem = true := by
  unfold Dev.lodeAnswer; (iterate 3 (all_goals ((repeat' split) <;> (try simp only [Prod.ext_iff] at *) <;> (try casesm* _ ∧ _) <;> (try subst_vars) <;> (try simp (maxDischargeDepth := 40) +contextual [foldl_ok, foldl_snd_ok, foldl_snd2_ok, *]) <;> (try refine foldl_ok _ (fun d x hm => ?_) _ _ ?_))))

@[simp] theorem Dev.lodeRefuse_mem (d : Dev) (g : Nat) (e : EngineOp) (hm : Memory.wf d.mem = true) : Memory.wf (Dev.lodeRefuse d g e).mem = true := by
  simp (maxDischargeDepth := 40) [Dev.lodeRefuse, hm, -List.foldl_append]

@[simp] theorem Dev.lodeTicket_mem (d : Dev) (g : Nat) (e : EngineOp) (bad : Option (Nat × Bool)) (hm : Memory.wf d.mem = true) : Memory.wf (Dev.lodeTicket d g e bad).mem = true := by
  unfold Dev.lodeTicket; (iterate 3 (all_goals ((repeat' split) <;> (try simp only [Prod.ext_iff] at *) <;> (try casesm* _ ∧ _) <;> (try subst_vars) <;> (try simp (maxDischargeDepth := 40) +contextual [foldl_ok, foldl_snd_ok, foldl_snd2_ok, *]) <;> (try refine foldl_ok _ (fun d x hm => ?_) _ _ ?_))))

@[simp] theorem Dev.swRun_mem (d : Dev) (fn : Nat) (pair : Bool) (bad : Option (Nat × Bool)) (hm : Memory.wf d.mem = true) : Memory.wf (Dev.swRun d fn pair bad).mem = true := by
  unfold Dev.swRun; (iterate 3 (all_goals ((repeat' split) <;> (try simp only [Prod.ext_iff] at *) <;> (try casesm* _ ∧ _) <;> (try subst_vars) <;> (try simp (maxDischargeDepth := 40) +contextual [foldl_ok, foldl_snd_ok, foldl_snd2_ok, *]) <;> (try refine foldl_ok _ (fun d x hm => ?_) _ _ ?_))))

@[simp] theorem Dev.swStart_mem (d : Dev) (hm : Memory.wf d.mem = true) : Memory.wf (Dev.swStart d).mem = true := by
  unfold Dev.swStart; (iterate 3 (all_goals ((repeat' split) <;> (try simp only [Prod.ext_iff] at *) <;> (try casesm* _ ∧ _) <;> (try subst_vars) <;> (try simp (maxDischargeDepth := 40) +contextual [foldl_ok, foldl_snd_ok, foldl_snd2_ok, *]) <;> (try refine foldl_ok _ (fun d x hm => ?_) _ _ ?_))))

@[simp] theorem Dev.swFn_mem (d : Dev) (fn : Nat) (bad : LodeErr) (hm : Memory.wf d.mem = true) : Memory.wf (Dev.swFn d fn bad).mem = true := by
  unfold Dev.swFn; (repeat' split) <;> simp (maxDischargeDepth := 40) [hm]

@[simp] theorem Dev.sweepWay_mem (d : Dev) (i : Nat) (hm : Memory.wf d.mem = true) : Memory.wf (Dev.sweepWay d i).mem = true := by
  unfold Dev.sweepWay; dsimp only; (repeat' split) <;> simp_all (maxDischargeDepth := 40)

@[simp] theorem Dev.flushTurn_mem (d : Dev) (b : Nat) : (Dev.flushTurn d b).mem = d.mem := by
  simp [Dev.flushTurn, -List.foldl_append]

@[simp] theorem Dev.sweepFlush_mem (d : Dev) : (Dev.sweepFlush d).mem = d.mem := (rfl)

@[simp] theorem Dev.logRepair_mem (d : Dev) (k : Nat) : (Dev.logRepair d k).mem = d.mem := by
  simp [Dev.logRepair, -List.foldl_append]

@[simp] theorem Dev.agePolicy_mem (d : Dev) (c : Nat) : (Dev.agePolicy d c).mem = d.mem := by
  simp [Dev.agePolicy, -List.foldl_append]

@[simp] theorem Dev.streamStatus_mem (d : Dev) (valid : Bool) : (Dev.streamStatus d valid).2.mem = d.mem := by
  simp [Dev.streamStatus, -List.foldl_append]

@[simp] theorem Dev.streamTicket_mem (d : Dev) (g : Nat) (e : EngineOp) (hm : Memory.wf d.mem = true) : Memory.wf (Dev.streamTicket d g e).mem = true := by
  unfold Dev.streamTicket; (iterate 3 (all_goals ((repeat' split) <;> (try simp only [Prod.ext_iff] at *) <;> (try casesm* _ ∧ _) <;> (try subst_vars) <;> (try simp (maxDischargeDepth := 40) +contextual [foldl_ok, foldl_snd_ok, foldl_snd2_ok, *]) <;> (try refine foldl_ok _ (fun d x hm => ?_) _ _ ?_))))

@[simp] theorem Dev.ruleFind_mem (d : Dev) (g : Nat) (e : EngineOp) (hm : Memory.wf d.mem = true) : Memory.wf (Dev.ruleFind d g e).mem = true := by
  unfold Dev.ruleFind; (iterate 3 (all_goals ((repeat' split) <;> (try simp only [Prod.ext_iff] at *) <;> (try casesm* _ ∧ _) <;> (try subst_vars) <;> (try simp (maxDischargeDepth := 40) +contextual [foldl_ok, foldl_snd_ok, foldl_snd2_ok, *]) <;> (try refine foldl_ok _ (fun d x hm => ?_) _ _ ?_))))

@[simp] theorem Dev.ruleTicket_mem (d : Dev) (g : Nat) (e : EngineOp) (hm : Memory.wf d.mem = true) : Memory.wf (Dev.ruleTicket d g e).mem = true := by
  unfold Dev.ruleTicket; (iterate 3 (all_goals ((repeat' split) <;> (try simp only [Prod.ext_iff] at *) <;> (try casesm* _ ∧ _) <;> (try subst_vars) <;> (try simp (maxDischargeDepth := 40) +contextual [foldl_ok, foldl_snd_ok, foldl_snd2_ok, *]) <;> (try refine foldl_ok _ (fun d x hm => ?_) _ _ ?_))))

@[simp] theorem Dev.ddrRead_mem (d : Dev) (g : Nat) (e : EngineOp) (a n : Nat) (hm : Memory.wf d.mem = true) : Memory.wf (Dev.ddrRead d g e a n).mem = true := by
  unfold Dev.ddrRead; (iterate 3 (all_goals ((repeat' split) <;> (try simp only [Prod.ext_iff] at *) <;> (try casesm* _ ∧ _) <;> (try subst_vars) <;> (try simp (maxDischargeDepth := 40) +contextual [foldl_ok, foldl_snd_ok, foldl_snd2_ok, *]) <;> (try refine foldl_ok _ (fun d x hm => ?_) _ _ ?_))))

@[simp] theorem Dev.ddrFetch_mem (d : Dev) (g : Nat) (e : EngineOp) (hm : Memory.wf d.mem = true) : Memory.wf (Dev.ddrFetch d g e).mem = true := by
  unfold Dev.ddrFetch; (iterate 3 (all_goals ((repeat' split) <;> (try simp only [Prod.ext_iff] at *) <;> (try casesm* _ ∧ _) <;> (try subst_vars) <;> (try simp (maxDischargeDepth := 40) +contextual [foldl_ok, foldl_snd_ok, foldl_snd2_ok, *]) <;> (try refine foldl_ok _ (fun d x hm => ?_) _ _ ?_))))

@[simp] theorem Dev.wakeIsles_mem (d : Dev) (a : Nat) : (Dev.wakeIsles d a).mem = d.mem := by
  simp [Dev.wakeIsles, -List.foldl_append]

@[simp] theorem Dev.busErr_mem (d : Dev) (src : Src) (a : Nat) (f : Fld) : (Dev.busErr d src a f).mem = d.mem := by
  simp [Dev.busErr, -List.foldl_append]

@[simp] theorem Dev.xpDiscard_mem (d : Dev) (fn a : Nat) : (Dev.xpDiscard d fn a).mem = d.mem := by
  simp [Dev.xpDiscard, -List.foldl_append]

@[simp] theorem Dev.rwpRefuse_mem (d : Dev) (src : Src) (a : Nat) : (Dev.rwpRefuse d src a).mem = d.mem := (rfl)

@[simp] theorem Dev.warmRequest_mem (d : Dev) : (Dev.warmRequest d).mem = d.mem := by
  simp [Dev.warmRequest, -List.foldl_append]

@[simp] theorem Dev.cageRefuse_mem (d : Dev) (fn : Nat) : (Dev.cageRefuse d fn).mem = d.mem := by
  simp [Dev.cageRefuse, -List.foldl_append]

@[simp] theorem Dev.cageDoor_mem (d : Dev) (fn : Nat) : (Dev.cageDoor d fn).mem = d.mem := by
  simp [Dev.cageDoor, -List.foldl_append]

@[simp] theorem Dev.islCfg_mem (d : Dev) (n : Nat) (v : Word64) : (Dev.islCfg d n v).mem = d.mem := by
  unfold Dev.islCfg; (repeat' split) <;> simp

@[simp] theorem Dev.pairCheck_mem (d : Dev) (ps : List Nat) : (Dev.pairCheck d ps).mem = d.mem := by
  simp [Dev.pairCheck, -List.foldl_append]

@[simp] theorem Dev.regStore_mem (d : Dev) (id : RegId) (ix : List Nat) (old eff : Word64) : (Dev.regStore d id ix old eff).mem = d.mem := (rfl)

@[simp] theorem Dev.regClears_mem (d : Dev) (id : RegId) (ix : List Nat) (old eff : Word64) : (Dev.regClears d id ix old eff).mem = d.mem := (rfl)

@[simp] theorem Dev.regEffect_mem (d : Dev) (id : RegId) (ix : List Nat) (old eff : Word64) (pass : Bool) (hm : Memory.wf d.mem = true) : Memory.wf (d.regEffect id ix old eff pass).mem = true := by
  unfold Dev.regEffect
  dsimp only
  split
  all_goals try (simp [hm]; done)
  all_goals try ((repeat' split) <;> (simp [hm]; done))
  all_goals try (simp [hm]; done)

@[simp] theorem Dev.regWrite_mem (d : Dev) (src : Src) (id : RegId) (ix : List Nat) (v : Word64) (pass : Bool) (hm : Memory.wf d.mem = true) : Memory.wf (Dev.regWrite d src id ix v pass).mem = true := by
  unfold Dev.regWrite; dsimp only; (repeat' split) <;> simp_all (maxDischargeDepth := 40)

@[simp] theorem Dev.msixWrite_mem (d : Dev) (fn a : Nat) (bs : List Byte) (hm : Memory.wf d.mem = true) : Memory.wf (Dev.msixWrite d fn a bs).mem = true := by
  unfold Dev.msixWrite; (iterate 3 (all_goals ((repeat' split) <;> (try simp only [Prod.ext_iff] at *) <;> (try casesm* _ ∧ _) <;> (try subst_vars) <;> (try simp (maxDischargeDepth := 40) +contextual [foldl_ok, foldl_snd_ok, foldl_snd2_ok, *]) <;> (try refine foldl_ok _ (fun d x hm => ?_) _ _ ?_))))

@[simp] theorem Dev.areaPut_mem (d : Dev) (src : Src) (ar : Area) (a size : Nat) (v : Word64) (hm : Memory.wf d.mem = true) : Memory.wf (Dev.areaPut d src ar a size v).mem = true := by
  unfold Dev.areaPut; (iterate 3 (all_goals ((repeat' split) <;> (try simp only [Prod.ext_iff] at *) <;> (try casesm* _ ∧ _) <;> (try subst_vars) <;> (try simp (maxDischargeDepth := 40) +contextual [foldl_ok, foldl_snd_ok, foldl_snd2_ok, *]) <;> (try refine foldl_ok _ (fun d x hm => ?_) _ _ ?_))))

@[simp] theorem Dev.areaWrite_mem (d : Dev) (src : Src) (ar : Area) (a size : Nat) (v : Word64) (hm : Memory.wf d.mem = true) : Memory.wf (Dev.areaWrite d src ar a size v).mem = true := by
  unfold Dev.areaWrite; (repeat' split) <;> simp (maxDischargeDepth := 40) [hm]

@[simp] theorem Dev.busWrite_mem (d : Dev) (src : Src) (a size : Nat) (v : Word64) (pass : Bool) (hm : Memory.wf d.mem = true) : Memory.wf (Dev.busWrite d src a size v pass).mem = true := by
  unfold Dev.busWrite; (repeat' split) <;> simp (maxDischargeDepth := 40) [hm]

@[simp] theorem Dev.tkLock_mem (d : Dev) (n : Nat) : (Dev.tkLock d n).2.mem = d.mem := by
  simp [Dev.tkLock, -List.foldl_append]

@[simp] theorem Dev.regValue_mem (d : Dev) (id : RegId) (ix : List Nat) : (Dev.regValue d id ix).2.mem = d.mem := by
  unfold Dev.regValue; (repeat' split) <;> simp

@[simp] theorem Dev.regAfterRead_mem (d : Dev) (id : RegId) (ix : List Nat) : (Dev.regAfterRead d id ix).mem = d.mem := by
  unfold Dev.regAfterRead; (repeat' split) <;> simp

@[simp] theorem Dev.regRead_mem (d : Dev) (id : RegId) (ix : List Nat) : (Dev.regRead d id ix).2.mem = d.mem := by
  simp [Dev.regRead, -List.foldl_append]

@[simp] theorem Dev.busRead_mem (d : Dev) (src : Src) (a size : Nat) : (Dev.busRead d src a size).mem = d.mem := by
  unfold Dev.busRead; (iterate 3 (all_goals ((repeat' split) <;> (try simp only [Prod.ext_iff] at *) <;> (try casesm* _ ∧ _) <;> (try subst_vars) <;> (try simp) <;> (try refine foldl_mem _ (fun d x => ?_) _ _))))

@[simp] theorem Dev.modDb_mem (d : Dev) (f : Debug → Debug) : (Dev.modDb d f).mem = d.mem := (rfl)

@[simp] theorem Dev.challenge_mem (d : Dev) : (Dev.challenge d).2.mem = d.mem := (rfl)

@[simp] theorem Dev.nonceEnd_mem (d : Dev) : (Dev.nonceEnd d).mem = d.mem := (rfl)

@[simp] theorem Dev.unlockTry_mem (d : Dev) (verifies : Bool) : (Dev.unlockTry d verifies).2.mem = d.mem := by
  simp [Dev.unlockTry, -List.foldl_append]

@[simp] theorem Dev.lockDebug_mem (d : Dev) : (Dev.lockDebug d).mem = d.mem := (rfl)

@[simp] theorem Dev.setIr_mem (d : Dev) (ir : Nat) : (Dev.setIr d ir).mem = d.mem := by
  simp [Dev.setIr, -List.foldl_append]

@[simp] theorem Dev.bypassShift_mem (d : Dev) (tdi : List Bool) : (Dev.bypassShift d tdi).mem = d.mem := (rfl)

@[simp] theorem Dev.modCg_mem (d : Dev) (f : Cage → Cage) : (Dev.modCg d f).mem = d.mem := (rfl)

@[simp] theorem Dev.pollReg_mem (d : Dev) (id : RegId) (ix : List Nat) : (Dev.pollReg d id ix).2.mem = d.mem := by
  simp [Dev.pollReg, -List.foldl_append]

@[simp] theorem Dev.sinceBase_mem (d : Dev) (fn : Nat) (clr : Bool) (key now : Nat) : (Dev.sinceBase d fn clr key now).2.mem = d.mem := by
  simp [Dev.sinceBase, -List.foldl_append]

@[simp] theorem Dev.partAdd_mem (fn : Nat) (clr : Bool) (acc : List Nat × Dev) (p : Part) : (Dev.partAdd fn clr acc p).2.mem = acc.2.mem := by
  unfold Dev.partAdd; (iterate 3 (all_goals ((repeat' split) <;> (try simp only [Prod.ext_iff] at *) <;> (try casesm* _ ∧ _) <;> (try subst_vars) <;> (try simp) <;> (try refine foldl_mem _ (fun d x => ?_) _ _))))

@[simp] theorem Dev.parts_mem (d : Dev) (fn : Nat) (clr : Bool) (ps : List Part) : (Dev.parts d fn clr ps).2.mem = d.mem := by
  simp [Dev.parts, -List.foldl_append]

@[simp] theorem answered_mem (x : List Byte × Dev) : (answered x).2.mem = x.2.mem := (rfl)

@[simp] theorem takenOr_mem (w : Nat) (x : Bool × Dev) : (takenOr w x).2.mem = x.2.mem := (rfl)

theorem takenThen_mem (w : Nat) (x : Bool × Dev) (f : Dev → List Byte × Dev) (h : ∀ d, Memory.wf d.mem = true → Memory.wf (f d).2.mem = true) (hm : Memory.wf x.2.mem = true) : Memory.wf (takenThen w x f).2.mem = true := by
  unfold takenThen
  split
  · exact h _ hm
  · exact hm

@[simp] theorem Dev.fwWrite_mem (d : Dev) (id : RegId) (ix : List Nat) (v : Word64) (hm : Memory.wf d.mem = true) : Memory.wf (Dev.fwWrite d id ix v).2.mem = true := by
  simp (maxDischargeDepth := 40) [Dev.fwWrite, hm, -List.foldl_append]

@[simp] theorem Dev.putImg_mem (d : Dev) (id : RegId) (ix : List Nat) (img : Word64) (start : Bool) (hm : Memory.wf d.mem = true) : Memory.wf (Dev.putImg d id ix img start).2.mem = true := by
  simp (maxDischargeDepth := 40) [Dev.putImg, hm, -List.foldl_append]

@[simp] theorem Dev.putImgs_mem (d : Dev) (z0 : List (RegId × List Nat × Word64)) (hm : Memory.wf d.mem = true) : Memory.wf (Dev.putImgs d z0).2.mem = true := by
  induction z0 generalizing d <;> (unfold Dev.putImgs; dsimp only; (iterate 3 (all_goals ((repeat' split) <;> (try simp only [Prod.ext_iff] at *) <;> (try casesm* _ ∧ _) <;> (try subst_vars) <;> (try simp (maxDischargeDepth := 40) +contextual [foldl_ok, foldl_snd_ok, foldl_snd2_ok, *])))))

@[simp] theorem Dev.fwSet_mem (d : Dev) (id : RegId) (ix : List Nat) (fs : List (Fld × Nat)) (hm : Memory.wf d.mem = true) : Memory.wf (Dev.fwSet d id ix fs).2.mem = true := by
  simp (maxDischargeDepth := 40) [Dev.fwSet, hm, -List.foldl_append]

/-- What a command's run does keeps the canonical form of memory. -/
def Cmd.memOk (c : Cmd) : Prop := ∀ i d, Memory.wf d.mem = true → Memory.wf (c.run i d).2.mem = true
theorem Dev.runCmd_mem (d : Dev) (c : Cmd) (i : CmdIn) (h : c.memOk) (hm : Memory.wf d.mem = true) : Memory.wf (d.runCmd c i).2.mem = true := by
  unfold Dev.runCmd
  split
  · exact hm
  · split
    · exact hm
    · exact h _ _ hm

@[simp] theorem Dev.reply_mem (d : Dev) (fn : Nat) (h : Hdr) (a : Ans) (hm : Memory.wf d.mem = true) : Memory.wf (Dev.reply d fn h a).mem = true := by
  simp (maxDischargeDepth := 40) [Dev.reply, hm, -List.foldl_append]

theorem Dev.cageRun_mem (d : Dev) (fn code : Nat) (c : Cmd) (i : CmdIn) (h : c.memOk) (hm : Memory.wf d.mem = true) : Memory.wf (d.cageRun fn code c i).mem = true := by
  unfold Dev.cageRun
  dsimp only
  split
  · exact hm
  · have hx := Dev.runCmd_mem d c { i with fn := fn, body := d.reqBody fn ((d.reqHdr fn).length.min 2032) } h hm
    split
    · simp [hx]
    · exact hx

@[simp] theorem Dev.leaseEnds_mem (d : Dev) : (Dev.leaseEnds d).mem = d.mem := by
  simp [Dev.leaseEnds, -List.foldl_append]

theorem Dev.grantGive_mem (d : Dev) (fn lease : Nat) (x : Nat × Dev) (h : d.grantGive fn lease = some x) : x.2.mem = d.mem := by
  unfold Dev.grantGive at h
  dsimp only at h
  repeat' (split at h)
  all_goals (first | (cases h; simp; done) | cases h)
@[simp] theorem Dev.grantAns_mem (d : Dev) (f secs : Nat) : (d.grantAns f secs).2.mem = d.mem := by
  unfold Dev.grantAns
  split
  · rfl
  · rename_i x hx; exact Dev.grantGive_mem _ _ _ _ hx

theorem onPair_mem (i : CmdIn) (d : Dev) (f : Nat → Option Ans × Dev) (h : ∀ q, Memory.wf (f q).2.mem = true) (hm : Memory.wf d.mem = true) : Memory.wf (onPair i d f).2.mem = true := by
  unfold onPair
  split
  · exact hm
  · exact h _

theorem Dev.perPipe_mem (d : Dev) (ps : List Nat) (f : Dev → Nat → Nat × Dev) (h : ∀ d p, Memory.wf d.mem = true → Memory.wf (f d p).2.mem = true) (hm : Memory.wf d.mem = true) : Memory.wf (d.perPipe ps f).2.mem = true := by
  unfold Dev.perPipe
  refine foldl_snd_ok _ (fun a p ha => ?_) _ _ hm
  dsimp only
  split
  · exact h _ _ ha
  · simp [ha]

@[simp] theorem Dev.stationAdd_mem (d : Dev) (e : BitVec 128) (p : Nat) : (Dev.stationAdd d e p).2.mem = d.mem := by
  unfold Dev.stationAdd; (iterate 3 (all_goals ((repeat' split) <;> (try simp only [Prod.ext_iff] at *) <;> (try casesm* _ ∧ _) <;> (try subst_vars) <;> (try simp) <;> (try refine foldl_mem _ (fun d x => ?_) _ _))))

@[simp] theorem Dev.stationStrike_mem (d : Dev) (k : Nat) : (Dev.stationStrike d k).mem = d.mem := (rfl)

@[simp] theorem Dev.stationDel_mem (d : Dev) (p mac vid : Nat) : (Dev.stationDel d p mac vid).2.mem = d.mem := by
  unfold Dev.stationDel; (repeat' split) <;> simp

@[simp] theorem Dev.takeFaults_mem (d : Dev) (n : Nat) (p : Nat → Bool) : (Dev.takeFaults d n p).2.mem = d.mem := (rfl)

@[simp] theorem Dev.streamMap_mem (d : Dev) (sh : Nat) : (Dev.streamMap d sh).2.mem = d.mem := by
  unfold Dev.streamMap; (repeat' split) <;> simp

@[simp] theorem Dev.phasorBindTo_mem (d : Dev) (i : CmdIn) (out : Word64) (g dom aff : Nat) (hm : Memory.wf d.mem = true) : Memory.wf (d.phasorBindTo i out g dom aff).2.mem = true := by
  unfold Dev.phasorBindTo
  split
  · exact hm
  · exact takenThen_mem _ _ _ (fun d h => h) (Dev.fwSet_mem _ _ _ _ (Dev.writeBlock_mem _ _ _ _ hm))

@[simp] theorem Dev.fwLode_mem (d : Dev) (fn : Nat) (pair : Bool) (args : List Byte) (win : LRec) (bad : Option (Nat × Bool)) (hm : Memory.wf d.mem = true) : Memory.wf (Dev.fwLode d fn pair args win bad).2.mem = true := by
  unfold Dev.fwLode; (iterate 3 (all_goals ((repeat' split) <;> (try simp only [Prod.ext_iff] at *) <;> (try casesm* _ ∧ _) <;> (try subst_vars) <;> (try simp (maxDischargeDepth := 40) +contextual [foldl_ok, foldl_snd_ok, foldl_snd2_ok, *]) <;> (try refine foldl_ok _ (fun d x hm => ?_) _ _ ?_))))

@[simp] theorem Dev.policySet_mem (d : Dev) (p : Nat) (fixed : Bool) (v : Nat) : (Dev.policySet d p fixed v).mem = d.mem := by
  unfold Dev.policySet; (repeat' split) <;> simp

@[simp] theorem Dev.calStage_mem (d : Dev) (o : Nat) (l : List Byte) : (d.calStage o l).mem = d.mem := by
  induction l generalizing d o with
  | nil => rfl
  | cons g gs ih => unfold Dev.calStage; rw [ih]; simp

@[simp] theorem Dev.calCommit_mem (d : Dev) (bs : List Byte) (hm : Memory.wf d.mem = true) : Memory.wf (Dev.calCommit d bs).mem = true := by
  simp (maxDischargeDepth := 40) [Dev.calCommit, hm, -List.foldl_append]

end Sys2Proof.Machine
end

