-- ==== Sys2Proof/Laws/MemoryCage.lean ====
section
/-!
SUPPORT. Every command of the Cage, what enters the device, and the start-up steps keep the canonical form of memory.
-/

namespace Sys2Proof.Machine

set_option linter.unusedSimpArgs false
set_option linter.unreachableTactic false
set_option linter.unusedTactic false
set_option linter.unnecessarySeqFocus false
set_option linter.unusedVariables false

theorem readCmd_memOk (lvl : Level) (len : Nat) (bad : CmdIn → List BadArg) (ps : CmdIn → List Part) (clr : Bool) : (readCmd lvl len bad ps clr).memOk := by
  intro i d hm; simp [readCmd, hm]
theorem writeCmd_memOk (lvl : Level) (pf : Bool) (len : Nat) (bad : CmdIn → List BadArg) (ims : CmdIn → List (RegId × List Nat × Word64))
    (ps : CmdIn → List Part) (status : Nat) : (writeCmd lvl pf len bad ims ps status).memOk := by
  intro i d hm
  exact takenThen_mem _ _ _ (fun d h => by simp [h]) (Dev.putImgs_mem d (ims i) hm)
theorem cmdIdentify_memOk : cmdIdentify.memOk := by
  intro i d hm; simp (maxDischargeDepth := 40) +contextual [cmdIdentify, takenThen_mem, hm]

theorem cmdNop_memOk : cmdNop.memOk := by
  intro i d hm; simp (maxDischargeDepth := 40) +contextual [cmdNop, takenThen_mem, hm]

theorem cmdDeviceStatus_memOk : cmdDeviceStatus.memOk := by
  intro i d hm; simp (maxDischargeDepth := 40) +contextual [cmdDeviceStatus, takenThen_mem, hm]

theorem cmdEventMask_memOk : cmdEventMask.memOk := by
  intro i d hm; simp (maxDischargeDepth := 40) +contextual [cmdEventMask, takenThen_mem, hm]

theorem cmdExpertGrant_memOk : cmdExpertGrant.memOk := by
  intro i d hm; simp (maxDischargeDepth := 40) +contextual [cmdExpertGrant, takenThen_mem, hm]

theorem cmdExpertRelease_memOk : cmdExpertRelease.memOk := by
  intro i d hm; dsimp only [cmdExpertRelease]; (repeat' split) <;> simp (maxDischargeDepth := 40) +contextual [takenThen_mem, hm]

theorem cmdFunctionRights_memOk : cmdFunctionRights.memOk := writeCmd_memOk _ _ _ _ _ _ _

theorem cmdFwUpdate_memOk : cmdFwUpdate.memOk := by
  intro i d hm; dsimp only [cmdFwUpdate]; (repeat' split) <;> simp (maxDischargeDepth := 40) +contextual [takenThen_mem, hm]

theorem cmdFwActivate_memOk : cmdFwActivate.memOk := by
  intro i d hm
  dsimp only [cmdFwActivate]
  split
  · exact hm
  · split
    · rw [Dev.warmRequest_mem]; exact hm
    · exact hm

theorem cmdWarmReset_memOk : cmdWarmReset.memOk := by
  intro i d hm; simp (maxDischargeDepth := 40) +contextual [cmdWarmReset, takenThen_mem, hm]

theorem cmdQueueAssign_memOk : cmdQueueAssign.memOk := by
  intro i d hm; simp (maxDischargeDepth := 40) +contextual [cmdQueueAssign, takenThen_mem, hm]

theorem cmdQueueSetup_memOk : cmdQueueSetup.memOk := by
  intro i d hm
  dsimp only [cmdQueueSetup]
  refine onPair_mem _ _ _ (fun q => ?_) hm
  exact takenThen_mem _ _ _ (fun d h => Dev.putImgs_mem _ _ h) (Dev.fwSet_mem _ _ _ _ hm)

theorem cmdQueueEnable_memOk : cmdQueueEnable.memOk := by
  intro i d hm
  dsimp only [cmdQueueEnable]
  refine onPair_mem _ _ _ (fun q => ?_) hm
  split
  · exact hm
  · rw [answered_mem, Dev.parts_mem]; exact Dev.fwSet_mem _ _ _ _ hm

theorem cmdQueueStats_memOk : cmdQueueStats.memOk := by
  intro i d hm
  dsimp only [cmdQueueStats]
  refine onPair_mem _ _ _ (fun q => ?_) hm
  rw [answered_mem, Dev.parts_mem]; exact hm

theorem cmdLinkStatus_memOk : cmdLinkStatus.memOk := readCmd_memOk _ _ _ _ _

theorem cmdHostConfig_memOk : cmdHostConfig.memOk := writeCmd_memOk _ _ _ _ _ _ _

theorem cmdPortConfig_memOk : cmdPortConfig.memOk := writeCmd_memOk _ _ _ _ _ _ _

theorem cmdPortStatus_memOk : cmdPortStatus.memOk := readCmd_memOk _ _ _ _ _

theorem cmdPortStats_memOk : cmdPortStats.memOk := by
  intro i d hm
  dsimp only [cmdPortStats]
  refine foldl_snd_ok _ (fun a n h => ?_) _ _ hm
  rw [Dev.sinceBase_mem]; exact h

theorem cmdGateListLoad_memOk : cmdGateListLoad.memOk := by
  intro i d hm; dsimp only [cmdGateListLoad]; (repeat' split) <;> simp (maxDischargeDepth := 40) +contextual [takenThen_mem, hm]

theorem cmdMacsecSaSet_memOk : cmdMacsecSaSet.memOk := by
  intro i d hm; simp (maxDischargeDepth := 40) +contextual [cmdMacsecSaSet, takenThen_mem, hm]

theorem cmdPtpConfig_memOk : cmdPtpConfig.memOk := by
  intro i d hm; simp (maxDischargeDepth := 40) +contextual [cmdPtpConfig, takenThen_mem, hm]

theorem cmdRedPairSet_memOk : cmdRedPairSet.memOk := by
  intro i d hm; simp (maxDischargeDepth := 40) +contextual [cmdRedPairSet, takenThen_mem, hm]

theorem cmdTimeConfig_memOk : cmdTimeConfig.memOk := writeCmd_memOk _ _ _ _ _ _ _

theorem cmdTimeStatus_memOk : cmdTimeStatus.memOk := readCmd_memOk _ _ _ _ _

theorem cmdUtcSet_memOk : cmdUtcSet.memOk := writeCmd_memOk _ _ _ _ _ _ _

theorem cmdTimeStep_memOk : cmdTimeStep.memOk := by
  intro i d hm; simp (maxDischargeDepth := 40) +contextual [cmdTimeStep, takenThen_mem, hm]

theorem cmdRuleWrite_memOk : cmdRuleWrite.memOk := by
  intro i d hm; simp (maxDischargeDepth := 40) +contextual [cmdRuleWrite, takenThen_mem, hm]

theorem cmdRuleFlag_memOk : cmdRuleFlag.memOk := by
  intro i d hm; simp (maxDischargeDepth := 40) +contextual [cmdRuleFlag, takenThen_mem, hm]

theorem cmdRuleRead_memOk : cmdRuleRead.memOk := by
  intro i d hm; simp (maxDischargeDepth := 40) +contextual [cmdRuleRead, takenThen_mem, hm]

theorem cmdKeyProfileSet_memOk : cmdKeyProfileSet.memOk := by
  intro i d hm; dsimp only [cmdKeyProfileSet]; (repeat' split) <;> simp (maxDischargeDepth := 40) +contextual [takenThen_mem, hm]

theorem cmdParseLoad_memOk : cmdParseLoad.memOk := by
  intro i d hm; dsimp only [cmdParseLoad]; (repeat' split) <;> simp (maxDischargeDepth := 40) +contextual [takenThen_mem, hm]

theorem cmdRuleCommit_memOk : cmdRuleCommit.memOk := by
  intro i d hm; simp (maxDischargeDepth := 40) +contextual [cmdRuleCommit, takenThen_mem, hm]

theorem cmdRuleStatus_memOk : cmdRuleStatus.memOk := readCmd_memOk _ _ _ _ _

theorem cmdRuleRetire_memOk : cmdRuleRetire.memOk := by
  intro i d hm; simp (maxDischargeDepth := 40) +contextual [cmdRuleRetire, takenThen_mem, hm]

theorem cmdExcConfig_memOk : cmdExcConfig.memOk := writeCmd_memOk _ _ _ _ _ _ _

theorem cmdExcStats_memOk : cmdExcStats.memOk := readCmd_memOk _ _ _ _ _

theorem cmdEddyConfig_memOk : cmdEddyConfig.memOk := writeCmd_memOk _ _ _ _ _ _ _

theorem cmdAssayStats_memOk : cmdAssayStats.memOk := readCmd_memOk _ _ _ _ _

theorem cmdStationAdd_memOk : cmdStationAdd.memOk := by
  intro i d hm
  dsimp only [cmdStationAdd]
  exact Dev.perPipe_mem _ _ _ (fun d p h => by rw [Dev.stationAdd_mem]; exact h) hm

theorem cmdStationDel_memOk : cmdStationDel.memOk := by
  intro i d hm
  dsimp only [cmdStationDel]
  exact Dev.perPipe_mem _ _ _ (fun d p h => by rw [Dev.stationDel_mem]; exact h) hm

theorem cmdStationFlush_memOk : cmdStationFlush.memOk := by
  intro i d hm; simp (maxDischargeDepth := 40) +contextual [cmdStationFlush, takenThen_mem, hm]

theorem cmdStationRead_memOk : cmdStationRead.memOk := by
  intro i d hm; simp (maxDischargeDepth := 40) +contextual [cmdStationRead, takenThen_mem, hm]

theorem cmdStationConfig_memOk : cmdStationConfig.memOk := writeCmd_memOk _ _ _ _ _ _ _

theorem cmdStreamSet_memOk : cmdStreamSet.memOk := by
  intro i d hm; simp (maxDischargeDepth := 40) +contextual [cmdStreamSet, takenThen_mem, hm]

theorem cmdStreamGet_memOk : cmdStreamGet.memOk := by
  intro i d hm; simp (maxDischargeDepth := 40) +contextual [cmdStreamGet, takenThen_mem, hm]

theorem cmdMeterSet_memOk : cmdMeterSet.memOk := writeCmd_memOk _ _ _ _ _ _ _

theorem cmdTableStats_memOk : cmdTableStats.memOk := readCmd_memOk _ _ _ _ _

theorem cmdTemplateLoad_memOk : cmdTemplateLoad.memOk := by
  intro i d hm; dsimp only [cmdTemplateLoad]; (repeat' split) <;> simp (maxDischargeDepth := 40) +contextual [takenThen_mem, hm]

theorem cmdTemplateEnable_memOk : cmdTemplateEnable.memOk := by
  intro i d hm; simp (maxDischargeDepth := 40) +contextual [cmdTemplateEnable, takenThen_mem, hm]

theorem cmdTemplateStatus_memOk : cmdTemplateStatus.memOk := readCmd_memOk _ _ _ _ _

theorem cmdAffinitySet_memOk : cmdAffinitySet.memOk := by
  intro i d hm; simp (maxDischargeDepth := 40) +contextual [cmdAffinitySet, takenThen_mem, hm]

theorem cmdTwinConfig_memOk : cmdTwinConfig.memOk := by
  intro i d hm
  dsimp only [cmdTwinConfig]
  exact Dev.putImgs_mem _ _ (Dev.fwSet_mem _ _ _ _ hm)

theorem cmdSchedStats_memOk : cmdSchedStats.memOk := readCmd_memOk _ _ _ _ _

theorem cmdTraceStart_memOk : cmdTraceStart.memOk := by
  intro i d hm; dsimp only [cmdTraceStart]; (repeat' split) <;> simp (maxDischargeDepth := 40) +contextual [takenThen_mem, hm]

theorem cmdTraceStop_memOk : cmdTraceStop.memOk := by
  intro i d hm; simp (maxDischargeDepth := 40) +contextual [cmdTraceStop, takenThen_mem, hm]

theorem cmdDraughtConfig_memOk : cmdDraughtConfig.memOk := writeCmd_memOk _ _ _ _ _ _ _

theorem cmdGalleryLoad_memOk : cmdGalleryLoad.memOk := by
  intro i d hm; dsimp only [cmdGalleryLoad]; (iterate 3 (all_goals ((repeat' split) <;> (try simp only [Prod.ext_iff] at *) <;> (try casesm* _ ∧ _) <;> (try subst_vars) <;> (try simp (maxDischargeDepth := 40) +contextual [foldl_ok, foldl_snd_ok, foldl_snd2_ok, takenThen_mem, *]) <;> (try refine foldl_ok _ (fun d x hm => ?_) _ _ ?_))))

theorem cmdGalleryStatus_memOk : cmdGalleryStatus.memOk := readCmd_memOk _ _ _ _ _

theorem cmdRoseSet_memOk : cmdRoseSet.memOk := by
  intro i d hm; dsimp only [cmdRoseSet]; (repeat' split) <;> simp (maxDischargeDepth := 40) +contextual [takenThen_mem, hm]

theorem cmdFaultRead_memOk : cmdFaultRead.memOk := by
  intro i d hm; simp (maxDischargeDepth := 40) +contextual [cmdFaultRead, takenThen_mem, hm]

theorem cmdGalleryReset_memOk : cmdGalleryReset.memOk := by
  intro i d hm; simp (maxDischargeDepth := 40) +contextual [cmdGalleryReset, takenThen_mem, hm]

theorem cmdThreadReset_memOk : cmdThreadReset.memOk := by
  intro i d hm; simp (maxDischargeDepth := 40) +contextual [cmdThreadReset, takenThen_mem, hm]

theorem cmdFaceLoad_memOk : cmdFaceLoad.memOk := by
  intro i d hm; dsimp only [cmdFaceLoad]; (iterate 3 (all_goals ((repeat' split) <;> (try (rename_i h; have e := snd_eq h; subst e)) <;> (try simp (maxDischargeDepth := 40) +contextual [foldl_ok, foldl_snd_ok, foldl_snd2_ok, takenThen_mem, *]) <;> (try (refine foldl_ok _ (fun d x hm => ?_) _ _ ?_ <;> (try dsimp only))))))

theorem cmdFaceRun_memOk : cmdFaceRun.memOk := by
  intro i d hm; dsimp only [cmdFaceRun]; (iterate 3 (all_goals ((repeat' split) <;> (try (rename_i h; have e := snd_eq h; subst e)) <;> (try simp (maxDischargeDepth := 40) +contextual [foldl_ok, foldl_snd_ok, foldl_snd2_ok, takenThen_mem, *]) <;> (try (refine foldl_ok _ (fun d x hm => ?_) _ _ ?_ <;> (try dsimp only))))))

theorem cmdFaceStatus_memOk : cmdFaceStatus.memOk := readCmd_memOk _ _ _ _ _

theorem cmdCpStats_memOk : cmdCpStats.memOk := readCmd_memOk _ _ _ _ _

theorem cmdPhasorBind_memOk : cmdPhasorBind.memOk := by
  intro i d hm; dsimp only [cmdPhasorBind]; (repeat' split) <;> simp (maxDischargeDepth := 40) +contextual [takenThen_mem, hm]

theorem cmdPhasorUnbind_memOk : cmdPhasorUnbind.memOk := by
  intro i d hm; dsimp only [cmdPhasorUnbind]; (repeat' split) <;> simp (maxDischargeDepth := 40) +contextual [takenThen_mem, hm]

theorem cmdPhasorEnable_memOk : cmdPhasorEnable.memOk := by
  intro i d hm; simp (maxDischargeDepth := 40) +contextual [cmdPhasorEnable, takenThen_mem, hm]

theorem cmdPmuOutputSet_memOk : cmdPmuOutputSet.memOk := by
  intro i d hm; simp (maxDischargeDepth := 40) +contextual [cmdPmuOutputSet, takenThen_mem, hm]

theorem cmdPhasorStatus_memOk : cmdPhasorStatus.memOk := by
  intro i d hm; simp (maxDischargeDepth := 40) +contextual [cmdPhasorStatus, takenThen_mem, hm]

theorem cmdPmuStats_memOk : cmdPmuStats.memOk := readCmd_memOk _ _ _ _ _

theorem cmdLodeOp_memOk : cmdLodeOp.memOk := by
  intro i d hm; dsimp only [cmdLodeOp]; (iterate 3 (all_goals ((repeat' split) <;> (try (rename_i h; have e := snd_eq h; subst e)) <;> (try simp (maxDischargeDepth := 40) +contextual [foldl_ok, foldl_snd_ok, foldl_snd2_ok, takenThen_mem, *]) <;> (try (refine foldl_ok _ (fun d x hm => ?_) _ _ ?_ <;> (try dsimp only))))))

theorem cmdLodeRead_memOk : cmdLodeRead.memOk := by
  intro i d hm; dsimp only [cmdLodeRead]; (iterate 3 (all_goals ((repeat' split) <;> (try (rename_i h; have e := snd_eq h; subst e)) <;> (try simp (maxDischargeDepth := 40) +contextual [foldl_ok, foldl_snd_ok, foldl_snd2_ok, takenThen_mem, *]) <;> (try (refine foldl_ok _ (fun d x hm => ?_) _ _ ?_ <;> (try dsimp only))))))

theorem cmdLodeWrite_memOk : cmdLodeWrite.memOk := by
  intro i d hm; simp (maxDischargeDepth := 40) +contextual [cmdLodeWrite, takenThen_mem, hm]

theorem cmdLodeFlush_memOk : cmdLodeFlush.memOk := by
  intro i d hm; dsimp only [cmdLodeFlush]; (repeat' split) <;> simp (maxDischargeDepth := 40) +contextual [takenThen_mem, hm]

theorem cmdLodeExportSet_memOk : cmdLodeExportSet.memOk := by
  intro i d hm; simp (maxDischargeDepth := 40) +contextual [cmdLodeExportSet, takenThen_mem, hm]

theorem cmdLodeAnomalyRead_memOk : cmdLodeAnomalyRead.memOk := by
  intro i d hm; simp (maxDischargeDepth := 40) +contextual [cmdLodeAnomalyRead, takenThen_mem, hm]

theorem cmdLodeStats_memOk : cmdLodeStats.memOk := readCmd_memOk _ _ _ _ _

theorem cmdLodeAgeSet_memOk : cmdLodeAgeSet.memOk := by
  intro i d hm; simp (maxDischargeDepth := 40) +contextual [cmdLodeAgeSet, takenThen_mem, hm]

theorem cmdLodeConfig_memOk : cmdLodeConfig.memOk := by
  intro i d hm
  dsimp only [cmdLodeConfig]
  exact foldl_ok _ (fun d t h => Dev.fwSet_mem _ _ _ _ h) _ _ (Dev.fwSet_mem _ _ _ _ (Dev.putImg_mem _ _ _ _ _ hm))

theorem cmdLockGroupSet_memOk : cmdLockGroupSet.memOk := writeCmd_memOk _ _ _ _ _ _ _

theorem cmdLockStatus_memOk : cmdLockStatus.memOk := by
  intro i d hm; simp (maxDischargeDepth := 40) +contextual [cmdLockStatus, takenThen_mem, hm]

theorem cmdChannelSet_memOk : cmdChannelSet.memOk := writeCmd_memOk _ _ _ _ _ _ _

theorem cmdDoldrumsConfig_memOk : cmdDoldrumsConfig.memOk := writeCmd_memOk _ _ _ _ _ _ _

theorem cmdTokenStats_memOk : cmdTokenStats.memOk := readCmd_memOk _ _ _ _ _

theorem cmdLockForceRelease_memOk : cmdLockForceRelease.memOk := by
  intro i d hm; simp (maxDischargeDepth := 40) +contextual [cmdLockForceRelease, takenThen_mem, hm]

theorem cmdHoistStats_memOk : cmdHoistStats.memOk := by
  intro i d hm
  dsimp only [cmdHoistStats]
  rw [Dev.wrIf_mem, Dev.parts_mem]; exact hm

theorem cmdHoistDomainRead_memOk : cmdHoistDomainRead.memOk := by
  intro i d hm; simp (maxDischargeDepth := 40) +contextual [cmdHoistDomainRead, takenThen_mem, hm]

theorem cmdHoistConfig_memOk : cmdHoistConfig.memOk := writeCmd_memOk _ _ _ _ _ _ _

theorem cmdMcastGroupSet_memOk : cmdMcastGroupSet.memOk := writeCmd_memOk _ _ _ _ _ _ _

theorem cmdMcastGroupGet_memOk : cmdMcastGroupGet.memOk := readCmd_memOk _ _ _ _ _

theorem cmdMirrorSet_memOk : cmdMirrorSet.memOk := writeCmd_memOk _ _ _ _ _ _ _

theorem cmdSwitchPortSet_memOk : cmdSwitchPortSet.memOk := writeCmd_memOk _ _ _ _ _ _ _

theorem cmdCaptureSet_memOk : cmdCaptureSet.memOk := writeCmd_memOk _ _ _ _ _ _ _

theorem cmdCaptureStatus_memOk : cmdCaptureStatus.memOk := readCmd_memOk _ _ _ _ _

theorem cmdPlaneStatus_memOk : cmdPlaneStatus.memOk := readCmd_memOk _ _ _ _ _

theorem cmdSwitchStats_memOk : cmdSwitchStats.memOk := readCmd_memOk _ _ _ _ _

theorem cmdSwitchThreshSet_memOk : cmdSwitchThreshSet.memOk := writeCmd_memOk _ _ _ _ _ _ _

theorem cmdPlaneMapSet_memOk : cmdPlaneMapSet.memOk := writeCmd_memOk _ _ _ _ _ _ _

theorem cmdSwitchConfig_memOk : cmdSwitchConfig.memOk := by
  unfold cmdSwitchConfig
  exact writeCmd_memOk _ _ _ _ _ _ _

theorem cmdBinStats_memOk : cmdBinStats.memOk := by
  intro i d hm
  dsimp only [cmdBinStats]
  rw [answered_mem, Dev.parts_mem]; exact hm

theorem cmdBinQuotaSet_memOk : cmdBinQuotaSet.memOk := writeCmd_memOk _ _ _ _ _ _ _

theorem cmdSeamStatus_memOk : cmdSeamStatus.memOk := by
  intro i d hm
  dsimp only [cmdSeamStatus]
  rw [answered_mem, Dev.parts_mem]; exact hm

theorem cmdSeamSpare_memOk : cmdSeamSpare.memOk := by
  intro i d hm; simp (maxDischargeDepth := 40) +contextual [cmdSeamSpare, takenThen_mem, hm]

theorem cmdReliefStatus_memOk : cmdReliefStatus.memOk := by
  intro i d hm; simp (maxDischargeDepth := 40) +contextual [cmdReliefStatus, takenThen_mem, hm]

theorem cmdReliefForce_memOk : cmdReliefForce.memOk := by
  intro i d hm; simp (maxDischargeDepth := 40) +contextual [cmdReliefForce, takenThen_mem, hm]

theorem cmdPowerStatus_memOk : cmdPowerStatus.memOk := by
  intro i d hm; simp (maxDischargeDepth := 40) +contextual [cmdPowerStatus, takenThen_mem, hm]

theorem cmdPolicySet_memOk : cmdPolicySet.memOk := by
  intro i d hm; simp (maxDischargeDepth := 40) +contextual [cmdPolicySet, takenThen_mem, hm]

theorem cmdPolicyStatus_memOk : cmdPolicyStatus.memOk := by
  intro i d hm; simp (maxDischargeDepth := 40) +contextual [cmdPolicyStatus, takenThen_mem, hm]

theorem cmdLedgerRead_memOk : cmdLedgerRead.memOk := by
  intro i d hm; simp (maxDischargeDepth := 40) +contextual [cmdLedgerRead, takenThen_mem, hm]

theorem cmdCalibRead_memOk : cmdCalibRead.memOk := by
  intro i d hm; simp (maxDischargeDepth := 40) +contextual [cmdCalibRead, takenThen_mem, hm]

theorem cmdCalibWrite_memOk : cmdCalibWrite.memOk := by
  intro i d hm; dsimp only [cmdCalibWrite]; (repeat' split) <;> simp (maxDischargeDepth := 40) +contextual [takenThen_mem, hm]

theorem cmdTallyRead_memOk : cmdTallyRead.memOk := by
  intro i d hm; dsimp only [cmdTallyRead]; (repeat' split) <;> simp (maxDischargeDepth := 40) +contextual [takenThen_mem, hm]

theorem cmdTallyStatus_memOk : cmdTallyStatus.memOk := by
  intro i d hm; simp (maxDischargeDepth := 40) +contextual [cmdTallyStatus, takenThen_mem, hm]

theorem cmdTallyLimit_memOk : cmdTallyLimit.memOk := by
  intro i d hm; simp (maxDischargeDepth := 40) +contextual [cmdTallyLimit, takenThen_mem, hm]

theorem cmdDebugChallenge_memOk : cmdDebugChallenge.memOk := by
  intro i d hm; simp (maxDischargeDepth := 40) +contextual [cmdDebugChallenge, takenThen_mem, hm]

theorem cmdDebugUnlock_memOk : cmdDebugUnlock.memOk := by
  intro i d hm; simp (maxDischargeDepth := 40) +contextual [cmdDebugUnlock, takenThen_mem, hm]

theorem cmdDebugLock_memOk : cmdDebugLock.memOk := by
  intro i d hm; simp (maxDischargeDepth := 40) +contextual [cmdDebugLock, takenThen_mem, hm]

theorem cmdOf_memOk (n : Nat) (c : Cmd) (h : cmdOf n = some c) : c.memOk := by
  unfold cmdOf at h
  split at h
  all_goals (cases h)
  · exact cmdIdentify_memOk
  · exact cmdNop_memOk
  · exact cmdDeviceStatus_memOk
  · exact cmdEventMask_memOk
  · exact cmdExpertGrant_memOk
  · exact cmdExpertRelease_memOk
  · exact cmdFunctionRights_memOk
  · exact cmdFwUpdate_memOk
  · exact cmdFwActivate_memOk
  · exact cmdWarmReset_memOk
  · exact cmdPortConfig_memOk
  · exact cmdPortStatus_memOk
  · exact cmdPortStats_memOk
  · exact cmdGateListLoad_memOk
  · exact cmdMacsecSaSet_memOk
  · exact cmdPtpConfig_memOk
  · exact cmdRedPairSet_memOk
  · exact cmdTimeConfig_memOk
  · exact cmdTimeStatus_memOk
  · exact cmdUtcSet_memOk
  · exact cmdTimeStep_memOk
  · exact cmdRuleWrite_memOk
  · exact cmdRuleFlag_memOk
  · exact cmdRuleRead_memOk
  · exact cmdKeyProfileSet_memOk
  · exact cmdParseLoad_memOk
  · exact cmdRuleCommit_memOk
  · exact cmdRuleStatus_memOk
  · exact cmdRuleRetire_memOk
  · exact cmdExcConfig_memOk
  · exact cmdExcStats_memOk
  · exact cmdEddyConfig_memOk
  · exact cmdAssayStats_memOk
  · exact cmdStationAdd_memOk
  · exact cmdStationDel_memOk
  · exact cmdStationFlush_memOk
  · exact cmdStationRead_memOk
  · exact cmdStationConfig_memOk
  · exact cmdStreamSet_memOk
  · exact cmdStreamGet_memOk
  · exact cmdMeterSet_memOk
  · exact cmdTableStats_memOk
  · exact cmdTemplateLoad_memOk
  · exact cmdTemplateEnable_memOk
  · exact cmdTemplateStatus_memOk
  · exact cmdAffinitySet_memOk
  · exact cmdTwinConfig_memOk
  · exact cmdSchedStats_memOk
  · exact cmdTraceStart_memOk
  · exact cmdTraceStop_memOk
  · exact cmdDraughtConfig_memOk
  · exact cmdGalleryLoad_memOk
  · exact cmdGalleryStatus_memOk
  · exact cmdRoseSet_memOk
  · exact cmdFaultRead_memOk
  · exact cmdGalleryReset_memOk
  · exact cmdThreadReset_memOk
  · exact cmdFaceLoad_memOk
  · exact cmdFaceRun_memOk
  · exact cmdFaceStatus_memOk
  · exact cmdCpStats_memOk
  · exact cmdPhasorBind_memOk
  · exact cmdPhasorUnbind_memOk
  · exact cmdPhasorEnable_memOk
  · exact cmdPmuOutputSet_memOk
  · exact cmdPhasorStatus_memOk
  · exact cmdPmuStats_memOk
  · exact cmdLodeOp_memOk
  · exact cmdLodeRead_memOk
  · exact cmdLodeWrite_memOk
  · exact cmdLodeFlush_memOk
  · exact cmdLodeExportSet_memOk
  · exact cmdLodeAnomalyRead_memOk
  · exact cmdLodeStats_memOk
  · exact cmdLodeAgeSet_memOk
  · exact cmdLodeConfig_memOk
  · exact cmdLockGroupSet_memOk
  · exact cmdLockStatus_memOk
  · exact cmdChannelSet_memOk
  · exact cmdDoldrumsConfig_memOk
  · exact cmdTokenStats_memOk
  · exact cmdLockForceRelease_memOk
  · exact cmdHoistStats_memOk
  · exact cmdHoistDomainRead_memOk
  · exact cmdHoistConfig_memOk
  · exact cmdMcastGroupSet_memOk
  · exact cmdMcastGroupGet_memOk
  · exact cmdMirrorSet_memOk
  · exact cmdSwitchPortSet_memOk
  · exact cmdCaptureSet_memOk
  · exact cmdCaptureStatus_memOk
  · exact cmdPlaneStatus_memOk
  · exact cmdSwitchStats_memOk
  · exact cmdSwitchThreshSet_memOk
  · exact cmdPlaneMapSet_memOk
  · exact cmdSwitchConfig_memOk
  · exact cmdBinStats_memOk
  · exact cmdBinQuotaSet_memOk
  · exact cmdQueueAssign_memOk
  · exact cmdQueueSetup_memOk
  · exact cmdQueueEnable_memOk
  · exact cmdQueueStats_memOk
  · exact cmdLinkStatus_memOk
  · exact cmdHostConfig_memOk
  · exact cmdSeamStatus_memOk
  · exact cmdSeamSpare_memOk
  · exact cmdReliefStatus_memOk
  · exact cmdReliefForce_memOk
  · exact cmdPowerStatus_memOk
  · exact cmdPolicySet_memOk
  · exact cmdPolicyStatus_memOk
  · exact cmdLedgerRead_memOk
  · exact cmdCalibRead_memOk
  · exact cmdCalibWrite_memOk
  · exact cmdTallyRead_memOk
  · exact cmdTallyStatus_memOk
  · exact cmdTallyLimit_memOk
  · exact cmdDebugChallenge_memOk
  · exact cmdDebugUnlock_memOk
  · exact cmdDebugLock_memOk
@[simp] theorem Dev.runRequest_mem (d : Dev) (code : Nat) (body : List Byte) (hm : Memory.wf d.mem = true) : Memory.wf (d.runRequest code body).2.mem = true := by
  unfold Dev.runRequest
  dsimp only
  split
  · exact hm
  · rename_i c hc
    split
    · exact hm
    · have h := Dev.runCmd_mem d c ⟨0, body, true, none, none⟩ (cmdOf_memOk _ _ hc) hm
      split <;> rename_i he <;> rw [he] at h <;> exact h

@[simp] theorem Dev.eventPut_mem (d : Dev) (e : Event) (fn : Nat) (hm : Memory.wf d.mem = true) : Memory.wf (Dev.eventPut d e fn).mem = true := by
  unfold Dev.eventPut; (iterate 3 (all_goals ((repeat' split) <;> (try simp only [Prod.ext_iff] at *) <;> (try casesm* _ ∧ _) <;> (try subst_vars) <;> (try simp (maxDischargeDepth := 40) +contextual [foldl_ok, foldl_snd_ok, foldl_snd2_ok, *]) <;> (try refine foldl_ok _ (fun d x hm => ?_) _ _ ?_))))

@[simp] theorem Dev.newFrame_mem (d : Dev) (f : Frame) : (Dev.newFrame d f).mem = d.mem := (rfl)

@[simp] theorem Dev.inStamp_mem (d : Dev) (p : Nat) : (Dev.inStamp d p).2.mem = d.mem := (rfl)

@[simp] theorem Dev.takeVersion_mem (d : Dev) (f : Frame) : (Dev.takeVersion d f).2.mem = d.mem := by
  simp [Dev.takeVersion, -List.foldl_append]

@[simp] theorem Dev.accept_mem (d : Dev) (h : Nat) (f : Frame) : (Dev.accept d h f).mem = d.mem := by
  simp [Dev.accept, -List.foldl_append]

@[simp] theorem Dev.pipeFull_mem (d : Dev) (p : Nat) : (Dev.pipeFull d p).mem = d.mem := by
  unfold Dev.pipeFull; (iterate 3 (all_goals ((repeat' split) <;> (try simp only [Prod.ext_iff] at *) <;> (try casesm* _ ∧ _) <;> (try subst_vars) <;> (try simp) <;> (try refine foldl_mem _ (fun d x => ?_) _ _))))

@[simp] theorem Dev.excSend_mem (d : Dev) (h : Nat) (r : EnqReq) (hm : Memory.wf d.mem = true) : Memory.wf (Dev.excSend d h r).mem = true := by
  simp (maxDischargeDepth := 40) [Dev.excSend, hm, -List.foldl_append]

@[simp] theorem Dev.excCell_mem (d : Dev) (h : Nat) (f : Frame) (p : Nat) (req : EnqReq) (hm : Memory.wf d.mem = true) : Memory.wf (Dev.excCell d h f p req).mem = true := by
  unfold Dev.excCell; (iterate 3 (all_goals ((repeat' split) <;> (try simp only [Prod.ext_iff] at *) <;> (try casesm* _ ∧ _) <;> (try subst_vars) <;> (try simp (maxDischargeDepth := 40) +contextual [foldl_ok, foldl_snd_ok, foldl_snd2_ok, *]) <;> (try refine foldl_ok _ (fun d x hm => ?_) _ _ ?_))))

@[simp] theorem Dev.excDeliver_mem (d : Dev) (h : Nat) (f : Frame) (p : Nat) (hm : Memory.wf d.mem = true) : Memory.wf (Dev.excDeliver d h f p).mem = true := by
  unfold Dev.excDeliver; (repeat' split) <;> simp (maxDischargeDepth := 40) [hm]

@[simp] theorem Dev.write64_mem (d : Dev) (src : Src) (r : Reg) (v : Word64) (hm : Memory.wf d.mem = true) : Memory.wf (Dev.write64 d src r v).mem = true := by
  simp (maxDischargeDepth := 40) [Dev.write64, hm, -List.foldl_append]

@[simp] theorem Dev.write32_mem (d : Dev) (src : Src) (r : Reg) (v : Word32) (hm : Memory.wf d.mem = true) : Memory.wf (Dev.write32 d src r v).mem = true := by
  simp (maxDischargeDepth := 40) [Dev.write32, hm, -List.foldl_append]

@[simp] theorem Dev.act64_mem (d : Dev) (src : Src) (r : Reg) (f : Fld) (x : Nat) (hm : Memory.wf d.mem = true) : Memory.wf (Dev.act64 d src r f x).mem = true := by
  simp (maxDischargeDepth := 40) [Dev.act64, hm, -List.foldl_append]

@[simp] theorem Dev.act32_mem (d : Dev) (src : Src) (r : Reg) (f : Fld) (x : Nat) (hm : Memory.wf d.mem = true) : Memory.wf (Dev.act32 d src r f x).mem = true := by
  simp (maxDischargeDepth := 40) [Dev.act32, hm, -List.foldl_append]

@[simp] theorem Dev.tcmdWrite_mem (d : Dev) (src : Src) (op thread : Nat) (all : Bool) (hm : Memory.wf d.mem = true) : Memory.wf (Dev.tcmdWrite d src op thread all).mem = true := by
  simp (maxDischargeDepth := 40) [Dev.tcmdWrite, hm, -List.foldl_append]

@[simp] theorem Dev.copyOn_mem (d : Dev) : (Dev.copyOn d).mem = d.mem := by
  unfold Dev.copyOn; (repeat' split) <;> simp

@[simp] theorem Dev.keepReg_mem (d old : Dev) (r : Reg) : (Dev.keepReg d old r).mem = d.mem := (rfl)

@[simp] theorem Dev.keepFld_mem (d old : Dev) (r : Reg) (f : Fld) : (Dev.keepFld d old r f).mem = d.mem := (rfl)

@[simp] theorem Dev.ledgerBack_mem (d : Dev) (hm : Memory.wf d.mem = true) : Memory.wf (Dev.ledgerBack d).mem = true := by
  unfold Dev.ledgerBack; dsimp only; (repeat' split) <;> simp_all (maxDischargeDepth := 40)

@[simp] theorem Dev.calendarBack_mem (d : Dev) : d.calendarBack.mem = d.mem := by
  unfold Dev.calendarBack
  generalize (d.ledgerNewest.map (·.2)).getD (List.replicate 256 0) = bs
  dsimp only
  rw [Dev.tally_mem, Dev.wr_mem, Dev.wr_mem, Dev.modBg_mem]

@[simp] theorem Dev.undoRepair_mem (d : Dev) (k : Nat) : (Dev.undoRepair d k).mem = d.mem := by
  simp [Dev.undoRepair, -List.foldl_append]

@[simp] theorem Dev.uncountRepair_mem (d : Dev) (k : Nat) : (Dev.uncountRepair d k).mem = d.mem := by
  simp [Dev.uncountRepair, -List.foldl_append]

@[simp] theorem Dev.keepRepairs_mem (d old : Dev) : (Dev.keepRepairs d old).mem = d.mem := by
  simp [Dev.keepRepairs, -List.foldl_append]

@[simp] theorem Dev.pinsAfter_mem (d old : Dev) : (Dev.pinsAfter d old).mem = d.mem := by
  simp [Dev.pinsAfter, -List.foldl_append]

theorem norCells_wf (m : List Host.Cell) (h : Memory.wf m = true) : Memory.wf (norCells m) = true := by
  unfold norCells
  exact Memory.filter_wf _ h
@[simp] theorem Dev.coldBase_mem (d : Dev) (hm : Memory.wf d.mem = true) : Memory.wf (Dev.coldBase d).mem = true := norCells_wf _ hm

@[simp] theorem Dev.coldFields_mem (d old : Dev) : (Dev.coldFields d old).mem = d.mem := (rfl)

@[simp] theorem Dev.coldDev_mem (old : Dev) (hm : Memory.wf old.mem = true) : Memory.wf (Dev.coldDev old).mem = true := by
  simp (maxDischargeDepth := 40) [Dev.coldDev, hm, -List.foldl_append]

@[simp] theorem Dev.toStage_mem (d : Dev) (n : Nat) : (Dev.toStage d n).mem = d.mem := (rfl)

@[simp] theorem Dev.startFail_mem (d : Dev) (code : Nat) (f : Fld) (hm : Memory.wf d.mem = true) : Memory.wf (Dev.startFail d code f).mem = true := by
  simp (maxDischargeDepth := 40) [Dev.startFail, hm, -List.foldl_append]

@[simp] theorem Dev.domsOn_mem (d : Dev) (l : List Nat) : (Dev.domsOn d l).mem = d.mem := by
  simp [Dev.domsOn, -List.foldl_append]

@[simp] theorem Dev.endStraps_mem (d : Dev) (hm : Memory.wf d.mem = true) : Memory.wf (Dev.endStraps d).mem = true := by
  simp (maxDischargeDepth := 40) [Dev.endStraps, hm, -List.foldl_append]

@[simp] theorem Dev.runSlot_mem (d : Dev) (slot : Nat) : (Dev.runSlot d slot).mem = d.mem := (rfl)

@[simp] theorem Dev.slotRefused_mem (d : Dev) (slot : Nat) : (Dev.slotRefused d slot).mem = d.mem := (rfl)

@[simp] theorem Dev.endVerify_mem (d : Dev) (signedA signedB lockstep coreC : Bool) (hm : Memory.wf d.mem = true) : Memory.wf (Dev.endVerify d signedA signedB lockstep coreC).mem = true := by
  unfold Dev.endVerify; dsimp only; (repeat' split) <;> simp_all (maxDischargeDepth := 40)

@[simp] theorem Dev.endCalib_mem (d : Dev) (hm : Memory.wf d.mem = true) : Memory.wf (Dev.endCalib d).mem = true := by
  unfold Dev.endCalib; dsimp only; (repeat' split) <;> simp_all (maxDischargeDepth := 40)

@[simp] theorem Dev.rowsThread_mem (d : Dev) : (Dev.rowsThread d).mem = d.mem := (rfl)

@[simp] theorem Dev.endRamp_mem (d : Dev) (ok : Bool) (hm : Memory.wf d.mem = true) : Memory.wf (Dev.endRamp d ok).mem = true := by
  unfold Dev.endRamp; (repeat' split) <;> simp (maxDischargeDepth := 40) [hm]

@[simp] theorem Dev.afterPair_mem (d : Dev) : (Dev.afterPair d).mem = d.mem := by
  simp [Dev.afterPair, -List.foldl_append]

@[simp] theorem Dev.endTrain_mem (d : Dev) (passed : BitVec 5) (hm : Memory.wf d.mem = true) : Memory.wf (Dev.endTrain d passed).mem = true := by
  unfold Dev.endTrain; dsimp only; (repeat' split) <;> simp_all (maxDischargeDepth := 40)

@[simp] theorem Dev.endLode_mem (d : Dev) (bad : BitVec 4) (rows : List (Fin 8388608)) (hm : Memory.wf d.mem = true) : Memory.wf (Dev.endLode d bad rows).mem = true := by
  simp (maxDischargeDepth := 40) +contextual [Dev.endLode, foldl_ok, foldl_snd_ok, foldl_snd2_ok, hm, -List.foldl_append]

@[simp] theorem Dev.endSelftest_mem (d : Dev) (bad : BitVec 26) (fail : Option (Fin 4)) (hm : Memory.wf d.mem = true) : Memory.wf (Dev.endSelftest d bad fail).mem = true := by
  unfold Dev.endSelftest; dsimp only; (repeat' split) <;> simp_all (maxDischargeDepth := 40)

@[simp] theorem Dev.galUp_mem (d : Dev) (imgs bits : List (Fin 26 × List Byte)) (g : Nat) (hm : Memory.wf d.mem = true) : Memory.wf (Dev.galUp d imgs bits g).mem = true := by
  unfold Dev.galUp; (repeat' split) <;> simp (maxDischargeDepth := 40) [hm]

@[simp] theorem Dev.galOut_mem (d : Dev) (bad : Nat → Bool) (g : Nat) : (Dev.galOut d bad g).mem = d.mem := by
  unfold Dev.galOut; (iterate 3 (all_goals ((repeat' split) <;> (try simp only [Prod.ext_iff] at *) <;> (try casesm* _ ∧ _) <;> (try subst_vars) <;> (try simp) <;> (try refine foldl_mem _ (fun d x => ?_) _ _))))

@[simp] theorem Dev.endConfig_mem (d : Dev) (imgs bits : List (Fin 26 × List Byte)) (hm : Memory.wf d.mem = true) : Memory.wf (Dev.endConfig d imgs bits).mem = true := by
  simp (maxDischargeDepth := 40) +contextual [Dev.endConfig, foldl_ok, foldl_snd_ok, foldl_snd2_ok, hm, -List.foldl_append]

@[simp] theorem Dev.endReady_mem (d : Dev) : (Dev.endReady d).mem = d.mem := by
  simp [Dev.endReady, -List.foldl_append]

@[simp] theorem Dev.runConfig_mem (d : Dev) (n : Nat) (l : List (BitVec 16 × List Byte)) (hm : Memory.wf d.mem = true) : Memory.wf (d.runConfig n l).mem = true := by
  induction l generalizing d n with
  | nil => exact hm
  | cons r rest ih => unfold Dev.runConfig; dsimp only; apply ih; split <;> simp [hm]

@[simp] theorem Dev.endApply_mem (d : Dev) (reqs : List (BitVec 16 × List Byte)) (ports : BitVec 32) (hm : Memory.wf d.mem = true) : Memory.wf (Dev.endApply d reqs ports).mem = true := by
  unfold Dev.endApply; (iterate 3 (all_goals ((repeat' split) <;> (try simp only [Prod.ext_iff] at *) <;> (try casesm* _ ∧ _) <;> (try subst_vars) <;> (try simp (maxDischargeDepth := 40) +contextual [foldl_ok, foldl_snd_ok, foldl_snd2_ok, *]) <;> (try refine foldl_ok _ (fun d x hm => ?_) _ _ ?_))))

@[simp] theorem Dev.warmBase_mem (d : Dev) (hm : Memory.wf d.mem = true) : Memory.wf (Dev.warmBase d).mem = true := norCells_wf _ hm

@[simp] theorem Dev.warmFields_mem (d old : Dev) (hm : Memory.wf d.mem = true) : Memory.wf (Dev.warmFields d old).mem = true := by
  simp (maxDischargeDepth := 40) [Dev.warmFields, hm, -List.foldl_append]

@[simp] theorem Dev.warmDev_mem (old : Dev) (hm : Memory.wf old.mem = true) : Memory.wf (Dev.warmDev old).mem = true := by
  simp (maxDischargeDepth := 40) [Dev.warmDev, hm, -List.foldl_append]

end Sys2Proof.Machine
end

