-- ==== Sys2Proof/Laws/MemoryExec.lean ====
section
/-!
SUPPORT. The meaning of every command keeps the canonical form of memory, one lemma for each.
-/

namespace Sys2Proof.Machine

set_option linter.unusedSimpArgs false
set_option linter.unreachableTactic false
set_option linter.unusedTactic false
set_option linter.unnecessarySeqFocus false
set_option linter.unusedVariables false

/-- An outcome whose next state, if it has one, holds a memory in canonical form. -/
def Outc.memOk (o : Outc) : Prop := ∀ t, o = .next t → Memory.wf t.dev.mem = true
theorem go_memOk (s : State) (f : Dev → Dev) (h : ∀ d, Memory.wf d.mem = true → Memory.wf (f d).mem = true) (hm : Memory.wf s.dev.mem = true) : Outc.memOk (s.go f) := by
  intro t ht; cases ht; exact h _ hm

theorem execRegisterWrite_memOk (src : Src) (a : Fin 4296015872) (size : Fin 9) (v : Word64) (s : State) (hm : Memory.wf s.dev.mem = true) : Outc.memOk (execRegisterWrite src a size v s) := by
  refine go_memOk _ _ (fun d h => ?_) hm
  simp (maxDischargeDepth := 40) [h]

theorem execRcRead_memOk (src : Src) (a : Fin 4296015872) (size : Fin 9) (s : State) (hm : Memory.wf s.dev.mem = true) : Outc.memOk (execRcRead src a size s) := by
  refine go_memOk _ _ (fun d h => ?_) hm
  simp (maxDischargeDepth := 40) [h]

theorem execPtTsdlyWrite_memOk (src : Src) (p : Fin 32) (size : Fin 9) (v : Word64) (s : State) (hm : Memory.wf s.dev.mem = true) : Outc.memOk (execPtTsdlyWrite src p size v s) := by
  refine go_memOk _ _ (fun d h => ?_) hm
  simp (maxDischargeDepth := 40) [h]

theorem execUnmappedAccess_memOk (src : Src) (a : Fin 4296015872) (size : Fin 9) (v : Option Word64) (s : State) (hm : Memory.wf s.dev.mem = true) : Outc.memOk (execUnmappedAccess src a size v s) := by
  refine go_memOk _ _ (fun d h => ?_) hm
  (repeat' split) <;> simp (maxDischargeDepth := 40) [h]

theorem execTbNowLoRead_memOk (src : Src) (s : State) (hm : Memory.wf s.dev.mem = true) : Outc.memOk (execTbNowLoRead src s) := by
  refine go_memOk _ _ (fun d h => ?_) hm
  simp (maxDischargeDepth := 40) [h]

theorem execGlFrec2Read_memOk (src : Src) (g : Fin 26) (s : State) (hm : Memory.wf s.dev.mem = true) : Outc.memOk (execGlFrec2Read src g s) := by
  refine go_memOk _ _ (fun d h => ?_) hm
  simp (maxDischargeDepth := 40) [h]

theorem execLdAnq1Read_memOk (src : Src) (s : State) (hm : Memory.wf s.dev.mem = true) : Outc.memOk (execLdAnq1Read src s) := by
  refine go_memOk _ _ (fun d h => ?_) hm
  simp (maxDischargeDepth := 40) [h]

theorem execTkRrec1Read_memOk (src : Src) (s : State) (hm : Memory.wf s.dev.mem = true) : Outc.memOk (execTkRrec1Read src s) := by
  refine go_memOk _ _ (fun d h => ?_) hm
  simp (maxDischargeDepth := 40) [h]

theorem execColdReset_memOk (s : State) (hm : Memory.wf s.dev.mem = true) : Outc.memOk (execColdReset s) := by
  refine go_memOk _ _ (fun d h => ?_) hm
  (repeat' split) <;> simp (maxDischargeDepth := 40) [h]

theorem execStrapSample_memOk (bootSel lullEn : Bool) (s : State) (hm : Memory.wf s.dev.mem = true) : Outc.memOk (execStrapSample bootSel lullEn s) := by
  refine go_memOk _ _ (fun d h => ?_) hm
  simp (maxDischargeDepth := 40) [h]

theorem execStartupStageEnd_memOk (e : StageEnd) (s : State) (hm : Memory.wf s.dev.mem = true) : Outc.memOk (execStartupStageEnd e s) := by
  refine go_memOk _ _ (fun d h => ?_) hm
  (repeat' split) <;> simp (maxDischargeDepth := 40) [h]

theorem execStageTimeout_memOk (s : State) (hm : Memory.wf s.dev.mem = true) : Outc.memOk (execStageTimeout s) := by
  refine go_memOk _ _ (fun d h => ?_) hm
  (repeat' split) <;> simp (maxDischargeDepth := 40) [h]

theorem execWarmResetBegin_memOk (s : State) (hm : Memory.wf s.dev.mem = true) : Outc.memOk (execWarmResetBegin s) := by
  refine go_memOk _ _ (fun d h => ?_) hm
  (repeat' split) <;> simp (maxDischargeDepth := 40) [h]

theorem execPerstNAssert_memOk (s : State) (hm : Memory.wf s.dev.mem = true) : Outc.memOk (execPerstNAssert s) := by
  refine go_memOk _ _ (fun d h => ?_) hm
  simp (maxDischargeDepth := 40) [h]

theorem execPerstNRelease_memOk (s : State) (hm : Memory.wf s.dev.mem = true) : Outc.memOk (execPerstNRelease s) := by
  refine go_memOk _ _ (fun d h => ?_) hm
  simp (maxDischargeDepth := 40) [h]

theorem execFlr_memOk (fn : Fin 64) (s : State) (hm : Memory.wf s.dev.mem = true) : Outc.memOk (execFlr fn s) := by
  refine go_memOk _ _ (fun d h => ?_) hm
  (repeat' split) <;> simp (maxDischargeDepth := 40) [h]

theorem execFrameReceive_memOk (p : Fin 32) (data : List Byte) (sec : Option Bool) (s : State) (hm : Memory.wf s.dev.mem = true) : Outc.memOk (execFrameReceive p data sec s) := by
  refine go_memOk _ _ (fun d h => ?_) hm
  simp (maxDischargeDepth := 40) [h]

theorem execPipeAccept_memOk (p : Fin 4) (s : State) (hm : Memory.wf s.dev.mem = true) : Outc.memOk (execPipeAccept p s) := by
  refine go_memOk _ _ (fun d h => ?_) hm
  dsimp only; (iterate 3 (all_goals ((repeat' split) <;> (try (rename_i h; have e := snd_eq h; subst e)) <;> (try simp (maxDischargeDepth := 40) +contextual [foldl_ok, foldl_snd_ok, foldl_snd2_ok, takenThen_mem, *]) <;> (try (refine foldl_ok _ (fun d x h => ?_) _ _ ?_ <;> (try dsimp only))))))

theorem execBodyComplete_memOk (h : Nat) (s : State) (hm : Memory.wf s.dev.mem = true) : Outc.memOk (execBodyComplete h s) := by
  refine go_memOk _ _ (fun d h => ?_) hm
  dsimp only; (iterate 3 (all_goals ((repeat' split) <;> (try (rename_i h; have e := snd_eq h; subst e)) <;> (try simp (maxDischargeDepth := 40) +contextual [foldl_ok, foldl_snd_ok, foldl_snd2_ok, takenThen_mem, *]) <;> (try (refine foldl_ok _ (fun d x h => ?_) _ _ ?_ <;> (try dsimp only))))))

theorem execParseStart_memOk (p : Fin 4) (a : Fin 16) (s : State) (hm : Memory.wf s.dev.mem = true) : Outc.memOk (execParseStart p a s) := by
  refine go_memOk _ _ (fun d h => ?_) hm
  dsimp only; (iterate 3 (all_goals ((repeat' split) <;> (try (rename_i h; have e := snd_eq h; subst e)) <;> (try simp (maxDischargeDepth := 40) +contextual [foldl_ok, foldl_snd_ok, foldl_snd2_ok, takenThen_mem, *]) <;> (try (refine foldl_ok _ (fun d x h => ?_) _ _ ?_ <;> (try dsimp only))))))

theorem execAssayExt_memOk (p : Fin 4) (a : Fin 16) (s : State) (hm : Memory.wf s.dev.mem = true) : Outc.memOk (execAssayExt p a s) := by
  refine go_memOk _ _ (fun d h => ?_) hm
  simp (maxDischargeDepth := 40) [h]

theorem execLdr_memOk (p : Fin 4) (a : Fin 16) (s : State) (hm : Memory.wf s.dev.mem = true) : Outc.memOk (execLdr p a s) := by
  refine go_memOk _ _ (fun d h => ?_) hm
  simp (maxDischargeDepth := 40) [h]

theorem execAdvi_memOk (p : Fin 4) (a : Fin 16) (s : State) (hm : Memory.wf s.dev.mem = true) : Outc.memOk (execAdvi p a s) := by
  refine go_memOk _ _ (fun d h => ?_) hm
  simp (maxDischargeDepth := 40) [h]

theorem execAdvr_memOk (p : Fin 4) (a : Fin 16) (s : State) (hm : Memory.wf s.dev.mem = true) : Outc.memOk (execAdvr p a s) := by
  refine go_memOk _ _ (fun d h => ?_) hm
  simp (maxDischargeDepth := 40) [h]

theorem execBeq_memOk (p : Fin 4) (a : Fin 16) (s : State) (hm : Memory.wf s.dev.mem = true) : Outc.memOk (execBeq p a s) := by
  refine go_memOk _ _ (fun d h => ?_) hm
  simp (maxDischargeDepth := 40) [h]

theorem execBne_memOk (p : Fin 4) (a : Fin 16) (s : State) (hm : Memory.wf s.dev.mem = true) : Outc.memOk (execBne p a s) := by
  refine go_memOk _ _ (fun d h => ?_) hm
  simp (maxDischargeDepth := 40) [h]

theorem execBset_memOk (p : Fin 4) (a : Fin 16) (s : State) (hm : Memory.wf s.dev.mem = true) : Outc.memOk (execBset p a s) := by
  refine go_memOk _ _ (fun d h => ?_) hm
  simp (maxDischargeDepth := 40) [h]

theorem execJmp_memOk (p : Fin 4) (a : Fin 16) (s : State) (hm : Memory.wf s.dev.mem = true) : Outc.memOk (execJmp p a s) := by
  refine go_memOk _ _ (fun d h => ?_) hm
  simp (maxDischargeDepth := 40) [h]

theorem execSetb_memOk (p : Fin 4) (a : Fin 16) (s : State) (hm : Memory.wf s.dev.mem = true) : Outc.memOk (execSetb p a s) := by
  refine go_memOk _ _ (fun d h => ?_) hm
  simp (maxDischargeDepth := 40) [h]

theorem execPutr_memOk (p : Fin 4) (a : Fin 16) (s : State) (hm : Memory.wf s.dev.mem = true) : Outc.memOk (execPutr p a s) := by
  refine go_memOk _ _ (fun d h => ?_) hm
  simp (maxDischargeDepth := 40) [h]

theorem execKeyp_memOk (p : Fin 4) (a : Fin 16) (s : State) (hm : Memory.wf s.dev.mem = true) : Outc.memOk (execKeyp p a s) := by
  refine go_memOk _ _ (fun d h => ?_) hm
  simp (maxDischargeDepth := 40) [h]

theorem execHdr_memOk (p : Fin 4) (a : Fin 16) (s : State) (hm : Memory.wf s.dev.mem = true) : Outc.memOk (execHdr p a s) := by
  refine go_memOk _ _ (fun d h => ?_) hm
  simp (maxDischargeDepth := 40) [h]

theorem execLdm_memOk (p : Fin 4) (a : Fin 16) (s : State) (hm : Memory.wf s.dev.mem = true) : Outc.memOk (execLdm p a s) := by
  refine go_memOk _ _ (fun d h => ?_) hm
  simp (maxDischargeDepth := 40) [h]

theorem execDone_memOk (p : Fin 4) (a : Fin 16) (s : State) (hm : Memory.wf s.dev.mem = true) : Outc.memOk (execDone p a s) := by
  refine go_memOk _ _ (fun d h => ?_) hm
  simp (maxDischargeDepth := 40) [h]

theorem execFail_memOk (p : Fin 4) (a : Fin 16) (s : State) (hm : Memory.wf s.dev.mem = true) : Outc.memOk (execFail p a s) := by
  refine go_memOk _ _ (fun d h => ?_) hm
  simp (maxDischargeDepth := 40) [h]

theorem execParseOverrun_memOk (p : Fin 4) (a : Fin 16) (s : State) (hm : Memory.wf s.dev.mem = true) : Outc.memOk (execParseOverrun p a s) := by
  refine go_memOk _ _ (fun d h => ?_) hm
  (repeat' split) <;> simp (maxDischargeDepth := 40) [h]

theorem execTubIssue_memOk (p : Fin 4) (s : State) (hm : Memory.wf s.dev.mem = true) : Outc.memOk (execTubIssue p s) := by
  refine go_memOk _ _ (fun d h => ?_) hm
  dsimp only; (iterate 3 (all_goals ((repeat' split) <;> (try (rename_i h; have e := snd_eq h; subst e)) <;> (try simp (maxDischargeDepth := 40) +contextual [foldl_ok, foldl_snd_ok, foldl_snd2_ok, takenThen_mem, *]) <;> (try (refine foldl_ok _ (fun d x h => ?_) _ _ ?_ <;> (try dsimp only))))))

theorem execExceptionDeliver_memOk (h : Nat) (s : State) (hm : Memory.wf s.dev.mem = true) : Outc.memOk (execExceptionDeliver h s) := by
  refine go_memOk _ _ (fun d h => ?_) hm
  (repeat' split) <;> simp (maxDischargeDepth := 40) [h]

theorem execExcTokenCredit_memOk (s : State) (hm : Memory.wf s.dev.mem = true) : Outc.memOk (execExcTokenCredit s) := by
  refine go_memOk _ _ (fun d h => ?_) hm
  simp (maxDischargeDepth := 40) [h]

theorem execCommitEffect_memOk (p : Fin 4) (s : State) (hm : Memory.wf s.dev.mem = true) : Outc.memOk (execCommitEffect p s) := by
  refine go_memOk _ _ (fun d h => ?_) hm
  simp (maxDischargeDepth := 40) [h]

theorem execStagingCopyDone_memOk (s : State) (hm : Memory.wf s.dev.mem = true) : Outc.memOk (execStagingCopyDone s) := by
  refine go_memOk _ _ (fun d h => ?_) hm
  (repeat' split) <;> simp (maxDischargeDepth := 40) [h]

theorem execEddyEnqueue_memOk (s : State) (hm : Memory.wf s.dev.mem = true) : Outc.memOk (execEddyEnqueue s) := by
  refine go_memOk _ _ (fun d h => ?_) hm
  dsimp only; (iterate 3 (all_goals ((repeat' split) <;> (try simp only [Prod.ext_iff] at *) <;> (try casesm* _ ∧ _) <;> (try subst_vars) <;> (try simp (maxDischargeDepth := 40) +contextual [foldl_ok, foldl_snd_ok, foldl_snd2_ok, takenThen_mem, *]) <;> (try refine foldl_ok _ (fun d x h => ?_) _ _ ?_))))

theorem execLearnApply_memOk (p : Fin 4) (s : State) (hm : Memory.wf s.dev.mem = true) : Outc.memOk (execLearnApply p s) := by
  refine go_memOk _ _ (fun d h => ?_) hm
  (repeat' split) <;> simp (maxDischargeDepth := 40) [h]

theorem execStationSweepVisit_memOk (p : Fin 4) (s : State) (hm : Memory.wf s.dev.mem = true) : Outc.memOk (execStationSweepVisit p s) := by
  refine go_memOk _ _ (fun d h => ?_) hm
  (repeat' split) <;> simp (maxDischargeDepth := 40) [h]

theorem execStDmactlStart_memOk (src : Src) (op : Bool) (tbl : Fin 8) (index : Fin 262144) (count : Fin 524288) (s : State) (hm : Memory.wf s.dev.mem = true) : Outc.memOk (execStDmactlStart src op tbl index count s) := by
  refine go_memOk _ _ (fun d h => ?_) hm
  simp (maxDischargeDepth := 40) [h]

theorem execStDmaDone_memOk (s : State) (hm : Memory.wf s.dev.mem = true) : Outc.memOk (execStDmaDone s) := by
  refine go_memOk _ _ (fun d h => ?_) hm
  simp (maxDischargeDepth := 40) [h]

theorem execStDmactlLock_memOk (src : Src) (tbl : Fin 8) (lock : Bool) (s : State) (hm : Memory.wf s.dev.mem = true) : Outc.memOk (execStDmactlLock src tbl lock s) := by
  refine go_memOk _ _ (fun d h => ?_) hm
  simp (maxDischargeDepth := 40) [h]

theorem execLockTimeout_memOk (s : State) (hm : Memory.wf s.dev.mem = true) : Outc.memOk (execLockTimeout s) := by
  refine go_memOk _ _ (fun d h => ?_) hm
  simp (maxDischargeDepth := 40) [h]

theorem execTableClearDone_memOk (s : State) (hm : Memory.wf s.dev.mem = true) : Outc.memOk (execTableClearDone s) := by
  refine go_memOk _ _ (fun d h => ?_) hm
  simp (maxDischargeDepth := 40) [h]

theorem execDrTctlEn_memOk (src : Src) (t : Fin 256) (en : Bool) (s : State) (hm : Memory.wf s.dev.mem = true) : Outc.memOk (execDrTctlEn src t en s) := by
  refine go_memOk _ _ (fun d h => ?_) hm
  simp (maxDischargeDepth := 40) [h]

theorem execAdmission_memOk (p : Fin 4) (c7 : Bool) (s : State) (hm : Memory.wf s.dev.mem = true) : Outc.memOk (execAdmission p c7 s) := by
  refine go_memOk _ _ (fun d h => ?_) hm
  (repeat' split) <;> simp (maxDischargeDepth := 40) [h]

theorem execNodeDispatch_memOk (g : Fin 26) (s : State) (hm : Memory.wf s.dev.mem = true) : Outc.memOk (execNodeDispatch g s) := by
  refine go_memOk _ _ (fun d h => ?_) hm
  dsimp only; (iterate 3 (all_goals ((repeat' split) <;> (try (rename_i h; have e := snd_eq h; subst e)) <;> (try simp (maxDischargeDepth := 40) +contextual [foldl_ok, foldl_snd_ok, foldl_snd2_ok, takenThen_mem, *]) <;> (try (refine foldl_ok _ (fun d x h => ?_) _ _ ?_ <;> (try dsimp only))))))

theorem execThreadTakeNode_memOk (k : Fin 1664) (s : State) (hm : Memory.wf s.dev.mem = true) : Outc.memOk (execThreadTakeNode k s) := by
  refine go_memOk _ _ (fun d h => ?_) hm
  (repeat' split) <;> simp (maxDischargeDepth := 40) [h]

theorem execNodeComplete_memOk (s : State) (hm : Memory.wf s.dev.mem = true) : Outc.memOk (execNodeComplete s) := by
  refine go_memOk _ _ (fun d h => ?_) hm
  (repeat' split) <;> simp (maxDischargeDepth := 40) [h]

theorem execHelperTimeout_memOk (g : Fin 26) (slot : Fin 2048) (node : Fin 16) (s : State) (hm : Memory.wf s.dev.mem = true) : Outc.memOk (execHelperTimeout g slot node s) := by
  refine go_memOk _ _ (fun d h => ?_) hm
  dsimp only; (iterate 3 (all_goals ((repeat' split) <;> (try (rename_i h; have e := snd_eq h; subst e)) <;> (try simp (maxDischargeDepth := 40) +contextual [foldl_ok, foldl_snd_ok, foldl_snd2_ok, takenThen_mem, *]) <;> (try (refine foldl_ok _ (fun d x h => ?_) _ _ ?_ <;> (try dsimp only))))))

theorem execDelayFire_memOk (g : Fin 26) (s : State) (hm : Memory.wf s.dev.mem = true) : Outc.memOk (execDelayFire g s) := by
  refine go_memOk _ _ (fun d h => ?_) hm
  simp (maxDischargeDepth := 40) [h]

theorem execJobVoid_memOk (g : Fin 26) (slot : Fin 2048) (s : State) (hm : Memory.wf s.dev.mem = true) : Outc.memOk (execJobVoid g slot s) := by
  refine go_memOk _ _ (fun d h => ?_) hm
  simp (maxDischargeDepth := 40) [h]

theorem ite_ok (c : Prop) [Decidable c] (a b : Dev) (ha : Memory.wf a.mem = true) (hb : Memory.wf b.mem = true) :
    Memory.wf (if c then a else b).mem = true := by split <;> assumption
theorem execDispatchTraceDrain_memOk (s : State) (hm : Memory.wf s.dev.mem = true) : Outc.memOk (execDispatchTraceDrain s) := by
  refine go_memOk _ _ (fun d h => ?_) hm
  have hx : ∀ n i wrap rs, Memory.wf (d.ringPut (d.rd R.DR_TRRING F.DR_TRRING_base * 4096) n i wrap rs).2.mem = true := fun n i wrap rs => Dev.ringPut_mem _ _ _ _ _ _ h
  dsimp only
  refine ite_ok _ _ _ h ?_
  rw [Dev.dispTraceAt_mem]
  exact hx _ _ _ _

theorem execLodeHelper_memOk (g : Fin 26) (bad : LodeErr) (s : State) (hm : Memory.wf s.dev.mem = true) : Outc.memOk (execLodeHelper g bad s) := by
  refine go_memOk _ _ (fun d h => ?_) hm
  (repeat' split) <;> simp (maxDischargeDepth := 40) [h]

theorem execStreamHelper_memOk (g : Fin 26) (s : State) (hm : Memory.wf s.dev.mem = true) : Outc.memOk (execStreamHelper g s) := by
  refine go_memOk _ _ (fun d h => ?_) hm
  (repeat' split) <;> simp (maxDischargeDepth := 40) [h]

theorem execRuleHelper_memOk (g : Fin 26) (s : State) (hm : Memory.wf s.dev.mem = true) : Outc.memOk (execRuleHelper g s) := by
  refine go_memOk _ _ (fun d h => ?_) hm
  (repeat' split) <;> simp (maxDischargeDepth := 40) [h]

theorem execDdrFetch_memOk (g : Fin 26) (s : State) (hm : Memory.wf s.dev.mem = true) : Outc.memOk (execDdrFetch g s) := by
  refine go_memOk _ _ (fun d h => ?_) hm
  (repeat' split) <;> simp (maxDischargeDepth := 40) [h]

theorem execReleaseNodeComplete_memOk (g : Fin 26) (s : State) (hm : Memory.wf s.dev.mem = true) : Outc.memOk (execReleaseNodeComplete g s) := by
  refine go_memOk _ _ (fun d h => ?_) hm
  (repeat' split) <;> simp (maxDischargeDepth := 40) [h]

theorem execHoistRelease_memOk (s : State) (hm : Memory.wf s.dev.mem = true) : Outc.memOk (execHoistRelease s) := by
  refine go_memOk _ _ (fun d h => ?_) hm
  simp (maxDischargeDepth := 40) [h]

theorem execBareVoid_memOk (p : Fin 4) (c7 : Bool) (s : State) (hm : Memory.wf s.dev.mem = true) : Outc.memOk (execBareVoid p c7 s) := by
  refine go_memOk _ _ (fun d h => ?_) hm
  dsimp only; (iterate 3 (all_goals ((repeat' split) <;> (try (rename_i h; have e := snd_eq h; subst e)) <;> (try simp (maxDischargeDepth := 40) +contextual [foldl_ok, foldl_snd_ok, foldl_snd2_ok, takenThen_mem, *]) <;> (try (refine foldl_ok _ (fun d x h => ?_) _ _ ?_ <;> (try dsimp only))))))

theorem execReorderLimit_memOk (t : Fin 16384) (s : State) (hm : Memory.wf s.dev.mem = true) : Outc.memOk (execReorderLimit t s) := by
  refine go_memOk _ _ (fun d h => ?_) hm
  simp (maxDischargeDepth := 40) [h]

theorem execHoistReclaim_memOk (g : Fin 26) (s : State) (hm : Memory.wf s.dev.mem = true) : Outc.memOk (execHoistReclaim g s) := by
  refine go_memOk _ _ (fun d h => ?_) hm
  (repeat' split) <;> simp (maxDischargeDepth := 40) [h]

theorem execEnqueueRequest_memOk (s : State) (hm : Memory.wf s.dev.mem = true) : Outc.memOk (execEnqueueRequest s) := by
  refine go_memOk _ _ (fun d h => ?_) hm
  (repeat' split) <;> simp (maxDischargeDepth := 40) [h]

theorem execColumnMove_memOk (col : Fin 12) (s : State) (hm : Memory.wf s.dev.mem = true) : Outc.memOk (execColumnMove col s) := by
  refine go_memOk _ _ (fun d h => ?_) hm
  dsimp only; (iterate 3 (all_goals ((repeat' split) <;> (try (rename_i h; have e := snd_eq h; subst e)) <;> (try simp (maxDischargeDepth := 40) +contextual [foldl_ok, foldl_snd_ok, foldl_snd2_ok, takenThen_mem, *]) <;> (try (refine foldl_ok _ (fun d x h => ?_) _ _ ?_ <;> (try dsimp only))))))

theorem execTransmitOpportunity_memOk (p : Fin 32) (s : State) (hm : Memory.wf s.dev.mem = true) : Outc.memOk (execTransmitOpportunity p s) := by
  refine go_memOk _ _ (fun d h => ?_) hm
  (repeat' split) <;> simp (maxDischargeDepth := 40) [h]

theorem execEgressEdit_memOk (p : Fin 32) (s : State) (hm : Memory.wf s.dev.mem = true) : Outc.memOk (execEgressEdit p s) := by
  refine go_memOk _ _ (fun d h => ?_) hm
  (repeat' split) <;> simp (maxDischargeDepth := 40) [h]

theorem execFrameSent_memOk (p : Fin 32) (s : State) (hm : Memory.wf s.dev.mem = true) : Outc.memOk (execFrameSent p s) := by
  refine go_memOk _ _ (fun d h => ?_) hm
  (repeat' split) <;> simp (maxDischargeDepth := 40) [h]

theorem execCaptureWrite_memOk (s : State) (hm : Memory.wf s.dev.mem = true) : Outc.memOk (execCaptureWrite s) := by
  refine go_memOk _ _ (fun d h => ?_) hm
  (repeat' split) <;> simp (maxDischargeDepth := 40) [h]

theorem execHoldWindowEnd_memOk (p : Fin 32) (s : State) (hm : Memory.wf s.dev.mem = true) : Outc.memOk (execHoldWindowEnd p s) := by
  refine go_memOk _ _ (fun d h => ?_) hm
  (repeat' split) <;> simp (maxDischargeDepth := 40) [h]

theorem execXcPlmapWrite_memOk (src : Src) (v : Word64) (s : State) (hm : Memory.wf s.dev.mem = true) : Outc.memOk (execXcPlmapWrite src v s) := by
  refine go_memOk _ _ (fun d h => ?_) hm
  simp (maxDischargeDepth := 40) [h]

theorem execPlaneMoveDone_memOk (e : Fin 64) (s : State) (hm : Memory.wf s.dev.mem = true) : Outc.memOk (execPlaneMoveDone e s) := by
  refine go_memOk _ _ (fun d h => ?_) hm
  simp (maxDischargeDepth := 40) [h]

theorem execThresholdTune_memOk (s : State) (hm : Memory.wf s.dev.mem = true) : Outc.memOk (execThresholdTune s) := by
  refine go_memOk _ _ (fun d h => ?_) hm
  simp (maxDischargeDepth := 40) [h]

theorem execAlloc_memOk (h : Nat) (s : State) (hm : Memory.wf s.dev.mem = true) : Outc.memOk (execAlloc h s) := by
  refine go_memOk _ _ (fun d h => ?_) hm
  simp (maxDischargeDepth := 40) [h]

theorem execReserve_memOk (row : Fin 12) (tag : Fin 1048576) (n : Nat) (cls7 : Bool) (s : State) (hm : Memory.wf s.dev.mem = true) : Outc.memOk (execReserve row tag n cls7 s) := by
  refine go_memOk _ _ (fun d h => ?_) hm
  simp (maxDischargeDepth := 40) [h]

theorem execTake_memOk (row : Fin 12) (tag : Fin 1048576) (s : State) (hm : Memory.wf s.dev.mem = true) : Outc.memOk (execTake row tag s) := by
  refine go_memOk _ _ (fun d h => ?_) hm
  simp (maxDischargeDepth := 40) [h]

theorem execUnreserve_memOk (row : Fin 12) (tag : Fin 1048576) (n : Nat) (s : State) (hm : Memory.wf s.dev.mem = true) : Outc.memOk (execUnreserve row tag n s) := by
  refine go_memOk _ _ (fun d h => ?_) hm
  simp (maxDischargeDepth := 40) [h]

theorem execXfer_memOk (ptr : Fin 16777216) (old new : Fin 1048576) (s : State) (hm : Memory.wf s.dev.mem = true) : Outc.memOk (execXfer ptr old new s) := by
  refine go_memOk _ _ (fun d h => ?_) hm
  simp (maxDischargeDepth := 40) [h]

theorem execAppend_memOk (ptr hdr : Fin 16777216) (s : State) (hm : Memory.wf s.dev.mem = true) : Outc.memOk (execAppend ptr hdr s) := by
  refine go_memOk _ _ (fun d h => ?_) hm
  simp (maxDischargeDepth := 40) [h]

theorem execSetref_memOk (ptr : Fin 16777216) (tag : Fin 1048576) (k : Fin 256) (s : State) (hm : Memory.wf s.dev.mem = true) : Outc.memOk (execSetref ptr tag k s) := by
  refine go_memOk _ _ (fun d h => ?_) hm
  simp (maxDischargeDepth := 40) [h]

theorem execAddref_memOk (ptr : Fin 16777216) (s : State) (hm : Memory.wf s.dev.mem = true) : Outc.memOk (execAddref ptr s) := by
  refine go_memOk _ _ (fun d h => ?_) hm
  simp (maxDischargeDepth := 40) [h]

theorem execDropref_memOk (ptr : Fin 16777216) (s : State) (hm : Memory.wf s.dev.mem = true) : Outc.memOk (execDropref ptr s) := by
  refine go_memOk _ _ (fun d h => ?_) hm
  simp (maxDischargeDepth := 40) [h]

theorem execFree_memOk (ptr : Fin 16777216) (tag : Fin 1048576) (s : State) (hm : Memory.wf s.dev.mem = true) : Outc.memOk (execFree ptr tag s) := by
  refine go_memOk _ _ (fun d h => ?_) hm
  simp (maxDischargeDepth := 40) [h]

theorem execBinReclaimScan_memOk (p : Party) (s : State) (hm : Memory.wf s.dev.mem = true) : Outc.memOk (execBinReclaimScan p s) := by
  refine go_memOk _ _ (fun d h => ?_) hm
  (repeat' split) <;> simp (maxDischargeDepth := 40) [h]

theorem execFreeListRebuildDone_memOk (row : Fin 12) (s : State) (hm : Memory.wf s.dev.mem = true) : Outc.memOk (execFreeListRebuildDone row s) := by
  refine go_memOk _ _ (fun d h => ?_) hm
  simp (maxDischargeDepth := 40) [h]

theorem execConservationCheck_memOk (bad : Bool) (s : State) (hm : Memory.wf s.dev.mem = true) : Outc.memOk (execConservationCheck bad s) := by
  refine go_memOk _ _ (fun d h => ?_) hm
  (repeat' split) <;> simp (maxDischargeDepth := 40) [h]

theorem execGlGencmdGo_memOk (src : Src) (g : Fin 26) (v : Word64) (s : State) (hm : Memory.wf s.dev.mem = true) : Outc.memOk (execGlGencmdGo src g v s) := by
  refine go_memOk _ _ (fun d h => ?_) hm
  simp (maxDischargeDepth := 40) [h]

theorem execGeneratorCopyDone_memOk (g : Fin 26) (s : State) (hm : Memory.wf s.dev.mem = true) : Outc.memOk (execGeneratorCopyDone g s) := by
  refine go_memOk _ _ (fun d h => ?_) hm
  simp (maxDischargeDepth := 40) [h]

theorem execPtPcfgWrite_memOk (src : Src) (p : Fin 32) (v : Word32) (s : State) (hm : Memory.wf s.dev.mem = true) : Outc.memOk (execPtPcfgWrite src p v s) := by
  refine go_memOk _ _ (fun d h => ?_) hm
  simp (maxDischargeDepth := 40) [h]

theorem execLinkLoss_memOk (p : Fin 32) (lock loc rem : Bool) (s : State) (hm : Memory.wf s.dev.mem = true) : Outc.memOk (execLinkLoss p lock loc rem s) := by
  refine go_memOk _ _ (fun d h => ?_) hm
  dsimp only; (iterate 3 (all_goals ((repeat' split) <;> (try (rename_i h; have e := snd_eq h; subst e)) <;> (try simp (maxDischargeDepth := 40) +contextual [foldl_ok, foldl_snd_ok, foldl_snd2_ok, takenThen_mem, *]) <;> (try (refine foldl_ok _ (fun d x h => ?_) _ _ ?_ <;> (try dsimp only))))))

theorem execLinkConditionClears_memOk (p : Fin 32) (s : State) (hm : Memory.wf s.dev.mem = true) : Outc.memOk (execLinkConditionClears p s) := by
  refine go_memOk _ _ (fun d h => ?_) hm
  simp (maxDischargeDepth := 40) [h]

theorem execDebounceExpiry_memOk (p : Fin 32) (s : State) (hm : Memory.wf s.dev.mem = true) : Outc.memOk (execDebounceExpiry p s) := by
  refine go_memOk _ _ (fun d h => ?_) hm
  (repeat' split) <;> simp (maxDischargeDepth := 40) [h]

theorem execLinkUp_memOk (p : Fin 32) (s : State) (hm : Memory.wf s.dev.mem = true) : Outc.memOk (execLinkUp p s) := by
  refine go_memOk _ _ (fun d h => ?_) hm
  (repeat' split) <;> simp (maxDischargeDepth := 40) [h]

theorem execLinkFaultSignalled_memOk (p : Fin 32) (loc rem : Bool) (s : State) (hm : Memory.wf s.dev.mem = true) : Outc.memOk (execLinkFaultSignalled p loc rem s) := by
  refine go_memOk _ _ (fun d h => ?_) hm
  simp (maxDischargeDepth := 40) [h]

theorem execFaultClear_memOk (p : Fin 32) (s : State) (hm : Memory.wf s.dev.mem = true) : Outc.memOk (execFaultClear p s) := by
  refine go_memOk _ _ (fun d h => ?_) hm
  (repeat' split) <;> simp (maxDischargeDepth := 40) [h]

theorem execLockLost_memOk (p : Fin 32) (s : State) (hm : Memory.wf s.dev.mem = true) : Outc.memOk (execLockLost p s) := by
  refine go_memOk _ _ (fun d h => ?_) hm
  (repeat' split) <;> simp (maxDischargeDepth := 40) [h]

theorem execTsCalDone_memOk (p : Fin 32) (s : State) (hm : Memory.wf s.dev.mem = true) : Outc.memOk (execTsCalDone p s) := by
  refine go_memOk _ _ (fun d h => ?_) hm
  simp (maxDischargeDepth := 40) [h]

theorem execPauseFrameRx_memOk (p : Fin 32) (pfc : Bool) (hold release : Fin 256) (s : State) (hm : Memory.wf s.dev.mem = true) : Outc.memOk (execPauseFrameRx p pfc hold release s) := by
  refine go_memOk _ _ (fun d h => ?_) hm
  simp (maxDischargeDepth := 40) [h]

theorem execPauseRefresh_memOk (row : Fin 8) (s : State) (hm : Memory.wf s.dev.mem = true) : Outc.memOk (execPauseRefresh row s) := by
  refine go_memOk _ _ (fun d h => ?_) hm
  simp (maxDischargeDepth := 40) [h]

theorem execPauseWatchdog_memOk (p : Fin 32) (q : Fin 8) (s : State) (hm : Memory.wf s.dev.mem = true) : Outc.memOk (execPauseWatchdog p q s) := by
  refine go_memOk _ _ (fun d h => ?_) hm
  dsimp only; (iterate 3 (all_goals ((repeat' split) <;> (try (rename_i h; have e := snd_eq h; subst e)) <;> (try simp (maxDischargeDepth := 40) +contextual [foldl_ok, foldl_snd_ok, foldl_snd2_ok, takenThen_mem, *]) <;> (try (refine foldl_ok _ (fun d x h => ?_) _ _ ?_ <;> (try dsimp only))))))

theorem execWatchdogDiscardEnd_memOk (p : Fin 32) (q : Fin 8) (s : State) (hm : Memory.wf s.dev.mem = true) : Outc.memOk (execWatchdogDiscardEnd p q s) := by
  refine go_memOk _ _ (fun d h => ?_) hm
  simp (maxDischargeDepth := 40) [h]

theorem execPtGclctlCommit_memOk (src : Src) (p : Fin 32) (cycle : Word32) (length : Fin 2048) (s : State) (hm : Memory.wf s.dev.mem = true) : Outc.memOk (execPtGclctlCommit src p cycle length s) := by
  refine go_memOk _ _ (fun d h => ?_) hm
  simp (maxDischargeDepth := 40) [h]

theorem execGateChangeover_memOk (p : Fin 32) (s : State) (hm : Memory.wf s.dev.mem = true) : Outc.memOk (execGateChangeover p s) := by
  refine go_memOk _ _ (fun d h => ?_) hm
  dsimp only; (iterate 3 (all_goals ((repeat' split) <;> (try (rename_i h; have e := snd_eq h; subst e)) <;> (try simp (maxDischargeDepth := 40) +contextual [foldl_ok, foldl_snd_ok, foldl_snd2_ok, takenThen_mem, *]) <;> (try (refine foldl_ok _ (fun d x h => ?_) _ _ ?_ <;> (try dsimp only))))))

theorem execGateEntryBoundary_memOk (p : Fin 32) (s : State) (hm : Memory.wf s.dev.mem = true) : Outc.memOk (execGateEntryBoundary p s) := by
  refine go_memOk _ _ (fun d h => ?_) hm
  dsimp only; (iterate 3 (all_goals ((repeat' split) <;> (try (rename_i h; have e := snd_eq h; subst e)) <;> (try simp (maxDischargeDepth := 40) +contextual [foldl_ok, foldl_snd_ok, foldl_snd2_ok, takenThen_mem, *]) <;> (try (refine foldl_ok _ (fun d x h => ?_) _ _ ?_ <;> (try dsimp only))))))

theorem execPrpSupervisionSend_memOk (p : Fin 32) (s : State) (hm : Memory.wf s.dev.mem = true) : Outc.memOk (execPrpSupervisionSend p s) := by
  refine go_memOk _ _ (fun d h => ?_) hm
  dsimp only; (iterate 3 (all_goals ((repeat' split) <;> (try (rename_i h; have e := snd_eq h; subst e)) <;> (try simp (maxDischargeDepth := 40) +contextual [foldl_ok, foldl_snd_ok, foldl_snd2_ok, takenThen_mem, *]) <;> (try (refine foldl_ok _ (fun d x h => ?_) _ _ ?_ <;> (try dsimp only))))))

theorem execCrossingToken_memOk (isl : Fin 100) (bad : Bool) (s : State) (hm : Memory.wf s.dev.mem = true) : Outc.memOk (execCrossingToken isl bad s) := by
  refine go_memOk _ _ (fun d h => ?_) hm
  dsimp only; (iterate 3 (all_goals ((repeat' split) <;> (try (rename_i h; have e := snd_eq h; subst e)) <;> (try simp (maxDischargeDepth := 40) +contextual [foldl_ok, foldl_snd_ok, foldl_snd2_ok, takenThen_mem, *]) <;> (try (refine foldl_ok _ (fun d x h => ?_) _ _ ?_ <;> (try dsimp only))))))

theorem execIslandClockRestart_memOk (isl : Fin 100) (s : State) (hm : Memory.wf s.dev.mem = true) : Outc.memOk (execIslandClockRestart isl s) := by
  refine go_memOk _ _ (fun d h => ?_) hm
  simp (maxDischargeDepth := 40) [h]

theorem execRefMeasurement_memOk (b : Fin 2) (ok : Bool) (s : State) (hm : Memory.wf s.dev.mem = true) : Outc.memOk (execRefMeasurement b ok s) := by
  refine go_memOk _ _ (fun d h => ?_) hm
  simp (maxDischargeDepth := 40) [h]

theorem execRefEdgeLoss_memOk (b : Fin 2) (s : State) (hm : Memory.wf s.dev.mem = true) : Outc.memOk (execRefEdgeLoss b s) := by
  refine go_memOk _ _ (fun d h => ?_) hm
  simp (maxDischargeDepth := 40) [h]

theorem execRefRevert_memOk (s : State) (hm : Memory.wf s.dev.mem = true) : Outc.memOk (execRefRevert s) := by
  refine go_memOk _ _ (fun d h => ?_) hm
  (repeat' split) <;> simp (maxDischargeDepth := 40) [h]

theorem execPpsInEdge_memOk (wide : Bool) (s : State) (hm : Memory.wf s.dev.mem = true) : Outc.memOk (execPpsInEdge wide s) := by
  refine go_memOk _ _ (fun d h => ?_) hm
  dsimp only; (iterate 3 (all_goals ((repeat' split) <;> (try (rename_i h; have e := snd_eq h; subst e)) <;> (try simp (maxDischargeDepth := 40) +contextual [foldl_ok, foldl_snd_ok, foldl_snd2_ok, takenThen_mem, *]) <;> (try (refine foldl_ok _ (fun d x h => ?_) _ _ ?_ <;> (try dsimp only))))))

theorem execPpsInLoss_memOk (s : State) (hm : Memory.wf s.dev.mem = true) : Outc.memOk (execPpsInLoss s) := by
  refine go_memOk _ _ (fun d h => ?_) hm
  simp (maxDischargeDepth := 40) [h]

theorem execIrigFrame_memOk (soy : Nat) (year : Option Nat) (ext : Option (BitVec 16 × Fin 3 × BitVec 32 × BitVec 4)) (s : State) (hm : Memory.wf s.dev.mem = true) : Outc.memOk (execIrigFrame soy year ext s) := by
  refine go_memOk _ _ (fun d h => ?_) hm
  dsimp only; (iterate 3 (all_goals ((repeat' split) <;> (try (rename_i h; have e := snd_eq h; subst e)) <;> (try simp (maxDischargeDepth := 40) +contextual [foldl_ok, foldl_snd_ok, foldl_snd2_ok, takenThen_mem, *]) <;> (try (refine foldl_ok _ (fun d x h => ?_) _ _ ?_ <;> (try dsimp only))))))

theorem execIrigMissing_memOk (s : State) (hm : Memory.wf s.dev.mem = true) : Outc.memOk (execIrigMissing s) := by
  refine go_memOk _ _ (fun d h => ?_) hm
  simp (maxDischargeDepth := 40) [h]

theorem execPtpMeasurement_memOk (off : BitVec 64) (late stale : Bool) (ann : Option (BitVec 16 × Fin 3 × BitVec 32)) (s : State) (hm : Memory.wf s.dev.mem = true) : Outc.memOk (execPtpMeasurement off late stale ann s) := by
  refine go_memOk _ _ (fun d h => ?_) hm
  (repeat' split) <;> simp (maxDischargeDepth := 40) [h]

theorem execPtpTimeout_memOk (s : State) (hm : Memory.wf s.dev.mem = true) : Outc.memOk (execPtpTimeout s) := by
  refine go_memOk _ _ (fun d h => ?_) hm
  simp (maxDischargeDepth := 40) [h]

theorem execHoldValidSet_memOk (s : State) (hm : Memory.wf s.dev.mem = true) : Outc.memOk (execHoldValidSet s) := by
  refine go_memOk _ _ (fun d h => ?_) hm
  simp (maxDischargeDepth := 40) [h]

theorem execHoldoverExpiry_memOk (s : State) (hm : Memory.wf s.dev.mem = true) : Outc.memOk (execHoldoverExpiry s) := by
  refine go_memOk _ _ (fun d h => ?_) hm
  simp (maxDischargeDepth := 40) [h]

theorem execOvenReady_memOk (s : State) (hm : Memory.wf s.dev.mem = true) : Outc.memOk (execOvenReady s) := by
  refine go_memOk _ _ (fun d h => ?_) hm
  simp (maxDischargeDepth := 40) [h]

theorem execTbCtlWrite_memOk (src : Src) (v : Word32) (s : State) (hm : Memory.wf s.dev.mem = true) : Outc.memOk (execTbCtlWrite src v s) := by
  refine go_memOk _ _ (fun d h => ?_) hm
  simp (maxDischargeDepth := 40) [h]

theorem execTbStepWrite_memOk (src : Src) (v : Word64) (s : State) (hm : Memory.wf s.dev.mem = true) : Outc.memOk (execTbStepWrite src v s) := by
  refine go_memOk _ _ (fun d h => ?_) hm
  simp (maxDischargeDepth := 40) [h]

theorem execStepTakesEffect_memOk (s : State) (hm : Memory.wf s.dev.mem = true) : Outc.memOk (execStepTakesEffect s) := by
  refine go_memOk _ _ (fun d h => ?_) hm
  dsimp only; (iterate 3 (all_goals ((repeat' split) <;> (try (rename_i h; have e := snd_eq h; subst e)) <;> (try simp (maxDischargeDepth := 40) +contextual [foldl_ok, foldl_snd_ok, foldl_snd2_ok, takenThen_mem, *]) <;> (try (refine foldl_ok _ (fun d x h => ?_) _ _ ?_ <;> (try dsimp only))))))

theorem execTbFreqWrite_memOk (src : Src) (v : Word32) (s : State) (hm : Memory.wf s.dev.mem = true) : Outc.memOk (execTbFreqWrite src v s) := by
  refine go_memOk _ _ (fun d h => ?_) hm
  simp (maxDischargeDepth := 40) [h]

theorem execTbUtcWrite_memOk (src : Src) (v : Word64) (s : State) (hm : Memory.wf s.dev.mem = true) : Outc.memOk (execTbUtcWrite src v s) := by
  refine go_memOk _ _ (fun d h => ?_) hm
  simp (maxDischargeDepth := 40) [h]

theorem execLeapTakesEffect_memOk (s : State) (hm : Memory.wf s.dev.mem = true) : Outc.memOk (execLeapTakesEffect s) := by
  refine go_memOk _ _ (fun d h => ?_) hm
  simp (maxDischargeDepth := 40) [h]

theorem execTickChange_memOk (s : State) (hm : Memory.wf s.dev.mem = true) : Outc.memOk (execTickChange s) := by
  refine go_memOk _ _ (fun d h => ?_) hm
  (repeat' split) <;> simp (maxDischargeDepth := 40) [h]

theorem execPpsOutRise_memOk (s : State) (hm : Memory.wf s.dev.mem = true) : Outc.memOk (execPpsOutRise s) := by
  refine go_memOk _ _ (fun d h => ?_) hm
  simp (maxDischargeDepth := 40) [h]

theorem execPpsOutFall_memOk (s : State) (hm : Memory.wf s.dev.mem = true) : Outc.memOk (execPpsOutFall s) := by
  intro t ht
  cases ht
  dsimp only
  generalize s.dev.tb.ppsRise + _ = x
  split
  · simpa using hm
  · exact hm

theorem execDvfsComplete_memOk (g : Fin 26) (s : State) (hm : Memory.wf s.dev.mem = true) : Outc.memOk (execDvfsComplete g s) := by
  refine go_memOk _ _ (fun d h => ?_) hm
  (repeat' split) <;> simp (maxDischargeDepth := 40) [h]

theorem execInterruptLatch_memOk (k : Fin 1664) (s : State) (hm : Memory.wf s.dev.mem = true) : Outc.memOk (execInterruptLatch k s) := by
  refine go_memOk _ _ (fun d h => ?_) hm
  (repeat' split) <;> simp (maxDischargeDepth := 40) [h]

theorem execSupTimeout_memOk (g : Fin 26) (s : State) (hm : Memory.wf s.dev.mem = true) : Outc.memOk (execSupTimeout g s) := by
  refine go_memOk _ _ (fun d h => ?_) hm
  (repeat' split) <;> simp (maxDischargeDepth := 40) [h]

theorem execGlTctlRst_memOk (src : Src) (g : Fin 26) (c t : Fin 8) (s : State) (hm : Memory.wf s.dev.mem = true) : Outc.memOk (execGlTctlRst src g c t s) := by
  refine go_memOk _ _ (fun d h => ?_) hm
  simp (maxDischargeDepth := 40) [h]

theorem execGlTctlKill_memOk (src : Src) (g : Fin 26) (c t : Fin 8) (s : State) (hm : Memory.wf s.dev.mem = true) : Outc.memOk (execGlTctlKill src g c t s) := by
  refine go_memOk _ _ (fun d h => ?_) hm
  simp (maxDischargeDepth := 40) [h]

theorem execGlCtlCoreRst_memOk (src : Src) (g : Fin 26) (mask : Fin 256) (s : State) (hm : Memory.wf s.dev.mem = true) : Outc.memOk (execGlCtlCoreRst src g mask s) := by
  refine go_memOk _ _ (fun d h => ?_) hm
  simp (maxDischargeDepth := 40) [h]

theorem execGlCtlGalRst_memOk (src : Src) (g : Fin 26) (s : State) (hm : Memory.wf s.dev.mem = true) : Outc.memOk (execGlCtlGalRst src g s) := by
  refine go_memOk _ _ (fun d h => ?_) hm
  simp (maxDischargeDepth := 40) [h]

theorem execGalleryResetDone_memOk (g : Fin 26) (s : State) (hm : Memory.wf s.dev.mem = true) : Outc.memOk (execGalleryResetDone g s) := by
  refine go_memOk _ _ (fun d h => ?_) hm
  simp (maxDischargeDepth := 40) [h]

theorem execGlCtlSupRun_memOk (src : Src) (g : Fin 26) (s : State) (hm : Memory.wf s.dev.mem = true) : Outc.memOk (execGlCtlSupRun src g s) := by
  refine go_memOk _ _ (fun d h => ?_) hm
  simp (maxDischargeDepth := 40) [h]

theorem execGlTsoft_memOk (src : Src) (g : Fin 26) (thread : Fin 64) (s : State) (hm : Memory.wf s.dev.mem = true) : Outc.memOk (execGlTsoft src g thread s) := by
  refine go_memOk _ _ (fun d h => ?_) hm
  simp (maxDischargeDepth := 40) [h]

theorem execGlRosectlCommit_memOk (src : Src) (g : Fin 26) (c : Fin 8) (s : State) (hm : Memory.wf s.dev.mem = true) : Outc.memOk (execGlRosectlCommit src g c s) := by
  refine go_memOk _ _ (fun d h => ?_) hm
  simp (maxDischargeDepth := 40) [h]

theorem execRoseChangeover_memOk (g : Fin 26) (c : Fin 8) (s : State) (hm : Memory.wf s.dev.mem = true) : Outc.memOk (execRoseChangeover g c s) := by
  refine go_memOk _ _ (fun d h => ?_) hm
  simp (maxDischargeDepth := 40) [h]

theorem execAdd_memOk (k : Fin 1664) (dst src : Fin 16) (s : State) (hm : Memory.wf s.dev.mem = true) : Outc.memOk (execAdd k dst src s) := by
  refine go_memOk _ _ (fun d h => ?_) hm
  simp (maxDischargeDepth := 40) [h]

theorem execSub_memOk (k : Fin 1664) (dst src : Fin 16) (s : State) (hm : Memory.wf s.dev.mem = true) : Outc.memOk (execSub k dst src s) := by
  refine go_memOk _ _ (fun d h => ?_) hm
  simp (maxDischargeDepth := 40) [h]

theorem execAndR_memOk (k : Fin 1664) (dst src : Fin 16) (s : State) (hm : Memory.wf s.dev.mem = true) : Outc.memOk (execAndR k dst src s) := by
  refine go_memOk _ _ (fun d h => ?_) hm
  simp (maxDischargeDepth := 40) [h]

theorem execOrR_memOk (k : Fin 1664) (dst src : Fin 16) (s : State) (hm : Memory.wf s.dev.mem = true) : Outc.memOk (execOrR k dst src s) := by
  refine go_memOk _ _ (fun d h => ?_) hm
  simp (maxDischargeDepth := 40) [h]

theorem execXorR_memOk (k : Fin 1664) (dst src : Fin 16) (s : State) (hm : Memory.wf s.dev.mem = true) : Outc.memOk (execXorR k dst src s) := by
  refine go_memOk _ _ (fun d h => ?_) hm
  simp (maxDischargeDepth := 40) [h]

theorem execMov_memOk (k : Fin 1664) (dst src : Fin 16) (s : State) (hm : Memory.wf s.dev.mem = true) : Outc.memOk (execMov k dst src s) := by
  refine go_memOk _ _ (fun d h => ?_) hm
  simp (maxDischargeDepth := 40) [h]

theorem execAdc_memOk (k : Fin 1664) (dst src : Fin 16) (s : State) (hm : Memory.wf s.dev.mem = true) : Outc.memOk (execAdc k dst src s) := by
  refine go_memOk _ _ (fun d h => ?_) hm
  simp (maxDischargeDepth := 40) [h]

theorem execSbc_memOk (k : Fin 1664) (dst src : Fin 16) (s : State) (hm : Memory.wf s.dev.mem = true) : Outc.memOk (execSbc k dst src s) := by
  refine go_memOk _ _ (fun d h => ?_) hm
  simp (maxDischargeDepth := 40) [h]

theorem execCmp_memOk (k : Fin 1664) (dst src : Fin 16) (s : State) (hm : Memory.wf s.dev.mem = true) : Outc.memOk (execCmp k dst src s) := by
  refine go_memOk _ _ (fun d h => ?_) hm
  simp (maxDischargeDepth := 40) [h]

theorem execTst_memOk (k : Fin 1664) (dst src : Fin 16) (s : State) (hm : Memory.wf s.dev.mem = true) : Outc.memOk (execTst k dst src s) := by
  refine go_memOk _ _ (fun d h => ?_) hm
  simp (maxDischargeDepth := 40) [h]

theorem execMul_memOk (k : Fin 1664) (dst src : Fin 16) (s : State) (hm : Memory.wf s.dev.mem = true) : Outc.memOk (execMul k dst src s) := by
  refine go_memOk _ _ (fun d h => ?_) hm
  simp (maxDischargeDepth := 40) [h]

theorem execMulh_memOk (k : Fin 1664) (dst src : Fin 16) (s : State) (hm : Memory.wf s.dev.mem = true) : Outc.memOk (execMulh k dst src s) := by
  refine go_memOk _ _ (fun d h => ?_) hm
  simp (maxDischargeDepth := 40) [h]

theorem execMulhu_memOk (k : Fin 1664) (dst src : Fin 16) (s : State) (hm : Memory.wf s.dev.mem = true) : Outc.memOk (execMulhu k dst src s) := by
  refine go_memOk _ _ (fun d h => ?_) hm
  simp (maxDischargeDepth := 40) [h]

theorem execShl_memOk (k : Fin 1664) (dst src : Fin 16) (s : State) (hm : Memory.wf s.dev.mem = true) : Outc.memOk (execShl k dst src s) := by
  refine go_memOk _ _ (fun d h => ?_) hm
  simp (maxDischargeDepth := 40) [h]

theorem execShr_memOk (k : Fin 1664) (dst src : Fin 16) (s : State) (hm : Memory.wf s.dev.mem = true) : Outc.memOk (execShr k dst src s) := by
  refine go_memOk _ _ (fun d h => ?_) hm
  simp (maxDischargeDepth := 40) [h]

theorem execSar_memOk (k : Fin 1664) (dst src : Fin 16) (s : State) (hm : Memory.wf s.dev.mem = true) : Outc.memOk (execSar k dst src s) := by
  refine go_memOk _ _ (fun d h => ?_) hm
  simp (maxDischargeDepth := 40) [h]

theorem execRor_memOk (k : Fin 1664) (dst src : Fin 16) (s : State) (hm : Memory.wf s.dev.mem = true) : Outc.memOk (execRor k dst src s) := by
  refine go_memOk _ _ (fun d h => ?_) hm
  simp (maxDischargeDepth := 40) [h]

theorem execAddi_memOk (k : Fin 1664) (dst : Fin 16) (imm : Fin 64) (s : State) (hm : Memory.wf s.dev.mem = true) : Outc.memOk (execAddi k dst imm s) := by
  refine go_memOk _ _ (fun d h => ?_) hm
  simp (maxDischargeDepth := 40) [h]

theorem execMovi_memOk (k : Fin 1664) (dst : Fin 16) (imm : Fin 64) (s : State) (hm : Memory.wf s.dev.mem = true) : Outc.memOk (execMovi k dst imm s) := by
  refine go_memOk _ _ (fun d h => ?_) hm
  simp (maxDischargeDepth := 40) [h]

theorem execCmpi_memOk (k : Fin 1664) (dst : Fin 16) (imm : Fin 64) (s : State) (hm : Memory.wf s.dev.mem = true) : Outc.memOk (execCmpi k dst imm s) := by
  refine go_memOk _ _ (fun d h => ?_) hm
  simp (maxDischargeDepth := 40) [h]

theorem execShli_memOk (k : Fin 1664) (dst n : Fin 16) (s : State) (hm : Memory.wf s.dev.mem = true) : Outc.memOk (execShli k dst n s) := by
  refine go_memOk _ _ (fun d h => ?_) hm
  simp (maxDischargeDepth := 40) [h]

theorem execShri_memOk (k : Fin 1664) (dst n : Fin 16) (s : State) (hm : Memory.wf s.dev.mem = true) : Outc.memOk (execShri k dst n s) := by
  refine go_memOk _ _ (fun d h => ?_) hm
  simp (maxDischargeDepth := 40) [h]

theorem execSari_memOk (k : Fin 1664) (dst n : Fin 16) (s : State) (hm : Memory.wf s.dev.mem = true) : Outc.memOk (execSari k dst n s) := by
  refine go_memOk _ _ (fun d h => ?_) hm
  simp (maxDischargeDepth := 40) [h]

theorem execRori_memOk (k : Fin 1664) (dst n : Fin 16) (s : State) (hm : Memory.wf s.dev.mem = true) : Outc.memOk (execRori k dst n s) := by
  refine go_memOk _ _ (fun d h => ?_) hm
  simp (maxDischargeDepth := 40) [h]

theorem execLdb_memOk (k : Fin 1664) (dst b : Fin 16) (s : State) (hm : Memory.wf s.dev.mem = true) : Outc.memOk (execLdb k dst b s) := by
  refine go_memOk _ _ (fun d h => ?_) hm
  simp (maxDischargeDepth := 40) [h]

theorem execLdh_memOk (k : Fin 1664) (dst b : Fin 16) (s : State) (hm : Memory.wf s.dev.mem = true) : Outc.memOk (execLdh k dst b s) := by
  refine go_memOk _ _ (fun d h => ?_) hm
  simp (maxDischargeDepth := 40) [h]

theorem execLdw_memOk (k : Fin 1664) (dst b : Fin 16) (s : State) (hm : Memory.wf s.dev.mem = true) : Outc.memOk (execLdw k dst b s) := by
  refine go_memOk _ _ (fun d h => ?_) hm
  simp (maxDischargeDepth := 40) [h]

theorem execLdhs_memOk (k : Fin 1664) (dst b : Fin 16) (s : State) (hm : Memory.wf s.dev.mem = true) : Outc.memOk (execLdhs k dst b s) := by
  refine go_memOk _ _ (fun d h => ?_) hm
  simp (maxDischargeDepth := 40) [h]

theorem execStb_memOk (k : Fin 1664) (src b : Fin 16) (s : State) (hm : Memory.wf s.dev.mem = true) : Outc.memOk (execStb k src b s) := by
  refine go_memOk _ _ (fun d h => ?_) hm
  simp (maxDischargeDepth := 40) [h]

theorem execSth_memOk (k : Fin 1664) (src b : Fin 16) (s : State) (hm : Memory.wf s.dev.mem = true) : Outc.memOk (execSth k src b s) := by
  refine go_memOk _ _ (fun d h => ?_) hm
  simp (maxDischargeDepth := 40) [h]

theorem execStw_memOk (k : Fin 1664) (src b : Fin 16) (s : State) (hm : Memory.wf s.dev.mem = true) : Outc.memOk (execStw k src b s) := by
  refine go_memOk _ _ (fun d h => ?_) hm
  simp (maxDischargeDepth := 40) [h]

theorem execBcc_memOk (k : Fin 1664) (cond : Fin 16) (off : Fin 64) (s : State) (hm : Memory.wf s.dev.mem = true) : Outc.memOk (execBcc k cond off s) := by
  unfold execBcc
  refine go_memOk _ _ (fun d h => ?_) hm
  refine Dev.issue_mem _ _ _ _ _ _ _ _ (fun t e h => ?_) h
  (try dsimp only); (repeat' split) <;> simp [Act.memOk, h] <;> done

theorem execCall_memOk (k : Fin 1664) (off : Fin 512) (s : State) (hm : Memory.wf s.dev.mem = true) : Outc.memOk (execCall k off s) := by
  refine go_memOk _ _ (fun d h => ?_) hm
  refine Dev.issue_mem _ _ _ _ _ _ _ _ (fun t e h => ?_) h
  (try dsimp only); (repeat' split) <;> simp [Act.memOk, h]

theorem execJr_memOk (k : Fin 1664) (src : Fin 16) (s : State) (hm : Memory.wf s.dev.mem = true) : Outc.memOk (execJr k src s) := by
  unfold execJr
  refine go_memOk _ _ (fun d h => ?_) hm
  refine Dev.issue_mem _ _ _ _ _ _ _ _ (fun t e h => ?_) h
  (try dsimp only); (repeat' split) <;> simp [Act.memOk, h] <;> done

theorem execCallr_memOk (k : Fin 1664) (src : Fin 16) (s : State) (hm : Memory.wf s.dev.mem = true) : Outc.memOk (execCallr k src s) := by
  unfold execCallr
  refine go_memOk _ _ (fun d h => ?_) hm
  refine Dev.issue_mem _ _ _ _ _ _ _ _ (fun t e h => ?_) h
  (try dsimp only); (repeat' split) <;> simp [Act.memOk, h] <;> done

theorem execRet_memOk (k : Fin 1664) (s : State) (hm : Memory.wf s.dev.mem = true) : Outc.memOk (execRet k s) := by
  unfold execRet
  refine go_memOk _ _ (fun d h => ?_) hm
  refine Dev.issue_mem _ _ _ _ _ _ _ _ (fun t e h => ?_) h
  (try dsimp only); (repeat' split) <;> simp [Act.memOk, h] <;> done

theorem execMfs_memOk (k : Fin 1664) (dst num : Fin 16) (s : State) (hm : Memory.wf s.dev.mem = true) : Outc.memOk (execMfs k dst num s) := by
  unfold execMfs
  refine go_memOk _ _ (fun d h => ?_) hm
  refine Dev.issue_mem _ _ _ _ _ _ _ _ (fun t e h => ?_) h
  (try dsimp only); (repeat' split) <;> simp [Act.memOk, h] <;> done

theorem execMts_memOk (k : Fin 1664) (num src : Fin 16) (s : State) (hm : Memory.wf s.dev.mem = true) : Outc.memOk (execMts k num src s) := by
  refine go_memOk _ _ (fun d h => ?_) hm
  refine Dev.issue_mem _ _ _ _ _ _ _ _ (fun t e h => ?_) h
  (try dsimp only); (repeat' split) <;> simp [Act.memOk, h]

theorem execNop_memOk (k : Fin 1664) (s : State) (hm : Memory.wf s.dev.mem = true) : Outc.memOk (execNop k s) := by
  unfold execNop
  refine go_memOk _ _ (fun d h => ?_) hm
  refine Dev.issue_mem _ _ _ _ _ _ _ _ (fun t e h => ?_) h
  (try dsimp only); (repeat' split) <;> simp [Act.memOk, h] <;> done

theorem execEndNode_memOk (k : Fin 1664) (s : State) (hm : Memory.wf s.dev.mem = true) : Outc.memOk (execEndNode k s) := by
  unfold execEndNode
  refine go_memOk _ _ (fun d h => ?_) hm
  refine Dev.drainCheck_mem _ _ (Dev.issue_mem _ _ _ _ _ _ _ _ (fun t e h => ?_) h)
  simp [Act.memOk, h]

theorem execRti_memOk (k : Fin 1664) (s : State) (hm : Memory.wf s.dev.mem = true) : Outc.memOk (execRti k s) := by
  refine go_memOk _ _ (fun d h => ?_) hm
  refine Dev.issue_mem _ _ _ _ _ _ _ _ (fun t e h => ?_) h
  (try dsimp only); (repeat' split) <;> simp [Act.memOk, h]

theorem execFence_memOk (k : Fin 1664) (s : State) (hm : Memory.wf s.dev.mem = true) : Outc.memOk (execFence k s) := by
  unfold execFence
  refine go_memOk _ _ (fun d h => ?_) hm
  refine Dev.drainCheck_mem _ _ (Dev.issue_mem _ _ _ _ _ _ _ _ (fun t e h => ?_) h)
  simp [Act.memOk, h]

theorem execBrk_memOk (k : Fin 1664) (s : State) (hm : Memory.wf s.dev.mem = true) : Outc.memOk (execBrk k s) := by
  unfold execBrk
  refine go_memOk _ _ (fun d h => ?_) hm
  refine Dev.issue_mem _ _ _ _ _ _ _ _ (fun t e h => ?_) h
  (try dsimp only); (repeat' split) <;> simp [Act.memOk, h] <;> done

theorem execNotR_memOk (k : Fin 1664) (r : Fin 16) (s : State) (hm : Memory.wf s.dev.mem = true) : Outc.memOk (execNotR k r s) := by
  refine go_memOk _ _ (fun d h => ?_) hm
  simp (maxDischargeDepth := 40) [h]

theorem execNeg_memOk (k : Fin 1664) (r : Fin 16) (s : State) (hm : Memory.wf s.dev.mem = true) : Outc.memOk (execNeg k r s) := by
  refine go_memOk _ _ (fun d h => ?_) hm
  simp (maxDischargeDepth := 40) [h]

theorem execClz_memOk (k : Fin 1664) (r : Fin 16) (s : State) (hm : Memory.wf s.dev.mem = true) : Outc.memOk (execClz k r s) := by
  refine go_memOk _ _ (fun d h => ?_) hm
  simp (maxDischargeDepth := 40) [h]

theorem execBswap_memOk (k : Fin 1664) (r : Fin 16) (s : State) (hm : Memory.wf s.dev.mem = true) : Outc.memOk (execBswap k r s) := by
  refine go_memOk _ _ (fun d h => ?_) hm
  simp (maxDischargeDepth := 40) [h]

theorem execSxb_memOk (k : Fin 1664) (r : Fin 16) (s : State) (hm : Memory.wf s.dev.mem = true) : Outc.memOk (execSxb k r s) := by
  refine go_memOk _ _ (fun d h => ?_) hm
  simp (maxDischargeDepth := 40) [h]

theorem execSxh_memOk (k : Fin 1664) (r : Fin 16) (s : State) (hm : Memory.wf s.dev.mem = true) : Outc.memOk (execSxh k r s) := by
  refine go_memOk _ _ (fun d h => ?_) hm
  simp (maxDischargeDepth := 40) [h]

theorem execPopc_memOk (k : Fin 1664) (r : Fin 16) (s : State) (hm : Memory.wf s.dev.mem = true) : Outc.memOk (execPopc k r s) := by
  refine go_memOk _ _ (fun d h => ?_) hm
  simp (maxDischargeDepth := 40) [h]

theorem execImw_memOk (k : Fin 1664) (a b : Fin 16) (s : State) (hm : Memory.wf s.dev.mem = true) : Outc.memOk (execImw k a b s) := by
  refine go_memOk _ _ (fun d h => ?_) hm
  refine Dev.issue_mem _ _ _ _ _ _ _ _ (fun t e h => ?_) h
  (try dsimp only); (repeat' split) <;> simp [Act.memOk, h]

theorem execMinR_memOk (k : Fin 1664) (dst src : Fin 16) (s : State) (hm : Memory.wf s.dev.mem = true) : Outc.memOk (execMinR k dst src s) := by
  refine go_memOk _ _ (fun d h => ?_) hm
  simp (maxDischargeDepth := 40) [h]

theorem execMaxR_memOk (k : Fin 1664) (dst src : Fin 16) (s : State) (hm : Memory.wf s.dev.mem = true) : Outc.memOk (execMaxR k dst src s) := by
  refine go_memOk _ _ (fun d h => ?_) hm
  simp (maxDischargeDepth := 40) [h]

theorem execExt_memOk (k : Fin 1664) (imm : Fin 1024) (s : State) (hm : Memory.wf s.dev.mem = true) : Outc.memOk (execExt k imm s) := by
  unfold execExt
  refine go_memOk _ _ (fun d h => ?_) hm
  refine Dev.issue_mem _ _ _ _ _ _ _ _ (fun t e h => ?_) h
  (try dsimp only); (repeat' split) <;> simp [Act.memOk, h] <;> done

theorem execStorePerform_memOk (k : Fin 1664) (s : State) (hm : Memory.wf s.dev.mem = true) : Outc.memOk (execStorePerform k s) := by
  refine go_memOk _ _ (fun d h => ?_) hm
  dsimp only; (iterate 3 (all_goals ((repeat' split) <;> (try (rename_i h; have e := snd_eq h; subst e)) <;> (try simp (maxDischargeDepth := 40) +contextual [foldl_ok, foldl_snd_ok, foldl_snd2_ok, takenThen_mem, *]) <;> (try (refine foldl_ok _ (fun d x h => ?_) _ _ ?_ <;> (try dsimp only))))))

theorem execLongLoadReturn_memOk (k : Fin 1664) (n : Fin 16) (ecc : MemEcc) (s : State) (hm : Memory.wf s.dev.mem = true) : Outc.memOk (execLongLoadReturn k n ecc s) := by
  refine go_memOk _ _ (fun d h => ?_) hm
  dsimp only; (iterate 3 (all_goals ((repeat' split) <;> (try (rename_i h; have e := snd_eq h; subst e)) <;> (try simp (maxDischargeDepth := 40) +contextual [foldl_ok, foldl_snd_ok, foldl_snd2_ok, takenThen_mem, *]) <;> (try (refine foldl_ok _ (fun d x h => ?_) _ _ ?_ <;> (try dsimp only))))))

theorem execLka_memOk (k : Fin 1664) (r : Fin 16) (s : State) (hm : Memory.wf s.dev.mem = true) : Outc.memOk (execLka k r s) := by
  refine go_memOk _ _ (fun d h => ?_) hm
  simp (maxDischargeDepth := 40) [h]

theorem execLkt_memOk (k : Fin 1664) (r : Fin 16) (s : State) (hm : Memory.wf s.dev.mem = true) : Outc.memOk (execLkt k r s) := by
  refine go_memOk _ _ (fun d h => ?_) hm
  simp (maxDischargeDepth := 40) [h]

theorem execLkr_memOk (k : Fin 1664) (r : Fin 16) (s : State) (hm : Memory.wf s.dev.mem = true) : Outc.memOk (execLkr k r s) := by
  refine go_memOk _ _ (fun d h => ?_) hm
  simp (maxDischargeDepth := 40) [h]

theorem execWla_memOk (k : Fin 1664) (r : Fin 16) (s : State) (hm : Memory.wf s.dev.mem = true) : Outc.memOk (execWla k r s) := by
  refine go_memOk _ _ (fun d h => ?_) hm
  simp (maxDischargeDepth := 40) [h]

theorem execWlt_memOk (k : Fin 1664) (r : Fin 16) (s : State) (hm : Memory.wf s.dev.mem = true) : Outc.memOk (execWlt k r s) := by
  refine go_memOk _ _ (fun d h => ?_) hm
  simp (maxDischargeDepth := 40) [h]

theorem execWlr_memOk (k : Fin 1664) (r : Fin 16) (s : State) (hm : Memory.wf s.dev.mem = true) : Outc.memOk (execWlr k r s) := by
  refine go_memOk _ _ (fun d h => ?_) hm
  simp (maxDischargeDepth := 40) [h]

theorem execEvw_memOk (k : Fin 1664) (r : Fin 16) (s : State) (hm : Memory.wf s.dev.mem = true) : Outc.memOk (execEvw k r s) := by
  refine go_memOk _ _ (fun d h => ?_) hm
  simp (maxDischargeDepth := 40) [h]

theorem execEvs_memOk (k : Fin 1664) (r : Fin 16) (s : State) (hm : Memory.wf s.dev.mem = true) : Outc.memOk (execEvs k r s) := by
  refine go_memOk _ _ (fun d h => ?_) hm
  simp (maxDischargeDepth := 40) [h]

theorem execChp_memOk (k : Fin 1664) (r : Fin 16) (s : State) (hm : Memory.wf s.dev.mem = true) : Outc.memOk (execChp k r s) := by
  refine go_memOk _ _ (fun d h => ?_) hm
  simp (maxDischargeDepth := 40) [h]

theorem execChc_memOk (k : Fin 1664) (r : Fin 16) (s : State) (hm : Memory.wf s.dev.mem = true) : Outc.memOk (execChc k r s) := by
  refine go_memOk _ _ (fun d h => ?_) hm
  simp (maxDischargeDepth := 40) [h]

theorem execChg_memOk (k : Fin 1664) (r : Fin 16) (s : State) (hm : Memory.wf s.dev.mem = true) : Outc.memOk (execChg k r s) := by
  refine go_memOk _ _ (fun d h => ?_) hm
  simp (maxDischargeDepth := 40) [h]

theorem execEvwTimeout_memOk (k : Fin 1664) (s : State) (hm : Memory.wf s.dev.mem = true) : Outc.memOk (execEvwTimeout k s) := by
  refine go_memOk _ _ (fun d h => ?_) hm
  (repeat' split) <;> simp (maxDischargeDepth := 40) [h]

theorem execTkFrel_memOk (src : Src) (lock : Fin 4096) (s : State) (hm : Memory.wf s.dev.mem = true) : Outc.memOk (execTkFrel src lock s) := by
  refine go_memOk _ _ (fun d h => ?_) hm
  simp (maxDischargeDepth := 40) [h]

theorem execTkChanWrite_memOk (src : Src) (c : Fin 1024) (v : Word64) (s : State) (hm : Memory.wf s.dev.mem = true) : Outc.memOk (execTkChanWrite src c v s) := by
  refine go_memOk _ _ (fun d h => ?_) hm
  simp (maxDischargeDepth := 40) [h]

theorem execTokenReclaim_memOk (g : Fin 26) (s : State) (hm : Memory.wf s.dev.mem = true) : Outc.memOk (execTokenReclaim g s) := by
  refine go_memOk _ _ (fun d h => ?_) hm
  (repeat' split) <;> simp (maxDischargeDepth := 40) [h]

theorem execDoldrumsFire_memOk (g : Fin 26) (w : Fin 8) (s : State) (hm : Memory.wf s.dev.mem = true) : Outc.memOk (execDoldrumsFire g w s) := by
  refine go_memOk _ _ (fun d h => ?_) hm
  simp (maxDischargeDepth := 40) [h]

theorem execDoldrumsAnswer_memOk (g : Fin 26) (mask : BitVec 8) (s : State) (hm : Memory.wf s.dev.mem = true) : Outc.memOk (execDoldrumsAnswer g mask s) := by
  refine go_memOk _ _ (fun d h => ?_) hm
  simp (maxDischargeDepth := 40) [h]

theorem execDoldrumsEscalate_memOk (g : Fin 26) (w : Fin 8) (s : State) (hm : Memory.wf s.dev.mem = true) : Outc.memOk (execDoldrumsEscalate g w s) := by
  refine go_memOk _ _ (fun d h => ?_) hm
  (repeat' split) <;> simp (maxDischargeDepth := 40) [h]

theorem execSel_memOk (k : Fin 1664) (r : Fin 16) (s : State) (hm : Memory.wf s.dev.mem = true) : Outc.memOk (execSel k r s) := by
  refine go_memOk _ _ (fun d h => ?_) hm
  refine Dev.issue_mem _ _ _ _ _ _ _ _ (fun t e h => ?_) h
  (try dsimp only); (repeat' split) <;> simp [Act.memOk, h]

theorem execAcb_memOk (k : Fin 1664) (r : Fin 16) (s : State) (hm : Memory.wf s.dev.mem = true) : Outc.memOk (execAcb k r s) := by
  unfold execAcb
  refine go_memOk _ _ (fun d h => ?_) hm
  refine Dev.issue_mem _ _ _ _ _ _ _ _ (fun t e h => ?_) h
  (try dsimp only); (repeat' split) <;> simp [Act.memOk, h] <;> done

theorem execAch_memOk (k : Fin 1664) (r : Fin 16) (s : State) (hm : Memory.wf s.dev.mem = true) : Outc.memOk (execAch k r s) := by
  unfold execAch
  refine go_memOk _ _ (fun d h => ?_) hm
  refine Dev.issue_mem _ _ _ _ _ _ _ _ (fun t e h => ?_) h
  (try dsimp only); (repeat' split) <;> simp [Act.memOk, h] <;> done

theorem execAcw_memOk (k : Fin 1664) (r : Fin 16) (s : State) (hm : Memory.wf s.dev.mem = true) : Outc.memOk (execAcw k r s) := by
  unfold execAcw
  refine go_memOk _ _ (fun d h => ?_) hm
  refine Dev.issue_mem _ _ _ _ _ _ _ _ (fun t e h => ?_) h
  (try dsimp only); (repeat' split) <;> simp [Act.memOk, h] <;> done

theorem execAcm_memOk (k : Fin 1664) (r : Fin 16) (s : State) (hm : Memory.wf s.dev.mem = true) : Outc.memOk (execAcm k r s) := by
  refine go_memOk _ _ (fun d h => ?_) hm
  refine Dev.issue_mem _ _ _ _ _ _ _ _ (fun t e h => ?_) h
  (try dsimp only); (repeat' split) <;> simp [Act.memOk, h]

theorem execFin_memOk (k : Fin 1664) (r : Fin 16) (s : State) (hm : Memory.wf s.dev.mem = true) : Outc.memOk (execFin k r s) := by
  unfold execFin
  refine go_memOk _ _ (fun d h => ?_) hm
  refine Dev.issue_mem _ _ _ _ _ _ _ _ (fun t e h => ?_) h
  (try dsimp only); (repeat' split) <;> simp [Act.memOk, h] <;> done

theorem execCsu_memOk (k : Fin 1664) (r : Fin 16) (s : State) (hm : Memory.wf s.dev.mem = true) : Outc.memOk (execCsu k r s) := by
  refine go_memOk _ _ (fun d h => ?_) hm
  refine Dev.issue_mem _ _ _ _ _ _ _ _ (fun t e h => ?_) h
  (try dsimp only); (repeat' split) <;> simp [Act.memOk, h]

theorem execHsh_memOk (k : Fin 1664) (r : Fin 16) (s : State) (hm : Memory.wf s.dev.mem = true) : Outc.memOk (execHsh k r s) := by
  unfold execHsh
  refine go_memOk _ _ (fun d h => ?_) hm
  refine Dev.issue_mem _ _ _ _ _ _ _ _ (fun t e h => ?_) h
  (try dsimp only); (repeat' split) <;> simp [Act.memOk, h] <;> done

theorem execLda_memOk (k : Fin 1664) (r : Fin 16) (s : State) (hm : Memory.wf s.dev.mem = true) : Outc.memOk (execLda k r s) := by
  unfold execLda
  refine go_memOk _ _ (fun d h => ?_) hm
  refine Dev.issue_mem _ _ _ _ _ _ _ _ (fun t e h => ?_) h
  (try dsimp only); (repeat' split) <;> simp [Act.memOk, h] <;> done

theorem execLer_memOk (k : Fin 1664) (r : Fin 16) (s : State) (hm : Memory.wf s.dev.mem = true) : Outc.memOk (execLer k r s) := by
  refine go_memOk _ _ (fun d h => ?_) hm
  refine Dev.issue_mem _ _ _ _ _ _ _ _ (fun t e h => ?_) h
  (try dsimp only); (repeat' split) <;> simp [Act.memOk, h]

theorem execMack_memOk (k : Fin 1664) (i : Fin 4) (r : Fin 16) (s : State) (hm : Memory.wf s.dev.mem = true) : Outc.memOk (execMack k i r s) := by
  unfold execMack
  refine go_memOk _ _ (fun d h => ?_) hm
  refine Dev.issue_mem _ _ _ _ _ _ _ _ (fun t e h => ?_) h
  (try dsimp only); (repeat' split) <;> simp [Act.memOk, h] <;> done

theorem execAdv_memOk (k : Fin 1664) (s : State) (hm : Memory.wf s.dev.mem = true) : Outc.memOk (execAdv k s) := by
  unfold execAdv
  refine go_memOk _ _ (fun d h => ?_) hm
  refine Dev.issue_mem _ _ _ _ _ _ _ _ (fun t e h => ?_) h
  (try dsimp only); (repeat' split) <;> simp [Act.memOk, h] <;> done

theorem execSph_memOk (k : Fin 1664) (r : Fin 16) (s : State) (hm : Memory.wf s.dev.mem = true) : Outc.memOk (execSph k r s) := by
  unfold execSph
  refine go_memOk _ _ (fun d h => ?_) hm
  refine Dev.issue_mem _ _ _ _ _ _ _ _ (fun t e h => ?_) h
  (try dsimp only); (repeat' split) <;> simp [Act.memOk, h] <;> done

theorem execSdp_memOk (k : Fin 1664) (r : Fin 16) (s : State) (hm : Memory.wf s.dev.mem = true) : Outc.memOk (execSdp k r s) := by
  unfold execSdp
  refine go_memOk _ _ (fun d h => ?_) hm
  refine Dev.issue_mem _ _ _ _ _ _ _ _ (fun t e h => ?_) h
  (try dsimp only); (repeat' split) <;> simp [Act.memOk, h] <;> done

theorem execClr_memOk (k : Fin 1664) (r : Fin 16) (s : State) (hm : Memory.wf s.dev.mem = true) : Outc.memOk (execClr k r s) := by
  unfold execClr
  refine go_memOk _ _ (fun d h => ?_) hm
  refine Dev.issue_mem _ _ _ _ _ _ _ _ (fun t e h => ?_) h
  (try dsimp only); (repeat' split) <;> simp [Act.memOk, h] <;> done

theorem execRdr_memOk (k : Fin 1664) (r : Fin 16) (s : State) (hm : Memory.wf s.dev.mem = true) : Outc.memOk (execRdr k r s) := by
  refine go_memOk _ _ (fun d h => ?_) hm
  refine Dev.issue_mem _ _ _ _ _ _ _ _ (fun t e h => ?_) h
  (try dsimp only); (repeat' split) <;> simp [Act.memOk, h]

theorem execRdi_memOk (k : Fin 1664) (r : Fin 16) (s : State) (hm : Memory.wf s.dev.mem = true) : Outc.memOk (execRdi k r s) := by
  refine go_memOk _ _ (fun d h => ?_) hm
  refine Dev.issue_mem _ _ _ _ _ _ _ _ (fun t e h => ?_) h
  (try dsimp only); (repeat' split) <;> simp [Act.memOk, h]

theorem execRst_memOk (k : Fin 1664) (r : Fin 16) (s : State) (hm : Memory.wf s.dev.mem = true) : Outc.memOk (execRst k r s) := by
  unfold execRst
  refine go_memOk _ _ (fun d h => ?_) hm
  refine Dev.issue_mem _ _ _ _ _ _ _ _ (fun t e h => ?_) h
  (try dsimp only); (repeat' split) <;> simp [Act.memOk, h] <;> done

theorem execCp2Complete_memOk (k : Fin 1664) (n : Fin 4) (bad : LodeErr) (s : State) (hm : Memory.wf s.dev.mem = true) : Outc.memOk (execCp2Complete k n bad s) := by
  refine go_memOk _ _ (fun d h => ?_) hm
  dsimp only; (iterate 3 (all_goals ((repeat' split) <;> (try simp only [Prod.ext_iff] at *) <;> (try casesm* _ ∧ _) <;> (try subst_vars) <;> (try simp (maxDischargeDepth := 40) +contextual [foldl_ok, foldl_snd_ok, foldl_snd2_ok, takenThen_mem, *]) <;> (try refine foldl_ok _ (fun d x h => ?_) _ _ ?_))))

theorem execCp2Timeout_memOk (k : Fin 1664) (n : Fin 4) (s : State) (hm : Memory.wf s.dev.mem = true) : Outc.memOk (execCp2Timeout k n s) := by
  refine go_memOk _ _ (fun d h => ?_) hm
  (repeat' split) <;> simp (maxDischargeDepth := 40) [h]

theorem execLateError_memOk (g : Fin 26) (s : State) (hm : Memory.wf s.dev.mem = true) : Outc.memOk (execLateError g s) := by
  refine go_memOk _ _ (fun d h => ?_) hm
  (repeat' split) <;> simp (maxDischargeDepth := 40) [h]

theorem execFaceOperation_memOk (k : Fin 1664) (op r : Fin 16) (s : State) (hm : Memory.wf s.dev.mem = true) : Outc.memOk (execFaceOperation k op r s) := by
  refine go_memOk _ _ (fun d h => ?_) hm
  refine Dev.issue_mem _ _ _ _ _ _ _ _ (fun t e h => ?_) h
  (try dsimp only); (repeat' split) <;> simp [Act.memOk, h]

theorem execFaceReply_memOk (g : Fin 26) (tag : BitVec 8) (data : Word32) (err : Fin 16) (s : State) (hm : Memory.wf s.dev.mem = true) : Outc.memOk (execFaceReply g tag data err s) := by
  refine go_memOk _ _ (fun d h => ?_) hm
  dsimp only; (iterate 3 (all_goals ((repeat' split) <;> (try (rename_i h; have e := snd_eq h; subst e)) <;> (try simp (maxDischargeDepth := 40) +contextual [foldl_ok, foldl_snd_ok, foldl_snd2_ok, takenThen_mem, *]) <;> (try (refine foldl_ok _ (fun d x h => ?_) _ _ ?_ <;> (try dsimp only))))))

theorem execFaceTimeout_memOk (g : Fin 26) (tag : BitVec 8) (s : State) (hm : Memory.wf s.dev.mem = true) : Outc.memOk (execFaceTimeout g tag s) := by
  refine go_memOk _ _ (fun d h => ?_) hm
  dsimp only; (iterate 3 (all_goals ((repeat' split) <;> (try (rename_i h; have e := snd_eq h; subst e)) <;> (try simp (maxDischargeDepth := 40) +contextual [foldl_ok, foldl_snd_ok, foldl_snd2_ok, takenThen_mem, *]) <;> (try (refine foldl_ok _ (fun d x h => ?_) _ _ ?_ <;> (try dsimp only))))))

theorem execFcIrq_memOk (g : Fin 26) (s : State) (hm : Memory.wf s.dev.mem = true) : Outc.memOk (execFcIrq g s) := by
  refine go_memOk _ _ (fun d h => ?_) hm
  simp (maxDischargeDepth := 40) [h]

theorem execGlFcctlLoad_memOk (src : Src) (g : Fin 26) (s : State) (hm : Memory.wf s.dev.mem = true) : Outc.memOk (execGlFcctlLoad src g s) := by
  refine go_memOk _ _ (fun d h => ?_) hm
  simp (maxDischargeDepth := 40) [h]

theorem execFaceLoadDone_memOk (g : Fin 26) (s : State) (hm : Memory.wf s.dev.mem = true) : Outc.memOk (execFaceLoadDone g s) := by
  refine go_memOk _ _ (fun d h => ?_) hm
  simp (maxDischargeDepth := 40) [h]

theorem execGlFcctlClear_memOk (src : Src) (g : Fin 26) (s : State) (hm : Memory.wf s.dev.mem = true) : Outc.memOk (execGlFcctlClear src g s) := by
  refine go_memOk _ _ (fun d h => ?_) hm
  simp (maxDischargeDepth := 40) [h]

theorem execGlFcctlRun_memOk (src : Src) (g : Fin 26) (run : Bool) (s : State) (hm : Memory.wf s.dev.mem = true) : Outc.memOk (execGlFcctlRun src g run s) := by
  refine go_memOk _ _ (fun d h => ?_) hm
  simp (maxDischargeDepth := 40) [h]

theorem execFaceFrameScrub_memOk (g : Fin 26) (ecc : MemEcc) (s : State) (hm : Memory.wf s.dev.mem = true) : Outc.memOk (execFaceFrameScrub g ecc s) := by
  refine go_memOk _ _ (fun d h => ?_) hm
  dsimp only; (iterate 3 (all_goals ((repeat' split) <;> (try (rename_i h; have e := snd_eq h; subst e)) <;> (try simp (maxDischargeDepth := 40) +contextual [foldl_ok, foldl_snd_ok, foldl_snd2_ok, takenThen_mem, *]) <;> (try (refine foldl_ok _ (fun d x h => ?_) _ _ ?_ <;> (try dsimp only))))))

theorem execFaceRestart_memOk (g : Fin 26) (s : State) (hm : Memory.wf s.dev.mem = true) : Outc.memOk (execFaceRestart g s) := by
  refine go_memOk _ _ (fun d h => ?_) hm
  (repeat' split) <;> simp (maxDischargeDepth := 40) [h]

theorem execStep_memOk (g : Fin 26) (s : State) (hm : Memory.wf s.dev.mem = true) : Outc.memOk (execStep g s) := by
  refine go_memOk _ _ (fun d h => ?_) hm
  (repeat' split) <;> simp (maxDischargeDepth := 40) [h]

theorem execState_memOk (g : Fin 26) (s : State) (hm : Memory.wf s.dev.mem = true) : Outc.memOk (execState g s) := by
  refine go_memOk _ _ (fun d h => ?_) hm
  (repeat' split) <;> simp (maxDischargeDepth := 40) [h]

theorem execWindowDeadline_memOk (g : Fin 26) (slot : Fin 1536) (set : Fin 3) (s : State) (hm : Memory.wf s.dev.mem = true) : Outc.memOk (execWindowDeadline g slot set s) := by
  refine go_memOk _ _ (fun d h => ?_) hm
  dsimp only; (iterate 3 (all_goals ((repeat' split) <;> (try (rename_i h; have e := snd_eq h; subst e)) <;> (try simp (maxDischargeDepth := 40) +contextual [foldl_ok, foldl_snd_ok, foldl_snd2_ok, takenThen_mem, *]) <;> (try (refine foldl_ok _ (fun d x h => ?_) _ _ ?_ <;> (try dsimp only))))))

theorem execBlockArrive_memOk (s : State) (hm : Memory.wf s.dev.mem = true) : Outc.memOk (execBlockArrive s) := by
  refine go_memOk _ _ (fun d h => ?_) hm
  (repeat' split) <;> simp (maxDischargeDepth := 40) [h]

theorem execFrameEmission_memOk (o : Fin 1024) (s : State) (hm : Memory.wf s.dev.mem = true) : Outc.memOk (execFrameEmission o s) := by
  refine go_memOk _ _ (fun d h => ?_) hm
  (repeat' split) <;> simp (maxDischargeDepth := 40) [h]

theorem execCfgChgEnd_memOk (o : Fin 1024) (s : State) (hm : Memory.wf s.dev.mem = true) : Outc.memOk (execCfgChgEnd o s) := by
  refine go_memOk _ _ (fun d h => ?_) hm
  (repeat' split) <;> simp (maxDischargeDepth := 40) [h]

theorem execLookup_memOk (bad : LodeErr) (s : State) (hm : Memory.wf s.dev.mem = true) : Outc.memOk (execLookup bad s) := by
  refine go_memOk _ _ (fun d h => ?_) hm
  simp (maxDischargeDepth := 40) [h]

theorem execInsert_memOk (bad : LodeErr) (s : State) (hm : Memory.wf s.dev.mem = true) : Outc.memOk (execInsert bad s) := by
  refine go_memOk _ _ (fun d h => ?_) hm
  simp (maxDischargeDepth := 40) [h]

theorem execDisplacementMove_memOk (n : Fin 1024) (s : State) (hm : Memory.wf s.dev.mem = true) : Outc.memOk (execDisplacementMove n s) := by
  refine go_memOk _ _ (fun d h => ?_) hm
  (repeat' split) <;> simp (maxDischargeDepth := 40) [h]

theorem execLodeAdd_memOk (bad : LodeErr) (s : State) (hm : Memory.wf s.dev.mem = true) : Outc.memOk (execLodeAdd bad s) := by
  refine go_memOk _ _ (fun d h => ?_) hm
  simp (maxDischargeDepth := 40) [h]

theorem execSupv_memOk (bad : LodeErr) (s : State) (hm : Memory.wf s.dev.mem = true) : Outc.memOk (execSupv bad s) := by
  refine go_memOk _ _ (fun d h => ?_) hm
  simp (maxDischargeDepth := 40) [h]

theorem execLodeMax_memOk (bad : LodeErr) (s : State) (hm : Memory.wf s.dev.mem = true) : Outc.memOk (execLodeMax bad s) := by
  refine go_memOk _ _ (fun d h => ?_) hm
  simp (maxDischargeDepth := 40) [h]

theorem execCas_memOk (bad : LodeErr) (s : State) (hm : Memory.wf s.dev.mem = true) : Outc.memOk (execCas bad s) := by
  refine go_memOk _ _ (fun d h => ?_) hm
  simp (maxDischargeDepth := 40) [h]

theorem execSeq_memOk (bad : LodeErr) (s : State) (hm : Memory.wf s.dev.mem = true) : Outc.memOk (execSeq bad s) := by
  refine go_memOk _ _ (fun d h => ?_) hm
  simp (maxDischargeDepth := 40) [h]

theorem execDelete_memOk (bad : LodeErr) (s : State) (hm : Memory.wf s.dev.mem = true) : Outc.memOk (execDelete bad s) := by
  refine go_memOk _ _ (fun d h => ?_) hm
  simp (maxDischargeDepth := 40) [h]

theorem execGen_memOk (bad : LodeErr) (s : State) (hm : Memory.wf s.dev.mem = true) : Outc.memOk (execGen bad s) := by
  refine go_memOk _ _ (fun d h => ?_) hm
  simp (maxDischargeDepth := 40) [h]

theorem execRdx_memOk (bad : LodeErr) (s : State) (hm : Memory.wf s.dev.mem = true) : Outc.memOk (execRdx bad s) := by
  refine go_memOk _ _ (fun d h => ?_) hm
  simp (maxDischargeDepth := 40) [h]

theorem execWrx_memOk (bad : LodeErr) (s : State) (hm : Memory.wf s.dev.mem = true) : Outc.memOk (execWrx bad s) := by
  refine go_memOk _ _ (fun d h => ?_) hm
  simp (maxDischargeDepth := 40) [h]

theorem execWatchExpiry_memOk (slot : Fin 65536) (s : State) (hm : Memory.wf s.dev.mem = true) : Outc.memOk (execWatchExpiry slot s) := by
  refine go_memOk _ _ (fun d h => ?_) hm
  dsimp only; (iterate 3 (all_goals ((repeat' split) <;> (try (rename_i h; have e := snd_eq h; subst e)) <;> (try simp (maxDischargeDepth := 40) +contextual [foldl_ok, foldl_snd_ok, foldl_snd2_ok, takenThen_mem, *]) <;> (try (refine foldl_ok _ (fun d x h => ?_) _ _ ?_ <;> (try dsimp only))))))

theorem execLodeSweepVisit_memOk (s : State) (hm : Memory.wf s.dev.mem = true) : Outc.memOk (execLodeSweepVisit s) := by
  refine go_memOk _ _ (fun d h => ?_) hm
  dsimp only; (iterate 3 (all_goals ((repeat' split) <;> (try (rename_i h; have e := snd_eq h; subst e)) <;> (try simp (maxDischargeDepth := 40) +contextual [foldl_ok, foldl_snd_ok, foldl_snd2_ok, takenThen_mem, *]) <;> (try (refine foldl_ok _ (fun d x h => ?_) _ _ ?_ <;> (try dsimp only))))))

theorem execLdSweepFlush_memOk (src : Src) (kind : Fin 256) (pinned : Bool) (s : State) (hm : Memory.wf s.dev.mem = true) : Outc.memOk (execLdSweepFlush src kind pinned s) := by
  refine go_memOk _ _ (fun d h => ?_) hm
  simp (maxDischargeDepth := 40) [h]

theorem execExportWrite_memOk (s : State) (hm : Memory.wf s.dev.mem = true) : Outc.memOk (execExportWrite s) := by
  refine go_memOk _ _ (fun d h => ?_) hm
  dsimp only; (iterate 3 (all_goals ((repeat' split) <;> (try (rename_i h; have e := snd_eq h; subst e)) <;> (try simp (maxDischargeDepth := 40) +contextual [foldl_ok, foldl_snd_ok, foldl_snd2_ok, takenThen_mem, *]) <;> (try (refine foldl_ok _ (fun d x h => ?_) _ _ ?_ <;> (try dsimp only))))))

theorem execRepairStep_memOk (k : Fin 1049600) (s : State) (hm : Memory.wf s.dev.mem = true) : Outc.memOk (execRepairStep k s) := by
  refine go_memOk _ _ (fun d h => ?_) hm
  (repeat' split) <;> simp (maxDischargeDepth := 40) [h]

theorem execAnomalyDrain_memOk (s : State) (hm : Memory.wf s.dev.mem = true) : Outc.memOk (execAnomalyDrain s) := by
  refine go_memOk _ _ (fun d h => ?_) hm
  (repeat' split) <;> simp (maxDischargeDepth := 40) [h]

theorem execAgePolicyStep_memOk (s : State) (hm : Memory.wf s.dev.mem = true) : Outc.memOk (execAgePolicyStep s) := by
  refine go_memOk _ _ (fun d h => ?_) hm
  simp (maxDischargeDepth := 40) [h]

theorem execCageDoorbell_memOk (src : Src) (fn : Fin 64) (v : Word32) (s : State) (hm : Memory.wf s.dev.mem = true) : Outc.memOk (execCageDoorbell src fn v s) := by
  refine go_memOk _ _ (fun d h => ?_) hm
  simp (maxDischargeDepth := 40) [h]

theorem execIdentify_memOk (fn : Fin 64) (s : State) (hm : Memory.wf s.dev.mem = true) : Outc.memOk (execIdentify fn s) := 
  go_memOk _ _ (fun _ h => Dev.cageRun_mem _ _ _ _ _ cmdIdentify_memOk h) hm

theorem execCageNop_memOk (fn : Fin 64) (s : State) (hm : Memory.wf s.dev.mem = true) : Outc.memOk (execCageNop fn s) := 
  go_memOk _ _ (fun _ h => Dev.cageRun_mem _ _ _ _ _ cmdNop_memOk h) hm

theorem execDeviceStatus_memOk (fn : Fin 64) (s : State) (hm : Memory.wf s.dev.mem = true) : Outc.memOk (execDeviceStatus fn s) := 
  go_memOk _ _ (fun _ h => Dev.cageRun_mem _ _ _ _ _ cmdDeviceStatus_memOk h) hm

theorem execEventMask_memOk (fn : Fin 64) (s : State) (hm : Memory.wf s.dev.mem = true) : Outc.memOk (execEventMask fn s) := 
  go_memOk _ _ (fun _ h => Dev.cageRun_mem _ _ _ _ _ cmdEventMask_memOk h) hm

theorem execExpertGrant_memOk (fn : Fin 64) (s : State) (hm : Memory.wf s.dev.mem = true) : Outc.memOk (execExpertGrant fn s) := 
  go_memOk _ _ (fun _ h => Dev.cageRun_mem _ _ _ _ _ cmdExpertGrant_memOk h) hm

theorem execExpertRelease_memOk (fn : Fin 64) (s : State) (hm : Memory.wf s.dev.mem = true) : Outc.memOk (execExpertRelease fn s) := 
  go_memOk _ _ (fun _ h => Dev.cageRun_mem _ _ _ _ _ cmdExpertRelease_memOk h) hm

theorem execFunctionRights_memOk (fn : Fin 64) (s : State) (hm : Memory.wf s.dev.mem = true) : Outc.memOk (execFunctionRights fn s) := 
  go_memOk _ _ (fun _ h => Dev.cageRun_mem _ _ _ _ _ cmdFunctionRights_memOk h) hm

theorem execFwUpdate_memOk (fn : Fin 64) (ok : Bool) (s : State) (hm : Memory.wf s.dev.mem = true) : Outc.memOk (execFwUpdate fn ok s) := 
  go_memOk _ _ (fun _ h => Dev.cageRun_mem _ _ _ _ _ cmdFwUpdate_memOk h) hm

theorem execFwActivate_memOk (fn : Fin 64) (ok : Bool) (s : State) (hm : Memory.wf s.dev.mem = true) : Outc.memOk (execFwActivate fn ok s) := 
  go_memOk _ _ (fun _ h => Dev.cageRun_mem _ _ _ _ _ cmdFwActivate_memOk h) hm

theorem execWarmReset_memOk (fn : Fin 64) (s : State) (hm : Memory.wf s.dev.mem = true) : Outc.memOk (execWarmReset fn s) := 
  go_memOk _ _ (fun _ h => Dev.cageRun_mem _ _ _ _ _ cmdWarmReset_memOk h) hm

theorem execSyRstWarm_memOk (src : Src) (s : State) (hm : Memory.wf s.dev.mem = true) : Outc.memOk (execSyRstWarm src s) := by
  refine go_memOk _ _ (fun d h => ?_) hm
  simp (maxDischargeDepth := 40) [h]

theorem execQueueAssign_memOk (fn : Fin 64) (s : State) (hm : Memory.wf s.dev.mem = true) : Outc.memOk (execQueueAssign fn s) := 
  go_memOk _ _ (fun _ h => Dev.cageRun_mem _ _ _ _ _ cmdQueueAssign_memOk h) hm

theorem execQueueSetup_memOk (fn : Fin 64) (s : State) (hm : Memory.wf s.dev.mem = true) : Outc.memOk (execQueueSetup fn s) := 
  go_memOk _ _ (fun _ h => Dev.cageRun_mem _ _ _ _ _ cmdQueueSetup_memOk h) hm

theorem execQueueEnable_memOk (fn : Fin 64) (s : State) (hm : Memory.wf s.dev.mem = true) : Outc.memOk (execQueueEnable fn s) := 
  go_memOk _ _ (fun _ h => Dev.cageRun_mem _ _ _ _ _ cmdQueueEnable_memOk h) hm

theorem execQueueStats_memOk (fn : Fin 64) (s : State) (hm : Memory.wf s.dev.mem = true) : Outc.memOk (execQueueStats fn s) := 
  go_memOk _ _ (fun _ h => Dev.cageRun_mem _ _ _ _ _ cmdQueueStats_memOk h) hm

theorem execLinkStatus_memOk (fn : Fin 64) (s : State) (hm : Memory.wf s.dev.mem = true) : Outc.memOk (execLinkStatus fn s) := 
  go_memOk _ _ (fun _ h => Dev.cageRun_mem _ _ _ _ _ cmdLinkStatus_memOk h) hm

theorem execHostConfig_memOk (fn : Fin 64) (s : State) (hm : Memory.wf s.dev.mem = true) : Outc.memOk (execHostConfig fn s) := 
  go_memOk _ _ (fun _ h => Dev.cageRun_mem _ _ _ _ _ cmdHostConfig_memOk h) hm

theorem execPortConfig_memOk (fn : Fin 64) (s : State) (hm : Memory.wf s.dev.mem = true) : Outc.memOk (execPortConfig fn s) := 
  go_memOk _ _ (fun _ h => Dev.cageRun_mem _ _ _ _ _ cmdPortConfig_memOk h) hm

theorem execPortStatus_memOk (fn : Fin 64) (s : State) (hm : Memory.wf s.dev.mem = true) : Outc.memOk (execPortStatus fn s) := 
  go_memOk _ _ (fun _ h => Dev.cageRun_mem _ _ _ _ _ cmdPortStatus_memOk h) hm

theorem execPortStats_memOk (fn : Fin 64) (s : State) (hm : Memory.wf s.dev.mem = true) : Outc.memOk (execPortStats fn s) := 
  go_memOk _ _ (fun _ h => Dev.cageRun_mem _ _ _ _ _ cmdPortStats_memOk h) hm

theorem execGateListLoad_memOk (fn : Fin 64) (s : State) (hm : Memory.wf s.dev.mem = true) : Outc.memOk (execGateListLoad fn s) := 
  go_memOk _ _ (fun _ h => Dev.cageRun_mem _ _ _ _ _ cmdGateListLoad_memOk h) hm

theorem execMacsecSaSet_memOk (fn : Fin 64) (s : State) (hm : Memory.wf s.dev.mem = true) : Outc.memOk (execMacsecSaSet fn s) := 
  go_memOk _ _ (fun _ h => Dev.cageRun_mem _ _ _ _ _ cmdMacsecSaSet_memOk h) hm

theorem execPtpConfig_memOk (fn : Fin 64) (s : State) (hm : Memory.wf s.dev.mem = true) : Outc.memOk (execPtpConfig fn s) := 
  go_memOk _ _ (fun _ h => Dev.cageRun_mem _ _ _ _ _ cmdPtpConfig_memOk h) hm

theorem execRedPairSet_memOk (fn : Fin 64) (s : State) (hm : Memory.wf s.dev.mem = true) : Outc.memOk (execRedPairSet fn s) := 
  go_memOk _ _ (fun _ h => Dev.cageRun_mem _ _ _ _ _ cmdRedPairSet_memOk h) hm

theorem execTimeConfig_memOk (fn : Fin 64) (s : State) (hm : Memory.wf s.dev.mem = true) : Outc.memOk (execTimeConfig fn s) := 
  go_memOk _ _ (fun _ h => Dev.cageRun_mem _ _ _ _ _ cmdTimeConfig_memOk h) hm

theorem execTimeStatus_memOk (fn : Fin 64) (s : State) (hm : Memory.wf s.dev.mem = true) : Outc.memOk (execTimeStatus fn s) := 
  go_memOk _ _ (fun _ h => Dev.cageRun_mem _ _ _ _ _ cmdTimeStatus_memOk h) hm

theorem execUtcSet_memOk (fn : Fin 64) (s : State) (hm : Memory.wf s.dev.mem = true) : Outc.memOk (execUtcSet fn s) := 
  go_memOk _ _ (fun _ h => Dev.cageRun_mem _ _ _ _ _ cmdUtcSet_memOk h) hm

theorem execTimeStep_memOk (fn : Fin 64) (s : State) (hm : Memory.wf s.dev.mem = true) : Outc.memOk (execTimeStep fn s) := 
  go_memOk _ _ (fun _ h => Dev.cageRun_mem _ _ _ _ _ cmdTimeStep_memOk h) hm

theorem execRuleWrite_memOk (fn : Fin 64) (s : State) (hm : Memory.wf s.dev.mem = true) : Outc.memOk (execRuleWrite fn s) := 
  go_memOk _ _ (fun _ h => Dev.cageRun_mem _ _ _ _ _ cmdRuleWrite_memOk h) hm

theorem execRuleFlag_memOk (fn : Fin 64) (s : State) (hm : Memory.wf s.dev.mem = true) : Outc.memOk (execRuleFlag fn s) := 
  go_memOk _ _ (fun _ h => Dev.cageRun_mem _ _ _ _ _ cmdRuleFlag_memOk h) hm

theorem execRuleRead_memOk (fn : Fin 64) (s : State) (hm : Memory.wf s.dev.mem = true) : Outc.memOk (execRuleRead fn s) := 
  go_memOk _ _ (fun _ h => Dev.cageRun_mem _ _ _ _ _ cmdRuleRead_memOk h) hm

theorem execKeyProfileSet_memOk (fn : Fin 64) (s : State) (hm : Memory.wf s.dev.mem = true) : Outc.memOk (execKeyProfileSet fn s) := 
  go_memOk _ _ (fun _ h => Dev.cageRun_mem _ _ _ _ _ cmdKeyProfileSet_memOk h) hm

theorem execParseLoad_memOk (fn : Fin 64) (s : State) (hm : Memory.wf s.dev.mem = true) : Outc.memOk (execParseLoad fn s) := 
  go_memOk _ _ (fun _ h => Dev.cageRun_mem _ _ _ _ _ cmdParseLoad_memOk h) hm

theorem execRuleCommit_memOk (fn : Fin 64) (s : State) (hm : Memory.wf s.dev.mem = true) : Outc.memOk (execRuleCommit fn s) := 
  go_memOk _ _ (fun _ h => Dev.cageRun_mem _ _ _ _ _ cmdRuleCommit_memOk h) hm

theorem execRuleStatus_memOk (fn : Fin 64) (s : State) (hm : Memory.wf s.dev.mem = true) : Outc.memOk (execRuleStatus fn s) := 
  go_memOk _ _ (fun _ h => Dev.cageRun_mem _ _ _ _ _ cmdRuleStatus_memOk h) hm

theorem execRuleRetire_memOk (fn : Fin 64) (s : State) (hm : Memory.wf s.dev.mem = true) : Outc.memOk (execRuleRetire fn s) := 
  go_memOk _ _ (fun _ h => Dev.cageRun_mem _ _ _ _ _ cmdRuleRetire_memOk h) hm

theorem execExcConfig_memOk (fn : Fin 64) (s : State) (hm : Memory.wf s.dev.mem = true) : Outc.memOk (execExcConfig fn s) := 
  go_memOk _ _ (fun _ h => Dev.cageRun_mem _ _ _ _ _ cmdExcConfig_memOk h) hm

theorem execExcStats_memOk (fn : Fin 64) (s : State) (hm : Memory.wf s.dev.mem = true) : Outc.memOk (execExcStats fn s) := 
  go_memOk _ _ (fun _ h => Dev.cageRun_mem _ _ _ _ _ cmdExcStats_memOk h) hm

theorem execEddyConfig_memOk (fn : Fin 64) (s : State) (hm : Memory.wf s.dev.mem = true) : Outc.memOk (execEddyConfig fn s) := 
  go_memOk _ _ (fun _ h => Dev.cageRun_mem _ _ _ _ _ cmdEddyConfig_memOk h) hm

theorem execAssayStats_memOk (fn : Fin 64) (s : State) (hm : Memory.wf s.dev.mem = true) : Outc.memOk (execAssayStats fn s) := 
  go_memOk _ _ (fun _ h => Dev.cageRun_mem _ _ _ _ _ cmdAssayStats_memOk h) hm

theorem execStationAdd_memOk (fn : Fin 64) (s : State) (hm : Memory.wf s.dev.mem = true) : Outc.memOk (execStationAdd fn s) := 
  go_memOk _ _ (fun _ h => Dev.cageRun_mem _ _ _ _ _ cmdStationAdd_memOk h) hm

theorem execStationDel_memOk (fn : Fin 64) (s : State) (hm : Memory.wf s.dev.mem = true) : Outc.memOk (execStationDel fn s) := 
  go_memOk _ _ (fun _ h => Dev.cageRun_mem _ _ _ _ _ cmdStationDel_memOk h) hm

theorem execStationFlush_memOk (fn : Fin 64) (s : State) (hm : Memory.wf s.dev.mem = true) : Outc.memOk (execStationFlush fn s) := 
  go_memOk _ _ (fun _ h => Dev.cageRun_mem _ _ _ _ _ cmdStationFlush_memOk h) hm

theorem execStationRead_memOk (fn : Fin 64) (s : State) (hm : Memory.wf s.dev.mem = true) : Outc.memOk (execStationRead fn s) := 
  go_memOk _ _ (fun _ h => Dev.cageRun_mem _ _ _ _ _ cmdStationRead_memOk h) hm

theorem execStationConfig_memOk (fn : Fin 64) (s : State) (hm : Memory.wf s.dev.mem = true) : Outc.memOk (execStationConfig fn s) := 
  go_memOk _ _ (fun _ h => Dev.cageRun_mem _ _ _ _ _ cmdStationConfig_memOk h) hm

theorem execStreamSet_memOk (fn : Fin 64) (s : State) (hm : Memory.wf s.dev.mem = true) : Outc.memOk (execStreamSet fn s) := 
  go_memOk _ _ (fun _ h => Dev.cageRun_mem _ _ _ _ _ cmdStreamSet_memOk h) hm

theorem execStreamGet_memOk (fn : Fin 64) (s : State) (hm : Memory.wf s.dev.mem = true) : Outc.memOk (execStreamGet fn s) := 
  go_memOk _ _ (fun _ h => Dev.cageRun_mem _ _ _ _ _ cmdStreamGet_memOk h) hm

theorem execMeterSet_memOk (fn : Fin 64) (s : State) (hm : Memory.wf s.dev.mem = true) : Outc.memOk (execMeterSet fn s) := 
  go_memOk _ _ (fun _ h => Dev.cageRun_mem _ _ _ _ _ cmdMeterSet_memOk h) hm

theorem execTableStats_memOk (fn : Fin 64) (s : State) (hm : Memory.wf s.dev.mem = true) : Outc.memOk (execTableStats fn s) := 
  go_memOk _ _ (fun _ h => Dev.cageRun_mem _ _ _ _ _ cmdTableStats_memOk h) hm

theorem execTemplateLoad_memOk (fn : Fin 64) (s : State) (hm : Memory.wf s.dev.mem = true) : Outc.memOk (execTemplateLoad fn s) := 
  go_memOk _ _ (fun _ h => Dev.cageRun_mem _ _ _ _ _ cmdTemplateLoad_memOk h) hm

theorem execTemplateEnable_memOk (fn : Fin 64) (s : State) (hm : Memory.wf s.dev.mem = true) : Outc.memOk (execTemplateEnable fn s) := 
  go_memOk _ _ (fun _ h => Dev.cageRun_mem _ _ _ _ _ cmdTemplateEnable_memOk h) hm

theorem execTemplateStatus_memOk (fn : Fin 64) (s : State) (hm : Memory.wf s.dev.mem = true) : Outc.memOk (execTemplateStatus fn s) := 
  go_memOk _ _ (fun _ h => Dev.cageRun_mem _ _ _ _ _ cmdTemplateStatus_memOk h) hm

theorem execAffinitySet_memOk (fn : Fin 64) (s : State) (hm : Memory.wf s.dev.mem = true) : Outc.memOk (execAffinitySet fn s) := 
  go_memOk _ _ (fun _ h => Dev.cageRun_mem _ _ _ _ _ cmdAffinitySet_memOk h) hm

theorem execTwinConfig_memOk (fn : Fin 64) (s : State) (hm : Memory.wf s.dev.mem = true) : Outc.memOk (execTwinConfig fn s) := 
  go_memOk _ _ (fun _ h => Dev.cageRun_mem _ _ _ _ _ cmdTwinConfig_memOk h) hm

theorem execSchedStats_memOk (fn : Fin 64) (s : State) (hm : Memory.wf s.dev.mem = true) : Outc.memOk (execSchedStats fn s) := 
  go_memOk _ _ (fun _ h => Dev.cageRun_mem _ _ _ _ _ cmdSchedStats_memOk h) hm

theorem execTraceStart_memOk (fn : Fin 64) (s : State) (hm : Memory.wf s.dev.mem = true) : Outc.memOk (execTraceStart fn s) := 
  go_memOk _ _ (fun _ h => Dev.cageRun_mem _ _ _ _ _ cmdTraceStart_memOk h) hm

theorem execTraceStop_memOk (fn : Fin 64) (s : State) (hm : Memory.wf s.dev.mem = true) : Outc.memOk (execTraceStop fn s) := 
  go_memOk _ _ (fun _ h => Dev.cageRun_mem _ _ _ _ _ cmdTraceStop_memOk h) hm

theorem execDraughtConfig_memOk (fn : Fin 64) (s : State) (hm : Memory.wf s.dev.mem = true) : Outc.memOk (execDraughtConfig fn s) := 
  go_memOk _ _ (fun _ h => Dev.cageRun_mem _ _ _ _ _ cmdDraughtConfig_memOk h) hm

theorem execGalleryLoad_memOk (fn : Fin 64) (img : Option (List Byte)) (s : State) (hm : Memory.wf s.dev.mem = true) : Outc.memOk (execGalleryLoad fn img s) := 
  go_memOk _ _ (fun _ h => Dev.cageRun_mem _ _ _ _ _ cmdGalleryLoad_memOk h) hm

theorem execGalleryStatus_memOk (fn : Fin 64) (s : State) (hm : Memory.wf s.dev.mem = true) : Outc.memOk (execGalleryStatus fn s) := 
  go_memOk _ _ (fun _ h => Dev.cageRun_mem _ _ _ _ _ cmdGalleryStatus_memOk h) hm

theorem execRoseSet_memOk (fn : Fin 64) (s : State) (hm : Memory.wf s.dev.mem = true) : Outc.memOk (execRoseSet fn s) := 
  go_memOk _ _ (fun _ h => Dev.cageRun_mem _ _ _ _ _ cmdRoseSet_memOk h) hm

theorem execFaultRead_memOk (fn : Fin 64) (s : State) (hm : Memory.wf s.dev.mem = true) : Outc.memOk (execFaultRead fn s) := 
  go_memOk _ _ (fun _ h => Dev.cageRun_mem _ _ _ _ _ cmdFaultRead_memOk h) hm

theorem execGalleryReset_memOk (fn : Fin 64) (s : State) (hm : Memory.wf s.dev.mem = true) : Outc.memOk (execGalleryReset fn s) := 
  go_memOk _ _ (fun _ h => Dev.cageRun_mem _ _ _ _ _ cmdGalleryReset_memOk h) hm

theorem execThreadReset_memOk (fn : Fin 64) (s : State) (hm : Memory.wf s.dev.mem = true) : Outc.memOk (execThreadReset fn s) := 
  go_memOk _ _ (fun _ h => Dev.cageRun_mem _ _ _ _ _ cmdThreadReset_memOk h) hm

theorem execFaceLoad_memOk (fn : Fin 64) (s : State) (hm : Memory.wf s.dev.mem = true) : Outc.memOk (execFaceLoad fn s) := 
  go_memOk _ _ (fun _ h => Dev.cageRun_mem _ _ _ _ _ cmdFaceLoad_memOk h) hm

theorem execFaceRun_memOk (fn : Fin 64) (s : State) (hm : Memory.wf s.dev.mem = true) : Outc.memOk (execFaceRun fn s) := 
  go_memOk _ _ (fun _ h => Dev.cageRun_mem _ _ _ _ _ cmdFaceRun_memOk h) hm

theorem execFaceStatus_memOk (fn : Fin 64) (s : State) (hm : Memory.wf s.dev.mem = true) : Outc.memOk (execFaceStatus fn s) := 
  go_memOk _ _ (fun _ h => Dev.cageRun_mem _ _ _ _ _ cmdFaceStatus_memOk h) hm

theorem execCpStats_memOk (fn : Fin 64) (s : State) (hm : Memory.wf s.dev.mem = true) : Outc.memOk (execCpStats fn s) := 
  go_memOk _ _ (fun _ h => Dev.cageRun_mem _ _ _ _ _ cmdCpStats_memOk h) hm

theorem execPhasorBind_memOk (fn : Fin 64) (s : State) (hm : Memory.wf s.dev.mem = true) : Outc.memOk (execPhasorBind fn s) := 
  go_memOk _ _ (fun _ h => Dev.cageRun_mem _ _ _ _ _ cmdPhasorBind_memOk h) hm

theorem execPhasorUnbind_memOk (fn : Fin 64) (s : State) (hm : Memory.wf s.dev.mem = true) : Outc.memOk (execPhasorUnbind fn s) := 
  go_memOk _ _ (fun _ h => Dev.cageRun_mem _ _ _ _ _ cmdPhasorUnbind_memOk h) hm

theorem execPhasorEnable_memOk (fn : Fin 64) (s : State) (hm : Memory.wf s.dev.mem = true) : Outc.memOk (execPhasorEnable fn s) := 
  go_memOk _ _ (fun _ h => Dev.cageRun_mem _ _ _ _ _ cmdPhasorEnable_memOk h) hm

theorem execPmuOutputSet_memOk (fn : Fin 64) (s : State) (hm : Memory.wf s.dev.mem = true) : Outc.memOk (execPmuOutputSet fn s) := 
  go_memOk _ _ (fun _ h => Dev.cageRun_mem _ _ _ _ _ cmdPmuOutputSet_memOk h) hm

theorem execPhasorStatus_memOk (fn : Fin 64) (s : State) (hm : Memory.wf s.dev.mem = true) : Outc.memOk (execPhasorStatus fn s) := 
  go_memOk _ _ (fun _ h => Dev.cageRun_mem _ _ _ _ _ cmdPhasorStatus_memOk h) hm

theorem execPmuStats_memOk (fn : Fin 64) (s : State) (hm : Memory.wf s.dev.mem = true) : Outc.memOk (execPmuStats fn s) := 
  go_memOk _ _ (fun _ h => Dev.cageRun_mem _ _ _ _ _ cmdPmuStats_memOk h) hm

theorem execLodeOp_memOk (fn : Fin 64) (bad : LodeErr) (s : State) (hm : Memory.wf s.dev.mem = true) : Outc.memOk (execLodeOp fn bad s) := 
  go_memOk _ _ (fun _ h => Dev.cageRun_mem _ _ _ _ _ cmdLodeOp_memOk h) hm

theorem execLodeRead_memOk (fn : Fin 64) (bad : LodeErr) (s : State) (hm : Memory.wf s.dev.mem = true) : Outc.memOk (execLodeRead fn bad s) := 
  go_memOk _ _ (fun _ h => Dev.cageRun_mem _ _ _ _ _ cmdLodeRead_memOk h) hm

theorem execLodeWrite_memOk (fn : Fin 64) (s : State) (hm : Memory.wf s.dev.mem = true) : Outc.memOk (execLodeWrite fn s) := 
  go_memOk _ _ (fun _ h => Dev.cageRun_mem _ _ _ _ _ cmdLodeWrite_memOk h) hm

theorem execLodeFlush_memOk (fn : Fin 64) (s : State) (hm : Memory.wf s.dev.mem = true) : Outc.memOk (execLodeFlush fn s) := 
  go_memOk _ _ (fun _ h => Dev.cageRun_mem _ _ _ _ _ cmdLodeFlush_memOk h) hm

theorem execLodeExportSet_memOk (fn : Fin 64) (s : State) (hm : Memory.wf s.dev.mem = true) : Outc.memOk (execLodeExportSet fn s) := 
  go_memOk _ _ (fun _ h => Dev.cageRun_mem _ _ _ _ _ cmdLodeExportSet_memOk h) hm

theorem execLodeAnomalyRead_memOk (fn : Fin 64) (s : State) (hm : Memory.wf s.dev.mem = true) : Outc.memOk (execLodeAnomalyRead fn s) := 
  go_memOk _ _ (fun _ h => Dev.cageRun_mem _ _ _ _ _ cmdLodeAnomalyRead_memOk h) hm

theorem execLodeStats_memOk (fn : Fin 64) (s : State) (hm : Memory.wf s.dev.mem = true) : Outc.memOk (execLodeStats fn s) := 
  go_memOk _ _ (fun _ h => Dev.cageRun_mem _ _ _ _ _ cmdLodeStats_memOk h) hm

theorem execLodeAgeSet_memOk (fn : Fin 64) (s : State) (hm : Memory.wf s.dev.mem = true) : Outc.memOk (execLodeAgeSet fn s) := 
  go_memOk _ _ (fun _ h => Dev.cageRun_mem _ _ _ _ _ cmdLodeAgeSet_memOk h) hm

theorem execLodeConfig_memOk (fn : Fin 64) (s : State) (hm : Memory.wf s.dev.mem = true) : Outc.memOk (execLodeConfig fn s) := 
  go_memOk _ _ (fun _ h => Dev.cageRun_mem _ _ _ _ _ cmdLodeConfig_memOk h) hm

theorem execLockGroupSet_memOk (fn : Fin 64) (s : State) (hm : Memory.wf s.dev.mem = true) : Outc.memOk (execLockGroupSet fn s) := 
  go_memOk _ _ (fun _ h => Dev.cageRun_mem _ _ _ _ _ cmdLockGroupSet_memOk h) hm

theorem execLockStatus_memOk (fn : Fin 64) (s : State) (hm : Memory.wf s.dev.mem = true) : Outc.memOk (execLockStatus fn s) := 
  go_memOk _ _ (fun _ h => Dev.cageRun_mem _ _ _ _ _ cmdLockStatus_memOk h) hm

theorem execChannelSet_memOk (fn : Fin 64) (s : State) (hm : Memory.wf s.dev.mem = true) : Outc.memOk (execChannelSet fn s) := 
  go_memOk _ _ (fun _ h => Dev.cageRun_mem _ _ _ _ _ cmdChannelSet_memOk h) hm

theorem execDoldrumsConfig_memOk (fn : Fin 64) (s : State) (hm : Memory.wf s.dev.mem = true) : Outc.memOk (execDoldrumsConfig fn s) := 
  go_memOk _ _ (fun _ h => Dev.cageRun_mem _ _ _ _ _ cmdDoldrumsConfig_memOk h) hm

theorem execTokenStats_memOk (fn : Fin 64) (s : State) (hm : Memory.wf s.dev.mem = true) : Outc.memOk (execTokenStats fn s) := 
  go_memOk _ _ (fun _ h => Dev.cageRun_mem _ _ _ _ _ cmdTokenStats_memOk h) hm

theorem execLockForceRelease_memOk (fn : Fin 64) (s : State) (hm : Memory.wf s.dev.mem = true) : Outc.memOk (execLockForceRelease fn s) := 
  go_memOk _ _ (fun _ h => Dev.cageRun_mem _ _ _ _ _ cmdLockForceRelease_memOk h) hm

theorem execHoistStats_memOk (fn : Fin 64) (s : State) (hm : Memory.wf s.dev.mem = true) : Outc.memOk (execHoistStats fn s) := 
  go_memOk _ _ (fun _ h => Dev.cageRun_mem _ _ _ _ _ cmdHoistStats_memOk h) hm

theorem execHoistDomainRead_memOk (fn : Fin 64) (s : State) (hm : Memory.wf s.dev.mem = true) : Outc.memOk (execHoistDomainRead fn s) := 
  go_memOk _ _ (fun _ h => Dev.cageRun_mem _ _ _ _ _ cmdHoistDomainRead_memOk h) hm

theorem execHoistConfig_memOk (fn : Fin 64) (s : State) (hm : Memory.wf s.dev.mem = true) : Outc.memOk (execHoistConfig fn s) := 
  go_memOk _ _ (fun _ h => Dev.cageRun_mem _ _ _ _ _ cmdHoistConfig_memOk h) hm

theorem execMcastGroupSet_memOk (fn : Fin 64) (s : State) (hm : Memory.wf s.dev.mem = true) : Outc.memOk (execMcastGroupSet fn s) := 
  go_memOk _ _ (fun _ h => Dev.cageRun_mem _ _ _ _ _ cmdMcastGroupSet_memOk h) hm

theorem execMcastGroupGet_memOk (fn : Fin 64) (s : State) (hm : Memory.wf s.dev.mem = true) : Outc.memOk (execMcastGroupGet fn s) := 
  go_memOk _ _ (fun _ h => Dev.cageRun_mem _ _ _ _ _ cmdMcastGroupGet_memOk h) hm

theorem execMirrorSet_memOk (fn : Fin 64) (s : State) (hm : Memory.wf s.dev.mem = true) : Outc.memOk (execMirrorSet fn s) := 
  go_memOk _ _ (fun _ h => Dev.cageRun_mem _ _ _ _ _ cmdMirrorSet_memOk h) hm

theorem execSwitchPortSet_memOk (fn : Fin 64) (s : State) (hm : Memory.wf s.dev.mem = true) : Outc.memOk (execSwitchPortSet fn s) := 
  go_memOk _ _ (fun _ h => Dev.cageRun_mem _ _ _ _ _ cmdSwitchPortSet_memOk h) hm

theorem execCaptureSet_memOk (fn : Fin 64) (s : State) (hm : Memory.wf s.dev.mem = true) : Outc.memOk (execCaptureSet fn s) := 
  go_memOk _ _ (fun _ h => Dev.cageRun_mem _ _ _ _ _ cmdCaptureSet_memOk h) hm

theorem execCaptureStatus_memOk (fn : Fin 64) (s : State) (hm : Memory.wf s.dev.mem = true) : Outc.memOk (execCaptureStatus fn s) := 
  go_memOk _ _ (fun _ h => Dev.cageRun_mem _ _ _ _ _ cmdCaptureStatus_memOk h) hm

theorem execPlaneStatus_memOk (fn : Fin 64) (s : State) (hm : Memory.wf s.dev.mem = true) : Outc.memOk (execPlaneStatus fn s) := 
  go_memOk _ _ (fun _ h => Dev.cageRun_mem _ _ _ _ _ cmdPlaneStatus_memOk h) hm

theorem execSwitchStats_memOk (fn : Fin 64) (s : State) (hm : Memory.wf s.dev.mem = true) : Outc.memOk (execSwitchStats fn s) := 
  go_memOk _ _ (fun _ h => Dev.cageRun_mem _ _ _ _ _ cmdSwitchStats_memOk h) hm

theorem execSwitchThreshSet_memOk (fn : Fin 64) (s : State) (hm : Memory.wf s.dev.mem = true) : Outc.memOk (execSwitchThreshSet fn s) := 
  go_memOk _ _ (fun _ h => Dev.cageRun_mem _ _ _ _ _ cmdSwitchThreshSet_memOk h) hm

theorem execPlaneMapSet_memOk (fn : Fin 64) (s : State) (hm : Memory.wf s.dev.mem = true) : Outc.memOk (execPlaneMapSet fn s) := 
  go_memOk _ _ (fun _ h => Dev.cageRun_mem _ _ _ _ _ cmdPlaneMapSet_memOk h) hm

theorem execSwitchConfig_memOk (fn : Fin 64) (s : State) (hm : Memory.wf s.dev.mem = true) : Outc.memOk (execSwitchConfig fn s) := 
  go_memOk _ _ (fun _ h => Dev.cageRun_mem _ _ _ _ _ cmdSwitchConfig_memOk h) hm

theorem execBinStats_memOk (fn : Fin 64) (s : State) (hm : Memory.wf s.dev.mem = true) : Outc.memOk (execBinStats fn s) := 
  go_memOk _ _ (fun _ h => Dev.cageRun_mem _ _ _ _ _ cmdBinStats_memOk h) hm

theorem execBinQuotaSet_memOk (fn : Fin 64) (s : State) (hm : Memory.wf s.dev.mem = true) : Outc.memOk (execBinQuotaSet fn s) := 
  go_memOk _ _ (fun _ h => Dev.cageRun_mem _ _ _ _ _ cmdBinQuotaSet_memOk h) hm

theorem execSeamStatus_memOk (fn : Fin 64) (s : State) (hm : Memory.wf s.dev.mem = true) : Outc.memOk (execSeamStatus fn s) := 
  go_memOk _ _ (fun _ h => Dev.cageRun_mem _ _ _ _ _ cmdSeamStatus_memOk h) hm

theorem execSeamSpare_memOk (fn : Fin 64) (s : State) (hm : Memory.wf s.dev.mem = true) : Outc.memOk (execSeamSpare fn s) := 
  go_memOk _ _ (fun _ h => Dev.cageRun_mem _ _ _ _ _ cmdSeamSpare_memOk h) hm

theorem execReliefStatus_memOk (fn : Fin 64) (s : State) (hm : Memory.wf s.dev.mem = true) : Outc.memOk (execReliefStatus fn s) := 
  go_memOk _ _ (fun _ h => Dev.cageRun_mem _ _ _ _ _ cmdReliefStatus_memOk h) hm

theorem execReliefForce_memOk (fn : Fin 64) (ok : Bool) (s : State) (hm : Memory.wf s.dev.mem = true) : Outc.memOk (execReliefForce fn ok s) := 
  go_memOk _ _ (fun _ h => Dev.cageRun_mem _ _ _ _ _ cmdReliefForce_memOk h) hm

theorem execPowerStatus_memOk (fn : Fin 64) (s : State) (hm : Memory.wf s.dev.mem = true) : Outc.memOk (execPowerStatus fn s) := 
  go_memOk _ _ (fun _ h => Dev.cageRun_mem _ _ _ _ _ cmdPowerStatus_memOk h) hm

theorem execPolicySet_memOk (fn : Fin 64) (s : State) (hm : Memory.wf s.dev.mem = true) : Outc.memOk (execPolicySet fn s) := 
  go_memOk _ _ (fun _ h => Dev.cageRun_mem _ _ _ _ _ cmdPolicySet_memOk h) hm

theorem execPolicyStatus_memOk (fn : Fin 64) (s : State) (hm : Memory.wf s.dev.mem = true) : Outc.memOk (execPolicyStatus fn s) := 
  go_memOk _ _ (fun _ h => Dev.cageRun_mem _ _ _ _ _ cmdPolicyStatus_memOk h) hm

theorem execLedgerRead_memOk (fn : Fin 64) (s : State) (hm : Memory.wf s.dev.mem = true) : Outc.memOk (execLedgerRead fn s) := 
  go_memOk _ _ (fun _ h => Dev.cageRun_mem _ _ _ _ _ cmdLedgerRead_memOk h) hm

theorem execCalibRead_memOk (fn : Fin 64) (s : State) (hm : Memory.wf s.dev.mem = true) : Outc.memOk (execCalibRead fn s) := 
  go_memOk _ _ (fun _ h => Dev.cageRun_mem _ _ _ _ _ cmdCalibRead_memOk h) hm

theorem execCalibWrite_memOk (fn : Fin 64) (s : State) (hm : Memory.wf s.dev.mem = true) : Outc.memOk (execCalibWrite fn s) := 
  go_memOk _ _ (fun _ h => Dev.cageRun_mem _ _ _ _ _ cmdCalibWrite_memOk h) hm

theorem execTallyRead_memOk (fn : Fin 64) (s : State) (hm : Memory.wf s.dev.mem = true) : Outc.memOk (execTallyRead fn s) := 
  go_memOk _ _ (fun _ h => Dev.cageRun_mem _ _ _ _ _ cmdTallyRead_memOk h) hm

theorem execTallyStatus_memOk (fn : Fin 64) (s : State) (hm : Memory.wf s.dev.mem = true) : Outc.memOk (execTallyStatus fn s) := 
  go_memOk _ _ (fun _ h => Dev.cageRun_mem _ _ _ _ _ cmdTallyStatus_memOk h) hm

theorem execTallyLimit_memOk (fn : Fin 64) (s : State) (hm : Memory.wf s.dev.mem = true) : Outc.memOk (execTallyLimit fn s) := 
  go_memOk _ _ (fun _ h => Dev.cageRun_mem _ _ _ _ _ cmdTallyLimit_memOk h) hm

theorem execDebugChallenge_memOk (fn : Fin 64) (s : State) (hm : Memory.wf s.dev.mem = true) : Outc.memOk (execDebugChallenge fn s) := 
  go_memOk _ _ (fun _ h => Dev.cageRun_mem _ _ _ _ _ cmdDebugChallenge_memOk h) hm

theorem execDebugUnlock_memOk (fn : Fin 64) (ok : Bool) (s : State) (hm : Memory.wf s.dev.mem = true) : Outc.memOk (execDebugUnlock fn ok s) := 
  go_memOk _ _ (fun _ h => Dev.cageRun_mem _ _ _ _ _ cmdDebugUnlock_memOk h) hm

theorem execDebugLock_memOk (fn : Fin 64) (s : State) (hm : Memory.wf s.dev.mem = true) : Outc.memOk (execDebugLock fn s) := 
  go_memOk _ _ (fun _ h => Dev.cageRun_mem _ _ _ _ _ cmdDebugLock_memOk h) hm

theorem execEventWrite_memOk (s : State) (hm : Memory.wf s.dev.mem = true) : Outc.memOk (execEventWrite s) := by
  refine go_memOk _ _ (fun d h => ?_) hm
  dsimp only; (iterate 3 (all_goals ((repeat' split) <;> (try (rename_i h; have e := snd_eq h; subst e)) <;> (try simp (maxDischargeDepth := 40) +contextual [foldl_ok, foldl_snd_ok, foldl_snd2_ok, takenThen_mem, *]) <;> (try (refine foldl_ok _ (fun d x h => ?_) _ _ ?_ <;> (try dsimp only))))))

theorem execGrantExpiry_memOk (k : Fin 4) (s : State) (hm : Memory.wf s.dev.mem = true) : Outc.memOk (execGrantExpiry k s) := by
  refine go_memOk _ _ (fun d h => ?_) hm
  simp (maxDischargeDepth := 40) [h]

theorem execCounterPoll_memOk (a : Fin 67108864) (s : State) (hm : Memory.wf s.dev.mem = true) : Outc.memOk (execCounterPoll a s) := by
  refine go_memOk _ _ (fun d h => ?_) hm
  (repeat' split) <;> simp (maxDischargeDepth := 40) [h]

theorem execCanaryExpiry_memOk (s : State) (hm : Memory.wf s.dev.mem = true) : Outc.memOk (execCanaryExpiry s) := by
  refine go_memOk _ _ (fun d h => ?_) hm
  simp (maxDischargeDepth := 40) [h]

theorem execLockstepMismatch_memOk (s : State) (hm : Memory.wf s.dev.mem = true) : Outc.memOk (execLockstepMismatch s) := by
  refine go_memOk _ _ (fun d h => ?_) hm
  simp (maxDischargeDepth := 40) [h]

theorem execTakeoverComplete_memOk (s : State) (hm : Memory.wf s.dev.mem = true) : Outc.memOk (execTakeoverComplete s) := by
  refine go_memOk _ _ (fun d h => ?_) hm
  dsimp only; (iterate 3 (all_goals ((repeat' split) <;> (try (rename_i h; have e := snd_eq h; subst e)) <;> (try simp (maxDischargeDepth := 40) +contextual [foldl_ok, foldl_snd_ok, foldl_snd2_ok, takenThen_mem, *]) <;> (try (refine foldl_ok _ (fun d x h => ?_) _ _ ?_ <;> (try dsimp only))))))

theorem execTxDoorbell_memOk (by_ fn : Fin 64) (i : Fin 512) (tail : BitVec 16) (wide ide : Bool) (s : State) (hm : Memory.wf s.dev.mem = true) : Outc.memOk (execTxDoorbell by_ fn i tail wide ide s) := by
  refine go_memOk _ _ (fun d h => ?_) hm
  simp (maxDischargeDepth := 40) [h]

theorem execRxDoorbell_memOk (by_ fn : Fin 64) (i : Fin 512) (tail : BitVec 16) (wide ide : Bool) (s : State) (hm : Memory.wf s.dev.mem = true) : Outc.memOk (execRxDoorbell by_ fn i tail wide ide s) := by
  refine go_memOk _ _ (fun d h => ?_) hm
  (repeat' split) <;> simp (maxDischargeDepth := 40) [h]

theorem execTxDescriptor_memOk (q : Fin 1024) (desc : BitVec 192) (data : List Byte) (s : State) (hm : Memory.wf s.dev.mem = true) : Outc.memOk (execTxDescriptor q desc data s) := by
  refine go_memOk _ _ (fun d h => ?_) hm
  dsimp only; (iterate 3 (all_goals ((repeat' split) <;> (try (rename_i h; have e := snd_eq h; subst e)) <;> (try simp (maxDischargeDepth := 40) +contextual [foldl_ok, foldl_snd_ok, foldl_snd2_ok, takenThen_mem, *]) <;> (try (refine foldl_ok _ (fun d x h => ?_) _ _ ?_ <;> (try dsimp only))))))

theorem execTxRetry_memOk (q : Fin 1024) (s : State) (hm : Memory.wf s.dev.mem = true) : Outc.memOk (execTxRetry q s) := by
  refine go_memOk _ _ (fun d h => ?_) hm
  (repeat' split) <;> simp (maxDischargeDepth := 40) [h]

theorem execHostDeliver_memOk (addrs : List (BitVec 64)) (s : State) (hm : Memory.wf s.dev.mem = true) : Outc.memOk (execHostDeliver addrs s) := by
  refine go_memOk _ _ (fun d h => ?_) hm
  (repeat' split) <;> simp (maxDischargeDepth := 40) [h]

theorem execHostWatchdog_memOk (q : Fin 1024) (s : State) (hm : Memory.wf s.dev.mem = true) : Outc.memOk (execHostWatchdog q s) := by
  refine go_memOk _ _ (fun d h => ?_) hm
  (repeat' split) <;> simp (maxDischargeDepth := 40) [h]

theorem execDmaError_memOk (q : Fin 1024) (tx : Bool) (s : State) (hm : Memory.wf s.dev.mem = true) : Outc.memOk (execDmaError q tx s) := by
  refine go_memOk _ _ (fun d h => ?_) hm
  dsimp only; (iterate 3 (all_goals ((repeat' split) <;> (try (rename_i h; have e := snd_eq h; subst e)) <;> (try simp (maxDischargeDepth := 40) +contextual [foldl_ok, foldl_snd_ok, foldl_snd2_ok, takenThen_mem, *]) <;> (try (refine foldl_ok _ (fun d x h => ?_) _ _ ?_ <;> (try dsimp only))))))

theorem execMsixMessage_memOk (q : Fin 1024) (s : State) (hm : Memory.wf s.dev.mem = true) : Outc.memOk (execMsixMessage q s) := by
  refine go_memOk _ _ (fun d h => ?_) hm
  dsimp only; (iterate 3 (all_goals ((repeat' split) <;> (try (rename_i h; have e := snd_eq h; subst e)) <;> (try simp (maxDischargeDepth := 40) +contextual [foldl_ok, foldl_snd_ok, foldl_snd2_ok, takenThen_mem, *]) <;> (try (refine foldl_ok _ (fun d x h => ?_) _ _ ?_ <;> (try dsimp only))))))

theorem execItrExpiry_memOk (q : Fin 1024) (s : State) (hm : Memory.wf s.dev.mem = true) : Outc.memOk (execItrExpiry q s) := by
  refine go_memOk _ _ (fun d h => ?_) hm
  (repeat' split) <;> simp (maxDischargeDepth := 40) [h]

theorem execHiQcfgWrite_memOk (src : Src) (q : Fin 1024) (v : Word64) (s : State) (hm : Memory.wf s.dev.mem = true) : Outc.memOk (execHiQcfgWrite src q v s) := by
  refine go_memOk _ _ (fun d h => ?_) hm
  simp (maxDischargeDepth := 40) [h]

theorem execBar2Access_memOk (off : Nat) (n : Nat) (data : Option (List Byte)) (poisoned ide : Bool) (s : State) (hm : Memory.wf s.dev.mem = true) : Outc.memOk (execBar2Access off n data poisoned ide s) := by
  refine go_memOk _ _ (fun d h => ?_) hm
  dsimp only; (iterate 3 (all_goals ((repeat' split) <;> (try (rename_i h; have e := snd_eq h; subst e)) <;> (try simp (maxDischargeDepth := 40) +contextual [foldl_ok, foldl_snd_ok, foldl_snd2_ok, takenThen_mem, *]) <;> (try (refine foldl_ok _ (fun d x h => ?_) _ _ ?_ <;> (try dsimp only))))))

theorem execIdeIntegrityFail_memOk (fn : Fin 64) (s : State) (hm : Memory.wf s.dev.mem = true) : Outc.memOk (execIdeIntegrityFail fn s) := by
  refine go_memOk _ _ (fun d h => ?_) hm
  dsimp only; (iterate 3 (all_goals ((repeat' split) <;> (try (rename_i h; have e := snd_eq h; subst e)) <;> (try simp (maxDischargeDepth := 40) +contextual [foldl_ok, foldl_snd_ok, foldl_snd2_ok, takenThen_mem, *]) <;> (try (refine foldl_ok _ (fun d x h => ?_) _ _ ?_ <;> (try dsimp only))))))

theorem execRefresh_memOk (c : Fin 5) (s : State) (hm : Memory.wf s.dev.mem = true) : Outc.memOk (execRefresh c s) := by
  refine go_memOk _ _ (fun d h => ?_) hm
  simp (maxDischargeDepth := 40) [h]

theorem execTempPoll_memOk (c : Fin 5) (hot : Bool) (therm : Int) (s : State) (hm : Memory.wf s.dev.mem = true) : Outc.memOk (execTempPoll c hot therm s) := by
  refine go_memOk _ _ (fun d h => ?_) hm
  dsimp only; (iterate 3 (all_goals ((repeat' split) <;> (try (rename_i h; have e := snd_eq h; subst e)) <;> (try simp (maxDischargeDepth := 40) +contextual [foldl_ok, foldl_snd_ok, foldl_snd2_ok, takenThen_mem, *]) <;> (try (refine foldl_ok _ (fun d x h => ?_) _ _ ?_ <;> (try dsimp only))))))

theorem execTrackingStep_memOk (c : Fin 5) (width : Fin 256) (dev : Fin 18) (moved : Nat) (s : State) (hm : Memory.wf s.dev.mem = true) : Outc.memOk (execTrackingStep c width dev moved s) := by
  refine go_memOk _ _ (fun d h => ?_) hm
  dsimp only; (iterate 3 (all_goals ((repeat' split) <;> (try (rename_i h; have e := snd_eq h; subst e)) <;> (try simp (maxDischargeDepth := 40) +contextual [foldl_ok, foldl_snd_ok, foldl_snd2_ok, takenThen_mem, *]) <;> (try (refine foldl_ok _ (fun d x h => ?_) _ _ ?_ <;> (try dsimp only))))))

theorem execNeighbourRefresh_memOk (log : Fin 4) (s : State) (hm : Memory.wf s.dev.mem = true) : Outc.memOk (execNeighbourRefresh log s) := by
  refine go_memOk _ _ (fun d h => ?_) hm
  (repeat' split) <;> simp (maxDischargeDepth := 40) [h]

theorem execCreditWindow_memOk (s : State) (hm : Memory.wf s.dev.mem = true) : Outc.memOk (execCreditWindow s) := by
  refine go_memOk _ _ (fun d h => ?_) hm
  simp (maxDischargeDepth := 40) [h]

theorem execSlotGrant_memOk (log : Fin 4) (ecc : Ecc) (s : State) (hm : Memory.wf s.dev.mem = true) : Outc.memOk (execSlotGrant log ecc s) := by
  refine go_memOk _ _ (fun d h => ?_) hm
  (repeat' split) <;> simp (maxDischargeDepth := 40) [h]

theorem execSmSpareStart_memOk (src : Src) (chan : Fin 8) (s : State) (hm : Memory.wf s.dev.mem = true) : Outc.memOk (execSmSpareStart src chan s) := by
  refine go_memOk _ _ (fun d h => ?_) hm
  simp (maxDischargeDepth := 40) [h]

theorem execSparingComplete_memOk (s : State) (hm : Memory.wf s.dev.mem = true) : Outc.memOk (execSparingComplete s) := by
  refine go_memOk _ _ (fun d h => ?_) hm
  (repeat' split) <;> simp (maxDischargeDepth := 40) [h]

theorem execChannelAbruptFail_memOk (c : Fin 5) (s : State) (hm : Memory.wf s.dev.mem = true) : Outc.memOk (execChannelAbruptFail c s) := by
  refine go_memOk _ _ (fun d h => ?_) hm
  simp (maxDischargeDepth := 40) [h]

theorem execPllLockLoss_memOk (isl : Fin 100) (s : State) (hm : Memory.wf s.dev.mem = true) : Outc.memOk (execPllLockLoss isl s) := by
  refine go_memOk _ _ (fun d h => ?_) hm
  simp (maxDischargeDepth := 40) [h]

theorem execSelfCheckFail_memOk (u : CheckUnit) (s : State) (hm : Memory.wf s.dev.mem = true) : Outc.memOk (execSelfCheckFail u s) := by
  refine go_memOk _ _ (fun d h => ?_) hm
  (repeat' split) <;> simp (maxDischargeDepth := 40) [h]

theorem execUnitFence_memOk (s : State) (hm : Memory.wf s.dev.mem = true) : Outc.memOk (execUnitFence s) := by
  refine go_memOk _ _ (fun d h => ?_) hm
  simp (maxDischargeDepth := 40) [h]

theorem execDraughtReclaim_memOk (g : Fin 26) (s : State) (hm : Memory.wf s.dev.mem = true) : Outc.memOk (execDraughtReclaim g s) := by
  refine go_memOk _ _ (fun d h => ?_) hm
  (repeat' split) <;> simp (maxDischargeDepth := 40) [h]

theorem execGalleryTakeover_memOk (s : State) (hm : Memory.wf s.dev.mem = true) : Outc.memOk (execGalleryTakeover s) := by
  refine go_memOk _ _ (fun d h => ?_) hm
  (repeat' split) <;> simp (maxDischargeDepth := 40) [h]

theorem execRlForceGo_memOk (src : Src) (kind : Fin 4) (ret : Bool) (unit : Fin 32) (pass : Bool) (s : State) (hm : Memory.wf s.dev.mem = true) : Outc.memOk (execRlForceGo src kind ret unit pass s) := by
  refine go_memOk _ _ (fun d h => ?_) hm
  simp (maxDischargeDepth := 40) [h]

theorem execSwapDrainDone_memOk (s : State) (hm : Memory.wf s.dev.mem = true) : Outc.memOk (execSwapDrainDone s) := by
  refine go_memOk _ _ (fun d h => ?_) hm
  (repeat' split) <;> simp (maxDischargeDepth := 40) [h]

theorem execPhaseShed_memOk (rail : Fin 6) (low : List (Fin 100 × Fin 4096)) (dead : Bool) (s : State) (hm : Memory.wf s.dev.mem = true) : Outc.memOk (execPhaseShed rail low dead s) := by
  refine go_memOk _ _ (fun d h => ?_) hm
  (repeat' split) <;> simp (maxDischargeDepth := 40) [h]

theorem execDrainTimeout_memOk (g : Fin 26) (slot : Fin 2048) (s : State) (hm : Memory.wf s.dev.mem = true) : Outc.memOk (execDrainTimeout g slot s) := by
  refine go_memOk _ _ (fun d h => ?_) hm
  dsimp only; (iterate 3 (all_goals ((repeat' split) <;> (try (rename_i h; have e := snd_eq h; subst e)) <;> (try simp (maxDischargeDepth := 40) +contextual [foldl_ok, foldl_snd_ok, foldl_snd2_ok, takenThen_mem, *]) <;> (try (refine foldl_ok _ (fun d x h => ?_) _ _ ?_ <;> (try dsimp only))))))

theorem execAlarmCauseExpiry_memOk (b : Fin 16) (s : State) (hm : Memory.wf s.dev.mem = true) : Outc.memOk (execAlarmCauseExpiry b s) := by
  refine go_memOk _ _ (fun d h => ?_) hm
  (repeat' split) <;> simp (maxDischargeDepth := 40) [h]

theorem execVmainFall_memOk (s : State) (hm : Memory.wf s.dev.mem = true) : Outc.memOk (execVmainFall s) := by
  refine go_memOk _ _ (fun d h => ?_) hm
  (repeat' split) <;> simp (maxDischargeDepth := 40) [h]

theorem execVmainDip_memOk (s : State) (hm : Memory.wf s.dev.mem = true) : Outc.memOk (execVmainDip s) := by
  refine go_memOk _ _ (fun d h => ?_) hm
  simp (maxDischargeDepth := 40) [h]

theorem execShedComplete_memOk (s : State) (hm : Memory.wf s.dev.mem = true) : Outc.memOk (execShedComplete s) := by
  refine go_memOk _ _ (fun d h => ?_) hm
  dsimp only; (iterate 3 (all_goals ((repeat' split) <;> (try (rename_i h; have e := snd_eq h; subst e)) <;> (try simp (maxDischargeDepth := 40) +contextual [foldl_ok, foldl_snd_ok, foldl_snd2_ok, takenThen_mem, *]) <;> (try (refine foldl_ok _ (fun d x h => ?_) _ _ ?_ <;> (try dsimp only))))))

theorem execVmainRise_memOk (s : State) (hm : Memory.wf s.dev.mem = true) : Outc.memOk (execVmainRise s) := by
  refine go_memOk _ _ (fun d h => ?_) hm
  dsimp only; (iterate 3 (all_goals ((repeat' split) <;> (try (rename_i h; have e := snd_eq h; subst e)) <;> (try simp (maxDischargeDepth := 40) +contextual [foldl_ok, foldl_snd_ok, foldl_snd2_ok, takenThen_mem, *]) <;> (try (refine foldl_ok _ (fun d x h => ?_) _ _ ?_ <;> (try dsimp only))))))

theorem execRestoreComplete_memOk (s : State) (hm : Memory.wf s.dev.mem = true) : Outc.memOk (execRestoreComplete s) := by
  refine go_memOk _ _ (fun d h => ?_) hm
  dsimp only; (iterate 3 (all_goals ((repeat' split) <;> (try (rename_i h; have e := snd_eq h; subst e)) <;> (try simp (maxDischargeDepth := 40) +contextual [foldl_ok, foldl_snd_ok, foldl_snd2_ok, takenThen_mem, *]) <;> (try (refine foldl_ok _ (fun d x h => ?_) _ _ ?_ <;> (try dsimp only))))))

theorem execStoreLow_memOk (s : State) (hm : Memory.wf s.dev.mem = true) : Outc.memOk (execStoreLow s) := by
  refine go_memOk _ _ (fun d h => ?_) hm
  simp (maxDischargeDepth := 40) [h]

theorem execVmainInvalid_memOk (s : State) (hm : Memory.wf s.dev.mem = true) : Outc.memOk (execVmainInvalid s) := by
  refine go_memOk _ _ (fun d h => ?_) hm
  simp (maxDischargeDepth := 40) [h]

theorem execStoreCharged_memOk (s : State) (hm : Memory.wf s.dev.mem = true) : Outc.memOk (execStoreCharged s) := by
  refine go_memOk _ _ (fun d h => ?_) hm
  simp (maxDischargeDepth := 40) [h]

theorem execVkeepLoss_memOk (s : State) (hm : Memory.wf s.dev.mem = true) : Outc.memOk (execVkeepLoss s) := by
  refine go_memOk _ _ (fun d h => ?_) hm
  simp (maxDischargeDepth := 40) [h]

theorem execPwDomReq_memOk (src : Src) (dom : Fin 50) (req : Fin 4) (s : State) (hm : Memory.wf s.dev.mem = true) : Outc.memOk (execPwDomReq src dom req s) := by
  refine go_memOk _ _ (fun d h => ?_) hm
  simp (maxDischargeDepth := 40) [h]

theorem execDomainRampDone_memOk (dom : Fin 50) (ok : Bool) (s : State) (hm : Memory.wf s.dev.mem = true) : Outc.memOk (execDomainRampDone dom ok s) := by
  refine go_memOk _ _ (fun d h => ?_) hm
  (repeat' split) <;> simp (maxDischargeDepth := 40) [h]

theorem execThermalStep_memOk (isl : Fin 100) (s : State) (hm : Memory.wf s.dev.mem = true) : Outc.memOk (execThermalStep isl s) := by
  refine go_memOk _ _ (fun d h => ?_) hm
  (repeat' split) <;> simp (maxDischargeDepth := 40) [h]

theorem execThermalTrip_memOk (s : State) (hm : Memory.wf s.dev.mem = true) : Outc.memOk (execThermalTrip s) := by
  refine go_memOk _ _ (fun d h => ?_) hm
  simp (maxDischargeDepth := 40) [h]

theorem execScrubStep_memOk (item : ScrubItem) (s : State) (hm : Memory.wf s.dev.mem = true) : Outc.memOk (execScrubStep item s) := by
  unfold execScrubStep
  refine go_memOk _ _ (fun d h => ?_) hm
  (try dsimp only)
  (repeat' split) <;> first | exact h | (simp (maxDischargeDepth := 40) [h]; done) | (simp_all (maxDischargeDepth := 40); done)

theorem execScrubPassLate_memOk (region : Fin 9) (s : State) (hm : Memory.wf s.dev.mem = true) : Outc.memOk (execScrubPassLate region s) := by
  refine go_memOk _ _ (fun d h => ?_) hm
  simp (maxDischargeDepth := 40) [h]

theorem execCalibrationCycle_memOk (item : CalItem) (s : State) (hm : Memory.wf s.dev.mem = true) : Outc.memOk (execCalibrationCycle item s) := by
  refine go_memOk _ _ (fun d h => ?_) hm
  dsimp only; (iterate 3 (all_goals ((repeat' split) <;> (try (rename_i h; have e := snd_eq h; subst e)) <;> (try simp (maxDischargeDepth := 40) +contextual [foldl_ok, foldl_snd_ok, foldl_snd2_ok, takenThen_mem, *]) <;> (try (refine foldl_ok _ (fun d x h => ?_) _ _ ?_ <;> (try dsimp only))))))

theorem execAgeingMeasure_memOk (slow : List (Fin 100 × Fin 10001)) (s : State) (hm : Memory.wf s.dev.mem = true) : Outc.memOk (execAgeingMeasure slow s) := by
  refine go_memOk _ _ (fun d h => ?_) hm
  simp (maxDischargeDepth := 40) [h]

theorem execStressAccrue_memOk (g : Fin 26) (p : Fin 65537) (tj : Fin 4096) (s : State) (hm : Memory.wf s.dev.mem = true) : Outc.memOk (execStressAccrue g p tj s) := by
  refine go_memOk _ _ (fun d h => ?_) hm
  simp (maxDischargeDepth := 40) [h]

theorem execRotationStep_memOk (s : State) (hm : Memory.wf s.dev.mem = true) : Outc.memOk (execRotationStep s) := by
  refine go_memOk _ _ (fun d h => ?_) hm
  dsimp only; (iterate 3 (all_goals ((repeat' split) <;> (try (rename_i h; have e := snd_eq h; subst e)) <;> (try simp (maxDischargeDepth := 40) +contextual [foldl_ok, foldl_snd_ok, foldl_snd2_ok, takenThen_mem, *]) <;> (try (refine foldl_ok _ (fun d x h => ?_) _ _ ?_ <;> (try dsimp only))))))

theorem execThermalPolicyStep_memOk (g : Fin 26) (tj : Int) (s : State) (hm : Memory.wf s.dev.mem = true) : Outc.memOk (execThermalPolicyStep g tj s) := by
  refine go_memOk _ _ (fun d h => ?_) hm
  simp (maxDischargeDepth := 40) [h]

theorem execRefreshPolicyStep_memOk (count : Nat) (s : State) (hm : Memory.wf s.dev.mem = true) : Outc.memOk (execRefreshPolicyStep count s) := by
  refine go_memOk _ _ (fun d h => ?_) hm
  simp (maxDischargeDepth := 40) [h]

theorem execFreezePolicyStep_memOk (p : Fin 4) (count : Nat) (s : State) (hm : Memory.wf s.dev.mem = true) : Outc.memOk (execFreezePolicyStep p count s) := by
  refine go_memOk _ _ (fun d h => ?_) hm
  simp (maxDischargeDepth := 40) [h]

theorem execTelemetrySnapshot_memOk (vmon : Word64) (therm : Word32) (rest : List Byte) (s : State) (hm : Memory.wf s.dev.mem = true) : Outc.memOk (execTelemetrySnapshot vmon therm rest s) := by
  refine go_memOk _ _ (fun d h => ?_) hm
  simp (maxDischargeDepth := 40) [h]

theorem execCalendarSecond_memOk (s : State) (hm : Memory.wf s.dev.mem = true) : Outc.memOk (execCalendarSecond s) := by
  refine go_memOk _ _ (fun d h => ?_) hm
  simp (maxDischargeDepth := 40) [h]

theorem execLedgerWrite_memOk (s : State) (hm : Memory.wf s.dev.mem = true) : Outc.memOk (execLedgerWrite s) := by
  refine go_memOk _ _ (fun d h => ?_) hm
  dsimp only; (iterate 3 (all_goals ((repeat' split) <;> (try (rename_i h; have e := snd_eq h; subst e)) <;> (try simp (maxDischargeDepth := 40) +contextual [foldl_ok, foldl_snd_ok, foldl_snd2_ok, takenThen_mem, *]) <;> (try (refine foldl_ok _ (fun d x h => ?_) _ _ ?_ <;> (try dsimp only))))))

theorem execTallyRecord_memOk (s : State) (hm : Memory.wf s.dev.mem = true) : Outc.memOk (execTallyRecord s) := by
  refine go_memOk _ _ (fun d h => ?_) hm
  (repeat' split) <;> simp (maxDischargeDepth := 40) [h]

theorem execTallyCredit_memOk (s : State) (hm : Memory.wf s.dev.mem = true) : Outc.memOk (execTallyCredit s) := by
  refine go_memOk _ _ (fun d h => ?_) hm
  simp (maxDischargeDepth := 40) [h]

theorem execSuppressionRecord_memOk (code : Fin 4864) (s : State) (hm : Memory.wf s.dev.mem = true) : Outc.memOk (execSuppressionRecord code s) := by
  refine go_memOk _ _ (fun d h => ?_) hm
  (repeat' split) <;> simp (maxDischargeDepth := 40) [h]

theorem execChunkProgram_memOk (s : State) (hm : Memory.wf s.dev.mem = true) : Outc.memOk (execChunkProgram s) := by
  refine go_memOk _ _ (fun d h => ?_) hm
  simp (maxDischargeDepth := 40) [h]

theorem execBlockRetire_memOk (b : Fin 4096) (erase : Bool) (s : State) (hm : Memory.wf s.dev.mem = true) : Outc.memOk (execBlockRetire b erase s) := by
  refine go_memOk _ _ (fun d h => ?_) hm
  simp (maxDischargeDepth := 40) [h]

theorem execTallyClose_memOk (s : State) (hm : Memory.wf s.dev.mem = true) : Outc.memOk (execTallyClose s) := by
  refine go_memOk _ _ (fun d h => ?_) hm
  simp (maxDischargeDepth := 40) [h]

theorem execTallyOpen_memOk (torn : Fin 17) (s : State) (hm : Memory.wf s.dev.mem = true) : Outc.memOk (execTallyOpen torn s) := by
  refine go_memOk _ _ (fun d h => ?_) hm
  simp (maxDischargeDepth := 40) [h]

theorem execSmbStatusRead_memOk (s : State) (hm : Memory.wf s.dev.mem = true) : Outc.memOk (execSmbStatusRead s) := by
  refine go_memOk _ _ (fun d h => ?_) hm
  simp (maxDischargeDepth := 40) [h]

theorem execSmbPointerWrite_memOk (area : Fin 256) (index : Word32) (s : State) (hm : Memory.wf s.dev.mem = true) : Outc.memOk (execSmbPointerWrite area index s) := by
  refine go_memOk _ _ (fun d h => ?_) hm
  simp (maxDischargeDepth := 40) [h]

theorem execSmbRecordRead_memOk (s : State) (hm : Memory.wf s.dev.mem = true) : Outc.memOk (execSmbRecordRead s) := by
  refine go_memOk _ _ (fun d h => ?_) hm
  (repeat' split) <;> simp (maxDischargeDepth := 40) [h]

theorem execSmbCountRead_memOk (s : State) (hm : Memory.wf s.dev.mem = true) : Outc.memOk (execSmbCountRead s) := by
  refine go_memOk _ _ (fun d h => ?_) hm
  simp (maxDischargeDepth := 40) [h]

theorem execBypass_memOk (tdi : List Bool) (s : State) (hm : Memory.wf s.dev.mem = true) : Outc.memOk (execBypass tdi s) := by
  refine go_memOk _ _ (fun d h => ?_) hm
  simp (maxDischargeDepth := 40) [h]

theorem execIdcode_memOk (s : State) (hm : Memory.wf s.dev.mem = true) : Outc.memOk (execIdcode s) := by
  refine go_memOk _ _ (fun d h => ?_) hm
  simp (maxDischargeDepth := 40) [h]

theorem execSamplePreload_memOk (pins load : BitVec 14) (s : State) (hm : Memory.wf s.dev.mem = true) : Outc.memOk (execSamplePreload pins load s) := by
  refine go_memOk _ _ (fun d h => ?_) hm
  simp (maxDischargeDepth := 40) [h]

theorem execExtest_memOk (load : BitVec 14) (s : State) (hm : Memory.wf s.dev.mem = true) : Outc.memOk (execExtest load s) := by
  refine go_memOk _ _ (fun d h => ?_) hm
  simp (maxDischargeDepth := 40) [h]

theorem execChallenge_memOk (s : State) (hm : Memory.wf s.dev.mem = true) : Outc.memOk (execChallenge s) := by
  refine go_memOk _ _ (fun d h => ?_) hm
  simp (maxDischargeDepth := 40) [h]

theorem execUnlock_memOk (verifies : Bool) (s : State) (hm : Memory.wf s.dev.mem = true) : Outc.memOk (execUnlock verifies s) := by
  refine go_memOk _ _ (fun d h => ?_) hm
  simp (maxDischargeDepth := 40) [h]

theorem execLock_memOk (s : State) (hm : Memory.wf s.dev.mem = true) : Outc.memOk (execLock s) := by
  refine go_memOk _ _ (fun d h => ?_) hm
  simp (maxDischargeDepth := 40) [h]

theorem execDbacc_memOk (write : Bool) (off : Fin 67108864) (data : Word32) (s : State) (hm : Memory.wf s.dev.mem = true) : Outc.memOk (execDbacc write off data s) := by
  refine go_memOk _ _ (fun d h => ?_) hm
  dsimp only; (iterate 3 (all_goals ((repeat' split) <;> (try (rename_i h; have e := snd_eq h; subst e)) <;> (try simp (maxDischargeDepth := 40) +contextual [foldl_ok, foldl_snd_ok, foldl_snd2_ok, takenThen_mem, *]) <;> (try (refine foldl_ok _ (fun d x h => ?_) _ _ ?_ <;> (try dsimp only))))))

theorem execNonceExpiry_memOk (s : State) (hm : Memory.wf s.dev.mem = true) : Outc.memOk (execNonceExpiry s) := by
  refine go_memOk _ _ (fun d h => ?_) hm
  simp (maxDischargeDepth := 40) [h]

theorem execDbTcmdHalt_memOk (src : Src) (thread : Fin 2048) (all : Bool) (s : State) (hm : Memory.wf s.dev.mem = true) : Outc.memOk (execDbTcmdHalt src thread all s) := by
  refine go_memOk _ _ (fun d h => ?_) hm
  simp (maxDischargeDepth := 40) [h]

theorem execDbTcmdResume_memOk (src : Src) (thread : Fin 2048) (all : Bool) (s : State) (hm : Memory.wf s.dev.mem = true) : Outc.memOk (execDbTcmdResume src thread all s) := by
  refine go_memOk _ _ (fun d h => ?_) hm
  simp (maxDischargeDepth := 40) [h]

theorem execDbTcmdStep_memOk (src : Src) (thread : Fin 2048) (all : Bool) (s : State) (hm : Memory.wf s.dev.mem = true) : Outc.memOk (execDbTcmdStep src thread all s) := by
  refine go_memOk _ _ (fun d h => ?_) hm
  simp (maxDischargeDepth := 40) [h]

theorem execDbTcmdKill_memOk (src : Src) (thread : Fin 2048) (all : Bool) (s : State) (hm : Memory.wf s.dev.mem = true) : Outc.memOk (execDbTcmdKill src thread all s) := by
  refine go_memOk _ _ (fun d h => ?_) hm
  simp (maxDischargeDepth := 40) [h]

theorem execTraceSync_memOk (s : State) (hm : Memory.wf s.dev.mem = true) : Outc.memOk (execTraceSync s) := by
  refine go_memOk _ _ (fun d h => ?_) hm
  simp (maxDischargeDepth := 40) [h]

theorem execGalleryTraceDrain_memOk (s : State) (hm : Memory.wf s.dev.mem = true) : Outc.memOk (execGalleryTraceDrain s) := by
  refine go_memOk _ _ (fun d h => ?_) hm
  have hx : ∀ n i wrap rs, Memory.wf (d.ringPut (d.rd R.DB_GTRRING F.DB_GTRRING_base * 4096) n i wrap rs).2.mem = true := fun n i wrap rs => Dev.ringPut_mem _ _ _ _ _ _ h
  dsimp only
  refine ite_ok _ _ _ h ?_
  rw [Dev.galTraceAt_mem]
  exact hx _ _ _ _

theorem execCp2Operation_memOk (k : Fin 1664) (op r : Fin 16) (s : State) (hm : Memory.wf s.dev.mem = true) : Outc.memOk (execCp2Operation k op r s) := by
  refine go_memOk _ _ (fun d h => ?_) hm
  refine Dev.issue_mem _ _ _ _ _ _ _ _ (fun t e h => ?_) h
  (try dsimp only); (repeat' split) <;> simp [Act.memOk, h]

theorem execIllegalInstruction_memOk (k : Fin 1664) (s : State) (hm : Memory.wf s.dev.mem = true) : Outc.memOk (execIllegalInstruction k s) := by
  unfold execIllegalInstruction
  refine go_memOk _ _ (fun d h => ?_) hm
  split
  · exact Dev.issue_mem _ _ _ _ _ _ _ _ (fun _ _ _ => trivial) h
  · exact h

theorem execAssayerIllegalOp_memOk (p : Fin 4) (a : Fin 16) (s : State) (hm : Memory.wf s.dev.mem = true) : Outc.memOk (execAssayerIllegalOp p a s) := by
  refine go_memOk _ _ (fun d h => ?_) hm
  simp (maxDischargeDepth := 40) [h]

theorem execAreaWrite_memOk (src : Src) (a : Fin 4296015872) (size : Fin 9) (v : Word64) (s : State) (hm : Memory.wf s.dev.mem = true) : Outc.memOk (execAreaWrite src a size v s) := by
  refine go_memOk _ _ (fun d h => ?_) hm
  (repeat' split) <;> simp (maxDischargeDepth := 40) [h]

theorem execAsRverCommit_memOk (src : Src) (s : State) (hm : Memory.wf s.dev.mem = true) : Outc.memOk (execAsRverCommit src s) := by
  refine go_memOk _ _ (fun d h => ?_) hm
  simp (maxDischargeDepth := 40) [h]

theorem execAsRverRetire_memOk (src : Src) (commit : Bool) (s : State) (hm : Memory.wf s.dev.mem = true) : Outc.memOk (execAsRverRetire src commit s) := by
  refine go_memOk _ _ (fun d h => ?_) hm
  simp (maxDischargeDepth := 40) [h]

theorem execAsRcmdStart_memOk (src : Src) (op : Fin 4) (index : Fin 32768) (flag : Bool) (s : State) (hm : Memory.wf s.dev.mem = true) : Outc.memOk (execAsRcmdStart src op index flag s) := by
  refine go_memOk _ _ (fun d h => ?_) hm
  simp (maxDischargeDepth := 40) [h]

theorem execBadRequest_memOk (fn : Fin 64) (s : State) (hm : Memory.wf s.dev.mem = true) : Outc.memOk (execBadRequest fn s) := by
  unfold execBadRequest
  refine go_memOk _ _ (fun d h => ?_) hm
  (try dsimp only)
  (repeat' split) <;> first | exact h | (simp (maxDischargeDepth := 40) [h]; done) | (simp_all (maxDischargeDepth := 40); done)

theorem execOvermanTakesFrame_memOk (full : Bool) (s : State) (hm : Memory.wf s.dev.mem = true) : Outc.memOk (execOvermanTakesFrame full s) := by
  refine go_memOk _ _ (fun d h => ?_) hm
  dsimp only; (iterate 3 (all_goals ((repeat' split) <;> (try (rename_i h; have e := snd_eq h; subst e)) <;> (try simp (maxDischargeDepth := 40) +contextual [foldl_ok, foldl_snd_ok, foldl_snd2_ok, takenThen_mem, *]) <;> (try (refine foldl_ok _ (fun d x h => ?_) _ _ ?_ <;> (try dsimp only))))))

theorem execPtpMessageSend_memOk (p : Fin 32) (kind : Fin 16) (s : State) (hm : Memory.wf s.dev.mem = true) : Outc.memOk (execPtpMessageSend p kind s) := by
  refine go_memOk _ _ (fun d h => ?_) hm
  dsimp only; (iterate 3 (all_goals ((repeat' split) <;> (try (rename_i h; have e := snd_eq h; subst e)) <;> (try simp (maxDischargeDepth := 40) +contextual [foldl_ok, foldl_snd_ok, foldl_snd2_ok, takenThen_mem, *]) <;> (try (refine foldl_ok _ (fun d x h => ?_) _ _ ?_ <;> (try dsimp only))))))

theorem execPtpParentChange_memOk (p : Fin 32) (s : State) (hm : Memory.wf s.dev.mem = true) : Outc.memOk (execPtpParentChange p s) := by
  refine go_memOk _ _ (fun d h => ?_) hm
  simp (maxDischargeDepth := 40) [h]

theorem execPauseQuantaExpiry_memOk (p : Fin 32) (mask : Fin 256) (s : State) (hm : Memory.wf s.dev.mem = true) : Outc.memOk (execPauseQuantaExpiry p mask s) := by
  refine go_memOk _ _ (fun d h => ?_) hm
  simp (maxDischargeDepth := 40) [h]

theorem execConfigurationWrite_memOk (fn : Fin 64) (bme d3 : Bool) (vf : Option (Bool × Fin 64)) (s : State) (hm : Memory.wf s.dev.mem = true) : Outc.memOk (execConfigurationWrite fn bme d3 vf s) := by
  refine go_memOk _ _ (fun d h => ?_) hm
  dsimp only; (iterate 3 (all_goals ((repeat' split) <;> (try (rename_i h; have e := snd_eq h; subst e)) <;> (try simp (maxDischargeDepth := 40) +contextual [foldl_ok, foldl_snd_ok, foldl_snd2_ok, takenThen_mem, *]) <;> (try (refine foldl_ok _ (fun d x h => ?_) _ _ ?_ <;> (try dsimp only))))))

theorem execMsixUnmask_memOk (fn : Fin 64) (e : Fin 2048) (s : State) (hm : Memory.wf s.dev.mem = true) : Outc.memOk (execMsixUnmask fn e s) := by
  refine go_memOk _ _ (fun d h => ?_) hm
  (repeat' split) <;> simp (maxDischargeDepth := 40) [h]

theorem execIdeKm_memOk (fn : Fin 64) (s : State) (hm : Memory.wf s.dev.mem = true) : Outc.memOk (execIdeKm fn s) := by
  refine go_memOk _ _ (fun d h => ?_) hm
  simp (maxDischargeDepth := 40) [h]

theorem execOvermanMemoryError_memOk (s : State) (hm : Memory.wf s.dev.mem = true) : Outc.memOk (execOvermanMemoryError s) := by
  refine go_memOk _ _ (fun d h => ?_) hm
  simp (maxDischargeDepth := 40) [h]

theorem execCoreCFailure_memOk (s : State) (hm : Memory.wf s.dev.mem = true) : Outc.memOk (execCoreCFailure s) := by
  refine go_memOk _ _ (fun d h => ?_) hm
  simp (maxDischargeDepth := 40) [h]

theorem execPhasorBlockRewrite_memOk (b : Fin 32768) (s : State) (hm : Memory.wf s.dev.mem = true) : Outc.memOk (execPhasorBlockRewrite b s) := by
  refine go_memOk _ _ (fun d h => ?_) hm
  dsimp only; (iterate 3 (all_goals ((repeat' split) <;> (try (rename_i h; have e := snd_eq h; subst e)) <;> (try simp (maxDischargeDepth := 40) +contextual [foldl_ok, foldl_snd_ok, foldl_snd2_ok, takenThen_mem, *]) <;> (try (refine foldl_ok _ (fun d x h => ?_) _ _ ?_ <;> (try dsimp only))))))

theorem execTestLogicReset_memOk (s : State) (hm : Memory.wf s.dev.mem = true) : Outc.memOk (execTestLogicReset s) := by
  refine go_memOk _ _ (fun d h => ?_) hm
  simp (maxDischargeDepth := 40) [h]

end Sys2Proof.Machine
end

