-- ==== Sys2Proof/Laws/State.lean ====
section
/-!
SUPPORT. What each elementary update of the device leaves alone, one lemma for each field, and the laws of registers: a write is read
back, and every other register and every other field stays.
-/

namespace Sys2Proof.Machine

@[simp] theorem Dev.rset_now (d : Dev) (r : Reg) (v : Word64) : (d.rset r v).now = d.now := rfl
@[simp] theorem Dev.rset_outbox (d : Dev) (r : Reg) (v : Word64) : (d.rset r v).outbox = d.outbox := rfl
@[simp] theorem Dev.rset_free (d : Dev) (r : Reg) (v : Word64) : (d.rset r v).free = d.free := rfl
@[simp] theorem Dev.rset_frames (d : Dev) (r : Reg) (v : Word64) : (d.rset r v).frames = d.frames := rfl
@[simp] theorem Dev.rset_nextFrame (d : Dev) (r : Reg) (v : Word64) : (d.rset r v).nextFrame = d.nextFrame := rfl
@[simp] theorem Dev.rset_events (d : Dev) (r : Reg) (v : Word64) : (d.rset r v).events = d.events := rfl
@[simp] theorem Dev.rset_as (d : Dev) (r : Reg) (v : Word64) : (d.rset r v).as = d.as := rfl
@[simp] theorem Dev.rset_st (d : Dev) (r : Reg) (v : Word64) : (d.rset r v).st = d.st := rfl
@[simp] theorem Dev.rset_bn (d : Dev) (r : Reg) (v : Word64) : (d.rset r v).bn = d.bn := rfl
@[simp] theorem Dev.rset_xc (d : Dev) (r : Reg) (v : Word64) : (d.rset r v).xc = d.xc := rfl
@[simp] theorem Dev.rset_ho (d : Dev) (r : Reg) (v : Word64) : (d.rset r v).ho = d.ho := rfl
@[simp] theorem Dev.rset_dr (d : Dev) (r : Reg) (v : Word64) : (d.rset r v).dr = d.dr := rfl
@[simp] theorem Dev.rset_tl (d : Dev) (r : Reg) (v : Word64) : (d.rset r v).tl = d.tl := rfl
@[simp] theorem Dev.rset_threads (d : Dev) (r : Reg) (v : Word64) : (d.rset r v).threads = d.threads := rfl
@[simp] theorem Dev.rset_gals (d : Dev) (r : Reg) (v : Word64) : (d.rset r v).gals = d.gals := rfl
@[simp] theorem Dev.rset_tk (d : Dev) (r : Reg) (v : Word64) : (d.rset r v).tk = d.tk := rfl
@[simp] theorem Dev.rset_pt (d : Dev) (r : Reg) (v : Word64) : (d.rset r v).pt = d.pt := rfl
@[simp] theorem Dev.rset_sm (d : Dev) (r : Reg) (v : Word64) : (d.rset r v).sm = d.sm := rfl
@[simp] theorem Dev.rset_ld (d : Dev) (r : Reg) (v : Word64) : (d.rset r v).ld = d.ld := rfl
@[simp] theorem Dev.rset_rl (d : Dev) (r : Reg) (v : Word64) : (d.rset r v).rl = d.rl := rfl
@[simp] theorem Dev.rset_db (d : Dev) (r : Reg) (v : Word64) : (d.rset r v).db = d.db := rfl
@[simp] theorem Dev.rset_bg (d : Dev) (r : Reg) (v : Word64) : (d.rset r v).bg = d.bg := rfl
@[simp] theorem Dev.rset_tb (d : Dev) (r : Reg) (v : Word64) : (d.rset r v).tb = d.tb := rfl
@[simp] theorem Dev.rset_ph (d : Dev) (r : Reg) (v : Word64) : (d.rset r v).ph = d.ph := rfl
@[simp] theorem Dev.rset_cg (d : Dev) (r : Reg) (v : Word64) : (d.rset r v).cg = d.cg := rfl
@[simp] theorem Dev.rset_hi (d : Dev) (r : Reg) (v : Word64) : (d.rset r v).hi = d.hi := rfl
@[simp] theorem Dev.rset_bus (d : Dev) (r : Reg) (v : Word64) : (d.rset r v).bus = d.bus := rfl
@[simp] theorem Dev.rset_bo (d : Dev) (r : Reg) (v : Word64) : (d.rset r v).bo = d.bo := rfl
@[simp] theorem Dev.rset_pw (d : Dev) (r : Reg) (v : Word64) : (d.rset r v).pw = d.pw := rfl
@[simp] theorem Dev.rset_devState (d : Dev) (r : Reg) (v : Word64) : (d.rset r v).devState = d.devState := rfl
@[simp] theorem Dev.wr_now (d : Dev) (r : Reg) (f : Fld) (x : Nat) : (d.wr r f x).now = d.now := rfl
@[simp] theorem Dev.wr_outbox (d : Dev) (r : Reg) (f : Fld) (x : Nat) : (d.wr r f x).outbox = d.outbox := rfl
@[simp] theorem Dev.wr_free (d : Dev) (r : Reg) (f : Fld) (x : Nat) : (d.wr r f x).free = d.free := rfl
@[simp] theorem Dev.wr_frames (d : Dev) (r : Reg) (f : Fld) (x : Nat) : (d.wr r f x).frames = d.frames := rfl
@[simp] theorem Dev.wr_nextFrame (d : Dev) (r : Reg) (f : Fld) (x : Nat) : (d.wr r f x).nextFrame = d.nextFrame := rfl
@[simp] theorem Dev.wr_events (d : Dev) (r : Reg) (f : Fld) (x : Nat) : (d.wr r f x).events = d.events := rfl
@[simp] theorem Dev.wr_as (d : Dev) (r : Reg) (f : Fld) (x : Nat) : (d.wr r f x).as = d.as := rfl
@[simp] theorem Dev.wr_st (d : Dev) (r : Reg) (f : Fld) (x : Nat) : (d.wr r f x).st = d.st := rfl
@[simp] theorem Dev.wr_bn (d : Dev) (r : Reg) (f : Fld) (x : Nat) : (d.wr r f x).bn = d.bn := rfl
@[simp] theorem Dev.wr_xc (d : Dev) (r : Reg) (f : Fld) (x : Nat) : (d.wr r f x).xc = d.xc := rfl
@[simp] theorem Dev.wr_ho (d : Dev) (r : Reg) (f : Fld) (x : Nat) : (d.wr r f x).ho = d.ho := rfl
@[simp] theorem Dev.wr_dr (d : Dev) (r : Reg) (f : Fld) (x : Nat) : (d.wr r f x).dr = d.dr := rfl
@[simp] theorem Dev.wr_tl (d : Dev) (r : Reg) (f : Fld) (x : Nat) : (d.wr r f x).tl = d.tl := rfl
@[simp] theorem Dev.wr_threads (d : Dev) (r : Reg) (f : Fld) (x : Nat) : (d.wr r f x).threads = d.threads := rfl
@[simp] theorem Dev.wr_gals (d : Dev) (r : Reg) (f : Fld) (x : Nat) : (d.wr r f x).gals = d.gals := rfl
@[simp] theorem Dev.wr_tk (d : Dev) (r : Reg) (f : Fld) (x : Nat) : (d.wr r f x).tk = d.tk := rfl
@[simp] theorem Dev.wr_pt (d : Dev) (r : Reg) (f : Fld) (x : Nat) : (d.wr r f x).pt = d.pt := rfl
@[simp] theorem Dev.wr_sm (d : Dev) (r : Reg) (f : Fld) (x : Nat) : (d.wr r f x).sm = d.sm := rfl
@[simp] theorem Dev.wr_ld (d : Dev) (r : Reg) (f : Fld) (x : Nat) : (d.wr r f x).ld = d.ld := rfl
@[simp] theorem Dev.wr_rl (d : Dev) (r : Reg) (f : Fld) (x : Nat) : (d.wr r f x).rl = d.rl := rfl
@[simp] theorem Dev.wr_db (d : Dev) (r : Reg) (f : Fld) (x : Nat) : (d.wr r f x).db = d.db := rfl
@[simp] theorem Dev.wr_bg (d : Dev) (r : Reg) (f : Fld) (x : Nat) : (d.wr r f x).bg = d.bg := rfl
@[simp] theorem Dev.wr_tb (d : Dev) (r : Reg) (f : Fld) (x : Nat) : (d.wr r f x).tb = d.tb := rfl
@[simp] theorem Dev.wr_ph (d : Dev) (r : Reg) (f : Fld) (x : Nat) : (d.wr r f x).ph = d.ph := rfl
@[simp] theorem Dev.wr_cg (d : Dev) (r : Reg) (f : Fld) (x : Nat) : (d.wr r f x).cg = d.cg := rfl
@[simp] theorem Dev.wr_hi (d : Dev) (r : Reg) (f : Fld) (x : Nat) : (d.wr r f x).hi = d.hi := rfl
@[simp] theorem Dev.wr_bus (d : Dev) (r : Reg) (f : Fld) (x : Nat) : (d.wr r f x).bus = d.bus := rfl
@[simp] theorem Dev.wr_bo (d : Dev) (r : Reg) (f : Fld) (x : Nat) : (d.wr r f x).bo = d.bo := rfl
@[simp] theorem Dev.wr_pw (d : Dev) (r : Reg) (f : Fld) (x : Nat) : (d.wr r f x).pw = d.pw := rfl
@[simp] theorem Dev.wr_devState (d : Dev) (r : Reg) (f : Fld) (x : Nat) : (d.wr r f x).devState = d.devState := rfl
@[simp] theorem Dev.put_now (d : Dev) (a : Nat) (bs : List Byte) : (d.put a bs).now = d.now := rfl
@[simp] theorem Dev.put_regs (d : Dev) (a : Nat) (bs : List Byte) : (d.put a bs).regs = d.regs := rfl
@[simp] theorem Dev.put_outbox (d : Dev) (a : Nat) (bs : List Byte) : (d.put a bs).outbox = d.outbox := rfl
@[simp] theorem Dev.put_free (d : Dev) (a : Nat) (bs : List Byte) : (d.put a bs).free = d.free := rfl
@[simp] theorem Dev.put_frames (d : Dev) (a : Nat) (bs : List Byte) : (d.put a bs).frames = d.frames := rfl
@[simp] theorem Dev.put_nextFrame (d : Dev) (a : Nat) (bs : List Byte) : (d.put a bs).nextFrame = d.nextFrame := rfl
@[simp] theorem Dev.put_events (d : Dev) (a : Nat) (bs : List Byte) : (d.put a bs).events = d.events := rfl
@[simp] theorem Dev.put_as (d : Dev) (a : Nat) (bs : List Byte) : (d.put a bs).as = d.as := rfl
@[simp] theorem Dev.put_st (d : Dev) (a : Nat) (bs : List Byte) : (d.put a bs).st = d.st := rfl
@[simp] theorem Dev.put_bn (d : Dev) (a : Nat) (bs : List Byte) : (d.put a bs).bn = d.bn := rfl
@[simp] theorem Dev.put_xc (d : Dev) (a : Nat) (bs : List Byte) : (d.put a bs).xc = d.xc := rfl
@[simp] theorem Dev.put_ho (d : Dev) (a : Nat) (bs : List Byte) : (d.put a bs).ho = d.ho := rfl
@[simp] theorem Dev.put_dr (d : Dev) (a : Nat) (bs : List Byte) : (d.put a bs).dr = d.dr := rfl
@[simp] theorem Dev.put_tl (d : Dev) (a : Nat) (bs : List Byte) : (d.put a bs).tl = d.tl := rfl
@[simp] theorem Dev.put_threads (d : Dev) (a : Nat) (bs : List Byte) : (d.put a bs).threads = d.threads := rfl
@[simp] theorem Dev.put_gals (d : Dev) (a : Nat) (bs : List Byte) : (d.put a bs).gals = d.gals := rfl
@[simp] theorem Dev.put_tk (d : Dev) (a : Nat) (bs : List Byte) : (d.put a bs).tk = d.tk := rfl
@[simp] theorem Dev.put_pt (d : Dev) (a : Nat) (bs : List Byte) : (d.put a bs).pt = d.pt := rfl
@[simp] theorem Dev.put_sm (d : Dev) (a : Nat) (bs : List Byte) : (d.put a bs).sm = d.sm := rfl
@[simp] theorem Dev.put_ld (d : Dev) (a : Nat) (bs : List Byte) : (d.put a bs).ld = d.ld := rfl
@[simp] theorem Dev.put_rl (d : Dev) (a : Nat) (bs : List Byte) : (d.put a bs).rl = d.rl := rfl
@[simp] theorem Dev.put_db (d : Dev) (a : Nat) (bs : List Byte) : (d.put a bs).db = d.db := rfl
@[simp] theorem Dev.put_bg (d : Dev) (a : Nat) (bs : List Byte) : (d.put a bs).bg = d.bg := rfl
@[simp] theorem Dev.put_tb (d : Dev) (a : Nat) (bs : List Byte) : (d.put a bs).tb = d.tb := rfl
@[simp] theorem Dev.put_ph (d : Dev) (a : Nat) (bs : List Byte) : (d.put a bs).ph = d.ph := rfl
@[simp] theorem Dev.put_cg (d : Dev) (a : Nat) (bs : List Byte) : (d.put a bs).cg = d.cg := rfl
@[simp] theorem Dev.put_hi (d : Dev) (a : Nat) (bs : List Byte) : (d.put a bs).hi = d.hi := rfl
@[simp] theorem Dev.put_bus (d : Dev) (a : Nat) (bs : List Byte) : (d.put a bs).bus = d.bus := rfl
@[simp] theorem Dev.put_bo (d : Dev) (a : Nat) (bs : List Byte) : (d.put a bs).bo = d.bo := rfl
@[simp] theorem Dev.put_pw (d : Dev) (a : Nat) (bs : List Byte) : (d.put a bs).pw = d.pw := rfl
@[simp] theorem Dev.put_devState (d : Dev) (a : Nat) (bs : List Byte) : (d.put a bs).devState = d.devState := rfl
@[simp] theorem Dev.wipe_now (d : Dev) (lo hi : Nat) : (d.wipe lo hi).now = d.now := rfl
@[simp] theorem Dev.wipe_regs (d : Dev) (lo hi : Nat) : (d.wipe lo hi).regs = d.regs := rfl
@[simp] theorem Dev.wipe_outbox (d : Dev) (lo hi : Nat) : (d.wipe lo hi).outbox = d.outbox := rfl
@[simp] theorem Dev.wipe_free (d : Dev) (lo hi : Nat) : (d.wipe lo hi).free = d.free := rfl
@[simp] theorem Dev.wipe_frames (d : Dev) (lo hi : Nat) : (d.wipe lo hi).frames = d.frames := rfl
@[simp] theorem Dev.wipe_nextFrame (d : Dev) (lo hi : Nat) : (d.wipe lo hi).nextFrame = d.nextFrame := rfl
@[simp] theorem Dev.wipe_events (d : Dev) (lo hi : Nat) : (d.wipe lo hi).events = d.events := rfl
@[simp] theorem Dev.wipe_as (d : Dev) (lo hi : Nat) : (d.wipe lo hi).as = d.as := rfl
@[simp] theorem Dev.wipe_st (d : Dev) (lo hi : Nat) : (d.wipe lo hi).st = d.st := rfl
@[simp] theorem Dev.wipe_bn (d : Dev) (lo hi : Nat) : (d.wipe lo hi).bn = d.bn := rfl
@[simp] theorem Dev.wipe_xc (d : Dev) (lo hi : Nat) : (d.wipe lo hi).xc = d.xc := rfl
@[simp] theorem Dev.wipe_ho (d : Dev) (lo hi : Nat) : (d.wipe lo hi).ho = d.ho := rfl
@[simp] theorem Dev.wipe_dr (d : Dev) (lo hi : Nat) : (d.wipe lo hi).dr = d.dr := rfl
@[simp] theorem Dev.wipe_tl (d : Dev) (lo hi : Nat) : (d.wipe lo hi).tl = d.tl := rfl
@[simp] theorem Dev.wipe_threads (d : Dev) (lo hi : Nat) : (d.wipe lo hi).threads = d.threads := rfl
@[simp] theorem Dev.wipe_gals (d : Dev) (lo hi : Nat) : (d.wipe lo hi).gals = d.gals := rfl
@[simp] theorem Dev.wipe_tk (d : Dev) (lo hi : Nat) : (d.wipe lo hi).tk = d.tk := rfl
@[simp] theorem Dev.wipe_pt (d : Dev) (lo hi : Nat) : (d.wipe lo hi).pt = d.pt := rfl
@[simp] theorem Dev.wipe_sm (d : Dev) (lo hi : Nat) : (d.wipe lo hi).sm = d.sm := rfl
@[simp] theorem Dev.wipe_ld (d : Dev) (lo hi : Nat) : (d.wipe lo hi).ld = d.ld := rfl
@[simp] theorem Dev.wipe_rl (d : Dev) (lo hi : Nat) : (d.wipe lo hi).rl = d.rl := rfl
@[simp] theorem Dev.wipe_db (d : Dev) (lo hi : Nat) : (d.wipe lo hi).db = d.db := rfl
@[simp] theorem Dev.wipe_bg (d : Dev) (lo hi : Nat) : (d.wipe lo hi).bg = d.bg := rfl
@[simp] theorem Dev.wipe_tb (d : Dev) (lo hi : Nat) : (d.wipe lo hi).tb = d.tb := rfl
@[simp] theorem Dev.wipe_ph (d : Dev) (lo hi : Nat) : (d.wipe lo hi).ph = d.ph := rfl
@[simp] theorem Dev.wipe_cg (d : Dev) (lo hi : Nat) : (d.wipe lo hi).cg = d.cg := rfl
@[simp] theorem Dev.wipe_hi (d : Dev) (lo hi : Nat) : (d.wipe lo hi).hi = d.hi := rfl
@[simp] theorem Dev.wipe_bus (d : Dev) (lo hi : Nat) : (d.wipe lo hi).bus = d.bus := rfl
@[simp] theorem Dev.wipe_bo (d : Dev) (lo hi : Nat) : (d.wipe lo hi).bo = d.bo := rfl
@[simp] theorem Dev.wipe_pw (d : Dev) (lo hi : Nat) : (d.wipe lo hi).pw = d.pw := rfl
@[simp] theorem Dev.wipe_devState (d : Dev) (lo hi : Nat) : (d.wipe lo hi).devState = d.devState := rfl
@[simp] theorem Dev.tally_now (d : Dev) (code unit : Nat) (data : List Nat) (n : Nat) : (d.tally code unit data n).now = d.now := rfl
@[simp] theorem Dev.tally_regs (d : Dev) (code unit : Nat) (data : List Nat) (n : Nat) : (d.tally code unit data n).regs = d.regs := rfl
@[simp] theorem Dev.tally_outbox (d : Dev) (code unit : Nat) (data : List Nat) (n : Nat) : (d.tally code unit data n).outbox = d.outbox := rfl
@[simp] theorem Dev.tally_free (d : Dev) (code unit : Nat) (data : List Nat) (n : Nat) : (d.tally code unit data n).free = d.free := rfl
@[simp] theorem Dev.tally_frames (d : Dev) (code unit : Nat) (data : List Nat) (n : Nat) : (d.tally code unit data n).frames = d.frames := rfl
@[simp] theorem Dev.tally_nextFrame (d : Dev) (code unit : Nat) (data : List Nat) (n : Nat) : (d.tally code unit data n).nextFrame = d.nextFrame := rfl
@[simp] theorem Dev.tally_events (d : Dev) (code unit : Nat) (data : List Nat) (n : Nat) : (d.tally code unit data n).events = d.events := rfl
@[simp] theorem Dev.tally_as (d : Dev) (code unit : Nat) (data : List Nat) (n : Nat) : (d.tally code unit data n).as = d.as := rfl
@[simp] theorem Dev.tally_st (d : Dev) (code unit : Nat) (data : List Nat) (n : Nat) : (d.tally code unit data n).st = d.st := rfl
@[simp] theorem Dev.tally_bn (d : Dev) (code unit : Nat) (data : List Nat) (n : Nat) : (d.tally code unit data n).bn = d.bn := rfl
@[simp] theorem Dev.tally_xc (d : Dev) (code unit : Nat) (data : List Nat) (n : Nat) : (d.tally code unit data n).xc = d.xc := rfl
@[simp] theorem Dev.tally_ho (d : Dev) (code unit : Nat) (data : List Nat) (n : Nat) : (d.tally code unit data n).ho = d.ho := rfl
@[simp] theorem Dev.tally_dr (d : Dev) (code unit : Nat) (data : List Nat) (n : Nat) : (d.tally code unit data n).dr = d.dr := rfl
@[simp] theorem Dev.tally_threads (d : Dev) (code unit : Nat) (data : List Nat) (n : Nat) : (d.tally code unit data n).threads = d.threads := rfl
@[simp] theorem Dev.tally_gals (d : Dev) (code unit : Nat) (data : List Nat) (n : Nat) : (d.tally code unit data n).gals = d.gals := rfl
@[simp] theorem Dev.tally_tk (d : Dev) (code unit : Nat) (data : List Nat) (n : Nat) : (d.tally code unit data n).tk = d.tk := rfl
@[simp] theorem Dev.tally_pt (d : Dev) (code unit : Nat) (data : List Nat) (n : Nat) : (d.tally code unit data n).pt = d.pt := rfl
@[simp] theorem Dev.tally_sm (d : Dev) (code unit : Nat) (data : List Nat) (n : Nat) : (d.tally code unit data n).sm = d.sm := rfl
@[simp] theorem Dev.tally_ld (d : Dev) (code unit : Nat) (data : List Nat) (n : Nat) : (d.tally code unit data n).ld = d.ld := rfl
@[simp] theorem Dev.tally_rl (d : Dev) (code unit : Nat) (data : List Nat) (n : Nat) : (d.tally code unit data n).rl = d.rl := rfl
@[simp] theorem Dev.tally_db (d : Dev) (code unit : Nat) (data : List Nat) (n : Nat) : (d.tally code unit data n).db = d.db := rfl
@[simp] theorem Dev.tally_bg (d : Dev) (code unit : Nat) (data : List Nat) (n : Nat) : (d.tally code unit data n).bg = d.bg := rfl
@[simp] theorem Dev.tally_tb (d : Dev) (code unit : Nat) (data : List Nat) (n : Nat) : (d.tally code unit data n).tb = d.tb := rfl
@[simp] theorem Dev.tally_ph (d : Dev) (code unit : Nat) (data : List Nat) (n : Nat) : (d.tally code unit data n).ph = d.ph := rfl
@[simp] theorem Dev.tally_cg (d : Dev) (code unit : Nat) (data : List Nat) (n : Nat) : (d.tally code unit data n).cg = d.cg := rfl
@[simp] theorem Dev.tally_hi (d : Dev) (code unit : Nat) (data : List Nat) (n : Nat) : (d.tally code unit data n).hi = d.hi := rfl
@[simp] theorem Dev.tally_bus (d : Dev) (code unit : Nat) (data : List Nat) (n : Nat) : (d.tally code unit data n).bus = d.bus := rfl
@[simp] theorem Dev.tally_bo (d : Dev) (code unit : Nat) (data : List Nat) (n : Nat) : (d.tally code unit data n).bo = d.bo := rfl
@[simp] theorem Dev.tally_pw (d : Dev) (code unit : Nat) (data : List Nat) (n : Nat) : (d.tally code unit data n).pw = d.pw := rfl
@[simp] theorem Dev.tally_devState (d : Dev) (code unit : Nat) (data : List Nat) (n : Nat) : (d.tally code unit data n).devState = d.devState := rfl
@[simp] theorem Dev.event_now (d : Dev) (code unit detail x : Nat) : (d.event code unit detail x).now = d.now := rfl
@[simp] theorem Dev.event_regs (d : Dev) (code unit detail x : Nat) : (d.event code unit detail x).regs = d.regs := rfl
@[simp] theorem Dev.event_outbox (d : Dev) (code unit detail x : Nat) : (d.event code unit detail x).outbox = d.outbox := rfl
@[simp] theorem Dev.event_free (d : Dev) (code unit detail x : Nat) : (d.event code unit detail x).free = d.free := rfl
@[simp] theorem Dev.event_frames (d : Dev) (code unit detail x : Nat) : (d.event code unit detail x).frames = d.frames := rfl
@[simp] theorem Dev.event_nextFrame (d : Dev) (code unit detail x : Nat) : (d.event code unit detail x).nextFrame = d.nextFrame := rfl
@[simp] theorem Dev.event_as (d : Dev) (code unit detail x : Nat) : (d.event code unit detail x).as = d.as := rfl
@[simp] theorem Dev.event_st (d : Dev) (code unit detail x : Nat) : (d.event code unit detail x).st = d.st := rfl
@[simp] theorem Dev.event_bn (d : Dev) (code unit detail x : Nat) : (d.event code unit detail x).bn = d.bn := rfl
@[simp] theorem Dev.event_xc (d : Dev) (code unit detail x : Nat) : (d.event code unit detail x).xc = d.xc := rfl
@[simp] theorem Dev.event_ho (d : Dev) (code unit detail x : Nat) : (d.event code unit detail x).ho = d.ho := rfl
@[simp] theorem Dev.event_dr (d : Dev) (code unit detail x : Nat) : (d.event code unit detail x).dr = d.dr := rfl
@[simp] theorem Dev.event_tl (d : Dev) (code unit detail x : Nat) : (d.event code unit detail x).tl = d.tl := rfl
@[simp] theorem Dev.event_threads (d : Dev) (code unit detail x : Nat) : (d.event code unit detail x).threads = d.threads := rfl
@[simp] theorem Dev.event_gals (d : Dev) (code unit detail x : Nat) : (d.event code unit detail x).gals = d.gals := rfl
@[simp] theorem Dev.event_tk (d : Dev) (code unit detail x : Nat) : (d.event code unit detail x).tk = d.tk := rfl
@[simp] theorem Dev.event_pt (d : Dev) (code unit detail x : Nat) : (d.event code unit detail x).pt = d.pt := rfl
@[simp] theorem Dev.event_sm (d : Dev) (code unit detail x : Nat) : (d.event code unit detail x).sm = d.sm := rfl
@[simp] theorem Dev.event_ld (d : Dev) (code unit detail x : Nat) : (d.event code unit detail x).ld = d.ld := rfl
@[simp] theorem Dev.event_rl (d : Dev) (code unit detail x : Nat) : (d.event code unit detail x).rl = d.rl := rfl
@[simp] theorem Dev.event_db (d : Dev) (code unit detail x : Nat) : (d.event code unit detail x).db = d.db := rfl
@[simp] theorem Dev.event_bg (d : Dev) (code unit detail x : Nat) : (d.event code unit detail x).bg = d.bg := rfl
@[simp] theorem Dev.event_tb (d : Dev) (code unit detail x : Nat) : (d.event code unit detail x).tb = d.tb := rfl
@[simp] theorem Dev.event_ph (d : Dev) (code unit detail x : Nat) : (d.event code unit detail x).ph = d.ph := rfl
@[simp] theorem Dev.event_cg (d : Dev) (code unit detail x : Nat) : (d.event code unit detail x).cg = d.cg := rfl
@[simp] theorem Dev.event_hi (d : Dev) (code unit detail x : Nat) : (d.event code unit detail x).hi = d.hi := rfl
@[simp] theorem Dev.event_bus (d : Dev) (code unit detail x : Nat) : (d.event code unit detail x).bus = d.bus := rfl
@[simp] theorem Dev.event_bo (d : Dev) (code unit detail x : Nat) : (d.event code unit detail x).bo = d.bo := rfl
@[simp] theorem Dev.event_pw (d : Dev) (code unit detail x : Nat) : (d.event code unit detail x).pw = d.pw := rfl
@[simp] theorem Dev.event_devState (d : Dev) (code unit detail x : Nat) : (d.event code unit detail x).devState = d.devState := rfl
@[simp] theorem Dev.modPort_now (d : Dev) (p : Nat) (f : Port → Port) : (d.modPort p f).now = d.now := rfl
@[simp] theorem Dev.modPort_regs (d : Dev) (p : Nat) (f : Port → Port) : (d.modPort p f).regs = d.regs := rfl
@[simp] theorem Dev.modPort_outbox (d : Dev) (p : Nat) (f : Port → Port) : (d.modPort p f).outbox = d.outbox := rfl
@[simp] theorem Dev.modPort_free (d : Dev) (p : Nat) (f : Port → Port) : (d.modPort p f).free = d.free := rfl
@[simp] theorem Dev.modPort_frames (d : Dev) (p : Nat) (f : Port → Port) : (d.modPort p f).frames = d.frames := rfl
@[simp] theorem Dev.modPort_nextFrame (d : Dev) (p : Nat) (f : Port → Port) : (d.modPort p f).nextFrame = d.nextFrame := rfl
@[simp] theorem Dev.modPort_events (d : Dev) (p : Nat) (f : Port → Port) : (d.modPort p f).events = d.events := rfl
@[simp] theorem Dev.modPort_as (d : Dev) (p : Nat) (f : Port → Port) : (d.modPort p f).as = d.as := rfl
@[simp] theorem Dev.modPort_st (d : Dev) (p : Nat) (f : Port → Port) : (d.modPort p f).st = d.st := rfl
@[simp] theorem Dev.modPort_bn (d : Dev) (p : Nat) (f : Port → Port) : (d.modPort p f).bn = d.bn := rfl
@[simp] theorem Dev.modPort_xc (d : Dev) (p : Nat) (f : Port → Port) : (d.modPort p f).xc = d.xc := rfl
@[simp] theorem Dev.modPort_ho (d : Dev) (p : Nat) (f : Port → Port) : (d.modPort p f).ho = d.ho := rfl
@[simp] theorem Dev.modPort_dr (d : Dev) (p : Nat) (f : Port → Port) : (d.modPort p f).dr = d.dr := rfl
@[simp] theorem Dev.modPort_tl (d : Dev) (p : Nat) (f : Port → Port) : (d.modPort p f).tl = d.tl := rfl
@[simp] theorem Dev.modPort_threads (d : Dev) (p : Nat) (f : Port → Port) : (d.modPort p f).threads = d.threads := rfl
@[simp] theorem Dev.modPort_gals (d : Dev) (p : Nat) (f : Port → Port) : (d.modPort p f).gals = d.gals := rfl
@[simp] theorem Dev.modPort_tk (d : Dev) (p : Nat) (f : Port → Port) : (d.modPort p f).tk = d.tk := rfl
@[simp] theorem Dev.modPort_sm (d : Dev) (p : Nat) (f : Port → Port) : (d.modPort p f).sm = d.sm := rfl
@[simp] theorem Dev.modPort_ld (d : Dev) (p : Nat) (f : Port → Port) : (d.modPort p f).ld = d.ld := rfl
@[simp] theorem Dev.modPort_rl (d : Dev) (p : Nat) (f : Port → Port) : (d.modPort p f).rl = d.rl := rfl
@[simp] theorem Dev.modPort_db (d : Dev) (p : Nat) (f : Port → Port) : (d.modPort p f).db = d.db := rfl
@[simp] theorem Dev.modPort_bg (d : Dev) (p : Nat) (f : Port → Port) : (d.modPort p f).bg = d.bg := rfl
@[simp] theorem Dev.modPort_tb (d : Dev) (p : Nat) (f : Port → Port) : (d.modPort p f).tb = d.tb := rfl
@[simp] theorem Dev.modPort_ph (d : Dev) (p : Nat) (f : Port → Port) : (d.modPort p f).ph = d.ph := rfl
@[simp] theorem Dev.modPort_cg (d : Dev) (p : Nat) (f : Port → Port) : (d.modPort p f).cg = d.cg := rfl
@[simp] theorem Dev.modPort_hi (d : Dev) (p : Nat) (f : Port → Port) : (d.modPort p f).hi = d.hi := rfl
@[simp] theorem Dev.modPort_bus (d : Dev) (p : Nat) (f : Port → Port) : (d.modPort p f).bus = d.bus := rfl
@[simp] theorem Dev.modPort_bo (d : Dev) (p : Nat) (f : Port → Port) : (d.modPort p f).bo = d.bo := rfl
@[simp] theorem Dev.modPort_pw (d : Dev) (p : Nat) (f : Port → Port) : (d.modPort p f).pw = d.pw := rfl
@[simp] theorem Dev.modPort_devState (d : Dev) (p : Nat) (f : Port → Port) : (d.modPort p f).devState = d.devState := rfl
@[simp] theorem Dev.setThr_now (d : Dev) (k : Nat) (t : Thread) : (d.setThr k t).now = d.now := rfl
@[simp] theorem Dev.setThr_regs (d : Dev) (k : Nat) (t : Thread) : (d.setThr k t).regs = d.regs := rfl
@[simp] theorem Dev.setThr_outbox (d : Dev) (k : Nat) (t : Thread) : (d.setThr k t).outbox = d.outbox := rfl
@[simp] theorem Dev.setThr_free (d : Dev) (k : Nat) (t : Thread) : (d.setThr k t).free = d.free := rfl
@[simp] theorem Dev.setThr_frames (d : Dev) (k : Nat) (t : Thread) : (d.setThr k t).frames = d.frames := rfl
@[simp] theorem Dev.setThr_nextFrame (d : Dev) (k : Nat) (t : Thread) : (d.setThr k t).nextFrame = d.nextFrame := rfl
@[simp] theorem Dev.setThr_events (d : Dev) (k : Nat) (t : Thread) : (d.setThr k t).events = d.events := rfl
@[simp] theorem Dev.setThr_as (d : Dev) (k : Nat) (t : Thread) : (d.setThr k t).as = d.as := rfl
@[simp] theorem Dev.setThr_st (d : Dev) (k : Nat) (t : Thread) : (d.setThr k t).st = d.st := rfl
@[simp] theorem Dev.setThr_bn (d : Dev) (k : Nat) (t : Thread) : (d.setThr k t).bn = d.bn := rfl
@[simp] theorem Dev.setThr_xc (d : Dev) (k : Nat) (t : Thread) : (d.setThr k t).xc = d.xc := rfl
@[simp] theorem Dev.setThr_ho (d : Dev) (k : Nat) (t : Thread) : (d.setThr k t).ho = d.ho := rfl
@[simp] theorem Dev.setThr_dr (d : Dev) (k : Nat) (t : Thread) : (d.setThr k t).dr = d.dr := rfl
@[simp] theorem Dev.setThr_tl (d : Dev) (k : Nat) (t : Thread) : (d.setThr k t).tl = d.tl := rfl
@[simp] theorem Dev.setThr_gals (d : Dev) (k : Nat) (t : Thread) : (d.setThr k t).gals = d.gals := rfl
@[simp] theorem Dev.setThr_tk (d : Dev) (k : Nat) (t : Thread) : (d.setThr k t).tk = d.tk := rfl
@[simp] theorem Dev.setThr_pt (d : Dev) (k : Nat) (t : Thread) : (d.setThr k t).pt = d.pt := rfl
@[simp] theorem Dev.setThr_sm (d : Dev) (k : Nat) (t : Thread) : (d.setThr k t).sm = d.sm := rfl
@[simp] theorem Dev.setThr_ld (d : Dev) (k : Nat) (t : Thread) : (d.setThr k t).ld = d.ld := rfl
@[simp] theorem Dev.setThr_rl (d : Dev) (k : Nat) (t : Thread) : (d.setThr k t).rl = d.rl := rfl
@[simp] theorem Dev.setThr_db (d : Dev) (k : Nat) (t : Thread) : (d.setThr k t).db = d.db := rfl
@[simp] theorem Dev.setThr_bg (d : Dev) (k : Nat) (t : Thread) : (d.setThr k t).bg = d.bg := rfl
@[simp] theorem Dev.setThr_tb (d : Dev) (k : Nat) (t : Thread) : (d.setThr k t).tb = d.tb := rfl
@[simp] theorem Dev.setThr_ph (d : Dev) (k : Nat) (t : Thread) : (d.setThr k t).ph = d.ph := rfl
@[simp] theorem Dev.setThr_cg (d : Dev) (k : Nat) (t : Thread) : (d.setThr k t).cg = d.cg := rfl
@[simp] theorem Dev.setThr_hi (d : Dev) (k : Nat) (t : Thread) : (d.setThr k t).hi = d.hi := rfl
@[simp] theorem Dev.setThr_bus (d : Dev) (k : Nat) (t : Thread) : (d.setThr k t).bus = d.bus := rfl
@[simp] theorem Dev.setThr_bo (d : Dev) (k : Nat) (t : Thread) : (d.setThr k t).bo = d.bo := rfl
@[simp] theorem Dev.setThr_pw (d : Dev) (k : Nat) (t : Thread) : (d.setThr k t).pw = d.pw := rfl
@[simp] theorem Dev.setThr_devState (d : Dev) (k : Nat) (t : Thread) : (d.setThr k t).devState = d.devState := rfl
@[simp] theorem Dev.modThr_now (d : Dev) (k : Nat) (f : Thread → Thread) : (d.modThr k f).now = d.now := rfl
@[simp] theorem Dev.modThr_regs (d : Dev) (k : Nat) (f : Thread → Thread) : (d.modThr k f).regs = d.regs := rfl
@[simp] theorem Dev.modThr_outbox (d : Dev) (k : Nat) (f : Thread → Thread) : (d.modThr k f).outbox = d.outbox := rfl
@[simp] theorem Dev.modThr_free (d : Dev) (k : Nat) (f : Thread → Thread) : (d.modThr k f).free = d.free := rfl
@[simp] theorem Dev.modThr_frames (d : Dev) (k : Nat) (f : Thread → Thread) : (d.modThr k f).frames = d.frames := rfl
@[simp] theorem Dev.modThr_nextFrame (d : Dev) (k : Nat) (f : Thread → Thread) : (d.modThr k f).nextFrame = d.nextFrame := rfl
@[simp] theorem Dev.modThr_events (d : Dev) (k : Nat) (f : Thread → Thread) : (d.modThr k f).events = d.events := rfl
@[simp] theorem Dev.modThr_as (d : Dev) (k : Nat) (f : Thread → Thread) : (d.modThr k f).as = d.as := rfl
@[simp] theorem Dev.modThr_st (d : Dev) (k : Nat) (f : Thread → Thread) : (d.modThr k f).st = d.st := rfl
@[simp] theorem Dev.modThr_bn (d : Dev) (k : Nat) (f : Thread → Thread) : (d.modThr k f).bn = d.bn := rfl
@[simp] theorem Dev.modThr_xc (d : Dev) (k : Nat) (f : Thread → Thread) : (d.modThr k f).xc = d.xc := rfl
@[simp] theorem Dev.modThr_ho (d : Dev) (k : Nat) (f : Thread → Thread) : (d.modThr k f).ho = d.ho := rfl
@[simp] theorem Dev.modThr_dr (d : Dev) (k : Nat) (f : Thread → Thread) : (d.modThr k f).dr = d.dr := rfl
@[simp] theorem Dev.modThr_tl (d : Dev) (k : Nat) (f : Thread → Thread) : (d.modThr k f).tl = d.tl := rfl
@[simp] theorem Dev.modThr_gals (d : Dev) (k : Nat) (f : Thread → Thread) : (d.modThr k f).gals = d.gals := rfl
@[simp] theorem Dev.modThr_tk (d : Dev) (k : Nat) (f : Thread → Thread) : (d.modThr k f).tk = d.tk := rfl
@[simp] theorem Dev.modThr_pt (d : Dev) (k : Nat) (f : Thread → Thread) : (d.modThr k f).pt = d.pt := rfl
@[simp] theorem Dev.modThr_sm (d : Dev) (k : Nat) (f : Thread → Thread) : (d.modThr k f).sm = d.sm := rfl
@[simp] theorem Dev.modThr_ld (d : Dev) (k : Nat) (f : Thread → Thread) : (d.modThr k f).ld = d.ld := rfl
@[simp] theorem Dev.modThr_rl (d : Dev) (k : Nat) (f : Thread → Thread) : (d.modThr k f).rl = d.rl := rfl
@[simp] theorem Dev.modThr_db (d : Dev) (k : Nat) (f : Thread → Thread) : (d.modThr k f).db = d.db := rfl
@[simp] theorem Dev.modThr_bg (d : Dev) (k : Nat) (f : Thread → Thread) : (d.modThr k f).bg = d.bg := rfl
@[simp] theorem Dev.modThr_tb (d : Dev) (k : Nat) (f : Thread → Thread) : (d.modThr k f).tb = d.tb := rfl
@[simp] theorem Dev.modThr_ph (d : Dev) (k : Nat) (f : Thread → Thread) : (d.modThr k f).ph = d.ph := rfl
@[simp] theorem Dev.modThr_cg (d : Dev) (k : Nat) (f : Thread → Thread) : (d.modThr k f).cg = d.cg := rfl
@[simp] theorem Dev.modThr_hi (d : Dev) (k : Nat) (f : Thread → Thread) : (d.modThr k f).hi = d.hi := rfl
@[simp] theorem Dev.modThr_bus (d : Dev) (k : Nat) (f : Thread → Thread) : (d.modThr k f).bus = d.bus := rfl
@[simp] theorem Dev.modThr_bo (d : Dev) (k : Nat) (f : Thread → Thread) : (d.modThr k f).bo = d.bo := rfl
@[simp] theorem Dev.modThr_pw (d : Dev) (k : Nat) (f : Thread → Thread) : (d.modThr k f).pw = d.pw := rfl
@[simp] theorem Dev.modThr_devState (d : Dev) (k : Nat) (f : Thread → Thread) : (d.modThr k f).devState = d.devState := rfl
@[simp] theorem Dev.modGal_now (d : Dev) (g : Nat) (f : Gallery → Gallery) : (d.modGal g f).now = d.now := rfl
@[simp] theorem Dev.modGal_regs (d : Dev) (g : Nat) (f : Gallery → Gallery) : (d.modGal g f).regs = d.regs := rfl
@[simp] theorem Dev.modGal_outbox (d : Dev) (g : Nat) (f : Gallery → Gallery) : (d.modGal g f).outbox = d.outbox := rfl
@[simp] theorem Dev.modGal_free (d : Dev) (g : Nat) (f : Gallery → Gallery) : (d.modGal g f).free = d.free := rfl
@[simp] theorem Dev.modGal_frames (d : Dev) (g : Nat) (f : Gallery → Gallery) : (d.modGal g f).frames = d.frames := rfl
@[simp] theorem Dev.modGal_nextFrame (d : Dev) (g : Nat) (f : Gallery → Gallery) : (d.modGal g f).nextFrame = d.nextFrame := rfl
@[simp] theorem Dev.modGal_events (d : Dev) (g : Nat) (f : Gallery → Gallery) : (d.modGal g f).events = d.events := rfl
@[simp] theorem Dev.modGal_as (d : Dev) (g : Nat) (f : Gallery → Gallery) : (d.modGal g f).as = d.as := rfl
@[simp] theorem Dev.modGal_st (d : Dev) (g : Nat) (f : Gallery → Gallery) : (d.modGal g f).st = d.st := rfl
@[simp] theorem Dev.modGal_bn (d : Dev) (g : Nat) (f : Gallery → Gallery) : (d.modGal g f).bn = d.bn := rfl
@[simp] theorem Dev.modGal_xc (d : Dev) (g : Nat) (f : Gallery → Gallery) : (d.modGal g f).xc = d.xc := rfl
@[simp] theorem Dev.modGal_ho (d : Dev) (g : Nat) (f : Gallery → Gallery) : (d.modGal g f).ho = d.ho := rfl
@[simp] theorem Dev.modGal_dr (d : Dev) (g : Nat) (f : Gallery → Gallery) : (d.modGal g f).dr = d.dr := rfl
@[simp] theorem Dev.modGal_tl (d : Dev) (g : Nat) (f : Gallery → Gallery) : (d.modGal g f).tl = d.tl := rfl
@[simp] theorem Dev.modGal_threads (d : Dev) (g : Nat) (f : Gallery → Gallery) : (d.modGal g f).threads = d.threads := rfl
@[simp] theorem Dev.modGal_tk (d : Dev) (g : Nat) (f : Gallery → Gallery) : (d.modGal g f).tk = d.tk := rfl
@[simp] theorem Dev.modGal_pt (d : Dev) (g : Nat) (f : Gallery → Gallery) : (d.modGal g f).pt = d.pt := rfl
@[simp] theorem Dev.modGal_sm (d : Dev) (g : Nat) (f : Gallery → Gallery) : (d.modGal g f).sm = d.sm := rfl
@[simp] theorem Dev.modGal_ld (d : Dev) (g : Nat) (f : Gallery → Gallery) : (d.modGal g f).ld = d.ld := rfl
@[simp] theorem Dev.modGal_rl (d : Dev) (g : Nat) (f : Gallery → Gallery) : (d.modGal g f).rl = d.rl := rfl
@[simp] theorem Dev.modGal_db (d : Dev) (g : Nat) (f : Gallery → Gallery) : (d.modGal g f).db = d.db := rfl
@[simp] theorem Dev.modGal_bg (d : Dev) (g : Nat) (f : Gallery → Gallery) : (d.modGal g f).bg = d.bg := rfl
@[simp] theorem Dev.modGal_tb (d : Dev) (g : Nat) (f : Gallery → Gallery) : (d.modGal g f).tb = d.tb := rfl
@[simp] theorem Dev.modGal_ph (d : Dev) (g : Nat) (f : Gallery → Gallery) : (d.modGal g f).ph = d.ph := rfl
@[simp] theorem Dev.modGal_cg (d : Dev) (g : Nat) (f : Gallery → Gallery) : (d.modGal g f).cg = d.cg := rfl
@[simp] theorem Dev.modGal_hi (d : Dev) (g : Nat) (f : Gallery → Gallery) : (d.modGal g f).hi = d.hi := rfl
@[simp] theorem Dev.modGal_bus (d : Dev) (g : Nat) (f : Gallery → Gallery) : (d.modGal g f).bus = d.bus := rfl
@[simp] theorem Dev.modGal_bo (d : Dev) (g : Nat) (f : Gallery → Gallery) : (d.modGal g f).bo = d.bo := rfl
@[simp] theorem Dev.modGal_pw (d : Dev) (g : Nat) (f : Gallery → Gallery) : (d.modGal g f).pw = d.pw := rfl
@[simp] theorem Dev.modGal_devState (d : Dev) (g : Nat) (f : Gallery → Gallery) : (d.modGal g f).devState = d.devState := rfl
@[simp] theorem Dev.modTb_now (d : Dev) (f : Timebase → Timebase) : (d.modTb f).now = d.now := rfl
@[simp] theorem Dev.modTb_regs (d : Dev) (f : Timebase → Timebase) : (d.modTb f).regs = d.regs := rfl
@[simp] theorem Dev.modTb_outbox (d : Dev) (f : Timebase → Timebase) : (d.modTb f).outbox = d.outbox := rfl
@[simp] theorem Dev.modTb_free (d : Dev) (f : Timebase → Timebase) : (d.modTb f).free = d.free := rfl
@[simp] theorem Dev.modTb_frames (d : Dev) (f : Timebase → Timebase) : (d.modTb f).frames = d.frames := rfl
@[simp] theorem Dev.modTb_nextFrame (d : Dev) (f : Timebase → Timebase) : (d.modTb f).nextFrame = d.nextFrame := rfl
@[simp] theorem Dev.modTb_events (d : Dev) (f : Timebase → Timebase) : (d.modTb f).events = d.events := rfl
@[simp] theorem Dev.modTb_as (d : Dev) (f : Timebase → Timebase) : (d.modTb f).as = d.as := rfl
@[simp] theorem Dev.modTb_st (d : Dev) (f : Timebase → Timebase) : (d.modTb f).st = d.st := rfl
@[simp] theorem Dev.modTb_bn (d : Dev) (f : Timebase → Timebase) : (d.modTb f).bn = d.bn := rfl
@[simp] theorem Dev.modTb_xc (d : Dev) (f : Timebase → Timebase) : (d.modTb f).xc = d.xc := rfl
@[simp] theorem Dev.modTb_ho (d : Dev) (f : Timebase → Timebase) : (d.modTb f).ho = d.ho := rfl
@[simp] theorem Dev.modTb_dr (d : Dev) (f : Timebase → Timebase) : (d.modTb f).dr = d.dr := rfl
@[simp] theorem Dev.modTb_tl (d : Dev) (f : Timebase → Timebase) : (d.modTb f).tl = d.tl := rfl
@[simp] theorem Dev.modTb_threads (d : Dev) (f : Timebase → Timebase) : (d.modTb f).threads = d.threads := rfl
@[simp] theorem Dev.modTb_gals (d : Dev) (f : Timebase → Timebase) : (d.modTb f).gals = d.gals := rfl
@[simp] theorem Dev.modTb_tk (d : Dev) (f : Timebase → Timebase) : (d.modTb f).tk = d.tk := rfl
@[simp] theorem Dev.modTb_pt (d : Dev) (f : Timebase → Timebase) : (d.modTb f).pt = d.pt := rfl
@[simp] theorem Dev.modTb_sm (d : Dev) (f : Timebase → Timebase) : (d.modTb f).sm = d.sm := rfl
@[simp] theorem Dev.modTb_ld (d : Dev) (f : Timebase → Timebase) : (d.modTb f).ld = d.ld := rfl
@[simp] theorem Dev.modTb_rl (d : Dev) (f : Timebase → Timebase) : (d.modTb f).rl = d.rl := rfl
@[simp] theorem Dev.modTb_db (d : Dev) (f : Timebase → Timebase) : (d.modTb f).db = d.db := rfl
@[simp] theorem Dev.modTb_bg (d : Dev) (f : Timebase → Timebase) : (d.modTb f).bg = d.bg := rfl
@[simp] theorem Dev.modTb_ph (d : Dev) (f : Timebase → Timebase) : (d.modTb f).ph = d.ph := rfl
@[simp] theorem Dev.modTb_cg (d : Dev) (f : Timebase → Timebase) : (d.modTb f).cg = d.cg := rfl
@[simp] theorem Dev.modTb_hi (d : Dev) (f : Timebase → Timebase) : (d.modTb f).hi = d.hi := rfl
@[simp] theorem Dev.modTb_bus (d : Dev) (f : Timebase → Timebase) : (d.modTb f).bus = d.bus := rfl
@[simp] theorem Dev.modTb_bo (d : Dev) (f : Timebase → Timebase) : (d.modTb f).bo = d.bo := rfl
@[simp] theorem Dev.modTb_pw (d : Dev) (f : Timebase → Timebase) : (d.modTb f).pw = d.pw := rfl
@[simp] theorem Dev.modTb_devState (d : Dev) (f : Timebase → Timebase) : (d.modTb f).devState = d.devState := rfl
@[simp] theorem Dev.setFrame_now (d : Dev) (h : Nat) (f : Frame) : (d.setFrame h f).now = d.now := rfl
@[simp] theorem Dev.setFrame_regs (d : Dev) (h : Nat) (f : Frame) : (d.setFrame h f).regs = d.regs := rfl
@[simp] theorem Dev.setFrame_outbox (d : Dev) (h : Nat) (f : Frame) : (d.setFrame h f).outbox = d.outbox := rfl
@[simp] theorem Dev.setFrame_free (d : Dev) (h : Nat) (f : Frame) : (d.setFrame h f).free = d.free := rfl
@[simp] theorem Dev.setFrame_nextFrame (d : Dev) (h : Nat) (f : Frame) : (d.setFrame h f).nextFrame = d.nextFrame := rfl
@[simp] theorem Dev.setFrame_events (d : Dev) (h : Nat) (f : Frame) : (d.setFrame h f).events = d.events := rfl
@[simp] theorem Dev.setFrame_as (d : Dev) (h : Nat) (f : Frame) : (d.setFrame h f).as = d.as := rfl
@[simp] theorem Dev.setFrame_st (d : Dev) (h : Nat) (f : Frame) : (d.setFrame h f).st = d.st := rfl
@[simp] theorem Dev.setFrame_bn (d : Dev) (h : Nat) (f : Frame) : (d.setFrame h f).bn = d.bn := rfl
@[simp] theorem Dev.setFrame_xc (d : Dev) (h : Nat) (f : Frame) : (d.setFrame h f).xc = d.xc := rfl
@[simp] theorem Dev.setFrame_ho (d : Dev) (h : Nat) (f : Frame) : (d.setFrame h f).ho = d.ho := rfl
@[simp] theorem Dev.setFrame_dr (d : Dev) (h : Nat) (f : Frame) : (d.setFrame h f).dr = d.dr := rfl
@[simp] theorem Dev.setFrame_tl (d : Dev) (h : Nat) (f : Frame) : (d.setFrame h f).tl = d.tl := rfl
@[simp] theorem Dev.setFrame_threads (d : Dev) (h : Nat) (f : Frame) : (d.setFrame h f).threads = d.threads := rfl
@[simp] theorem Dev.setFrame_gals (d : Dev) (h : Nat) (f : Frame) : (d.setFrame h f).gals = d.gals := rfl
@[simp] theorem Dev.setFrame_tk (d : Dev) (h : Nat) (f : Frame) : (d.setFrame h f).tk = d.tk := rfl
@[simp] theorem Dev.setFrame_pt (d : Dev) (h : Nat) (f : Frame) : (d.setFrame h f).pt = d.pt := rfl
@[simp] theorem Dev.setFrame_sm (d : Dev) (h : Nat) (f : Frame) : (d.setFrame h f).sm = d.sm := rfl
@[simp] theorem Dev.setFrame_ld (d : Dev) (h : Nat) (f : Frame) : (d.setFrame h f).ld = d.ld := rfl
@[simp] theorem Dev.setFrame_rl (d : Dev) (h : Nat) (f : Frame) : (d.setFrame h f).rl = d.rl := rfl
@[simp] theorem Dev.setFrame_db (d : Dev) (h : Nat) (f : Frame) : (d.setFrame h f).db = d.db := rfl
@[simp] theorem Dev.setFrame_bg (d : Dev) (h : Nat) (f : Frame) : (d.setFrame h f).bg = d.bg := rfl
@[simp] theorem Dev.setFrame_tb (d : Dev) (h : Nat) (f : Frame) : (d.setFrame h f).tb = d.tb := rfl
@[simp] theorem Dev.setFrame_ph (d : Dev) (h : Nat) (f : Frame) : (d.setFrame h f).ph = d.ph := rfl
@[simp] theorem Dev.setFrame_cg (d : Dev) (h : Nat) (f : Frame) : (d.setFrame h f).cg = d.cg := rfl
@[simp] theorem Dev.setFrame_hi (d : Dev) (h : Nat) (f : Frame) : (d.setFrame h f).hi = d.hi := rfl
@[simp] theorem Dev.setFrame_bus (d : Dev) (h : Nat) (f : Frame) : (d.setFrame h f).bus = d.bus := rfl
@[simp] theorem Dev.setFrame_bo (d : Dev) (h : Nat) (f : Frame) : (d.setFrame h f).bo = d.bo := rfl
@[simp] theorem Dev.setFrame_pw (d : Dev) (h : Nat) (f : Frame) : (d.setFrame h f).pw = d.pw := rfl
@[simp] theorem Dev.setFrame_devState (d : Dev) (h : Nat) (f : Frame) : (d.setFrame h f).devState = d.devState := rfl
@[simp] theorem Dev.setJob_now (d : Dev) (j : Nat) (x : Job) : (d.setJob j x).now = d.now := rfl
@[simp] theorem Dev.setJob_regs (d : Dev) (j : Nat) (x : Job) : (d.setJob j x).regs = d.regs := rfl
@[simp] theorem Dev.setJob_outbox (d : Dev) (j : Nat) (x : Job) : (d.setJob j x).outbox = d.outbox := rfl
@[simp] theorem Dev.setJob_free (d : Dev) (j : Nat) (x : Job) : (d.setJob j x).free = d.free := rfl
@[simp] theorem Dev.setJob_frames (d : Dev) (j : Nat) (x : Job) : (d.setJob j x).frames = d.frames := rfl
@[simp] theorem Dev.setJob_nextFrame (d : Dev) (j : Nat) (x : Job) : (d.setJob j x).nextFrame = d.nextFrame := rfl
@[simp] theorem Dev.setJob_events (d : Dev) (j : Nat) (x : Job) : (d.setJob j x).events = d.events := rfl
@[simp] theorem Dev.setJob_as (d : Dev) (j : Nat) (x : Job) : (d.setJob j x).as = d.as := rfl
@[simp] theorem Dev.setJob_st (d : Dev) (j : Nat) (x : Job) : (d.setJob j x).st = d.st := rfl
@[simp] theorem Dev.setJob_bn (d : Dev) (j : Nat) (x : Job) : (d.setJob j x).bn = d.bn := rfl
@[simp] theorem Dev.setJob_xc (d : Dev) (j : Nat) (x : Job) : (d.setJob j x).xc = d.xc := rfl
@[simp] theorem Dev.setJob_ho (d : Dev) (j : Nat) (x : Job) : (d.setJob j x).ho = d.ho := rfl
@[simp] theorem Dev.setJob_tl (d : Dev) (j : Nat) (x : Job) : (d.setJob j x).tl = d.tl := rfl
@[simp] theorem Dev.setJob_threads (d : Dev) (j : Nat) (x : Job) : (d.setJob j x).threads = d.threads := rfl
@[simp] theorem Dev.setJob_gals (d : Dev) (j : Nat) (x : Job) : (d.setJob j x).gals = d.gals := rfl
@[simp] theorem Dev.setJob_tk (d : Dev) (j : Nat) (x : Job) : (d.setJob j x).tk = d.tk := rfl
@[simp] theorem Dev.setJob_pt (d : Dev) (j : Nat) (x : Job) : (d.setJob j x).pt = d.pt := rfl
@[simp] theorem Dev.setJob_sm (d : Dev) (j : Nat) (x : Job) : (d.setJob j x).sm = d.sm := rfl
@[simp] theorem Dev.setJob_ld (d : Dev) (j : Nat) (x : Job) : (d.setJob j x).ld = d.ld := rfl
@[simp] theorem Dev.setJob_rl (d : Dev) (j : Nat) (x : Job) : (d.setJob j x).rl = d.rl := rfl
@[simp] theorem Dev.setJob_db (d : Dev) (j : Nat) (x : Job) : (d.setJob j x).db = d.db := rfl
@[simp] theorem Dev.setJob_bg (d : Dev) (j : Nat) (x : Job) : (d.setJob j x).bg = d.bg := rfl
@[simp] theorem Dev.setJob_tb (d : Dev) (j : Nat) (x : Job) : (d.setJob j x).tb = d.tb := rfl
@[simp] theorem Dev.setJob_ph (d : Dev) (j : Nat) (x : Job) : (d.setJob j x).ph = d.ph := rfl
@[simp] theorem Dev.setJob_cg (d : Dev) (j : Nat) (x : Job) : (d.setJob j x).cg = d.cg := rfl
@[simp] theorem Dev.setJob_hi (d : Dev) (j : Nat) (x : Job) : (d.setJob j x).hi = d.hi := rfl
@[simp] theorem Dev.setJob_bus (d : Dev) (j : Nat) (x : Job) : (d.setJob j x).bus = d.bus := rfl
@[simp] theorem Dev.setJob_bo (d : Dev) (j : Nat) (x : Job) : (d.setJob j x).bo = d.bo := rfl
@[simp] theorem Dev.setJob_pw (d : Dev) (j : Nat) (x : Job) : (d.setJob j x).pw = d.pw := rfl
@[simp] theorem Dev.setJob_devState (d : Dev) (j : Nat) (x : Job) : (d.setJob j x).devState = d.devState := rfl
@[simp] theorem Dev.setLock_now (d : Dev) (n : Nat) (l : Lock) : (d.setLock n l).now = d.now := rfl
@[simp] theorem Dev.setLock_regs (d : Dev) (n : Nat) (l : Lock) : (d.setLock n l).regs = d.regs := rfl
@[simp] theorem Dev.setLock_outbox (d : Dev) (n : Nat) (l : Lock) : (d.setLock n l).outbox = d.outbox := rfl
@[simp] theorem Dev.setLock_free (d : Dev) (n : Nat) (l : Lock) : (d.setLock n l).free = d.free := rfl
@[simp] theorem Dev.setLock_frames (d : Dev) (n : Nat) (l : Lock) : (d.setLock n l).frames = d.frames := rfl
@[simp] theorem Dev.setLock_nextFrame (d : Dev) (n : Nat) (l : Lock) : (d.setLock n l).nextFrame = d.nextFrame := rfl
@[simp] theorem Dev.setLock_events (d : Dev) (n : Nat) (l : Lock) : (d.setLock n l).events = d.events := rfl
@[simp] theorem Dev.setLock_as (d : Dev) (n : Nat) (l : Lock) : (d.setLock n l).as = d.as := rfl
@[simp] theorem Dev.setLock_st (d : Dev) (n : Nat) (l : Lock) : (d.setLock n l).st = d.st := rfl
@[simp] theorem Dev.setLock_bn (d : Dev) (n : Nat) (l : Lock) : (d.setLock n l).bn = d.bn := rfl
@[simp] theorem Dev.setLock_xc (d : Dev) (n : Nat) (l : Lock) : (d.setLock n l).xc = d.xc := rfl
@[simp] theorem Dev.setLock_ho (d : Dev) (n : Nat) (l : Lock) : (d.setLock n l).ho = d.ho := rfl
@[simp] theorem Dev.setLock_dr (d : Dev) (n : Nat) (l : Lock) : (d.setLock n l).dr = d.dr := rfl
@[simp] theorem Dev.setLock_tl (d : Dev) (n : Nat) (l : Lock) : (d.setLock n l).tl = d.tl := rfl
@[simp] theorem Dev.setLock_threads (d : Dev) (n : Nat) (l : Lock) : (d.setLock n l).threads = d.threads := rfl
@[simp] theorem Dev.setLock_gals (d : Dev) (n : Nat) (l : Lock) : (d.setLock n l).gals = d.gals := rfl
@[simp] theorem Dev.setLock_pt (d : Dev) (n : Nat) (l : Lock) : (d.setLock n l).pt = d.pt := rfl
@[simp] theorem Dev.setLock_sm (d : Dev) (n : Nat) (l : Lock) : (d.setLock n l).sm = d.sm := rfl
@[simp] theorem Dev.setLock_ld (d : Dev) (n : Nat) (l : Lock) : (d.setLock n l).ld = d.ld := rfl
@[simp] theorem Dev.setLock_rl (d : Dev) (n : Nat) (l : Lock) : (d.setLock n l).rl = d.rl := rfl
@[simp] theorem Dev.setLock_db (d : Dev) (n : Nat) (l : Lock) : (d.setLock n l).db = d.db := rfl
@[simp] theorem Dev.setLock_bg (d : Dev) (n : Nat) (l : Lock) : (d.setLock n l).bg = d.bg := rfl
@[simp] theorem Dev.setLock_tb (d : Dev) (n : Nat) (l : Lock) : (d.setLock n l).tb = d.tb := rfl
@[simp] theorem Dev.setLock_ph (d : Dev) (n : Nat) (l : Lock) : (d.setLock n l).ph = d.ph := rfl
@[simp] theorem Dev.setLock_cg (d : Dev) (n : Nat) (l : Lock) : (d.setLock n l).cg = d.cg := rfl
@[simp] theorem Dev.setLock_hi (d : Dev) (n : Nat) (l : Lock) : (d.setLock n l).hi = d.hi := rfl
@[simp] theorem Dev.setLock_bus (d : Dev) (n : Nat) (l : Lock) : (d.setLock n l).bus = d.bus := rfl
@[simp] theorem Dev.setLock_bo (d : Dev) (n : Nat) (l : Lock) : (d.setLock n l).bo = d.bo := rfl
@[simp] theorem Dev.setLock_pw (d : Dev) (n : Nat) (l : Lock) : (d.setLock n l).pw = d.pw := rfl
@[simp] theorem Dev.setLock_devState (d : Dev) (n : Nat) (l : Lock) : (d.setLock n l).devState = d.devState := rfl
@[simp] theorem Dev.wrIf_now (d : Dev) (c : Bool) (r : Reg) (f : Fld) (x : Nat) : (d.wrIf c r f x).now = d.now := by
  unfold Dev.wrIf; split <;> rfl
@[simp] theorem Dev.wrIf_outbox (d : Dev) (c : Bool) (r : Reg) (f : Fld) (x : Nat) : (d.wrIf c r f x).outbox = d.outbox := by
  unfold Dev.wrIf; split <;> rfl
@[simp] theorem Dev.wrIf_free (d : Dev) (c : Bool) (r : Reg) (f : Fld) (x : Nat) : (d.wrIf c r f x).free = d.free := by
  unfold Dev.wrIf; split <;> rfl
@[simp] theorem Dev.wrIf_frames (d : Dev) (c : Bool) (r : Reg) (f : Fld) (x : Nat) : (d.wrIf c r f x).frames = d.frames := by
  unfold Dev.wrIf; split <;> rfl
@[simp] theorem Dev.wrIf_nextFrame (d : Dev) (c : Bool) (r : Reg) (f : Fld) (x : Nat) : (d.wrIf c r f x).nextFrame = d.nextFrame := by
  unfold Dev.wrIf; split <;> rfl
@[simp] theorem Dev.wrIf_events (d : Dev) (c : Bool) (r : Reg) (f : Fld) (x : Nat) : (d.wrIf c r f x).events = d.events := by
  unfold Dev.wrIf; split <;> rfl
@[simp] theorem Dev.wrIf_as (d : Dev) (c : Bool) (r : Reg) (f : Fld) (x : Nat) : (d.wrIf c r f x).as = d.as := by
  unfold Dev.wrIf; split <;> rfl
@[simp] theorem Dev.wrIf_st (d : Dev) (c : Bool) (r : Reg) (f : Fld) (x : Nat) : (d.wrIf c r f x).st = d.st := by
  unfold Dev.wrIf; split <;> rfl
@[simp] theorem Dev.wrIf_bn (d : Dev) (c : Bool) (r : Reg) (f : Fld) (x : Nat) : (d.wrIf c r f x).bn = d.bn := by
  unfold Dev.wrIf; split <;> rfl
@[simp] theorem Dev.wrIf_xc (d : Dev) (c : Bool) (r : Reg) (f : Fld) (x : Nat) : (d.wrIf c r f x).xc = d.xc := by
  unfold Dev.wrIf; split <;> rfl
@[simp] theorem Dev.wrIf_ho (d : Dev) (c : Bool) (r : Reg) (f : Fld) (x : Nat) : (d.wrIf c r f x).ho = d.ho := by
  unfold Dev.wrIf; split <;> rfl
@[simp] theorem Dev.wrIf_dr (d : Dev) (c : Bool) (r : Reg) (f : Fld) (x : Nat) : (d.wrIf c r f x).dr = d.dr := by
  unfold Dev.wrIf; split <;> rfl
@[simp] theorem Dev.wrIf_tl (d : Dev) (c : Bool) (r : Reg) (f : Fld) (x : Nat) : (d.wrIf c r f x).tl = d.tl := by
  unfold Dev.wrIf; split <;> rfl
@[simp] theorem Dev.wrIf_threads (d : Dev) (c : Bool) (r : Reg) (f : Fld) (x : Nat) : (d.wrIf c r f x).threads = d.threads := by
  unfold Dev.wrIf; split <;> rfl
@[simp] theorem Dev.wrIf_gals (d : Dev) (c : Bool) (r : Reg) (f : Fld) (x : Nat) : (d.wrIf c r f x).gals = d.gals := by
  unfold Dev.wrIf; split <;> rfl
@[simp] theorem Dev.wrIf_tk (d : Dev) (c : Bool) (r : Reg) (f : Fld) (x : Nat) : (d.wrIf c r f x).tk = d.tk := by
  unfold Dev.wrIf; split <;> rfl
@[simp] theorem Dev.wrIf_pt (d : Dev) (c : Bool) (r : Reg) (f : Fld) (x : Nat) : (d.wrIf c r f x).pt = d.pt := by
  unfold Dev.wrIf; split <;> rfl
@[simp] theorem Dev.wrIf_sm (d : Dev) (c : Bool) (r : Reg) (f : Fld) (x : Nat) : (d.wrIf c r f x).sm = d.sm := by
  unfold Dev.wrIf; split <;> rfl
@[simp] theorem Dev.wrIf_ld (d : Dev) (c : Bool) (r : Reg) (f : Fld) (x : Nat) : (d.wrIf c r f x).ld = d.ld := by
  unfold Dev.wrIf; split <;> rfl
@[simp] theorem Dev.wrIf_rl (d : Dev) (c : Bool) (r : Reg) (f : Fld) (x : Nat) : (d.wrIf c r f x).rl = d.rl := by
  unfold Dev.wrIf; split <;> rfl
@[simp] theorem Dev.wrIf_db (d : Dev) (c : Bool) (r : Reg) (f : Fld) (x : Nat) : (d.wrIf c r f x).db = d.db := by
  unfold Dev.wrIf; split <;> rfl
@[simp] theorem Dev.wrIf_bg (d : Dev) (c : Bool) (r : Reg) (f : Fld) (x : Nat) : (d.wrIf c r f x).bg = d.bg := by
  unfold Dev.wrIf; split <;> rfl
@[simp] theorem Dev.wrIf_tb (d : Dev) (c : Bool) (r : Reg) (f : Fld) (x : Nat) : (d.wrIf c r f x).tb = d.tb := by
  unfold Dev.wrIf; split <;> rfl
@[simp] theorem Dev.wrIf_ph (d : Dev) (c : Bool) (r : Reg) (f : Fld) (x : Nat) : (d.wrIf c r f x).ph = d.ph := by
  unfold Dev.wrIf; split <;> rfl
@[simp] theorem Dev.wrIf_cg (d : Dev) (c : Bool) (r : Reg) (f : Fld) (x : Nat) : (d.wrIf c r f x).cg = d.cg := by
  unfold Dev.wrIf; split <;> rfl
@[simp] theorem Dev.wrIf_hi (d : Dev) (c : Bool) (r : Reg) (f : Fld) (x : Nat) : (d.wrIf c r f x).hi = d.hi := by
  unfold Dev.wrIf; split <;> rfl
@[simp] theorem Dev.wrIf_bus (d : Dev) (c : Bool) (r : Reg) (f : Fld) (x : Nat) : (d.wrIf c r f x).bus = d.bus := by
  unfold Dev.wrIf; split <;> rfl
@[simp] theorem Dev.wrIf_bo (d : Dev) (c : Bool) (r : Reg) (f : Fld) (x : Nat) : (d.wrIf c r f x).bo = d.bo := by
  unfold Dev.wrIf; split <;> rfl
@[simp] theorem Dev.wrIf_pw (d : Dev) (c : Bool) (r : Reg) (f : Fld) (x : Nat) : (d.wrIf c r f x).pw = d.pw := by
  unfold Dev.wrIf; split <;> rfl
@[simp] theorem Dev.wrIf_devState (d : Dev) (c : Bool) (r : Reg) (f : Fld) (x : Nat) : (d.wrIf c r f x).devState = d.devState := by
  unfold Dev.wrIf; split <;> rfl
@[simp] theorem Dev.inc_now (d : Dev) (r : Reg) (f : Fld) (n : Nat) : (d.inc r f n).now = d.now := by
  simp only [Dev.inc, Dev.fresh]; (repeat' split) <;> rfl
@[simp] theorem Dev.inc_outbox (d : Dev) (r : Reg) (f : Fld) (n : Nat) : (d.inc r f n).outbox = d.outbox := by
  simp only [Dev.inc, Dev.fresh]; (repeat' split) <;> rfl
@[simp] theorem Dev.inc_frames (d : Dev) (r : Reg) (f : Fld) (n : Nat) : (d.inc r f n).frames = d.frames := by
  simp only [Dev.inc, Dev.fresh]; (repeat' split) <;> rfl
@[simp] theorem Dev.inc_nextFrame (d : Dev) (r : Reg) (f : Fld) (n : Nat) : (d.inc r f n).nextFrame = d.nextFrame := by
  simp only [Dev.inc, Dev.fresh]; (repeat' split) <;> rfl
@[simp] theorem Dev.inc_events (d : Dev) (r : Reg) (f : Fld) (n : Nat) : (d.inc r f n).events = d.events := by
  simp only [Dev.inc, Dev.fresh]; (repeat' split) <;> rfl
@[simp] theorem Dev.inc_as (d : Dev) (r : Reg) (f : Fld) (n : Nat) : (d.inc r f n).as = d.as := by
  simp only [Dev.inc, Dev.fresh]; (repeat' split) <;> rfl
@[simp] theorem Dev.inc_st (d : Dev) (r : Reg) (f : Fld) (n : Nat) : (d.inc r f n).st = d.st := by
  simp only [Dev.inc, Dev.fresh]; (repeat' split) <;> rfl
@[simp] theorem Dev.inc_bn (d : Dev) (r : Reg) (f : Fld) (n : Nat) : (d.inc r f n).bn = d.bn := by
  simp only [Dev.inc, Dev.fresh]; (repeat' split) <;> rfl
@[simp] theorem Dev.inc_xc (d : Dev) (r : Reg) (f : Fld) (n : Nat) : (d.inc r f n).xc = d.xc := by
  simp only [Dev.inc, Dev.fresh]; (repeat' split) <;> rfl
@[simp] theorem Dev.inc_ho (d : Dev) (r : Reg) (f : Fld) (n : Nat) : (d.inc r f n).ho = d.ho := by
  simp only [Dev.inc, Dev.fresh]; (repeat' split) <;> rfl
@[simp] theorem Dev.inc_dr (d : Dev) (r : Reg) (f : Fld) (n : Nat) : (d.inc r f n).dr = d.dr := by
  simp only [Dev.inc, Dev.fresh]; (repeat' split) <;> rfl
@[simp] theorem Dev.inc_tl (d : Dev) (r : Reg) (f : Fld) (n : Nat) : (d.inc r f n).tl = d.tl := by
  simp only [Dev.inc, Dev.fresh]; (repeat' split) <;> rfl
@[simp] theorem Dev.inc_threads (d : Dev) (r : Reg) (f : Fld) (n : Nat) : (d.inc r f n).threads = d.threads := by
  simp only [Dev.inc, Dev.fresh]; (repeat' split) <;> rfl
@[simp] theorem Dev.inc_gals (d : Dev) (r : Reg) (f : Fld) (n : Nat) : (d.inc r f n).gals = d.gals := by
  simp only [Dev.inc, Dev.fresh]; (repeat' split) <;> rfl
@[simp] theorem Dev.inc_tk (d : Dev) (r : Reg) (f : Fld) (n : Nat) : (d.inc r f n).tk = d.tk := by
  simp only [Dev.inc, Dev.fresh]; (repeat' split) <;> rfl
@[simp] theorem Dev.inc_pt (d : Dev) (r : Reg) (f : Fld) (n : Nat) : (d.inc r f n).pt = d.pt := by
  simp only [Dev.inc, Dev.fresh]; (repeat' split) <;> rfl
@[simp] theorem Dev.inc_sm (d : Dev) (r : Reg) (f : Fld) (n : Nat) : (d.inc r f n).sm = d.sm := by
  simp only [Dev.inc, Dev.fresh]; (repeat' split) <;> rfl
@[simp] theorem Dev.inc_ld (d : Dev) (r : Reg) (f : Fld) (n : Nat) : (d.inc r f n).ld = d.ld := by
  simp only [Dev.inc, Dev.fresh]; (repeat' split) <;> rfl
@[simp] theorem Dev.inc_rl (d : Dev) (r : Reg) (f : Fld) (n : Nat) : (d.inc r f n).rl = d.rl := by
  simp only [Dev.inc, Dev.fresh]; (repeat' split) <;> rfl
@[simp] theorem Dev.inc_db (d : Dev) (r : Reg) (f : Fld) (n : Nat) : (d.inc r f n).db = d.db := by
  simp only [Dev.inc, Dev.fresh]; (repeat' split) <;> rfl
@[simp] theorem Dev.inc_bg (d : Dev) (r : Reg) (f : Fld) (n : Nat) : (d.inc r f n).bg = d.bg := by
  simp only [Dev.inc, Dev.fresh]; (repeat' split) <;> rfl
@[simp] theorem Dev.inc_tb (d : Dev) (r : Reg) (f : Fld) (n : Nat) : (d.inc r f n).tb = d.tb := by
  simp only [Dev.inc, Dev.fresh]; (repeat' split) <;> rfl
@[simp] theorem Dev.inc_ph (d : Dev) (r : Reg) (f : Fld) (n : Nat) : (d.inc r f n).ph = d.ph := by
  simp only [Dev.inc, Dev.fresh]; (repeat' split) <;> rfl
@[simp] theorem Dev.inc_cg (d : Dev) (r : Reg) (f : Fld) (n : Nat) : (d.inc r f n).cg = d.cg := by
  simp only [Dev.inc, Dev.fresh]; (repeat' split) <;> rfl
@[simp] theorem Dev.inc_hi (d : Dev) (r : Reg) (f : Fld) (n : Nat) : (d.inc r f n).hi = d.hi := by
  simp only [Dev.inc, Dev.fresh]; (repeat' split) <;> rfl
@[simp] theorem Dev.inc_bus (d : Dev) (r : Reg) (f : Fld) (n : Nat) : (d.inc r f n).bus = d.bus := by
  simp only [Dev.inc, Dev.fresh]; (repeat' split) <;> rfl
@[simp] theorem Dev.inc_bo (d : Dev) (r : Reg) (f : Fld) (n : Nat) : (d.inc r f n).bo = d.bo := by
  simp only [Dev.inc, Dev.fresh]; (repeat' split) <;> rfl
@[simp] theorem Dev.inc_pw (d : Dev) (r : Reg) (f : Fld) (n : Nat) : (d.inc r f n).pw = d.pw := by
  simp only [Dev.inc, Dev.fresh]; (repeat' split) <;> rfl
@[simp] theorem Dev.inc_devState (d : Dev) (r : Reg) (f : Fld) (n : Nat) : (d.inc r f n).devState = d.devState := by
  simp only [Dev.inc, Dev.fresh]; (repeat' split) <;> rfl
@[simp] theorem Dev.out_now (d : Dev) (o : Out) : (d.out o).now = d.now := by
  unfold Dev.out; (repeat' split) <;> rfl
@[simp] theorem Dev.out_regs (d : Dev) (o : Out) : (d.out o).regs = d.regs := by
  unfold Dev.out; (repeat' split) <;> rfl
@[simp] theorem Dev.out_free (d : Dev) (o : Out) : (d.out o).free = d.free := by
  unfold Dev.out; (repeat' split) <;> rfl
@[simp] theorem Dev.out_frames (d : Dev) (o : Out) : (d.out o).frames = d.frames := by
  unfold Dev.out; (repeat' split) <;> rfl
@[simp] theorem Dev.out_nextFrame (d : Dev) (o : Out) : (d.out o).nextFrame = d.nextFrame := by
  unfold Dev.out; (repeat' split) <;> rfl
@[simp] theorem Dev.out_events (d : Dev) (o : Out) : (d.out o).events = d.events := by
  unfold Dev.out; (repeat' split) <;> rfl
@[simp] theorem Dev.out_as (d : Dev) (o : Out) : (d.out o).as = d.as := by
  unfold Dev.out; (repeat' split) <;> rfl
@[simp] theorem Dev.out_st (d : Dev) (o : Out) : (d.out o).st = d.st := by
  unfold Dev.out; (repeat' split) <;> rfl
@[simp] theorem Dev.out_bn (d : Dev) (o : Out) : (d.out o).bn = d.bn := by
  unfold Dev.out; (repeat' split) <;> rfl
@[simp] theorem Dev.out_xc (d : Dev) (o : Out) : (d.out o).xc = d.xc := by
  unfold Dev.out; (repeat' split) <;> rfl
@[simp] theorem Dev.out_ho (d : Dev) (o : Out) : (d.out o).ho = d.ho := by
  unfold Dev.out; (repeat' split) <;> rfl
@[simp] theorem Dev.out_dr (d : Dev) (o : Out) : (d.out o).dr = d.dr := by
  unfold Dev.out; (repeat' split) <;> rfl
@[simp] theorem Dev.out_tl (d : Dev) (o : Out) : (d.out o).tl = d.tl := by
  unfold Dev.out; (repeat' split) <;> rfl
@[simp] theorem Dev.out_threads (d : Dev) (o : Out) : (d.out o).threads = d.threads := by
  unfold Dev.out; (repeat' split) <;> rfl
@[simp] theorem Dev.out_gals (d : Dev) (o : Out) : (d.out o).gals = d.gals := by
  unfold Dev.out; (repeat' split) <;> rfl
@[simp] theorem Dev.out_tk (d : Dev) (o : Out) : (d.out o).tk = d.tk := by
  unfold Dev.out; (repeat' split) <;> rfl
@[simp] theorem Dev.out_pt (d : Dev) (o : Out) : (d.out o).pt = d.pt := by
  unfold Dev.out; (repeat' split) <;> rfl
@[simp] theorem Dev.out_sm (d : Dev) (o : Out) : (d.out o).sm = d.sm := by
  unfold Dev.out; (repeat' split) <;> rfl
@[simp] theorem Dev.out_ld (d : Dev) (o : Out) : (d.out o).ld = d.ld := by
  unfold Dev.out; (repeat' split) <;> rfl
@[simp] theorem Dev.out_rl (d : Dev) (o : Out) : (d.out o).rl = d.rl := by
  unfold Dev.out; (repeat' split) <;> rfl
@[simp] theorem Dev.out_db (d : Dev) (o : Out) : (d.out o).db = d.db := by
  unfold Dev.out; (repeat' split) <;> rfl
@[simp] theorem Dev.out_bg (d : Dev) (o : Out) : (d.out o).bg = d.bg := by
  unfold Dev.out; (repeat' split) <;> rfl
@[simp] theorem Dev.out_tb (d : Dev) (o : Out) : (d.out o).tb = d.tb := by
  unfold Dev.out; (repeat' split) <;> rfl
@[simp] theorem Dev.out_ph (d : Dev) (o : Out) : (d.out o).ph = d.ph := by
  unfold Dev.out; (repeat' split) <;> rfl
@[simp] theorem Dev.out_cg (d : Dev) (o : Out) : (d.out o).cg = d.cg := by
  unfold Dev.out; (repeat' split) <;> rfl
@[simp] theorem Dev.out_hi (d : Dev) (o : Out) : (d.out o).hi = d.hi := by
  unfold Dev.out; (repeat' split) <;> rfl
@[simp] theorem Dev.out_bus (d : Dev) (o : Out) : (d.out o).bus = d.bus := by
  unfold Dev.out; (repeat' split) <;> rfl
@[simp] theorem Dev.out_bo (d : Dev) (o : Out) : (d.out o).bo = d.bo := by
  unfold Dev.out; (repeat' split) <;> rfl
@[simp] theorem Dev.out_pw (d : Dev) (o : Out) : (d.out o).pw = d.pw := by
  unfold Dev.out; (repeat' split) <;> rfl
@[simp] theorem Dev.out_devState (d : Dev) (o : Out) : (d.out o).devState = d.devState := by
  unfold Dev.out; (repeat' split) <;> rfl

/-! ## Registers -/

@[simp] theorem Dev.rset_rget (d : Dev) (r : Reg) (v : Word64) : (d.rset r v).rget r = v := by simp [Dev.rget, Dev.rset]

theorem Dev.rset_rget_of_ne (d : Dev) {r q : Reg} (v : Word64) (h : q.addr ≠ r.addr) : (d.rset r v).rget q = d.rget q :=
  Tab.get_set_other _ _ _ _ _ h

/-- Bits of a number from `lo` on, `w` of them. -/
theorem bitsOf_eq (v lo w : Nat) : bitsOf v lo w = v / 2 ^ lo % 2 ^ w := rfl

end Sys2Proof.Machine
end

