-- ==== Sys2Proof/Laws/Thread.lean ====
section
/-!
SUPPORT. Threads: reads after writes of a thread, what the issue of an instruction leaves alone, and the one lemma that says what
an instruction that only computes does.
-/

namespace Sys2Proof.Machine

theorem go_does {f : Dev → Dev} {c : Instr} {d : Dev} (h : ∀ q, exec c { dev := d, pending := q } = State.go { dev := d, pending := q } f) :
    Does c d (f d) := fun q => h q

/-! ## Threads in the table of threads -/

@[simp] theorem Dev.thr_setThr_self (d : Dev) (k : Nat) (t : Thread) : (d.setThr k t).thr k = t := by
  simp [Dev.thr, Dev.setThr]

theorem Dev.thr_setThr_other (d : Dev) {k j : Nat} (t : Thread) (h : j ≠ k) : (d.setThr k t).thr j = d.thr j :=
  Tab.get_set_other _ _ _ _ _ h

@[simp] theorem Dev.thr_modThr_self (d : Dev) (k : Nat) (f : Thread → Thread) : (d.modThr k f).thr k = f (d.thr k) :=
  Dev.thr_setThr_self _ _ _

theorem Dev.thr_modThr_other (d : Dev) {k j : Nat} (f : Thread → Thread) (h : j ≠ k) : (d.modThr k f).thr j = d.thr j :=
  Dev.thr_setThr_other _ _ h

@[simp] theorem Dev.regs_setThr (d : Dev) (k : Nat) (t : Thread) : (d.setThr k t).regs = d.regs := rfl
@[simp] theorem Dev.regs_modThr (d : Dev) (k : Nat) (f : Thread → Thread) : (d.modThr k f).regs = d.regs := rfl
@[simp] theorem Dev.mem_modThr (d : Dev) (k : Nat) (f : Thread → Thread) : (d.modThr k f).mem = d.mem := rfl

/-! ## Registers -/

@[simp] theorem Dev.rget_rset_self (d : Dev) (r : Reg) (v : Word64) : (d.rset r v).rget r = v := by simp [Dev.rget, Dev.rset]

theorem Dev.rget_rset_other (d : Dev) {r q : Reg} (v : Word64) (h : q.addr ≠ r.addr) : (d.rset r v).rget q = d.rget q :=
  Tab.get_set_other _ _ _ _ _ h

/-! ## The frame of issue -/

theorem IssueFrame.refl (k : Nat) (d : Dev) : IssueFrame k d d := ⟨rfl, fun _ => rfl, fun _ _ => rfl, fun _ => rfl, fun _ _ => rfl⟩

theorem IssueFrame.trans {k : Nat} {a b c : Dev} (h : IssueFrame k a b) (g : IssueFrame k b c) : IssueFrame k a c := by
  obtain ⟨h1, h2, h3, h4, h5⟩ := h
  obtain ⟨g1, g2, g3, g4, g5⟩ := g
  refine ⟨?_, fun x => (g2 x).trans (h2 x), fun j hj => (g3 j hj).trans (h3 j hj), fun x => ?_, fun r hr => (g5 r hr).trans (h5 r hr)⟩
  · rw [g1, h1]
  · rw [g4 x, h4 x]

theorem IssueFrame.imem {k : Nat} {d e : Dev} (h : IssueFrame k d e) (j w : Nat) : e.imem j w = d.imem j w := by
  have hm : e.mem = d.mem := by rw [h.1]
  have hb : ∀ n a, e.bytes a n = d.bytes a n := by
    intro n; induction n with
    | zero => intro a; rfl
    | succ n ih => intro a; simp only [Dev.bytes, ih, Dev.byte, hm]
  simp only [Dev.imem, Dev.load, hb]

theorem IssueFrame.wr {k : Nat} (d : Dev) (r : Reg) (f : Fld) (x : Nat) (h : r.addr ∈ issueRegs k) : IssueFrame k d (d.wr r f x) :=
  ⟨rfl, fun _ => rfl, fun _ _ => rfl, fun _ => rfl, fun _ hq => Dev.rget_rset_other d _ (fun e => hq (e ▸ h))⟩

theorem IssueFrame.inc {k : Nat} (d : Dev) (r : Reg) (f : Fld) (n : Nat) (h : r.addr ∈ issueRegs k) : IssueFrame k d (d.inc r f n) := by
  unfold Dev.inc
  extract_lets x
  split
  · exact IssueFrame.wr _ _ _ _ h
  · split
    · exact IssueFrame.wr _ _ _ _ h
    · exact IssueFrame.trans ⟨rfl, fun _ => rfl, fun _ _ => rfl, fun _ => rfl, fun _ _ => rfl⟩ (IssueFrame.wr _ _ _ _ h)

theorem IssueFrame.setThr {k : Nat} (d : Dev) (t : Thread) : IssueFrame k d (d.setThr k t) :=
  ⟨rfl, fun _ => rfl, fun _ hj => Dev.thr_setThr_other _ _ hj, fun _ => rfl, fun _ _ => rfl⟩

theorem IssueFrame.modThr {k : Nat} (d : Dev) (f : Thread → Thread) : IssueFrame k d (d.modThr k f) := IssueFrame.setThr _ _

theorem IssueFrame.galTraceAdd {k : Nat} (d : Dev) (r : BitVec 128) : IssueFrame k d (d.galTraceAdd r) := by
  unfold Dev.galTraceAdd
  split
  · exact IssueFrame.trans (IssueFrame.inc (k := k) d R.DB_GTRSTAT F.DB_GTRSTAT_lost 1 (by simp [issueRegs]))
      ⟨by simp only [Dev.inc_db], fun _ => rfl, fun _ _ => rfl, fun _ => rfl, fun _ _ => rfl⟩
  · exact ⟨rfl, fun _ => rfl, fun _ _ => rfl, fun _ => rfl, fun _ _ => rfl⟩

theorem IssueFrame.galTrace {k : Nat} (d : Dev) (j ev pc : Nat) : IssueFrame k d (d.galTrace j ev pc) := by
  unfold Dev.galTrace
  dsimp only
  split
  · exact IssueFrame.refl _ _
  · refine IssueFrame.trans ?_ (IssueFrame.galTraceAdd _ _)
    split
    · exact IssueFrame.refl _ _
    · exact ⟨rfl, fun _ => rfl, fun _ _ => rfl, fun _ => rfl, fun _ _ => rfl⟩

/-- Only the cycle counter of one gallery moves. -/
theorem IssueFrame.cycle {k : Nat} (d : Dev) (g c : Nat) : IssueFrame k d (d.modGal g (fun y => { y with cycle := c })) := by
  refine ⟨rfl, fun _ => rfl, fun _ _ => rfl, fun x => ?_, fun _ _ => rfl⟩
  by_cases h : x = g
  · subst h; simp [Dev.modGal, Dev.gal]
  · simp only [Dev.modGal, Dev.gal]
    rw [Tab.get_set_other _ _ _ _ _ h]

theorem IssueFrame.ownSlot {k : Nat} (d : Dev) (rs : List Nat) : IssueFrame k d (d.ownSlot k rs) := by
  unfold Dev.ownSlot Dev.fresh
  dsimp only
  exact IssueFrame.trans (IssueFrame.trans ⟨rfl, fun _ => rfl, fun _ _ => rfl, fun _ => rfl, fun _ _ => rfl⟩ (IssueFrame.cycle _ _ _))
    (IssueFrame.modThr _ _)

/-- The slots are counted and the thread is ready. -/
theorem IssueFrame.counted {k : Nat} (d : Dev) (cost : Nat) : IssueFrame k d
    (((d.countWait k (d.thr k)).inc (R.DR_CLOAD (k / 64) (k / 8 % 8)) F.DR_CLOAD_used cost).setThr k
      { d.thr k with slots := (d.thr k).slots + cost, st := if (d.thr k).st = .stall then .ready else (d.thr k).st
                     heldFrom := if (d.thr k).heldFrom = .stall then .ready else (d.thr k).heldFrom }) := by
  refine IssueFrame.trans ?_ (IssueFrame.setThr _ _)
  refine IssueFrame.trans ?_ (IssueFrame.inc _ _ _ _ (by simp [issueRegs]))
  unfold Dev.countWait
  split
  · rename_i r _
    split
    · refine IssueFrame.inc _ _ _ _ ?_
      have h : waitBin (d.now - r.at_) / 4 < 4 := by
        have : waitBin (d.now - r.at_) ≤ 15 := Nat.sub_le_sub_right (List.length_filter_le _ _) 1
        omega
      generalize waitBin (d.now - r.at_) / 4 = b at h
      interval_cases b <;> simp [issueRegs]
    · exact IssueFrame.refl _ _
  · exact IssueFrame.refl _ _

theorem IssueFrame.taken {k : Nat} (d : Dev) (cost : Nat) : IssueFrame k d (d.taken k cost) := by
  unfold Dev.taken Dev.refetch
  exact IssueFrame.trans (IssueFrame.counted d cost) (IssueFrame.modThr _ _)

theorem IssueFrame.begun (d : Dev) (k cost : Nat) (rs : List Nat) : IssueFrame k d (d.begun k cost rs) := by
  unfold Dev.begun
  refine IssueFrame.trans (IssueFrame.trans (IssueFrame.trans ?_ (IssueFrame.ownSlot _ _)) (IssueFrame.galTrace _ _ _ _)) (IssueFrame.taken _ _)
  split
  · exact IssueFrame.galTrace _ _ _ _
  · exact IssueFrame.refl _ _

theorem IssueFrame.applyMode (d : Dev) (k : Nat) (m : ModeChange) : IssueFrame k d (d.applyMode k m) := by
  unfold Dev.applyMode
  split <;> exact IssueFrame.modThr _ _

theorem IssueFrame.foldl {α : Type} {k : Nat} {f : Dev → α → Dev} (h : ∀ d x, IssueFrame k d (f d x)) (l : List α) (d : Dev) :
    IssueFrame k d (l.foldl f d) := by
  induction l generalizing d with
  | nil => exact IssueFrame.refl _ _
  | cons x l ih => exact IssueFrame.trans (h d x) (ih _)

theorem IssueFrame.finish (d : Dev) (k n : Nat) : IssueFrame k d (d.finish k n) := by
  unfold Dev.finish Dev.tickModes
  extract_lets l old e1
  refine IssueFrame.trans ?_ (IssueFrame.modThr _ _)
  refine IssueFrame.trans (b := e1) ?_ (IssueFrame.foldl (fun d (x : Nat × ModeChange) => IssueFrame.applyMode d k x.2) _ _)
  exact IssueFrame.trans (IssueFrame.modThr _ _) (IssueFrame.modThr _ _)

/-! ## The thread itself -/

/-- What of a thread a mode change or the end of an instruction leaves alone. -/
def Thread.after (a b : Thread) : Prop := b.arch = a.arch ∧ b.pc = a.pc ∧ b.fetched = a.fetched ∧ b.slots = a.slots

theorem Thread.after_trans {a b c : Thread} (h : a.after b) (g : b.after c) : a.after c :=
  ⟨g.1.trans h.1, g.2.1.trans h.2.1, g.2.2.1.trans h.2.2.1, g.2.2.2.trans h.2.2.2⟩

theorem Dev.applyMode_after (d : Dev) (k : Nat) (m : ModeChange) :
    (d.thr k).after ((d.applyMode k m).thr k) ∧ ((d.applyMode k m).thr k).ext = (d.thr k).ext := by
  cases m <;> simp [Dev.applyMode, Thread.after, Thread.arch]

theorem Dev.modes_after (k : Nat) (l : List (Nat × ModeChange)) (d : Dev) :
    (d.thr k).after ((l.foldl (fun d x => d.applyMode k x.2) d).thr k)
      ∧ ((l.foldl (fun d x => d.applyMode k x.2) d).thr k).ext = (d.thr k).ext := by
  induction l generalizing d with
  | nil => exact ⟨⟨rfl, rfl, rfl, rfl⟩, rfl⟩
  | cons x l ih =>
    have h := Dev.applyMode_after d k x.2
    exact ⟨Thread.after_trans h.1 (ih _).1, (ih _).2.trans h.2⟩

theorem Dev.finish_after (d : Dev) (k n : Nat) : (d.thr k).after ((d.finish k n).thr k) ∧ ((d.finish k n).thr k).ext = [] := by
  unfold Dev.finish Dev.tickModes
  extract_lets l old e1
  have h := Dev.modes_after k (old.filter (fun x => x.1 == 0)) e1
  have he : (d.thr k).after (e1.thr k) ∧ (e1.thr k).ext = [] := by simp [e1, Thread.after, Thread.arch]
  have hx : ∀ x : Dev, (x.thr k).after ((x.modThr k (fun t => if t.stepping then
      { t with stepping := false, heldFrom := if t.st = .hold then t.heldFrom else t.st
               st := if t.st = .free || t.st = .fault then t.st else .hold } else t)).thr k)
      ∧ ((x.modThr k (fun t => if t.stepping then
      { t with stepping := false, heldFrom := if t.st = .hold then t.heldFrom else t.st
               st := if t.st = .free || t.st = .fault then t.st else .hold } else t)).thr k).ext = (x.thr k).ext := by
    intro x
    simp only [Dev.thr_modThr_self]
    split <;> exact ⟨⟨rfl, rfl, rfl, rfl⟩, rfl⟩
  exact ⟨Thread.after_trans (Thread.after_trans he.1 h.1) (hx _).1, (hx _).2.trans (h.2.trans he.2)⟩

theorem Dev.galTrace_threads (d : Dev) (k ev pc : Nat) : (d.galTrace k ev pc).threads = d.threads := by
  have h : ∀ (e : Dev) r, (e.galTraceAdd r).threads = e.threads := by
    intro e r; unfold Dev.galTraceAdd; split
    · exact Dev.inc_threads _ _ _ _
    · rfl
  unfold Dev.galTrace
  dsimp only
  split
  · rfl
  · rw [h]; split <;> rfl

theorem Dev.countWait_threads (d : Dev) (k : Nat) (t : Thread) : (d.countWait k t).threads = d.threads := by
  unfold Dev.countWait
  split
  · split
    · exact Dev.inc_threads _ _ _ _
    · rfl
  · rfl

/-- What of a thread the way to its own slot leaves alone. -/
theorem Dev.ownSlot_thr (d : Dev) (k : Nat) (rs : List Nat) :
    ∃ b l, (d.ownSlot k rs).thr k = { d.thr k with busy := b, lastOpen := l } := by
  unfold Dev.ownSlot Dev.fresh
  dsimp only
  rw [Dev.thr_modThr_self]
  exact ⟨_, _, rfl⟩

/-- The thread once its slots are taken and the next word is fetched. -/
theorem Dev.taken_thr (d : Dev) (k cost : Nat) :
    ∃ st hf fb, (d.taken k cost).thr k = { d.thr k with
      slots := (d.thr k).slots + cost, st := st, heldFrom := hf, fetchBad := fb
      pc := BitVec.ofNat 14 ((d.thr k).pc.toNat + 1), fetched := d.imem k ((d.thr k).pc.toNat + 1) } := by
  have h := (IssueFrame.counted (k := k) d cost).imem k ((d.thr k).pc.toNat + 1)
  rw [← h]
  unfold Dev.taken Dev.refetch
  simp only [Dev.thr_modThr_self, Dev.thr_setThr_self]
  exact ⟨_, _, _, rfl⟩

/-- The thread once an instruction has taken its slots. -/
theorem Dev.begun_thr (d : Dev) (k cost : Nat) (rs : List Nat) :
    ∃ st hf b l fb, (d.begun k cost rs).thr k = { d.thr k with
      slots := (d.thr k).slots + cost, st := st, heldFrom := hf, busy := b, lastOpen := l, fetchBad := fb
      pc := BitVec.ofNat 14 ((d.thr k).pc.toNat + 1), fetched := d.imem k ((d.thr k).pc.toNat + 1) } := by
  have h0 : ∀ (e : Dev) b l, e.thr k = { d.thr k with busy := b, lastOpen := l } → (∀ w, e.imem k w = d.imem k w) →
      ∃ st hf fb, (e.taken k cost).thr k = { d.thr k with
        slots := (d.thr k).slots + cost, st := st, heldFrom := hf, busy := b, lastOpen := l, fetchBad := fb
        pc := BitVec.ofNat 14 ((d.thr k).pc.toNat + 1), fetched := d.imem k ((d.thr k).pc.toNat + 1) } := by
    intro e b l ht hi
    obtain ⟨st, hf, fb, h⟩ := Dev.taken_thr e k cost
    refine ⟨st, hf, fb, ?_⟩
    rw [h, hi, ht]
  obtain ⟨b, l, hb⟩ := Dev.ownSlot_thr (if (d.thr k).st = .stall then d.galTrace k 2 (d.thr k).pc.toNat else d) k rs
  have hi : (if (d.thr k).st = .stall then d.galTrace k 2 (d.thr k).pc.toNat else d).thr k = d.thr k := by
    split
    · rw [Dev.thr, Dev.galTrace_threads]; rfl
    · rfl
  unfold Dev.begun
  have ht : ((((if (d.thr k).st = .stall then d.galTrace k 2 (d.thr k).pc.toNat else d).ownSlot k rs).galTrace k 0 (d.thr k).pc.toNat)).thr k
      = { d.thr k with busy := b, lastOpen := l } := by
    rw [Dev.thr, Dev.galTrace_threads]; rw [hi] at hb; exact hb
  obtain ⟨st, hf, fb, h⟩ := h0 _ b l ht (fun w => by
    refine IssueFrame.imem (k := k) (IssueFrame.trans (IssueFrame.trans ?_ (IssueFrame.ownSlot _ _)) (IssueFrame.galTrace _ _ _ _)) _ _
    split
    · exact IssueFrame.galTrace _ _ _ _
    · exact IssueFrame.refl _ _)
  exact ⟨st, hf, b, l, fb, h⟩

/-! ## Issue -/

/-- Once an instruction issues, its body decides. -/
theorem Dev.issue_eq {d : Dev} {k mask pat cost : Nat} {rs : List Nat} {x : Bool} (body : Thread → Dev → Act)
    (h : d.issues k mask pat cost rs x = true) :
    d.issue k mask pat cost rs x body =
      match body (d.thr k) (d.begun k cost rs) with
      | .fault code detail =>
        (if code = 4 then d.inc (R.GL_ECC (k / 64)) F.GL_ECC_uncorr else d).faultThread k code detail (d.thr k).pc.toNat
      | .rank d' x => ({ d with regs := d'.regs }).faultThread k 6 x (d.thr k).pc.toNat
      | .stall why => (d.turnAway k why).stallThread k why
      | .watch => d.holdThread k
      | .pre e => e
      | .go e => e.beyond d k
      | .jump e pc => (e.refetch k pc).beyond d k := by
  simp only [Dev.issues, Bool.and_eq_true, Bool.not_eq_true', Bool.or_eq_true, beq_iff_eq] at h
  obtain ⟨⟨⟨⟨⟨⟨h1, h2⟩, h3⟩, h4⟩, h5⟩, h6⟩, h7⟩ := h
  unfold Dev.issue
  simp only [h1, h2, h4, h5, h7, Bool.not_true, bne_self_eq_false, Bool.or_self, Bool.false_eq_true, if_false, h3]
  rw [if_neg (by rcases h6 with h6 | h6 <;> simp [h6])]
  rfl

/-- An instruction that only computes on its thread retires. -/
theorem retires_of_run {c : Instr} {d : Dev} {k cost pc : Nat} {rs : List Nat} {f : Thread → Thread} {u : Dev}
    (hc : Does c d (u.beyond d k)) (hu : IssueFrame k (d.begun k cost rs) u)
    (hp : (u.thr k).pc = BitVec.ofNat 14 pc) (hw : (u.thr k).fetched = d.imem k pc)
    (hs : (u.thr k).slots = (d.thr k).slots + cost) (ha : (u.thr k).arch = (f (d.thr k)).arch) : Retires c d k cost pc f := by
  have hF := Dev.finish_after u k (d.thr k).delayed.length
  refine ⟨_, hc, IssueFrame.trans (IssueFrame.begun _ _ _ _) (IssueFrame.trans hu (IssueFrame.finish _ _ _)), ?_, ?_, ?_, ?_, ?_⟩
  · exact hF.1.2.1.trans hp
  · exact hF.1.2.2.1.trans hw
  · exact hF.1.2.2.2.trans hs
  · exact hF.2
  · exact hF.1.1.trans ha

/-- An instruction that goes on with the thread changed by `g`: what `g` makes of the thread is to be shown whatever the book-keeping
of issue has put into it. -/
theorem retires_go {c : Instr} {d : Dev} {k mask pat cost : Nat} {rs : List Nat} {x : Bool} {body : Thread → Dev → Act}
    {f g : Thread → Thread} (hc : Does c d (d.issue k mask pat cost rs x body)) (h : d.issues k mask pat cost rs x = true)
    (hb : body (d.thr k) (d.begun k cost rs) = .go ((d.begun k cost rs).modThr k g))
    (hg : ∀ st hf b l fb p w s, (g { d.thr k with slots := s, st := st, heldFrom := hf, busy := b, lastOpen := l, fetchBad := fb
                                                  pc := p, fetched := w }).arch = (f (d.thr k)).arch)
    (hp : ∀ t, (g t).pc = t.pc) (hw : ∀ t, (g t).fetched = t.fetched) (hs : ∀ t, (g t).slots = t.slots) :
    Retires c d k cost ((d.thr k).pc.toNat + 1) f := by
  rw [Dev.issue_eq body h, hb] at hc
  obtain ⟨st, hf, b, l, fb, ht⟩ := Dev.begun_thr d k cost rs
  refine retires_of_run hc (IssueFrame.modThr _ _) ?_ ?_ ?_ ?_ <;> rw [Dev.thr_modThr_self]
  · rw [hp, ht]
  · rw [hw, ht]
  · rw [hs, ht]
  · rw [ht]; exact hg _ _ _ _ _ _ _ _

/-- An instruction that goes on with the thread changed by `g`, whose result comes some cycles later. -/
theorem retires_later {c : Instr} {d : Dev} {k mask pat cost lat : Nat} {rs q : List Nat} {x : Bool} {body : Thread → Dev → Act}
    {f g : Thread → Thread} (hc : Does c d (d.issue k mask pat cost rs x body)) (h : d.issues k mask pat cost rs x = true)
    (hb : body (d.thr k) (d.begun k cost rs) = .go (((d.begun k cost rs).modThr k g).later k lat q))
    (hg : ∀ st hf b l fb p w s, (g { d.thr k with slots := s, st := st, heldFrom := hf, busy := b, lastOpen := l, fetchBad := fb
                                                  pc := p, fetched := w }).arch = (f (d.thr k)).arch)
    (hp : ∀ t, (g t).pc = t.pc) (hw : ∀ t, (g t).fetched = t.fetched) (hs : ∀ t, (g t).slots = t.slots) :
    Retires c d k cost ((d.thr k).pc.toNat + 1) f := by
  rw [Dev.issue_eq body h, hb] at hc
  obtain ⟨st, hf, b, l, fb, ht⟩ := Dev.begun_thr d k cost rs
  refine retires_of_run (rs := rs) hc (IssueFrame.trans (IssueFrame.modThr _ g) (by unfold Dev.later; exact IssueFrame.modThr _ _)) ?_ ?_ ?_ ?_ <;>
    rw [Dev.later, Dev.thr_modThr_self, Dev.thr_modThr_self]
  · show (g _).pc = _
    rw [hp, ht]
  · show (g _).fetched = _
    rw [hw, ht]
  · show (g _).slots = _
    rw [hs, ht]
  · refine Eq.trans (b := (g ((d.begun k cost rs).thr k)).arch) rfl ?_
    rw [ht]; exact hg _ _ _ _ _ _ _ _

/-- An instruction that goes on elsewhere. -/
theorem retires_jump {c : Instr} {d : Dev} {k mask pat cost pc : Nat} {rs : List Nat} {x : Bool} {body : Thread → Dev → Act}
    {f g : Thread → Thread} (hc : Does c d (d.issue k mask pat cost rs x body)) (h : d.issues k mask pat cost rs x = true)
    (hb : body (d.thr k) (d.begun k cost rs) = .jump ((d.begun k cost rs).modThr k g) pc)
    (hg : (g ((d.begun k cost rs).thr k)).arch = (f (d.thr k)).arch) (hs : ∀ t, (g t).slots = t.slots) : Retires c d k cost pc f := by
  rw [Dev.issue_eq body h, hb] at hc
  obtain ⟨st, hf, b, l, fb, ht⟩ := Dev.begun_thr d k cost rs
  refine retires_of_run hc (IssueFrame.trans (IssueFrame.modThr _ _) (IssueFrame.modThr _ _)) ?_ ?_ ?_ ?_ <;>
    rw [Dev.refetch, Dev.thr_modThr_self]
  · exact (IssueFrame.trans (IssueFrame.begun d k cost rs) (IssueFrame.modThr _ _)).imem _ _
  · rw [Dev.thr_modThr_self]
    show (g _).slots = _
    rw [hs, ht]
  · rw [Dev.thr_modThr_self]; exact hg

end Sys2Proof.Machine
end

