-- ==== Sys2Proof/WellFormed.lean ====
section
/-!
DEFINITION. Which commands the outside can send. Most operands hold only legal values by their type; the rest is checked here.
-/

namespace Sys2Proof

/-- The widths in bytes that a register access has (R5, R508). -/
def sizeOk (n : Nat) : Bool := n == 1 || n == 2 || n == 4 || n == 8

/-- A temperature in 1/16 °C that 16 bits hold, as every sensor reports it (R471, R482). -/
def tempOk (t : Int) : Bool := decide (-32768 ≤ t) && decide (t ≤ 32767)

/-- What a scheduled calibration measures. -/
def CalItem.wf : CalItem → Bool
  | .equaliser _ => true
  | .ocxo t => tempOk t
  | .sensor _ o => tempOk o

/-- Requests of a start-up configuration fit a Cage request body (R361). -/
def StageEnd.wf : StageEnd → Bool
  | .apply reqs _ => reqs.all (fun r => decide (r.2.length ≤ 2032))
  | _ => true

/-- A command that the outside can send. -/
def Instr.wf : Instr → Bool
  | .registerWrite _ _ n _ => sizeOk n
  | .rcRead _ _ n => sizeOk n
  | .ptTsdlyWrite _ _ n _ => sizeOk n
  | .unmappedAccess _ _ n _ => sizeOk n
  | .areaWrite _ _ n _ => sizeOk n
  -- a frame has at least one byte between its start and its end (R31)
  | .frameReceive _ data _ => !data.isEmpty
  -- a second of the year, and a year of two digits (R59)
  | .irigFrame soy year _ => decide (soy < 366 * 86400 + 1) && (match year with | some y => decide (y ≤ 99) | none => true)
  -- a PCIe request moves 1 to 4,096 bytes
  | .bar2Access _ n data _ _ => (match data with | some bs => bs.length == n | none => true) && decide (1 ≤ n) && decide (n ≤ 4096)
  | .tempPoll _ _ t => tempOk t
  -- 18 lanes of a channel, two centres each (R385)
  | .trackingStep _ _ _ m => decide (m ≤ 36)
  | .thermalPolicyStep _ t => tempOk t
  | .calibrationCycle item => item.wf
  | .startupStageEnd e => e.wf
  | _ => true

end Sys2Proof
end

