-- ==== Sys2Proof/Tests/Slice0.lean ====
section
/-!
SUPPORT. Tests of the model: the well-formedness checks on an ill-formed term each, single steps on small states with results worked out
by hand from the spec, and for each statement states and operands that meet its hypotheses.
-/

namespace Sys2Proof.Tests
open Sys2Proof.Machine

-- one proof at a time: each is a computation of the kernel
set_option Elab.async false

/-! ## Small states -/

/-- Gallery g of `d` runs its threads (R152: ACTIVE). -/
def runs (d : Dev) (g : Nat) : Dev := d.wr (R.GL_STAT g) F.GL_STAT_state 3
/-- A device whose thread k is `t`, in a gallery that runs. -/
def one (k : Nat) (t : Thread) : Dev := runs { threads := [(k, t)] } (k / 64)
/-- A ready thread with the word w at its pc. -/
def word (w : Nat) : Thread := { st := .ready, fetched := BitVec.ofNat 14 w }
/-- A thread whose registers are these, then zeros. -/
def regs (t : Thread) (l : List Nat) : Thread := { t with g := Vector.ofFn (fun i => BitVec.ofNat 32 (l.getD i 0)) }
/-- The reset device with one field of one register written. -/
def fld (r : Reg) (f : Fld) (x : Nat) : Dev := ({} : Dev).wr r f x
/-- Port p of `d` is UP and its Hold is over (R48, R317). -/
def up (d : Dev) (p : Nat) : Dev := (d.setPortSt p 2).wr (R.XC_PORT p) F.XC_PORT_hstate 0
/-- What step answers, seen through `f`. -/
def after {α : Type} (c : Instr) (d : Dev) (f : Dev → α) : Option α :=
  match step { dev := d, pending := [c] } with
  | .next s => some (f s.dev)
  | _ => none

/-! ## Well-formed commands -/

theorem test_wf_size : (Instr.registerWrite .tap 0 3 0).wf = false ∧ (Instr.rcRead .tap 0 0).wf = false
    ∧ (Instr.ptTsdlyWrite .tap 0 5 0).wf = false ∧ (Instr.unmappedAccess .tap 0 6 none).wf = false ∧ (Instr.areaWrite .tap 0 7 0).wf = false
    ∧ (Instr.registerWrite .tap 0 8 0).wf = true := by decide
theorem test_wf_frame : (Instr.frameReceive 0 [] none).wf = false ∧ (Instr.frameReceive 0 [0] none).wf = true := by decide
theorem test_wf_irig : (Instr.irigFrame (366 * 86400 + 1) none none).wf = false ∧ (Instr.irigFrame 0 (some 100) none).wf = false
    ∧ (Instr.irigFrame (366 * 86400) (some 99) none).wf = true := by decide
theorem test_wf_bar2 : (Instr.bar2Access 0 0 none false false).wf = false ∧ (Instr.bar2Access 0 4097 none false false).wf = false
    ∧ (Instr.bar2Access 0 2 (some [0]) false false).wf = false ∧ (Instr.bar2Access 0 4096 none false false).wf = true := by decide
theorem test_wf_temperature : (Instr.tempPoll 0 false 32768).wf = false ∧ (Instr.thermalPolicyStep 0 (-32769)).wf = false
    ∧ (Instr.calibrationCycle (.ocxo 40000)).wf = false ∧ (Instr.calibrationCycle (.sensor 0 (-40000))).wf = false
    ∧ (Instr.tempPoll 0 false (-32768)).wf = true := by decide
theorem test_wf_tracking : (Instr.trackingStep 0 0 0 37).wf = false ∧ (Instr.trackingStep 0 0 0 36).wf = true := by decide
theorem test_wf_apply : (Instr.startupStageEnd (.apply [(0, List.replicate 2033 0)] 0)).wf = false
    ∧ (Instr.startupStageEnd (.apply [(0, List.replicate 2032 0)] 0)).wf = true := by decide +kernel

/-! ## States that meet the hypotheses: threads -/

theorem witness_idle : (fld R.PW_LSTAT F.PW_LSTAT_mode 3).rd R.PW_LSTAT F.PW_LSTAT_mode ≠ 4
    ∧ (fld R.PW_LSTAT F.PW_LSTAT_mode 4).rd R.PW_LSTAT F.PW_LSTAT_mode = 4 := by decide +kernel

/-- ArithmeticResults, LogicResults and ShiftResults: every two-register opcode at g0 and g15, every one-register operation and every
immediate form issues. -/
theorem witness_two_registers : [0x00, 0x01, 0x02, 0x03, 0x04, 0x05, 0x06, 0x07, 0x08, 0x09, 0x0A, 0x0B, 0x0C, 0x0D, 0x0E, 0x0F, 0x35, 0x36, 0x37].all
    (fun op => (one 0 (word (op * 256 + 15))).issues 0 0x3FFF (op * 256 + 15) 1 [0, 15] false
      && (one 1663 (word (op * 256 + 240))).issues 1663 0x3FFF (op * 256 + 240) 1 [15, 0] false) = true := by decide +kernel
theorem witness_one_register : [8, 9, 10, 11, 12, 13, 14].all
    (fun op => (one 9 (word (0x3200 + op * 16 + 15))).issues 9 0x3FFF (0x3200 + op * 16 + 15) 1 [15] false) = true := by decide +kernel
theorem witness_immediate : [4, 5, 6].all (fun op => (one 9 { word (op * 1024 + 15 * 64 + 63) with ext := [1, 2, 3] }).issues 9 0x3FFF
      (op * 1024 + 15 * 64 + 63) 1 [15] true) = true
    ∧ [0x1C, 0x1D, 0x1E, 0x1F].all (fun op => (one 9 (word (op * 256 + 15))).issues 9 0x3FFF (op * 256 + 15) 1 [0] false) = true := by
  decide +kernel
/-- BranchConditions: taken and not, and the illegal condition. -/
theorem witness_branch : [0, 1, 14, 15].all (fun c => (one 9 (word (0x2800 + c * 64 + 63))).issues 9 0x3FFF (0x2800 + c * 64 + 63) 2 [] true) = true := by
  decide +kernel
theorem witness_control_flow :
    (one 9 (word 0x2DFF)).issues 9 0x3FFF (0x2C00 + 511) 2 [15] true = true ∧ (one 9 (word 0x2E7F)).issues 9 0x3F8F (0x2E00 + 15) 2 [15] false = true
      ∧ (one 9 (word 0x2E8F)).issues 9 0x3F8F (0x2E80 + 15) 2 [15, 15] false = true ∧ (one 9 (word 0x2F00)).issues 9 0x3F80 0x2F00 2 [15] false = true
      ∧ (one 9 (word 0x3200)).issues 9 0x3FF0 0x3200 1 [] false = true
      ∧ (let t : Thread := { word 0x3220 with inHnd := true }; (one 9 t).issues 9 0x3FF0 0x3220 2 [] false = true ∧ ((one 9 t).thr 9).inHnd = true)
      ∧ (one 9 (word 0x3220)).issues 9 0x3FF0 0x3220 2 [] false = true ∧ ((one 9 (word 0x3220)).thr 9).inHnd = false
      ∧ (one 9 (word 0x3240)).issues 9 0x3FF0 0x3240 1 [] false = true ∧ (one 9 (word 0x3240)).unlocked = false
      ∧ (let d := (one 9 (word 0x3240)).wr R.DB_STAT F.DB_STAT_unlocked 1; d.issues 9 0x3FF0 0x3240 1 [] false = true ∧ d.unlocked = true) := by
  decide +kernel
theorem witness_prefix :
    ((one 9 (word 0x3FFF)).issues 9 0x3FFF (0x3C00 + 1023) 1 [] true = true ∧ ((one 9 (word 0x3FFF)).thr 9).ext.length < 3)
      ∧ (let d := one 9 { word 0x3C00 with ext := [1, 2, 3] }; d.issues 9 0x3FFF 0x3C00 1 [] true = true ∧ 3 ≤ (d.thr 9).ext.length)
      ∧ (let d := one 9 (regs (word 0x3401) [5, 2 ^ 14 - 1]); d.issues 9 0x3FFF 0x3401 1 [0, 1] false = true ∧ ((d.thr 9).reg 1).toNat < 2 ^ 14)
      ∧ (let d := one 9 (regs (word 0x3401) [5, 2 ^ 14]); d.issues 9 0x3FFF 0x3401 1 [0, 1] false = true ∧ 2 ^ 14 ≤ ((d.thr 9).reg 1).toNat)
      ∧ (one 9 (word 0x3230)).issues 9 0x3FF0 0x3230 1 [] false = true ∧ (one 9 (word 0x3210)).issues 9 0x3FF0 0x3210 1 [] false = true
      ∧ [0x2700, 0x2F80, 0x3250, 0x32F0, 0x33B0, 0x33F0, 0x3890, 0x38E0, 0x39B0, 0x39F0].all (fun w => let d := one 9 (word w)
        (reservedFault (d.thr 9).fetched.toNat).isSome && d.issues 9 0 0 1 [] false) = true
      ∧ [0x26FF, 0x2F70, 0x3240, 0x33AF, 0x388F, 0x39AF].all (fun w => (reservedFault w).isNone) = true := by decide +kernel

/-- SpecialRegisters: every number of both instructions. -/
theorem witness_special : (List.range 16).all (fun n =>
    (one 9 (word (0x3000 + 15 * 16 + n))).issues 9 0x3FFF (0x3000 + 15 * 16 + n) 1 [15] false
      && (one 9 (word (0x3100 + n * 16 + 15))).issues 9 0x3FFF (0x3100 + n * 16 + 15) 1 [15] false) = true := by decide +kernel

/-- Thread k with the word w, g0 = 7 and the address a in g1. -/
def at_ (k a w : Nat) : Dev := one k (regs (word w) [7, a])
/-- The access through g1 passes its checks and reaches a place that `f` accepts. -/
def reach (d : Dev) (k n : Nat) (store : Bool) (f : Place → Bool) : Bool :=
  match d.reaches k 1 n store (if store then none else some 0) with
  | some (_, p) => f p
  | none => false
def isPriv (p : Place) : Bool := match p with | .priv _ => true | _ => false
def isGl (p : Place) : Bool := match p with | .gl _ => true | _ => false

/-- Loads: private data, the buffered regions at their ends, and the supervisor's window, at each size. -/
theorem witness_loads : [(0, 1), (1, 2), (2, 4), (3, 2)].all (fun e =>
    let w := 0x2000 + e.1 * 256 + 1
    (at_ 9 0 w).issues 9 0x3FFF w 1 [0, 1] true
      && reach (at_ 9 0 w) 9 e.2 false isPriv && !(at_ 9 0 w).wordBad 0 (privAddr 0 1 0) e.2 && reach (at_ 9 (0x8000 - e.2) w) 9 e.2 false isPriv
      && reach (at_ 9 0x100000 w) 9 e.2 false Place.isLong && reach (at_ 9 (0x300000 - e.2) w) 9 e.2 false Place.isLong
      && reach (at_ 9 0x40000000 w) 9 e.2 false Place.isLong && reach (at_ 9 (2 ^ 32 - e.2) w) 9 e.2 false Place.isLong
      && (at_ 7 0x300000 w).issues 7 0x3FFF w 1 [0, 1] true && reach (at_ 7 0x300000 w) 7 e.2 false isGl) = true := by decide +kernel
/-- Stores: the same, with an empty and with a full store buffer. -/
theorem witness_stores : [(0, 1), (1, 2), (2, 4)].all (fun e =>
    let w := 0x2400 + e.1 * 256 + 1
    let full : Dev := one 9 { regs (word w) [7, 0x100000] with sb := List.replicate 4 (.cp2 0) }
    (at_ 9 0 w).issues 9 0x3FFF w 1 [0, 1] true && reach (at_ 9 (0x8000 - e.2) w) 9 e.2 true isPriv
      && reach (at_ 9 (2 ^ 32 - e.2) w) 9 e.2 true Place.isLong && decide (((at_ 9 0 w).thr 9).sb.length < 4)
      && full.issues 9 0x3FFF w 1 [0, 1] true && reach full 9 e.2 true Place.isLong && decide (4 ≤ (full.thr 9).sb.length)
      && (at_ 7 0x300000 w).issues 7 0x3FFF w 1 [0, 1] true && reach (at_ 7 0x300000 w) 7 e.2 true isGl
      && ((at_ 7 0x300000 w).thr 7).sb.isEmpty) = true := by decide +kernel
theorem witness_buffered :
    (let d := one 9 { sb := [.store 0 [1], .cp2 5] }; (d.thr 9).sb = .store 0 [1] :: [.cp2 5])
      ∧ (let d := one 9 { sb := [.cp2 5] }; (d.thr 9).sb = .cp2 5 :: [])
      ∧ (let l : LongLoad := { dst := 15, data := some [1, 2, 3, 4] }; ((one 9 { loads := [l] }).thr 9).loads[0]? = some l ∧ l.data = some [1, 2, 3, 4] ∧ l.bad = false)
      ∧ (let l : LongLoad := { data := some [0], bad := true }; let t : Thread := { loads := [{}, l], st := .ready }
         ((one 9 t).thr 9).loads[1]? = some l ∧ l.bad = true ∧ ((one 9 t).thr 9).st ≠ .hold) := by decide +kernel

/-- CopZeroAndOne: every operation issues, with the operands of each clause at the ends of their ranges. -/
theorem witness_cp0 :
    ([0, 1, 2, 3, 4, 5, 6, 7, 8, 15].all (fun op => (one 9 (word (0x3800 + op * 16 + 15))).issues 9 0x3FFF (0x3800 + op * 16 + 15) 1 [15, 14] false)) = true
      ∧ (0 % 16 < 4 ∧ 3 % 16 < 4 ∧ 4 ≤ 4 % 16 ∧ 4 ≤ 15 % 16)
      ∧ [(1, 0x100000), (256, 0x300000 - 256)].all (fun (e : Nat × Nat) =>
          let d := one 9 (regs (word 0x3840) [e.2, e.1])
          let v := (d.thr 9).reg 0
          let l := ((d.thr 9).reg 1).toNat % 512
          d.issues 9 0x3FFF 0x3840 1 [0, 1] false && decide (1 ≤ l) && decide (l ≤ 256) && decide (0x100000 ≤ v.toNat) && decide (v.toNat + l ≤ 0x300000)
            && !d.wordBad 0 (sharedAddr 0 (v.toNat - 0x100000)) l) = true
      ∧ [(1, 0xFFFFF), (256, 0x300000 - 255)].all (fun (e : Nat × Nat) =>
          let d := one 9 (regs (word 0x3840) [e.2, e.1])
          let v := (d.thr 9).reg 0
          let l := ((d.thr 9).reg 1).toNat % 512
          decide (1 ≤ l) && decide (l ≤ 256) && (decide (v.toNat < 0x100000) || decide (0x300000 < v.toNat + l))) = true
      ∧ [0, 257, 511].all (fun (l : Nat) => let n := ((one 9 (regs (word 0x3840) [0x100000, l])).thr 9).reg 1
          n.toNat % 512 == 0 || decide (256 < n.toNat % 512)) = true
      ∧ (let t : Thread := { word 0x3860 with cp0 := { fsel := 2 } }; (one 9 t).issues 9 0x3FFF 0x3860 1 [0, 1] false = true ∧ ((one 9 t).thr 9).cp0.fsel = 2)
      ∧ ((one 9 (word 0x3860)).thr 9).cp0.fsel ≠ 2 := by decide +kernel
theorem witness_cp1 : (List.range 11).all (fun op => let d := one 9 (word (0x3900 + op * 16 + 15))
    let r := if op = 4 then (d.thr 9).fetched.toNat % 16 else 15
    d.issues 9 0x3FFF (0x3900 + op * 16 + r) 1 [r, r ^^^ 1] false) = true := by decide +kernel
theorem witness_cp2 :
    let w := 0x3AF0
    let ok (d : Dev) : Bool := d.issues 9 0x3FFF w 2 [0, 1] false
    let room (d : Dev) : Bool := decide ((d.thr 9).sb.length < 4) && decide (((d.thr 9).live 2).length < 4)
    let a (d : Dev) : Nat := ((d.thr 9).reg 0).toNat
    let full (d : Dev) : Bool := (d.begun 9 2 [0, 1]).quadFull ((d.begun 9 2 [0, 1]).cp2Quad 9 (a d))
    let at_ (x : Nat) : Dev := one 9 (regs (word w) [x])
    [0x100000, 0x200000 - 96, 0x200000, 0x300000 - 96].all (fun x => ok (at_ x) && room (at_ x) && cp2Block (a (at_ x)) && a (at_ x) % 8 == 0
        && !full (at_ x)) = true
      ∧ (let d := (List.range 4).foldl (fun (d : Dev) q => d.wr (R.LD_QSTAT q) F.LD_QSTAT_q_depth 1024) (at_ 0x100000)
         (ok d && room d && cp2Block (a d) && a d % 8 == 0 && full d) = true)
      ∧ (let d := one 9 { word w with sb := List.replicate 4 (.cp2 0) }; ok d = true ∧ room d = false)
      ∧ [0xFFFF8, 0x200000 - 88, 0x300000 - 95].all (fun x => ok (at_ x) && room (at_ x) && !cp2Block (a (at_ x))) = true
      ∧ (ok (at_ 0x100001) && room (at_ 0x100001) && cp2Block (a (at_ 0x100001)) && a (at_ 0x100001) % 8 != 0) = true
      ∧ [none, some { slot := 2047, node := 15 }].all (fun m =>
          let y : CpOp := { id := 3, args := some (List.replicate 32 0) }
          let d := one 9 { ops := [y], node := m }
          let x := d.lodeOp (.gallery 0 y.num) y.fn (List.replicate 32 0) 0 false false none
          ((d.thr 9).ops.filter (fun o => o.cp == 2))[0]? == some y && !y.dead && d.lodeTurn 0 y.num && x.1.isSome && (x.2.thr 9).node == m) = true := by
  decide +kernel
/-- Gallery 0's Face tile with the state x and every function. -/
def face (d : Dev) (x : Nat) : Dev := (d.wr (R.GL_FCSTAT 0) F.GL_FCSTAT_state x).wr (R.GL_FCINFO 0) F.GL_FCINFO_fn_mask 0xFFFF
theorem witness_face :
    let w := 0x3BF0
    let d := face (one 9 (word w)) 3
    let u (d : Dev) : Dev := d.begun 9 2 [0, 1]
    let ops (n : Nat) : List CpOp := List.replicate n { cp := 3 }
    let y : CpOp := { cp := 3, tag := 9 * 4, sent := true }
    let q := one 9 { ops := [y] }
    let four := face (one 9 { word w with ops := ops 4 }) 3
    let busy := face (runs { threads := (9, word w) :: (List.range 8).map (fun i => (10 + i, { ops := ops 4 })) } 0) 3
    (d.issues 9 0x3FFF w 2 [0, 1] false = true ∧ (u d).faceState 0 = 3 ∧ bitAt ((u d).rd (R.GL_FCINFO 0) F.GL_FCINFO_fn_mask) 15 = true
        ∧ ((d.thr 9).live 3).length < 4 ∧ (u d).faceQueue 0 < 32)
      ∧ (four.issues 9 0x3FFF w 2 [0, 1] false = true ∧ 4 ≤ ((four.thr 9).live 3).length)
      ∧ (busy.issues 9 0x3FFF w 2 [0, 1] false = true ∧ 32 ≤ (u busy).faceQueue 0)
      ∧ (let d := face (one 9 (word w)) 2
         d.issues 9 0x3FFF w 2 [0, 1] false = true ∧ (u d).faceState 0 ≠ 3 ∧ ((d.thr 9).live 3).length < 4 ∧ (u d).faceQueue 0 < 32)
      ∧ (((q.thr 9).live 3).find? (fun o => o.sent && o.tag == 36) = some y ∧ ((q.thr 9).live 3).find? (fun o => o.tag == 36) = some y)
      ∧ (((({} : Dev).thr 9).live 3).find? (fun o => o.sent && o.tag == 36) = none
          ∧ (({} : Dev).thr 9).ops.find? (fun o => o.cp == 3 && o.dead && o.tag == 36) = none)
      ∧ (face {} 3).faceState 0 = 3 ∧ (face {} 2).faceState 0 = 2
      ∧ ((({} : Dev).modGal 0 (fun x => { x with face := { bad := [4095] } })).gal 0).face.bad = 4095 :: []
      ∧ ((({} : Dev).modGal 0 (fun x => { x with late := [(9, 0, 2, 4, 0, 0)] })).gal 0).late = (9, 0, 2, 4, 0, 0) :: [] := by decide +kernel
/-- Seam is up: its four channels are ACTIVE (R384). -/
def seam (d : Dev) : Dev := (List.range 4).foldl (fun d c => d.wr (R.SM_CHSTAT c) F.SM_CHSTAT_state 2) (d.wr R.SM_CFG F.SM_CFG_en 1)
def seamUp : Dev := seam {}

/-- Any range that Seam has can be read by any agent, on a device with Seam up and no word of it in error. -/
theorem seam_read (d : Dev) (agent a n : Nat) (sm : d.sm = {}) (en : d.on R.SM_CFG F.SM_CFG_en = true) (run : d.lull = false)
    (up : ∀ c : Fin 4, d.smState (d.smPhys c) = 2) (h : a + n ≤ 2 ^ 37) :
    ∃ bs e, d.smRead agent a n = (.ok bs, e) := by
  have hc : (burstsOf a n).any (fun b => d.smState (d.smPhys (b / 4 % 4)) != 2) = false := by
    rw [List.any_eq_false]
    intro b _
    have := up ⟨b / 4 % 4, Nat.mod_lt _ (by omega)⟩
    simp only at this
    simp [this]
  have open_ : d.smFenced a n = false := by
    simp only [Dev.smFenced, en, run, hc]
    simp; omega
  have hb : ∀ l : List Nat, l.any (d.smAsk agent a n).burstBad = false := by
    intro l
    rw [List.any_eq_false]
    intro b _
    simp [Dev.burstBad, Dev.smAsk, sm, Tab.get, Tab.find]
  refine ⟨(d.smAsk agent a n).bytes (seamAddr a) n, d.smAsk agent a n, ?_⟩
  unfold Dev.smRead
  simp only [open_, Bool.false_eq_true, if_false, hb]
/-- The end of a Face load, whose megabyte Seam has. -/
theorem witness_face_load : let d : Dev := (seam (face {} 1)).modGal 0 (fun x => { x with face := { loading := some 0 } })
    d.faceState 0 = 1 ∧ (d.gal 0).face.loading = some 0 ∧ ∃ bs e, d.smRead 6 0 0x100040 = (.ok bs, e) := by
  refine ⟨by decide +kernel, by decide +kernel, seam_read _ _ _ _ (by rfl) (by decide +kernel) (by decide +kernel) (by decide +kernel) (by decide)⟩

/-! ## The Token board, galleries, jobs -/

/-- Lock group n for every gallery, with rank r. -/
def group (d : Dev) (n r : Nat) : Dev :=
  ((d.wr (R.TK_GRP n) F.TK_GRP_en 1).wr (R.TK_GRP n) F.TK_GRP_gal_mask (2 ^ 26 - 1)).wr (R.TK_GRP n) F.TK_GRP_rank r
/-- TokensAndLocks, the instructions: each issues, with the store buffer empty and not, and behind an earlier release; an answer at once, a
sleep and a rank fault. -/
theorem witness_tokens :
    let ok (d : Dev) (f : Nat) : Bool := d.issues 9 0x3FFF (0x3300 + f * 16 + 1) 1 [1] false
    let at_ (f v : Nat) : Dev := group (one 9 (regs (word (0x3300 + f * 16 + 1)) [0, v])) 63 0
    (List.range 11).all (fun f =>
        let d := at_ f 0
        let e : Dev := d.modThr 9 (fun t => { t with sb := [.cp2 0] })
        let r : Dev := d.modThr 9 (fun t => { t with rel := some (2, 0, 1, 1) })
        ok d f && (d.thr 9).rel.isNone && (d.thr 9).sb.isEmpty && ok e f && !(e.thr 9).sb.isEmpty && ok r f && (r.thr 9).rel.isSome) = true
      ∧ (match (((at_ 0 4095).begun 9 1 [1]).lockAcquire 9 4095 1 true).1 with | .done _ => true | _ => false) = true
      ∧ (match ((((at_ 0 4095).setLock 4095 { held := true, owner := 5 }).begun 9 1 [1]).lockAcquire 9 4095 1 true).1 with | .sleep _ => true | _ => false) = true
      ∧ (match ((((at_ 0 4095).setLock 4094 { held := true, owner := 9 }).begun 9 1 [1]).lockAcquire 9 4095 1 true).1 with | .rank _ => true | _ => false) = true := by
  decide +kernel
/-- The locks: 4,096 is no lock, lock 4,095 in a group that is closed, one of a low rank, and one that is free, held, awaited. -/
theorem witness_locks :
    let d := group {} 63 5
    let held := d.setLock 4095 { held := true, owner := 8 }
    (2 ^ 12 ≤ 4096 ∧ 4095 < 2 ^ 12)
      ∧ (d.wr (R.TK_GRP 63) F.TK_GRP_en 0).groupAllows 4095 0 = false ∧ d.groupAllows 4095 0 = true
      ∧ (d.setLock 4094 { held := true, owner := 9 }).rankOk 9 ((d.setLock 4094 { held := true, owner := 9 }).lockRank 4095) = false
      ∧ (d.rankOk 9 (d.lockRank 4095) = true ∧ (d.lock 4095).held = false)
      ∧ (held.rankOk 9 (held.lockRank 4095) = true ∧ held.groupAllows 4095 0 = true ∧ (held.lock 4095).held = true ∧ (held.lock 4095).waiters = [])
      ∧ ((d.setLock 4095 { held := true, waiters := [(3, 1), (4, 2)] }).lock 4095).waiters = (3, 1) :: [(4, 2)] := by decide +kernel
theorem witness_channels :
    let stage (n : Nat) : Dev := { tk := { staging := if n = 0 then [] else [(9, List.replicate n 5)] } }
    let c := 1023
    let chan (d : Dev) (n : Nat) : Dev :=
      let e := (d.wr (R.TK_CHAN c) F.TK_CHAN_depth 2).wr (R.TK_CHAN c) F.TK_CHAN_gal_mask 1
      { e with tk := { e.tk with chans := if n = 0 then [] else [(c, List.replicate n [7])] } }
    let v := c + 15 * 2 ^ 10 + 2 ^ 14
    (((stage 15).tk.staging.get [] 9).length < 16 ∧ 16 ≤ ((stage 16).tk.staging.get [] 9).length)
      ∧ (c < 2 ^ 10 ∧ (chan (stage 0) 0).chanAllows c 0 = true ∧ (chan (stage 0) 0).tk.staging.get [] 9 = [])
      ∧ ((chan (stage 1) 2).tk.staging.get [] 9 ≠ [] ∧ (chan (stage 1) 2).rd (R.TK_CHAN c) F.TK_CHAN_depth ≤ ((chan (stage 1) 2).chan c).length)
      ∧ (((chan (stage 1) 1).chan c).length < (chan (stage 1) 1).rd (R.TK_CHAN c) F.TK_CHAN_depth ∧ (chan (stage 1) 1).tk.receivers.get [] c = [])
      ∧ (v < 2 ^ 15 ∧ (chan (stage 0) 1).chanAllows (v % 2 ^ 10) 0 = true ∧ (chan (stage 0) 1).chan (v % 2 ^ 10) ≠ [] ∧ (chan (stage 0) 0).chan (v % 2 ^ 10) = [])
      ∧ (let d : Dev := ({} : Dev).setEvents 9 0x8000; 0x8000 < 2 ^ 28 ∧ 0x8000 % 2 ^ 16 ≠ 0 ∧ (d.pendEvents 9).toNat &&& 0x8000 ≠ 0)
      ∧ (1663 = (1663 + 2 ^ 31) % 2 ^ 11 ∧ (1663 + 2 ^ 31) / 2 ^ 11 % 32 = 0 ∧ (({} : Dev).thr 1663).wait = none) := by decide +kernel
/-- A takeover of gallery g stands in RECLAIM with n managers done. -/
def reclaim (g n : Nat) : Dev :=
  let d := fld R.RL_TKSTAT F.RL_TKSTAT_step 2
  { d with rl := { d.rl with cur := some { kind := 0, unit := g }, reclaimed := n } }
theorem witness_board :
    ((one 9 { wait := some (.event 1 2 true) }).thr 9).wait = some (.event 1 2 true)
      ∧ (reclaim 25 1).reclaiming 25 1 = true
      ∧ (let d := (one 9 { st := .sleep, wait := some (.lock 0 0) }).wr (R.TK_DOLCFG 0) F.TK_DOLCFG_en 1
         let d := d.wr (R.TK_WGRP 0 1) F.TK_WGRP_group 48
         d.on (R.TK_DOLCFG 0) F.TK_DOLCFG_en = true ∧ d.groupIdle 0 6 = true ∧ bitAt (d.rd (R.TK_DOLSTAT 0) F.TK_DOLSTAT_fired) 6 = false)
      ∧ (bitAt ((fld (R.TK_DOLSTAT 0) F.TK_DOLSTAT_fired 0x80).rd (R.TK_DOLSTAT 0) F.TK_DOLSTAT_fired) 7 = true
          ∧ ((fld (R.TK_DOLSTAT 0) F.TK_DOLSTAT_fired 0x80).thr (supOf 0)).st ≠ .hold) := by decide +kernel
/-- Template t's node n is this word. -/
def node (d : Dev) (t n w : Nat) : Dev := d.put (tmplAddr t + 16 + 8 * n) (leBytes 8 w)
/-- A queued thread node for every thread of a core: kind 0, threads 0xFF, cores 0xFF. -/
def nodeWord : Nat := 0xFFFF00
theorem witness_take_node :
    let r : NodeRef := { slot := 2047, node := 15 }
    let d := node (runs ({ dr := { cq := [(1, [r])], jobs := [(jobKey 0 2047, { tmpl := 255 })] } }) 0) 255 15 nodeWord
    (d.thr 9).st = .free ∧ isSup 9 = false ∧ d.galState 0 = 3 ∧ (d.thr 9).owed = none
      ∧ (d.thr 9).ops.all (fun o => o.dead || o.epoch == (d.thr 9).epoch.toNat) = true ∧ d.nodeFor 9 = some r := by decide +kernel
theorem witness_interrupts :
    (let d := (one 9 { st := .sleep, pend := 4 }).wr (R.GL_TCTL 0 1 1) F.GL_TCTL_imask 0xFF
     (d.thr 9).inHnd = false ∧ (d.thr 9).st = .sleep ∧ d.galState 0 = 3 ∧ d.nextSource 9 = some 2)
      ∧ (({} : Dev).thr 9).nodeLive = false ∧ (({} : Dev).gal 0).faults.length < 16
      ∧ 16 ≤ ((({} : Dev).modGal 0 (fun x => { x with faults := List.replicate 16 0 })).gal 0).faults.length ∧ isSup 9 = false ∧ isSup 7 = true := by
  decide +kernel
theorem witness_gallery_events :
    ((({} : Dev).modGal 25 (fun x => { x with dvfs := some 600 })).gal 25).dvfs = some 600
      ∧ (({} : Dev).setGalState 25 1).galState 25 = 1
      ∧ (fld (R.GL_ROSECTL 25 7) F.GL_ROSECTL_pending 1).on (R.GL_ROSECTL 25 7) F.GL_ROSECTL_pending = true
      ∧ (let d := ({ now := usU 65536 } : Dev).modGal 25 (fun x => { x with faults := [5] })
         (d.gal 25).faults = 5 :: [] ∧ (d.thr (supOf 25)).st ≠ .hold
           ∧ (d.gal 25).headAt + usU ((d.rd (R.GL_SUPTO 25) F.GL_SUPTO_sup_to).max 1) ≤ d.now)
      ∧ (let d : Dev := { now := msU 9, dr := { jobs := [(jobKey 25 2047, { st := 2, drainAt := msU 8 })] } }
         d.dr.jobs.find (jobKey 25 2047) = some { st := 2, drainAt := msU 8 } ∧ msU 8 + d.drainLimit ≤ d.now)
      ∧ (let d := (fld R.DB_GTRCFG F.DB_GTRCFG_en 1).wr R.DB_GTRCFG F.DB_GTRCFG_ev_mask 0x400
         d.on R.DB_GTRCFG F.DB_GTRCFG_en = true ∧ bitAt (d.rd R.DB_GTRCFG F.DB_GTRCFG_ev_mask) 10 = true)
      ∧ (let d : Dev := { fld R.DB_GTRCFG F.DB_GTRCFG_wrap 1 with db := { trace := [1] } }
         d.on R.DB_GTRCFG F.DB_GTRCFG_wrap = true ∧ d.db.trace ≠ []) := by decide +kernel
/-- The refusal of a tub, and its admission to gallery 25, from either queue of pipe 3. -/
theorem witness_admission :
    (let d : Dev := { fld R.DR_CFG F.DR_CFG_adm_en 1 with dr := { adm := [(7, [4])] }, frames := [(4, { tub := 0 })] }
     d.dr.adm.get [] 7 = 4 :: [] ∧ d.refusal 4 = some 0x80 ∧ d.on R.DR_CFG F.DR_CFG_adm_en = true)
      ∧ [6, 7].all (fun q =>
          let d : Dev := { ((fld R.DR_CFG F.DR_CFG_adm_en 1).wr (R.DR_TCTL 255) F.DR_TCTL_en 1).setGalState 25 3 with
            dr := { adm := [(q, [4])] }, frames := [(4, { tub := T.tclass.put (T.template.put 0 255) (q % 2 * 7) })] }
          let h := d.tmplHdr (T.template.get (d.frame 4).tub)
          d.on R.DR_CFG F.DR_CFG_adm_en && (q == 7 || d.dr.adm.get [] 7 == []) && d.dr.adm.get [] q == [4] && (d.frame 4).pass == 0
            && d.refusal 4 == none && !TH.affinity h && d.frames.find 4 != none
            && (((List.range 26).map (fun i => ((d.dr.rr.get none 3).getD 18 + i) % 26)).filter
              (fun x => d.galActive x && d.rl.swapOld != some x)).find? (fun x => (d.missing x (d.frame 4).row (1 + TH.res_cells h)
                (T.tclass.get (d.frame 4).tub == 7) (d.frame 4).ticket.isSome).isNone) == some 25) = true := by decide +kernel
/-- JobsAndHelpers: the clauses of Draught and Hoist. -/
theorem witness_jobs :
    let key := jobKey 25 2047
    let r : NodeRef := { slot := 2047, node := 15 }
    let job : Job := { out := [(15, 0)] }
    [0, 1, 2, 3, 4, 5, 7, 15].all (fun kind =>
        let d := node { dr := { ready := [(25, [r])], jobs := [(key, {})] } } 0 15 (kind * 2 ^ 60 + nodeWord)
        let u := d.countTurned 25
        let nd := u.tmplNode (u.job key).tmpl 15
        (u.dr.ready.get [] 25).find? (u.canDispatch 25) == some r && ND.kind nd == kind
          && (kind != 0 || (u.pickCore 25 (ND.operand nd)).isSome)) = true
      ∧ (let d := node { dr := { ready := [(25, [r])], jobs := [(key, {})] } } 0 15 (6 * 2 ^ 60 + 2 ^ 38 + 1)
         let u := d.countTurned 25
         let nd := u.tmplNode (u.job key).tmpl 15
         (u.dr.ready.get [] 25).find? (u.canDispatch 25) = some r ∧ ND.kind nd = 6 ∧ (d.delayDue key (ND.operand nd)).isSome = true
           ∧ (d.dr.delays.get [] 25).length < 4096)
      ∧ (({ dr := { returns := [(25, r, 1, 7)] } } : Dev).dr.returns = (25, r, 1, 7) :: []
          ∧ ({ dr := { returns := [(25, r, 1, 7)] } } : Dev).dr.jobs.find key = none)
      ∧ [(1, 0), (1, 1), (2, 2), (15, 0)].all (fun e =>
          let d : Dev := { dr := { returns := [(25, r, e.1, e.2)], jobs := [(key, job)] } }
          d.dr.returns == [(25, r, e.1, e.2)] && d.dr.jobs.find key == some job && d.gen key == r.gen && job.st == 1
            && job.out.any (fun o => o.1 == r.node) && decide (e.2 < 3) && (e.1 != 1 || e.2 != 2)) = true
      ∧ [1, 5].all (fun kind =>
          let d := node { dr := { jobs := [(key, job)] }, now := usU 65535 } 0 15 (kind * 2 ^ 60)
          let limit := usU ((d.rd R.DR_HTO F.DR_HTO_hto_us).max 1)
          d.dr.jobs.find key == some job && job.st == 1 && job.out.any (fun o => o.1 == 15 && decide (o.2 + limit ≤ d.now))
            && ND.kind (d.tmplNode job.tmpl 15) == kind && !TH.err_void (d.tmplHdr job.tmpl)) = true
      ∧ [0, 1].all (fun n => let d : Dev := { dr := { jobs := [(key, { running := n })] } }
          d.dr.jobs.find key == some { running := n }) = true
      ∧ (let y : Delay := { ref := r }
         let d : Dev := { dr := { jobs := [(key, job)], delays := [(25, [y])] } }
         (d.dr.delays.get [] 25).filter (fun x => x.due.max x.entered ≤ tickFloor d.now d.tickExp) = [y] ∧ d.dr.jobs.find key = some job
           ∧ d.gen key = y.ref.gen ∧ job.st = 1 ∧ job.out.any (fun o => o.1 == y.ref.node) = true)
      ∧ (let d : Dev := { fld R.DR_TRCTL F.DR_TRCTL_wrap 1 with dr := { trace := [1, 2] } }; d.on R.DR_TRCTL F.DR_TRCTL_wrap = true ∧ d.dr.trace ≠ [])
      ∧ (let e : EngineOp := { g := 25, kind := 7, ref := r }
         let x : Ticket := { st := 1, jobs := [key] }
         let d : Dev := { dr := { engine := [e], jobs := [(key, { ticket := 16383 })] }, ho := { tickets := [(16383, x)] } }
         (d.takeEngine 25 7).1 = some e ∧ d.dr.jobs.find key = some { ticket := 16383 } ∧ d.gen key = r.gen ∧ d.tix 16383 = x
           ∧ d.ahead x.dom x.seq = true ∧ (d.frame 0).bad = false)
      ∧ [0, 1].all (fun drop =>
          let y : Tub × List Byte × Nat × Nat := (T.drop_n.put (T.drop.put 0 drop) (1 - drop), [], 0, key)
          let x : Ticket := { st := 2, rel := some y }
          let d : Dev := { ho := { tickets := [(16383, x)] }, frames := [(0, { bodyDone := true })] }
          d.nextEligible == some (16383, x) && x.rel == some y && T.drop.get y.1 == drop && T.drop_n.get y.1 == 1 - drop) = true
      ∧ (let x : Ticket := { st := 1 }
         let d : Dev := { ho := { tickets := [(16383, x)] }, now := usU 65536 }
         d.ho.tickets.find 16383 = some x ∧ usU ((d.rd R.HO_CFG F.HO_CFG_limit_us).max 1) ≤ x.ran d.now)
      ∧ (reclaim 25 0).reclaiming 25 0 = true ∧ ((reclaim 25 3).reclaiming 25 3 = true ∧ (reclaim 25 3).rl.cur.isSome = true) := by decide +kernel
/-- An operation of gallery 25 waits for an engine. -/
def op (kind op : Nat) : Dev := { dr := { engine := [{ g := 25, kind := kind, op := op }] } }
/-- The word at a job's context is in error. -/
def ctxBad (d : Dev) (k : Nat) : Dev := d.modGal 25 (fun x => { x with badWords := [eccWord (ctxWord (jobKey 25 0) k)] })
/-- JobsAndHelpers: an operation for each helper, with each clause's operands at the ends of their ranges. -/
theorem witness_helpers :
    let key := jobKey 25 0
    let blk (n : Nat) : Nat := ctxWord key n
    let a (n res : Nat) : Nat := n * 2 ^ 26 + res * 2 ^ 20
    ((op 1 16).takeEngine 25 1).1.isSome = true ∧ (op 1 16).lodeTurn 25 0 = true ∧ bitsOf 16 4 16 ≠ 0
      ∧ [a 0 0, a 60 0, a 0 56, a 0 48 + 1, a 60 48 + 5].all (fun o => let d := (op 1 o).wr R.LD_CFG F.LD_CFG_en 1
          (d.takeEngine 25 1).1.isSome && d.lodeTurn 25 0 && bitsOf o 4 16 == 0 && bitsOf o 1 2 != 3 && decide (bitsOf o 26 6 ≤ 60)
            && decide (bitsOf o 20 6 + (if bitAt o 0 then 16 else 8) ≤ 64) && !d.wordBad 25 (blk (bitsOf o 26 6)) 32
            && ((d.takeEngine 25 1).2.lodeOp (.gallery 25 0) (bitsOf o 32 8) (leBytes 32 (d.lodeBlock key o)) 0 false (bitAt o 0) none).1.isSome) = true
      ∧ (((op 2 (a 0 63)).takeEngine 25 2).1.isSome = true ∧ 62 < HO.res (a 0 63))
      ∧ (let d := ctxBad (op 2 (a 63 62)) 63
         (d.takeEngine 25 2).1.isSome = true ∧ HO.res (a 63 62) ≤ 62 ∧ HO.arg (a 63 62) = 63 ∧ d.wordBad 25 (blk 63) 8 = true)
      ∧ (let d : Dev := { op 2 (a 63 62) with st := { clearing := false, stream := [(0, xeSeal (XE.valid.put 0 1))] } }
         (d.takeEngine 25 2).1.isSome = true ∧ d.wordBad 25 (blk 63) 8 = false ∧ d.load (blk 63) 8 % 65536 = 0
           ∧ XE.valid.get (d.streamLook 0).1 = 1)
      ∧ (((op 3 (a 57 0)).takeEngine 25 3).1.isSome = true ∧ 56 < HO.arg (a 57 0))
      ∧ (let d : Dev := { op 3 (a 56 0) with as := { rules := [(7, { inA := true, inB := true })] } }
         let v := (d.takeEngine 25 3).2.lookupVer 0 (d.frame 0).retired
         (d.takeEngine 25 3).1.isSome = true ∧ HO.arg (a 56 0) ≤ 56 ∧ d.wordBad 25 (blk 56) 64 = false
           ∧ (match v.2.searchRules (slotOf v.1) (HO.fn (a 56 0) % 8) (BitVec.ofNat 512 (v.2.load (blk 56) 64)) with
              | .hit _ _ => true | _ => false) = true)
      ∧ [0, 257, 511].all (fun n => ((op 4 n).takeEngine 25 4).1.isSome && (bitsOf n 0 9 == 0 || decide (256 < bitsOf n 0 9))) = true
      ∧ [(1, 63), (256, 32)].all (fun e =>
          let o := a 63 e.2 + e.1
          let d := seam (op 4 o)
          (d.takeEngine 25 4).1.isSome && bitsOf o 0 9 == e.1 && decide (8 * HO.res o + e.1 ≤ 512) && !d.wordBad 25 (blk 63) 8 && d.load (blk 63) 8 == 0
            && (match ((d.takeEngine 25 4).2.smRead 1 0 e.1).1 with | .ok bs => bs.length == e.1 | _ => false)) = true
      ∧ (((op 5 (2 * 2 ^ 32)).takePhasor 25 (· != 1)).1.isSome = true ∧ bitsOf (2 * 2 ^ 32) 32 8 ≠ 0 ∧ (op 5 0).lull = false)
      ∧ (((op 5 0).takePhasor 25 (· != 1)).1.isSome = true ∧ bitsOf 0 32 8 = 0)
      ∧ (((op 5 (2 ^ 32 + a 0 56)).takePhasor 25 (· == 1)).1.isSome = true ∧ HO.res (2 ^ 32 + a 0 56) ≤ 56
          ∧ (op 5 (2 ^ 32 + a 0 56)).load (blk 0) 8 % 2 ^ 11 < 1536)
      ∧ (let d : Dev := { op 5 0 with dr := { (op 5 0).dr with jobs := [(key, { out := [(0, 0)] })] } }; d.awaited 25 {} = true) := by decide +kernel
/-! ## The packet path -/

theorem witness_frame_receive :
    let d := up {} 31
    d.portSt 31 = 2 ∧ d.isleFenced (26 + 31 / 4) = false ∧ (List.replicate 63 (0 : Byte)).length < 64 ∧ 64 ≤ (List.replicate 64 (0 : Byte)).length := by
  decide +kernel
theorem witness_assay :
    let f : Frame := { stage := .wire, pipe := 3 }
    let parsed : Frame := { stage := .parsed, hasSeq := true, cell := some 7 }
    (let d : Dev := { frames := [(9, f)] }
     d.inPipe 3 0 = some (9, f) ∧ d.isleFenced 37 = false ∧ d.isleFenced 41 = false ∧ (d.as.fifo.get [] 3).length < 64)
      ∧ (let d : Dev := { as := { fifo := [(3, [9])] } }; d.as.assayers.find (asKey 3 15) = none ∧ d.as.fifo.get [] 3 = 9 :: [] ∧ d.issueStalled 3 = false)
      ∧ (let d : Dev := { as := { assayers := [(asKey 3 15, { steps := 65535 })] } }
         match d.as.assayers.find (asKey 3 15) with | some x => decide (d.stepMax 3 ≤ x.steps) | none => false) = true
      ∧ (let d : Dev := { frames := [(9, parsed)] }; d.frames.find 9 = some parsed ∧ parsed.bodyDone = false ∧ parsed.data.length ≤ parsed.stored)
      ∧ (let d : Dev := { frames := [(9, parsed)], as := { order := [(3, [9])] } }
         d.as.order.get [] 3 = 9 :: [] ∧ (d.frame 9).stage = .parsed ∧ (d.frame 9).bad = false ∧ (d.frame 9).excNow = none ∧ (d.frame 9).cell = some 7
           ∧ (d.frame 9).dropped = false ∧ (d.frame 9).hasSeq = true ∧ d.admRoom 3 (T.tclass.get (d.frame 9).tub) = true)
      ∧ (let d : Dev := { frames := [(9, { stage := .parsed, bodyDone := true, fcsOk := false })], as := { order := [(3, [9])] } }
         d.as.order.get [] 3 = 9 :: [] ∧ (d.frame 9).stage = .parsed ∧ (d.frame 9).bad = true)
      ∧ (let f : Frame := { stage := .excepted, cell := some 7, bodyDone := true }; ({ frames := [(9, f)] } : Dev).frames.find 9 = some f ∧ f.bad = false) := by
  decide +kernel
/-- AssayerInstructions: every opcode is met, with a window of 64 bytes and the operands of each clause at the ends of their ranges. -/
theorem witness_assayer :
    let x : Assayer := { wv := List.replicate 64 0 }
    let at_ (w : Nat) (y : Assayer) : Dev := ({ as := { assayers := [(asKey 3 15, y)] } } : Dev).put (bankAddr 0) (leBytes 4 w)
    let meets (op low : Nat) (y : Assayer) (f : Nat → Assayer → Bool) : Bool :=
      match (at_ (op * 2 ^ 28 + low) y).assayNext 3 15 op with | some (w, z) => f w z | none => false
    let pos (w : Nat) : Nat := bitsOf w 10 10
    let n (w : Nat) : Nat := bitsOf w 3 7 + 1
    let o (w : Nat) (z : Assayer) : Nat := z.cur + bitsOf w 20 8
    (List.range 16).all (fun op => meets op 0 x (fun _ _ => true)) = true
      ∧ meets 0 (895 * 2 ^ 10 + 1 * 2 ^ 3) x (fun w _ => 896 < pos w + n w) = true
      ∧ meets 0 (64 * 2 ^ 20 + 895 * 2 ^ 10) x (fun w z => pos w + n w ≤ 896 && z.wv.length < o w z + (n w + 7) / 8) = true
      ∧ meets 0 (63 * 2 ^ 20 + 895 * 2 ^ 10) x (fun w z => pos w + n w ≤ 896 && o w z + (n w + 7) / 8 ≤ z.wv.length) = true
      ∧ meets 1 (62 * 2 ^ 20 + 1 * 2 ^ 16) x (fun w z => bitsOf w 16 2 == 1 && o w z + 2 ≤ z.wv.length) = true
      ∧ [0, 2, 3].all (fun k => meets 1 (63 * 2 ^ 20 + k * 2 ^ 16) x (fun w z => bitsOf w 16 2 != 1 && o w z + 1 ≤ z.wv.length)) = true
      ∧ [(63, 1), (64, 0), (64, 3)].all (fun e => meets 1 (e.1 * 2 ^ 20 + e.2 * 2 ^ 16) x
          (fun w z => z.wv.length < o w z + (if bitsOf w 16 2 = 1 then 2 else 1))) = true
      ∧ meets 8 (895 * 2 ^ 10) x (fun w _ => pos w < 896) = true ∧ meets 8 (896 * 2 ^ 10) x (fun w _ => 896 ≤ pos w) = true
      ∧ meets 9 (880 * 2 ^ 10) x (fun w _ => pos w + 16 ≤ 896) = true ∧ meets 9 (881 * 2 ^ 10) x (fun w _ => 896 < pos w + 16) = true
      ∧ meets 11 0 { x with cur := 255 } (fun _ z => z.cur ≤ 255) = true ∧ meets 11 0 { x with cur := 256 } (fun _ z => 255 < z.cur) = true
      ∧ [0x1F, 0x20, 0x3F, 0x40].all (fun c => meets 13 c x (fun w _ => bitsOf w 0 8 == c)) = true
      ∧ [0, 7].all (fun k => meets 14 (k * 2 ^ 22) x (fun w _ => bitsOf w 22 4 == k && k < 8)) = true
      ∧ [8, 15].all (fun k => meets 14 (k * 2 ^ 22) x (fun w _ => 8 ≤ bitsOf w 22 4)) = true := by decide +kernel
theorem witness_versions :
    (let d := fld R.AS_RVER F.AS_RVER_cur_ver 1; d.as.pipeVer.get 0 3 ≠ d.curVer) ∧ (({ as := { copying := true } } : Dev).as.copying = true)
      ∧ (let r (p n e : Nat) : EnqReq := { frame := 9, tub := T.length.put (T.pass.put 0 p) n, eh := List.replicate e 0 }
         let d (p n : Nat) : Dev := { fld R.AS_EDDYCFG F.AS_EDDYCFG_credit 1 with xc := { eddy := [r p n 0] }, frames := [(9, {})] }
         (((d 2 64).frames.find 9).isNone = false ∧ T.pass.get (r 2 64 0).tub = 2)
           ∧ (T.pass.get (r 1 16383 1).tub ≠ 2 ∧ 16383 < T.length.get (r 1 16383 1).tub - (r 1 16383 1).winLen + (r 1 16383 1).eh.length)
           ∧ (T.length.get (r 1 16383 0).tub - (r 1 16383 0).winLen + (r 1 16383 0).eh.length ≤ 16383
              ∧ ((d 1 64).wr R.AS_EDDYSTAT F.AS_EDDYSTAT_in_use 1).rd R.AS_EDDYCFG F.AS_EDDYCFG_credit
                  ≤ ((d 1 64).wr R.AS_EDDYSTAT F.AS_EDDYSTAT_in_use 1).rd R.AS_EDDYSTAT F.AS_EDDYSTAT_in_use)
           ∧ ((d 1 64).rd R.AS_EDDYSTAT F.AS_EDDYSTAT_in_use < (d 1 64).rd R.AS_EDDYCFG F.AS_EDDYCFG_credit
              ∧ ((({ d 1 64 with xc := {} } : Dev).setResv 9 tagEddy 1).take 9 tagEddy).1.isSome = true)) := by decide +kernel

/-- A descriptor whose three pairs check, of n bytes as it came. -/
def desc (n : Nat) : Desc := { w := D.orig.put (D.length.put (D.drop_n.put (D.queue_n.put (D.dcol_n.put 0 15) 7) 1) n) 1 }
/-- Port p is UP and sends x. -/
def sends (p : Nat) (x : Desc) (edited : Bool) : Dev := (up {} p).modPort p (fun y => { y with sending := some (x, 0), edited := edited })
/-- A tub whose three pairs agree. -/
def tub (col queue drop : Nat) : Tub := Tub.setDrop (Tub.setQueue (Tub.setCol 0 col) queue) drop
theorem witness_enqueue :
    let dev (r : EnqReq) : Dev :=
      { (((fld R.XC_CFG F.XC_CFG_en 1).wr (R.PT_PCFG 31) F.PT_PCFG_enable 1).wr (R.PW_DOM 33) F.PW_DOM_state 2) with xc := { reqs := [r] } }
    let ok (r : EnqReq) : Bool := (dev r).nextReq == some r && r.tub.pairsGood
    let plain (r : EnqReq) : Bool := T.drop.get r.tub == 0 && (dev r).on R.XC_CFG F.XC_CFG_en && r.mirror == 0
      && (match (dev r).portOfLane (T.in_port.get r.tub) with | some a => (dev r).rd (R.XC_PORT a) F.XC_PORT_imir == 0 | none => true)
    (let r : EnqReq := { tub := tub 11 7 1 }; ok r = true ∧ T.dcol.get r.tub < 12 ∧ T.drop.get r.tub = 1)
      ∧ (let r : EnqReq := { tub := T.in_port.put (tub 9 7 0) 31 }; ok r = true ∧ plain r = true ∧ T.dcol.get r.tub = 9 ∧ T.multicast.get r.tub = 0)
      ∧ (let r : EnqReq := { tub := T.cell.put (T.length.put (T.in_port.put (tub 7 7 0) 31) 64) (ptrOf 11 0), psel := 3 }
         let d := dev r
         let c := 7
         let n := (T.length.get r.tub + 255) / 256 + b2n (!r.orig)
         ok r = true ∧ plain r = true ∧ T.dcol.get r.tub = c ∧ T.multicast.get r.tub = 0
           ∧ d.portOfLane (4 * c + r.psel) = some 31 ∧ d.columnOn c = true
           ∧ d.planeFenced (d.planeOf (planeEntry (T.domain.get r.tub))) = false ∧ d.rd (R.XC_COL c) F.XC_COL_occ < 16384
           ∧ d.xc.q.get 0 (qKey 11 c 7) + n ≤ d.threshold 11 7) := by decide +kernel
theorem witness_switch :
    let p := 31
    let bad : Desc := { desc 64 with w := D.drop_n.put (desc 64).w 0 }
    let long : Desc := { w := D.eh_len.put (D.orig.put (desc 16383).w 0) 1 }
    (let d := up {} p; d.portSt p = 2 ∧ d.hstate p = 0 ∧ d.isleFenced 33 = false)
      ∧ (let d := (up {} p).setPq (p * 8 + 7) [desc 64]
         let e := (d.shape p).dropAllStale p
         d.portSt p = 2 ∧ d.hstate p = 0 ∧ d.isleFenced 33 = false ∧ (e.port p).sending = none
           ∧ (match e.pickQueue p with
              | (some k, u) => decide (k = 7) && (u.port p).frag.isNone && u.pqQ (p * 8 + 7) == [desc 64]
              | _ => false) = true)
      ∧ ((((sends p bad false).port p).sending = some (bad, 0) ∧ ((sends p bad false).port p).edited = false) ∧ bad.pairsGood = false)
      ∧ (((sends p long false).port p).sending = some (long, 0) ∧ long.pairsGood = true ∧ 16383 < long.mergedLen)
      ∧ (let x := desc 64
         let d := sends p x false
         (d.port p).sending = some (x, 0) ∧ x.pairsGood = true ∧ x.mergedLen ≤ 16383 ∧ 60 ≤ (x.cut (d.mergedBytes x)).length)
      ∧ (let d := sends p (desc 64) true; (d.port p).sending = some (desc 64, 0) ∧ (d.port p).edited = true)
      ∧ (let d : Dev := ({} : Dev).setXp (xpKey 1 11 11 6) [desc 64]
         (match d.pickMove 11 with | some i => decide (d.xpQ (xpKey (i / 96) (i / 8 % 12) 11 (i % 8)) = desc 64 :: []) | none => false) = true)
      ∧ (let d := fld (R.XC_PORT p) F.XC_PORT_hstate 2; d.hstate p = 2 ∧ d.xc.holdEnd.get 0 p ≤ d.now)
      ∧ (let d := ({} : Dev).rset R.XC_PLMOVE (BitVec.ofNat 64 (2 ^ 63)); bitAt (d.rget R.XC_PLMOVE).toNat 63 = true ∧ d.oldPlaneHolds 63 = false)
      ∧ (let x := desc 64
         let d := ({} : Dev).setPq (pqKey 11 0 0) [x]
         d.pqQ (pqKey 11 0 0) = x :: [] ∧ x.pairsGood = true ∧ x.mergedLen ≤ 16383 ∧ 60 ≤ (x.cut ((d.setPq (pqKey 11 0 0) []).mergedBytes x)).length) := by
  decide +kernel
/-- The capture ring: off, full, and with room for the record. -/
theorem witness_capture :
    let x := desc 64
    let dev (en idx : Nat) : Dev :=
      ((((seam {}).wr R.XC_CAPRING F.XC_CAPRING_en en).wr R.XC_CAPRING F.XC_CAPRING_size_log2 12).wr R.XC_CAPIDX F.XC_CAPIDX_wr_idx idx).setPq (pqKey 10 0 0) [x]
    let rest (d : Dev) : Dev := d.setPq (pqKey 10 0 0) []
    let n (d : Dev) : Nat := (32 + ((rest d).capBytes x).length + 63) / 64
    let size (d : Dev) : Nat := 2 ^ d.rd R.XC_CAPRING F.XC_CAPRING_size_log2 / 64
    let ok (d : Dev) : Bool := d.pqQ (pqKey 10 0 0) == [x] && x.pairsGood && !d.on R.XC_CAPRING F.XC_CAPRING_wrap
    (ok (dev 0 0) = true ∧ (dev 0 0).on R.XC_CAPRING F.XC_CAPRING_en = false)
      ∧ (ok (dev 1 64) = true ∧ size (dev 1 64) < n (dev 1 64) + (dev 1 64).capUsed)
      ∧ (let d := dev 1 0
         ok d = true ∧ d.on R.XC_CAPRING F.XC_CAPRING_en = true ∧ n d + d.capUsed ≤ size d
           ∧ ((rest d).capPut (d.rd R.XC_CAPRING F.XC_CAPRING_base * 4096) (size d) (n d) (d.rd R.XC_CAPIDX F.XC_CAPIDX_wr_idx)
               ((rest d).capHeader x ((rest d).capBytes x).length ++ (rest d).capBytes x)).1 = true) := by decide +kernel
theorem witness_bin :
    (tagKind (2 * 2 ^ 16) = 2 ∧ tagKind (5 * 2 ^ 16) = 5 ∧ tagKind (8 * 2 ^ 16) = 8 ∧ tagKind (9 * 2 ^ 16 + 65535) = 9)
      ∧ (({} : Dev).rowBusy 11 = false ∧ [(2 * 2 ^ 16, 1), (tagEddy, 100)].all (fun e => ({} : Dev).quotaRoom e.1 11 e.2
          && decide (e.2 + ({} : Dev).rd (R.BN_ROWCFG 11) F.BN_ROWCFG_c7_cells ≤ ({} : Dev).rowF 11)) = true)
      ∧ (let d := ({} : Dev).setResv 11 tagEddy 3
         d.resvOf 11 tagEddy ≠ 0 ∧ (d.pop 11).1.isSome = true ∧ 3 ≤ d.resvOf 11 tagEddy ∧ d.resvOf 11 tagEddy < 4)
      ∧ (let f (n : Nat) : Frame := { stage := .parsed, row := 7, pipe := 3, data := List.replicate n 0 }
         let d (n : Nat) : Dev := { frames := [(9, f n)] }
         (d 1).frames.find 9 = some (f 1) ∧ (f 1).stored < (f 1).data.length ∧ (f 1).bodyDone = false ∧ (f 1).trunc = false
           ∧ [FStage.wire, .held, .ending].contains (f 1).stage = false ∧ ((d 1).alloc 7 (f 1).requester (f 1).cell).1.isSome = true
           ∧ ((({ d 1 with bn := { stopped := true } } : Dev)).alloc 7 (f 1).requester (f 1).cell).1 = none)
      ∧ (let p := ptrOf 11 5
         let ce (owner head refs : Nat) : Word64 := CE.refs.put (CE.head.put (CE.owner.put (CE.last.put 0 1) owner) head) refs
         let d (owner head refs : Nat) : Dev := ({} : Dev).setEntry 11 5 (ce owner head refs)
         ptrGood p = true ∧ ptrGood (ptrOf 11 6) = true ∧ ptrRow (ptrOf 11 6) = ptrRow p
           ∧ CE.owner.get ((d 1048575 1 0).entry 11 5) = 1048575 ∧ CE.head.get ((d 1048575 1 0).entry 11 5) ≠ 0
           ∧ CE.owner.get ((d 0 1 0).entry 11 5) ≠ 1
           ∧ [1, 2, 254, 255].all (fun n => let e := (d tagXc 1 n).entry 11 5
               CE.head.get e != 0 && CE.owner.get e == tagXc && CE.refs.get e == n) = true)
      ∧ (reclaim 25 2).reclaiming 25 2 = true
      ∧ (let d : Dev := { bn := { due := [.overman] } }; d.bn.due.contains .overman = true)
      ∧ (fld (R.BN_ROWSTAT 11) F.BN_ROWSTAT_rebuild 1).on (R.BN_ROWSTAT 11) F.BN_ROWSTAT_rebuild = true
      ∧ ∀ r : Fin 12, ({} : Dev).conserved r = true := by decide +kernel
/-! ## Ports and time -/

theorem witness_ports : [1, 2, 3, 4].all (fun s => (({} : Dev).setPortSt 31 s).portSt 31 == s) = true
    ∧ (((up {} 31).wr (R.PT_PCFG 31) F.PT_PCFG_width 1).portSt 31 = 2 ∧ ((up {} 31).wr (R.PT_PCFG 31) F.PT_PCFG_width 1).portLanes 31 ≠ 1) := by decide +kernel
theorem witness_gates :
    let p := 31
    let gate := fld (R.PT_GCLCTL p) F.PT_GCLCTL_pending 1
    let pair := (fld (R.PT_RED 30) F.PT_RED_role 1).wr (R.PT_RED 30) F.PT_RED_peer 31
    (up {} p).portSt p = 2
      ∧ ({ bn := { pausing := [(7, true)] } } : Dev).bn.pausing.get false 7 = true
      ∧ (let d := ((up {} p).wr (R.PT_TMR p) F.PT_TMR_pause_wd 1).wr (R.PT_PSTAT p) F.PT_PSTAT_paused_mask 0x80
         d.rd (R.PT_TMR p) F.PT_TMR_pause_wd ≠ 0 ∧ d.hstate p = 0 ∧ bitAt (d.rd (R.PT_PSTAT p) F.PT_PSTAT_paused_mask) 7 = true
           ∧ bitAt (d.rd (R.PT_PSTAT p) F.PT_PSTAT_pause_wd_mask) 7 = false)
      ∧ (let d := fld (R.PT_PSTAT p) F.PT_PSTAT_pause_wd_mask 0x80
         bitAt (d.rd (R.PT_PSTAT p) F.PT_PSTAT_pause_wd_mask) 7 = true ∧ d.rd (R.PT_PSTAT p) F.PT_PSTAT_paused_mask &&& 2 ^ 7 = 0)
      ∧ (gate.on (R.PT_GCLCTL p) F.PT_GCLCTL_pending = true ∧ gate.changeAt p ≤ gate.now)
      ∧ (let d := ({} : Dev).modPort p (fun x => { x with run := [(255, 1)] }); (d.port p).run ≠ [] ∧ (d.port p).sending = none)
      ∧ (pair.pairOf 30 = [30, 31] ∧ 30 ≤ 31)
      ∧ (let d := (up {} p).modPort p (fun x => { x with ptp := { role := 1 } }); (d.port p).ptp.role = 1 ∧ d.portSt p = 2) := by decide +kernel
theorem witness_clocks :
    let run (n : Nat) : Dev := { tb := { refRun := if n = 0 then [] else [(1, n)] } }
    let s := unitsPerSec
    ((run 8).tb.refRun.get 0 1 + 1 < 10 ∧ 10 ≤ (run 9).tb.refRun.get 0 1 + 1 ∧ (run 9).on R.TB_STAT (refQual 1) = false)
      ∧ (let d : Dev := { ((fld R.TB_CTL F.TB_CTL_fsrc 2).wr R.TB_CTL F.TB_CTL_revert 1).wr R.TB_STAT (refQual 1) 1 with
           tb := { refAt := [(1, 7)] }, now := 7 + 60 * s }
         d.prefRef = some 1 ∧ d.on R.TB_CTL F.TB_CTL_revert = true ∧ d.on R.TB_STAT (refQual 1) = true ∧ d.tb.refAt.get 0 1 + 60 * s ≤ d.now)
      ∧ ({} : Dev).tb.holdFrom = none
      ∧ (let d : Dev := { fld R.TB_STAT F.TB_STAT_state 2 with tb := { holdFrom := some 7 }, now := 7 + 1000 * s }
         d.tbSt = 2 ∧ d.tb.holdFrom = some 7 ∧ 7 + 1000 * s ≤ d.now)
      ∧ (let d : Dev := { fld R.TB_STAT F.TB_STAT_state 3 with now := 1440 * 60 * s }; d.tbSt = 3 ∧ 1440 ≤ d.holdMin)
      ∧ ({} : Dev).tb.ppsLast = none
      ∧ (let d : Dev := { fld R.TB_CTL F.TB_CTL_tsrc 0 with tb := { ppsLast := some 0 }, now := s + nsU 1000 }
         d.tb.ppsLast = some 0 ∧ ppsInterval 0 d.pinStamp = true ∧ d.tsrc ≠ 1)
      ∧ (let d : Dev := { tb := { ppsLast := some 0 }, now := 72089600000000 }
         d.tb.ppsLast = some 0 ∧ ppsInterval 0 d.pinStamp = false ∧ d.ppsLate = true)
      ∧ (let d (s : Int) : Dev := { (fld R.TB_CTL F.TB_CTL_tsrc 0).wr R.TB_CTL F.TB_CTL_irig_ext 1 with tb := { irigLast := some (s, 0), irigRun := 2 } }
         let tai (d : Dev) : Int := ((d.irigUtc (some 26) 5 : Nat) : Int) + d.utcOff
         let n := tai (d 0) - 1
         (d n).tb.irigLast = some (n, 0) ∧ tai (d n) = n + 1 ∧ tai (d (n - 1)) ≠ n - 1 + 1 ∧ (d 0).tb.irigRun = 2 ∧ (d 0).tsrc ≠ 2
           ∧ (d 0).on R.TB_CTL F.TB_CTL_irig_ext = true)
      ∧ (let d : Dev := { up {} 31 with pt := { parent := some 31 }, tb := { ptpRun := 7 } }
         d.pt.parent = some 31 ∧ d.portSt 31 = 2 ∧ 7 ≤ d.tb.ptpRun ∧ (d.wr R.TB_CTL F.TB_CTL_tsrc 1).tsrc ≠ 0
           ∧ (d.wr R.TB_CTL F.TB_CTL_tsrc 1).portSt 31 = 2) := by decide +kernel
theorem witness_station_time :
    let steps (s : Nat) : Dev := { (fld R.TB_STAT F.TB_STAT_state s).wr R.TB_CTL F.TB_CTL_step_en 1 with tb := { steps := [(0, 5)] } }
    ((steps 1).tb.steps = (0, 5) :: [] ∧ (steps 1).tbSt = 1 ∧ (steps 1).on R.TB_CTL F.TB_CTL_step_en = true)
      ∧ ((steps 2).tb.steps = (0, 5) :: [] ∧ (steps 2).tbSt ≠ 1)
      ∧ [1, 2].all (fun n => let d := fld R.TB_UTC F.TB_UTC_leap n
          F.TB_UTC_leap.get (d.rget R.TB_UTC) == n && decide (F.TB_UTC_leap_tai.get (d.rget R.TB_UTC) ≤ d.taiLow)) = true
      ∧ (let d : Dev := { tb := { tickSet := some 5 }, now := unitsPerSec }; d.tb.tickSet = some 5 ∧ secOf 5 < secOf d.now)
      ∧ (let d := (fld R.TB_CTL F.TB_CTL_pps_force 1).wr R.TB_CTL F.TB_CTL_pps_out_en 1; d.ppsDriven = true ∧ nsOf d.now = 0)
      ∧ (let d : Dev := { now := msU 1000 }; d.tb.ppsRise + msU (d.rd R.TB_PPS F.TB_PPS_pps_width) ≤ d.now)
      ∧ 0 < 2 ^ 48 * unitsPerSec := by decide +kernel
/-! ## Power, background work, relief -/

/-- The device in power state m. -/
def power (m : Nat) : Dev := fld R.PW_LSTAT F.PW_LSTAT_mode m
theorem witness_power :
    [0, 1, 2, 3, 4].all (fun m => (power m).powerMode == m) = true
      ∧ (let d : Dev := { (power 0).wr R.PW_LSTAT F.PW_LSTAT_lull_en 1 with devState := 1 }
         d.powerMode = 0 ∧ d.devState ≠ 0 ∧ d.on R.PW_LSTAT F.PW_LSTAT_lull_en = true)
      ∧ ((power 0).powerMode = 0 ∧ (power 0).devState = 0)
      ∧ [1, 2, 3].all (fun m => let d := (power m).wr R.PW_LSTAT F.PW_LSTAT_store_ok 1
          d.powerMode == m && d.on R.PW_LSTAT F.PW_LSTAT_store_ok && !d.pw.tripped) = true
      ∧ ({} : Dev).bo.vmain = true ∧ ({ bo := { vmain := false } } : Dev).bo.vmain = false
      ∧ (fld (R.PW_DOM 49) F.PW_DOM_state 1).domSt 49 = 1 ∧ isleRange 25 = some (200, 1750) ∧ isleRange 99 = some (25, 400)
      ∧ ((power 0).rd R.PW_TLIM F.PW_TLIM_trip_cnt < 65535)
      ∧ ({ power 2 with now := 20 * msU 100 } : Dev).lullAtEnd = ({ power 2 with now := 20 * msU 100 } : Dev).now
      ∧ (let d : Dev := { fld (R.CK_ISLSTAT 25) F.CK_ISLSTAT_freq_mhz 201 with now := msU 1, pw := { steps := [(25, 0)] } }
         200 < d.rd (R.CK_ISLSTAT 25) F.CK_ISLSTAT_freq_mhz ∧ (∀ t, d.pw.steps.find 25 = some t → t + msU 1 ≤ d.now))
      ∧ ((power 3).powerMode = 3 ∧ (power 3).pw.run.all (fun k => (power 3).domSt k == 2 || (power 3).domSt k == 4) = true) := by decide +kernel
theorem witness_scrub :
    (let d := (fld R.BG_CFG F.BG_CFG_sram_en 1).wr (R.PW_DOM 25) F.PW_DOM_state 2; d.on R.BG_CFG F.BG_CFG_sram_en = true ∧ d.domSt 25 = 2)
      ∧ (fld R.BG_CFG F.BG_CFG_table_en 1).on R.BG_CFG F.BG_CFG_table_en = true ∧ (fld R.BG_CFG F.BG_CFG_nor_en 1).on R.BG_CFG F.BG_CFG_nor_en = true
      ∧ (let d := (fld R.BG_CFG F.BG_CFG_lode_en 1).wr (R.PW_DOM 45) F.PW_DOM_state 2
         let q := 33554431
         d.on R.BG_CFG F.BG_CFG_lode_en = true ∧ d.domSt (42 + quadOf (q / 4)) = 2 ∧ d.quadFenced (quadOf (q / 4)) = false)
      ∧ (80 < (81 : Int).natAbs ∧ 80 < (-81 : Int).natAbs ∧ ({} : Dev).bg.badSensors.contains 99 = false)
      ∧ ({ bg := { fixed := [(6, true)] } } : Dev).policyOn 6 = false := by decide +kernel
/-- Start-up is over, so the policies act. -/
def ready (d : Dev) : Dev := d.wr R.SY_BOOT F.SY_BOOT_stage 11
theorem witness_policies :
    let soft : Int := (({} : Dev).policyParam 0 % 256 : Nat)
    let f (d : Dev) : Nat := d.rd (R.CK_ISLCFG 25) F.CK_ISLCFG_freq_req
    let hot := ready (fld (R.CK_ISLCFG 25) F.CK_ISLCFG_freq_req 601)
    let calm := ready (fld (R.CK_ISLCFG 25) F.CK_ISLCFG_freq_req 600)
    (hot.stepDue 41 (msU 100) = true ∧ ({ calm with now := unitsPerSec, bg := { paced := [(41, 0)] } } : Dev).stepDue 41 unitsPerSec = true
        ∧ hot.stepDue 4 (3600 * unitsPerSec) = true ∧ hot.stepDue 11 (60 * unitsPerSec) = true)
      ∧ (hot.policyOn 0 = true ∧ soft * 16 ≤ 1600 ∧ 600 < f hot) ∧ (calm.policyOn 0 = true ∧ 1519 < (soft - 5) * 16 ∧ f calm < calm.freqWritten 25)
      ∧ (let d := ready (fld R.SM_CFG F.SM_CFG_dbl_c 71); d.policyOn 4 = true ∧ d.policyParam 4 % 2 ^ 16 < 65 ∧ 70 < d.rd R.SM_CFG F.SM_CFG_dbl_c)
      ∧ (let d := ready {}
         d.policyOn 5 = true ∧ d.policyParam 5 % 256 < 17
           ∧ (4 * (d.bg.holdSet.get none 3).getD (F.ST_MOVE_hold_ms.get (R.ST_MOVE 3).reset)).min 65535 ≠ d.rd (R.ST_MOVE 3) F.ST_MOVE_hold_ms)
      ∧ (let d : Dev := { (((ready {}).setGalState 0 3).setGalState 25 2).wr R.RL_GALSTAT F.RL_GALSTAT_relief (2 ^ 25) with
           bg := { param := [(1, some (2 ^ 16 + 720))], stress := [(0, 100), (25, 1)] } }
         d.policyOn 1 = true ∧ d.stepDue 1 (d.policyParam 1 % 2 ^ 16 * 3600 * unitsPerSec) = true ∧ d.tkBusy = false ∧ d.on R.RL_FORCE F.RL_FORCE_busy = false ∧ d.rl.queue = [] ∧ bitAt (d.policyParam 1) 16 = true
           ∧ d.byStress (fun a b => b < a) d.activeGals = some 0
           ∧ d.byStress (fun a b => a < b) ((List.range 26).filter (fun g => d.inRelief g && d.galState g == 2)) = some 25
           ∧ (d.bg.stress.get 0 0).max (d.bg.stress.get 0 25) ≤ 100 * ((d.bg.stress.get 0 0).max (d.bg.stress.get 0 25) - (d.bg.stress.get 0 0).min (d.bg.stress.get 0 25))
           ∧ d.bg.stress.get 0 25 < d.bg.stress.get 0 0) := by decide +kernel
theorem witness_calendar :
    (({} : Dev).bo.vmain = true ∧ (({} : Dev).bg.poweredS + 1) % 3600 ≠ 0) ∧ (fld R.TB_STAT F.TB_STAT_state 2).tbSt = 2
      ∧ (({} : Dev).tbSt ≠ 2 ∧ ({} : Dev).tbSt ≠ 3)
      ∧ ({ bg := { ledgerDue := true } } : Dev).bg.ledgerDue = true ∧ ({ bg := { ledgerDue := true } } : Dev).powerMode ≠ 4 := by decide +kernel
theorem witness_relief :
    let step3 (r : TkReq) : Dev := { fld R.RL_TKSTAT F.RL_TKSTAT_step 3 with rl := { cur := some r } }
    let r : TkReq := { kind := 0, unit := 0 }
    let i : TkReq := { kind := 4, unit := 33 }
    ((({ rl := { detected := [i] } } : Dev).rl.detected = i :: []) ∧ i.kind = 4 ∧ i.unit < 34 ∧ ({ rl := { detected := [i] } } : Dev).isleFenced i.unit = false)
      ∧ (let d := ((step3 r).setGalState 25 2).setRelief 25 true
         d.rd R.RL_TKSTAT F.RL_TKSTAT_step = 3 ∧ d.rl.cur = some r ∧ d.reliefGal.isSome = true)
      ∧ ((step3 r).rd R.RL_TKSTAT F.RL_TKSTAT_step = 3 ∧ (step3 r).rl.cur = some r ∧ (step3 r).reliefGal = none)
      ∧ (let d : Dev := { rl := { swapOld := some 25 } }; d.rl.swapOld = some 25 ∧ d.affinityDone 25 = true)
      ∧ (let d : Dev := { rl := { leaving := [25] } }; d.rl.swapOld = none ∧ d.rl.leaving = [25] ∧ d.slotsUsed 25 = 0)
      ∧ (let d : Dev := { rl := { lastAlarm := [(15, some 5)] }, now := 5 + 60 * unitsPerSec }
         d.rl.lastAlarm.get none 15 = some 5 ∧ 5 + 60 * unitsPerSec ≤ d.now)
      ∧ (({} : Dev).cg.om ≠ 1 ∧ ({} : Dev).on R.RL_FENCE F.RL_FENCE_om_ab = false)
      ∧ (({} : Dev).rl.draughtLost = 0 ∧ ({} : Dev).rl.tokenLost = 0 ∧ ({ rl := { draughtLost := 1, tokenLost := 1 } } : Dev).rl.draughtLost ≠ 0
          ∧ ({ rl := { draughtLost := 1, tokenLost := 1 } } : Dev).rl.tokenLost ≠ 0) := by decide +kernel
/-! ## Seam, Lode, the tables, Phasor -/

theorem witness_seam :
    let st := seamUp.smState 3
    let r (s : Bool) : SmReq := { agent := 7, chan := 3, stale := s }
    let q (s : Bool) : Dev := { seamUp.wr (R.PW_DOM 46) F.PW_DOM_state 2 with sm := { reqs := [r s] } }
    let warm := seamUp.wr (R.SM_CHSTAT 3) F.SM_CHSTAT_dbl 1
    let thr : Int := seamUp.rd R.SM_CFG F.SM_CFG_dbl_c
    (st = 2 ∧ seamUp.sm.refs.get 0 3 + 1 < 8192 ∧ 8192 ≤ ({ sm := { refs := [(3, 8191)] } } : Dev).sm.refs.get 0 3 + 1)
      ∧ (thr ≤ thr ∧ thr - 4 < thr - 3 ∧ (warm.wr (R.SM_CHSTAT 3) F.SM_CHSTAT_temp_c (ofSigned 8 (thr - 4))).on (R.SM_CHSTAT 3) F.SM_CHSTAT_dbl = true
          ∧ warm.sm.cool.get none 3 = none ∧ (let d : Dev := { sm := { cool := [(3, some 5)] }, now := 5 + unitsPerSec }
            d.sm.cool.get none 3 = some 5 ∧ 5 + unitsPerSec ≤ d.now))
      ∧ ((seamUp.wr R.SM_CFG F.SM_CFG_track_en 1).on R.SM_CFG F.SM_CFG_track_en = true ∧ 64 ≤ 13 * 5 ∧ 12 * 5 < 64
          ∧ (seamUp.wr (R.SM_CHSTAT 3) F.SM_CHSTAT_margin 12).devMarked 3 17 = false)
      ∧ (let d : Dev := { now := usU 10 }; d.now / usU 10 ≠ d.sm.window)
      ∧ ({ sm := { nq := [(3, [(15, 1)])] } } : Dev).sm.nq.get [] 3 = (15, 1) :: []
      ∧ ((q true).smPick 3 = some (r true) ∧ (r true).stale = true) ∧ ((q false).smPick 3 = some (r false) ∧ (r false).stale = false)
      ∧ (let d : Dev := { seamUp with sm := { sparing := some (3, 4, true) } }
         d.sm.sparing = some (3, 4, true) ∧ 3 < 4 ∧ 4 < 5 ∧ d.rl.queue = [] ∧ d.rl.beyond = []) := by decide +kernel
/-- The argument block of a function on kind k with key 7, and these bits beside. -/
def blockOfArgs (k low : Nat) : Nat := k * 2 ^ 24 + 7 * 2 ^ 32 + low
/-- The software port is started with the function and this argument block, and these records are there. -/
def port (fn a : Nat) (rs : List (Nat × LRec)) : Dev :=
  let d := (((fld R.LD_SWCMD F.LD_SWCMD_busy 1).wr R.LD_SWCMD F.LD_SWCMD_fn fn).wr R.LD_CFG F.LD_CFG_en 1).put swWin (leBytes 32 a)
  rs.foldl (fun d r => d.setRec r.1 r.2) d
/-- The port's operation can run. -/
def runsFn (d : Dev) (fn : Nat) : Bool :=
  let a := leNat (d.bytes swWin 32)
  d.on R.LD_SWCMD F.LD_SWCMD_busy && d.rd R.LD_SWCMD F.LD_SWCMD_fn == fn && !d.swHeld && d.on R.LD_CFG F.LD_CFG_en && !lodeBad fn a
    && !d.quadFenced (quadOf (bucketsOf a).1) && !d.quadFenced (quadOf (bucketsOf a).2) && !d.kickFailed .port && !d.kickWaits .port
def foundAt (d : Dev) : Option Nat :=
  let a := leNat (d.bytes swWin 32)
  (d.findIn (bucketsOf a).1 (LA.kind a) (LA.key a)).or (d.findIn (bucketsOf a).2 (LA.kind a) (LA.key a))
theorem witness_lode_port :
    [(0, 1), (1, 1), (2, 1), (3, 0x43), (4, 1), (5, 1), (6, 0x40), (7, 0x44), (8, 0x42)].all (fun e =>
        let a := blockOfArgs e.2 0
        let i := (bucketsOf a).1 * 4
        let d := port e.1 a [(i, newRec a 0)]
        runsFn d e.1 && !LA.idx a && foundAt d == some i && L.kind.get (d.lrec i) == e.2 && L.armed.get (d.lrec i) == 0
          && (supGoose (d.lrec i) (LA.operand a)).verdict != 4) = true
      ∧ (let a := blockOfArgs 1 0
         let d := port 1 a []
         runsFn d 1 = true ∧ LA.idx a = false ∧ foundAt d = none ∧ (d.placeSingle (bucketsOf a).1 (bucketsOf a).2).isSome = true)
      ∧ (let a := blockOfArgs 1 (2 ^ 17)
         let d := port 1 a []
         runsFn d 1 = true ∧ LA.pair a = true ∧ foundAt d = none ∧ (d.placePair (bucketsOf a).1 (bucketsOf a).2).isSome = true)
      ∧ [9, 10].all (fun fn => let a := 2 ^ 24 + 2 ^ 22 + 33554431 * 2 ^ 32
          runsFn (port fn a []) fn && LA.idx a && LA.index a == 33554431) = true := by decide +kernel
theorem witness_lode :
    let ring (n : Nat) : Dev := { fld R.LD_EXPRING F.LD_EXPRING_en n with ld := { exports := [[1]] } }
    (let a := blockOfArgs 1 0
     let i := (bucketsOf a).1 * 4
     let j := (bucketsOf a).2 * 4 + 3
     let x : Kick := { moves := [(i, j)] }
     let d : Dev := { ({} : Dev).setRec i (newRec a 0) with ld := { kicks := [{ who := .gallery 25 1 }, x] } }
     d.ld.kicks[1]? = some x ∧ d.wayFree j = true ∧ d.movableRec i = true ∧ d.otherBucket i = j / 4 ∧ L.kind.get (d.lrec i) = 1)
      ∧ (let d : Dev := { fld R.LD_CFG F.LD_CFG_watch_en 1 with ld := { watch := [(65535, (7, 0))] } }
         d.on R.LD_CFG F.LD_CFG_watch_en = true ∧ d.ld.watch.find 65535 = some (7, 0) ∧ (msTime d.now + 2 ^ 24 - 0) % 2 ^ 24 < 2 ^ 23)
      ∧ [0, 1, 2 ^ 23 - 2].all (fun b => let d : Dev := { ld := { sweepAt := b } }
          decide (d.ld.sweepAt + 1 < 2 ^ 23) && !d.quadFenced (quadOf d.ld.sweepAt)) = true
      ∧ ((ring 1).ld.exports = [1] :: [] ∧ (ring 1).on R.LD_EXPRING F.LD_EXPRING_en = true
          ∧ ((ring 1).rd R.LD_EXPIDX F.LD_EXPIDX_wr_idx + 2 ^ 32 - (ring 1).rd R.LD_EXPIDX F.LD_EXPIDX_rd_idx) % 2 ^ 32
              ≠ ringRecs ((ring 1).rd R.LD_EXPRING F.LD_EXPRING_size_log2) 128)
      ∧ (ring 0).on R.LD_EXPRING F.LD_EXPRING_en = false
      ∧ (let d (k m : Nat) : Dev := { ld := { repairs := [(k, some m)] } }
         (d 0 6).ld.repairs.get none 0 = some 6 ∧ 6 + 1 < 8 ∧ (d 0 7).ld.repairs.get none 0 = some 7 ∧ 8 ≤ 7 + 1 ∧ 8190 + 1 < 8192
           ∧ (d 1049599 8191).ld.repairs.get none 1049599 = some 8191 ∧ 8192 ≤ 8191 + 1 ∧ 2 ^ 20 ≤ 1049599)
      ∧ ({ ld := { anoms := [5] } } : Dev).ld.anoms = 5 :: []
      ∧ (let x := R.LD_TMO 15
         let d := (((fld R.LD_OCC F.LD_OCC_occ 33554431).wr x F.LD_TMO_adapt 1).wr x F.LD_TMO_limit 2).wr R.SY_BOOT F.SY_BOOT_stage 11
         let d := (List.range 15).foldl (fun (d : Dev) c => d.wr (R.LD_TMO c) F.LD_TMO_adapt 0) (d.wr x F.LD_TMO_floor 1)
         d.policyOn 3 = true ∧ d.on x F.LD_TMO_adapt = true ∧ (∀ c : Fin 16, c ≠ 15 → d.on (R.LD_TMO c) F.LD_TMO_adapt = false)
           ∧ 4 * 33554432 < 5 * d.rd R.LD_OCC F.LD_OCC_occ ∧ d.rd x F.LD_TMO_floor < d.rd x F.LD_TMO_limit) := by decide +kernel
theorem witness_tables :
    (let l : Learn := { mac := 1 }
     let d : Dev := { st := { learnQ := [(3, [l])] } }
     let v := ({ d with st := { d.st with learnQ := [] } } : Dev).stRepairSet 3 (stSet l.mac l.fid)
     d.st.learnQ.get [] 3 = l :: [] ∧ d.tblLocked 3 = false ∧ v.stFind 3 l.mac l.fid = none ∧ (v.stFree 3 (stSet l.mac l.fid)).isSome = true)
      ∧ (({ st := { clearing := false } } : Dev).tblLocked 3 = false ∧ ({ st := { clearing := false } } : Dev).st.clearing = false)
      ∧ (fld R.ST_DMACTL F.ST_DMACTL_lock 1).on R.ST_DMACTL F.ST_DMACTL_lock = true := by decide +kernel
theorem witness_phasor :
    (let d : Dev := { (({} : Dev).setBlkWord 25 1535 0 (2 ^ 63 + 6 * 2 ^ 46)).setBlkWord 25 1535 5 (2 ^ 22) with now := 3600 * unitsPerSec }
     let w := d.blkWord 25 1535 0
     let x := d.blkWord 25 1535 5
     let fr := frOf (PB.f60 w) (PB.fr w)
     let dl := deadlineNs w (fullIndex (PS.k x) (nowNs d) fr)
     d.lull = false ∧ PB.valid w = true ∧ PS.open x = true ∧ fr = 50 ∧ dl < nowNs d ∧ d.stepWaits 25 1535 = false)
      ∧ ({ ph := { transit := [{ g := 3 }] } } : Dev).ph.transit = { g := 3 } :: []
      ∧ (let d := ((fld (R.PH_OUT 1023) F.PH_OUT_fr 6).wr (R.PH_OUT 1023) F.PH_OUT_en 1).wr R.PH_CFG F.PH_CFG_en 1
         ({ d with now := 3600 * unitsPerSec } : Dev).dueReport 1023).isSome = true
      ∧ (let d : Dev := { ph := { cfgAt := [(1023, some 5)] }, now := 5 + 60 * unitsPerSec }; d.cfgSettled 1023 = true)
      ∧ (let d : Dev := { fld (R.PH_BIND 32767) F.PH_BIND_valid 1 with ph := { rewrite := [32767], copies := [(32767, {})] } }
         d.ph.rewrite.contains 32767 = true ∧ d.ph.copies.find 32767 = some {} ∧ d.on (R.PH_BIND 32767) F.PH_BIND_valid = true) := by decide +kernel
/-! ## Tally, the debug port, the host -/

theorem witness_tally :
    let open_ (d : Dev) : Dev := d.wr R.TL_STAT F.TL_STAT_open 1
    (let d := open_ { tl := { transit := [{ code := 5 }] } }; d.tl.transit = { code := 5 } :: [] ∧ d.tlOpen = true ∧ tallyProtected 5 = true ∧ 5 ≠ 0x0301)
      ∧ (let d : Dev := { tl := { tokens := [(4863, some 7)] } }; d.tl.tokens = [(4863, some 7)] ∧ d.tl.limIn = [])
      ∧ (let d : Dev := { open_ { tl := { supp := [(4863, (1, 0, 0))] } } with now := unitsPerSec }
         d.tl.supp.find 4863 = some (1, 0, 0) ∧ secOf 0 < secOf d.now ∧ d.tlOpen = true)
      ∧ (let d := open_ { tl := { queue := List.replicate 16 (3, 5), chunks := 254 } }
         d.tlOpen = true ∧ d.tl.queue = (3, 5) :: List.replicate 15 (3, 5) ∧ 15 < 16 ∧ d.tl.chunks ≠ 0 ∧ d.tl.chunks < 255 ∧ d.tl.lost = 0)
      ∧ ((open_ {}).tlOpen = true ∧ (open_ {}).tl.retired.contains 8 = false ∧ (open_ {}).tl.retired.contains 72 = false ∧ 71 < 72 ∧ (open_ {}).tl.block = 72)
      ∧ (let d := open_ (power 4); d.rd R.PW_LSTAT F.PW_LSTAT_mode = 4 ∧ d.tlOpen = true)
      ∧ (({} : Dev).rd R.SY_BOOT F.SY_BOOT_stage = 1 ∧ ({} : Dev).tlOpen = false ∧ ({} : Dev).tl.lossy = false ∧ ({} : Dev).tl.chunks < 256)
      ∧ ({} : Dev).smbUp = true
      ∧ (let d : Dev := { tl := { ptr := (1, 0), nand := [(0, 5)], nextSeq := 1 } }; d.tl.ptr.1 ≤ 1 ∧ d.tallyAt d.tl.ptr.1 d.tl.ptr.2 = some 5) := by decide +kernel
theorem witness_tap :
    let un := fld R.DB_STAT F.DB_STAT_unlocked 1
    (({} : Dev).on R.DB_STAT F.DB_STAT_unlocked = false ∧ un.on R.DB_STAT F.DB_STAT_unlocked = true)
      ∧ (let u := ({ db := { nonce := some (5, 0) } } : Dev).setIr 0x11; u.nonceStands = true ∧ u.unlockBarred = false)
      ∧ ({} : Dev).nonceStands = false
      ∧ ((({} : Dev).setIr 0x20).on R.DB_STAT F.DB_STAT_unlocked = false ∧ blockOf 0x1300000 = 0x13 ∧ blockOf 0x13FFFFF = 0x13)
      ∧ (un.setIr 0x20).on R.DB_STAT F.DB_STAT_unlocked = true := by decide +kernel
theorem witness_host_link :
    let n := 2 ^ F.HI_BAR2_size_log2.get ({} : Dev).bar2
    let low : Dev := {}
    let high : Dev := { hi := { bar2 := some (F.HI_BAR2_base.put R.HI_BAR2.reset 127) } }
    ({ hi := { perst := true } } : Dev).hi.perst = true ∧ (({} : Dev).fnExists 0 = true ∧ ({ hi := { vfEn := true, numVfs := 63 } } : Dev).fnExists 63 = true)
      ∧ ({ hi := { ide := [(63, 1)] } } : Dev).hi.ide.get 0 63 = 1 ∧ (1039 < msixSize 0 ∧ 127 < msixSize 63)
      ∧ (let v : Dev := { hi := { vfEn := true, numVfs := 63 } }; v.hi.perst = false ∧ v.fnExists 63 = true)
      ∧ (low.hi.perst = false ∧ low.fnExists 0 = true ∧ ∀ q : Fin 1024, low.pqQ (hostKey q) = [])
      ∧ (n - 8 + 8 ≤ n ∧ low.ideRefused 0 false = false ∧ F.HI_BAR2_base.get low.bar2 * 2 ^ 30 + (n - 8) + 8 ≤ 2 ^ 37)
      ∧ (2 ^ 30 - 4 + 8 ≤ 2 ^ F.HI_BAR2_size_log2.get high.bar2 ∧ 2 ^ 37 < F.HI_BAR2_base.get high.bar2 * 2 ^ 30 + (2 ^ 30 - 4) + 8) := by decide +kernel
/-- BAR2 reads and writes its last eight bytes, which Seam has. -/
theorem witness_bar2 :
    let d := seamUp
    let off := 2 ^ F.HI_BAR2_size_log2.get d.bar2 - 8
    let a := F.HI_BAR2_base.get d.bar2 * 2 ^ 30 + off
    d.hi.perst = false ∧ off + 8 ≤ 2 ^ F.HI_BAR2_size_log2.get d.bar2 ∧ d.ideRefused 0 false = false ∧ a + 8 ≤ 2 ^ 37
      ∧ (match (d.smRead 2 a 8).1 with | .ok _ => true | _ => false) = true ∧ (d.smWrite 2 a (List.replicate 8 7)).1 = true := by decide +kernel
/-- Queue pair q is assigned to function 0, which may use DMA, with its directions in the states t and r. -/
def pair (q t r : Nat) : Dev :=
  let d := ((fld (R.HI_QCFG q) F.HI_QCFG_asg 1).wr (R.HI_QSTAT q) F.HI_QSTAT_tx_state t).wr (R.HI_QSTAT q) F.HI_QSTAT_rx_state r
  let d := ((d.wr (R.HI_QCFG q) F.HI_QCFG_tx_size 4).wr (R.HI_QCFG q) F.HI_QCFG_rx_size 4).wr R.HI_CFG F.HI_CFG_en 1
  { d with hi := { bme := [(0, true)] } }
theorem witness_host_queues :
    let q := 1023
    let posts : Dev := (pair q 1 1).wr (R.HI_QIDX q) F.HI_QIDX_tx_tail 1
    let gets (x : Desc) : Dev := ((pair q 1 1).wr (R.HI_QIDX q) F.HI_QIDX_rx_tail 1).setPq (hostKey q) [x]
    let h : Frame := { stage := .held, inPort := 32, txQp := q }
    let bad : Desc := { desc 64 with w := D.drop_n.put (desc 64).w 0 }
    let deliver (x : Desc) : Bool := (gets x).pickPair == some q && (gets x).pqQ (hostKey q) == [x]
    ({} : Dev).hostIn 0 false = true ∧ (posts.pairDma q = true ∧ posts.txSt q = 1 ∧ posts.txPosted q ≠ 0 ∧ posts.frames = [])
      ∧ (let d : Dev := { frames := [(4, h)], hi := { tried := [(q, 7)] }, now := 7 + usU 1 / 10 }
         d.hi.tried.get 0 q + usU 1 / 10 ≤ d.now
           ∧ d.frames.find? (fun e => e.2.inPort == 32 && e.2.stage == .held && e.2.txQp == q) = some (4, h))
      ∧ (deliver bad = true ∧ bad.pairsGood = false)
      ∧ (deliver (desc 64) = true ∧ (desc 64).pairsGood = true ∧ (desc 64).mergedLen ≤ 16383
          ∧ 60 ≤ ((desc 64).cut (((gets (desc 64)).setPq (hostKey q) []).mergedBytes (desc 64))).length)
      ∧ (let d : Dev := { pair q 1 2 with now := msU 65536 }
         d.rxSt q = 2 ∧ d.hi.starved.get 0 q + msU ((d.rd R.HI_CFG F.HI_CFG_host_wd_ms).max 1) ≤ d.now)
      ∧ ((pair q 1 3).txSt q = 1 ∧ (pair q 1 3).rxSt q = 3 ∧ (pair q 1 3).pairDma q = true)
      ∧ (let d : Dev := { pair q 1 1 with hi := { done := [(q, 65535)] }, now := usU 65536 }
         d.hi.done.get 0 q ≠ 0 ∧ (d.rd (R.HI_QITR q) F.HI_QITR_itr_cnt).max 1 ≤ d.hi.done.get 0 q
           ∧ d.hi.doneAt.get 0 q + usU (d.rd (R.HI_QITR q) F.HI_QITR_itr_us) ≤ d.now) := by decide +kernel

theorem witness_host_rings :
    let q := 1023
    let ring (f : Fld) : Dev := (pair 511 1 1).wr (R.HI_QCFG 511) f 1
    [F.HI_QCFG_tx_en, F.HI_QCFG_rx_en].all (fun f => let d := ring f
      d.hostIn 0 false && d.pairAt 0 511 == some 511 && d.on (R.HI_QCFG 511) f && d.rxSt 511 == 1) = true
      ∧ (let g : Frame := { stage := .held, inPort := 32, txQp := q, data := List.replicate 64 0 }
         let d : Dev := { frames := [(4, g)], now := usU 1 }
         let n := (g.data.length + 255) / 256
         let u := d.reserve 8 (tagHost q) n true
         d.frames.find? (fun e => e.2.inPort == 32 && e.2.stage == .held && e.2.txQp == q) = some (4, g) ∧ d.frames.find 4 = some g
           ∧ d.hi.tried.get 0 q + usU 1 / 10 ≤ d.now
           ∧ u.1 = true ∧ (u.2.takeChain 8 (tagHost q) n none).1.isSome = true) := by decide +kernel
/-! ## Registers and areas -/

/-- Every domain is on. -/
def live : Dev := { regs := (List.range 50).map (fun k => ((R.PW_DOM k).addr, F.PW_DOM_state.put (R.PW_DOM k).reset 2)) }
theorem witness_registers :
    let go (d : Dev) (s : Src) (a size : Nat) : Bool := match findReg a with
      | some (id, ix) => d.path s a == .go && d.served a && size == regWidth id && (regOf id ix).addr == a && (areaOf a).isNone && id != .PT_TSDLY
      | none => false
    let tb := R.TB_CTL.addr
    let gl := (R.GL_CTL 25).addr
    let db := R.DB_TCMD.addr
    let gated := (List.range 100).foldl (fun (d : Dev) i => d.wr (R.CK_ISLSTAT i) F.CK_ISLSTAT_gated 1) live
    (go live .overman tb 4 = true ∧ live.grantOk .overman = true ∧ live.dbLocked tb = false ∧ blockOf tb ≠ 0x20)
      ∧ (go live (.host 0 false) (R.CG_DOOR 0).addr 4 = true ∧ 2 ^ 32 ≤ (R.CG_DOOR 0).addr)
      ∧ (go live .relief gl 4 = true ∧ live.dbLocked gl = false ∧ blockOf gl = 0x20)
      ∧ (go live .overman db 4 = true ∧ live.dbLocked db = true)
      ∧ (go live (.host 0 false) tb 4 = true ∧ live.grantOk (.host 0 false) = false ∧ tb < 2 ^ 32)
      ∧ (go gated .overman tb 4 = false ∧ gated.path .overman tb = .go ∧ gated.reachable tb = true ∧ go (gated.wakeIsles tb) .overman tb 4 = true)
      ∧ live.path .tap tb = .none ∧ ({ live with hi := { vfEn := true, numVfs := 1 } } : Dev).path (.host 0 false) (R.CG_DOOR 1).addr = .foreign := by
  decide +kernel
theorem witness_misaddressed :
    (live.path .overman 0x1400000 = .go ∧ areaOf 0x1400000 = none ∧ inReg 0x1400000 = none)
      ∧ (({} : Dev).path .overman R.TB_CTL.addr = .go ∧ areaOf R.TB_CTL.addr = none ∧ inReg R.TB_CTL.addr = some ((.TB_CTL, []), 0)
          ∧ ({} : Dev).reachable R.TB_CTL.addr = false ∧ live.reachable R.TB_CTL.addr = true ∧ regAccess .TB_CTL 0 8 = false)
      ∧ (let a := (R.PT_TSDLY 31).addr + 4; areaOf a = none ∧ inReg a = some ((.PT_TSDLY, [31]), 4) ∧ live.path .overman a = .go
          ∧ live.reachable a = true) := by decide +kernel
theorem witness_areas :
    let gate := 0x300000 + 31 * 0x4000 + 0x2000
    let ok (a size : Nat) (f : Area → Bool) : Bool := match areaOf a with
      | some ar => live.path .overman a == .go && live.served a && areaWidth ar a size && live.grantOk .overman && f ar
      | none => false
    let cage (a : Nat) (d : Dev) : Bool := match areaOf a with
      | some ar => d.path (.host 0 false) a == .go && d.served a && areaWidth ar a 8 && !ar.expert | none => false
    ok gate 4 (fun ar => match ar with
        | .gateAdmin p => !live.on (R.PT_GCLCTL p) F.PT_GCLCTL_pending
            && (live.wr (R.PT_GCLCTL p) F.PT_GCLCTL_pending 1).on (R.PT_GCLCTL p) F.PT_GCLCTL_pending
        | _ => false) = true
      ∧ ok 0xC20000 8 (fun ar => match ar with | .header _ => true | _ => false) = true
      ∧ ok (imemAddr 25 7 0) 2 (fun ar => match ar with | .imem g => !live.galActive g && (live.setGalState g 3).galActive g | _ => false) = true
      ∧ ok (tmplAddr 255) 8 (fun ar => match ar with | .template t => (live.wr (R.DR_TCTL t) F.DR_TCTL_en 1).tmplOn t | _ => false) = true
      ∧ (cage (2 ^ 32 + 0x100) live = true ∧ live.on (R.CG_STAT 0) F.CG_STAT_busy = false
          ∧ (live.wr (R.CG_STAT 0) F.CG_STAT_busy 1).on (R.CG_STAT 0) F.CG_STAT_busy = true) := by decide +kernel
theorem witness_queue_heads :
    let t := R.PT_TSDLY 31
    live.path .overman t.addr = .go ∧ live.served t.addr = true ∧ live.reachable t.addr = true
      ∧ (0xFFFFFFFF : Word64).toNat / 2 ^ 32 + (0xFFFFFFFF : Word64).toNat % 2 ^ 32 = 2 ^ 32 - 1
      ∧ (0 : Word64).toNat / 2 ^ 32 + (0 : Word64).toNat % 2 ^ 32 ≠ 2 ^ 32 - 1
      ∧ [R.TB_NOW_LO, R.GL_FREC2 25, R.LD_ANQ1, R.TK_RREC1].all (fun r => live.answers .overman r) = true := by decide +kernel
theorem witness_control :
    [R.PT_PCFG 31, R.PT_GCLCTL 31, R.TB_CTL, R.TB_STEP, R.TB_FREQ, R.TB_UTC, R.XC_PLMAP, R.TK_CHAN 1023, R.TK_FREL, R.DR_TCTL 255, R.LD_SWEEP,
        R.HI_QCFG 1023, R.SM_SPARE, R.PW_DOM 49, R.SY_RST, R.AS_RVER, R.ST_DMACTL, R.AS_RCMD, R.RL_FORCE].all (fun r => live.lands .overman r) = true
      ∧ live.pcfgOk 31 (live.eff .PT_PCFG [31] ((R.PT_PCFG 31).reset.setWidth 32 |>.setWidth 64)) = true
      ∧ (let u := live.wrote .PT_GCLCTL [31] (BitVec.ofNat 64 1); u.on (R.PT_GCLCTL 31) F.PT_GCLCTL_pending = false ∧ u.adminOk 31 = true)
      ∧ (let d := (live.wr R.TB_STAT F.TB_STAT_state 1).wr R.TB_CTL F.TB_CTL_step_en 1; d.tbSt = 1 ∧ d.on R.TB_CTL F.TB_CTL_step_en = true ∧ d.lands .overman R.TB_STEP = true)
      ∧ live.tbSt ≠ 1 ∧ ((live.wr R.TB_CTL F.TB_CTL_tsrc 0).tsrc = 0 ∧ (live.wr R.TB_CTL F.TB_CTL_tsrc 1).tsrc ≠ 0)
      ∧ F.TB_UTC_leap.get (live.eff .TB_UTC [] 0) = 0
      ∧ ((live.rget R.XC_PLMAP ^^^ 0) &&& live.rget R.XC_PLMOVE = 0
          ∧ ((live.rset R.XC_PLMOVE 1).rget R.XC_PLMAP ^^^ (live.rget R.XC_PLMAP ^^^ 1)) &&& (live.rset R.XC_PLMOVE 1).rget R.XC_PLMOVE ≠ 0) := by decide +kernel
theorem witness_control_more :
    let ch (n : Nat) : Word64 := F.TK_CHAN_depth.put 0 n
    (let d := fld (R.PW_DOM 39) F.PW_DOM_state 2
     d.lands .overman (R.TK_CHAN 1023) = true ∧ d.chanBad 1023 (d.eff .TK_CHAN [1023] (ch 65)) = true ∧ d.chanBad 1023 (d.eff .TK_CHAN [1023] (ch 0)) = false)
      ∧ (live.on (R.DR_TCTL 255) F.DR_TCTL_en = false ∧ live.tmplGood 255 = false
          ∧ (live.wr (R.DR_TCTL 255) F.DR_TCTL_en 1).on (R.DR_TCTL 255) F.DR_TCTL_en = true)
      ∧ (let d := (live.wr (R.SM_CHSTAT 3) F.SM_CHSTAT_state 2).wr (R.SM_CHSTAT 4) F.SM_CHSTAT_state 3
         d.on R.SM_SPARE F.SM_SPARE_busy = false ∧ d.smSpare.isSome = true ∧ d.smState 3 = 2)
      ∧ (live.wr R.SM_SPARE F.SM_SPARE_busy 1).on R.SM_SPARE F.SM_SPARE_busy = true
      ∧ (live.bo.warmReq = false ∧ live.bo.warm = false ∧ ({ live with bo := { warmReq := true } } : Dev).bo.warmReq = true)
      ∧ (let d := live.wr R.AS_RVER F.AS_RVER_stage_ready 1; d.on R.AS_RVER F.AS_RVER_prev_live = false ∧ d.stageReady = true)
      ∧ (live.wr R.AS_RVER F.AS_RVER_prev_live 1).on R.AS_RVER F.AS_RVER_prev_live = true ∧ (live.wr R.AS_RVER F.AS_RVER_stage_ready 0).stageReady = false := by
  decide +kernel
theorem witness_control_rest :
    (let d := live.wr (R.PT_GCLCTL 31) F.PT_GCLCTL_pending 1; d.lands .overman (R.PT_GCLCTL 31) = true ∧ d.on (R.PT_GCLCTL 31) F.PT_GCLCTL_pending = true)
      ∧ (let d := live.setLock 4095 { held := true, owner := 8 }; d.lands .overman R.TK_FREL = true ∧ (d.lock 4095).held = true)
      ∧ (let v := live.rget (R.HI_QCFG 1023)
         let x := live.kept .HI_QCFG [1023] v
         live.lands .overman (R.HI_QCFG 1023) = true ∧ live.qcfgBad 1023 x = false ∧ F.HI_QCFG_rx_en.get x = 0 ∧ F.HI_QCFG_rx_en.get v = 0
           ∧ F.HI_QCFG_tx_en.get x = 0 ∧ F.HI_QCFG_tx_en.get v = 0)
      ∧ (let d := live.wr (R.PW_DOM 25) F.PW_DOM_state 0
         let u := d.rset (R.PW_DOM 25) (d.rget (R.PW_DOM 25))
         d.lands .overman (R.PW_DOM 25) = true ∧ u.domRefused 25 1 = false ∧ u.domSt 25 = 0)
      ∧ (let v := F.RL_FORCE_go.put (F.RL_FORCE_unit.put (F.RL_FORCE_ret.put (F.RL_FORCE_kind.put 0 3) 0) 0) 1
         let u := live.wrote .RL_FORCE [] v
         live.lands .overman R.RL_FORCE = true ∧ u.on R.RL_FORCE F.RL_FORCE_busy = false ∧ live.cg.om = 0 ∧ u.on R.RL_FENCE F.RL_FENCE_om_c = false) := by
  decide +kernel
/-- A template of one node, the release node, has the checks of R128 behind it. -/
theorem witness_template :
    let h := leBytes 12 1
    let n := leBytes 8 (7 * 2 ^ 60)
    let d := (live.put (tmplAddr 255) (h ++ leBytes 4 (crc32c (h ++ n ++ List.replicate 120 0)))).put (tmplAddr 255 + 16) n
    d.tmplGood 255 = true ∧ d.on (R.DR_TCTL 255) F.DR_TCTL_en = false := by decide +kernel
theorem witness_table_commands :
    let c := R.ST_DMACTL
    (live.on c F.ST_DMACTL_busy = false ∧ live.on c F.ST_DMACTL_lock = false ∧ live.on c F.ST_DMACTL_start = false)
      ∧ (1 ≠ 0 ∧ 262143 + 1 ≤ tblSize 0 ∧ 65535 + 1 ≤ tblSize 4)
      ∧ (let d := (live.wr c F.ST_DMACTL_lock 1).wr c F.ST_DMACTL_tbl 4
         d.on c F.ST_DMACTL_start = false ∧ d.on c F.ST_DMACTL_lock = true ∧ d.rd c F.ST_DMACTL_tbl = 4) := by decide +kernel
theorem witness_gallery_registers :
    let fc := R.GL_FCCTL 25
    [R.GL_TCTL 25 7 6, R.GL_CTL 25, R.GL_TSOFT 25, R.GL_ROSECTL 25 7, R.GL_GENCMD 25, fc].all (fun r => live.lands .overman r) = true
      ∧ (isSup (thrKey 25 7 6) = false ∧ live.rd (R.GL_TCTL 25 7 6) F.GL_TCTL_kill = 0)
      ∧ (trusted .overman = true ∧ trusted (.host 0 false) = false ∧ trusted (.supervisor 25) = false ∧ live.lands (.supervisor 25) (R.GL_CTL 25) = true)
      ∧ (live.rd (R.GL_CTL 25) F.GL_CTL_core_rst = 0 ∧ live.rd (R.GL_CTL 25) F.GL_CTL_gal_rst = 0)
      ∧ (live.on (R.GL_ROSECTL 25 7) F.GL_ROSECTL_pending = false
          ∧ (live.wr (R.GL_ROSECTL 25 7) F.GL_ROSECTL_pending 1).on (R.GL_ROSECTL 25 7) F.GL_ROSECTL_pending = true)
      ∧ live.on (R.GL_GENCMD 25) F.GL_GENCMD_busy = false
      ∧ [(64, 0x100000), (16383, 0x300000 - 16384)].all (fun e =>
          let v := F.GL_GENCMD_length.put (F.GL_GENCMD_src.put (0 : Word64) e.2) e.1
          let x := F.GL_GENCMD_go.put v 1
          let y := live.eff .GL_GENCMD [25] x
          F.GL_GENCMD_length.get y == e.1 && F.GL_GENCMD_src.get y == e.2 && decide (e.2 + (e.1 - 4) ≤ 0x300000) && e.2 % 8 == 0
            && ((live.wrote .GL_GENCMD [25] x).reserve 10 (tagGen 25) ((e.1 + 255) / 256) (F.GL_GENCMD_queue.get y == 7)).1) = true
      ∧ [0, 2, 3, 4].all (fun s => (live.wr (R.GL_FCSTAT 25) F.GL_FCSTAT_state s).faceState 25 == s) = true
      ∧ (live.rd fc F.GL_FCCTL_load + live.rd fc F.GL_FCCTL_clear = 0 ∧ live.rd fc F.GL_FCCTL_load = 0)
      ∧ (1663 < 1664 ∧ live.resetBlocked 1663 = false ∧ (live.wr R.DB_STAT F.DB_STAT_unlocked 1).lands .overman R.DB_TCMD = true)
      ∧ ((one 1663 { st := .hold }).thr 1663).st = .hold ∧ ((one 1663 { st := .ready }).thr 1663).st = .ready := by decide +kernel
/-- The ways a generator's copy ends: with no cell reserved, and with one. -/
theorem witness_generator :
    let v : Word64 := F.GL_GENCMD_length.put 0 64
    let d (n : Nat) : Dev := (({} : Dev).modGal 25 (fun x => { x with gen := some (0x100000, v) })).setResv 10 (tagGen 25) n
    let u (n : Nat) := (((d n).modGal 25 (fun x => { x with gen := none })).wr (R.GL_GENCMD 25) F.GL_GENCMD_busy 0).takeChain 10 (tagGen 25)
      ((F.GL_GENCMD_length.get v + 255) / 256) none
    ((d 0).gal 25).gen = some (0x100000, v) ∧ (u 0).1 = none ∧ (u 1).1.isSome = true := by decide +kernel
/-! ## Cage requests -/

/-- The PF, which holds a grant, has posted a request of this code with this body, on a device that is READY. -/
def ask (d : Dev) (code : Nat) (body : List Byte) : Dev :=
  let low := code + 7 * 2 ^ 16 + body.length * 2 ^ 32
  let d := (({ d with devState := 1 } : Dev).wr (R.CG_STAT 0) F.CG_STAT_busy 1).wr (R.CG_GRANT 0) F.CG_GRANT_valid 1
  let bs := leBytes 8 low ++ leBytes 8 (2 ^ 64 - 1 - low) ++ body
  { d.wr (R.CG_GRANT 0) F.CG_GRANT_lease_end 100 with
    mem := ((List.zip (List.range bs.length) bs).filter (fun e => e.2 != 0)).map (fun e => (2 ^ 32 + 0x100 + e.1, e.2)) ++ d.mem }
/-- What a command of this code sees of that request. -/
def input (d : Dev) (code : Nat) (body : List Byte) : CmdIn := (ask d code body).request 0 true none none
/-- The request passes every check. -/
def passes (d : Dev) (code : Nat) (body : List Byte) : Bool :=
  match cmdOf code with
  | some c => (ask d code body).asked 0 code c (input d code body)
  | none => false
/-- n zero bytes with these in front. -/
def zeros (n : Nat) (l : List Byte := []) : List Byte := l ++ List.replicate (n - l.length) 0

/-- The request passes every check, and the command answers status 0. -/
def done (d : Dev) (code : Nat) (body : List Byte) (img : Option (List Byte) := none) : Bool :=
  match cmdOf code with
  | some c => passes d code body && (match (c.run { input d code body with img := img } (ask d code body)).1 with | some a => a.status == 0 | none => false)
  | none => false
/-- A body of register images. -/
def images (l : List Word64) : List Byte := l.flatMap (fun v => leBytes 8 v.toNat)
/-- A request with a body of zeros is done. -/
def zeroDone (codes : List Nat) : Bool :=
  codes.all (fun c => match cmdOf c with
    | some k => done live c (zeros ((k.len ⟨0, [], true, none, none⟩ + 7) / 8 * 8))
    | none => false)
/-- An image header with the magic word, version 1 and a payload of one byte. -/
def header : List Byte := [0x07, 0xB0, 0x16, 0x32, 1] ++ List.replicate 11 0 ++ [1]
/-- The bytes of l that are not 0, at address a of d's memory. -/
def holds (d : Dev) (a : Nat) (l : List Byte) : Dev :=
  { d with mem := ((List.zip (List.range l.length) l).filter (fun e => e.2 != 0)).map (fun e => (a + e.1, e.2)) }

theorem witness_cage_system : zeroDone [1, 2, 3, 4, 6, 10] = true := by decide +kernel
theorem witness_cage_vfs : zeroDone [0x0E01, 0x0E04, 0x0E05] = true := by decide +kernel
theorem witness_cage_control : done live 5 (zeros 8 [0, 0, 0, 0, 1]) = true ∧ done live 7 (zeros 16 [63]) = true := by decide +kernel
theorem witness_cage_update :
    done (holds (seam live) (seamAddr 0) header) 8 (zeros 16 [0, 0, 0, 0, 0, 0, 0, 0, 1, 1, 0, 0, 1]) = true := by decide +kernel
theorem witness_cage_activate : done (holds live (slotAddr 0) header) 9 (zeros 8) = true := by decide +kernel
theorem witness_cage_pair : live.pairAt 0 511 = some 511 := by decide +kernel
theorem witness_cage_pair_config : done live 0x0E02 (zeros 40 [0xFF, 1]) = true := by decide +kernel
theorem witness_cage_pair_control : done (live.wr R.HI_CFG F.HI_CFG_en 1) 0x0E03 (zeros 16 [0xFF, 1]) = true := by decide +kernel
theorem witness_cage_host : done live 0x0E06 (images [R.HI_CFG.reset, R.HI_BAR2.reset]) = true := by decide +kernel
theorem witness_cage_ports : zeroDone [0x0101, 0x0102, 0x0103, 0x0104, 0x0105, 0x0106, 0x0202, 0x0203] = true
    ∧ done live 0x0104 (zeros 32 [31, 0, 0, 0, 0, 0, 0, 0, 0, 0, 0, 0, 1]) = true ∧ done live 0x0105 (zeros 80 [31, 0, 0, 0, 0, 0, 0, 0, 0, 0, 0, 0, 1]) = true
    ∧ done live 0x0106 (zeros 24 [31]) = true ∧ done live 0x0106 (zeros 24 [0xFF, 0xFF, 0xFF, 0xFF]) = true
    ∧ done live 0x0107 (zeros 16 [30, 0, 0, 0, 0, 0, 0, 0, 0, 31]) = true
    ∧ done live 0x0201 (images [R.TB_CTL.reset, R.TB_PPS.reset, R.TB_TICK.reset]) = true
    ∧ done ((live.wr R.TB_STAT F.TB_STAT_state 1).wr R.TB_CTL F.TB_CTL_step_en 1) 0x0204 (zeros 8 [1]) = true := by decide +kernel
theorem witness_cage_assay : zeroDone [0x0301, 0x0302, 0x0303, 0x0304, 0x0306, 0x0307, 0x0309, 0x030A, 0x030B, 0x030C] = true
    ∧ done live 0x0305 (zeros 16 [0xFF, 3, 1]) = true ∧ done (live.wr R.AS_RVER F.AS_RVER_prev_live 1) 0x0308 [] = true := by decide +kernel
theorem witness_cage_tables : zeroDone [0x0406, 0x0407, 0x0408, 0x0409, 0x0501, 0x0503, 0x0505, 0x0506, 0x0508, 0x0509] = true
    ∧ done live 0x0401 (zeros 24 [15]) = true ∧ done live 0x0402 (zeros 16 [15]) = true ∧ done live 0x0403 (zeros 8 [15]) = true
    ∧ done live 0x0404 (zeros 16 [3, 0, 0, 0, 0xFF, 0xFF, 3, 0, 1]) = true ∧ done live 0x0405 (zeros 32 [15]) = true
    ∧ [3, 4].all (fun n => done live 0x0409 (zeros 8 [n])) = true ∧ done live 0x0502 (zeros 16 [255]) = true
    ∧ done live 0x0504 (zeros 16 [3, 255, 1]) = true ∧ [25, 26, 29].all (fun n => done live 0x0506 (zeros 8 [n])) = true
    ∧ done live 0x0507 (images [R.DR_TRRING.reset, R.DR_TRCTL.reset]) = true := by decide +kernel
theorem witness_cage_galleries : zeroDone [0x0602, 0x0603, 0x0605, 0x0606, 0x0701, 0x0702, 0x0703, 0x0704, 0x0803, 0x0804, 0x0806] = true
    ∧ done (seam live) 0x0601 (zeros 24 [25, 0, 0, 0, 0, 0, 0, 0, 0, 0, 0, 0, 0, 0, 0, 0, 1]) (some []) = true
    ∧ done live 0x0604 (zeros 8 [0xFF, 0xFF, 0xFF, 0xFF, 48]) = true ∧ done live 0x0605 (zeros 8 [25, 0, 0, 0, 1, 0xFF]) = true
    ∧ done live 0x0606 (zeros 8 [0x7F, 6, 0, 0, 1]) = true
    ∧ done (live.wr (R.GL_FCSTAT 25) F.GL_FCSTAT_state 2) 0x0702 (zeros 8 [0, 0, 0, 2, 1]) = true
    ∧ (let d := live.wr (R.PH_BIND 32767) F.PH_BIND_valid 1; done d 0x0802 (zeros 8 [0xFF, 0x7F]) = true ∧ done d 0x0805 (zeros 8 [0xFF, 0x7F]) = true)
    ∧ [0xFF, 0].all (fun x => done live 0x0806 (zeros 8 [x, 3])) = true ∧ done live 0x0806 (zeros 8 [0xFF, 0xFF, 0xFF, 0xFF]) = true := by decide +kernel
theorem witness_cage_lode : zeroDone [0x0901, 0x0902, 0x0903, 0x0904, 0x0907, 0x0908, 0x0909] = true
    ∧ done live 0x0905 (images [0, R.LD_EXPRING.reset, 0]) = true ∧ done live 0x0906 (zeros 8 [64]) = true := by decide +kernel
theorem witness_cage_seam : zeroDone [0x0A01, 0x0A02, 0x0A03, 0x0A04, 0x0A05, 0x0A06] = true := by decide +kernel
theorem witness_cage_token_stats : [[25], [0xFF, 0xFF, 0xFF, 0xFF]].all (fun l => done live 0x0A05 (zeros 8 l)) = true := by decide +kernel
theorem witness_cage_hoist : zeroDone [0x0B01, 0x0B02, 0x0B03] = true := by decide +kernel
theorem witness_cage_switch : zeroDone [0x0C01, 0x0C02, 0x0C06, 0x0C07, 0x0C08, 0x0C09, 0x0C0A, 0x0C0B, 0x0D01, 0x0D02] = true
    ∧ done live 0x0C03 (zeros 16 [15]) = true ∧ [31, 32, 43, 44, 55, 56].all (fun n => done live 0x0C08 (zeros 8 [n])) = true
    ∧ done live 0x0C04 (images [31, (R.XC_PORT 31).reset]) = true ∧ done live 0x0C05 (images [R.XC_CAPRING.reset, 0]) = true := by decide +kernel
theorem witness_cage_device : zeroDone [0x0F01, 0x0F11, 0x0F21, 0x1002, 0x1003, 0x1102, 0x1103, 0x1201, 0x1203] = true
    ∧ done ((live.wr (R.SM_CHSTAT 3) F.SM_CHSTAT_state 2).wr (R.SM_CHSTAT 4) F.SM_CHSTAT_state 3) 0x0F02 (zeros 8 [3]) = true
    ∧ done (((live.setGalState 0 3).setGalState 25 2).setRelief 25 true) 0x0F12 (zeros 8) = true
    ∧ done live 0x1001 (zeros 16 [6]) = true ∧ done live 0x1004 (zeros 8 [0xFF, 0x1F, 0, 0, 1]) = true
    ∧ done live 0x1005 (zeros 16 [0xFF, 0x1F, 0, 0, 1]) = true
    ∧ done { live with tl := { nand := [(0, 5)], nextSeq := 1 } } 0x1101 (zeros 16 [1, 0, 0, 0, 0, 0, 0, 0, 19]) = true
    ∧ done { live with db := { nonce := some (5, 0) } } 0x1202 (zeros 96) = true := by decide +kernel

/-- No binding of `d` is valid, so a gallery's first block is free. -/
theorem free_block (d : Dev) (g b : Nat) (h : d.regs.all (fun e => decide (e.1 < 0xC40000 ∨ 0xC80000 ≤ e.1)) = true) : d.freeBlock g b = some 0 := by
  have off : ∀ x, x < 32768 → d.on (R.PH_BIND x) F.PH_BIND_valid = false := by
    intro x hx
    have none_ : d.regs.find (R.PH_BIND x).addr = none := by
      have ha : (R.PH_BIND x).addr = 0xC40000 + 0x8 * x := rfl
      rw [ha]
      generalize d.regs = m at h
      induction m with
      | nil => rfl
      | cons e r ih =>
        simp only [List.all_cons, Bool.and_eq_true, decide_eq_true_eq] at h
        obtain ⟨i, v⟩ := e
        rw [Tab.find, if_neg (by simp only at h; omega)]
        exact ih (by simpa using h.2)
    simp only [Dev.on, Dev.rd, Dev.rget, Tab.get, none_, Option.getD_none]
    exact (by decide +kernel : (F.PH_BIND_valid.get (0 : Word64) == 1) = false)
  have used : (List.range 32768).filter (fun x => x != b && d.on (R.PH_BIND x) F.PH_BIND_valid && d.rd (R.PH_BIND x) F.PH_BIND_gallery == g) = [] := by
    rw [List.filter_eq_nil_iff]
    intro x hx
    simp [off x (List.mem_range.mp hx)]
  unfold Dev.freeBlock
  simp only [used, List.map_nil]
  decide +kernel
def bindDev : Dev :=
  let a := R.DR_AFF 0 (crc32c (leBytes 2 0) % 256)
  ask ({ (live.wr a F.DR_AFF_valid 1).wr a F.DR_AFF_gallery 25 with
      st := { clearing := false, stream := [(0, xeSeal (XE.tmpl_en.put (XE.valid.put 0 1) 1))] } }) 0x0801
      (zeros 56 [0xFF, 0x7F, 0, 0, 0, 0, 0, 0, 0, 0, 0, 0, 0, 1])
theorem witness_phasor_bind :
    let a := R.DR_AFF 0 (crc32c (leBytes 2 0) % 256)
    let d := bindDev
    let i := d.request 0 true none none
    let out := d.rget (R.PH_OUT 1023)
    d.asked 0 0x0801 cmdPhasorBind i = true ∧ i.unit = 32767 ∧ F.PH_OUT_f60.get out = i.u 1 12 ∧ outOk out = true
      ∧ i.u 2 8 = 0 ∧ i.u 1 10 = 0 ∧ (d.streamMap 0).1 = 0 ∧ (d.streamMap 0).2.on a F.DR_AFF_valid = true ∧ (d.streamMap 0).2.rd a F.DR_AFF_gallery = 25
      ∧ (((d.streamMap 0).2.writeBlock 25 0 (bindBlock i out)).fwSet .PH_BIND [32767] [(F.PH_BIND_sh, i.u 2 8), (F.PH_BIND_gallery, 25),
          (F.PH_BIND_slot, 0), (F.PH_BIND_valid, 1)]).1 = true
      ∧ (d.streamMap 0).2.regs.all (fun e => decide (e.1 < 0xC40000 ∨ 0xC80000 ≤ e.1)) = true := by decide +kernel
/-- The binding that `witness_phasor_bind` asks for gets block 0. -/
theorem witness_phasor_bind_block : (bindDev.streamMap 0).2.freeBlock 25 32767 = some 0 :=
  free_block _ _ _ (by have h := witness_phasor_bind; simp only at h; exact h.2.2.2.2.2.2.2.2.2.2)
/-- A CRC over blocks of bytes, the value after each block and each byte evaluated before the next. -/
def crcRun (p : Nat) : List Byte → Nat → Nat
  | [], c => c
  | b :: r, c => match c with
    | 0 => crcRun p r (crcByte p 0 b)
    | n + 1 => crcRun p r (crcByte p (n + 1) b)
def crcRuns (p : Nat) : List (List Byte) → Nat → Nat
  | [], c => c
  | l :: r, c => match crcRun p l c with
    | 0 => crcRuns p r 0
    | n + 1 => crcRuns p r (n + 1)
theorem crcRun_eq (p : Nat) : ∀ (l : List Byte) (c : Nat), crcRun p l c = l.foldl (crcByte p) c
  | [], c => by unfold crcRun; rfl
  | b :: r, 0 => by unfold crcRun; exact crcRun_eq p r _
  | b :: r, n + 1 => by unfold crcRun; exact crcRun_eq p r _
theorem crcRuns_eq (p : Nat) : ∀ (l : List (List Byte)) (c : Nat), crcRuns p l c = l.flatten.foldl (crcByte p) c
  | [], c => by unfold crcRuns; rfl
  | l :: r, c => by
    unfold crcRuns
    rw [List.flatten_cons, List.foldl_append, ← crcRun_eq p l c]
    split <;> simp_all [crcRuns_eq]
/-- The eight bytes with which a calibration set begins (R461). -/
def calHead : List Byte := [0x1B, 0xCA, 0x16, 0x32, 1, 0, 0, 0x20]
def calBody : List Byte := calHead ++ List.replicate 8180 0
theorem cal_length : calBody.length = 8188 := by unfold calBody; rw [List.length_append, List.length_replicate]; rfl
theorem cal_flat : calBody = (calHead :: List.replicate 20 0 :: List.replicate 40 (List.replicate 96 0)).flatten
    ++ (List.replicate 45 (List.replicate 96 0)).flatten := by
  unfold calBody
  rw [List.flatten_cons, List.flatten_cons, List.flatten_replicate_replicate, List.flatten_replicate_replicate, List.append_assoc,
    List.append_assoc, List.replicate_append_replicate, List.replicate_append_replicate]
theorem cal_run₁ : crcRuns 0x82F63B78 (calHead :: List.replicate 20 0 :: List.replicate 40 (List.replicate 96 0)) 0xFFFFFFFF = 3031571446 := by
  decide +kernel
theorem cal_run₂ : crcRuns 0x82F63B78 (List.replicate 45 (List.replicate 96 0)) 3031571446 = 2718215671 ^^^ 0xFFFFFFFF := by
  decide +kernel
theorem crc32c_blocks (l m : List (List Byte)) : crc32c (l.flatten ++ m.flatten) = crcRuns 0x82F63B78 m (crcRuns 0x82F63B78 l 0xFFFFFFFF) ^^^ 0xFFFFFFFF := by
  rw [crcRuns_eq, crcRuns_eq, ← List.foldl_append]; rfl
theorem cal_crc : crc32c calBody = 2718215671 := by
  rw [cal_flat, crc32c_blocks, cal_run₁, cal_run₂]
  decide
/-- A request that stages the first bytes of a set whose other bytes are staged, and commits it. -/
def calDev : Dev :=
  ask { live with bg := { staged := (List.range 4).map (fun i => (8188 + i, (leBytes 4 2718215671).getD i 0)) } } 0x1005
    (zeros 16 ([0, 0, 0, 0, 8, 0, 1, 0] ++ calHead))
def calTab : Tab Byte := [(0, 0x1B), (1, 0xCA), (2, 0x16), (3, 0x32), (4, 1), (7, 0x20)] ++ (List.range 4).map (fun i => (8188 + i, (leBytes 4 2718215671).getD i 0))
theorem witness_calib_commit :
    let i := calDev.request 0 true none none
    calDev.asked 0 0x1005 cmdCalibWrite i = true ∧ i.u 1 6 = 1 ∧ (calDev.calStage (i.u 4 0) (i.bytes (i.u 2 4) 8)).bg.staged = calTab := by decide +kernel
/-- The set that `witness_calib_commit` commits is good. -/
theorem witness_calib_good : calGood ((List.range 8192).map (fun o => calTab.get 0 o)) = true := by
  have hs : (List.range 8192).map (fun o => calTab.get 0 o) = calBody ++ leBytes 4 2718215671 := by
    have hm : ((List.range 8180).map (8 + ·)).map (fun o => calTab.get 0 o) = List.replicate 8180 0 := by
      refine List.eq_replicate_iff.mpr ⟨by simp, ?_⟩
      intro b hb
      simp only [List.map_map, List.mem_map, List.mem_range, Function.comp_apply] at hb
      obtain ⟨o, ho, rfl⟩ := hb
      have : calTab.find (8 + o) = none := by
        have hr : (List.range 4).map (fun i => (8188 + i, (leBytes 4 2718215671).getD i 0)) = [(8188, 0xF7), (8189, 0xAD), (8190, 0x04), (8191, 0xA2)] := by
          decide +kernel
        simp only [calTab, hr, List.cons_append, List.nil_append, Tab.find]
        repeat rw [if_neg (by omega)]
      simp [Tab.get, this]
    unfold calBody
    rw [show 8192 = 8 + 8180 + 4 from rfl, List.range_add, List.range_add, List.map_append, List.map_append, hm]
    rw [show (List.range 8).map (fun o => calTab.get 0 o) = calHead by decide +kernel,
      show ((List.range 4).map (8 + 8180 + ·)).map (fun o => calTab.get 0 o) = leBytes 4 2718215671 by decide +kernel]
  have h : (calBody ++ leBytes 4 2718215671).take 8188 = calBody :=
    List.take_left' (cal_length)
  have hd : (calBody ++ leBytes 4 2718215671).drop 8188 = leBytes 4 2718215671 :=
    List.drop_left' (cal_length)
  rw [hs]
  unfold calGood
  rw [h, hd, cal_crc]
  decide +kernel
/-! ## The Cage's own commands, start-up -/

/-- The bytes of a request: its header's first word, check and tag as given, then the body. -/
def request (low high : Nat) : Dev :=
  let d := ((({ live with devState := 1 } : Dev).wr (R.CG_STAT 0) F.CG_STAT_busy 1).wr (R.CG_GRANT 0) F.CG_GRANT_valid 1)
  holds (d.wr (R.CG_GRANT 0) F.CG_GRANT_lease_end 100) (2 ^ 32 + 0x100) (leBytes 8 low ++ leBytes 8 high)
theorem witness_doorbell : [1, 2, 3].all (fun n =>
    let d : Dev := { live with devState := n }
    d.answers (.host 0 false) (R.CG_DOOR 0) && !d.on (R.CG_STAT 0) F.CG_STAT_busy) = true
    ∧ (live.wr (R.CG_STAT 0) F.CG_STAT_busy 1).answers (.host 0 false) (R.CG_DOOR 0) = true := by decide +kernel
/-- A good header with a code of no command; a header whose check does not agree; a length the command does not take. -/
theorem witness_bad_request :
    (let d := request 0xFFFF (2 ^ 64 - 1 - 0xFFFF); d.waiting 0 = true ∧ (d.reqHdr 0).good = true ∧ (d.reqHdr 0).length ≤ 2032 ∧ cmdOf (d.reqHdr 0).code = none)
    ∧ (let d := request 1 0; d.waiting 0 = true ∧ (d.reqHdr 0).good = false)
    ∧ (let d := request (3 + 2 ^ 35) (2 ^ 64 - 1 - (3 + 2 ^ 35))
       d.waiting 0 = true ∧ (d.reqStatus 0 (d.reqHdr 0) (cmdOf (d.reqHdr 0).code) (d.request 0 true none none)).isSome = true) := by decide +kernel
theorem witness_events : ({ events := [{ code := 1 }] } : Dev).events ≠ [] := by decide
theorem witness_grant_expiry :
    (let d := live.wr (R.CG_GRANT 3) F.CG_GRANT_valid 1; d.on (R.CG_GRANT 3) F.CG_GRANT_valid = true ∧ d.granted (d.rd (R.CG_GRANT 3) F.CG_GRANT_fn) = false)
    ∧ (match findReg (R.XC_PORT 31).addr with | some (id, _) => polled id && live.reachable (R.XC_PORT 31).addr | none => false) = true
    ∧ ({ devState := 3 } : Dev).devState = 3 := by decide +kernel

/-- The device at start-up stage n. -/
def stage (n : Nat) : Dev := fld R.SY_BOOT F.SY_BOOT_stage n
theorem witness_stages : (List.range 12).all (fun n => (stage n).stage == n && (stage n).devState == 0 && !(stage n).bo.lodeUp && !(stage n).bo.trained) = true
    ∧ (({ stage 10 with now := msU 4601 } : Dev).stage = 10 ∧ (stage 10).bo.began + msU (2 * stageMax 10) < msU 4601)
    ∧ (({ stage 6 with bo := { trained := true } } : Dev).stage = 6 ∧ ({ stage 6 with bo := { trained := true } } : Dev).bo.trained = true)
    ∧ ((power 4).powerMode = 4 ∧ (power 3).powerMode ≠ 4) := by decide +kernel
theorem witness_verify : (let d := holds (stage 2) (slotAddr 0) header; d.stage = 2 ∧ d.imageGood (d.bytes (slotAddr 0) 256) true = true)
    ∧ (let d := stage 2; d.imageGood (d.bytes (slotAddr 0) 256) true = false ∧ d.imageGood (d.bytes (slotAddr 1) 256) true = false) := by decide +kernel
theorem witness_train : let d := stage 5
    (List.range 5).all (fun c => d.smState c != 4) = true ∧ (List.range 4).all (fun l => d.smPhys l == l) = true := by decide +kernel
theorem witness_ledger : (stage 5).ledgerNewest = none := by decide +kernel
theorem witness_warm_reset : let d : Dev := { bo := { warmReq := true } }
    d.bo.warmReq = true ∧ d.powerMode = 0 ∧ d.devState ≠ 3 ∧ (List.range 64).any d.waiting = false
      ∧ (List.range 4).all (fun k => !d.on (R.CG_GRANT k) F.CG_GRANT_valid) = true
      ∧ (List.range 64).any ({ request 1 0 with bo := { warmReq := true } } : Dev).waiting = true := by decide +kernel

theorem bytes_put_self (bs : List Byte) (d : Dev) (a : Nat) : (d.put a bs).bytes a bs.length = bs := by
  have go : ∀ (bs : List Byte) (m : List Host.Cell) (a : Nat) (e : Dev), e.mem = Memory.writes m a bs → e.bytes a bs.length = bs := by
    intro bs
    induction bs with
    | nil => intros; rfl
    | cons b r ih =>
      intro m a e he
      have hb : e.byte a = b := by
        show Memory.read e.mem a = b
        rw [he]; show Memory.read (Memory.writes (Memory.write m a b) (a + 1) r) a = b
        rw [Memory.read_writes_other _ _ _ (Or.inl (Nat.lt_succ_self a)), Memory.read_write_self]
      show e.byte a :: e.bytes (a + 1) r.length = b :: r
      rw [hb, ih (Memory.write m a b) (a + 1) e he]
  exact go bs d.mem a _ rfl
theorem bytes_put_beside (bs : List Byte) (d : Dev) (a b n : Nat) (h : b + n ≤ a) : (d.put a bs).bytes b n = d.bytes b n := by
  induction n generalizing b with
  | zero => rfl
  | succ n ih =>
    show (d.put a bs).byte b :: _ = d.byte b :: _
    rw [ih (b + 1) (by omega)]
    exact congrArg (· :: _) (Memory.read_writes_other _ _ _ (Or.inl (by omega)))
theorem crcStep_lt (p c : Nat) (hp : p < 2 ^ 32) (h : c < 2 ^ 32) : crcStep p c < 2 ^ 32 := by
  unfold crcStep
  split
  · exact Nat.xor_lt_two_pow (by omega) hp
  · omega
theorem crc32c_lt (l : List Byte) : crc32c l < 2 ^ 32 := by
  refine Nat.xor_lt_two_pow ?_ (by decide)
  have go : ∀ (l : List Byte) (c : Nat), c < 2 ^ 32 → l.foldl (crcByte 0x82F63B78) c < 2 ^ 32 := by
    intro l
    induction l with
    | nil => intro c h; exact h
    | cons b r ih =>
      intro c h
      refine ih _ ?_
      have hb : c ^^^ b.toNat < 2 ^ 32 := Nat.xor_lt_two_pow h (by have := b.isLt; omega)
      have hp : 0x82F63B78 < 2 ^ 32 := by decide
      unfold crcByte
      iterate 8 apply crcStep_lt _ _ hp
      exact hb
  exact go l _ (by decide)
theorem leNat_leBytes_four (x : Nat) (h : x < 2 ^ 32) : leNat (leBytes 4 x) = x := by
  simp only [leBytes, leNat, BitVec.toNat_ofNat]
  omega
/-- A calibration set with its CRC is good (R461), whatever its first 8,188 bytes are. -/
theorem witness_calibration (l : List Byte) (hl : l.length = 8188) : ∃ d : Dev, d.stage = 3
    ∧ (let v := d.bytes calValue 8192
       leNat (v.drop 8188) = crc32c (v.take 8188) ∧ v = (d.bytes calComp 8192).map (fun b => ~~~ b)) := by
  have hn : (l ++ leBytes 4 (crc32c l)).length = 8192 := by rw [List.length_append, hl]; rfl
  have hd : (l ++ leBytes 4 (crc32c l)).drop 8188 = leBytes 4 (crc32c l) := List.drop_left' hl
  have ht : (l ++ leBytes 4 (crc32c l)).take 8188 = l := List.take_left' hl
  generalize hv : l ++ leBytes 4 (crc32c l) = v at hn hd ht
  have h1 := bytes_put_self v (stage 3) calValue
  have h2 := bytes_put_self (v.map (fun b => ~~~ b)) ((stage 3).put calValue v) calComp
  rw [List.length_map, hn] at h2
  rw [hn] at h1
  refine ⟨((stage 3).put calValue v).put calComp (v.map (fun b => ~~~ b)), ?_, ?_⟩
  · show (stage 3).stage = 3
    decide +kernel
  · simp only []
    rw [bytes_put_beside _ _ _ _ _ (by decide), h1, h2, hd, ht, List.map_map]
    exact ⟨leNat_leBytes_four _ (crc32c_lt l), (List.map_id'' (fun b => by simp) v).symm⟩
theorem witness_calibration_set : ∃ d : Dev, d.stage = 3
    ∧ (let v := d.bytes calValue 8192
       leNat (v.drop 8188) = crc32c (v.take 8188) ∧ v = (d.bytes calComp 8192).map (fun b => ~~~ b)) :=
  witness_calibration (List.replicate 8188 0) List.length_replicate
theorem witness_invariant : ({ dev := { mem := [(1, 1)] }, pending := [.cageNop 0] } : State).Inv := by
  unfold State.Inv
  decide +kernel

/-! ## Steps worked out from the spec's examples and rules -/

/-- 0xFFFFFFFF + 2 = 1 with a carry and no signed overflow (R184). -/
theorem test_add_wraps : after (.add 0 0 1) (one 0 (regs (word 0x0001) [0xFFFFFFFF, 2])) (fun d => let t := d.thr 0; (t.g[0], t.c, t.v, t.z, t.n))
    = some (1, true, false, false, false) := by decide +kernel
/-- Chapter 8's example, word A+2: 16 − 2, which needs no borrow. -/
theorem test_addi_negative : after (.addi 0 6 62) (one 0 (regs (word 0x11BE) [0, 0, 0, 0, 0, 0, 16])) (fun d => let t := d.thr 0; (t.g[6], t.c, t.z))
    = some (14, true, false) := by decide +kernel
/-- Chapter 8's example, step 5: the address wraps from byte 316 of 320 to the base. -/
theorem test_ldw_modulo :
    after (.ldw 0 5 12) (one 0 { regs (word 0x225C) [0, 0, 0, 0, 0, 0, 0, 0, 0, 0, 0, 0, 0x20413C] with
      agm := 14, agmLive := 14, ab0 := 0x204000, al0 := 320, as0 := 4 }) (fun d => (d.thr 0).g[12]) = some 0x204000 := by decide +kernel
/-- Chapter 8's example, step 6: the offset goes from 16 to 48 in bit-reversed order. -/
theorem test_stw_bit_reversed :
    after (.stw 0 4 13) (one 0 { regs (word 0x264D) [0, 0, 0, 0, 0, 0, 0, 0, 0, 0, 0, 0, 0, 0x206010] with
      agm := 14, agmLive := 14, ab1 := 0x206000, al1 := 64, as1 := 32 }) (fun d => (d.thr 0).g[13]) = some 0x206030 := by decide +kernel
/-- Chapter 8's example, word A+5: BNZ goes back six words. -/
theorem test_bnz : after (.bcc 0 2 58) (one 0 { word 0x28BA with pc := 5 }) (fun d => (d.thr 0).pc) = some 0
    ∧ after (.bcc 0 2 58) (one 0 { word 0x28BA with pc := 5, z := true }) (fun d => (d.thr 0).pc) = some 6 := by decide +kernel
/-- The words of another command do not run: the thread stays as it was. -/
theorem test_other_word : after (.sub 0 0 1) (one 0 (regs (word 0x0001) [5, 2])) (fun d => (d.thr 0).g[0]) = some 5 := by decide +kernel
/-- The check value of CRC-32C. -/
theorem test_crc32c : crc32c [0x31, 0x32, 0x33, 0x34, 0x35, 0x36, 0x37, 0x38, 0x39] = 0xE3069283 := by decide +kernel

/-- Chapter 17's example: the 40 bytes that configure port 12. -/
def example17 : List Byte := [0x01, 0x01, 0x37, 0x00, 0x18, 0x00, 0x00, 0x00, 0xFE, 0xFE, 0xC8, 0xFF, 0xE7, 0xFF, 0xFF, 0xFF,
  0x0C, 0, 0, 0, 0, 0, 0, 0, 0x91, 0x10, 0x14, 0, 0, 0, 0, 0, 0x14, 0, 0x05, 0, 0, 0, 0, 0]
def asked17 : Dev := holds { live with devState := 1 } (2 ^ 32 + 0x100) example17
theorem test_doorbell : after (.cageDoorbell (.host 0 false) 0 1) asked17 (fun d => (d.on (R.CG_STAT 0) F.CG_STAT_busy, d.rd (R.CG_STAT 0) F.CG_STAT_tag))
    = some (true, 0x37) := by decide +kernel
/-- Step 5 of the example: the reply's header, and the two registers written. -/
theorem test_port_config : after (.portConfig 0) (asked17.wr (R.CG_STAT 0) F.CG_STAT_busy 1)
    (fun d => (d.bytes (2 ^ 32 + 0x900) 16, d.rget (R.PT_PCFG 12), d.rget (R.PT_TMR 12), d.on (R.CG_STAT 0) F.CG_STAT_busy))
    = some ([0x01, 0x01, 0x37, 0x01, 0, 0, 0, 0, 0xFE, 0xFE, 0xC8, 0xFE, 0xFF, 0xFF, 0xFF, 0xFF], 0x141091, 0x50014, false) := by decide +kernel
/-- The addresses the example gives. -/
theorem test_addresses : (R.PT_PCFG 12).addr = 0x330000 ∧ (R.PT_TMR 12).addr = 0x330010 := by decide
/-- R48: a frame of 64 bytes that a port receives in UP is held in the block. -/
theorem test_frame_receive : after (.frameReceive 31 (List.replicate 64 0) none) (up live 31) (fun d => d.frames.map (fun e => (e.2.inPort, e.2.data.length)))
    = some [(31, 64)] := by decide +kernel
/-- R4: a write at the expert level without a grant changes nothing; with one it lands. -/
theorem test_expert_write :
    let a := (R.CK_ISLCFG 25).addr
    after (.registerWrite (.host 0 false) 0x200190 4 300) live (fun d => d.rget (R.CK_ISLCFG 25)) = some (R.CK_ISLCFG 25).reset ∧ a = 0x200190
      ∧ after (.registerWrite .overman 0x200190 4 300) live (fun d => d.rd (R.CK_ISLCFG 25) F.CK_ISLCFG_freq_req) = some 300 := by decide +kernel
end Sys2Proof.Tests
end

/-! ## Station time and short stamps (R10, R11) -/
section
namespace Sys2Proof.Machine

theorem nsOf_lt (t : Nat) : nsOf t < 1000000000 := by
  unfold nsOf unitsPerSec
  omega

theorem fracOf_lt (t : Nat) : fracOf t < 65536 := Nat.mod_lt _ (by decide)

/-! ### An instant from its parts -/

section Parts
variable (s : Nat) {n f : Nat} (hn : n < 1000000000) (hf : f < 65536)
include hn hf

theorem secOf_parts : secOf (s * unitsPerSec + nsU n + f) = s := by
  unfold secOf unitsPerSec nsU
  omega

theorem nsOf_parts : nsOf (s * unitsPerSec + nsU n + f) = n := by
  unfold nsOf unitsPerSec nsU
  omega

omit hn in
theorem fracOf_parts : fracOf (s * unitsPerSec + nsU n + f) = f := by
  unfold fracOf unitsPerSec nsU
  omega

end Parts

/-! ### Whole seconds move the seconds alone -/

theorem secOf_add_seconds (t k : Nat) : secOf (t + k * unitsPerSec) = secOf t + k :=
  Nat.add_mul_div_right t k (by decide)

theorem nsOf_add_seconds (t k : Nat) : nsOf (t + k * unitsPerSec) = nsOf t := by
  unfold nsOf
  rw [Nat.add_mul_mod_self_right]

theorem fracOf_add_seconds (t k : Nat) : fracOf (t + k * unitsPerSec) = fracOf t := by
  unfold fracOf unitsPerSec
  omega

/-! ### The fields of the 96 bits that R11 keeps -/

theorem time96_sec_low (t : Nat) : bitsOf (time96 t) 48 24 = secOf t % 2 ^ 24 := by
  have hn := nsOf_lt t
  have hf := fracOf_lt t
  rw [bitsOf_eq, time96]
  omega

theorem time96_ns (t : Nat) : bitsOf (time96 t) 16 30 = nsOf t := by
  have hn := nsOf_lt t
  have hf := fracOf_lt t
  rw [bitsOf_eq, time96]
  omega

theorem time96_quarter (t : Nat) : bitsOf (time96 t) 14 2 = fracOf t / 16384 := by
  have hf := fracOf_lt t
  rw [bitsOf_eq, time96]
  omega

/-! ### The fields of the short stamp -/

theorem stampOf_lt (t : Nat) : stampOf t < 2 ^ 56 := by
  have hn := nsOf_lt t
  have hf := fracOf_lt t
  unfold stampOf
  omega

theorem stampOf_sec (t : Nat) : bitsOf (stampOf t) 32 24 = secOf t % 2 ^ 24 := by
  have hn := nsOf_lt t
  have hf := fracOf_lt t
  rw [bitsOf_eq, stampOf]
  omega

theorem stampOf_ns (t : Nat) : bitsOf (stampOf t) 2 30 = nsOf t := by
  have hn := nsOf_lt t
  have hf := fracOf_lt t
  rw [bitsOf_eq, stampOf]
  omega

theorem stampOf_quarter (t : Nat) : bitsOf (stampOf t) 0 2 = fracOf t / 16384 := by
  have hf := fracOf_lt t
  rw [bitsOf_eq, stampOf]
  omega

/-- R11's wrap: the stamp holds the seconds modulo 2^24. -/
theorem stampOf_add_wrap (t : Nat) : stampOf (t + 16777216 * unitsPerSec) = stampOf t := by
  unfold stampOf
  have hwrap : (secOf t + 16777216) % 2 ^ 24 = secOf t % 2 ^ 24 := Nat.add_mod_right _ _
  rw [secOf_add_seconds, nsOf_add_seconds, fracOf_add_seconds, hwrap]

/-- Settles O30: each field of the stamp and the bits of station time that R11 names are the same part of the instant;
R11's example is an instant given by its parts. -/
theorem shortStamp : Obligations.ShortStamp := by
  refine ⟨fun t _ => ⟨stampOf_lt t, ?_, ?_, ?_, stampOf_add_wrap t⟩, ?_, ?_, ?_⟩
  · exact (stampOf_sec t).trans (time96_sec_low t).symm
  · exact (stampOf_ns t).trans (time96_ns t).symm
  · exact (stampOf_quarter t).trans (time96_quarter t).symm
  · rw [stampOf_sec, secOf_parts _ (by decide) (by decide)]
    decide
  · rw [stampOf_ns, nsOf_parts _ (by decide) (by decide)]
  · rw [stampOf_quarter, fracOf_parts _ (by decide)]

end Sys2Proof.Machine
end

/-! ## The conditional branch (R184, R185) -/
section
namespace Sys2Proof.Machine

/-! ### A bundle that changes its thread in nothing but where it goes on -/

/-- The scoreboard that stalls an issue holds no bit for TSW: its results come with the cycles alone (R181). -/
theorem Dev.issues_tsw (d : Dev) (k mask pat cost : Nat) (x : Bool) :
    d.issues k mask pat cost [tswReg] x = d.issues k mask pat cost [] x := rfl

theorem imemAddr_mod (g c w : Nat) : imemAddr g c (w % 2 ^ 14) = imemAddr g c w := by
  simp only [imemAddr, Nat.mod_mod]

theorem Dev.imem_mod (d : Dev) (k w : Nat) : d.imem k (w % 2 ^ 14) = d.imem k w := by
  simp only [Dev.imem, imemAddr_mod]

/-- The program counter is 14 bits wide (R185). -/
theorem Retires.congr_pc {c : Instr} {d : Dev} {k cost pc pc' : Nat} {f : Thread → Thread} (h : Retires c d k cost pc f)
    (hpc : pc % 2 ^ 14 = pc' % 2 ^ 14) : Retires c d k cost pc' f := by
  have hw : d.imem k pc = d.imem k pc' := by rw [← d.imem_mod k pc, hpc, d.imem_mod]
  have hp : BitVec.ofNat 14 pc = BitVec.ofNat 14 pc' := BitVec.eq_of_toNat_eq (by simpa using hpc)
  unfold Retires at h ⊢
  rwa [hw, hp] at h

section Bundle
variable {c : Instr} {d : Dev} {k mask pat cost : Nat} {rs : List Nat} {x : Bool} {body : Thread → Dev → Act}
  (hc : Does c d (d.issue k mask pat cost rs x body)) (h : d.issues k mask pat cost rs x = true)
include hc h

/-- A body that leaves the device as the issue left it goes on at the next word. -/
theorem retires_next (hb : body (d.thr k) (d.begun k cost rs) = .go (d.begun k cost rs)) :
    Retires c d k cost ((d.thr k).pc.toNat + 1) (fun t => t) := by
  rw [Dev.issue_eq body h, hb] at hc
  obtain ⟨st, hf, b, l, fb, ht⟩ := Dev.begun_thr d k cost rs
  exact retires_of_run hc (IssueFrame.refl _ _) (by rw [ht]) (by rw [ht]) (by rw [ht]) (by rw [ht]; rfl)

/-- A body that only jumps changes nothing but where the thread goes on. -/
theorem retires_elsewhere {pc : Nat} (hb : body (d.thr k) (d.begun k cost rs) = .jump (d.begun k cost rs) pc) :
    Retires c d k cost pc (fun t => t) := by
  rw [Dev.issue_eq body h, hb] at hc
  obtain ⟨st, hf, b, l, fb, ht⟩ := Dev.begun_thr d k cost rs
  refine retires_of_run hc (IssueFrame.modThr _ _) ?_ ?_ ?_ ?_ <;> rw [Dev.refetch, Dev.thr_modThr_self]
  · exact (IssueFrame.begun d k cost rs).imem k pc
  · rw [ht]
  · rw [ht]; rfl

/-- A body that finds its instruction illegal stops the thread as it was before the issue (R165). -/
theorem does_faultThread_illegal {detail : Nat} (hb : body (d.thr k) (d.begun k cost rs) = .fault 1 detail) :
    Does c d (d.faultThread k 1 detail (d.thr k).pc.toNat) := by
  rwa [Dev.issue_eq body h, hb] at hc

end Bundle

/-! ### The conditions and the branch (R185) -/

/-- R185's table by code, 0 to 14. -/
def Thread.conditions (t : Thread) : List Bool :=
  [true, t.z, !t.z, t.n, !t.n, t.v, !t.v, t.c, !t.c, t.c && !t.z, !t.c || t.z, t.n == t.v, !(t.n == t.v),
   !t.z && t.n == t.v, t.z || !(t.n == t.v)]

theorem Thread.conditions_eq (t : Thread) : t.conditions = (List.range 15).map t.cond := rfl

theorem Thread.conditions_getElem? (t : Thread) (i : Nat) (b : Bool) :
    t.conditions[i]? = some b ↔ i < 15 ∧ t.cond i = b := by
  simp [t.conditions_eq, List.getElem?_eq_some_iff]

/-- What a Bcc that issues comes to. -/
def bccAct (k : Nat) (cond : Fin 16) (off : Fin 64) (t0 : Thread) (d : Dev) : Act :=
  if cond.val = 15 then .fault 1 t0.fetched.toNat
  else if t0.cond cond then .jump d (((d.thr k).pc.toNat + (t0.imm 6 off).toNat) % 2 ^ 14)
  else .go d

theorem bcc_does (d : Dev) (k : Fin 1664) (cond : Fin 16) (off : Fin 64) :
    Does (.bcc k cond off) d (d.issue k 0x3FFF (0x2800 + cond * 64 + off) 2 [tswReg] true (bccAct k cond off)) :=
  fun _ => rfl

theorem Dev.begun_pc (d : Dev) (k cost : Nat) (rs : List Nat) :
    ((d.begun k cost rs).thr k).pc.toNat = ((d.thr k).pc.toNat + 1) % 2 ^ 14 := by
  obtain ⟨st, hf, b, l, fb, ht⟩ := d.begun_thr k cost rs
  rw [ht, BitVec.toNat_ofNat]

section Branch
variable {d : Dev} {k : Fin 1664} {cond : Fin 16} {off : Fin 64}
  (h : d.issues k 0x3FFF (0x2800 + cond * 64 + off) 2 [tswReg] true = true)
include h

theorem bcc_taken (hc : cond.val < 15) (ht : (d.thr k).cond cond = true) :
    Retires (.bcc k cond off) d k 2 ((d.thr k).pc.toNat + 1 + ((d.thr k).imm 6 off).toNat) (fun t => t) := by
  refine (retires_elsewhere (bcc_does d k cond off) h (by rw [bccAct, if_neg hc.ne, if_pos ht])).congr_pc ?_
  rw [Dev.begun_pc, Nat.mod_mod, Nat.mod_add_mod]

theorem bcc_untaken (hc : cond.val < 15) (ht : (d.thr k).cond cond = false) :
    Retires (.bcc k cond off) d k 2 ((d.thr k).pc.toNat + 1) (fun t => t) :=
  retires_next (bcc_does d k cond off) h (by rw [bccAct, if_neg hc.ne, if_neg (by simp [ht])])

theorem bcc_reserved (hc : cond.val = 15) :
    Does (.bcc k cond off) d (d.faultThread k 1 (d.thr k).fetched.toNat (d.thr k).pc.toNat) :=
  does_faultThread_illegal (bcc_does d k cond off) h (by rw [bccAct, if_pos hc])

end Branch

/-! ### The conditions after a compare (R184, R185) -/

/-- The sign of a difference is that of the exact difference unless this overflows. -/
theorem msb_sub_beq_overflows (a b : Word32) :
    ((a - b).msb == overflows (a.toInt - b.toInt)) = decide (b.toInt ≤ a.toInt) := by
  have ha := a.toInt_lt
  have ha' := a.le_toInt
  have hb := b.toInt_lt
  have hb' := b.le_toInt
  rw [Bool.beq_eq_decide_eq, decide_eq_decide, BitVec.msb_eq_toInt, overflows, BitVec.toInt_sub, Int.bmod_def, Bool.eq_iff_iff]
  simp only [Bool.or_eq_true, decide_eq_true_eq]
  omega

/-- A thread with the flags of `a` less `b` as R184 gives them. -/
def Thread.compared (t : Thread) (a b : Word32) : Thread :=
  t.flags (a == b) (a - b).msb (decide (b.toNat ≤ a.toNat)) (overflows (a.toInt - b.toInt))

section Compared
variable (t : Thread) (a b : Word32)

theorem Thread.compared_z : (t.compared a b).z = decide (a = b) := Bool.beq_eq_decide_eq a b

theorem Thread.compared_c : (t.compared a b).c = decide (b.toNat ≤ a.toNat) := rfl

theorem Thread.compared_n_beq_v : ((t.compared a b).n == (t.compared a b).v) = decide (b.toInt ≤ a.toInt) :=
  msb_sub_beq_overflows a b

/-- The U conditions are unsigned. -/
theorem Thread.compared_unsigned :
    (t.compared a b).cond 7 = decide (b.toNat ≤ a.toNat) ∧ (t.compared a b).cond 8 = decide (a.toNat < b.toNat)
      ∧ (t.compared a b).cond 9 = decide (b.toNat < a.toNat) ∧ (t.compared a b).cond 10 = decide (a.toNat ≤ b.toNat) := by
  simp only [Thread.cond, compared_z, compared_c, ← BitVec.toNat_inj, ← decide_not, ← Bool.decide_and,
    ← Bool.decide_or, decide_eq_decide]
  exact ⟨trivial, Nat.not_le, by omega, by omega⟩

/-- The S conditions are signed. -/
theorem Thread.compared_signed :
    (t.compared a b).cond 11 = decide (b.toInt ≤ a.toInt) ∧ (t.compared a b).cond 12 = decide (a.toInt < b.toInt)
      ∧ (t.compared a b).cond 13 = decide (b.toInt < a.toInt) ∧ (t.compared a b).cond 14 = decide (a.toInt ≤ b.toInt) := by
  simp only [Thread.cond, bne, compared_z, compared_n_beq_v, ← BitVec.toInt_inj, ← decide_not, ← Bool.decide_and,
    ← Bool.decide_or, decide_eq_decide]
  exact ⟨trivial, Int.not_le, by omega, by omega⟩

end Compared

/-- Settles O7: a condition of R185's table decides between the branch's two ways on; after a compare c says that no borrow is
needed, and n = v that the exact difference is not negative. -/
theorem branchConditions : Obligations.BranchConditions := by
  refine ⟨fun d k cond off h => ?_, fun t a b => ?_⟩
  · rw [← Dev.issues_tsw] at h
    refine ⟨fun b hb => ?_, bcc_reserved h⟩
    obtain ⟨hc, ht⟩ := ((d.thr k).conditions_getElem? cond b).1 hb
    cases b with
    | true => exact bcc_taken h hc ht
    | false => exact bcc_untaken h hc ht
  · obtain ⟨h7, h8, h9, h10⟩ := t.compared_unsigned a b
    exact ⟨t.compared_z a b, h7, h8, h9, h10, t.compared_signed a b⟩

end Sys2Proof.Machine
end

/-! ## Self-checked copies (R405) -/
section
namespace Sys2Proof.Machine

/-- A command whose effect turns on a condition has, in each case, that case's effect. -/
theorem does_of_ite {c : Instr} {d a b : Dev} {p : Prop} [Decidable p] (h : Does c d (if p then a else b)) :
    (p → Does c d a) ∧ (¬p → Does c d b) :=
  ⟨fun hp => by rwa [if_pos hp] at h, fun hp => by rwa [if_neg hp] at h⟩

theorem selfCheckFail_draughtCopy_does (d : Dev) : Does (.selfCheckFail .draughtCopy) d
    (if d.rl.draughtLost = 0 then { d with rl := { d.rl with draughtLost := 1 } }
      else ({ d with rl := { d.rl with draughtLost := 2 } } : Dev).deviceFault F.RL_FAULT_central) :=
  fun _ => rfl

theorem selfCheckFail_tokenCopy_does (d : Dev) : Does (.selfCheckFail .tokenCopy) d
    (if d.rl.tokenLost = 0 then { d with rl := { d.rl with tokenLost := 1 } }
      else ({ d with rl := { d.rl with tokenLost := 2 } } : Dev).deviceFault F.RL_FAULT_central) :=
  fun _ => rfl

/-- Settles O35: a copy's failed check turns on whether the unit has lost a copy before. -/
theorem selfCheckedCopies : Obligations.SelfCheckedCopies := by
  intro d
  obtain ⟨draughtFirst, draughtSecond⟩ := does_of_ite (selfCheckFail_draughtCopy_does d)
  obtain ⟨tokenFirst, tokenSecond⟩ := does_of_ite (selfCheckFail_tokenCopy_does d)
  exact ⟨draughtFirst, tokenFirst, draughtSecond, tokenSecond⟩

end Sys2Proof.Machine
end

/-! ## Accesses that the service bus turns away (R508, R509, R512) -/
section
namespace Sys2Proof.Machine

/-! ### The two ranges that hold nothing (R508) -/

/-- No register begins in the seven bytes before either range, so that none reaches into it. -/
theorem findReg_before_emptyRange :
    ∀ k < 7, findReg (0x13FFFF9 + k) = none ∧ findReg (0x2CFFFF9 + k) = none := by
  decide

section EmptyRange
variable {a : Nat} (h : 0x1400000 ≤ a ∧ a ≤ 0x1FFFFFF ∨ 0x2D00000 ≤ a ∧ a ≤ 0x3FFFFFF)
include h

theorem areaOf_emptyRange : areaOf a = none := by
  simp only [areaOf, Bool.and_eq_true, decide_eq_true_eq]
  iterate 10 rw [if_neg (by omega)]

theorem blockOf_emptyRange : blockOf a = 0x30 := by
  simp only [blockOf, Bool.and_eq_true, decide_eq_true_eq]
  iterate 3 rw [if_neg (by omega)]

end EmptyRange

theorem findReg_near_emptyRange {b : Nat} (h : 0x13FFFF9 ≤ b ∧ b ≤ 0x1FFFFFF ∨ 0x2CFFFF9 ≤ b ∧ b ≤ 0x3FFFFFF) :
    findReg b = none := by
  by_cases hfirst : b < 0x1400000
  · obtain ⟨k, rfl⟩ := Nat.exists_eq_add_of_le (show 0x13FFFF9 ≤ b by omega)
    exact (findReg_before_emptyRange k (by omega)).1
  by_cases hsecond : 0x2CFFFF9 ≤ b ∧ b < 0x2D00000
  · obtain ⟨k, rfl⟩ := Nat.exists_eq_add_of_le hsecond.1
    exact (findReg_before_emptyRange k (by omega)).2
  · have hblock : blockOf b = 0x30 := blockOf_emptyRange (by omega)
    simp only [findReg, hblock, blockRegs, List.findSome?_nil]

/-- A register is at most eight bytes wide, so only one that begins in the eight bytes up to `a` can hold `a`. -/
theorem inReg_eq_none {a : Nat} (h : ∀ i < 8, findReg (a - i) = none) : inReg a = none := by
  refine List.findSome?_eq_none_iff.2 fun i hi => ?_
  rw [h i (List.mem_range.1 hi), Option.bind_none, ite_self]

theorem inReg_emptyRange {a : Nat} (h : 0x1400000 ≤ a ∧ a ≤ 0x1FFFFFF ∨ 0x2D00000 ≤ a ∧ a ≤ 0x3FFFFFF) : inReg a = none :=
  inReg_eq_none fun _ _ => findReg_near_emptyRange (by omega)

/-! ### The bus turns an access away -/

section Unmapped
variable {d : Dev} {src : Src} {a : Nat} (size : Nat) (hpath : d.path src a = .go) (harea : areaOf a = none) (hreg : inReg a = none)

include harea hreg in
theorem Dev.turnsAway_unmapped : d.turnsAway a size = true := by
  simp only [Dev.turnsAway, harea, hreg]

include hpath harea hreg

theorem Dev.busWrite_unmapped (v : Word64) (pass : Bool) :
    d.busWrite src a size v pass = d.busErr src a F.SY_BUSERR_unmapped := by
  simp only [Dev.busWrite, hpath, harea, hreg]

theorem Dev.busRead_unmapped : d.busRead src a size = (d.busErr src a F.SY_BUSERR_unmapped).out (.data (srcCode src) 0) := by
  simp only [Dev.busRead, hpath, harea, hreg, Nat.zero_mod, BitVec.ofNat_eq_ofNat]

end Unmapped

section Register
variable {d : Dev} {src : Src} {a size off : Nat} {id : RegId} {ix : List Nat} (hpath : d.path src a = .go)
  (harea : areaOf a = none) (hreg : inReg a = some ((id, ix), off))

include harea hreg in
theorem Dev.turnsAway_register : d.turnsAway a size = (!d.reachable a || !regAccess id off size) := by
  simp only [Dev.turnsAway, harea, hreg]

include hpath harea hreg

theorem Dev.busWrite_fenced (hf : d.reachable a = false) (v : Word64) (pass : Bool) :
    d.busWrite src a size v pass = d.busErr src a F.SY_BUSERR_fenced := by
  simp only [Dev.busWrite, hpath, harea, hreg, hf, Bool.not_false, if_true]

theorem Dev.busRead_fenced (hf : d.reachable a = false) :
    d.busRead src a size = (d.busErr src a F.SY_BUSERR_fenced).out (.data (srcCode src) 0) := by
  simp only [Dev.busRead, hpath, harea, hreg, hf, Bool.not_false, if_true, Nat.zero_mod, BitVec.ofNat_eq_ofNat]

variable (hr : d.reachable a = true) (hw : regAccess id off size = false)
include hr hw

theorem Dev.busWrite_width (hid : id ≠ .PT_TSDLY) (v : Word64) (pass : Bool) :
    d.busWrite src a size v pass = d.busErr src a F.SY_BUSERR_width := by
  simp only [Dev.busWrite, hpath, harea, hreg, hr, hw, Bool.not_true, Bool.false_eq_true, if_false]

/-- R5 counts a narrow write to the paired register besides. -/
theorem Dev.busWrite_width_paired (hid : id = .PT_TSDLY) (v : Word64) (pass : Bool) :
    d.busWrite src a size v pass = (d.busErr src a F.SY_BUSERR_width).rwpRefuse src (regOf id ix).addr := by
  subst hid
  simp only [Dev.busWrite, hpath, harea, hreg, hr, hw, Bool.not_true, Bool.false_eq_true, if_false]

theorem Dev.busRead_width :
    d.busRead src a size = (d.busErr src a F.SY_BUSERR_width).out (.data (srcCode src) 0) := by
  simp only [Dev.busRead, hpath, harea, hreg, hr, hw, Bool.not_true, Bool.false_eq_true, if_false, Nat.zero_mod, BitVec.ofNat_eq_ofNat]

end Register

/-! ### The commands -/

theorem exec_unmappedAccess (src : Src) (a : Fin 4296015872) (size : Fin 9) (v : Option Word64) (s : State) :
    exec (.unmappedAccess src a size v) s = execUnmappedAccess src a size v s := rfl

section Commands
variable (d : Dev) (src : Src) (a : Fin 4296015872) (size : Fin 9) (v : Word64)

theorem registerWrite_does : Does (.registerWrite src a size v) d (d.busWrite src a size v true) := fun _ => rfl

theorem rcRead_does : Does (.rcRead src a size) d (d.busRead src a size) := fun _ => rfl

variable {d a size} (h : d.turnsAway a size = true)
include h

theorem unmappedAccess_write_does : Does (.unmappedAccess src a size (some v)) d (d.busWrite src a size v true) := by
  intro q
  simp only [exec_unmappedAccess, execUnmappedAccess, State.go, h, Bool.not_true, Bool.false_eq_true, if_false]

theorem unmappedAccess_read_does : Does (.unmappedAccess src a size none) d (d.busRead src a size) := by
  intro q
  simp only [exec_unmappedAccess, execUnmappedAccess, State.go, h, Bool.not_true, Bool.false_eq_true, if_false]

end Commands

/-- Settles O43: whether an access is turned away, and what counts it, is decided by what lies at its address, then by the
island, then by the width (log entry 105). -/
theorem misaddressedAccess : Obligations.MisaddressedAccess := by
  refine ⟨fun d src a size v hpath harea hreg => ?_, fun a h => ⟨areaOf_emptyRange h, inReg_emptyRange h⟩,
    fun d src a size v id ix off hpath harea hreg => ?_⟩
  · have hturned := d.turnsAway_unmapped size harea hreg
    have hwrite := Dev.busWrite_unmapped size hpath harea hreg v true
    have hread := Dev.busRead_unmapped size hpath harea hreg
    exact ⟨hwrite ▸ unmappedAccess_write_does src v hturned, hwrite ▸ registerWrite_does d src a size v,
      hread ▸ unmappedAccess_read_does src hturned, hread ▸ rcRead_does d src a size⟩
  · have hfenced (hf : d.reachable a = false) : d.turnsAway a size = true := by
      rw [Dev.turnsAway_register harea hreg, hf, Bool.not_false, Bool.true_or]
    have hwidth (hw : regAccess id off size = false) : d.turnsAway a size = true := by
      rw [Dev.turnsAway_register harea hreg, hw, Bool.not_false, Bool.or_true]
    refine ⟨fun hf => ⟨?_, ?_⟩, fun hr hw hid => ?_, fun hr hw hid => ?_, fun hr hw => ?_⟩
    · exact Dev.busWrite_fenced hpath harea hreg hf v true ▸ unmappedAccess_write_does src v (hfenced hf)
    · exact Dev.busRead_fenced hpath harea hreg hf ▸ unmappedAccess_read_does src (hfenced hf)
    · exact Dev.busWrite_width hpath harea hreg hr hw hid v true ▸ unmappedAccess_write_does src v (hwidth hw)
    · exact Dev.busWrite_width_paired hpath harea hreg hr hw hid v true ▸ unmappedAccess_write_does src v (hwidth hw)
    · exact Dev.busRead_width hpath harea hreg hr hw ▸ unmappedAccess_read_does src (hwidth hw)

end Sys2Proof.Machine
end

/-! ## Every step keeps memory's canonical form -/
section
namespace Sys2Proof.Machine

/-- Every command keeps the canonical form, each by the law of its own meaning. -/
theorem exec_memOk (c : Instr) (s : State) (hm : Memory.wf s.dev.mem = true) : Outc.memOk (exec c s) :=
  match c with
  | .registerWrite src a size v => execRegisterWrite_memOk src a size v s hm
  | .rcRead src a size => execRcRead_memOk src a size s hm
  | .ptTsdlyWrite src p size v => execPtTsdlyWrite_memOk src p size v s hm
  | .unmappedAccess src a size v => execUnmappedAccess_memOk src a size v s hm
  | .tbNowLoRead src => execTbNowLoRead_memOk src s hm
  | .glFrec2Read src g => execGlFrec2Read_memOk src g s hm
  | .ldAnq1Read src => execLdAnq1Read_memOk src s hm
  | .tkRrec1Read src => execTkRrec1Read_memOk src s hm
  | .coldReset => execColdReset_memOk s hm
  | .strapSample bootSel lullEn => execStrapSample_memOk bootSel lullEn s hm
  | .startupStageEnd e => execStartupStageEnd_memOk e s hm
  | .stageTimeout => execStageTimeout_memOk s hm
  | .warmResetBegin => execWarmResetBegin_memOk s hm
  | .perstNAssert => execPerstNAssert_memOk s hm
  | .perstNRelease => execPerstNRelease_memOk s hm
  | .flr fn => execFlr_memOk fn s hm
  | .frameReceive p data sec => execFrameReceive_memOk p data sec s hm
  | .pipeAccept p => execPipeAccept_memOk p s hm
  | .bodyComplete h => execBodyComplete_memOk h s hm
  | .parseStart p a => execParseStart_memOk p a s hm
  | .assayExt p a => execAssayExt_memOk p a s hm
  | .ldr p a => execLdr_memOk p a s hm
  | .advi p a => execAdvi_memOk p a s hm
  | .advr p a => execAdvr_memOk p a s hm
  | .beq p a => execBeq_memOk p a s hm
  | .bne p a => execBne_memOk p a s hm
  | .bset p a => execBset_memOk p a s hm
  | .jmp p a => execJmp_memOk p a s hm
  | .setb p a => execSetb_memOk p a s hm
  | .putr p a => execPutr_memOk p a s hm
  | .keyp p a => execKeyp_memOk p a s hm
  | .hdr p a => execHdr_memOk p a s hm
  | .ldm p a => execLdm_memOk p a s hm
  | .done p a => execDone_memOk p a s hm
  | .fail p a => execFail_memOk p a s hm
  | .parseOverrun p a => execParseOverrun_memOk p a s hm
  | .tubIssue p => execTubIssue_memOk p s hm
  | .exceptionDeliver h => execExceptionDeliver_memOk h s hm
  | .excTokenCredit => execExcTokenCredit_memOk s hm
  | .commitEffect p => execCommitEffect_memOk p s hm
  | .stagingCopyDone => execStagingCopyDone_memOk s hm
  | .eddyEnqueue => execEddyEnqueue_memOk s hm
  | .learnApply p => execLearnApply_memOk p s hm
  | .stationSweepVisit p => execStationSweepVisit_memOk p s hm
  | .stDmactlStart src op tbl index count => execStDmactlStart_memOk src op tbl index count s hm
  | .stDmaDone => execStDmaDone_memOk s hm
  | .stDmactlLock src tbl lock => execStDmactlLock_memOk src tbl lock s hm
  | .lockTimeout => execLockTimeout_memOk s hm
  | .tableClearDone => execTableClearDone_memOk s hm
  | .drTctlEn src t en => execDrTctlEn_memOk src t en s hm
  | .admission p c7 => execAdmission_memOk p c7 s hm
  | .nodeDispatch g => execNodeDispatch_memOk g s hm
  | .threadTakeNode k => execThreadTakeNode_memOk k s hm
  | .nodeComplete => execNodeComplete_memOk s hm
  | .helperTimeout g slot node => execHelperTimeout_memOk g slot node s hm
  | .delayFire g => execDelayFire_memOk g s hm
  | .jobVoid g slot => execJobVoid_memOk g slot s hm
  | .dispatchTraceDrain => execDispatchTraceDrain_memOk s hm
  | .lodeHelper g bad => execLodeHelper_memOk g bad s hm
  | .streamHelper g => execStreamHelper_memOk g s hm
  | .ruleHelper g => execRuleHelper_memOk g s hm
  | .ddrFetch g => execDdrFetch_memOk g s hm
  | .releaseNodeComplete g => execReleaseNodeComplete_memOk g s hm
  | .hoistRelease => execHoistRelease_memOk s hm
  | .bareVoid p c7 => execBareVoid_memOk p c7 s hm
  | .reorderLimit t => execReorderLimit_memOk t s hm
  | .hoistReclaim g => execHoistReclaim_memOk g s hm
  | .enqueueRequest => execEnqueueRequest_memOk s hm
  | .columnMove col => execColumnMove_memOk col s hm
  | .transmitOpportunity p => execTransmitOpportunity_memOk p s hm
  | .egressEdit p => execEgressEdit_memOk p s hm
  | .frameSent p => execFrameSent_memOk p s hm
  | .captureWrite => execCaptureWrite_memOk s hm
  | .holdWindowEnd p => execHoldWindowEnd_memOk p s hm
  | .xcPlmapWrite src v => execXcPlmapWrite_memOk src v s hm
  | .planeMoveDone e => execPlaneMoveDone_memOk e s hm
  | .thresholdTune => execThresholdTune_memOk s hm
  | .alloc h => execAlloc_memOk h s hm
  | .reserve row tag n cls7 => execReserve_memOk row tag n cls7 s hm
  | .take row tag => execTake_memOk row tag s hm
  | .unreserve row tag n => execUnreserve_memOk row tag n s hm
  | .xfer ptr old new => execXfer_memOk ptr old new s hm
  | .append ptr hdr => execAppend_memOk ptr hdr s hm
  | .setref ptr tag k => execSetref_memOk ptr tag k s hm
  | .addref ptr => execAddref_memOk ptr s hm
  | .dropref ptr => execDropref_memOk ptr s hm
  | .free ptr tag => execFree_memOk ptr tag s hm
  | .binReclaimScan p => execBinReclaimScan_memOk p s hm
  | .freeListRebuildDone row => execFreeListRebuildDone_memOk row s hm
  | .conservationCheck bad => execConservationCheck_memOk bad s hm
  | .glGencmdGo src g v => execGlGencmdGo_memOk src g v s hm
  | .generatorCopyDone g => execGeneratorCopyDone_memOk g s hm
  | .ptPcfgWrite src p v => execPtPcfgWrite_memOk src p v s hm
  | .linkLoss p lock loc rem => execLinkLoss_memOk p lock loc rem s hm
  | .linkConditionClears p => execLinkConditionClears_memOk p s hm
  | .debounceExpiry p => execDebounceExpiry_memOk p s hm
  | .linkUp p => execLinkUp_memOk p s hm
  | .linkFaultSignalled p loc rem => execLinkFaultSignalled_memOk p loc rem s hm
  | .faultClear p => execFaultClear_memOk p s hm
  | .lockLost p => execLockLost_memOk p s hm
  | .tsCalDone p => execTsCalDone_memOk p s hm
  | .pauseFrameRx p pfc hold release => execPauseFrameRx_memOk p pfc hold release s hm
  | .pauseRefresh row => execPauseRefresh_memOk row s hm
  | .pauseWatchdog p q => execPauseWatchdog_memOk p q s hm
  | .watchdogDiscardEnd p q => execWatchdogDiscardEnd_memOk p q s hm
  | .ptGclctlCommit src p cycle length => execPtGclctlCommit_memOk src p cycle length s hm
  | .gateChangeover p => execGateChangeover_memOk p s hm
  | .gateEntryBoundary p => execGateEntryBoundary_memOk p s hm
  | .prpSupervisionSend p => execPrpSupervisionSend_memOk p s hm
  | .crossingToken isl bad => execCrossingToken_memOk isl bad s hm
  | .islandClockRestart isl => execIslandClockRestart_memOk isl s hm
  | .refMeasurement b ok => execRefMeasurement_memOk b ok s hm
  | .refEdgeLoss b => execRefEdgeLoss_memOk b s hm
  | .refRevert => execRefRevert_memOk s hm
  | .ppsInEdge wide => execPpsInEdge_memOk wide s hm
  | .ppsInLoss => execPpsInLoss_memOk s hm
  | .irigFrame soy year ext => execIrigFrame_memOk soy year ext s hm
  | .irigMissing => execIrigMissing_memOk s hm
  | .ptpMeasurement off late stale ann => execPtpMeasurement_memOk off late stale ann s hm
  | .ptpTimeout => execPtpTimeout_memOk s hm
  | .holdValidSet => execHoldValidSet_memOk s hm
  | .holdoverExpiry => execHoldoverExpiry_memOk s hm
  | .ovenReady => execOvenReady_memOk s hm
  | .tbCtlWrite src v => execTbCtlWrite_memOk src v s hm
  | .tbStepWrite src v => execTbStepWrite_memOk src v s hm
  | .stepTakesEffect => execStepTakesEffect_memOk s hm
  | .tbFreqWrite src v => execTbFreqWrite_memOk src v s hm
  | .tbUtcWrite src v => execTbUtcWrite_memOk src v s hm
  | .leapTakesEffect => execLeapTakesEffect_memOk s hm
  | .tickChange => execTickChange_memOk s hm
  | .ppsOutRise => execPpsOutRise_memOk s hm
  | .ppsOutFall => execPpsOutFall_memOk s hm
  | .dvfsComplete g => execDvfsComplete_memOk g s hm
  | .interruptLatch k => execInterruptLatch_memOk k s hm
  | .supTimeout g => execSupTimeout_memOk g s hm
  | .glTctlRst src g c t => execGlTctlRst_memOk src g c t s hm
  | .glTctlKill src g c t => execGlTctlKill_memOk src g c t s hm
  | .glCtlCoreRst src g mask => execGlCtlCoreRst_memOk src g mask s hm
  | .glCtlGalRst src g => execGlCtlGalRst_memOk src g s hm
  | .galleryResetDone g => execGalleryResetDone_memOk g s hm
  | .glCtlSupRun src g => execGlCtlSupRun_memOk src g s hm
  | .glTsoft src g thread => execGlTsoft_memOk src g thread s hm
  | .glRosectlCommit src g c => execGlRosectlCommit_memOk src g c s hm
  | .roseChangeover g c => execRoseChangeover_memOk g c s hm
  | .add k dst src => execAdd_memOk k dst src s hm
  | .sub k dst src => execSub_memOk k dst src s hm
  | .andR k dst src => execAndR_memOk k dst src s hm
  | .orR k dst src => execOrR_memOk k dst src s hm
  | .xorR k dst src => execXorR_memOk k dst src s hm
  | .mov k dst src => execMov_memOk k dst src s hm
  | .adc k dst src => execAdc_memOk k dst src s hm
  | .sbc k dst src => execSbc_memOk k dst src s hm
  | .cmp k dst src => execCmp_memOk k dst src s hm
  | .tst k dst src => execTst_memOk k dst src s hm
  | .mul k dst src => execMul_memOk k dst src s hm
  | .mulh k dst src => execMulh_memOk k dst src s hm
  | .mulhu k dst src => execMulhu_memOk k dst src s hm
  | .shl k dst src => execShl_memOk k dst src s hm
  | .shr k dst src => execShr_memOk k dst src s hm
  | .sar k dst src => execSar_memOk k dst src s hm
  | .ror k dst src => execRor_memOk k dst src s hm
  | .addi k dst imm => execAddi_memOk k dst imm s hm
  | .movi k dst imm => execMovi_memOk k dst imm s hm
  | .cmpi k dst imm => execCmpi_memOk k dst imm s hm
  | .shli k dst n => execShli_memOk k dst n s hm
  | .shri k dst n => execShri_memOk k dst n s hm
  | .sari k dst n => execSari_memOk k dst n s hm
  | .rori k dst n => execRori_memOk k dst n s hm
  | .ldb k dst b => execLdb_memOk k dst b s hm
  | .ldh k dst b => execLdh_memOk k dst b s hm
  | .ldw k dst b => execLdw_memOk k dst b s hm
  | .ldhs k dst b => execLdhs_memOk k dst b s hm
  | .stb k src b => execStb_memOk k src b s hm
  | .sth k src b => execSth_memOk k src b s hm
  | .stw k src b => execStw_memOk k src b s hm
  | .bcc k cond off => execBcc_memOk k cond off s hm
  | .call k off => execCall_memOk k off s hm
  | .jr k src => execJr_memOk k src s hm
  | .callr k src => execCallr_memOk k src s hm
  | .ret k => execRet_memOk k s hm
  | .mfs k dst num => execMfs_memOk k dst num s hm
  | .mts k num src => execMts_memOk k num src s hm
  | .nop k => execNop_memOk k s hm
  | .endNode k => execEndNode_memOk k s hm
  | .rti k => execRti_memOk k s hm
  | .fence k => execFence_memOk k s hm
  | .brk k => execBrk_memOk k s hm
  | .notR k r => execNotR_memOk k r s hm
  | .neg k r => execNeg_memOk k r s hm
  | .clz k r => execClz_memOk k r s hm
  | .bswap k r => execBswap_memOk k r s hm
  | .sxb k r => execSxb_memOk k r s hm
  | .sxh k r => execSxh_memOk k r s hm
  | .popc k r => execPopc_memOk k r s hm
  | .imw k a b => execImw_memOk k a b s hm
  | .minR k dst src => execMinR_memOk k dst src s hm
  | .maxR k dst src => execMaxR_memOk k dst src s hm
  | .ext k imm => execExt_memOk k imm s hm
  | .storePerform k => execStorePerform_memOk k s hm
  | .longLoadReturn k n ecc => execLongLoadReturn_memOk k n ecc s hm
  | .lka k r => execLka_memOk k r s hm
  | .lkt k r => execLkt_memOk k r s hm
  | .lkr k r => execLkr_memOk k r s hm
  | .wla k r => execWla_memOk k r s hm
  | .wlt k r => execWlt_memOk k r s hm
  | .wlr k r => execWlr_memOk k r s hm
  | .evw k r => execEvw_memOk k r s hm
  | .evs k r => execEvs_memOk k r s hm
  | .chp k r => execChp_memOk k r s hm
  | .chc k r => execChc_memOk k r s hm
  | .chg k r => execChg_memOk k r s hm
  | .evwTimeout k => execEvwTimeout_memOk k s hm
  | .tkFrel src lock => execTkFrel_memOk src lock s hm
  | .tkChanWrite src c v => execTkChanWrite_memOk src c v s hm
  | .tokenReclaim g => execTokenReclaim_memOk g s hm
  | .doldrumsFire g w => execDoldrumsFire_memOk g w s hm
  | .doldrumsAnswer g mask => execDoldrumsAnswer_memOk g mask s hm
  | .doldrumsEscalate g w => execDoldrumsEscalate_memOk g w s hm
  | .sel k r => execSel_memOk k r s hm
  | .acb k r => execAcb_memOk k r s hm
  | .ach k r => execAch_memOk k r s hm
  | .acw k r => execAcw_memOk k r s hm
  | .acm k r => execAcm_memOk k r s hm
  | .fin k r => execFin_memOk k r s hm
  | .csu k r => execCsu_memOk k r s hm
  | .hsh k r => execHsh_memOk k r s hm
  | .lda k r => execLda_memOk k r s hm
  | .ler k r => execLer_memOk k r s hm
  | .mack k j r => execMack_memOk k j r s hm
  | .adv k => execAdv_memOk k s hm
  | .sph k r => execSph_memOk k r s hm
  | .sdp k r => execSdp_memOk k r s hm
  | .clr k r => execClr_memOk k r s hm
  | .rdr k r => execRdr_memOk k r s hm
  | .rdi k r => execRdi_memOk k r s hm
  | .rst k r => execRst_memOk k r s hm
  | .cp2Complete k n bad => execCp2Complete_memOk k n bad s hm
  | .cp2Timeout k n => execCp2Timeout_memOk k n s hm
  | .lateError g => execLateError_memOk g s hm
  | .faceOperation k op r => execFaceOperation_memOk k op r s hm
  | .faceReply g tag data err => execFaceReply_memOk g tag data err s hm
  | .faceTimeout g tag => execFaceTimeout_memOk g tag s hm
  | .fcIrq g => execFcIrq_memOk g s hm
  | .glFcctlLoad src g => execGlFcctlLoad_memOk src g s hm
  | .faceLoadDone g => execFaceLoadDone_memOk g s hm
  | .glFcctlClear src g => execGlFcctlClear_memOk src g s hm
  | .glFcctlRun src g run => execGlFcctlRun_memOk src g run s hm
  | .faceFrameScrub g ecc => execFaceFrameScrub_memOk g ecc s hm
  | .faceRestart g => execFaceRestart_memOk g s hm
  | .step g => execStep_memOk g s hm
  | .state g => execState_memOk g s hm
  | .windowDeadline g slot set => execWindowDeadline_memOk g slot set s hm
  | .blockArrive => execBlockArrive_memOk s hm
  | .frameEmission o => execFrameEmission_memOk o s hm
  | .cfgChgEnd o => execCfgChgEnd_memOk o s hm
  | .lookup bad => execLookup_memOk bad s hm
  | .insert bad => execInsert_memOk bad s hm
  | .displacementMove n => execDisplacementMove_memOk n s hm
  | .lodeAdd bad => execLodeAdd_memOk bad s hm
  | .supv bad => execSupv_memOk bad s hm
  | .lodeMax bad => execLodeMax_memOk bad s hm
  | .cas bad => execCas_memOk bad s hm
  | .seq bad => execSeq_memOk bad s hm
  | .delete bad => execDelete_memOk bad s hm
  | .gen bad => execGen_memOk bad s hm
  | .rdx bad => execRdx_memOk bad s hm
  | .wrx bad => execWrx_memOk bad s hm
  | .watchExpiry slot => execWatchExpiry_memOk slot s hm
  | .lodeSweepVisit => execLodeSweepVisit_memOk s hm
  | .ldSweepFlush src kind pinned => execLdSweepFlush_memOk src kind pinned s hm
  | .exportWrite => execExportWrite_memOk s hm
  | .repairStep k => execRepairStep_memOk k s hm
  | .anomalyDrain => execAnomalyDrain_memOk s hm
  | .agePolicyStep => execAgePolicyStep_memOk s hm
  | .cageDoorbell src fn v => execCageDoorbell_memOk src fn v s hm
  | .identify fn => execIdentify_memOk fn s hm
  | .cageNop fn => execCageNop_memOk fn s hm
  | .deviceStatus fn => execDeviceStatus_memOk fn s hm
  | .eventMask fn => execEventMask_memOk fn s hm
  | .expertGrant fn => execExpertGrant_memOk fn s hm
  | .expertRelease fn => execExpertRelease_memOk fn s hm
  | .functionRights fn => execFunctionRights_memOk fn s hm
  | .fwUpdate fn ok => execFwUpdate_memOk fn ok s hm
  | .fwActivate fn ok => execFwActivate_memOk fn ok s hm
  | .warmReset fn => execWarmReset_memOk fn s hm
  | .syRstWarm src => execSyRstWarm_memOk src s hm
  | .queueAssign fn => execQueueAssign_memOk fn s hm
  | .queueSetup fn => execQueueSetup_memOk fn s hm
  | .queueEnable fn => execQueueEnable_memOk fn s hm
  | .queueStats fn => execQueueStats_memOk fn s hm
  | .linkStatus fn => execLinkStatus_memOk fn s hm
  | .hostConfig fn => execHostConfig_memOk fn s hm
  | .portConfig fn => execPortConfig_memOk fn s hm
  | .portStatus fn => execPortStatus_memOk fn s hm
  | .portStats fn => execPortStats_memOk fn s hm
  | .gateListLoad fn => execGateListLoad_memOk fn s hm
  | .macsecSaSet fn => execMacsecSaSet_memOk fn s hm
  | .ptpConfig fn => execPtpConfig_memOk fn s hm
  | .redPairSet fn => execRedPairSet_memOk fn s hm
  | .timeConfig fn => execTimeConfig_memOk fn s hm
  | .timeStatus fn => execTimeStatus_memOk fn s hm
  | .utcSet fn => execUtcSet_memOk fn s hm
  | .timeStep fn => execTimeStep_memOk fn s hm
  | .ruleWrite fn => execRuleWrite_memOk fn s hm
  | .ruleFlag fn => execRuleFlag_memOk fn s hm
  | .ruleRead fn => execRuleRead_memOk fn s hm
  | .keyProfileSet fn => execKeyProfileSet_memOk fn s hm
  | .parseLoad fn => execParseLoad_memOk fn s hm
  | .ruleCommit fn => execRuleCommit_memOk fn s hm
  | .ruleStatus fn => execRuleStatus_memOk fn s hm
  | .ruleRetire fn => execRuleRetire_memOk fn s hm
  | .excConfig fn => execExcConfig_memOk fn s hm
  | .excStats fn => execExcStats_memOk fn s hm
  | .eddyConfig fn => execEddyConfig_memOk fn s hm
  | .assayStats fn => execAssayStats_memOk fn s hm
  | .stationAdd fn => execStationAdd_memOk fn s hm
  | .stationDel fn => execStationDel_memOk fn s hm
  | .stationFlush fn => execStationFlush_memOk fn s hm
  | .stationRead fn => execStationRead_memOk fn s hm
  | .stationConfig fn => execStationConfig_memOk fn s hm
  | .streamSet fn => execStreamSet_memOk fn s hm
  | .streamGet fn => execStreamGet_memOk fn s hm
  | .meterSet fn => execMeterSet_memOk fn s hm
  | .tableStats fn => execTableStats_memOk fn s hm
  | .templateLoad fn => execTemplateLoad_memOk fn s hm
  | .templateEnable fn => execTemplateEnable_memOk fn s hm
  | .templateStatus fn => execTemplateStatus_memOk fn s hm
  | .affinitySet fn => execAffinitySet_memOk fn s hm
  | .twinConfig fn => execTwinConfig_memOk fn s hm
  | .schedStats fn => execSchedStats_memOk fn s hm
  | .traceStart fn => execTraceStart_memOk fn s hm
  | .traceStop fn => execTraceStop_memOk fn s hm
  | .draughtConfig fn => execDraughtConfig_memOk fn s hm
  | .galleryLoad fn img => execGalleryLoad_memOk fn img s hm
  | .galleryStatus fn => execGalleryStatus_memOk fn s hm
  | .roseSet fn => execRoseSet_memOk fn s hm
  | .faultRead fn => execFaultRead_memOk fn s hm
  | .galleryReset fn => execGalleryReset_memOk fn s hm
  | .threadReset fn => execThreadReset_memOk fn s hm
  | .faceLoad fn => execFaceLoad_memOk fn s hm
  | .faceRun fn => execFaceRun_memOk fn s hm
  | .faceStatus fn => execFaceStatus_memOk fn s hm
  | .cpStats fn => execCpStats_memOk fn s hm
  | .phasorBind fn => execPhasorBind_memOk fn s hm
  | .phasorUnbind fn => execPhasorUnbind_memOk fn s hm
  | .phasorEnable fn => execPhasorEnable_memOk fn s hm
  | .pmuOutputSet fn => execPmuOutputSet_memOk fn s hm
  | .phasorStatus fn => execPhasorStatus_memOk fn s hm
  | .pmuStats fn => execPmuStats_memOk fn s hm
  | .lodeOp fn bad => execLodeOp_memOk fn bad s hm
  | .lodeRead fn bad => execLodeRead_memOk fn bad s hm
  | .lodeWrite fn => execLodeWrite_memOk fn s hm
  | .lodeFlush fn => execLodeFlush_memOk fn s hm
  | .lodeExportSet fn => execLodeExportSet_memOk fn s hm
  | .lodeAnomalyRead fn => execLodeAnomalyRead_memOk fn s hm
  | .lodeStats fn => execLodeStats_memOk fn s hm
  | .lodeAgeSet fn => execLodeAgeSet_memOk fn s hm
  | .lodeConfig fn => execLodeConfig_memOk fn s hm
  | .lockGroupSet fn => execLockGroupSet_memOk fn s hm
  | .lockStatus fn => execLockStatus_memOk fn s hm
  | .channelSet fn => execChannelSet_memOk fn s hm
  | .doldrumsConfig fn => execDoldrumsConfig_memOk fn s hm
  | .tokenStats fn => execTokenStats_memOk fn s hm
  | .lockForceRelease fn => execLockForceRelease_memOk fn s hm
  | .hoistStats fn => execHoistStats_memOk fn s hm
  | .hoistDomainRead fn => execHoistDomainRead_memOk fn s hm
  | .hoistConfig fn => execHoistConfig_memOk fn s hm
  | .mcastGroupSet fn => execMcastGroupSet_memOk fn s hm
  | .mcastGroupGet fn => execMcastGroupGet_memOk fn s hm
  | .mirrorSet fn => execMirrorSet_memOk fn s hm
  | .switchPortSet fn => execSwitchPortSet_memOk fn s hm
  | .captureSet fn => execCaptureSet_memOk fn s hm
  | .captureStatus fn => execCaptureStatus_memOk fn s hm
  | .planeStatus fn => execPlaneStatus_memOk fn s hm
  | .switchStats fn => execSwitchStats_memOk fn s hm
  | .switchThreshSet fn => execSwitchThreshSet_memOk fn s hm
  | .planeMapSet fn => execPlaneMapSet_memOk fn s hm
  | .switchConfig fn => execSwitchConfig_memOk fn s hm
  | .binStats fn => execBinStats_memOk fn s hm
  | .binQuotaSet fn => execBinQuotaSet_memOk fn s hm
  | .seamStatus fn => execSeamStatus_memOk fn s hm
  | .seamSpare fn => execSeamSpare_memOk fn s hm
  | .reliefStatus fn => execReliefStatus_memOk fn s hm
  | .reliefForce fn ok => execReliefForce_memOk fn ok s hm
  | .powerStatus fn => execPowerStatus_memOk fn s hm
  | .policySet fn => execPolicySet_memOk fn s hm
  | .policyStatus fn => execPolicyStatus_memOk fn s hm
  | .ledgerRead fn => execLedgerRead_memOk fn s hm
  | .calibRead fn => execCalibRead_memOk fn s hm
  | .calibWrite fn => execCalibWrite_memOk fn s hm
  | .tallyRead fn => execTallyRead_memOk fn s hm
  | .tallyStatus fn => execTallyStatus_memOk fn s hm
  | .tallyLimit fn => execTallyLimit_memOk fn s hm
  | .debugChallenge fn => execDebugChallenge_memOk fn s hm
  | .debugUnlock fn ok => execDebugUnlock_memOk fn ok s hm
  | .debugLock fn => execDebugLock_memOk fn s hm
  | .eventWrite => execEventWrite_memOk s hm
  | .grantExpiry k => execGrantExpiry_memOk k s hm
  | .counterPoll a => execCounterPoll_memOk a s hm
  | .canaryExpiry => execCanaryExpiry_memOk s hm
  | .lockstepMismatch => execLockstepMismatch_memOk s hm
  | .takeoverComplete => execTakeoverComplete_memOk s hm
  | .txDoorbell by_ fn j tail wide ide => execTxDoorbell_memOk by_ fn j tail wide ide s hm
  | .rxDoorbell by_ fn j tail wide ide => execRxDoorbell_memOk by_ fn j tail wide ide s hm
  | .txDescriptor q desc data => execTxDescriptor_memOk q desc data s hm
  | .txRetry q => execTxRetry_memOk q s hm
  | .hostDeliver addrs => execHostDeliver_memOk addrs s hm
  | .hostWatchdog q => execHostWatchdog_memOk q s hm
  | .dmaError q tx => execDmaError_memOk q tx s hm
  | .msixMessage q => execMsixMessage_memOk q s hm
  | .itrExpiry q => execItrExpiry_memOk q s hm
  | .hiQcfgWrite src q v => execHiQcfgWrite_memOk src q v s hm
  | .bar2Access off n data poisoned ide => execBar2Access_memOk off n data poisoned ide s hm
  | .ideIntegrityFail fn => execIdeIntegrityFail_memOk fn s hm
  | .refresh c => execRefresh_memOk c s hm
  | .tempPoll c hot therm => execTempPoll_memOk c hot therm s hm
  | .trackingStep c width dev moved => execTrackingStep_memOk c width dev moved s hm
  | .neighbourRefresh log => execNeighbourRefresh_memOk log s hm
  | .creditWindow => execCreditWindow_memOk s hm
  | .slotGrant log ecc => execSlotGrant_memOk log ecc s hm
  | .smSpareStart src chan => execSmSpareStart_memOk src chan s hm
  | .sparingComplete => execSparingComplete_memOk s hm
  | .channelAbruptFail c => execChannelAbruptFail_memOk c s hm
  | .pllLockLoss isl => execPllLockLoss_memOk isl s hm
  | .selfCheckFail u => execSelfCheckFail_memOk u s hm
  | .unitFence => execUnitFence_memOk s hm
  | .draughtReclaim g => execDraughtReclaim_memOk g s hm
  | .galleryTakeover => execGalleryTakeover_memOk s hm
  | .rlForceGo src kind ret unit pass => execRlForceGo_memOk src kind ret unit pass s hm
  | .swapDrainDone => execSwapDrainDone_memOk s hm
  | .phaseShed rail low dead => execPhaseShed_memOk rail low dead s hm
  | .drainTimeout g slot => execDrainTimeout_memOk g slot s hm
  | .alarmCauseExpiry b => execAlarmCauseExpiry_memOk b s hm
  | .vmainFall => execVmainFall_memOk s hm
  | .vmainDip => execVmainDip_memOk s hm
  | .shedComplete => execShedComplete_memOk s hm
  | .vmainRise => execVmainRise_memOk s hm
  | .restoreComplete => execRestoreComplete_memOk s hm
  | .storeLow => execStoreLow_memOk s hm
  | .vmainInvalid => execVmainInvalid_memOk s hm
  | .storeCharged => execStoreCharged_memOk s hm
  | .vkeepLoss => execVkeepLoss_memOk s hm
  | .pwDomReq src dom req => execPwDomReq_memOk src dom req s hm
  | .domainRampDone dom ok => execDomainRampDone_memOk dom ok s hm
  | .thermalStep isl => execThermalStep_memOk isl s hm
  | .thermalTrip => execThermalTrip_memOk s hm
  | .scrubStep item => execScrubStep_memOk item s hm
  | .scrubPassLate region => execScrubPassLate_memOk region s hm
  | .calibrationCycle item => execCalibrationCycle_memOk item s hm
  | .ageingMeasure slow => execAgeingMeasure_memOk slow s hm
  | .stressAccrue g p tj => execStressAccrue_memOk g p tj s hm
  | .rotationStep => execRotationStep_memOk s hm
  | .thermalPolicyStep g tj => execThermalPolicyStep_memOk g tj s hm
  | .refreshPolicyStep count => execRefreshPolicyStep_memOk count s hm
  | .freezePolicyStep p count => execFreezePolicyStep_memOk p count s hm
  | .telemetrySnapshot vmon therm rest => execTelemetrySnapshot_memOk vmon therm rest s hm
  | .calendarSecond => execCalendarSecond_memOk s hm
  | .ledgerWrite => execLedgerWrite_memOk s hm
  | .tallyRecord => execTallyRecord_memOk s hm
  | .tallyCredit => execTallyCredit_memOk s hm
  | .suppressionRecord code => execSuppressionRecord_memOk code s hm
  | .chunkProgram => execChunkProgram_memOk s hm
  | .blockRetire b erase => execBlockRetire_memOk b erase s hm
  | .tallyClose => execTallyClose_memOk s hm
  | .tallyOpen torn => execTallyOpen_memOk torn s hm
  | .smbStatusRead => execSmbStatusRead_memOk s hm
  | .smbPointerWrite area index => execSmbPointerWrite_memOk area index s hm
  | .smbRecordRead => execSmbRecordRead_memOk s hm
  | .smbCountRead => execSmbCountRead_memOk s hm
  | .bypass tdi => execBypass_memOk tdi s hm
  | .idcode => execIdcode_memOk s hm
  | .samplePreload pins load => execSamplePreload_memOk pins load s hm
  | .extest load => execExtest_memOk load s hm
  | .challenge => execChallenge_memOk s hm
  | .unlock verifies => execUnlock_memOk verifies s hm
  | .lock => execLock_memOk s hm
  | .dbacc write off data => execDbacc_memOk write off data s hm
  | .nonceExpiry => execNonceExpiry_memOk s hm
  | .dbTcmdHalt src thread all => execDbTcmdHalt_memOk src thread all s hm
  | .dbTcmdResume src thread all => execDbTcmdResume_memOk src thread all s hm
  | .dbTcmdStep src thread all => execDbTcmdStep_memOk src thread all s hm
  | .dbTcmdKill src thread all => execDbTcmdKill_memOk src thread all s hm
  | .traceSync => execTraceSync_memOk s hm
  | .galleryTraceDrain => execGalleryTraceDrain_memOk s hm
  | .cp2Operation k op r => execCp2Operation_memOk k op r s hm
  | .illegalInstruction k => execIllegalInstruction_memOk k s hm
  | .assayerIllegalOp p a => execAssayerIllegalOp_memOk p a s hm
  | .areaWrite src a size v => execAreaWrite_memOk src a size v s hm
  | .asRverCommit src => execAsRverCommit_memOk src s hm
  | .asRverRetire src commit => execAsRverRetire_memOk src commit s hm
  | .asRcmdStart src op index flag => execAsRcmdStart_memOk src op index flag s hm
  | .badRequest fn => execBadRequest_memOk fn s hm
  | .overmanTakesFrame full => execOvermanTakesFrame_memOk full s hm
  | .ptpMessageSend p kind => execPtpMessageSend_memOk p kind s hm
  | .ptpParentChange p => execPtpParentChange_memOk p s hm
  | .pauseQuantaExpiry p mask => execPauseQuantaExpiry_memOk p mask s hm
  | .configurationWrite fn bme d3 vf => execConfigurationWrite_memOk fn bme d3 vf s hm
  | .msixUnmask fn e => execMsixUnmask_memOk fn e s hm
  | .ideKm fn => execIdeKm_memOk fn s hm
  | .overmanMemoryError => execOvermanMemoryError_memOk s hm
  | .coreCFailure => execCoreCFailure_memOk s hm
  | .phasorBlockRewrite b => execPhasorBlockRewrite_memOk b s hm
  | .testLogicReset => execTestLogicReset_memOk s hm
/-- A step keeps the canonical form, whether a command waits or time passes. -/
theorem step_memOk (s : State) (hm : Memory.wf s.dev.mem = true) : Outc.memOk (step s) := by
  unfold step
  split
  · rintro t ⟨⟩
    exact Dev.idle_mem s.dev hm
  · exact exec_memOk _ _ hm

/-- Settles O55: a step runs a command or lets time pass, and either keeps the canonical form. -/
theorem everyStepKeepsMemory : Obligations.EveryStepKeepsMemory :=
  fun s s' hs h => step_memOk s hs s' h

/-- Settles O54: the memory of the reset state lists nothing. -/
theorem resetMeetsInvariant : Obligations.ResetMeetsInvariant := rfl

end Sys2Proof.Machine
end

/-! ## Results and flags of the thread instructions (R183, R184) -/
section
namespace Sys2Proof.Machine

/-! ### Sums and differences -/

theorem addWith_sum (a b : Word32) (cin : Bool) : (addWith a b cin).1 = a + b + BitVec.ofNat 32 (b2n cin) := by
  apply BitVec.eq_of_toNat_eq
  simp [addWith, BitVec.toNat_ofNat, BitVec.toNat_add, Nat.add_mod]

/-- The operands' signs agree and the result's differs exactly when the exact sum leaves the signed range. -/
theorem addWith_overflow (a b : Word32) (cin : Bool) :
    (addWith a b cin).2.2 = overflows (a.toInt + b.toInt + b2n cin) := by
  have ha := a.isLt
  have hb := b.isLt
  have hc : b2n cin ≤ 1 := by cases cin <;> simp [b2n]
  rw [Bool.eq_iff_iff]
  simp only [addWith, overflows, BitVec.msb_eq_decide, BitVec.toNat_ofNat, BitVec.toInt_eq_toNat_cond,
    Bool.and_eq_true, Bool.or_eq_true, beq_iff_eq, bne_iff_ne, ne_eq, decide_eq_decide, decide_eq_true_eq]
  omega

theorem addWith_eq (a b : Word32) (cin : Bool) : addWith a b cin =
    (a + b + BitVec.ofNat 32 (b2n cin), carries a b cin, overflows (a.toInt + b.toInt + b2n cin)) :=
  Prod.ext (addWith_sum a b cin) (Prod.ext rfl (addWith_overflow a b cin))

/-- A difference is the sum with the complement; its carry out is the absent borrow (R184). -/
theorem subWith_eq (a b : Word32) (cin : Bool) : subWith a b cin =
    (a - b - BitVec.ofNat 32 (1 - b2n cin), decide (b.toNat + (1 - b2n cin) ≤ a.toNat),
      overflows (a.toInt - b.toInt - (1 - b2n cin))) := by
  have ha := a.isLt
  have hb := b.isLt
  have hc : b2n cin ≤ 1 := by cases cin <;> simp [b2n]
  have hn : (~~~b).toNat = 4294967295 - b.toNat := BitVec.toNat_not
  have hi : (~~~b).toInt = -b.toInt - 1 := by
    simp only [BitVec.toInt_eq_toNat_cond, hn]
    omega
  rw [subWith, addWith_eq, carries, hn, hi]
  refine Prod.ext ?_ (Prod.ext ?_ ?_)
  · apply BitVec.eq_of_toNat_eq
    simp only [BitVec.toNat_add, BitVec.toNat_sub, BitVec.toNat_ofNat, hn]
    omega
  · simp only [decide_eq_decide]
    omega
  · exact congrArg overflows (by omega)

theorem subWith_true (a b : Word32) :
    subWith a b true = (a - b, decide (b.toNat ≤ a.toNat), overflows (a.toInt - b.toInt)) := by
  rw [subWith_eq]
  simp [b2n]

theorem addWith_false (a b : Word32) : addWith a b false = (a + b, carries a b false, overflows (a.toInt + b.toInt)) := by
  rw [addWith_eq]
  simp [b2n]

theorem sub_beq_zero (a b : Word32) : (a - b == 0) = (a == b) := by
  rw [Bool.beq_eq_decide_eq, Bool.beq_eq_decide_eq, decide_eq_decide]
  exact sub_eq_zero


/-! ### The forms that compute on their thread -/

/-- A function of a thread that neither reads nor changes the book-keeping of issue. -/
structure Thread.Computes (g : Thread → Thread) : Prop where
  arch : ∀ t st hf b l fb p w s, (g { t with slots := s, st := st, heldFrom := hf, busy := b, lastOpen := l, fetchBad := fb
                                             pc := p, fetched := w }).arch = (g t).arch := by intros; rfl
  pc : ∀ t, (g t).pc = t.pc := by intro; rfl
  fetched : ∀ t, (g t).fetched = t.fetched := by intro; rfl
  slots : ∀ t, (g t).slots = t.slots := by intro; rfl

section Forms
variable {c : Instr} {d : Dev} {k op dst src : Nat} {rs : List Nat} {f : Thread → Thread}

theorem form2_retires {g : Thread → Word32 → Word32 → Thread} (hc : Does c d (d.form2 k op dst src g rs))
    (h : d.issues k 0x3FFF (op * 256 + dst * 16 + src) 1 rs false = true)
    (hf : g (d.thr k) ((d.thr k).reg dst) ((d.thr k).reg src) = f (d.thr k))
    (hg : Thread.Computes (fun t => g t (t.reg dst) (t.reg src)) := by exact {}) : Retires c d k 1 ((d.thr k).pc.toNat + 1) f :=
  retires_go hc h rfl (hf ▸ hg.arch (d.thr k)) hg.pc hg.fetched hg.slots

theorem form1_retires {g : Thread → Word32 → Thread} {r : Nat} (hc : Does c d (d.form1 k op r rs g))
    (h : d.issues k 0x3FFF (0x3200 + op * 16 + r) 1 rs false = true) (hf : g (d.thr k) ((d.thr k).reg r) = f (d.thr k))
    (hg : Thread.Computes (fun t => g t (t.reg r)) := by exact {}) : Retires c d k 1 ((d.thr k).pc.toNat + 1) f :=
  retires_go hc h rfl (hf ▸ hg.arch (d.thr k)) hg.pc hg.fetched hg.slots

theorem formImm_retires {g : Thread → Word32 → Word32 → Thread} {imm : Nat}
    (hc : Does c d (d.formImm k op dst imm rs g)) (h : d.issues k 0x3FFF (op * 1024 + dst * 64 + imm) 1 rs true = true)
    (hf : g (d.thr k) ((d.thr k).reg dst) ((d.thr k).imm 6 imm) = f (d.thr k))
    (hg : Thread.Computes (fun t => g t (t.reg dst) ((d.thr k).imm 6 imm)) := by exact {}) :
    Retires c d k 1 ((d.thr k).pc.toNat + 1) f :=
  retires_go hc h rfl (hf ▸ hg.arch (d.thr k)) hg.pc hg.fetched hg.slots

theorem formMul_retires {g : Thread → Word32 → Word32 → Thread} (hc : Does c d (d.formMul k op dst src rs g))
    (h : d.issues k 0x3FFF (op * 256 + dst * 16 + src) 1 (src :: rs) false = true)
    (hf : g (d.thr k) ((d.thr k).reg dst) ((d.thr k).reg src) = f (d.thr k))
    (hg : Thread.Computes (fun t => g t (t.reg dst) (t.reg src)) := by exact {}) : Retires c d k 1 ((d.thr k).pc.toNat + 1) f :=
  retires_later hc h rfl (hf ▸ hg.arch (d.thr k)) hg.pc hg.fetched hg.slots

end Forms

/-! ### Additions, subtractions and compares -/

/-- The flags of R184 after `a` and `b` are added with a carry in. -/
def Thread.summed (t : Thread) (a b : Word32) (cin : Bool) : Thread :=
  t.flags (a + b + BitVec.ofNat 32 (b2n cin) == 0) (a + b + BitVec.ofNat 32 (b2n cin)).msb (carries a b cin)
    (overflows (a.toInt + b.toInt + b2n cin))

theorem Thread.arith_addWith (t : Thread) (a b : Word32) (cin : Bool) : t.arith (addWith a b cin) = t.summed a b cin := by
  rw [addWith_eq]
  rfl

theorem Thread.arith_subWith (t : Thread) (a b : Word32) : t.arith (subWith a b true) = t.compared a b := by
  rw [subWith_true, Thread.compared, ← sub_beq_zero]
  rfl

section Arith
variable (t : Thread) (r : Nat) (a b : Word32)

theorem Thread.setReg_addWith (cin : Bool) : (t.arith (addWith a b cin)).setReg r (addWith a b cin).1
    = (t.setReg r (a + b + BitVec.ofNat 32 (b2n cin))).summed a b cin := by
  rw [Thread.arith_addWith, addWith_sum]
  rfl

theorem Thread.setReg_addWith_false :
    (t.arith (addWith a b false)).setReg r (addWith a b false).1 = (t.setReg r (a + b)).summed a b false := by
  rw [Thread.setReg_addWith, b2n, if_neg Bool.false_ne_true, BitVec.add_zero]

theorem Thread.setReg_subWith :
    (t.arith (subWith a b true)).setReg r (subWith a b true).1 = (t.setReg r (a - b)).compared a b := by
  rw [Thread.arith_subWith, subWith_true]
  rfl

theorem Thread.setReg_subWith_zero : (t.arith (subWith 0 a true)).setReg r (subWith 0 a true).1
    = (t.setReg r (-a)).flags (a == 0) (-a).msb (a == 0) (overflows (-a.toInt)) := by
  have hz : ((0 : Word32) == a) = (a == 0) := BEq.comm
  have hc : decide (a.toNat ≤ (0 : Word32).toNat) = (a == 0) := by
    rw [Bool.beq_eq_decide_eq, decide_eq_decide, ← BitVec.toNat_inj]
    exact Nat.le_zero
  have hi : (0 : Word32).toInt = 0 := rfl
  rw [Thread.setReg_subWith, Thread.compared, hz, hc, hi, zero_sub, Int.zero_sub]

end Arith

/-- Settles O4: an addition is the model's own, and a subtraction adds the complement. -/
theorem arithmeticResults : Obligations.ArithmeticResults := by
  intro d k dst src imm
  have hsbc := subWith_eq ((d.thr k).reg dst) ((d.thr k).reg src) (d.thr k).c
  refine ⟨fun h => form2_retires (fun _ => rfl) h (Thread.setReg_addWith_false ..),
    fun h => form2_retires (fun _ => rfl) h (Thread.setReg_subWith ..),
    fun h => form2_retires (fun _ => rfl) h (Thread.setReg_addWith ..),
    fun h => form2_retires (fun _ => rfl) h ?sbc,
    fun h => form2_retires (fun _ => rfl) h (Thread.arith_subWith ..),
    fun h => form1_retires (fun _ => rfl) h (Thread.setReg_subWith_zero ..),
    fun h => formImm_retires (fun _ => rfl) h (Thread.setReg_addWith_false ..),
    fun h => formImm_retires (fun _ => rfl) h (Thread.arith_subWith ..)⟩
  rw [hsbc]
  rfl

end Sys2Proof.Machine
end

/-! ## Logic, products and the one-register group (R183) -/
section
namespace Sys2Proof.Machine

theorem bitAt_eq_testBit (x i : Nat) : bitAt x i = x.testBit i := by
  rw [Nat.testBit_eq_decide_div_mod_eq]
  rfl

theorem bitAt_toNat {w : Nat} (a : BitVec w) (i : Nat) : bitAt a.toNat i = a.getLsbD i := bitAt_eq_testBit _ _

theorem mulHigh_natCast (m n : Nat) : mulHigh ((m : Int) * n) = BitVec.ofNat 32 (m * n / 2 ^ 32) := by
  have h : ((m : Int) * n) / 2 ^ 32 = ((m * n / 2 ^ 32 : Nat) : Int) := by push_cast; rfl
  rw [mulHigh, h, BitVec.ofInt_natCast]

/-- A number's low bits taken as signed are those bits with their sign extended. -/
theorem signed32_eq_signExtend {w : Nat} (hw : w ≠ 0) (x : Nat) : signed32 w x = (BitVec.ofNat w x).signExtend 32 := by
  have hx : x % 2 ^ w = (BitVec.ofNat w x).toNat := (BitVec.toNat_ofNat ..).symm
  rw [signed32, BitVec.signExtend, BitVec.toInt_eq_msb_cond, BitVec.msb_eq_getLsbD_last, ← bitAt_toNat, hx]
  split
  · contradiction
  split
  · rfl
  · exact (BitVec.ofInt_natCast ..).symm

theorem toNat_append_byte {w : Nat} (x : BitVec w) (y : Byte) : (x ++ y).toNat = x.toNat * 256 + y.toNat := by
  rw [BitVec.toNat_append, ← Nat.shiftLeft_add_eq_or_of_lt y.isLt, Nat.shiftLeft_eq]

theorem bswap32_eq (a : Word32) :
    bswap32 a = a.extractLsb' 0 8 ++ a.extractLsb' 8 8 ++ a.extractLsb' 16 8 ++ a.extractLsb' 24 8 := by
  apply BitVec.eq_of_toNat_eq
  simp only [bswap32, leBytes, List.reverse_cons, List.reverse_nil, List.nil_append, List.cons_append, leNat, BitVec.toNat_ofNat,
    toNat_append_byte, BitVec.extractLsb'_toNat, Nat.shiftRight_eq_div_pow, Nat.div_div_eq_div_mul, Nat.reducePow, Nat.reduceMul]
  omega

theorem popc32_eq (a : Word32) : popc32 a = (List.range 32).countP (fun i => a.getLsbD i) := by
  simp only [popc32, bitAt_toNat, List.countP_eq_length_filter]

theorem getElem?_eq_getLsbD (a : Word32) {i : Nat} (h : i < 32) : a[i]? = some (a.getLsbD i) := by
  rw [BitVec.getElem?_eq_getElem h, BitVec.getLsbD_eq_getElem h]

/-- The count of leading zeros, by the bits themselves. -/
theorem clz32_spec (a : Word32) : clz32 a ≤ 32 ∧ (a = 0 ↔ clz32 a = 32) ∧ (∀ i < clz32 a, a[31 - i]? = some false)
    ∧ (clz32 a < 32 → a[31 - clz32 a]? = some true) := by
  unfold clz32
  simp only [bitAt_toNat]
  cases h : (List.range 32).find? (fun i => a.getLsbD (31 - i)) with
  | none =>
    simp only [List.find?_eq_none, List.mem_range, Bool.not_eq_true] at h
    have hz : a = 0 := BitVec.eq_of_getLsbD_eq fun i hi => by
      have := h (31 - i) (by omega)
      rw [show 31 - (31 - i) = i by omega] at this
      rw [this]
      exact (BitVec.getLsbD_zero).symm
    refine ⟨Nat.le_refl _, by simp [hz], fun i hi => ?_, fun hn => absurd hn (Nat.lt_irrefl _)⟩
    rw [getElem?_eq_getLsbD a (by omega), h i hi]
  | some n =>
    obtain ⟨hbit, hn, hbefore⟩ := List.find?_range_eq_some.1 h
    rw [List.mem_range] at hn
    refine ⟨hn.le, ⟨fun ha => ?_, fun hn' => absurd hn' hn.ne⟩, fun i hi => ?_, fun _ => ?_⟩
    · simp [ha] at hbit
    · rw [getElem?_eq_getLsbD a (by omega), show a.getLsbD (31 - i) = false by simpa using hbefore i hi]
    · rw [getElem?_eq_getLsbD a (by omega), Option.getD_some, hbit]

theorem Dev.issues_swap (d : Dev) (k mask pat cost a b : Nat) (x : Bool) :
    d.issues k mask pat cost [a, b] x = d.issues k mask pat cost [b, a] x := by
  have h : (d.thr k).scored [a, b] = (d.thr k).scored [b, a] := by
    simp only [Thread.scored, List.any_cons, List.any_nil, Bool.or_false]
    exact Bool.or_comm _ _
  simp only [Dev.issues, h]

theorem ite_slt (a b x y : Word32) : (if a.slt b then x else y) = if a.toInt < b.toInt then x else y := by
  simp only [BitVec.slt_iff_toInt_lt]

/-- Settles O5: each operation is a function of the registers and the flags alone. -/
theorem logicResults : Obligations.LogicResults := by
  intro d k dst src imm
  have swap {op : Nat} : d.issues k 0x3FFF (op * 256 + dst * 16 + src) 1 [dst, src] false = true →
      d.issues k 0x3FFF (op * 256 + dst * 16 + src) 1 [src, dst] false = true := (d.issues_swap .. ▸ ·)
  refine ⟨fun h => form2_retires (fun _ => rfl) h rfl, fun h => form2_retires (fun _ => rfl) h rfl,
    fun h => form2_retires (fun _ => rfl) h rfl, fun h => form2_retires (fun _ => rfl) h rfl,
    fun h => form2_retires (fun _ => rfl) h rfl, fun h => formMul_retires (fun _ => rfl) (swap h) rfl,
    fun h => formMul_retires (fun _ => rfl) (swap h) rfl, fun h => formMul_retires (fun _ => rfl) (swap h) ?_,
    fun h => form2_retires (fun _ => rfl) h ?_, fun h => form2_retires (fun _ => rfl) h ?_,
    fun h => formImm_retires (fun _ => rfl) h rfl, fun h => form1_retires (fun _ => rfl) h rfl,
    fun h => ?_, fun h => form1_retires (fun _ => rfl) h ?_, fun h => form1_retires (fun _ => rfl) h ?_,
    fun h => form1_retires (fun _ => rfl) h ?_, fun h => form1_retires (fun _ => rfl) h ?_⟩
  · rw [mulHigh_natCast]
  · rw [ite_slt]
  · rw [ite_slt]
  · obtain ⟨hle, hzero, hbefore, hbit⟩ := clz32_spec ((d.thr k).reg dst)
    exact ⟨_, hle, hzero, hbefore, hbit, form1_retires (fun _ => rfl) h rfl⟩
  · rw [bswap32_eq]
  · rw [signed32_eq_signExtend (by decide)]
    rfl
  · rw [signed32_eq_signExtend (by decide)]
    rfl
  · rw [popc32_eq]

end Sys2Proof.Machine
end

/-! ## Shifts and rotations (R183) -/
section
namespace Sys2Proof.Machine

section Shift
variable {c : Instr} {d : Dev} {k op dst src : Nat} {s : ShiftOp}

/-- A thread after a shift whose result is `r`, with the last bit out. -/
def Thread.shifted (t : Thread) (dst : Nat) (r : Word32) (n : Nat) (out : Bool) : Thread :=
  (t.setReg dst r).flags (r == 0) r.msb (if n = 0 then t.c else out) t.v

theorem Thread.shift_eq (t : Thread) (dst : Nat) (a r : Word32) (n : Nat) (out : Bool) (hr : shiftVal s a n = r)
    (ho : shiftOut s a n = out) : (t.shift s a n).2.setReg dst (t.shift s a n).1 = t.shifted dst r n out := by
  subst hr ho
  rfl

theorem formShift_retires {r : Word32} {out : Bool} (hc : Does c d (d.formShift k op dst src s))
    (h : d.issues k 0x3FFF (op * 256 + dst * 16 + src) 1 [dst, src] false = true)
    (hr : shiftVal s ((d.thr k).reg dst) (((d.thr k).reg src).toNat % 32) = r)
    (ho : shiftOut s ((d.thr k).reg dst) (((d.thr k).reg src).toNat % 32) = out) :
    Retires c d k 1 ((d.thr k).pc.toNat + 1) (fun t => t.shifted dst r (((d.thr k).reg src).toNat % 32) out) :=
  form2_retires hc h (Thread.shift_eq _ _ _ _ _ _ hr ho)

theorem formShiftImm_retires {n : Nat} {r : Word32} {out : Bool} (hc : Does c d (d.formShiftImm k op dst n s))
    (h : d.issues k 0x3FFF (op * 256 + dst * 16 + n) 1 [dst] false = true) (hr : shiftVal s ((d.thr k).reg dst) (n + 1) = r)
    (ho : shiftOut s ((d.thr k).reg dst) (n + 1) = out) :
    Retires c d k 1 ((d.thr k).pc.toNat + 1) (fun t => t.shifted dst r (n + 1) out) := by
  have hg : Thread.Computes (fun t => (t.shift s (t.reg dst) (n + 1)).2.setReg dst (t.shift s (t.reg dst) (n + 1)).1) := {}
  exact retires_go hc h rfl (Thread.shift_eq (s := s) (d.thr k) dst _ _ _ _ hr ho ▸ hg.arch (d.thr k)) hg.pc hg.fetched hg.slots

end Shift

/-! ### The last bit out -/

section Out
variable (a : Word32) {n : Nat}

theorem shiftOut_shl (n : Nat) : shiftOut .shl a n = a.getLsbD (32 - n) := bitAt_toNat a _

theorem shiftOut_shr (n : Nat) : shiftOut .shr a n = a.getLsbD (n - 1) := bitAt_toNat a _

theorem shiftOut_ror (n : Nat) : shiftOut .ror a n = a.getLsbD (n - 1) := bitAt_toNat a _

theorem shiftOut_sar (hn : n ≤ 32) : shiftOut .sar a n = a.getLsbD (n - 1) := by
  rw [shiftOut, bitAt_toNat, BitVec.getLsbD_sshiftRight]
  simp [show n - 1 < 32 by omega]

theorem shiftVal_ror (hn : n < 32) : shiftVal .ror a n = a.rotateRight n := by
  rw [shiftVal, Nat.mod_eq_of_lt hn]

end Out

/-- Settles O6: the result and the last bit out of each shift, at a count below 32. -/
theorem shiftResults : Obligations.ShiftResults := by
  intro d k dst src
  have hm : ((d.thr k).reg src).toNat % 32 < 32 := Nat.mod_lt _ (by decide)
  have hn : src.val + 1 < 32 := by omega
  exact ⟨fun h => formShift_retires (fun _ => rfl) h rfl (shiftOut_shl ..),
    fun h => formShift_retires (fun _ => rfl) h rfl (shiftOut_shr ..),
    fun h => formShift_retires (fun _ => rfl) h rfl (shiftOut_sar _ hm.le),
    fun h => formShift_retires (fun _ => rfl) h (shiftVal_ror _ hm) (shiftOut_ror ..),
    fun h => formShiftImm_retires (fun _ => rfl) h rfl (shiftOut_shl ..),
    fun h => formShiftImm_retires (fun _ => rfl) h rfl (shiftOut_shr ..),
    fun h => formShiftImm_retires (fun _ => rfl) h rfl (shiftOut_sar _ hn.le),
    fun h => formShiftImm_retires (fun _ => rfl) h (shiftVal_ror _ hn) (shiftOut_ror ..)⟩

end Sys2Proof.Machine
end

/-! ## Calls, jumps, returns and the debug halt (R163, R183, R499) -/
section
namespace Sys2Proof.Machine

/-- The registers that the issue of an instruction counts in lie in Draught's block, but for the trace's status. -/
theorem not_mem_issueRegs {k a : Nat} (hk : k < 1664) (ha : a < 0x620108 ∨ 0x630000 ≤ a) (ht : a ≠ 0x1300210) : a ∉ issueRegs k := by
  simp only [issueRegs, R.DB_GTRSTAT, R.DR_CLOAD, R.DR_CHIST, List.mem_cons, List.not_mem_nil, or_false, not_or]
  omega

theorem Dev.on_congr {d e : Dev} {r : Reg} (h : e.rget r = d.rget r) (f : Fld) : e.on r f = d.on r f := by
  rw [Dev.on, Dev.on, Dev.rd, Dev.rd, h]

theorem Dev.begun_unlocked (d : Dev) (k : Fin 1664) (cost : Nat) (rs : List Nat) : (d.begun k cost rs).unlocked = d.unlocked := by
  obtain ⟨-, -, -, -, hreg⟩ := IssueFrame.begun d k cost rs
  exact Dev.on_congr (hreg R.DB_STAT (not_mem_issueRegs k.isLt (by decide) (by decide))) _

theorem Thread.Computes.begun {g : Thread → Thread} (hg : Thread.Computes g) (d : Dev) (k cost : Nat) (rs : List Nat) :
    (g ((d.begun k cost rs).thr k)).arch = (g (d.thr k)).arch := by
  obtain ⟨st, hf, b, l, fb, ht⟩ := d.begun_thr k cost rs
  rw [ht]
  exact hg.arch ..

theorem Thread.Computes.setReg (r : Nat) (v : Word32) : Thread.Computes (fun t => t.setReg r v) := {}

/-- Settles O8: a jump goes on elsewhere, with what it changes of its thread; the other instructions go on at the next word. -/
theorem controlFlow : Obligations.ControlFlow := by
  intro d k src off
  refine ⟨fun h => ?call, fun h => ?jr, fun h => ?callr, fun h => ?ret, fun h => ?nop, fun h hin => ?rti, fun h hin => ?outside,
    fun h hl => ?locked, fun h hu => ?halt⟩
  case call =>
    refine (retires_jump (g := fun t => t.setReg 15 (BitVec.ofNat 32 ((d.begun k 2 [15]).thr k).pc.toNat)) (fun _ => rfl) h rfl ?_
      fun _ => rfl).congr_pc ?_
    · rw [d.begun_pc]
      exact (Thread.Computes.setReg _ _).begun d k 2 _
    · rw [d.begun_pc, Nat.mod_mod, Nat.mod_add_mod]
  case jr => exact (retires_elsewhere (fun _ => rfl) h rfl).congr_pc (Nat.mod_mod _ _)
  case callr =>
    refine (retires_jump (g := fun t => t.setReg 15 (BitVec.ofNat 32 t.pc.toNat)) (fun _ => rfl) h rfl ?_ fun _ => rfl).congr_pc
      (Nat.mod_mod _ _)
    rw [d.begun_pc]
    exact (Thread.Computes.setReg _ _).begun d k 2 _
  case ret => exact (retires_elsewhere (fun _ => rfl) h rfl).congr_pc (Nat.mod_mod _ _)
  case nop => exact retires_next (fun _ => rfl) h rfl
  case rti =>
    have hg : Thread.Computes (fun x => { x.setTsw (d.thr k).itsw with inHnd := false }) := {}
    exact retires_jump (fun _ => rfl) h (if_pos hin) (hg.begun ..) fun _ => rfl
  case outside =>
    rw [← Dev.issues_tsw] at h
    refine does_faultThread_illegal (fun _ => rfl) h ?_
    exact if_neg (ne_true_of_eq_false hin)
  case locked =>
    refine retires_next (fun _ => rfl) h ?_
    rw [d.begun_unlocked, hl, if_neg Bool.false_ne_true]
  case halt =>
    have hc : Does (.brk k) d (d.issue k 0x3FF0 0x3240 1 [] false (fun _ d => .go (if d.unlocked then d.holdThread k else d))) := fun _ => rfl
    rwa [Dev.issue_eq _ h, d.begun_unlocked, hu, if_pos rfl] at hc

end Sys2Proof.Machine
end

/-! ## Registers and their fields (R4) -/
section
namespace Sys2Proof.Machine

section Fields
variable (f : Fld) (v : Word64) (x : Nat) (hf : f.lo + f.w ≤ 64)
include hf

/-- A field's write keeps the bits below and above it. -/
theorem Fld.put_toNat :
    (f.put v x).toNat = v.toNat % 2 ^ f.lo + 2 ^ f.lo * (x % 2 ^ f.w + 2 ^ f.w * (v.toNat / 2 ^ f.lo / 2 ^ f.w)) := by
  have hsplit : v.toNat = v.toNat % 2 ^ f.lo + 2 ^ f.lo * (f.get v + 2 ^ f.w * (v.toNat / 2 ^ f.lo / 2 ^ f.w)) := by
    rw [Fld.get, bitsOf, Nat.mod_add_div, Nat.mod_add_div]
  have hput : v.toNat - f.get v * 2 ^ f.lo + x % 2 ^ f.w * 2 ^ f.lo
      = v.toNat % 2 ^ f.lo + 2 ^ f.lo * (x % 2 ^ f.w + 2 ^ f.w * (v.toNat / 2 ^ f.lo / 2 ^ f.w)) := by
    rw [Nat.mul_add] at hsplit ⊢
    rw [Nat.mul_comm (f.get v), Nat.mul_comm (x % _)]
    omega
  have hlow : v.toNat % 2 ^ f.lo < 2 ^ f.lo := Nat.mod_lt _ (Nat.two_pow_pos _)
  have hval : x % 2 ^ f.w < 2 ^ f.w := Nat.mod_lt _ (Nat.two_pow_pos _)
  have hhigh : v.toNat / 2 ^ f.lo / 2 ^ f.w < 2 ^ (64 - (f.lo + f.w)) := by
    rw [Nat.div_div_eq_div_mul, ← Nat.pow_add, Nat.div_lt_iff_lt_mul (Nat.two_pow_pos _), ← Nat.pow_add, Nat.sub_add_cancel hf]
    exact v.isLt
  rw [Fld.put, BitVec.toNat_ofNat, hput, Nat.mod_eq_of_lt]
  calc v.toNat % 2 ^ f.lo + 2 ^ f.lo * (x % 2 ^ f.w + 2 ^ f.w * (v.toNat / 2 ^ f.lo / 2 ^ f.w))
      < 2 ^ f.lo * (x % 2 ^ f.w + 2 ^ f.w * (v.toNat / 2 ^ f.lo / 2 ^ f.w) + 1) := by rw [Nat.mul_succ]; omega
    _ ≤ 2 ^ f.lo * (2 ^ f.w * 2 ^ (64 - (f.lo + f.w))) := by
      refine Nat.mul_le_mul_left _ ?_
      calc _ ≤ 2 ^ f.w * (v.toNat / 2 ^ f.lo / 2 ^ f.w + 1) := by rw [Nat.mul_succ]; omega
        _ ≤ _ := Nat.mul_le_mul_left _ hhigh
    _ = 2 ^ 64 := by rw [← Nat.pow_add, ← Nat.pow_add]; congr 1; omega

theorem Fld.get_put : f.get (f.put v x) = x % 2 ^ f.w := by
  rw [Fld.get, bitsOf, f.put_toNat v x hf, Nat.add_mul_div_left _ _ (Nat.two_pow_pos _),
    Nat.div_eq_of_lt (Nat.mod_lt _ (Nat.two_pow_pos _)), Nat.zero_add, Nat.add_mul_mod_self_left, Nat.mod_mod]

theorem Fld.get_put_above {g : Fld} (h : f.lo + f.w ≤ g.lo) : g.get (f.put v x) = g.get v := by
  have hcut (n : Nat) : n / 2 ^ g.lo = n / 2 ^ f.lo / 2 ^ f.w / 2 ^ (g.lo - (f.lo + f.w)) := by
    rw [Nat.div_div_eq_div_mul, Nat.div_div_eq_div_mul, ← Nat.pow_add, ← Nat.pow_add, ← Nat.add_assoc, Nat.add_sub_cancel' h]
  rw [Fld.get, Fld.get, bitsOf, bitsOf, hcut, hcut v.toNat, f.put_toNat v x hf, Nat.add_mul_div_left _ _ (Nat.two_pow_pos _),
    Nat.div_eq_of_lt (Nat.mod_lt _ (Nat.two_pow_pos f.lo)), Nat.zero_add, Nat.add_mul_div_left _ _ (Nat.two_pow_pos _),
    Nat.div_eq_of_lt (Nat.mod_lt _ (Nat.two_pow_pos f.w)), Nat.zero_add]

theorem Fld.get_put_below {g : Fld} (h : g.lo + g.w ≤ f.lo) : g.get (f.put v x) = g.get v := by
  have hcut (n : Nat) : n / 2 ^ g.lo % 2 ^ g.w = n % 2 ^ f.lo / 2 ^ g.lo % 2 ^ g.w := by
    rw [← Nat.add_sub_cancel' (show g.lo ≤ f.lo by omega), Nat.pow_add, Nat.mod_mul_right_div_self,
      Nat.mod_mod_of_dvd _ (Nat.pow_dvd_pow 2 (by omega))]
  rw [Fld.get, Fld.get, bitsOf, bitsOf, hcut, hcut v.toNat, f.put_toNat v x hf, Nat.add_mul_mod_self_left, Nat.mod_mod]

end Fields

theorem Fld.get_lt (f : Fld) (v : Word64) : f.get v < 2 ^ f.w := Nat.mod_lt _ (Nat.two_pow_pos _)

theorem Dev.rd_lt (d : Dev) (r : Reg) (f : Fld) : d.rd r f < 2 ^ f.w := f.get_lt _

section Write
variable (d : Dev) (r : Reg) (f : Fld) (x : Nat)

theorem Dev.rget_wr_self : (d.wr r f x).rget r = f.put (d.rget r) x := Dev.rset_rget ..

theorem Dev.rget_wr_other {q : Reg} (h : q.addr ≠ r.addr) : (d.wr r f x).rget q = d.rget q := Dev.rset_rget_of_ne _ _ h

theorem Dev.rd_wr_other {q : Reg} (g : Fld) (h : q.addr ≠ r.addr) : (d.wr r f x).rd q g = d.rd q g := by
  rw [Dev.rd, Dev.rget_wr_other _ _ _ _ h, Dev.rd]

variable (hf : f.lo + f.w ≤ 64)
include hf

theorem Dev.rd_wr_self : (d.wr r f x).rd r f = x % 2 ^ f.w := by
  rw [Dev.rd, Dev.rget_wr_self, f.get_put _ _ hf]

theorem Dev.rd_wr_beside {g : Fld} (h : g.lo + g.w ≤ f.lo ∨ f.lo + f.w ≤ g.lo) : (d.wr r f x).rd r g = d.rd r g := by
  rw [Dev.rd, Dev.rget_wr_self, Dev.rd]
  cases h with
  | inl h => exact f.get_put_below _ _ hf h
  | inr h => exact f.get_put_above _ _ hf h

theorem Dev.rd_inc_self (h : d.rd r f + x ≤ f.max) : (d.inc r f x).rd r f = d.rd r f + x := by
  have hx : d.rd r f + x < 2 ^ f.w := Nat.lt_of_le_pred (Nat.two_pow_pos _) h
  simp only [Dev.inc, h, if_true]
  rw [Dev.rd_wr_self _ _ _ _ hf, Nat.mod_eq_of_lt hx]

theorem Dev.rd_inc_saturated (hs : f.sat = true) (h : f.max < d.rd r f + x) : (d.inc r f x).rd r f = f.max := by
  simp only [Dev.inc, Nat.not_le.2 h, hs, if_true, if_false]
  rw [Dev.rd_wr_self _ _ _ _ hf, Nat.mod_eq_of_lt (show f.max < 2 ^ f.w from Nat.sub_lt (Nat.two_pow_pos _) Nat.one_pos)]

end Write

/-- Settles O56: a register is one entry of a table, and a field's write is a write of it. -/
theorem registerFields : Obligations.RegisterFields := by
  intro d r f x hf
  exact ⟨d.rset_rget r, d.rd_wr_self r f x hf, fun g _ h => d.rd_wr_beside r f x hf h, fun q h => d.rget_wr_other r f x h,
    d.rd_inc_self r f x hf, d.rd_inc_saturated r f x hf⟩

end Sys2Proof.Machine
end

/-! ## Memory -/
section
namespace Sys2Proof.Machine

/-- Byte `i` of a number, as its little-endian bytes hold it. -/
theorem leNat_leBytes (n x : Nat) : leNat (leBytes n x) = x % 2 ^ (8 * n) := by
  induction n generalizing x with
  | zero => rw [Nat.mul_zero, Nat.pow_zero, Nat.mod_one]; rfl
  | succ n ih =>
    rw [leBytes, leNat, ih, BitVec.toNat_ofNat, Nat.mul_succ, Nat.add_comm (8 * n), Nat.pow_add]
    exact Nat.mod_mul.symm

@[simp] theorem length_leBytes (n x : Nat) : (leBytes n x).length = n := by
  induction n generalizing x with
  | zero => rfl
  | succ n ih => rw [leBytes, List.length_cons, ih]

@[simp] theorem Dev.length_bytes (d : Dev) (a n : Nat) : (d.bytes a n).length = n := by
  induction n generalizing a with
  | zero => rfl
  | succ n ih => rw [Dev.bytes, List.length_cons, ih]

theorem Dev.bytes_congr {d e : Dev} (a n : Nat) (h : ∀ i < n, e.byte (a + i) = d.byte (a + i)) : e.bytes a n = d.bytes a n := by
  induction n generalizing a with
  | zero => rfl
  | succ n ih =>
    rw [Dev.bytes, Dev.bytes, ih (a + 1) fun i hi => by simpa [Nat.add_assoc, Nat.add_comm 1] using h (i + 1) (by omega)]
    exact congrArg (· :: _) (h 0 n.succ_pos)

theorem Dev.load_congr {d e : Dev} (a n : Nat) (h : ∀ i < n, e.byte (a + i) = d.byte (a + i)) : e.load a n = d.load a n :=
  congrArg leNat (Dev.bytes_congr a n h)

section Put
variable (d : Dev) (a : Nat)

theorem Dev.byte_put_other (bs : List Byte) {b : Nat} (h : b < a ∨ a + bs.length ≤ b) : (d.put a bs).byte b = d.byte b :=
  Memory.read_writes_other _ _ _ h

theorem Dev.byte_put_cons (b : Byte) (bs : List Byte) : (d.put a (b :: bs)).byte a = b :=
  (Memory.read_writes_other _ _ _ (.inl (Nat.lt_succ_self a))).trans (Memory.read_write_self _ _ _)

theorem Dev.bytes_put_self (bs : List Byte) : (d.put a bs).bytes a bs.length = bs := by
  induction bs generalizing d a with
  | nil => rfl
  | cons b r ih =>
    have hrest : (d.put a (b :: r)).bytes (a + 1) r.length = r := ih (d.put a [b]) (a + 1)
    rw [List.length_cons, Dev.bytes, Dev.byte_put_cons, hrest]

theorem Dev.load_store_self (n x : Nat) : (d.store a n x).load a n = x % 2 ^ (8 * n) := by
  have h := d.bytes_put_self a (leBytes n x)
  rw [length_leBytes] at h
  rw [Dev.load, Dev.store, h, leNat_leBytes]

end Put

/-- Striking by key leaves every other key alone. -/
theorem Tab.get_filter_of_pos {α : Type} (m : Tab α) (p : Nat → Bool) (v : α) {k : Nat} (hk : p k = true) :
    Tab.get (m.filter (fun e => p e.1)) v k = Tab.get m v k := by
  induction m with
  | nil => rfl
  | cons e r ih =>
    obtain ⟨i, w⟩ := e
    by_cases hi : i = k
    · subst hi
      simp [Tab.get, Tab.find, hk]
    · cases hp : p i <;> simp_all [Tab.get, Tab.find]

theorem Tab.get_filter_of_neg {α : Type} (m : Tab α) (p : Nat → Bool) (v : α) {k : Nat} (hk : p k = false) :
    Tab.get (m.filter (fun e => p e.1)) v k = v := by
  induction m with
  | nil => rfl
  | cons e r ih =>
    obtain ⟨i, w⟩ := e
    have hi : p i = true → i ≠ k := fun hp h => by simp_all
    cases hp : p i <;> simp_all [Tab.get, Tab.find]

section Wipe
variable (d : Dev) {lo hi b : Nat}

theorem Dev.byte_wipe_other (h : b < lo ∨ hi ≤ b) : (d.wipe lo hi).byte b = d.byte b :=
  Tab.get_filter_of_pos d.mem (fun a => !(decide (lo ≤ a) && decide (a < hi))) _ (by simp; omega)

theorem Dev.byte_wipe_self (h : lo ≤ b) (h' : b < hi) : (d.wipe lo hi).byte b = memDefault b :=
  Tab.get_filter_of_neg d.mem (fun a => !(decide (lo ≤ a) && decide (a < hi))) _ (by simp [h, h'])

end Wipe

/-- Settles O57: a byte's write is read back and leaves the others, and so does the write of several. -/
theorem memoryReadWrite : Obligations.MemoryReadWrite := fun d a n x _ bs =>
  ⟨d.load_store_self a n x, d.bytes_put_self a bs, d.byte_put_other a bs, d.byte_wipe_other, d.byte_wipe_self⟩

end Sys2Proof.Machine
end

/-! ## What an instruction that issues comes to -/
section
namespace Sys2Proof.Machine

theorem Dev.turnAway_of_lt (d : Dev) (k : Nat) {why : Nat} (h : why < 6) : d.turnAway k why = d := by
  have h6 : decide (6 ≤ why) = false := decide_eq_false (Nat.not_le.2 h)
  rw [Dev.turnAway, h6, Bool.false_and, if_neg Bool.false_ne_true]

section Act
variable {c : Instr} {d e : Dev} {k mask pat cost code detail why : Nat} {rs : List Nat} {x : Bool} {body : Thread → Dev → Act}
  (hc : Does c d (d.issue k mask pat cost rs x body)) (h : d.issues k mask pat cost rs x = true)
include hc h

theorem does_go (hb : body (d.thr k) (d.begun k cost rs) = .go e) : Does c d (e.beyond d k) := by
  rwa [Dev.issue_eq body h, hb] at hc

theorem does_prefix (hb : body (d.thr k) (d.begun k cost rs) = .pre e) : Does c d e := by
  rwa [Dev.issue_eq body h, hb] at hc

theorem does_fault (hb : body (d.thr k) (d.begun k cost rs) = .fault code detail) (h4 : code ≠ 4) :
    Does c d (d.faultThread k code detail (d.thr k).pc.toNat) := by
  rw [Dev.issue_eq body h, hb] at hc
  simpa only [if_neg h4] using hc

theorem does_rank {u : Dev} (hb : body (d.thr k) (d.begun k cost rs) = .rank u detail) :
    Does c d (({ d with regs := u.regs }).faultThread k 6 detail (d.thr k).pc.toNat) := by
  rwa [Dev.issue_eq body h, hb] at hc

theorem does_stall (hb : body (d.thr k) (d.begun k cost rs) = .stall why) : Does c d ((d.turnAway k why).stallThread k why) := by
  rwa [Dev.issue_eq body h, hb] at hc

/-- A stall for want of anything but a place in a quadrant's queue. -/
theorem does_stall_of_lt (hb : body (d.thr k) (d.begun k cost rs) = .stall why) (hw : why < 6) : Does c d (d.stallThread k why) := by
  have hs := does_stall hc h hb
  rwa [d.turnAway_of_lt k hw] at hs

end Act

/-! ### What an effect leaves of the thread and the rest -/

theorem Dev.begun_arch (d : Dev) (k cost : Nat) (rs : List Nat) : ((d.begun k cost rs).thr k).arch = (d.thr k).arch := by
  obtain ⟨st, hf, b, l, fb, ht⟩ := d.begun_thr k cost rs
  rw [ht]
  rfl

theorem Dev.beyond_arch (d e : Dev) (k : Nat) : ((e.beyond d k).thr k).arch = (e.thr k).arch := (e.finish_after k _).1.1

theorem Dev.beyond_frame (d e : Dev) (k : Nat) : IssueFrame k e (e.beyond d k) := IssueFrame.finish e k _

theorem IssueFrame.byte {k : Nat} {d e : Dev} (h : IssueFrame k d e) (a : Nat) : e.byte a = d.byte a := h.2.1 a

theorem IssueFrame.thr {k j : Nat} {d e : Dev} (h : IssueFrame k d e) (hj : j ≠ k) : e.thr j = d.thr j := h.2.2.1 j hj

theorem IssueFrame.gal {k : Nat} {d e : Dev} (h : IssueFrame k d e) (g : Nat) :
    e.gal g = { d.gal g with cycle := (e.gal g).cycle } := h.2.2.2.1 g

theorem IssueFrame.rget {k : Nat} {d e : Dev} (h : IssueFrame k d e) {r : Reg} (hr : r.addr ∉ issueRegs k) : e.rget r = d.rget r :=
  h.2.2.2.2 r hr

theorem Thread.g_of_arch {t u : Thread} (h : t.arch = u.arch) : t.g = u.g := by
  show t.arch.g = u.arch.g
  rw [h]

theorem Thread.tsw_of_arch {t u : Thread} (h : t.arch = u.arch) : t.tsw = u.tsw := by
  show t.arch.tsw = u.arch.tsw
  rw [h]

/-- Device `e` differs from `d` in memory by `bs` at `x` alone, and thread `k` is the only one that differs. -/
structure Dev.Stored (d e : Dev) (k x : Nat) (bs : List Byte) : Prop where
  bytes : e.bytes x bs.length = bs
  beside : ∀ y, y < x ∨ x + bs.length ≤ y → e.byte y = d.byte y
  threads : ∀ j, j ≠ k → e.thr j = d.thr j

theorem Dev.beyond_put {d u v : Dev} {k x : Nat} {bs : List Byte} (hu : IssueFrame k d u)
    (hm : v.mem = Memory.writes u.mem x bs) (ht : ∀ j, j ≠ k → v.thr j = u.thr j) :
    d.Stored (v.beyond d k) k x bs := by
  have hv := d.beyond_frame v k
  have hput (y : Nat) : (v.beyond d k).byte y = (u.put x bs).byte y := by
    rw [hv.byte, Dev.byte, hm]
    rfl
  refine ⟨?_, fun y hy => ?_, fun j hj => (hv.thr hj).trans ((ht j hj).trans (hu.thr hj))⟩
  · rw [Dev.bytes_congr x _ fun i _ => hput (x + i), Dev.bytes_put_self]
  · rw [hput, Dev.byte_put_other _ _ _ hy, hu.byte]

end Sys2Proof.Machine
end

/-! ## EXT, IMW, FENCE, END and the reserved encodings (R165, R178, R187, R190) -/
section
namespace Sys2Proof.Machine

/-- An instruction word stands in two bytes. -/
theorem Dev.imem_of_bytes {d : Dev} {k w x : Nat} (h : d.bytes (imemAddr (k / 64) (k / 8 % 8) w) 2 = leBytes 2 (x % 2 ^ 14)) :
    d.imem k w = BitVec.ofNat 14 x := by
  rw [Dev.imem, Dev.load, h, leNat_leBytes]
  apply BitVec.eq_of_toNat_eq
  rw [BitVec.toNat_ofNat, BitVec.toNat_ofNat]
  omega

theorem Dev.goodWords_store_mem (u : Dev) (g x n w : Nat) :
    ((u.goodWords g x n).store x n w).mem = Memory.writes u.mem x (leBytes n w) := rfl

theorem Dev.goodWords_store_thr (u : Dev) (g x n w j : Nat) : ((u.goodWords g x n).store x n w).thr j = u.thr j := rfl

theorem Dev.goodWords_store_arch (d : Dev) (k cost g x n w : Nat) (rs : List Nat) :
    (((((d.begun k cost rs).goodWords g x n).store x n w).beyond d k).thr k).arch = (d.thr k).arch :=
  (d.beyond_arch _ k).trans (d.begun_arch k cost rs)

/-- A reserved encoding faults as illegal or as a coprocessor's (R193). -/
theorem reservedFault_ne_four {w c : Nat} (h : reservedFault w = some c) : c ≠ 4 := by
  rintro rfl
  unfold reservedFault at h
  extract_lets hi op at h
  iterate 6 (split at h; · simp at h)
  simp at h

/-- Settles O9: EXT and the reserved encodings by their bodies, IMW by its store, FENCE and END by the wait their body begins. -/
theorem prefixFenceAndIllegal : Obligations.PrefixFenceAndIllegal := by
  intro d k a b imm
  refine ⟨fun h hlen => ?ext, fun h hlen => ?fourth, fun h hw => ?imw, fun h hw => ?outside, fun h => ?fence, fun h => ?endNode,
    fun c hr h => ?reserved⟩
  case ext =>
    refine does_prefix (fun _ => rfl) h ?_
    exact if_neg (Nat.not_le.2 hlen)
  case fourth =>
    refine does_fault (fun _ => rfl) h ?_ (by decide)
    exact if_pos hlen
  case imw =>
    have hdoes := does_go (c := .imw k a b) (fun _ => rfl) h (if_neg (Nat.not_le.2 hw))
    obtain ⟨hbytes, hother, hthr⟩ := Dev.beyond_put (IssueFrame.begun d k 1 [a.val, b.val]) (Dev.goodWords_store_mem _ (k / 64)
      (imemAddr (k / 64) (k / 8 % 8) ((d.thr k).reg b).toNat) 2 (((d.thr k).reg a).toNat % 2 ^ 14))
      fun _ _ => Dev.goodWords_store_thr ..
    refine ⟨_, hdoes, Dev.imem_of_bytes hbytes, fun y hy hy' => hother y ?_, hthr, Thread.g_of_arch (Dev.goodWords_store_arch ..),
      Thread.tsw_of_arch (Dev.goodWords_store_arch ..)⟩
    rw [length_leBytes]
    omega
  case outside =>
    refine does_fault (fun _ => rfl) h ?_ (by decide)
    exact if_pos hw
  case fence =>
    have hc : Does (.fence k) d ((d.issue k 0x3FF0 0x3230 1 [] false (fun _ d =>
      .go (((d.modThr k (fun t => { t with draining := 1 })).sitOut k).stallThread k 0))).drainCheck k) := fun _ => rfl
    rwa [Dev.issue_eq _ h] at hc
  case endNode =>
    have hc : Does (.endNode k) d ((d.issue k 0x3FF0 0x3210 1 [] false (fun _ d =>
      .go (((d.modThr k (fun t => { t with draining := 2 })).sitOut k).stallThread k 0))).drainCheck k) := fun _ => rfl
    rwa [Dev.issue_eq _ h] at hc
  case reserved =>
    refine does_fault (body := fun t0 _ => .fault c t0.fetched.toNat) (fun q => ?_) h rfl (reservedFault_ne_four hr)
    show execIllegalInstruction k _ = _
    simp only [execIllegalInstruction, State.go, hr]

end Sys2Proof.Machine
end

/-! ## MFS and MTS over the special registers (R164, R173 to R175) -/
section
namespace Sys2Proof.Machine

/-! ### The gallery cycle moves on with every issue (R154, log entry 31) -/

theorem Dev.galTrace_gals (d : Dev) (k ev pc : Nat) : (d.galTrace k ev pc).gals = d.gals := by
  have hadd (e : Dev) (r : BitVec 128) : (e.galTraceAdd r).gals = e.gals := by
    unfold Dev.galTraceAdd
    split
    · exact Dev.inc_gals _ _ _ _
    · rfl
  unfold Dev.galTrace
  dsimp only
  split
  · rfl
  · rw [hadd]
    split <;> rfl

theorem Dev.countWait_gals (d : Dev) (k : Nat) (t : Thread) : (d.countWait k t).gals = d.gals := by
  unfold Dev.countWait
  split
  · split
    · exact Dev.inc_gals _ _ _ _
    · rfl
  · rfl

theorem Dev.taken_gals (d : Dev) (k cost : Nat) : (d.taken k cost).gals = d.gals := by
  unfold Dev.taken Dev.refetch
  simp only [Dev.modThr_gals, Dev.setThr_gals, Dev.inc_gals, Dev.countWait_gals]

theorem Dev.le_slotFrom (d : Dev) (k n : Nat) : n ≤ (d.slotFrom k n).1 := by
  unfold Dev.slotFrom
  cases h : (List.range 16).findSome? (fun i => (d.chooses k ((n + i) % 16)).map (fun o => (n + i, o))) with
  | none => exact Nat.le_refl n
  | some x =>
    obtain ⟨i, -, hi⟩ := List.exists_of_findSome?_eq_some h
    obtain ⟨o, -, rfl⟩ := Option.map_eq_some_iff.1 hi
    exact Nat.le_add_right n i

theorem Dev.gal_modThr (d : Dev) (k g : Nat) (f : Thread → Thread) : (d.modThr k f).gal g = d.gal g := rfl

theorem Dev.gal_modGal_self (d : Dev) (g : Nat) (f : Gallery → Gallery) : (d.modGal g f).gal g = f (d.gal g) := by
  simp only [Dev.modGal, Dev.gal, Tab.get_set_self]

theorem Dev.cycle_lt_ownSlot (d : Dev) (k : Nat) (rs : List Nat) : (d.gal (k / 64)).cycle < ((d.ownSlot k rs).gal (k / 64)).cycle := by
  unfold Dev.ownSlot Dev.fresh
  dsimp only
  rw [Dev.gal_modThr, Dev.gal_modGal_self]
  refine Nat.lt_of_lt_of_le ?_ (Dev.le_slotFrom _ k _)
  exact Nat.lt_of_lt_of_le (Nat.lt_succ_of_le (Nat.le_add_right _ _)) (Nat.le_max_left _ _)

theorem Dev.cycle_lt_begun (d : Dev) (k cost : Nat) (rs : List Nat) :
    (d.gal (k / 64)).cycle < ((d.begun k cost rs).gal (k / 64)).cycle := by
  have hg {a b : Dev} (h : a.gals = b.gals) : a.gal (k / 64) = b.gal (k / 64) := by rw [Dev.gal, h, Dev.gal]
  unfold Dev.begun
  rw [hg (Dev.taken_gals ..), hg (Dev.galTrace_gals ..)]
  split
  · rw [← hg (d.galTrace_gals k 2 (d.thr k).pc.toNat)]
    exact Dev.cycle_lt_ownSlot ..
  · exact Dev.cycle_lt_ownSlot ..

theorem Dev.begun_slots (d : Dev) (k cost : Nat) (rs : List Nat) : ((d.begun k cost rs).thr k).slots = (d.thr k).slots + cost := by
  obtain ⟨st, hf, b, l, fb, ht⟩ := d.begun_thr k cost rs
  rw [ht]

/-! ### Mode changes on their way (R164) -/

theorem Dev.applyMode_delayed (d : Dev) (k : Nat) (m : ModeChange) : ((d.applyMode k m).thr k).delayed = (d.thr k).delayed := by
  cases m <;> rw [Dev.applyMode, Dev.thr_modThr_self]

/-- A mode change that an instruction has begun is not one of those that come nearer with it. -/
theorem Dev.mem_finish_delayed {d : Dev} {k n : Nat} {x : Nat × ModeChange} (h : x ∈ (d.thr k).delayed.drop n) :
    x ∈ ((d.finish k n).thr k).delayed := by
  have hmodes (l : List (Nat × ModeChange)) (e : Dev) :
      ((l.foldl (fun d x => d.applyMode k x.2) e).thr k).delayed = (e.thr k).delayed := by
    induction l generalizing e with
    | nil => rfl
    | cons y l ih => exact (ih _).trans (Dev.applyMode_delayed ..)
  have hstep (e : Dev) (f : Thread → Thread) (hf : ∀ t, (f t).delayed = t.delayed) :
      ((e.modThr k f).thr k).delayed = (e.thr k).delayed := by rw [Dev.thr_modThr_self, hf]
  unfold Dev.finish Dev.tickModes
  rw [hstep _ _ (fun t => by split <;> rfl), hmodes, Dev.thr_modThr_self, hstep]
  · exact List.mem_append_right _ h
  · exact fun _ => rfl

/-! ### MFS and MTS -/

theorem Dev.issues_special (d : Dev) (k mask pat cost r num : Nat) (x : Bool) :
    d.issues k mask pat cost (specialRegs r num) x = d.issues k mask pat cost [r] x := by
  unfold specialRegs
  split <;> rfl

/-- The special registers 0 to 11, as MFS reads them (R174). -/
def Thread.special (t : Thread) (k : Nat) : List Word32 :=
  [t.tsw.setWidth 32, t.agm.setWidth 32, t.ab0, t.al0, t.as0, t.ab1, t.al1, t.as1, t.ipc.setWidth 32, t.itsw.setWidth 32,
   t.epoch.setWidth 32, BitVec.ofNat 32 k]

theorem Dev.special_of_getElem? {d : Dev} {k n : Nat} {t : Thread} {x : Word32} (h : (t.special k)[n]? = some x) :
    d.special k t n = some x := by
  obtain ⟨hn, rfl⟩ := List.getElem?_eq_some_iff.1 h
  have hn : n < 12 := hn
  interval_cases n <;> rfl

theorem Dev.special_cycle (d : Dev) (k : Nat) (t : Thread) : d.special k t 12 = some (BitVec.ofNat 32 (d.gal (k / 64)).cycle) := rfl

theorem Dev.special_slots (d : Dev) (k : Nat) (t : Thread) : d.special k t 13 = some (BitVec.ofNat 32 (d.thr k).slots) := rfl

theorem Dev.special_reserved (d : Dev) (k : Nat) (t : Thread) {n : Nat} (h : 14 ≤ n) : d.special k t n = none := by
  obtain ⟨m, rfl⟩ := Nat.exists_eq_add_of_le' h
  rfl

section Retires
variable {c : Instr} {d : Dev} {k mask pat cost : Nat} {rs : List Nat} {x : Bool} {body : Thread → Dev → Act} {g : Thread → Thread}

theorem retires_computes (hc : Does c d (d.issue k mask pat cost rs x body)) (h : d.issues k mask pat cost rs x = true)
    (hb : body (d.thr k) (d.begun k cost rs) = .go ((d.begun k cost rs).modThr k g)) (hg : Thread.Computes g := by exact {}) :
    Retires c d k cost ((d.thr k).pc.toNat + 1) g :=
  retires_go hc h hb (hg.arch (d.thr k)) hg.pc hg.fetched hg.slots

end Retires

section Mfs
variable {d : Dev} {k : Fin 1664} {r num : Fin 16} (h : d.issues k 0x3FFF (0x3000 + r * 16 + num) 1 (specialRegs r num) false = true)
include h

theorem mfs_retires {v : Word32} (hv : (d.begun k 1 (specialRegs r num)).special k (d.thr k) num = some v) :
    Retires (.mfs k r num) d k 1 ((d.thr k).pc.toNat + 1) (fun t => t.setReg r v) := by
  refine retires_computes (fun _ => rfl) h ?_
  simp only [hv]

theorem mfs_reserved (hn : 14 ≤ num.val) : Does (.mfs k r num) d (d.faultThread k 1 (d.thr k).fetched.toNat (d.thr k).pc.toNat) := by
  refine does_fault (fun _ => rfl) h ?_ (by decide)
  simp only [Dev.special_reserved _ _ _ hn]

end Mfs

theorem mts_agm_delays {d : Dev} {k : Fin 1664} {r num : Fin 16}
    (h : d.issues k 0x3FFF (0x3100 + num * 16 + r) 1 (specialRegs r num) false = true) (hn : num.val = 1) :
    Retires (.mts k num r) d k 1 ((d.thr k).pc.toNat + 1) (fun t => { t with agm := ((d.thr k).reg r).setWidth 4 })
      ∧ ∃ e, Does (.mts k num r) d e ∧ (2, ModeChange.agm (((d.thr k).reg r).setWidth 4)) ∈ (e.thr k).delayed := by
  obtain ⟨n, hlt⟩ := num
  change n = 1 at hn
  subst hn
  have hdoes := does_go (c := .mts k ⟨1, hlt⟩ r) (fun _ => rfl) h rfl
  obtain ⟨st, hf, b, l, fb, ht⟩ := d.begun_thr k 1 (specialRegs r 1)
  refine ⟨retires_of_run hdoes (IssueFrame.trans (IssueFrame.modThr ..) (IssueFrame.modThr ..)) ?_ ?_ ?_ ?_, _, hdoes,
    Dev.mem_finish_delayed ?_⟩ <;> rw [Dev.delayMode, Dev.thr_modThr_self, Dev.thr_modThr_self, ht]
  · rfl
  · exact List.drop_append_of_le_length (Nat.le_refl _) ▸ List.mem_append_right _ (List.mem_singleton.2 rfl)

/-- Settles O10: MFS reads and MTS writes by the number, and AGM goes on its way as a mode change. -/
theorem specialRegisters : Obligations.SpecialRegisters := by
  intro d k r num
  refine ⟨fun h => ?mfs, fun h => ?mts⟩
  case mfs =>
    rw [← Dev.issues_special d k _ _ _ r num] at h
    refine ⟨fun x hx => mfs_retires h (Dev.special_of_getElem? hx), fun hn => ⟨_, d.cycle_lt_begun k 1 (specialRegs r num), ?_⟩,
      fun hn => ?_, mfs_reserved h⟩
    · exact mfs_retires h (hn ▸ Dev.special_cycle ..)
    · exact d.begun_slots k 1 (specialRegs r num) ▸ mfs_retires h (hn ▸ Dev.special_slots ..)
  case mts =>
    rw [← Dev.issues_special d k _ _ _ r num] at h
    refine ⟨fun hn => ?_, mts_agm_delays h, fun hn => ?_, fun hn => ?_, fun hn => ?_, fun hn => ?_, fun hn => ?_, fun hn => ?_,
      fun hn => ?_, fun hn => ?_, fun hn => ?reserved⟩
    case reserved =>
      obtain ⟨n, hlt⟩ := num
      obtain ⟨m, rfl⟩ := Nat.exists_eq_add_of_le' hn
      exact does_fault (fun _ => rfl) h rfl (by decide)
    all_goals
      obtain ⟨n, hlt⟩ := num
      change n = _ at hn
      subst hn
      exact retires_computes (fun _ => rfl) h rfl

end Sys2Proof.Machine
end

/-! ## What the issue of an instruction leaves for the checks of its body -/
section
namespace Sys2Proof.Machine

section Begun
variable (d : Dev) (k : Fin 1664) (cost : Nat) (rs : List Nat)

theorem Dev.begun_rget {r : Reg} (ha : r.addr < 0x620108 ∨ 0x630000 ≤ r.addr) (ht : r.addr ≠ 0x1300210) :
    (d.begun k cost rs).rget r = d.rget r := (IssueFrame.begun d k cost rs).rget (not_mem_issueRegs k.isLt ha ht)

theorem Dev.begun_ctl : (d.begun k cost rs).ctl k = d.ctl k := by
  have hr : (d.begun k cost rs).rget (R.GL_TCTL (k / 64) (k / 8 % 8) (k % 8)) = d.rget (R.GL_TCTL (k / 64) (k / 8 % 8) (k % 8)) :=
    d.begun_rget k cost rs (by dsimp only [R.GL_TCTL]; omega) (by dsimp only [R.GL_TCTL]; omega)
  obtain ⟨st, hf, b, l, fb, ht⟩ := d.begun_thr k cost rs
  simp only [Dev.ctl, Dev.rd, hr, ht]

theorem Dev.begun_place (a : Nat) : (d.begun k cost rs).place k a = d.place k a := by
  simp only [Dev.place, d.begun_ctl]

theorem Dev.begun_watchHit (a : Nat) (store : Bool) : (d.begun k cost rs).watchHit k a store = d.watchHit k a store := by
  have hr {n : Nat} (hn : n ∈ List.range 8) : (d.begun k cost rs).rget (R.DB_WP n) = d.rget (R.DB_WP n) := by
    rw [List.mem_range] at hn
    exact d.begun_rget k cost rs (by dsimp only [R.DB_WP]; omega) (by dsimp only [R.DB_WP]; omega)
  rw [Dev.watchHit, Dev.watchHit, d.begun_unlocked, Bool.eq_iff_iff, Bool.and_eq_true, Bool.and_eq_true, List.any_eq_true, List.any_eq_true]
  refine and_congr_right' (exists_congr fun n => and_congr_right fun hn => ?_)
  simp only [Dev.on, Dev.rd, hr hn]
  exact Iff.rfl

theorem Dev.begun_access (t : Thread) (b n : Nat) (store : Bool) (dst : Option Nat) :
    (d.begun k cost rs).access k t b n store dst = d.access k t b n store dst := by
  simp only [Dev.access, d.begun_place, d.begun_watchHit]

theorem Dev.begun_wordBad (g a n : Nat) : (d.begun k cost rs).wordBad g a n = d.wordBad g a n := by
  have hg := (IssueFrame.begun d k cost rs).gal g
  rw [Dev.wordBad, hg, Dev.wordBad]

theorem Dev.begun_bytes (a n : Nat) : (d.begun k cost rs).bytes a n = d.bytes a n :=
  Dev.bytes_congr a n fun _ _ => (IssueFrame.begun d k cost rs).byte _

end Begun

theorem Dev.access_of_reaches {d : Dev} {k b n : Nat} {store : Bool} {dst : Option Nat} {x : Nat × Place}
    (h : d.reaches k b n store dst = some x) : d.access k (d.thr k) b n store dst = .ok x := by
  unfold Dev.reaches at h
  split at h
  · next hx => exact Option.some.inj h ▸ hx
  · contradiction

end Sys2Proof.Machine
end

/-! ## Loads (R150, R182, R183, R187, R189) -/
section
namespace Sys2Proof.Machine

section AgStep
variable (t : Thread) (b z : Nat)

/-- The address generator changes a general register alone. -/
theorem Thread.agStep_eq : ∃ r v, t.agStep b z = t ∨ t.agStep b z = t.setReg r v := by
  unfold Thread.agStep
  dsimp only
  split
  · exact ⟨0, 0, .inl rfl⟩
  · split
    · exact ⟨_, _, .inr rfl⟩
    · exact ⟨_, _, .inr rfl⟩

/-- The figures that issue keeps of a thread are those of another. -/
structure Thread.SameIssue (t u : Thread) : Prop where
  pc : t.pc = u.pc
  fetched : t.fetched = u.fetched
  slots : t.slots = u.slots

theorem Thread.agStep_sameIssue : (t.agStep b z).SameIssue t := by
  obtain ⟨r, v, h | h⟩ := t.agStep_eq b z
  · rw [h]
    exact ⟨rfl, rfl, rfl⟩
  · rw [h]
    exact ⟨rfl, rfl, rfl⟩

end AgStep

/-- The step turns on what issue keeps no books on, and on the mode in force. -/
theorem Thread.agStep_arch {t u : Thread} (h : t.arch = u.arch) (hm : t.agmLive = u.agmLive) (b z : Nat) :
    (t.agStep b z).arch = (u.agStep b z).arch := by
  have hstrip (t : Thread) : (t.agStep b z).arch = (Thread.agStep { t.arch with agmLive := t.agmLive } b z).arch := by
    simp only [Thread.agStep, apply_ite Thread.arch]
    rfl
  rw [hstrip t, hstrip u, h, hm]

/-- A computation with the address generator's step after it. -/
theorem Thread.Computes.agStep {g : Thread → Thread} (hg : Thread.Computes g) (b z : Nat)
    (hm : ∀ t, (g t).agmLive = t.agmLive := by intro; rfl) : Thread.Computes (fun t => (g t).agStep b z) where
  arch t st hf b' l fb p w s := Thread.agStep_arch (hg.arch t st hf b' l fb p w s) ((hm _).trans (hm t).symm) b z
  pc t := (Thread.agStep_sameIssue ..).pc.trans (hg.pc t)
  fetched t := (Thread.agStep_sameIssue ..).fetched.trans (hg.fetched t)
  slots t := (Thread.agStep_sameIssue ..).slots.trans (hg.slots t)

/-- An instruction whose effect on its thread comes in two parts. -/
theorem retires_twice {c : Instr} {d : Dev} {k mask pat cost : Nat} {rs : List Nat} {x : Bool} {body : Thread → Dev → Act}
    {f g : Thread → Thread} (hc : Does c d (d.issue k mask pat cost rs x body)) (h : d.issues k mask pat cost rs x = true)
    (hb : body (d.thr k) (d.begun k cost rs) = .go (((d.begun k cost rs).modThr k f).modThr k g))
    (hg : Thread.Computes (fun t => g (f t))) : Retires c d k cost ((d.thr k).pc.toNat + 1) (fun t => g (f t)) := by
  obtain ⟨st, hf, b, l, fb, ht⟩ := d.begun_thr k cost rs
  refine retires_of_run (does_go hc h hb) (IssueFrame.trans (IssueFrame.modThr ..) (IssueFrame.modThr ..)) ?_ ?_ ?_ ?_ <;>
    rw [Dev.thr_modThr_self, Dev.thr_modThr_self]
  · rw [hg.pc, ht]
  · rw [hg.fetched, ht]
  · rw [hg.slots, ht]
  · exact hg.begun d k cost rs

section Load
variable {c : Instr} {d : Dev} {k : Fin 1664} {dst b : Fin 16} {size n : Nat} {sx : Bool}
  (hc : Does c d (d.loadIns k size n sx dst b))
  (h : d.issues k 0x3FFF (0x2000 + size * 256 + dst * 16 + b) 1 [dst.val, b.val] true = true) {a : Nat}
include hc h

theorem load_priv {o : Nat} (hr : d.reaches k b n false (some dst.val) = some (a, .priv o))
    (hw : d.wordBad (k / 64) (privAddr (k / 64) (k / 8 % 8) o) n = false) :
    Retires c d k 1 ((d.thr k).pc.toNat + 1)
      (fun x => (x.setReg dst (loaded (d.bytes (privAddr (k / 64) (k / 8 % 8) o) n) sx)).agStep b (sizeLog n)) := by
  refine retires_twice (f := fun t => t.setReg dst _) (g := fun t => t.agStep b (sizeLog n)) hc h ?_ ((Thread.Computes.setReg _ _).agStep _ _)
  simp only [d.begun_access, Dev.access_of_reaches hr, Dev.loadBytes, d.begun_wordBad, d.begun_bytes, hw, Bool.false_eq_true, if_false]

theorem load_gl {o : Nat} (hr : d.reaches k b n false (some dst.val) = some (a, .gl o)) :
    let x := (d.begun k 1 [dst.val, b.val]).supLoad (k / 64) o n
    Does c d (((x.2.modThr k (fun t => t.setReg dst (loaded (leBytes n x.1) sx))).modThr k (fun t => t.agStep b (sizeLog n))).beyond d k) := by
  refine does_go hc h ?_
  simp only [d.begun_access, Dev.access_of_reaches hr]

theorem load_long {p : Place} (hr : d.reaches k b n false (some dst.val) = some (a, p)) (hp : p.isLong = true) :
    Does c d ((((d.begun k 1 [dst.val, b.val]).longLoad k (d.thr k) dst a n sx p).modThr k (fun t => t.agStep b (sizeLog n))).beyond d k) := by
  refine does_go hc h ?_
  simp only [d.begun_access, Dev.access_of_reaches hr]
  cases p with
  | shared | ddr | lode => rfl
  | priv | gl => cases hp

end Load

theorem loaded_unsigned (bs : List Byte) : loaded bs false = BitVec.ofNat 32 (leNat bs) := rfl

theorem loaded_half {bs : List Byte} (h : bs.length = 2) : loaded bs true = (BitVec.ofNat 16 (leNat bs)).signExtend 32 := by
  rw [loaded, if_pos rfl, h, signed32_eq_signExtend (by decide)]

section Region
variable {c : Instr} {d : Dev} {k : Fin 1664} {dst b : Fin 16} {size n : Nat} {sx : Bool} (val : List Byte → Word32)
  (hval : ∀ bs : List Byte, bs.length = n → loaded bs sx = val bs)
  (hc : Does c d (d.loadIns k size n sx dst b))
  (h : d.issues k 0x3FFF (0x2000 + size * 256 + dst * 16 + b) 1 [dst.val, b.val] true = true)
include hval hc h

/-- A load by the region it reaches, its value given by the bytes. -/
theorem load_by_region :
    (∀ a o, d.reaches k b n false (some dst.val) = some (a, .priv o) →
      (!d.wordBad (k / 64) (privAddr (k / 64) (k / 8 % 8) o) n) = true → Retires c d k 1 ((d.thr k).pc.toNat + 1)
        (fun x => (x.setReg dst (val (d.bytes (privAddr (k / 64) (k / 8 % 8) o) n))).agStep b (sizeLog n)))
    ∧ (∀ a o, d.reaches k b n false (some dst.val) = some (a, .gl o) →
        let x := (d.begun k 1 [dst.val, b.val]).supLoad (k / 64) o n
        Does c d (((x.2.modThr k (fun t => t.setReg dst (val (leBytes n x.1)))).modThr k (fun t => t.agStep b (sizeLog n))).beyond d k))
    ∧ (∀ a p, d.reaches k b n false (some dst.val) = some (a, p) → p.isLong = true → Does c d
        ((((d.begun k 1 [dst.val, b.val]).longLoad k (d.thr k) dst a n sx p).modThr k (fun t => t.agStep b (sizeLog n))).beyond d k)) := by
  refine ⟨fun a o hr hw => ?_, fun a o hr => ?_, fun a p hr hp => load_long hc h hr hp⟩
  · rw [← hval _ (d.length_bytes _ n)]
    exact load_priv hc h hr ((Bool.not_eq_true' _).mp hw)
  · dsimp only
    rw [← hval _ (length_leBytes n _)]
    exact load_gl hc h hr

end Region

/-- Settles O11: the four loads differ in their size and in how the bytes make a word. -/
theorem loads : Obligations.Loads := by
  intro d k dst b
  exact ⟨fun h => load_by_region (fun bs => BitVec.ofNat 32 (leNat bs)) (fun _ _ => rfl) (fun _ => rfl) h,
    fun h => load_by_region (fun bs => BitVec.ofNat 32 (leNat bs)) (fun _ _ => rfl) (fun _ => rfl) h,
    fun h => load_by_region (fun bs => BitVec.ofNat 32 (leNat bs)) (fun _ _ => rfl) (fun _ => rfl) h,
    fun h => load_by_region (fun bs => (BitVec.ofNat 16 (leNat bs)).signExtend 32) (fun _ => loaded_half) (fun _ => rfl) h⟩

end Sys2Proof.Machine
end

/-! ## Stores (R182, R183, R187 to R189) -/
section
namespace Sys2Proof.Machine

section StoreBytes
variable (d : Dev) (k o : Nat) (bs : List Byte)

theorem Dev.storeBytes_priv_mem :
    (d.storeBytes k (.priv o) bs).mem = Memory.writes d.mem (privAddr (k / 64) (k / 8 % 8) o) bs := by
  simp only [Dev.storeBytes]
  split
  · rfl
  · split
    · exact Dev.inc_mem ..
    · rfl

theorem Dev.storeBytes_priv_threads : (d.storeBytes k (.priv o) bs).threads = d.threads := by
  simp only [Dev.storeBytes]
  split
  · rfl
  · split
    · exact Dev.inc_threads ..
    · rfl

theorem Dev.storeBytes_priv_thr (j : Nat) : (d.storeBytes k (.priv o) bs).thr j = d.thr j := by
  rw [Dev.thr, Dev.storeBytes_priv_threads, Dev.thr]

end StoreBytes

section Store
variable {c : Instr} {d : Dev} {k : Fin 1664} {src b : Fin 16} {size n : Nat} (hc : Does c d (d.storeIns k size n src b))
  (h : d.issues k 0x3FFF (0x2400 + size * 256 + src * 16 + b) 1 [src.val, b.val] true = true) {a o : Nat} {p : Place}
include hc h

theorem store_priv (hr : d.reaches k b n true none = some (a, .priv o)) :
    let x := privAddr (k / 64) (k / 8 % 8) o
    ∃ e, Does c d e ∧ e.bytes x n = leBytes n ((d.thr k).reg src).toNat ∧ (∀ y, y < x ∨ x + n ≤ y → e.byte y = d.byte y)
      ∧ (∀ j, j ≠ k.val → e.thr j = d.thr j) ∧ (e.thr k).arch = ((d.thr k).agStep b (sizeLog n)).arch := by
  intro x
  let u := d.begun k 1 [src.val, b.val]
  let bs := leBytes n ((d.thr k).reg src).toNat
  let v := (u.storeBytes k (.priv o) bs).modThr k (fun t => t.agStep b (sizeLog n))
  have hdoes : Does c d (v.beyond d k) := by
    refine does_go hc h ?_
    simp only [d.begun_access, Dev.access_of_reaches hr, u, bs, v]
  have hthr (j : Nat) (hj : j ≠ k.val) : v.thr j = u.thr j :=
    (Dev.thr_modThr_other _ _ hj).trans (Dev.storeBytes_priv_thr ..)
  obtain ⟨hbytes, hother, hthreads⟩ := Dev.beyond_put (v := v) (IssueFrame.begun ..) (Dev.storeBytes_priv_mem u k o bs) hthr
  have hlen : bs.length = n := length_leBytes ..
  rw [hlen] at hbytes hother
  refine ⟨_, hdoes, hbytes, hother, hthreads, (d.beyond_arch v k).trans ?_⟩
  obtain ⟨st, hf, b', l, fb, ht⟩ := d.begun_thr k 1 [src.val, b.val]
  rw [Dev.thr_modThr_self, Dev.storeBytes_priv_thr]
  exact Thread.agStep_arch (d.begun_arch ..) (by rw [ht]) ..

theorem store_gl (hr : d.reaches k b n true none = some (a, .gl o)) (hs : (d.thr k).sb.isEmpty = true) :
    Does c d ((((d.begun k 1 [src.val, b.val]).modThr k (fun t => t.agStep b (sizeLog n))).supStore (k / 64) o n
      (leNat (leBytes n ((d.thr k).reg src).toNat))).beyond d k) := by
  refine does_go hc h ?_
  simp only [d.begun_access, Dev.access_of_reaches hr, hs, if_true]

theorem store_gl_waits (hr : d.reaches k b n true none = some (a, .gl o)) (hs : (d.thr k).sb.isEmpty = false) :
    Does c d (d.stallThread k 4) := by
  refine does_stall_of_lt hc h ?_ (by decide)
  simp only [d.begun_access, Dev.access_of_reaches hr, hs, Bool.false_eq_true, if_false]

theorem store_long (hr : d.reaches k b n true none = some (a, p)) (hp : p.isLong = true) (hs : (d.thr k).sb.length < 4) :
    Retires c d k 1 ((d.thr k).pc.toNat + 1) (fun x => Thread.agStep
      { x with sb := x.sb ++ [SbEntry.store p.code (leBytes n ((d.thr k).reg src).toNat)] } b (sizeLog n)) := by
  have hg : Thread.Computes (fun x => { x with sb := x.sb ++ [SbEntry.store p.code (leBytes n ((d.thr k).reg src).toNat)] }) := {}
  refine retires_twice (g := fun t => t.agStep b (sizeLog n)) hc h ?_ (hg.agStep ..)
  simp only [d.begun_access, Dev.access_of_reaches hr, if_neg (Nat.not_le.2 hs)]
  cases p with
  | shared | ddr | lode => rfl
  | priv | gl => cases hp

theorem store_long_waits (hr : d.reaches k b n true none = some (a, p)) (hp : p.isLong = true) (hs : 4 ≤ (d.thr k).sb.length) :
    Does c d (d.stallThread k 1) := by
  refine does_stall_of_lt hc h ?_ (by decide)
  simp only [d.begun_access, Dev.access_of_reaches hr, if_pos hs]
  cases p with
  | shared | ddr | lode => rfl
  | priv | gl => cases hp

end Store

/-- Settles O12: the three stores differ in their size. -/
theorem stores : Obligations.Stores := by
  intro d k src b
  exact ⟨fun h => ⟨fun _ _ => store_priv (fun _ => rfl) h, fun _ _ => store_gl (fun _ => rfl) h, fun _ _ => store_gl_waits (fun _ => rfl) h,
      fun _ _ => store_long (fun _ => rfl) h, fun _ _ => store_long_waits (fun _ => rfl) h⟩,
    fun h => ⟨fun _ _ => store_priv (fun _ => rfl) h, fun _ _ => store_gl (fun _ => rfl) h, fun _ _ => store_gl_waits (fun _ => rfl) h,
      fun _ _ => store_long (fun _ => rfl) h, fun _ _ => store_long_waits (fun _ => rfl) h⟩,
    fun h => ⟨fun _ _ => store_priv (fun _ => rfl) h, fun _ _ => store_gl (fun _ => rfl) h, fun _ _ => store_gl_waits (fun _ => rfl) h,
      fun _ _ => store_long (fun _ => rfl) h, fun _ _ => store_long_waits (fun _ => rfl) h⟩⟩

end Sys2Proof.Machine
end

/-! ## The operations of CP0 and CP1 (R193, R199 to R201) -/
section
namespace Sys2Proof.Machine

/-- Only what the function makes of the thread as it was counts. -/
theorem Retires.congr {c : Instr} {d : Dev} {k cost pc : Nat} {f g : Thread → Thread} (h : Retires c d k cost pc f)
    (hg : g (d.thr k) = f (d.thr k)) : Retires c d k cost pc g := by
  rw [Retires, hg]
  exact h

section Forms
variable {c : Instr} {d : Dev} {k code r : Nat} {body : Thread → Dev → Act}

/-- An operation that only works on CP0's registers. -/
theorem cp0_retires {u : Cp0 → Cp0} {g : Thread → Thread} (hc : Does c d (d.cpIns k 0x3FFF code r body))
    (h : d.issues k 0x3FFF (code + r) 1 [r, r ^^^ 1] false = true)
    (hb : body (d.thr k) (d.begun k 1 [r, r ^^^ 1]) = .go ((d.begun k 1 [r, r ^^^ 1]).modCp0 k u))
    (hg : g (d.thr k) = { d.thr k with cp0 := u (d.thr k).cp0 }) : Retires c d k 1 ((d.thr k).pc.toNat + 1) g :=
  Retires.congr (retires_computes (g := fun t => { t with cp0 := u t.cp0 }) (fun q => hc q) h hb) hg

/-- An operation that only works on CP1's registers. -/
theorem cp1_retires {u : Cp1 → Cp1} {g : Thread → Thread} (hc : Does c d (d.cpIns k 0x3FFF code r body))
    (h : d.issues k 0x3FFF (code + r) 1 [r, r ^^^ 1] false = true)
    (hb : body (d.thr k) (d.begun k 1 [r, r ^^^ 1]) = .go ((d.begun k 1 [r, r ^^^ 1]).modCp1 k u))
    (hg : g (d.thr k) = { d.thr k with cp1 := u (d.thr k).cp1 }) : Retires c d k 1 ((d.thr k).pc.toNat + 1) g :=
  Retires.congr (retires_computes (g := fun t => { t with cp1 := u t.cp1 }) (fun q => hc q) h hb) hg

/-- An operation whose result comes to its register. -/
theorem cpResult_retires {lat : Nat} {v : Thread → Word32} {w : Word32} (hc : Does c d (d.cpResult k code r lat v))
    (h : d.issues k 0x3FFF (code + r) 1 [r, r ^^^ 1] false = true) (hv : v (d.thr k) = w) :
    Retires c d k 1 ((d.thr k).pc.toNat + 1) (fun t => t.setReg r w) := by
  rw [Dev.cpResult, Dev.cpIns] at hc
  have hg := Thread.Computes.setReg r w
  exact retires_later (g := fun t => t.setReg r w) (lat := lat) (q := [r]) hc h (by rw [hv]) (hg.arch (d.thr k)) hg.pc hg.fetched
    hg.slots

end Forms

/-! ### CP0 -/

/-- Byte `i` of a word, as the bytes of a number give it. -/
theorem ofNat_div_eq_extractLsb' (v : Word32) (i : Nat) : BitVec.ofNat 8 (v.toNat / 2 ^ i) = v.extractLsb' i 8 := by
  apply BitVec.eq_of_toNat_eq
  rw [BitVec.toNat_ofNat, BitVec.extractLsb'_toNat, Nat.shiftRight_eq_div_pow]

theorem leBytes_one (v : Word32) : leBytes 1 v.toNat = [v.extractLsb' 0 8] := by
  rw [leBytes, leBytes, ← ofNat_div_eq_extractLsb', pow_zero, Nat.div_one]

theorem leBytes_two (v : Word32) : leBytes 2 v.toNat = [v.extractLsb' 0 8, v.extractLsb' 8 8] := by
  rw [leBytes, leBytes, leBytes]
  simp only [← ofNat_div_eq_extractLsb', pow_zero, Nat.div_one, Nat.reducePow]

theorem leBytes_four (v : Word32) :
    leBytes 4 v.toNat = [v.extractLsb' 0 8, v.extractLsb' 8 8, v.extractLsb' 16 8, v.extractLsb' 24 8] := by
  rw [leBytes, leBytes, leBytes, leBytes, leBytes]
  simp only [← ofNat_div_eq_extractLsb', pow_zero, Nat.div_one, Nat.div_div_eq_div_mul, Nat.reducePow, Nat.reduceMul]

theorem leBytes_pair (v w : Word32) : leBytes 4 v.toNat ++ leBytes 4 w.toNat = leBytes 8 (v.toNat + w.toNat * 2 ^ 32) := by
  have hv := v.isLt
  simp only [leBytes, List.cons_append, List.nil_append, List.cons.injEq, and_true]
  refine ⟨?_, ?_, ?_, ?_, ?_, ?_, ?_, ?_⟩ <;> apply BitVec.eq_of_toNat_eq <;> rw [BitVec.toNat_ofNat, BitVec.toNat_ofNat] <;> omega

theorem cp0Init_eq (f : Nat) : cp0Init f = if f = 2 then 0 else 0xFFFFFFFF := rfl

theorem Cp0.fin_eq (c : Cp0) : c.fin = if c.poison then 0 else if c.fsel = 2 then BitVec.ofNat 32 (65535 - fold16 c.acc.toNat) else ~~~c.acc := by
  have hx : c.acc ^^^ 0xFFFFFFFF = ~~~c.acc := BitVec.xor_allOnes
  rw [Cp0.fin, hx]

theorem acm_retires {d : Dev} {k : Fin 1664} {r : Fin 16} {a l : Nat} (ha : ((d.thr k).reg r).toNat = a)
    (hl : ((d.thr k).reg (r.val ^^^ 1)).toNat % 512 = l)
    (h : d.issues k 0x3FFF (0x3840 + r) 1 [r, r.val ^^^ 1] false = true) (h1 : 1 ≤ l) (h256 : l ≤ 256) (hlo : 0x100000 ≤ a)
    (hhi : a + l ≤ 0x300000) (hw : d.wordBad (k / 64) (sharedAddr (k / 64) (a - 0x100000)) l = false) :
    Retires (.acm k r) d k 1 ((d.thr k).pc.toNat + 1)
      (fun t => { t with cp0 := (d.bytes (sharedAddr (k / 64) (a - 0x100000)) l).foldl Cp0.absorb t.cp0 }) := by
  refine cp0_retires (u := fun c => (d.bytes (sharedAddr (k / 64) (a - 0x100000)) l).foldl Cp0.absorb c) (fun _ => rfl) h ?_ rfl
  have hl0 : (l = 0 || decide (256 < l)) = false := by
    simp only [Bool.or_eq_false_iff, decide_eq_false_iff_not]
    omega
  have ha0 : (decide (a < 0x100000) || decide (0x300000 < a + l)) = false := by
    simp only [Bool.or_eq_false_iff, decide_eq_false_iff_not]
    omega
  simp only [ha, hl, hl0, ha0, d.begun_wordBad, hw, d.begun_bytes, Bool.false_eq_true, if_false]
  rfl

theorem acm_length {d : Dev} {k : Fin 1664} {r : Fin 16} (h : d.issues k 0x3FFF (0x3840 + r) 1 [r, r.val ^^^ 1] false = true)
    (hl : ((d.thr k).reg (r.val ^^^ 1)).toNat % 512 = 0 ∨ 256 < ((d.thr k).reg (r.val ^^^ 1)).toNat % 512) :
    Does (.acm k r) d (d.faultThread k 7 (d.thr k).fetched.toNat (d.thr k).pc.toNat) := by
  refine does_fault (fun _ => rfl) h ?_ (by decide)
  dsimp only
  rw [if_pos]
  simpa only [Bool.or_eq_true, decide_eq_true_eq] using hl

theorem acm_range {d : Dev} {k : Fin 1664} {r : Fin 16} {l : Nat} (hl : ((d.thr k).reg (r.val ^^^ 1)).toNat % 512 = l)
    (h : d.issues k 0x3FFF (0x3840 + r) 1 [r, r.val ^^^ 1] false = true) (h1 : 1 ≤ l) (h256 : l ≤ 256)
    (ha : ((d.thr k).reg r).toNat < 0x100000 ∨ 0x300000 < ((d.thr k).reg r).toNat + l) :
    Does (.acm k r) d (d.faultThread k 2 ((d.thr k).reg r).toNat (d.thr k).pc.toNat) := by
  refine does_fault (fun _ => rfl) h ?_ (by decide)
  dsimp only
  rw [if_neg, if_pos]
  · simpa only [hl, Bool.or_eq_true, decide_eq_true_eq] using ha
  · simp only [hl, Bool.or_eq_true, decide_eq_true_eq]
    omega

theorem ler_retires {d : Dev} {k : Fin 1664} {r : Fin 16} (h : d.issues k 0x3FFF (0x38F0 + r) 1 [r, r.val ^^^ 1] false = true) :
    Retires (.ler k r) d k 1 ((d.thr k).pc.toNat + 1) (fun t => { t.setReg r t.late with late := 0 }) := by
  have hg : Thread.Computes (fun t : Thread => { t.setReg r (d.thr k).late with late := 0 }) := {}
  exact retires_go (fun _ => rfl) h rfl (hg.arch (d.thr k)) hg.pc hg.fetched hg.slots

/-! ### CP1 -/

/-- Clamping takes the nearest value of the range, and tells whether it had to. -/
theorem clampTo_eq (w : Nat) (x : Int) : clampTo w x = (max (-2 ^ (w - 1)) (min (2 ^ (w - 1) - 1) x),
    !(decide (-2 ^ (w - 1) ≤ x) && decide (x < 2 ^ (w - 1)))) := by
  have hp : (0 : Int) < 2 ^ (w - 1) := by positivity
  unfold clampTo
  generalize (2 : Int) ^ (w - 1) = m at hp ⊢
  split
  · next h =>
    refine Prod.ext (by simp only; omega) ?_
    rw [decide_eq_false (not_le_of_gt h)]
    rfl
  · next hlo =>
    split
    · next h =>
      refine Prod.ext (by simp only; omega) ?_
      rw [decide_eq_false (p := x < m) (not_lt_of_ge h), Bool.and_false]
      rfl
    · next hhi =>
      refine Prod.ext (by simp only; omega) ?_
      rw [decide_eq_true (le_of_not_gt hlo), decide_eq_true (lt_of_not_ge hhi)]
      rfl

theorem Cp1.setAcc_sat (c : Cp1) (i : Nat) (v : Int × Int) : (c.setAcc i v).sat = c.sat := by
  unfold Cp1.setAcc
  split <;> rfl

/-- A multiply-accumulate (R201): both parts are clamped at 64 bits, and a clamped one sets the accumulator's saturation bit. -/
theorem Cp1.mac_eq (c : Cp1) (i : Nat) (x : Int) :
    c.mac i x =
      let re := (c.acc i).1 + x * phaseC c.ph
      let im := (c.acc i).2 - x * phaseS c.ph
      let fits (y : Int) : Bool := decide (-2 ^ 63 ≤ y) && decide (y < 2 ^ 63)
      { c.setAcc i (max (-2 ^ 63) (min (2 ^ 63 - 1) re), max (-2 ^ 63) (min (2 ^ 63 - 1) im)) with
        sat := if fits re && fits im then c.sat else c.sat ||| BitVec.ofNat 4 (2 ^ i) } := by
  unfold Cp1.mac
  simp only [clampTo_eq, Nat.add_one_sub_one, ← Bool.not_and]
  split
  · next h =>
    rw [Bool.not_eq_true'] at h
    rw [h, if_neg Bool.false_ne_true, Cp1.setAcc_sat]
  · next h =>
    rw [Bool.not_eq_true', Bool.not_eq_false] at h
    rw [h, if_pos rfl, ← Cp1.setAcc_sat c i]

theorem Cp1.acc_setAcc (c : Cp1) (i j : Fin 4) (v : Int × Int) : (c.setAcc i v).acc j = if i = j then v else c.acc j := by
  fin_cases i <;> fin_cases j <;> rfl

theorem Cp1.acc_foldl_setAcc (p : Nat → Bool) (l : List (Fin 4)) (c : Cp1) (j : Fin 4) :
    (l.foldl (fun (x : Cp1) (i : Fin 4) => if p i then x.setAcc i (0, 0) else x) c).acc j = if j ∈ l ∧ p j then (0, 0) else c.acc j := by
  induction l generalizing c with
  | nil => simp
  | cons i l ih =>
    rw [List.foldl_cons, ih]
    by_cases hij : j = i
    · subst hij
      by_cases hp : p j = true <;> simp [hp, Cp1.acc_setAcc]
    · have hx : (if p i then c.setAcc i (0, 0) else c).acc j = c.acc j := by
        split
        · rw [Cp1.acc_setAcc, if_neg (Ne.symm hij)]
        · rfl
      simp only [hx, List.mem_cons, hij, false_or]

theorem Cp1.acc_clear (c : Cp1) (v : Word32) (j : Fin 4) : (c.clear v.toNat).acc j = if v.getLsbD j then (0, 0) else c.acc j := by
  have h := Cp1.acc_foldl_setAcc (bitAt v.toNat) (List.finRange 4) c j
  simp only [bitAt_toNat, List.mem_finRange, true_and] at h
  rw [← h]
  simp only [Cp1.clear, bitAt_toNat]
  rfl

theorem shifted_eq (x : Int) (v : Nat) :
    shifted x v = BitVec.ofInt 32 (max (-2 ^ 31) (min (2 ^ 31 - 1) (x / 2 ^ (v / 4 % 64)))) := by
  rw [shifted, clampTo_eq]
  rfl

/-- Settles O14: each operation's own effect on CP0, on CP1 or on its register; the checks of SEL, ACM and CSU come first. -/
theorem copZeroAndOne : Obligations.CopZeroAndOne := by
  refine ⟨fun d k r => ⟨fun h hv => ?sel, fun h hv => ?selBad, fun h => ?acb, fun h => ?ach, fun h => ?acw,
    fun h h1 h256 hlo hhi hw => acm_retires rfl rfl h h1 h256 hlo hhi hw, fun h hl => acm_length h hl,
    fun h h1 h256 ha => acm_range rfl h h1 h256 ha, fun h => ?fin, fun h hf => ?csu, fun h hf => ?csuBad, fun h => ?hsh, fun h => ?lda,
    fun h => ?ler⟩,
    fun d k i r => ⟨fun h => ?mac, fun h => ?adv, fun h => ?sph, fun h => ?sdp, fun h => ⟨?clr, fun j => Cp1.acc_clear _ _ j⟩,
      fun h => ?rdr, fun h => ?rdi, fun h => ?rst⟩⟩
  case sel => exact cp0_retires (fun _ => rfl) h (if_neg (not_le_of_gt hv)) rfl
  case selBad => exact does_fault (fun _ => rfl) h (if_pos hv) (by decide)
  case acb => exact cp0_retires (fun _ => rfl) h rfl (by rw [leBytes_one]; rfl)
  case ach => exact cp0_retires (fun _ => rfl) h rfl (by rw [leBytes_two]; rfl)
  case acw => exact cp0_retires (fun _ => rfl) h rfl (by rw [leBytes_four]; rfl)
  case fin => exact cpResult_retires (fun _ => rfl) h (Cp0.fin_eq _)
  case csu => exact cp0_retires (fun _ => rfl) h (if_neg (not_not_intro hf)) rfl
  case csuBad => exact does_fault (fun _ => rfl) h (if_pos hf) (by decide)
  case hsh => exact cpResult_retires (fun _ => rfl) h (by rw [leBytes_pair])
  case lda => exact cp0_retires (fun _ => rfl) h rfl rfl
  case ler => exact ler_retires h
  case mac => exact cp1_retires (fun _ => rfl) h rfl (by rw [Cp1.mac_eq])
  case adv => exact cp1_retires (fun _ => rfl) h rfl rfl
  case sph => exact cp1_retires (fun _ => rfl) h rfl rfl
  case sdp => exact cp1_retires (fun _ => rfl) h rfl rfl
  case clr => exact cp1_retires (fun _ => rfl) h rfl rfl
  case rdr => exact cpResult_retires (fun _ => rfl) h (shifted_eq ..)
  case rdi => exact cpResult_retires (fun _ => rfl) h (shifted_eq ..)
  case rst => exact cpResult_retires (fun _ => rfl) h rfl

end Sys2Proof.Machine
end

/-! ## A long load returns, and the head of a store buffer (R187, R191, R203) -/
section
namespace Sys2Proof.Machine

/-- What a command makes of the device, written another way. -/
theorem exec_next {c : Instr} {d e f : Dev} {q : List Instr} (hc : exec c { dev := d, pending := q } = .next { dev := e, pending := q })
    (he : e = f) : exec c { dev := d, pending := q } = .next { dev := f, pending := q } := he ▸ hc

/-! ### A register and its mark -/

theorem Thread.reg_setReg_self (t : Thread) (r : Nat) (v : Word32) : (t.setReg r v).reg r = v := by
  simp [Thread.reg, Thread.setReg]

theorem bitAt_withBit_false (x i : Nat) : bitAt (withBit x i false) i = false := by
  have hw : withBit x i false = 2 ^ i * (2 * (x / 2 ^ i / 2)) + x % 2 ^ i := by
    have hx := Nat.div_add_mod x (2 ^ i)
    have hb := Nat.div_add_mod (x / 2 ^ i) 2
    rw [withBit, b2n, if_neg Bool.false_ne_true, Nat.zero_mul, Nat.add_zero]
    generalize x / 2 ^ i = y at hx hb ⊢
    have hy : 2 ^ i * y = 2 ^ i * (2 * (y / 2)) + y % 2 * 2 ^ i := by rw [Nat.mul_comm (y % 2), ← Nat.mul_add, hb]
    omega
  rw [bitAt, hw, Nat.mul_add_div (Nat.two_pow_pos i), Nat.div_eq_of_lt (Nat.mod_lt x (Nat.two_pow_pos i)), Nat.add_zero, Nat.mul_mod_right]
  rfl

theorem withBit_false_le (x i : Nat) : withBit x i false ≤ x := by
  rw [withBit, b2n, if_neg Bool.false_ne_true, Nat.zero_mul, Nat.add_zero]
  exact Nat.sub_le ..

theorem Thread.scored_mark_false (t : Thread) (r : Nat) : (t.mark r false).scored [r] = false := by
  have hlt : withBit t.score.toNat (r % 16) false < 2 ^ 16 := Nat.lt_of_le_of_lt (withBit_false_le ..) t.score.isLt
  rw [Thread.scored, List.any_cons, List.any_nil, Bool.or_false, Bool.and_eq_false_iff, decide_eq_false_iff_not]
  refine or_iff_not_imp_left.2 fun hr => ?_
  have hr : r % 16 = r := Nat.mod_eq_of_lt (not_not.1 hr)
  rw [Thread.mark, BitVec.toNat_ofNat, Nat.mod_eq_of_lt hlt, hr, bitAt_withBit_false]

/-! ### What a wake-up and an ECC count leave of the thread -/

theorem Dev.wakeThread_thr (d : Dev) (k : Nat) : ∃ st hf, (d.wakeThread k).thr k = { d.thr k with st := st, heldFrom := hf } := by
  have h : (if (d.thr k).st = .stall then d.galTrace k 2 (d.thr k).pc.toNat else d).thr k = d.thr k := by
    split
    · rw [Dev.thr, Dev.galTrace_threads, Dev.thr]
    · rfl
  unfold Dev.wakeThread
  split
  · exact ⟨(d.thr k).st, (d.thr k).heldFrom, rfl⟩
  · dsimp only
    rw [Dev.thr_modThr_self, h]
    exact ⟨_, _, rfl⟩

theorem Dev.galEcc_thr (d : Dev) (g k : Nat) (e : MemEcc) : ∃ p, (d.galEcc g e).thr k = { d.thr k with pend := p } := by
  have hinc (r : Reg) (f : Fld) (n : Nat) : (d.inc r f n).thr k = d.thr k := by rw [Dev.thr, Dev.inc_threads, Dev.thr]
  unfold Dev.galEcc
  cases e with
  | good => exact ⟨_, rfl⟩
  | lost => exact ⟨_, hinc ..⟩
  | corrected =>
    dsimp only
    split
    · by_cases hk : k = supOf g
      · subst hk
        exact ⟨_, (Dev.thr_modThr_self ..).trans (by rw [hinc])⟩
      · exact ⟨_, (Dev.thr_modThr_other _ _ hk).trans (hinc ..)⟩
    · exact ⟨_, hinc ..⟩

/-- Settles O13: the head of the buffer is performed, and a load that returns gives its register the value or faults its thread. -/
theorem bufferedAccessesComplete : Obligations.BufferedAccessesComplete := by
  intro d k n ecc
  refine ⟨fun c bs rest h => ?store, fun id rest h => ?cp2, fun l bs hl hd hb he => ?load, fun l bs hl hd hb hst => ?fault⟩
  case store =>
    refine fun _ => exec_next rfl ?_
    simp only [h]
    rfl
  case cp2 =>
    refine fun _ => exec_next rfl ?_
    simp only [h]
    rfl
  case load =>
    have hbad : (l.bad || ecc == .lost) = false := by simpa only [hb, Bool.false_or, beq_eq_false_iff_ne] using he
    let u := (d.galEcc (k / 64) ecc).modThr k (fun t => { t with loads := t.loads.erase l })
    let v := u.modThr k (fun t => (t.setReg l.dst (loaded bs l.signed)).mark l.dst false)
    obtain ⟨p, hu⟩ := d.galEcc_thr (k / 64) k ecc
    obtain ⟨st, hf, hv⟩ := v.wakeThread_thr k
    rw [Dev.thr_modThr_self, Dev.thr_modThr_self, hu] at hv
    refine ⟨v.wakeThread k, _, fun _ => exec_next rfl ?_, rfl, ?_, ?_, ?_, fun a => ?_⟩
    · simp only [hl, hd, hbad, Bool.false_and, Bool.false_eq_true, if_false]
      rfl
    · exact hv ▸ Thread.reg_setReg_self ..
    · exact hv ▸ Thread.scored_mark_false ..
    · exact hv ▸ rfl
    · have hm : (v.wakeThread k).mem = d.mem := (Dev.wakeThread_mem ..).trans (Dev.galEcc_mem ..)
      rw [Dev.byte, hm, Dev.byte]
  case fault =>
    have hbad : (l.bad || ecc == .lost) = true := by simpa only [Bool.or_eq_true, beq_iff_eq] using hb
    have hhold : ((d.thr k).st == .hold) = false := by simpa only [beq_eq_false_iff_ne] using hst
    refine fun _ => exec_next rfl ?_
    simp only [hl, hd, hbad, hhold, Bool.and_false, Bool.false_eq_true, if_false]
    rfl

end Sys2Proof.Machine
end

/-! ## The operations of CP2 (R194, R202 to R204, R249) -/
section
namespace Sys2Proof.Machine

theorem Dev.leaveQueue_thr (d : Dev) (q k : Nat) : (d.leaveQueue q).thr k = d.thr k := rfl

/-- Settles O15: the checks at issue in their order, then Lode's answer and the timeout. -/
theorem copTwoOperations : Obligations.CopTwoOperations := by
  intro d k op r n bad t g a cpst u id q o sent flight ok room
  have hroom (h : room = true) : (decide (4 ≤ t.sb.length) || decide (4 ≤ (t.live 2).length)) = false := by
    simp only [room, Bool.and_eq_true, decide_eq_true_eq] at h
    simp only [Bool.or_eq_false_iff, decide_eq_false_iff_not]
    omega
  refine ⟨fun h hr hb ha hq => ?sent, fun h hr => ?noRoom, fun h hr hb ha hq => ?full, fun h hr hb => ?block, fun h hr hb ha => ?align,
    fun y hy => ⟨fun args x e hargs hturn hop hdead hnode => ?answer, fun args x e m hargs hturn hop hdead hnode => ?answerNode,
      fun hdead => ?timeout⟩⟩
  case sent =>
    refine does_go (fun _ => rfl) h ?_
    simp only
    rw [if_neg (by rw [hroom hr]; decide), if_neg (by rw [hb]; decide), if_neg (not_not_intro ha), if_neg (by rw [hq]; decide)]
    rfl
  case noRoom =>
    refine does_stall_of_lt (fun _ => rfl) h (if_pos ?_) (by decide)
    simp only [room, Bool.and_eq_false_iff, decide_eq_false_iff_not, not_lt] at hr
    simpa only [Bool.or_eq_true, decide_eq_true_eq] using hr
  case full =>
    refine does_stall (fun _ => rfl) h ?_
    simp only
    rw [if_neg (by rw [hroom hr]; decide), if_neg (by rw [hb]; decide), if_neg (not_not_intro ha), if_pos hq]
  case block =>
    refine does_fault (fun _ => rfl) h ?_ (by decide)
    simp only
    rw [if_neg (by rw [hroom hr]; decide), if_pos (by rw [hb]; decide)]
  case align =>
    refine does_fault (fun _ => rfl) h ?_ (by decide)
    simp only
    rw [if_neg (by rw [hroom hr]; decide), if_neg (by rw [hb]; decide), if_pos ha]
  case answer =>
    refine fun _ => exec_next rfl ?_
    simp only [t, g] at hy hturn hop
    simp only [hy, hargs, hturn, hop, Dev.leaveQueue_thr, Dev.thr_modThr_self, hnode, hdead, Bool.not_true, Bool.false_eq_true, if_false]
  case answerNode =>
    refine fun _ => exec_next rfl ?_
    simp only [t, g] at hy hturn hop
    simp only [hy, hargs, hturn, hop, Dev.leaveQueue_thr, Dev.thr_modThr_self, hnode, hdead, Bool.not_true, Bool.false_eq_true, if_false, g]
  case timeout =>
    refine fun _ => exec_next rfl ?_
    simp only [t] at hy
    simp only [hy, hdead, Bool.false_eq_true, if_false]
    rfl

end Sys2Proof.Machine
end

/-! ## The Face tile (R206 to R211) -/
section
namespace Sys2Proof.Machine

/-- What the scrub makes of a tile one of whose frames has lost its bits (R211). -/
def Dev.frameLost (d : Dev) (g : Nat) : Dev :=
  let n := (d.gal g).face.scrubAt
  let d1 := d.modGal g (fun x => { x with face := { x.face with scrubAt := (n + 1) % 4096 } })
  let d2 := if d.faceState g = 3 then (d1.faceFlush g).setFace g 4 else d1
  let d3 := d2.modGal g (fun x => { x with face := { x.face with bad := x.face.bad.filter (· != n) ++ [n] } })
  ((d3.tally 0x0701 g [n]).wr (R.GL_FCSTAT g) F.GL_FCSTAT_user_irq 1).pendSource (supOf g) 4

theorem Dev.mem_bad_frameLost (d : Dev) (g : Nat) : (d.gal g).face.scrubAt ∈ ((d.frameLost g).gal g).face.bad := by
  have hgal (e : Dev) (n : Nat) (l : List Nat) (r : Reg) (f : Fld) (k : Nat) :
      (((e.tally 0x0701 g l).wr r f n).pendSource k 4).gal g = e.gal g := rfl
  unfold Dev.frameLost
  simp only [hgal, Dev.gal_modGal_self]
  exact List.mem_append_right _ (List.mem_singleton_self _)

theorem Dev.irq_frameLost (d : Dev) (g : Nat) : (d.frameLost g).rd (R.GL_FCSTAT g) F.GL_FCSTAT_user_irq = 1 :=
  Dev.rd_wr_self _ _ _ _ (by decide)

/-- The scrub reads the next frame of a tile that holds a configuration. -/
theorem execFaceFrameScrub_does {d : Dev} {g : Fin 26} {ecc : MemEcc} (hst : d.faceState g = 2 ∨ d.faceState g = 3) :
    Does (.faceFrameScrub g ecc) d (match ecc with
      | .good => d.modGal g (fun x => { x with face := { x.face with scrubAt := ((d.gal g).face.scrubAt + 1) % 4096 } })
      | .corrected => (d.modGal g (fun x => { x with face := { x.face with scrubAt := ((d.gal g).face.scrubAt + 1) % 4096 } })).inc
          (R.GL_FCSTAT g) F.GL_FCSTAT_cfg_corr
      | .lost => d.frameLost g) := by
  have h2 : ¬ d.faceState g < 2 := by omega
  refine fun _ => exec_next rfl ?_
  simp only [if_neg h2]
  cases ecc <;> rfl

/-- Settles O16: the checks of a request in their order, then what each event of the tile does. -/
theorem faceTile : Obligations.FaceTile := by
  intro d k op r err g tag data t h u post o ok runs q st n scrubbed
  have hroom (h3 : (t.live 3).length < 4) (hq : u.faceQueue h < 32) :
      (decide (4 ≤ (t.live 3).length) || decide (32 ≤ u.faceQueue h)) = false := by
    simp only [Bool.or_eq_false_iff, decide_eq_false_iff_not]
    omega
  have hruns : (decide (u.faceState h ≠ 3) || !bitAt (u.rd (R.GL_FCINFO h) F.GL_FCINFO_fn_mask) op) = !runs := by
    simp only [runs, Bool.not_and, ne_eq, decide_not, beq_eq_decide]
  refine ⟨fun hi hr h3 hq => ?request, fun hi h3 => ?full, fun hi h3 hq hr => ?refused, fun y hy => ?reply, fun y hy => ?timeout,
    fun hn hl => ?badTag, fun h3 => ?irq, fun a bs e h1 hl hs => ?loaded, fun hst => ⟨?good, ?corrected, ⟨_, execFaceFrameScrub_does hst, d.mem_bad_frameLost g, d.irq_frameLost g⟩⟩,
    fun m l hm => ?restart, fun j e cp code detail pc rest hl => ?late⟩
  case request =>
    refine does_go (fun _ => rfl) hi ((if_neg (c := (_ || _) = true) ?_).trans ((if_neg (c := (_ || _) = true) ?_).trans rfl))
    · exact Bool.eq_false_iff.1 (hroom h3 hq)
    · exact Bool.eq_false_iff.1 (hruns.trans (hr ▸ rfl))
  case full =>
    refine does_stall_of_lt (fun _ => rfl) hi (if_pos (c := (decide (4 ≤ (t.live 3).length) || decide (32 ≤ u.faceQueue h)) = true) ?_) (by decide)
    simpa only [Bool.or_eq_true, decide_eq_true_eq] using h3
  case refused =>
    refine does_fault (fun _ => rfl) hi ((if_neg (c := (_ || _) = true) ?_).trans (if_pos (c := (_ || _) = true) ?_)) (by decide)
    · exact Bool.eq_false_iff.1 (hroom h3 hq)
    · exact hruns.trans (hr ▸ rfl)
  case reply =>
    intro e
    refine fun _ => exec_next rfl ?_
    simp only [q] at hy
    simp only [hy]
    rfl
  case timeout =>
    refine fun _ => exec_next rfl ?_
    simp only [q] at hy
    simp only [hy]
    rfl
  case badTag =>
    refine fun _ => exec_next rfl ?_
    simp only [q] at hn hl
    simp only [hn, hl]
  case irq => exact fun _ => exec_next rfl (if_pos h3)
  case loaded =>
    refine fun _ => exec_next rfl ((if_neg (not_not_intro h1)).trans ?_)
    simp only [hl, Option.getD_some, hs]
  case good => exact execFaceFrameScrub_does hst
  case corrected => exact execFaceFrameScrub_does hst
  case restart =>
    refine fun _ => exec_next rfl ?_
    simp only [hm]
  case late =>
    refine fun _ => exec_next rfl ?_
    simp only [hl]

end Sys2Proof.Machine
end

/-! ## The instructions of the Token board (R186, R187) -/
section
namespace Sys2Proof.Machine

section Tok
variable {c : Instr} {d : Dev} {k f r : Nat} (hc : Does c d (d.tokIns k f r)) (h : d.issues k 0x3FFF (0x3300 + f * 16 + r) 1 [r] false = true)
include hc h

theorem tok_waits (hr : (d.thr k).rel ≠ none) : Does c d (d.stallThread k 5) :=
  does_stall_of_lt hc h (if_pos (Option.isSome_iff_ne_none.2 hr)) (by decide)

variable (hr : (d.thr k).rel = none)
include hr

section Release
variable (hf : (f = 2 || f = 5 || f = 7 || f = 9) = true)
include hf

theorem tok_releases (hs : (d.thr k).sb = []) :
    Does c d (((((d.begun k 1 [r]).tokRelease k f ((d.thr k).reg r).toNat).2).modThr k (fun t =>
      t.setReg r (BitVec.ofNat 32 ((d.begun k 1 [r]).tokRelease k f ((d.thr k).reg r).toNat).1))).beyond d k) := by
  refine does_go hc h ?_
  simp only [hr, hf, hs, Option.isSome_none, Bool.false_eq_true, if_false, if_true, List.isEmpty_nil]

theorem tok_release_waits (hs : (d.thr k).sb ≠ []) : Retires c d k 1 ((d.thr k).pc.toNat + 1) (fun t =>
    { t.mark r true with rel := some (f, ((d.thr k).reg r).toNat, r, t.sb.length) }) := by
  have hg : Thread.Computes (fun t : Thread =>
    { t.mark r true with rel := some (f, ((d.thr k).reg r).toNat, r, (d.thr k).sb.length) }) := {}
  refine Retires.congr (retires_computes hc h ?_ hg) rfl
  simp only [hr, hf, List.isEmpty_iff, hs, Option.isSome_none, Bool.false_eq_true, if_false, if_true]

end Release

section Other
variable (hf : (f = 2 || f = 5 || f = 7 || f = 9) = false)
include hf

theorem tok_done {x : Nat} {e : Dev} (ha : (d.begun k 1 [r]).tokAct k f ((d.thr k).reg r).toNat r = (.done x, e)) :
    Does c d ((e.modThr k (fun t => t.setReg r (BitVec.ofNat 32 x))).beyond d k) := by
  refine does_go hc h ?_
  simp only [hr, hf, ha, Option.isSome_none, Bool.false_eq_true, if_false]

theorem tok_sleeps {w : TokWait} {e : Dev} (ha : (d.begun k 1 [r]).tokAct k f ((d.thr k).reg r).toNat r = (.sleep w, e)) :
    Does c d (((e.modThr k (fun t => if t.st = .hold then { t with heldFrom := .sleep, wait := some w }
      else { t with st := .sleep, wait := some w })).galTrace k 3 (d.thr k).pc.toNat).beyond d k) := by
  refine does_go hc h ?_
  simp only [hr, hf, ha, Option.isSome_none, Bool.false_eq_true, if_false]

theorem tok_rank {x : Nat} {e : Dev} (ha : (d.begun k 1 [r]).tokAct k f ((d.thr k).reg r).toNat r = (.rank x, e)) :
    Does c d (({ d with regs := e.regs }).faultThread k 6 x (d.thr k).pc.toNat) := by
  refine does_rank hc h ?_
  simp only [hr, hf, ha, Option.isSome_none, Bool.false_eq_true, if_false]

end Other
end Tok

end Sys2Proof.Machine
end

/-! ## Hardware locks (R268, R269, R273, R274, R277) -/
section
namespace Sys2Proof.Machine

theorem Dev.tokStatus_tk (d : Dev) (c : Nat) : (d.tokStatus c).2.tk = d.tk := by
  unfold Dev.tokStatus
  split <;> simp only [Dev.inc_tk]

theorem Dev.galTrace_tk (d : Dev) (k ev pc : Nat) : (d.galTrace k ev pc).tk = d.tk := by
  have hadd (e : Dev) (r : BitVec 128) : (e.galTraceAdd r).tk = e.tk := by
    unfold Dev.galTraceAdd
    split
    · exact Dev.inc_tk _ _ _ _
    · rfl
  unfold Dev.galTrace
  dsimp only
  split
  · rfl
  · rw [hadd]
    split <;> rfl

theorem Dev.lock_of_tk {d e : Dev} (h : e.tk = d.tk) (n : Nat) : e.lock n = d.lock n := by rw [Dev.lock, h, Dev.lock]

theorem Dev.lock_setLock_self (d : Dev) (n : Nat) (l : Lock) : (d.setLock n l).lock n = l := Tab.get_set_self ..

theorem Dev.lock_setLock_other (d : Dev) {n m : Nat} (l : Lock) (h : m ≠ n) : (d.setLock n l).lock m = d.lock m :=
  Tab.get_set_other _ _ _ _ _ h

/-- A record of a release concerns no lock. -/
theorem Dev.lock_releaseNote (d : Dev) (k : Nat) (j : Bool) (owner kind ident n : Nat) :
    (d.releaseNote k j owner kind ident).lock n = d.lock n := by
  have hrec (reason a b c x : Nat) : (d.relRecord reason a b c x).lock n = d.lock n := by
    unfold Dev.relRecord
    split
    · exact Dev.lock_of_tk (Dev.inc_tk ..) n
    · rfl
  unfold Dev.releaseNote
  split
  · exact hrec ..
  · split
    · exact hrec ..
    · rfl

theorem Dev.tokDone_tk (d : Dev) (k r v : Nat) : (d.tokDone k r v).tk = d.tk := by
  unfold Dev.tokDone
  dsimp only
  rw [Dev.modThr_tk]
  split
  · exact Dev.galTrace_tk ..
  · rfl

/-- A thread that hears of its operation has the status in the register and sleeps no more. -/
theorem Dev.tokDone_thr (d : Dev) (k r v : Nat) :
    ((d.tokDone k r v).thr k).reg r = BitVec.ofNat 32 v ∧ ((d.tokDone k r v).thr k).st ≠ .sleep := by
  unfold Dev.tokDone
  dsimp only
  rw [Dev.thr_modThr_self]
  refine ⟨Thread.reg_setReg_self _ r _, ?_⟩
  generalize (if (d.thr k).st = .sleep then d.galTrace k 4 (d.thr k).pc.toNat else d).thr k = t
  dsimp only
  split
  · exact nofun
  · assumption

section Lock
variable (d : Dev) (k v r : Nat) (wait : Bool)

/-- A number that no lock has is refused. -/
theorem Dev.lock_number (hv : 2 ^ 12 ≤ v) : (d.lockAcquire k v r wait).1 = .done 7 ∧ (d.lockRelease k v).1 = 7
    ∧ (d.lockAcquire k v r wait).2.tk = d.tk := by
  rw [Dev.lockAcquire, Dev.lockRelease, if_pos hv, if_pos hv]
  exact ⟨rfl, rfl, d.tokStatus_tk 7⟩

variable {v} (hv : v < 2 ^ 12)
include hv

theorem Dev.lock_group (hg : d.groupAllows v (k / 64) = false) : (d.lockAcquire k v r wait).1 = .done 3 ∧ (d.lockRelease k v).1 = 3
    ∧ (d.lockAcquire k v r wait).2.tk = d.tk := by
  rw [Dev.lockAcquire, Dev.lockRelease, if_neg (Nat.not_le.2 hv), if_neg (Nat.not_le.2 hv), hg]
  exact ⟨rfl, rfl, d.tokStatus_tk 3⟩

variable (hg : d.groupAllows v (k / 64) = true)
include hg

theorem Dev.lockAcquire_eq : d.lockAcquire k v r wait =
    if d.rankOk k (d.lockRank v) = false then (.rank v, d.inc R.TK_STAT F.TK_STAT_rank_flt)
    else if (d.lock v).held then
      if wait then (.sleep (.lock v r), d.setLock v { d.lock v with waiters := (d.lock v).waiters ++ [(k, r)] }) else (.done 1, d)
    else (.done (if (d.lock v).abandoned then 2 else 0), d.setLock v { held := true, owner := k }) := by
  rw [Dev.lockAcquire, if_neg (Nat.not_le.2 hv), hg]
  simp only [Bool.not_true, Bool.false_eq_true, if_false, Bool.not_eq_true']

theorem Dev.lockRelease_eq : d.lockRelease k v =
    if (d.lock v).held then (0, (d.releaseNote k (d.lock v).jobHeld (d.lock v).owner 0 v).passLock v false) else (4, d) := by
  rw [Dev.lockRelease, if_neg (Nat.not_le.2 hv), hg]
  simp only [Bool.not_true, Bool.false_eq_true, if_false, Bool.not_eq_true']
  cases (d.lock v).held
  · rfl
  · rfl

theorem Dev.lockRelease_last (hh : (d.lock v).held = true) (hw : (d.lock v).waiters = []) :
    (d.lockRelease k v).1 = 0 ∧ (d.lockRelease k v).2.lock v = {} := by
  rw [d.lockRelease_eq k hv hg, if_pos hh]
  refine ⟨rfl, ?_⟩
  simp only [Dev.passLock, Dev.lock_releaseNote, hw, Dev.lock_setLock_self]

theorem Dev.lockRelease_passes {j q : Nat} {rest : List (Nat × Nat)} (hh : (d.lock v).held = true) (hw : (d.lock v).waiters = (j, q) :: rest) :
    (d.lockRelease k v).1 = 0 ∧ (d.lockRelease k v).2.lock v = { held := true, owner := j, waiters := rest }
      ∧ ((d.lockRelease k v).2.thr j).reg q = 0 ∧ ((d.lockRelease k v).2.thr j).st ≠ .sleep := by
  rw [d.lockRelease_eq k hv hg, if_pos hh]
  refine ⟨rfl, ?_⟩
  simp only [Dev.passLock, Dev.lock_releaseNote, hw, Dev.grantLock, Dev.lock_of_tk (Dev.tokDone_tk ..), Dev.lock_setLock_self, true_and]
  exact Dev.tokDone_thr ..

end Lock

/-- Settles O17: the release kinds and the others are one argument each; the locks are settled by the state of the lock. -/
theorem tokensAndLocks : Obligations.TokensAndLocks := by
  refine ⟨fun d k r => ?tok, fun d k v r wait => ⟨d.lock_number k v r wait, d.lock_group k r wait, fun hv hg => ?lock⟩⟩
  case tok =>
    intro t v u ok write release other
    have hrel (c : Instr) (f : Nat) (hc : Does c d (d.tokIns k f r)) (hf : (f = 2 || f = 5 || f = 7 || f = 9) = true) :
        release c f (u.tokRelease k f v) :=
      ⟨fun h hr hs => tok_releases hc h hr hf hs, fun h hr hs => tok_release_waits hc h hr hf hs, fun h hr => tok_waits hc h hr⟩
    have hother (c : Instr) (f : Nat) (hc : Does c d (d.tokIns k f r)) (hf : (f = 2 || f = 5 || f = 7 || f = 9) = false) :
        other c f (u.tokAct k f v r) :=
      ⟨fun _ _ h hr ha => tok_done hc h hr hf ha, fun _ _ h hr ha => tok_sleeps hc h hr hf ha,
        fun _ _ h hr ha => tok_rank hc h hr hf ha, fun h hr => tok_waits hc h hr⟩
    exact ⟨hother (.lka k r) 0 (fun _ => rfl) rfl, hother (.lkt k r) 1 (fun _ => rfl) rfl, hrel (.lkr k r) 2 (fun _ => rfl) rfl,
      hother (.wla k r) 3 (fun _ => rfl) rfl, hother (.wlt k r) 4 (fun _ => rfl) rfl, hrel (.wlr k r) 5 (fun _ => rfl) rfl,
      hother (.evw k r) 6 (fun _ => rfl) rfl, hrel (.evs k r) 7 (fun _ => rfl) rfl, hother (.chp k r) 8 (fun _ => rfl) rfl,
      hrel (.chc k r) 9 (fun _ => rfl) rfl, hother (.chg k r) 10 (fun _ => rfl) rfl⟩
  case lock =>
    refine ⟨fun hr => ?_, fun hr hl => ?_, fun hr hl hw => ?_, fun hr hl hw => ?_, fun hl => ?_, d.lockRelease_last k hv hg,
      fun j q rest hl hw => d.lockRelease_passes k hv hg hl hw⟩
    · rw [d.lockAcquire_eq k r wait hv hg, if_pos hr]
      exact ⟨rfl, Dev.inc_tk ..⟩
    · rw [d.lockAcquire_eq k r wait hv hg, if_neg (by rw [hr]; decide), if_neg (by rw [hl]; decide)]
      exact ⟨rfl, Dev.lock_setLock_self .., fun n hn => Dev.lock_setLock_other _ _ hn⟩
    · rw [d.lockAcquire_eq k r wait hv hg, if_neg (by rw [hr]; decide), if_pos hl, if_pos hw]
      exact ⟨rfl, Dev.lock_setLock_self ..⟩
    · rw [d.lockAcquire_eq k r wait hv hg, if_neg (by rw [hr]; decide), if_pos hl, if_neg (by rw [hw]; decide)]
      exact ⟨rfl, rfl⟩
    · rw [d.lockRelease_eq k hv hg, if_neg (by rw [hl]; decide)]

end Sys2Proof.Machine
end

/-! ## Channels and events (R280 to R282) -/
section
namespace Sys2Proof.Machine

/-- The pending bits that are not taken stay. -/
theorem ofNat_sub_and (e : BitVec 16) (m : Nat) (hm : m < 2 ^ 16) :
    BitVec.ofNat 16 (e.toNat - (e.toNat &&& m)) = e &&& ~~~BitVec.ofNat 16 m := by
  have hsplit : (e &&& BitVec.ofNat 16 m) + (e &&& ~~~BitVec.ofNat 16 m) = e := by
    rw [BitVec.add_eq_or_of_and_eq_zero]
    · ext i hi
      simp only [BitVec.getElem_or, BitVec.getElem_and, BitVec.getElem_not]
      cases e[i] <;> simp
    · ext i hi
      simp only [BitVec.getElem_and, BitVec.getElem_not, BitVec.getElem_zero]
      cases e[i] <;> simp
  have hand : (e &&& BitVec.ofNat 16 m).toNat = e.toNat &&& m := by
    rw [BitVec.toNat_and, BitVec.toNat_ofNat, Nat.mod_eq_of_lt hm]
  have hle : e &&& BitVec.ofNat 16 m ≤ e := by
    rw [BitVec.le_def, hand]
    exact Nat.and_le_left
  rw [eq_sub_of_add_eq' hsplit]
  apply BitVec.eq_of_toNat_eq
  rw [BitVec.toNat_sub_of_le hle, hand, BitVec.toNat_ofNat, Nat.mod_eq_of_lt (Nat.lt_of_le_of_lt (Nat.sub_le ..) e.isLt)]

section Channel
variable (d : Dev) (k v r t : Nat)

/-- CHP stages another word while fewer than sixteen are. -/
theorem Dev.chanPut_stages (h : (d.tk.staging.get [] k).length < 16) :
    (d.chanPut k v).1 = .done 0 ∧ (d.chanPut k v).2.tk.staging.get [] k = d.tk.staging.get [] k ++ [BitVec.ofNat 32 v] := by
  rw [Dev.chanPut, if_neg (Nat.not_le.2 h)]
  exact ⟨rfl, Tab.get_set_self ..⟩

theorem Dev.chan_setChan (c : Nat) (l : List (List Word32)) : (d.setChan c l).chan c = l := Tab.get_set_self ..

/-- What CHC comes to on a channel that the thread may use. -/
theorem Dev.chanCommit_eq (hv : v < 2 ^ 10) (ha : d.chanAllows v (k / 64) = true) : d.chanCommit k v =
    if d.tk.staging.get [] k = [] then (7, (d.tokStatus 7).2)
    else if d.rd (R.TK_CHAN v) F.TK_CHAN_depth ≤ (d.chan v).length then (1, d)
    else (0, ((d.setChan v (d.chan v ++ [d.tk.staging.get [] k])).dropStaging k).chanWake v) := by
  rw [Dev.chanCommit, if_neg (Nat.not_le.2 hv), ha]
  simp only [Bool.not_true, Bool.false_eq_true, if_false, List.isEmpty_iff]

theorem Dev.chanCommit_sends (hv : v < 2 ^ 10) (ha : d.chanAllows v (k / 64) = true) (hs : d.tk.staging.get [] k ≠ [])
    (hr : (d.chan v).length < d.rd (R.TK_CHAN v) F.TK_CHAN_depth) (hw : d.tk.receivers.get [] v = []) :
    (d.chanCommit k v).1 = 0 ∧ (d.chanCommit k v).2.chan v = d.chan v ++ [d.tk.staging.get [] k]
      ∧ (d.chanCommit k v).2.tk.staging.get [] k = [] := by
  rw [d.chanCommit_eq k v hv ha, if_neg hs, if_neg (Nat.not_le.2 hr)]
  let e := (d.setChan v (d.chan v ++ [d.tk.staging.get [] k])).dropStaging k
  have hwake : e.chanWake v = e := by
    have he : e.tk.receivers.get [] v = [] := hw
    rw [Dev.chanWake, he]
  refine ⟨rfl, ?_⟩
  rw [hwake]
  exact ⟨d.chan_setChan v _, Tab.get_set_self ..⟩

/-- CHG of a channel that the thread may use and that holds a message. -/
theorem Dev.chanGet_reads (hv : v < 2 ^ 15) (ha : d.chanAllows (v % 2 ^ 10) (k / 64) = true) (hc : d.chan (v % 2 ^ 10) ≠ []) :
    (d.chanGet k v r).1 = .done (((d.chan (v % 2 ^ 10)).headD []).getD (v / 2 ^ 10 % 16) 0).toNat
      ∧ (d.chanGet k v r).2.chan (v % 2 ^ 10) = if v / 2 ^ 14 % 2 = 1 then (d.chan (v % 2 ^ 10)).drop 1 else d.chan (v % 2 ^ 10) := by
  have he : d.chanGet k v r = (.done (d.chanRead (v % 2 ^ 10) (bitsOf v 10 4) (bitAt v 14)).1,
      (d.chanRead (v % 2 ^ 10) (bitsOf v 10 4) (bitAt v 14)).2) := by
    rw [Dev.chanGet, if_neg (Nat.not_le.2 hv), ha]
    simp only [Bool.not_true, Bool.false_eq_true, if_false, List.isEmpty_iff, hc]
  rw [he]
  refine ⟨rfl, ?_⟩
  simp only [Dev.chanRead, bitAt, beq_iff_eq]
  split
  · exact d.chan_setChan ..
  · rfl

/-- CHG of an empty channel: the thread waits behind the other receivers. -/
theorem Dev.chanGet_sleeps (hv : v < 2 ^ 15) (ha : d.chanAllows (v % 2 ^ 10) (k / 64) = true) (hc : d.chan (v % 2 ^ 10) = []) :
    (d.chanGet k v r).1 = .sleep (.channel (v % 2 ^ 10) (v / 2 ^ 10 % 16) (decide (v / 2 ^ 14 % 2 = 1)) r)
      ∧ (d.chanGet k v r).2.tk.receivers.get [] (v % 2 ^ 10) = d.tk.receivers.get [] (v % 2 ^ 10) ++ [k] := by
  rw [Dev.chanGet, if_neg (Nat.not_le.2 hv), ha]
  simp only [Bool.not_true, Bool.false_eq_true, if_false, List.isEmpty_iff, hc, if_true]
  exact ⟨rfl, Tab.get_set_self ..⟩

theorem Dev.pendEvents_setEvents (e : BitVec 16) : (d.setEvents k e).pendEvents k = e := Tab.get_set_self ..

/-- EVW takes the bits that it waits for where some are pending. -/
theorem Dev.eventWait_takes (hv : v < 2 ^ 28) (hm : v % 2 ^ 16 ≠ 0) (hp : (d.pendEvents k).toNat &&& v % 2 ^ 16 ≠ 0) :
    (d.eventWait k v r).1 = .done (((d.pendEvents k).toNat &&& v % 2 ^ 16) * 2 ^ 16)
      ∧ (d.eventWait k v r).2.pendEvents k = d.pendEvents k &&& ~~~BitVec.ofNat 16 (v % 2 ^ 16) := by
  have hgo : (decide (2 ^ 28 ≤ v) || decide (v % 2 ^ 16 = 0)) = false := by
    simp only [Bool.or_eq_false_iff, decide_eq_false_iff_not]
    exact ⟨Nat.not_le.2 hv, hm⟩
  unfold Dev.eventWait
  dsimp only
  rw [hgo, if_neg Bool.false_ne_true, if_pos hp]
  exact ⟨rfl, (d.pendEvents_setEvents k _).trans (ofNat_sub_and _ _ (Nat.mod_lt _ (by decide)))⟩

/-- EVS to a thread that waits for no event. -/
theorem Dev.eventSignal_pends (ht : t = v % 2 ^ 11) (hz : v / 2 ^ 11 % 32 = 0) (hlt : t ≤ 1663)
    (hw : ∀ a b e, (d.thr t).wait ≠ some (.event a b e)) :
    (d.eventSignal v).1 = 0 ∧ (d.eventSignal v).2.pendEvents t = d.pendEvents t ||| BitVec.ofNat 16 (v / 2 ^ 16 % 2 ^ 16) := by
  have hgo : (decide (bitsOf v 11 5 ≠ 0) || decide (1663 < v % 2 ^ 11)) = false := by
    simp only [Bool.or_eq_false_iff, decide_eq_false_iff_not, not_not]
    exact ⟨hz, Nat.not_lt.2 (ht ▸ hlt)⟩
  unfold Dev.eventSignal
  dsimp only
  rw [hgo, if_neg Bool.false_ne_true, ← ht]
  split
  · next a b e h => exact absurd h (hw a b e)
  · exact ⟨rfl, (d.pendEvents_setEvents t _).trans (by rw [BitVec.ofNat_toNat, BitVec.setWidth_eq]; rfl)⟩

end Channel

/-- Settles O18: the channel operations one by one, and the board's commands by their guards. -/
theorem channelsAndBoard : Obligations.ChannelsAndBoard := by
  refine ⟨fun d k v r t => ⟨d.chanPut_stages k v, fun h => if_pos h, fun hv ha hs => ?empty, fun hv ha hs hr => ?full,
    d.chanCommit_sends k v, d.chanGet_reads k v r, d.chanGet_sleeps k v r, d.eventWait_takes k v r, d.eventSignal_pends v t⟩,
    fun d k g w mask => ⟨fun m r hw => ?timeout, fun h => ?reclaim, fun he hi hf => ?fire, fun _ => exec_next rfl rfl, fun hf hs => ?escalate⟩⟩
  case empty =>
    rw [d.chanCommit_eq k v hv ha]
    exact congrArg Prod.fst (if_pos hs)
  case full =>
    rw [d.chanCommit_eq k v hv ha]
    exact (if_neg hs).trans (if_pos hr)
  case timeout =>
    refine fun _ => exec_next rfl ?_
    simp only [hw]
  case reclaim => exact fun _ => exec_next rfl (if_pos h)
  case fire =>
    refine fun _ => exec_next rfl ?_
    simp only [he, hi, hf, Bool.not_false, Bool.and_self, if_true]
  case escalate =>
    have hs : ((d.thr (supOf g)).st == .hold) = false := beq_eq_false_iff_ne.2 hs
    refine fun _ => exec_next rfl ?_
    simp only [hf, hs, Bool.not_true, Bool.or_self, Bool.false_eq_true, if_false]

end Sys2Proof.Machine
end

/-! ## Threads take nodes and interrupts, and fault (R136, R161, R163, R165 to R167) -/
section
namespace Sys2Proof.Machine

/-! ### Parts of the state that events of a thread leave alone -/

theorem Dev.thr_of_threads {d e : Dev} (h : e.threads = d.threads) (k : Nat) : e.thr k = d.thr k := by rw [Dev.thr, h, Dev.thr]

theorem Dev.gal_of_gals {d e : Dev} (h : e.gals = d.gals) (g : Nat) : e.gal g = d.gal g := by rw [Dev.gal, h, Dev.gal]

theorem Dev.byte_of_mem {d e : Dev} (h : e.mem = d.mem) (a : Nat) : e.byte a = d.byte a := by rw [Dev.byte, h, Dev.byte]

theorem Dev.imem_of_mem {d e : Dev} (h : e.mem = d.mem) (k w : Nat) : e.imem k w = d.imem k w := by
  rw [Dev.imem, Dev.load, Dev.bytes_congr _ _ fun _ _ => Dev.byte_of_mem h _, ← Dev.load, ← Dev.imem]

theorem Dev.galTrace_thr (d : Dev) (k ev pc j : Nat) : (d.galTrace k ev pc).thr j = d.thr j := Dev.thr_of_threads (Dev.galTrace_threads ..) j

theorem Dev.markHigh_threads (d : Dev) (r : Reg) (f : Fld) (n : Nat) : (d.markHigh r f n).threads = d.threads := by
  unfold Dev.markHigh
  split <;> rfl

theorem Dev.syncCq_threads (d : Dev) (g c : Nat) : (d.syncCq g c).threads = d.threads := Dev.markHigh_threads ..

theorem Thread.reg_setReg_other (t : Thread) {r q : Nat} (v : Word32) (h : q % 16 ≠ r % 16) : (t.setReg r v).reg q = t.reg q := by
  simp [Thread.reg, Thread.setReg, h.symm]

/-! ### A node -/

/-- Node `r` leaves the queue of the core of thread `k` and runs there (R136). -/
def Dev.unqueueNode (d : Dev) (k : Nat) (r : NodeRef) : Dev :=
  let g := k / 64
  let j := jobKey g r.slot
  let e := ({ d with dr := { d.dr with cq := d.dr.cq.upd [] (g * 8 + k / 8 % 8) (·.erase r) } }).syncCq g (k / 8 % 8)
  let e := e.wr (R.DR_CQ g (k / 8 % 8)) F.DR_CQ_busy (e.rd (R.DR_CQ g (k / 8 % 8)) F.DR_CQ_busy + 1)
  e.setJob j { d.job j with running := (d.job j).running + 1 }

/-- A thread of gallery `g` as it begins node `r`, whose operand is `op` (R161). -/
def Thread.begins (t : Thread) (g : Nat) (r : NodeRef) (op : Nat) : Thread :=
  { ((t.setReg 0 (BitVec.ofNat 32 (0x100000 + r.slot * 0x200))).setReg 1 (BitVec.ofNat 32 (r.slot + r.node * 2 ^ 12 + g * 2 ^ 16))).setTsw 0
    with st := .ready, node := some r, nodeLive := true, slots := 0, cap := bitsOf op 0 8, ext := [] }

/-- The operand of a queued node. -/
def Dev.nodeOperand (d : Dev) (g : Nat) (r : NodeRef) : Nat := ND.operand (d.tmplNode (d.job (jobKey g r.slot)).tmpl r.node)

/-- The device once thread `k`, which is free, has taken the queued node `r`. -/
def Dev.takesNode (d : Dev) (k : Nat) (r : NodeRef) : Dev :=
  let op := d.nodeOperand (k / 64) r
  ((((d.unqueueNode k r).modThr k (fun t => t.begins (k / 64) r op)).refetch k (bitsOf op 26 14)).galTrace k 6 (bitsOf op 26 14))

theorem threadTakeNode_does {d : Dev} {k : Fin 1664} {r : NodeRef} (hst : (d.thr k).st = .free) (hs : isSup k = false)
    (hg : d.galState (k / 64) = 2 ∨ d.galState (k / 64) = 3) (ho : (d.thr k).owed = none)
    (hops : (d.thr k).ops.all (fun o => o.dead || o.epoch == (d.thr k).epoch.toNat) = true) (hn : d.nodeFor k = some r) :
    Does (.threadTakeNode k) d (d.takesNode k r) := by
  have hguard : ((d.thr k).st != .free || isSup k || (d.galState (k.val / 64) != 2 && d.galState (k.val / 64) != 3) || (d.thr k).owed.isSome
      || (d.thr k).ops.any (fun o => !o.dead && o.epoch != (d.thr k).epoch.toNat)) = false := by
    have hany : (d.thr k).ops.any (fun o => !o.dead && o.epoch != (d.thr k).epoch.toNat) = false := by
      rw [List.any_eq_not_all_not, Bool.not_eq_false', ← hops]
      exact congrArg _ (funext fun o => by rw [Bool.not_and, Bool.not_not, bne, Bool.not_not])
    have hgal : (d.galState (k.val / 64) != 2 && d.galState (k.val / 64) != 3) = false := by
      rcases hg with hg | hg <;> rw [hg] <;> rfl
    rw [hst, hs, hgal, ho, hany]
    rfl
  refine fun _ => exec_next rfl ((if_neg (Bool.eq_false_iff.1 hguard)).trans ?_)
  rw [hn]
  rfl

section Takes
variable (d : Dev) (k : Nat) (r : NodeRef)

theorem Dev.unqueueNode_thr (j : Nat) : (d.unqueueNode k r).thr j = d.thr j := Dev.thr_of_threads (Dev.syncCq_threads ..) j

theorem Dev.unqueueNode_mem : (d.unqueueNode k r).mem = d.mem := by
  unfold Dev.unqueueNode
  simp

theorem Dev.takesNode_thr : ∃ fb, (d.takesNode k r).thr k =
    { (d.thr k).begins (k / 64) r (d.nodeOperand (k / 64) r) with
      pc := BitVec.ofNat 14 (bitsOf (d.nodeOperand (k / 64) r) 26 14), fetched := d.imem k (bitsOf (d.nodeOperand (k / 64) r) 26 14)
      fetchBad := fb } := by
  unfold Dev.takesNode
  dsimp only
  rw [Dev.galTrace_thr, Dev.refetch, Dev.thr_modThr_self, Dev.thr_modThr_self, Dev.unqueueNode_thr, Dev.imem_of_mem (Dev.modThr_mem ..),
    Dev.imem_of_mem (Dev.unqueueNode_mem ..)]
  exact ⟨_, rfl⟩

theorem Dev.takesNode_thr_other {j : Nat} (hj : j ≠ k) : (d.takesNode k r).thr j = d.thr j := by
  unfold Dev.takesNode
  dsimp only
  rw [Dev.galTrace_thr, Dev.refetch, Dev.thr_modThr_other _ _ hj, Dev.thr_modThr_other _ _ hj, Dev.unqueueNode_thr]

theorem Dev.takesNode_mem : (d.takesNode k r).mem = d.mem := by
  rw [Dev.takesNode, Dev.galTrace_mem, Dev.refetch, Dev.modThr_mem, Dev.modThr_mem, Dev.unqueueNode_mem]

end Takes

/-- Settles O19: the thread that the guards let take the node is described by `Dev.takesNode`. -/
theorem threadTakesNode : Obligations.ThreadTakesNode := by
  intro d k r g op hst hs hg ho hops hn
  obtain ⟨fb, ht⟩ := d.takesNode_thr k r
  refine ⟨_, threadTakeNode_does hst hs hg ho hops hn, ?_⟩
  dsimp only
  rw [ht]
  refine ⟨rfl, rfl, rfl, rfl, rfl, ?_, Thread.reg_setReg_self _ 1 _, rfl, rfl, rfl, rfl, fun j hj => d.takesNode_thr_other k r hj,
    Dev.byte_of_mem (d.takesNode_mem k r)⟩
  exact (Thread.reg_setReg_other _ _ (by decide)).trans (Thread.reg_setReg_self _ 0 _)

/-! ### An interrupt -/

theorem Dev.applyModes_thr (d : Dev) (k : Nat) :
    ∃ a c, (d.applyModes k).thr k = { d.thr k with agmLive := a, ctlLive := c, delayed := [] } := by
  have hall (l : List (Nat × ModeChange)) (e : Dev) :
      ∃ a c, (l.foldl (fun d x => d.applyMode k x.2) e).thr k = { e.thr k with agmLive := a, ctlLive := c } := by
    induction l generalizing e with
    | nil => exact ⟨_, _, rfl⟩
    | cons x l ih =>
      obtain ⟨a, c, h⟩ := ih (e.applyMode k x.2)
      have hone : ∃ a c, (e.applyMode k x.2).thr k = { e.thr k with agmLive := a, ctlLive := c } := by
        unfold Dev.applyMode
        split
        · exact ⟨_, _, Dev.thr_modThr_self ..⟩
        · exact ⟨_, _, Dev.thr_modThr_self ..⟩
      obtain ⟨a', c', h'⟩ := hone
      rw [List.foldl_cons, h, h']
      exact ⟨a, c, rfl⟩
  obtain ⟨a, c, h⟩ := hall (d.thr k).delayed (d.modThr k (fun t => { t with delayed := [] }))
  rw [Dev.applyModes, h, Dev.thr_modThr_self]
  exact ⟨a, c, rfl⟩

/-- Thread `k` as it goes to the vector of source `b` (R163). -/
def Thread.latches (t : Thread) (b : Nat) (keep : Bool) : Thread :=
  { t with ipc := t.returnPoint, itsw := t.tsw, inHnd := true, st := .ready, wait := none, draining := 0, ext := []
           pend := if keep then t.pend else t.pend &&& BitVec.ofNat 8 (255 - 2 ^ b) }

/-- The device once thread `k` has latched source `b`. -/
def Dev.latches (d : Dev) (k b : Nat) : Dev :=
  let e := if (d.thr k).st == .sleep then d.withdraw k else d
  let v := d.rd (R.GL_CCTL (k / 64) (k / 8 % 8)) F.GL_CCTL_vec_base + 8 * b
  (((e.modThr k (fun t => t.latches b (b == 2 && !(d.gal (k / 64)).faults.isEmpty))).applyModes k).refetch k v).galTrace k 5 (v % 2 ^ 14)

theorem interruptLatch_does {d : Dev} {k : Fin 1664} {b : Nat} (hh : (d.thr k).inHnd = false)
    (hst : (d.thr k).st = .ready ∨ (d.thr k).st = .stall ∨ (d.thr k).st = .sleep)
    (hg : d.galState (k / 64) = 2 ∨ d.galState (k / 64) = 3) (hn : d.nextSource k = some b) :
    Does (.interruptLatch k) d (d.latches k b) := by
  have hguard : ((d.thr k).inHnd || !((d.thr k).st == .ready || (d.thr k).st == .stall || (d.thr k).st == .sleep)
      || (d.galState (k.val / 64) != 2 && d.galState (k.val / 64) != 3)) = false := by
    have hgal : (d.galState (k.val / 64) != 2 && d.galState (k.val / 64) != 3) = false := by
      rcases hg with hg | hg <;> rw [hg] <;> rfl
    have hlive : ((d.thr k).st == .ready || (d.thr k).st == .stall || (d.thr k).st == .sleep) = true := by
      rcases hst with hst | hst | hst <;> rw [hst] <;> rfl
    rw [hh, hlive, hgal]
    rfl
  refine fun _ => exec_next rfl ((if_neg (Bool.eq_false_iff.1 hguard)).trans ?_)
  rw [hn]
  unfold Dev.latches
  cases (d.thr k).st == .sleep <;> rfl

/-- The thread that latches stands at the vector, with its registers as they were. -/
theorem Dev.latches_thr (d : Dev) (k b : Nat) : ∃ a c w fb, (d.latches k b).thr k =
    { (d.thr k).latches b (b == 2 && !(d.gal (k / 64)).faults.isEmpty) with
      agmLive := a, ctlLive := c, delayed := [], fetched := w, fetchBad := fb
      pc := BitVec.ofNat 14 (d.rd (R.GL_CCTL (k / 64) (k / 8 % 8)) F.GL_CCTL_vec_base + 8 * b) } := by
  have hw : (if (d.thr k).st == .sleep then d.withdraw k else d).thr k = d.thr k := by split <;> rfl
  unfold Dev.latches
  dsimp only
  generalize (if (d.thr k).st == .sleep then d.withdraw k else d) = e at hw
  obtain ⟨a, c, h⟩ := (e.modThr k (fun t => t.latches b (b == 2 && !(d.gal (k / 64)).faults.isEmpty))).applyModes_thr k
  rw [Dev.galTrace_thr, Dev.refetch, Dev.thr_modThr_self, h, Dev.thr_modThr_self, hw]
  exact ⟨a, c, _, _, rfl⟩

theorem Dev.latches_mem (d : Dev) (k b : Nat) : (d.latches k b).mem = d.mem := by
  have hw : (if (d.thr k).st == .sleep then d.withdraw k else d).mem = d.mem := by split <;> rfl
  rw [Dev.latches, Dev.galTrace_mem, Dev.refetch, Dev.modThr_mem, Dev.applyModes_mem, Dev.modThr_mem, hw]

/-! ### A fault -/

section PushFault
variable (d : Dev) (k code detail pc : Nat)

theorem Dev.supFault_faults (g h : Nat) : ((d.supFault g code).gal h).faults = (d.gal h).faults := by
  have hm (e : Dev) (l : List Nat) : ((e.modGal g (fun x => { x with supFaults := l })).gal h).faults = (e.gal h).faults := by
    by_cases hgh : h = g
    · subst hgh
      rw [Dev.gal_modGal_self]
    · exact congrArg Gallery.faults (Tab.get_set_other _ _ _ _ _ hgh)
  unfold Dev.supFault
  extract_lets e l n e'
  split <;> exact hm e _

theorem Dev.supFault_events (g : Nat) : (d.supFault g code).events = d.events ++ [⟨0x32, g, code, 0, d.now⟩] := by
  unfold Dev.supFault
  extract_lets e l n e'
  split <;> rfl

theorem Dev.supFault_threads (g : Nat) : (d.supFault g code).threads = d.threads := by
  unfold Dev.supFault
  extract_lets e l n e'
  split <;> rfl

/-- The record of a fault of thread `k` (R166). -/
def Dev.faultRecord : BitVec 192 :=
  faultRec code (d.thr k).epoch.toNat (d.thr k).inflight (k / 8 % 8) (k % 8) (match (d.thr k).node with | some n => n.slot | none => 0)
    (match (d.thr k).node with | some n => n.node | none => 0) pc detail (stampOf d.now)

/-- The record in the FIFO, or its loss counted. -/
def Dev.fileFault : Dev :=
  let fs := (d.gal (k / 64)).faults
  if 16 ≤ fs.length then d.inc (R.GL_STAT (k / 64)) F.GL_STAT_f_lost
  else (d.modGal (k / 64) (fun x => { x with faults := fs ++ [d.faultRecord k code detail pc]
                                             headAt := if fs.isEmpty then d.now else x.headAt })).wr
    (R.GL_STAT (k / 64)) F.GL_STAT_f_depth (fs.length + 1)

theorem Dev.pushFault_eq : d.pushFault k code detail pc =
    if isSup k then (d.fileFault k code detail pc).supFault (k / 64) code
    else if 16 ≤ (d.gal (k / 64)).faults.length then d.fileFault k code detail pc
    else (d.fileFault k code detail pc).pendSource (supOf (k / 64)) 2 := by
  unfold Dev.pushFault Dev.fileFault
  simp only [decide_eq_true_eq]
  rfl

theorem Dev.fileFault_frame : (d.fileFault k code detail pc).threads = d.threads ∧ (d.fileFault k code detail pc).events = d.events
    ∧ (d.fileFault k code detail pc).now = d.now := by
  unfold Dev.fileFault
  dsimp only
  split
  · exact ⟨Dev.inc_threads .., Dev.inc_events .., Dev.inc_now ..⟩
  · exact ⟨rfl, rfl, rfl⟩

theorem Dev.pushFault_thr : ∃ p, (d.pushFault k code detail pc).thr k = { d.thr k with pend := p } := by
  have hf : (d.fileFault k code detail pc).thr k = d.thr k := Dev.thr_of_threads (d.fileFault_frame k code detail pc).1 k
  rw [Dev.pushFault_eq]
  split
  · exact ⟨(d.thr k).pend, (Dev.thr_of_threads (Dev.supFault_threads ..) k).trans hf⟩
  · split
    · exact ⟨(d.thr k).pend, hf⟩
    · by_cases hk : k = supOf (k / 64)
      · rw [← hk, Dev.pendSource, Dev.thr_modThr_self, hf]
        exact ⟨_, rfl⟩
      · exact ⟨(d.thr k).pend, (Dev.thr_modThr_other _ _ hk).trans hf⟩

theorem Dev.pushFault_events (hs : isSup k = true) :
    (d.pushFault k code detail pc).events = d.events ++ [⟨0x32, k / 64, code, 0, d.now⟩] := by
  obtain ⟨-, he, hn⟩ := d.fileFault_frame k code detail pc
  rw [Dev.pushFault_eq, if_pos hs, Dev.supFault_events, he, hn]

theorem Dev.pushFault_faults : ((d.pushFault k code detail pc).gal (k / 64)).faults =
    if 16 ≤ (d.gal (k / 64)).faults.length then (d.gal (k / 64)).faults
    else (d.gal (k / 64)).faults ++ [d.faultRecord k code detail pc] := by
  have hf : ((d.fileFault k code detail pc).gal (k / 64)).faults = if 16 ≤ (d.gal (k / 64)).faults.length then (d.gal (k / 64)).faults
      else (d.gal (k / 64)).faults ++ [d.faultRecord k code detail pc] := by
    unfold Dev.fileFault
    dsimp only
    split
    · rw [Dev.gal_of_gals (Dev.inc_gals ..)]
    · rw [Dev.gal_of_gals (Dev.wr_gals ..), Dev.gal_modGal_self]
  rw [← hf, Dev.pushFault_eq]
  split
  · exact Dev.supFault_faults ..
  · split <;> rfl

end PushFault

section Fault
variable (d : Dev) (k code detail pc : Nat)

/-- A thread as a fault stops it (R165, R191). -/
def Dev.faultStop : Dev := ((d.galTrace k 8 pc).stopThread k).modThr k (fun t => { t with st := .fault })

theorem Dev.faultStop_thr : (d.faultStop k pc).thr k =
    { d.thr k with epoch := (d.thr k).epoch + 1, ext := [], loads := [], wait := none, draining := 0, stepping := false, st := .fault } := by
  rw [Dev.faultStop, Dev.thr_modThr_self, Dev.stopThread, Dev.thr_modThr_self, Dev.galTrace_thr]

theorem Dev.faultStop_frame : (d.faultStop k pc).gals = d.gals ∧ (d.faultStop k pc).events = d.events ∧ (d.faultStop k pc).now = d.now
    ∧ (d.faultStop k pc).mem = d.mem := by
  obtain ⟨h, -⟩ := IssueFrame.galTrace (k := k) d k 8 pc
  exact ⟨Dev.galTrace_gals .., (congrArg Dev.events h :), (congrArg Dev.now h :), (congrArg Dev.mem h :)⟩

theorem Dev.faultThread_eq : d.faultThread k code detail pc =
    let e := (((d.faultStop k pc).pushFault k code detail pc).withdraw k).endNodeBad k
    if code = 7 then e.inc (R.GL_CPSTAT (k / 64)) F.GL_CPSTAT_refused else e := rfl

theorem Dev.endNodeBad_of_dead (h : (d.thr k).nodeLive = false) : d.endNodeBad k = d := by
  unfold Dev.endNodeBad
  dsimp only
  split
  · rw [h]
    rfl
  · rfl

variable (hl : (d.thr k).nodeLive = false)
include hl

theorem Dev.faultThread_frame :
    let e := (d.faultStop k pc).pushFault k code detail pc
    (d.faultThread k code detail pc).thr k = e.thr k ∧ (d.faultThread k code detail pc).gals = e.gals
      ∧ (d.faultThread k code detail pc).mem = d.mem ∧ (code ≠ 7 → (d.faultThread k code detail pc).events = e.events) := by
  intro e
  obtain ⟨p, hp⟩ := (d.faultStop k pc).pushFault_thr k code detail pc
  have hlive : ((e.withdraw k).thr k).nodeLive = false := by
    show (e.thr k).nodeLive = false
    rw [hp, Dev.faultStop_thr]
    exact hl
  have hm : e.mem = d.mem := (Dev.pushFault_mem ..).trans (d.faultStop_frame k pc).2.2.2
  rw [Dev.faultThread_eq, Dev.endNodeBad_of_dead _ _ hlive]
  dsimp only
  split
  · next h7 => exact ⟨Dev.thr_of_threads (Dev.inc_threads ..) k, Dev.inc_gals .., (Dev.inc_mem ..).trans hm, fun h => absurd h7 h⟩
  · exact ⟨rfl, rfl, hm, fun _ => rfl⟩

end Fault

/-- Settles O20: `Dev.latches` describes an interrupt, and a fault is its stop, its record and the end of its node. -/
theorem interruptsAndFaults : Obligations.InterruptsAndFaults := by
  refine ⟨fun d k b => ?latch, fun d k code detail pc => ?fault⟩
  case latch =>
    intro t g hh hst hg hn
    obtain ⟨a, c, w, fb, ht⟩ := d.latches_thr k b
    refine ⟨_, interruptLatch_does hh hst hg hn, ?_⟩
    dsimp only
    rw [ht]
    refine ⟨rfl, rfl, rfl, rfl, rfl, rfl, rfl, ?_, Dev.byte_of_mem (d.latches_mem k b)⟩
    simp only [Thread.latches, Bool.and_eq_true, beq_iff_eq, Bool.not_eq_true', List.isEmpty_eq_false_iff]
    rfl
  case fault =>
    intro e g t at_
    refine ⟨fun hl => ?stops, fun hl h7 hs => ?events, fun h7 => if_neg h7⟩
    case stops =>
      obtain ⟨hthr, hgals, hmem, -⟩ := d.faultThread_frame k code detail pc hl
      obtain ⟨p, hp⟩ := (d.faultStop k pc).pushFault_thr k code detail pc
      obtain ⟨hsg, -, hsn, -⟩ := d.faultStop_frame k pc
      have hfaults := (d.faultStop k pc).pushFault_faults k code detail pc
      rw [Dev.gal_of_gals hsg] at hfaults
      rw [hp, Dev.faultStop_thr] at hthr
      dsimp only [e, g]
      rw [hthr, Dev.gal_of_gals hgals, hfaults]
      refine ⟨rfl, rfl, rfl, rfl, rfl, rfl, Dev.byte_of_mem hmem, fun h => ?_, fun h => if_pos h⟩
      rw [if_neg (Nat.not_le.2 h), Dev.faultRecord, Dev.faultStop_thr, hsn]
      dsimp only [at_, t]
      cases (d.thr k).node <;> rfl
    case events =>
      obtain ⟨-, -, -, hev⟩ := d.faultThread_frame k code detail pc hl
      obtain ⟨-, hse, hsn, -⟩ := d.faultStop_frame k pc
      exact (hev h7).trans (by rw [Dev.pushFault_events _ _ _ _ _ hs, hse, hsn])

end Sys2Proof.Machine
end

/-! ## The instructions of the assayers (R75 to R78) -/
section
namespace Sys2Proof.Machine

/-- An assayer instruction that is next runs on its word and on the assayer with the step counted. -/
theorem Dev.assay_of_next {d : Dev} {p a op w : Nat} {x : Assayer} (h : d.assayNext p a op = some (w, x)) (f : Nat → Assayer → AsEnd) :
    d.assay p a op f = match f w x with
      | .go y => { d with as := { d.as with assayers := d.as.assayers.put (asKey p a) y } }
      | .exc c => d.parseFail (asKey p a) x c
      | .done => ((d.parseLeave (asKey p a) x).classify x.frame (slotOf x.ver) x.prof x.fv).learnTry x.frame := by
  unfold Dev.assayNext at h
  unfold Dev.assay
  dsimp only
  cases hx : d.as.assayers.find (asKey p a) with
  | none => simp only [hx, reduceCtorEq] at h
  | some y =>
    simp only [hx, Option.ite_none_right_eq_some, Option.some.injEq, Prod.mk.injEq] at h
    obtain ⟨⟨hop, hlt⟩, rfl, rfl⟩ := h
    have hrun : (decide (d.asWord y / 2 ^ 28 ≠ op) || decide (d.stepMax p ≤ y.steps)) = false := by
      simp only [Bool.or_eq_false_iff, decide_eq_false_iff_not, not_not, not_le]
      exact ⟨hop, hlt⟩
    exact if_neg (Bool.eq_false_iff.1 hrun)

section Ends
variable {c : Instr} {d : Dev} {p a op w code : Nat} {x y : Assayer} {f : Nat → Assayer → AsEnd} (hc : Does c d (d.assay p a op f))
  (h : d.assayNext p a op = some (w, x))
include hc h

theorem assay_goes (hf : f w x = .go y) : Does c d { d with as := { d.as with assayers := d.as.assayers.put (asKey p a) y } } := by
  rwa [Dev.assay_of_next h, hf] at hc

theorem assay_fails (hf : f w x = .exc code) : Does c d (d.parseFail (asKey p a) x code) := by
  rwa [Dev.assay_of_next h, hf] at hc

theorem assay_done (hf : f w x = .done) :
    Does c d (((d.parseLeave (asKey p a) x).classify x.frame (slotOf x.ver) x.prof x.fv).learnTry x.frame) := by
  rwa [Dev.assay_of_next h, hf] at hc

end Ends

/-- A branch goes to its target or on to the next word. -/
theorem asBranch_eq (w : Nat) (x : Assayer) (cond : Nat → Nat → Bool) {q : Prop} [Decidable q]
    (hq : cond (x.p (bitsOf w 26 2)).toNat (bitsOf w 10 16) = true ↔ q) :
    asBranch w x cond = .go (if q then x.goto (bitsOf w 0 10) else x.next) := by
  rw [asBranch]
  exact congrArg AsEnd.go (if_congr hq rfl rfl)

/-- Assayer `k` goes on as `y`. -/
def Dev.assayerOn (d : Dev) (k : Nat) (y : Assayer) : Dev := { d with as := { d.as with assayers := d.as.assayers.put k y } }

/-- The field that LDM loads by its number (R79). -/
def fixedFields : List BF := [FV.rflags, FV.appid, FV.etype_off, FV.in_port, FV.pass, FV.length, FV.red_seq, FV.rtag_seq]

section Load
variable {d : Dev} {p : Fin 4} {a : Fin 16} {w : Nat} {x : Assayer}

theorem ldr_half (h : d.assayNext p a 1 = some (w, x)) (hs : bitsOf w 16 2 = 1) (hw : x.cur + bitsOf w 20 8 + 2 ≤ x.wv.length) :
    Does (.ldr p a) d (d.assayerOn (asKey p a)
      (x.next.setP (bitsOf w 18 2) (beNat ((x.wv.drop (x.cur + bitsOf w 20 8)).take 2)))) := by
  refine assay_goes (fun _ => rfl) h ?_
  simp only [hs, if_true, if_neg (Nat.not_lt.2 hw)]

theorem ldr_byte (h : d.assayNext p a 1 = some (w, x)) (hs : bitsOf w 16 2 ≠ 1) (hw : x.cur + bitsOf w 20 8 + 1 ≤ x.wv.length) :
    Does (.ldr p a) d (d.assayerOn (asKey p a)
      (x.next.setP (bitsOf w 18 2) (match bitsOf w 16 2 with
        | 0 => wire8 x.wv (x.cur + bitsOf w 20 8)
        | 2 => wire8 x.wv (x.cur + bitsOf w 20 8) / 16
        | _ => wire8 x.wv (x.cur + bitsOf w 20 8) % 16))) := by
  refine assay_goes (fun _ => rfl) h ?_
  simp only [if_neg hs, if_neg (Nat.not_lt.2 hw)]
  generalize bitsOf w 16 2 = z at hs
  match z, hs with
  | 0, _ => rfl
  | 2, _ => rfl
  | _ + 3, _ => rfl

theorem ldm_loads (h : d.assayNext p a 14 = some (w, x)) {f : BF} (hf : fixedFields[bitsOf w 22 4]? = some f) :
    Does (.ldm p a) d (d.assayerOn (asKey p a) (x.next.setP (bitsOf w 26 2) (f.get x.fv))) := by
  refine assay_goes (fun _ => rfl) h ?_
  generalize bitsOf w 22 4 = z at hf
  obtain ⟨hz, rfl⟩ := List.getElem?_eq_some_iff.1 hf
  have hz : z < 8 := hz
  interval_cases z <;> rfl

theorem ldm_reserved (h : d.assayNext p a 14 = some (w, x)) (hz : 8 ≤ bitsOf w 22 4) : Does (.ldm p a) d (d.parseFail (asKey p a) x 0x05) := by
  refine assay_fails (fun _ => rfl) h ?_
  generalize bitsOf w 22 4 = z at hz
  obtain ⟨m, rfl⟩ := Nat.exists_eq_add_of_le' hz
  rfl

end Load

/-- Settles O24: each instruction by how it ends, after the checks on the window and on the field vector. -/
theorem assayerInstructions : Obligations.AssayerInstructions := by
  intro d p a w x at_ goes fails next jump pos n o nb reg imm field fixed
  refine ⟨fun h hp => ?extPos, fun h hp hw => ?extWin, fun h hp hw => ?ext, fun h hs hw => ldr_half h hs hw, fun h hs hw => ldr_byte h hs hw,
    fun h hw => assay_fails (fun _ => rfl) h (if_pos hw), fun h => assay_goes (fun _ => rfl) h rfl,
    fun h => assay_goes (fun _ => rfl) h rfl, fun h => ?beq, fun h => ?bne, fun h => ?bset, fun h => assay_goes (fun _ => rfl) h rfl,
    fun h hp => ?setb, fun h hp => ?setbPos, fun h hp => ?putr, fun h hp => ?putrPos, fun h => assay_goes (fun _ => rfl) h rfl,
    fun h hc => ?hdr, fun h hc => ?hdrCur, fun h => assay_done (fun _ => rfl) h rfl, fun h => ?fail, fun f h hf => ldm_loads h hf,
    fun h hz => ldm_reserved h hz, fun h => assay_fails (fun _ => rfl) h rfl⟩
  case extPos => exact assay_fails (fun _ => rfl) h (if_pos hp)
  case extWin => exact assay_fails (fun _ => rfl) h ((if_neg (Nat.not_lt.2 hp)).trans (if_pos hw))
  case ext => exact assay_goes (fun _ => rfl) h ((if_neg (Nat.not_lt.2 hp)).trans (if_neg (Nat.not_lt.2 hw)))
  case beq => exact assay_goes (fun _ => rfl) h (asBranch_eq _ _ _ beq_iff_eq)
  case bne =>
    refine assay_goes (fun _ => rfl) h ((asBranch_eq (q := ¬ reg = imm) _ _ _ bne_iff_ne).trans (congrArg AsEnd.go ?_))
    exact ite_not ..
  case bset =>
    refine assay_goes (fun _ => rfl) h ((asBranch_eq (q := ¬ reg &&& imm = 0) _ _ _ bne_iff_ne).trans (congrArg AsEnd.go ?_))
    exact ite_not ..
  case setb => exact assay_goes (fun _ => rfl) h (if_neg (Nat.not_le.2 hp))
  case setbPos => exact assay_fails (fun _ => rfl) h (if_pos hp)
  case putr => exact assay_goes (fun _ => rfl) h (if_neg (Nat.not_lt.2 hp))
  case putrPos => exact assay_fails (fun _ => rfl) h (if_pos hp)
  case hdr => exact assay_goes (fun _ => rfl) h (if_neg (Nat.not_lt.2 hc))
  case hdrCur => exact assay_fails (fun _ => rfl) h (if_pos hc)
  case fail =>
    refine assay_fails (fun _ => rfl) h ?_
    simp only [Bool.and_eq_true, decide_eq_true_eq]

end Sys2Proof.Machine
end

/-! ## Where a register stands (R513) -/
section
namespace Sys2Proof.Machine

/-- The address of the copy `ix` of a register whose strides are `dims`; `n` numbers of copies are counted into `base`. -/
def strideAddr (base : Nat) (ix : List Nat) : Nat → List (Nat × Nat) → Nat
  | _, [] => base
  | n, (s, _) :: dims => strideAddr (base + s * ix.getD n 0) ix (n + 1) dims

/-- The index of registers and the map of instances agree. -/
theorem regOf_addr (id : RegId) (ix : List Nat) : (regOf id ix).addr = strideAddr (regRow id).base ix 0 (regRow id).dims := by
  cases id <;> rfl

theorem strideAddr_add (base c : Nat) (ix : List Nat) (n : Nat) (dims : List (Nat × Nat)) :
    strideAddr (base + c) ix n dims = strideAddr base ix n dims + c := by
  induction dims generalizing base n with
  | nil => rfl
  | cons x dims ih => rw [strideAddr, strideAddr, Nat.add_right_comm, ih]

theorem strideAddr_cons (base i : Nat) (ix : List Nat) (n : Nat) (dims : List (Nat × Nat)) :
    strideAddr base (i :: ix) (n + 1) dims = strideAddr base ix n dims := by
  induction dims generalizing base n with
  | nil => rfl
  | cons x dims ih => rw [strideAddr, strideAddr, List.getD_cons_succ, ih]

theorem strideAddr_of_instancesOf {dims : List (Nat × Nat)} {o : Nat} {ix : List Nat} (h : instancesOf dims o = some ix) (base : Nat) :
    strideAddr base ix 0 dims = base + o := by
  induction dims generalizing o ix base with
  | nil =>
    simp only [instancesOf, Option.ite_none_right_eq_some] at h
    rw [strideAddr, h.1, Nat.add_zero]
  | cons x dims ih =>
    obtain ⟨s, n⟩ := x
    simp only [instancesOf, Option.ite_none_right_eq_some, Option.map_eq_some_iff] at h
    obtain ⟨-, ix, hix, rfl⟩ := h
    rw [strideAddr, strideAddr_cons, ih hix, List.getD_cons_zero, Nat.add_assoc, Nat.div_add_mod]

theorem findReg_mem {a : Nat} {id : RegId} {ix : List Nat} (h : findReg a = some (id, ix)) :
    id ∈ blockRegs (blockOf a) ∧ (regRow id).instancesAt a = some ix := by
  obtain ⟨i, hi, hx⟩ := List.exists_of_findSome?_eq_some h
  obtain ⟨y, hy, he⟩ := Option.map_eq_some_iff.1 hx
  cases he
  exact ⟨hi, hy⟩

/-- The register found at an address stands there. -/
theorem addr_of_findReg {a : Nat} {id : RegId} {ix : List Nat} (h : findReg a = some (id, ix)) : (regOf id ix).addr = a := by
  obtain ⟨-, hi⟩ := findReg_mem h
  simp only [RegRow.instancesAt, Option.ite_none_left_eq_some, Nat.not_lt] at hi
  obtain ⟨hb, hi⟩ := hi
  rw [regOf_addr, strideAddr_of_instancesOf hi, Nat.add_sub_cancel' hb]

theorem inReg_of_findReg {a : Nat} {id : RegId} {ix : List Nat} (h : findReg a = some (id, ix)) : inReg a = some ((id, ix), 0) := by
  have hw : 0 < regWidth id := by
    unfold regWidth
    split <;> decide
  have h0 : (if a < 0 then none else (findReg (a - 0)).bind (fun x => if 0 < regWidth x.1 then some (x, 0) else none)) = some ((id, ix), 0) := by
    rw [if_neg (Nat.not_lt_zero a), Nat.sub_zero, h, Option.bind_some, if_pos hw]
  rw [inReg, List.range_succ_eq_map, List.findSome?_cons, h0]

/-! ### The fields of a register lie beside each other -/

/-- Two fields share no bit. -/
def Fld.beside (f g : Fld) : Prop := f.lo + f.w ≤ g.lo ∨ g.lo + g.w ≤ f.lo

theorem Fld.beside.symm {f g : Fld} (h : f.beside g) : g.beside f := Or.symm h

/-- Every register's fields fit it and share no bit. -/
def RegRow.tidy (row : RegRow) : Bool :=
  row.flds.all (fun f => f.lo + f.w ≤ 64) && decide (row.flds.Pairwise (fun f g => f.lo + f.w ≤ g.lo ∨ g.lo + g.w ≤ f.lo))

theorem regRow_tidy (id : RegId) : (regRow id).tidy = true := by
  cases id <;> decide

theorem Fld.get_put_beside {f g : Fld} (hf : f.lo + f.w ≤ 64) (h : g.beside f) (v : Word64) (x : Nat) : g.get (f.put v x) = g.get v := by
  cases h with
  | inl h => exact f.get_put_below v x hf h
  | inr h => exact f.get_put_above v x hf h

/-- Taking ones out of a field is a write of the field. -/
theorem Fld.put_sub (f : Fld) (v : Word64) {c : Nat} (h : c ≤ f.get v) : f.put v (f.get v - c) = BitVec.ofNat 64 (v.toNat - c * 2 ^ f.lo) := by
  have hv : f.get v * 2 ^ f.lo ≤ v.toNat :=
    (Nat.mul_le_mul_right _ (Nat.mod_le _ _)).trans (Nat.div_mul_le_self ..)
  have hc : c * 2 ^ f.lo ≤ f.get v * 2 ^ f.lo := Nat.mul_le_mul_right _ h
  rw [Fld.put, Nat.mod_eq_of_lt (Nat.lt_of_le_of_lt (Nat.sub_le ..) (f.get_lt v)), Nat.sub_mul]
  congr 1
  omega

/-- Fields are worked on one after the other, each in its own bits: a field that the step passes over keeps its value. -/
theorem Fld.get_foldl {old : Word64} {step : Word64 → Fld → Word64} {l : List Fld} (hp : l.Pairwise Fld.beside)
    (hstep : ∀ f ∈ l, ∀ e, f.get e = f.get old → ∀ g : Fld, g.beside f → g.get (step e f) = g.get e) {e : Word64} (he : ∀ f ∈ l, f.get e = f.get old)
    {g : Fld} (hg : ∀ f ∈ l, g.beside f ∨ ∀ e, step e f = e) : g.get (l.foldl step e) = g.get e := by
  induction l generalizing e with
  | nil => rfl
  | cons f l ih =>
    obtain ⟨hpf, hpl⟩ := List.pairwise_cons.1 hp
    have hone := hstep f List.mem_cons_self e (he f List.mem_cons_self)
    have hnext : g.get (step e f) = g.get e := by
      rcases hg f List.mem_cons_self with h | h
      · exact hone g h
      · rw [h]
    rw [List.foldl_cons, ih hpl (fun x hx => hstep x (List.mem_cons_of_mem _ hx)) (fun x hx => ?_)
      (fun x hx => hg x (List.mem_cons_of_mem _ hx)), hnext]
    rw [hone x (hpf x hx).symm, he x (List.mem_cons_of_mem _ hx)]

end Sys2Proof.Machine
end

/-! ## A register is written and read over the bus (R3, R4, R8, R55, R342, R499, R509, R514) -/
section
namespace Sys2Proof.Machine

/-! ### The clocks that a request restarts (R55) -/

theorem lt_of_blockOf_gallery {a : Nat} (h : blockOf a = 0x20) : a < 0x2D00000 := by
  simp only [blockOf, Bool.and_eq_true, decide_eq_true_eq] at h
  split at h
  · contradiction
  · split at h
    · omega
    · split at h
      · omega
      · contradiction

theorem islandsOf_lt {a i : Nat} (h : i ∈ islandsOf a) : i < 100 := by
  have hg := @lt_of_blockOf_gallery a
  unfold islandsOf at h
  dsimp only at h
  simp only [Bool.and_eq_true, decide_eq_true_eq] at h
  generalize blockOf a = b at h hg
  (repeat' split at h) <;> simp only [List.mem_cons, List.not_mem_nil, or_false, forall_const] at h hg <;> omega

section Wake
variable {d : Dev}

/-- The clocks of a list of islands run again. -/
def Dev.wakeList (d : Dev) (l : List Nat) : Dev :=
  l.foldl (fun d i => d.wrIf (d.on (R.CK_ISLSTAT i) F.CK_ISLSTAT_gated) (R.CK_ISLSTAT i) F.CK_ISLSTAT_gated 0) d

theorem Dev.wakeIsles_eq (d : Dev) (a : Nat) : d.wakeIsles a = d.wakeList ((islandsOf a).filter d.islandUp) := rfl

theorem Dev.wakeList_of_running {l : List Nat} (h : ∀ i ∈ l, d.on (R.CK_ISLSTAT i) F.CK_ISLSTAT_gated = false) : d.wakeList l = d := by
  induction l with
  | nil => rfl
  | cons i l ih =>
    have hi : d.wrIf (d.on (R.CK_ISLSTAT i) F.CK_ISLSTAT_gated) (R.CK_ISLSTAT i) F.CK_ISLSTAT_gated 0 = d :=
      if_neg (Bool.eq_false_iff.1 (h i List.mem_cons_self))
    rw [Dev.wakeList, List.foldl_cons, hi]
    exact ih fun j hj => h j (List.mem_cons_of_mem _ hj)

theorem Dev.wakeList_only_regs (d : Dev) (l : List Nat) : ∃ rs, d.wakeList l = { d with regs := rs } := by
  induction l generalizing d with
  | nil => exact ⟨_, rfl⟩
  | cons i l ih =>
    obtain ⟨rs, h⟩ := ih (d.wrIf (d.on (R.CK_ISLSTAT i) F.CK_ISLSTAT_gated) (R.CK_ISLSTAT i) F.CK_ISLSTAT_gated 0)
    refine ⟨rs, h.trans ?_⟩
    unfold Dev.wrIf
    split <;> rfl

theorem Dev.wakeList_rget (d : Dev) {l : List Nat} (hl : ∀ i ∈ l, i < 100) {r : Reg} (hr : r.addr < 0x200000 ∨ 0x208000 ≤ r.addr) :
    (d.wakeList l).rget r = d.rget r := by
  induction l generalizing d with
  | nil => rfl
  | cons i l ih =>
    have hi := hl i List.mem_cons_self
    refine (ih _ fun j hj => hl j (List.mem_cons_of_mem _ hj)).trans ?_
    unfold Dev.wrIf
    dsimp only
    split
    · refine Dev.rget_wr_other _ _ _ _ ?_
      dsimp only [R.CK_ISLSTAT]
      omega
    · rfl

theorem Dev.wakeList_runs (d : Dev) {l : List Nat} {i : Nat} (hi : i ∈ l ∨ d.on (R.CK_ISLSTAT i) F.CK_ISLSTAT_gated = false) :
    (d.wakeList l).on (R.CK_ISLSTAT i) F.CK_ISLSTAT_gated = false := by
  induction l generalizing d with
  | nil => exact hi.resolve_left List.not_mem_nil
  | cons j l ih =>
    refine ih (d.wrIf (d.on (R.CK_ISLSTAT j) F.CK_ISLSTAT_gated) (R.CK_ISLSTAT j) F.CK_ISLSTAT_gated 0) ?_
    by_cases hj : i = j
    · subst hj
      refine Or.inr ?_
      unfold Dev.wrIf
      split
      · rw [Dev.on, Dev.rd_wr_self _ _ _ _ (by decide)]
        rfl
      · next h => exact Bool.eq_false_iff.2 h
    · refine hi.imp (fun h => (List.mem_cons.1 h).resolve_left hj) fun h => ?_
      unfold Dev.wrIf
      split
      · rwa [Dev.on, Dev.rd_wr_other _ _ _ _ _ (by dsimp only [R.CK_ISLSTAT]; omega)]
      · exact h

variable {a : Nat}

theorem Dev.wakeIsles_of_served (h : d.served a = true) : d.wakeIsles a = d := by
  simp only [Dev.served, Bool.and_eq_true, List.all_eq_true, Bool.not_eq_true'] at h
  exact Dev.wakeList_of_running h.2

theorem Dev.reachable_of_served (h : d.served a = true) : d.reachable a = true := (Bool.and_eq_true_iff.1 h).1

theorem Dev.wakeIsles_rget (d : Dev) (a : Nat) {r : Reg} (hr : r.addr < 0x200000 ∨ 0x208000 ≤ r.addr) :
    (d.wakeIsles a).rget r = d.rget r :=
  Dev.wakeList_rget d (fun _ hi => islandsOf_lt (List.mem_filter.1 hi).1) hr

theorem ite_lt {c : Prop} [Decidable c] {a b n : Nat} (ha : c → a < n) (hb : b < n) : (if c then a else b) < n := by
  split
  · exact ha ‹c›
  · exact hb

theorem islandDom_lt (i : Nat) : islandDom i < 100 := by
  unfold islandDom
  iterate 13 refine ite_lt (fun h => by omega) ?_
  decide

theorem Dev.wakeIsles_islandUp (d : Dev) (a i : Nat) : (d.wakeIsles a).islandUp i = d.islandUp i := by
  obtain ⟨rs, h⟩ := d.wakeList_only_regs ((islandsOf a).filter d.islandUp)
  have hs (n : Nat) (hn : n < 100) : (d.wakeIsles a).domSt n = d.domSt n := by
    have hr : (d.wakeIsles a).rget (R.PW_DOM n) = d.rget (R.PW_DOM n) := d.wakeIsles_rget a (Or.inl (by dsimp only [R.PW_DOM]; omega))
    rw [Dev.domSt, Dev.rd, hr, ← Dev.rd, ← Dev.domSt]
  rw [Dev.islandUp, hs _ (islandDom_lt i), Dev.wakeIsles_eq, h]
  rfl

theorem Dev.wakeIsles_path (d : Dev) (src : Src) (a : Nat) : (d.wakeIsles a).path src a = d.path src a := by
  obtain ⟨rs, h⟩ := d.wakeList_only_regs ((islandsOf a).filter d.islandUp)
  have hr : (d.wakeIsles a).on R.DB_STAT F.DB_STAT_unlocked = d.on R.DB_STAT F.DB_STAT_unlocked := by
    rw [Dev.on, Dev.rd, d.wakeIsles_rget a (by decide), ← Dev.rd, ← Dev.on]
  unfold Dev.path
  rw [hr, Dev.wakeIsles_eq, h]
  rfl

theorem Dev.served_wakeIsles (h : d.reachable a = true) : (d.wakeIsles a).served a = true := by
  have hup : (d.wakeIsles a).islandUp = d.islandUp := funext (d.wakeIsles_islandUp a)
  rw [Dev.served, Dev.reachable, hup, ← Dev.reachable, h, Bool.true_and, List.all_eq_true]
  exact fun i hi => Bool.not_eq_true' _ ▸ (d.wakeList_runs (Or.inl hi))

end Wake

/-! ### A register takes a write -/

/-- No register of a function's Cage area has a field of the expert level (R8). -/
theorem discards_functionArea {id : RegId} {ix : List Nat} {a : Nat} (h : findReg a = some (id, ix)) (ha : 2 ^ 32 ≤ (regOf id ix).addr)
    (old v : Word64) : (regRow id).discards old v = false := by
  have hmem := (findReg_mem h).1
  rw [addr_of_findReg h] at ha
  rw [blockOf, if_pos ha] at hmem
  simp only [blockRegs, List.mem_cons, List.not_mem_nil, or_false] at hmem
  rcases hmem with rfl | rfl | rfl | rfl | rfl <;> rfl

section RegWrite
variable {d : Dev} {src : Src} {id : RegId} {ix : List Nat} {v : Word64}

theorem Dev.regWrite_locked (hl : d.dbLocked (regOf id ix).addr = true) (pass : Bool) :
    d.regWrite src id ix v pass = d.inc R.DB_STAT F.DB_STAT_ref_cnt := by
  unfold Dev.regWrite
  exact if_pos hl

theorem Dev.regWrite_lands (hl : d.dbLocked (regOf id ix).addr = false) (hid : id ≠ .PT_TSDLY) (hg : d.grantOk src = true
      ∨ 2 ^ 32 ≤ (regOf id ix).addr ∧ ∀ old w, (regRow id).discards old w = false) (pass : Bool) :
    d.regWrite src id ix v pass = if blockOf (regOf id ix).addr = 0x20 then d.glWrite id ix (d.eff id ix v) src
      else d.regEffect id ix (d.rget (regOf id ix)) (d.eff id ix v) pass := by
  have hkeep : (!d.grantOk src && decide ((regOf id ix).addr < 2 ^ 32)) = false := by
    rcases hg with hg | ⟨hg, -⟩
    · rw [hg, Bool.not_true, Bool.false_and]
    · rw [decide_eq_false (Nat.not_lt.2 hg), Bool.and_false]
  have hdisc (old w : Word64) : (!d.grantOk src && !instRo id ix && (regRow id).discards old w) = false := by
    rcases hg with hg | ⟨-, hg⟩
    · rw [hg, Bool.not_true, Bool.false_and, Bool.false_and]
    · rw [hg, Bool.and_false]
  unfold Dev.regWrite
  dsimp only
  rw [if_neg (Bool.eq_false_iff.1 hl)]
  split
  · contradiction
  · rw [hkeep, if_neg Bool.false_ne_true]
    cases src <;> simp only [hdisc, Bool.false_eq_true, if_false] <;> rfl

/-- Without the grant a field of the expert level, and a read-only one, keeps its value (R8, R514). -/
theorem Dev.regWrite_keeps (hl : d.dbLocked (regOf id ix).addr = false) (hid : id ≠ .PT_TSDLY) (hg : d.grantOk src = false)
    (ha : (regOf id ix).addr < 2 ^ 32) (pass : Bool) {f : Fld} (hf : f ∈ (regRow id).flds) (hacc : f.acc = .xp ∨ f.acc = .xpwo ∨ f.acc = .ro) :
    f.get ((d.regWrite src id ix v pass).rget (regOf id ix)) = f.get (d.rget (regOf id ix)) := by
  obtain ⟨hfit, hpair⟩ := Bool.and_eq_true_iff.1 (regRow_tidy id)
  have hfit (g : Fld) (h : g ∈ (regRow id).flds) : g.lo + g.w ≤ 64 := of_decide_eq_true (List.all_eq_true.1 hfit g h)
  have hpair : (regRow id).flds.Pairwise (fun f g => f.lo + f.w ≤ g.lo ∨ g.lo + g.w ≤ f.lo) := of_decide_eq_true hpair
  have hgo : (!d.grantOk src && decide ((regOf id ix).addr < 2 ^ 32)) = true := by rw [hg, decide_eq_true ha]; rfl
  unfold Dev.regWrite
  dsimp only
  rw [if_neg (Bool.eq_false_iff.1 hl)]
  split
  · contradiction
  · rw [hgo, if_pos rfl, Dev.rset_rget]
    refine Fld.get_foldl hpair (fun g hg e he h hb => ?_) (fun _ _ => rfl) fun g hg => ?_
    · split
      · exact Fld.get_put_beside (hfit g hg) hb ..
      · rw [← Fld.put_sub g e (he ▸ Nat.and_le_left)]
        exact Fld.get_put_beside (hfit g hg) hb ..
      · rfl
    · by_cases hfg : f = g
      · subst hfg
        refine Or.inr fun e => ?_
        rcases hacc with h | h | h <;> rw [h]
      · have hsymm : Std.Symm Fld.beside := ⟨fun _ _ => Or.symm⟩
        exact Or.inl (List.Pairwise.forall (R := Fld.beside) hpair hf hg hfg)

end RegWrite

section Bus
variable {d : Dev} {src : Src} {a : Nat} {id : RegId} {ix : List Nat} (hreg : findReg a = some (id, ix)) (harea : areaOf a = none)
  (hpath : d.path src a = .go)
include hreg harea hpath

/-- An access of a register's width goes to the register, once the clocks it needs run. -/
theorem Dev.busWrite_register (hr : d.reachable a = true) (v : Word64) (pass : Bool) :
    d.busWrite src a (regWidth id) v pass = (d.wakeIsles a).regWrite src id ix v pass := by
  have hacc : regAccess id 0 (regWidth id) = true := by simp only [regAccess, beq_self_eq_true, Bool.and_self]
  simp only [Dev.busWrite, hpath, harea, inReg_of_findReg hreg, hr, hacc, Bool.not_true, Bool.false_eq_true, if_false, if_true]

theorem Dev.busWrite_served (hs : d.served a = true) (v : Word64) (pass : Bool) :
    d.busWrite src a (regWidth id) v pass = d.regWrite src id ix v pass := by
  rw [Dev.busWrite_register hreg harea hpath (Dev.reachable_of_served hs), Dev.wakeIsles_of_served hs]

theorem Dev.busWrite_wakes (hr : d.reachable a = true) (v : Word64) (pass : Bool) :
    (d.wakeIsles a).busWrite src a (regWidth id) v pass = d.busWrite src a (regWidth id) v pass := by
  rw [Dev.busWrite_register hreg harea hpath hr, Dev.busWrite_served hreg harea ((d.wakeIsles_path src a).trans hpath) (d.served_wakeIsles hr)]

theorem Dev.busRead_served (hs : d.served a = true) : d.busRead src a (regWidth id) = (d.regRead id ix).2.out
    (.data (srcCode src) (BitVec.ofNat 64 ((d.regRead id ix).1 % 2 ^ (8 * regWidth id)))) := by
  have hacc : regAccess id 0 (regWidth id) = true := by simp only [regAccess, beq_self_eq_true, Bool.and_self]
  simp only [Dev.busRead, hpath, harea, inReg_of_findReg hreg, Dev.reachable_of_served hs, Dev.wakeIsles_of_served hs, hacc, Bool.not_true,
    Bool.false_eq_true, if_false, if_true]

end Bus

/-- Settles O42: the bus brings an access to its register, and the register's write goes by lock, grant and block. -/
theorem registerAccess : Obligations.RegisterAccess := by
  intro d src a size v id ix hreg harea r x
  have hgrant (h : d.grantOk src = true ∨ 2 ^ 32 ≤ r.addr) :
      d.grantOk src = true ∨ 2 ^ 32 ≤ r.addr ∧ ∀ old w, (regRow id).discards old w = false :=
    h.imp_right fun h => ⟨h, discards_functionArea hreg h⟩
  have hwrite (hp : d.path src a = .go) (hs : d.served a = true) (hz : size.val = regWidth id) :
      Does (.registerWrite src a size v) d (d.regWrite src id ix v true) := by
    rw [← Dev.busWrite_served hreg harea hp hs, ← hz]
    exact registerWrite_does d src a size v
  refine ⟨fun hp hs hz hl hid hg hb => ?_, fun hp hs hz hl hid hg hb => ?_, fun hp hs hz hl => ?_, fun hp hs hz hl hid hg ha => ?_,
    fun e hp hr he hz => ?_, fun hp => ?_, fun hp => ?_, fun hp hs hz => ?_⟩
  · have h := hwrite hp hs hz
    rwa [Dev.regWrite_lands hl hid (hgrant hg), if_neg hb] at h
  · have h := hwrite hp hs hz
    rwa [Dev.regWrite_lands hl hid (hgrant hg), if_pos hb] at h
  · exact Dev.regWrite_locked hl true ▸ hwrite hp hs hz
  · exact ⟨_, hwrite hp hs hz, fun f hf hacc => Dev.regWrite_keeps hl hid hg ha true hf hacc⟩
  · have hd := registerWrite_does d src a size v
    have hw := registerWrite_does (d.wakeIsles a) src a size v
    rw [hz, ← Dev.busWrite_wakes hreg harea hp hr, ← hz] at hd
    exact fun q => (hd q).trans ((hw q).symm.trans (he q))
  · have h := registerWrite_does d src a size v
    rwa [Dev.busWrite, hp] at h
  · have h := registerWrite_does d src a size v
    rwa [Dev.busWrite, hp] at h
  · have h := rcRead_does d src a size
    rwa [hz, Dev.busRead_served hreg harea hp hs, ← hz] at h

end Sys2Proof.Machine
end

/-! ## The queue and the reset state (R4, R101, R460) -/
section
namespace Sys2Proof.Machine

/-- Settles O1: the step's own branch for a queue that is not empty. -/
theorem stepRunsFront : Obligations.StepRunsFront := by
  intro c s rest h
  simp only [step, h]

/-- Settles O2: the step's own branch for an empty queue, by whether the device is DOWN. -/
theorem idleStepPassesTime : Obligations.IdleStepPassesTime := by
  have hidle (d e : Dev) (h : d.idle = e) : step ⟨d, []⟩ = .next ⟨e, []⟩ := h ▸ rfl
  exact ⟨fun d h => hidle d _ (if_neg h), fun d h => hidle d _ (if_pos h)⟩

/-- Settles O3: the meaning of every command runs an effect on the device. -/
theorem everyCommandCompletes : Obligations.EveryCommandCompletes := by
  intro c s
  cases c <;> exact ⟨_, rfl⟩

/-- Memory that nobody has written since reset reads as the spec's fill. -/
theorem reset_byte (a : Nat) : State.reset.dev.byte a = memDefault a := rfl

/-- A word of a parse bank that nobody has written is FAIL with code 0x20 (R101). -/
theorem memDefault_bank {a : Nat} (hlo : 0x402000 ≤ a) (hhi : a < 0x404000) :
    memDefault a = if a % 4 = 0 then 0x20 else if a % 4 = 3 then 0xD0 else 0 := by
  rw [memDefault, if_neg (by omega), if_neg (by omega), if_pos ⟨hlo, hhi⟩]
  have hmod : a % 4 < 4 := Nat.mod_lt a (by decide)
  generalize a % 4 = i at hmod
  interval_cases i <;> rfl

theorem reset_load_bank {slot n : Nat} (hs : slot < 2) (hn : n < 1024) : State.reset.dev.load (bankAddr slot + 4 * n) 4 = 0xD0000020 := by
  have hbyte (i : Nat) (hi : i < 4) : State.reset.dev.byte (bankAddr slot + 4 * n + i) = if i = 0 then 0x20 else if i = 3 then 0xD0 else 0 := by
    have hmod : (bankAddr slot + 4 * n + i) % 4 = i := by unfold bankAddr; omega
    rw [reset_byte, memDefault_bank (by unfold bankAddr; omega) (by unfold bankAddr; omega), hmod]
  have h0 := hbyte 0 (by decide)
  have h1 := hbyte 1 (by decide)
  have h2 := hbyte 2 (by decide)
  have h3 := hbyte 3 (by decide)
  simp only [Dev.load, Dev.bytes, Nat.add_assoc, Nat.add_zero, Nat.reduceAdd] at h0 h1 h2 h3 ⊢
  rw [h0, h1, h2, h3]
  rfl

/-- Settles O53: the reset state lists no register, table entry or byte of memory. -/
theorem resetState : Obligations.ResetState :=
  ⟨fun _ => rfl, rfl, fun k hk => by decide +revert, rfl, rfl, rfl, rfl, fun _ _ => reset_load_bank⟩

end Sys2Proof.Machine
end

/-! ## Events of a gallery (R158, R164, R168, R171, R334, R422, R505) -/
section
namespace Sys2Proof.Machine

theorem isleRange_gallery (g : Fin 26) : (isleRange g).isNone = false := by decide +revert

/-- Filling cells writes memory alone. -/
theorem Dev.fillCells_xc (row : Nat) (cs : List Nat) (d : Dev) (bs : List Byte) : (d.fillCells row cs bs).xc = d.xc := by
  induction cs generalizing d bs with
  | nil => rfl
  | cons c r ih => exact (ih _ _).trans rfl

/-- The end of a frequency change: the island's frequency and voltage, and the supervisor's source 7 (R171). -/
theorem Dev.freqDone_of_some {d : Dev} {g : Fin 26} {f : Nat} (h : (d.gal g).dvfs = some f) : d.freqDone g =
    ((((d.modGal g (fun x => { x with dvfs := none })).wr (R.CK_ISLSTAT g) F.CK_ISLSTAT_freq_mhz (d.isleLimit g f)).setVolt g
      (d.isleLimit g f)).pendSource (supOf g) 7) := by
  simp only [Dev.freqDone, h, Dev.isleFreq, isleRange_gallery, Bool.false_eq_true, if_false, if_pos g.isLt]
  rfl

/-! ### Rose -/

/-- The live entry 1 that a changeover of core `c` gives: of core 0, entry 15 stays a floor entry (R158). -/
def roseHigh (c : Nat) (v : Nat) : Nat := if c = 0 then v % 2 ^ 56 + 0x17 * 2 ^ 56 else v

/-- What a changeover of Rose leaves (R158). -/
def Dev.roseChanged (d : Dev) (g c : Nat) : Dev :=
  ((d.rset (R.GL_ROSELIVE0 g c) (d.rget (R.GL_ROSE0 g c))).rset (R.GL_ROSELIVE1 g c)
    (BitVec.ofNat 64 (roseHigh c (d.rget (R.GL_ROSE1 g c)).toNat))).wr (R.GL_ROSECTL g c) F.GL_ROSECTL_pending 0

theorem roseChangeover_does {d : Dev} {g : Fin 26} {c : Fin 8} (h : d.on (R.GL_ROSECTL g c) F.GL_ROSECTL_pending = true) :
    Does (.roseChangeover g c) d (d.roseChanged g c) := by
  refine fun _ => exec_next rfl ?_
  simp only [h, Bool.not_true, Bool.false_eq_true, if_false]
  rfl

theorem Dev.roseChanged_live0 (d : Dev) (g c : Nat) : (d.roseChanged g c).rget (R.GL_ROSELIVE0 g c) = d.rget (R.GL_ROSE0 g c) := by
  rw [Dev.roseChanged, Dev.rget_wr_other _ _ _ _ (by simp only [R.GL_ROSELIVE0, R.GL_ROSECTL]; omega),
    Dev.rset_rget_of_ne _ _ (by simp only [R.GL_ROSELIVE0, R.GL_ROSELIVE1]; omega), Dev.rset_rget]

theorem Dev.roseChanged_live1 (d : Dev) (g c : Nat) :
    (d.roseChanged g c).rget (R.GL_ROSELIVE1 g c) = BitVec.ofNat 64 (roseHigh c (d.rget (R.GL_ROSE1 g c)).toNat) := by
  rw [Dev.roseChanged, Dev.rget_wr_other _ _ _ _ (by simp only [R.GL_ROSELIVE1, R.GL_ROSECTL]; omega), Dev.rset_rget]

theorem Dev.roseChanged_pending (d : Dev) (g c : Nat) : (d.roseChanged g c).on (R.GL_ROSECTL g c) F.GL_ROSECTL_pending = false := by
  rw [Dev.on, Dev.roseChanged, Dev.rd_wr_self _ _ _ _ (by decide)]
  rfl

/-! ### The generator -/

/-- The tub that a generator's copy hands to Crosscut (R334): `p` its cells, `v` the command. -/
def genTub (d : Dev) (v : Word64) (p : Nat) : Tub :=
  let q := F.GL_GENCMD_queue.get v
  let t : Tub := T.length.put (T.cell.put (T.in_port.put (T.tclass.put 0 q) 34) p) (F.GL_GENCMD_length.get v)
  Tub.setDrop (Tub.setQueue (Tub.setCol (T.stamp.put t (stampOf d.now)) (F.GL_GENCMD_dcol.get v)) q) 0

/-- A generator's copy fills the cells of `p`. -/
def Dev.genFilled (d : Dev) (g src p len : Nat) : Dev :=
  d.fillCells 10 (d.chainOf p) (d.bytes (sharedAddr g (src - 0x100000)) (len - 4) ++ [0, 0, 0, 0])

/-- The frame of a generator is counted, and Crosscut has its tub. -/
def Dev.genSent (d : Dev) (g p : Nat) (v : Word64) : Dev :=
  let e := d.inc (R.GL_GENSTAT g) F.GL_GENSTAT_sent
  { e with xc := { e.xc with reqs := e.xc.reqs ++ [{ src := 1, tub := genTub d v p, orig := true, tag := tagGen g }] } }

theorem Dev.genDone_of_some {d : Dev} {g src : Nat} {v : Word64} (h : (d.gal g).gen = some (src, v)) : d.genDone g =
    let u := ((d.modGal g (fun x => { x with gen := none })).wr (R.GL_GENCMD g) F.GL_GENCMD_busy 0).takeChain 10 (tagGen g)
      ((F.GL_GENCMD_length.get v + 255) / 256) none
    match u.1 with
    | none => u.2.inc (R.GL_GENSTAT g) F.GL_GENSTAT_dropped
    | some p => (u.2.genFilled g src p (F.GL_GENCMD_length.get v)).genSent g p v := by
  simp only [Dev.genDone, h]
  generalize Dev.takeChain _ _ _ _ _ = u
  obtain ⟨_ | p, u⟩ := u <;> rfl

theorem Dev.genFilled_xc (d : Dev) (g src p len : Nat) : (d.genFilled g src p len).xc = d.xc := Dev.fillCells_xc ..

theorem Dev.genSent_reqs (d : Dev) (g p : Nat) (v : Word64) :
    (d.genSent g p v).xc.reqs = d.xc.reqs ++ [{ src := 1, tub := genTub d v p, orig := true, tag := tagGen g }] := by
  simp only [Dev.genSent, Dev.inc_xc]

/-- Settles O21: each event by its own branch; Rose's changeover and the generator's copy by what they leave. -/
theorem galleryEvents : Obligations.GalleryEvents := by
  intro d g c slot
  refine ⟨fun f h => fun _ => exec_next rfl (Dev.freqDone_of_some h), fun h _ => exec_next rfl (if_pos h), fun h => ?rose, fun _ => rfl,
    fun src v h => ⟨fun hu => ?dropped, fun p hu => ?sent⟩, fun r rest hf hst hdue => fun _ => exec_next rfl ?supervisor,
    fun x hx hst hdue => fun _ => exec_next rfl ?drain, fun hen hmask => fun _ => exec_next rfl ?sync, fun hwrap htr => fun _ => exec_next rfl ?ring⟩
  case rose =>
    refine ⟨_, roseChangeover_does h, Dev.roseChanged_live0 .., fun hc => ?_, fun hc => ?_, Dev.roseChanged_pending ..⟩
    · rw [Dev.roseChanged_live1, roseHigh, if_neg hc, BitVec.ofNat_toNat, BitVec.setWidth_eq]
    · rw [Dev.roseChanged_live1, roseHigh, if_pos hc, BitVec.toNat_ofNat]
      omega
  case dropped =>
    refine fun _ => exec_next rfl ((Dev.genDone_of_some h).trans ?_)
    simp only [hu]
  case sent =>
    have he := Dev.genDone_of_some h
    simp only [hu] at he
    exact ⟨_, _, fun _ => exec_next rfl he, (Dev.genSent_reqs ..).trans (by rw [Dev.genFilled_xc]), rfl, rfl, rfl⟩
  case supervisor =>
    simp only [hf]
    exact if_neg (by simp only [Bool.or_eq_true, beq_iff_eq, hst, decide_eq_true_eq, false_or, not_lt, hdue])
  case drain =>
    simp only [hx]
    exact if_neg (by simp only [Bool.or_eq_true, decide_eq_true_eq, not_or, not_not, not_lt, hst, hdue, and_self])
  case sync => exact if_neg (by simp only [hen, hmask, Bool.and_self, Bool.not_true, Bool.false_eq_true, not_false_eq_true])
  case ring =>
    have hout : (d.db.trace.take 4).isEmpty = false := by
      cases htrace : d.db.trace with
      | nil => exact absurd htrace htr
      | cons r rest => rfl
    simp only [hwrap, if_true, hout, Bool.false_eq_true, if_false, Bool.true_and, decide_eq_true_eq]

end Sys2Proof.Machine
end

/-! ## Rule versions and the Eddy (R89 to R95) -/
section
namespace Sys2Proof.Machine

/-- What every step of a fold leaves unchanged, the fold leaves unchanged. -/
theorem foldl_keeps {α β σ : Type} {f : σ → α → σ} (g : σ → β) (h : ∀ s x, g (f s x) = g s) (l : List α) (s : σ) : g (l.foldl f s) = g s := by
  induction l generalizing s with
  | nil => rfl
  | cons x xs ih => exact (ih _).trans (h s x)

theorem Tab.find_map {α : Type} (m : Tab α) (f : α → α) (k : Nat) : Tab.find (m.map fun e => (e.1, f e.2)) k = (m.find k).map f := by
  induction m with
  | nil => rfl
  | cons e rest ih =>
    simp only [List.map_cons, Tab.find]
    split
    · rfl
    · exact ih

/-- A read of a table whose values all went through `f`. -/
theorem Tab.get_map {α : Type} (m : Tab α) {d : α} {f : α → α} (hd : f d = d) (k : Nat) :
    Tab.get (m.map fun e => (e.1, f e.2)) d k = f (m.get d k) := by
  rw [Tab.get, Tab.find_map, Tab.get]
  cases m.find k with
  | none => exact hd.symm
  | some v => rfl

/-! ### The staging copy (R91) -/

/-- A rule entry after the copy of slot `c` into the other slot. -/
def Rule.copied (c : Nat) (r : Rule) : Rule := if c = 0 then { r with inB := r.inA } else { r with inA := r.inB }

theorem Rule.copied_default (c : Nat) : Rule.copied c {} = {} := ite_self _

theorem Dev.copySlot_rules (d : Dev) : d.copySlot.as.rules = d.as.rules.map fun e => (e.1, e.2.copied d.curSlot) := by
  have hksel (s c : Nat) := foldl_keeps (f := fun (d : Dev) (i : Nat) => d.rset (R.AS_KSEL s (i / 32) (i % 32))
    (d.rget (R.AS_KSEL c (i / 32) (i % 32)))) (fun d => d.as.rules) fun _ _ => rfl
  have hbank (c s : Nat) := foldl_keeps (f := fun (d : Dev) (e : Host.Cell) => d.put (e.1 - bankAddr c + bankAddr s) [e.2])
    (fun d => d.as.rules) fun _ _ => rfl
  simp only [Dev.copySlot]
  rw [hksel, hbank]
  rfl

/-- The staging copy is over: the other slot is ready to be written. -/
def Dev.staged (d : Dev) : Dev := ({ d with as := { d.as with copying := false } }).wr R.AS_RVER F.AS_RVER_stage_ready 1

theorem Dev.staged_as (d : Dev) : d.staged.as = { d.as with copying := false } := Dev.wr_as ..

theorem Dev.staged_ready (d : Dev) : d.staged.stageReady = true := by
  rw [Dev.stageReady, Dev.on, Dev.staged, Dev.rd_wr_self _ _ _ _ (by decide)]
  rfl

theorem Dev.staged_rule (d : Dev) (i : Nat) : d.staged.rule i = d.rule i := by rw [Dev.rule, Dev.staged_as, Dev.rule]

theorem Dev.copySlot_rule (d : Dev) (i : Nat) : d.copySlot.rule i = (d.rule i).copied d.curSlot := by
  rw [Dev.rule, Dev.copySlot_rules]
  exact Tab.get_map d.as.rules (Rule.copied_default _) i

theorem stagingCopyDone_does {d : Dev} (h : d.as.copying = true) : Does .stagingCopyDone d d.copySlot.staged :=
  fun _ => exec_next rfl (if_pos h)

/-- Settles O25: the copy by what it does to a rule; the Eddy by the case its frame falls in. -/
theorem versionsAndEddy : Obligations.VersionsAndEddy := by
  intro d p r rest h u merged inUse lives
  refine ⟨fun hv _ => exec_next rfl (if_neg hv), fun hc => ⟨_, stagingCopyDone_does hc, by rw [Dev.staged_as],
      Dev.staged_ready _, fun i => (Dev.staged_rule _ i).trans (d.copySlot_rule i)⟩,
    fun hq hl hp => ?third, fun hq hl hp hm => ?long, fun hq hl hp hm hcr => ?credit, fun c e hq hl hp hm hcr ht => ?taken⟩
  all_goals
    refine fun _ => exec_next rfl ?_
    simp only [hq]
    refine (if_neg (Bool.eq_false_iff.1 hl)).trans ?_
  case third => exact if_pos hp
  case long => exact (if_neg hp).trans (if_pos hm)
  case credit => exact (if_neg hp).trans ((if_neg (Nat.not_lt.2 hm)).trans (if_pos hcr))
  case taken =>
    refine (if_neg hp).trans ((if_neg (Nat.not_lt.2 hm)).trans ((if_neg (Nat.not_le.2 hcr)).trans ?_))
    simp only [show Dev.take { d with xc := { d.xc with eddy := rest } } 9 tagEddy = (some c, e) from ht]
    rfl

end Sys2Proof.Machine
end

/-! ## A frame arrives, and its way through Assay (R31, R39, R75 to R103, R129) -/
section
namespace Sys2Proof.Machine

/-! ### Frames in the table of frames -/

theorem Tab.find_put_self {α : Type} (m : Tab α) (k : Nat) (v : α) : (m.put k v).find k = some v := by
  induction m with
  | nil => exact if_pos rfl
  | cons e rest ih =>
    simp only [Tab.put]
    split
    · exact if_pos rfl
    · next hk =>
      split
      · exact if_pos rfl
      · exact (if_neg hk).trans ih

theorem Tab.find_put_other {α : Type} (m : Tab α) {k j : Nat} (h : j ≠ k) (v : α) : (m.put k v).find j = m.find j := by
  induction m with
  | nil => exact if_neg h.symm
  | cons e rest ih =>
    simp only [Tab.put]
    split
    · next hk => exact (if_neg h.symm).trans (if_neg (hk ▸ h.symm)).symm
    · split
      · exact if_neg h.symm
      · simp only [Tab.find, ih]

theorem Dev.frame_of_find {d : Dev} {h : Nat} {f : Frame} (hf : d.frames.find h = some f) : d.frame h = f := by
  rw [Dev.frame, Tab.get, hf]
  rfl

theorem Dev.modFrame_find {d : Dev} {h : Nat} {f : Frame} (hf : d.frames.find h = some f) (g : Frame → Frame) :
    (d.modFrame h g).frames.find h = some (g f) := by
  simp only [Dev.modFrame, hf]
  exact Tab.find_put_self ..

theorem Dev.learnPut_frames (d : Dev) (p : Nat) (l : Learn) : (d.learnPut p l).frames = d.frames := by
  simp only [Dev.learnPut]
  split
  · exact Dev.inc_frames ..
  · rfl

/-- Learning from a frame leaves the frame where it is in its way. -/
theorem Dev.learnTry_find {d : Dev} {h : Nat} {f : Frame} (hf : d.frames.find h = some f) :
    ∃ g, (d.learnTry h).frames.find h = some g ∧ g.stage = f.stage := by
  have hmod := Dev.modFrame_find hf fun f => { f with learn := none }
  simp only [Dev.learnTry, Dev.frame_of_find hf]
  split
  · split
    · split
      · exact ⟨_, (congrArg (Tab.find · h) (Dev.learnPut_frames ..)).trans hmod, rfl⟩
      · exact ⟨_, hmod, rfl⟩
    · exact ⟨f, hf, rfl⟩
  · exact ⟨f, hf, rfl⟩

theorem Dev.learnTry_stage {d : Dev} {h : Nat} {f : Frame} (hf : d.frames.find h = some f) : ((d.learnTry h).frame h).stage = f.stage := by
  obtain ⟨g, hg, hs⟩ := Dev.learnTry_find hf
  rw [Dev.frame_of_find hg, hs]

/-! ### Arrival -/

/-- The frame that the bytes `data` at port `p` become. -/
def arrived (p : Nat) (data : List Byte) (cal sec : Bool) (stamp : Nat) : Frame :=
  let bytes := data.take 16383
  let ok := crc32 (bytes.take (bytes.length - 4)) == leNat (bytes.drop (bytes.length - 4))
  { stage := .wire, row := p / 4, inPort := p, pipe := p / 8, data := bytes, beyond := decide (16383 < data.length)
    fcsOk := decide (16383 < data.length) || ok, stamp := stampOf stamp, tsValid := cal, secOk := sec }

/-- The stamp of an arrival at a calibrated port (R39). -/
def Dev.arrivalStamp (d : Dev) (p : Nat) : Nat × Dev := if d.on (R.PT_PSTAT p) F.PT_PSTAT_ts_cal_valid then d.inStamp p else (0, d)

theorem Dev.arrivalStamp_mem (d : Dev) (p : Nat) : (d.arrivalStamp p).2.mem = d.mem := by
  rw [Dev.arrivalStamp]
  split <;> rfl

theorem Dev.newFrame_find (d : Dev) (f : Frame) : (d.newFrame f).frames.find (d.nextFrame + 1) = some f := Tab.find_put_self ..

/-- The device a frame of at least 64 bytes arrives at: MACsec's count, the port's counts and the stamp. -/
def Dev.arrival (d : Dev) (p n : Nat) (sec : Option Bool) : Nat × Dev :=
  ((((if sec = some true then d.stat p 11 else d).stat p 0).stat p 2 n).arrivalStamp p)

theorem Dev.arrival_mem (d : Dev) (p n : Nat) (sec : Option Bool) : (d.arrival p n sec).2.mem = d.mem := by
  rw [Dev.arrival, Dev.arrivalStamp_mem]
  split <;> rfl

section
variable {d : Dev} {p : Fin 32} {data : List Byte} {sec : Option Bool} (hup : d.portSt p = 2) (hisle : d.isleFenced (26 + p.val / 4) = false)
include hup hisle

theorem frameReceive_refused (hs : sec = some false) : Does (.frameReceive p data sec) d (d.stat p 12) := by
  refine fun _ => exec_next rfl ?_
  simp only [hup, hisle, hs, ne_eq, not_true_eq_false, decide_false, Bool.or_self, Bool.false_eq_true, if_false, if_true]

theorem frameReceive_runt (hs : sec ≠ some false) (hlen : data.length < 64) :
    Does (.frameReceive p data sec) d ((if sec = some true then d.stat p 11 else d).stat p 5) := by
  refine fun _ => exec_next rfl ?_
  simp only [hup, hisle, if_neg hs, if_pos hlen, ne_eq, not_true_eq_false, decide_false, Bool.or_self, Bool.false_eq_true, if_false]

/-- What an arriving frame does at a port that is up, for a frame that MACsec lets by (R31, R41). -/
theorem frameReceive_does (hsec : sec ≠ some false) (hlen : 64 ≤ data.length) :
    Does (.frameReceive p data sec) d ((d.arrival p data.length sec).2.newFrame (arrived p data (d.on (R.PT_PSTAT p) F.PT_PSTAT_ts_cal_valid)
      (sec == some true) (d.arrival p data.length sec).1)) := by
  refine fun _ => exec_next rfl ?_
  simp only [hup, hisle, hsec, if_neg (Nat.not_lt.2 hlen), ne_eq, not_true_eq_false, decide_false, Bool.or_self, Bool.false_eq_true, if_false]
  rcases sec with _ | _ | _
  · rfl
  · exact absurd rfl hsec
  · rfl

end

/-! ### The ends of the way -/

/-- A frame that waits parsed has its body complete, and nothing else happens (R108). -/
theorem bodyComplete_does {d : Dev} {h : Nat} {f : Frame} (hf : d.frames.find h = some f) (hbody : f.bodyDone = false)
    (hstage : f.stage = .parsed) (hstored : f.data.length ≤ f.stored) : Does (.bodyComplete h) d
      (((if f.beyond then d.stat f.inPort 6 else if !f.trunc && !f.fcsOk then d.stat f.inPort 4 else d).modFrame h
        (fun f => { f with bodyDone := true })).learnTry h) := by
  refine fun _ => exec_next rfl ?_
  have hu : (if f.beyond then d.stat f.inPort 6 else if !f.trunc && !f.fcsOk then d.stat f.inPort 4 else d).frames.find h = some f := by
    split
    · exact hf
    · split <;> exact hf
  have hend := (Dev.learnTry_stage (Dev.modFrame_find hu fun f => { f with bodyDone := true })).trans hstage
  simp only [hf, hbody, hstage, Nat.not_lt.2 hstored, hend, reduceCtorEq, decide_false, Bool.false_and, Bool.or_self, Bool.false_eq_true, if_false]

/-- Settles O23: each command by the branch its frame or assayer takes. -/
theorem ingress : Obligations.Ingress := by
  refine ⟨?arrival, ?assay⟩
  case arrival =>
    intro d p data sec hup hisle v
    exact ⟨frameReceive_refused hup hisle, frameReceive_runt hup hisle, fun hs hlen => ⟨_, _, _, frameReceive_does hup hisle hs hlen,
      Dev.newFrame_find .., rfl, rfl, rfl, rfl, rfl, rfl, rfl, beq_eq_decide .., Dev.byte_of_mem (Dev.arrival_mem ..)⟩⟩
  case assay =>
    intro d p a h f
    refine ⟨fun hp hq hroom hin => ?accept, fun r hfree hfifo hgo => ?start, fun x hx hlong => ?overrun,
      fun hf hb hs hd => bodyComplete_does hf hb hs hd, fun r c ho hs hbad hexc hcell hdrop hseq hroom => ?issue, fun r ho hs hbad => ?bad,
      fun q hf hcell hs hb hbad => ?deliver, fun _ => rfl⟩
    case accept =>
      refine fun _ => exec_next rfl ?_
      simp only [hp, hq, hin, Nat.not_le.2 hroom, Bool.or_self, Bool.false_eq_true, if_false]
    case start =>
      intro v y u
      refine fun _ => exec_next rfl ?_
      simp only [hfree, hfifo, hgo, Bool.false_eq_true, if_false]
      rfl
    case overrun =>
      refine fun _ => exec_next rfl ?_
      simp only [hx, if_pos hlong]
    case issue =>
      refine fun _ => exec_next rfl ?_
      simp only [ho, hs, hbad, hexc, hcell, hdrop, hseq, hroom, ne_eq, not_true_eq_false, Bool.not_true, Bool.false_eq_true, if_false, if_true]
    case bad =>
      refine fun _ => exec_next rfl ?_
      simp only [ho, hs, hbad, ne_eq, not_true_eq_false, if_false, if_true]
    case deliver =>
      refine fun _ => exec_next rfl ?_
      simp only [hf, hcell, hs, hb, hbad, beq_self_eq_true, Bool.not_false, Bool.and_self, if_true]

end Sys2Proof.Machine
end

/-! ## Ports, flow control and gates (R32 to R49) -/
section
namespace Sys2Proof.Machine

theorem Dev.port_modPort (d : Dev) (p : Nat) (f : Port → Port) : (d.modPort p f).port p = f (d.port p) := Tab.get_set_self ..

/-- Credit shaping leaves the frame a port sends. -/
theorem Dev.shape_sending (d : Dev) (p : Nat) : ((d.shape p).port p).sending = (d.port p).sending := by rw [Dev.shape, Dev.port_modPort]

/-- The pause frames of a row go out in their order (R33). -/
theorem Dev.sendPause_outbox (d : Dev) (row : Nat) (on : Bool) : (d.sendPause row on).outbox = d.outbox ++ d.pauseFrames row on := by
  have hpause : ∀ o ∈ d.pauseFrames row on, ∃ p m q, o = .pause p m q := by
    intro o ho
    obtain ⟨p, -, hp⟩ := List.mem_filterMap.1 ho
    simp only [Option.ite_none_right_eq_some, Option.some.injEq] at hp
    exact ⟨_, _, _, hp.2.symm⟩
  have hsend : ∀ (l : List Out) (e : Dev), (∀ o ∈ l, ∃ p m q, o = Out.pause p m q) →
      (l.foldl (fun d o => match o with | .pause p _ _ => (d.out o).stat p 8 | _ => d) e).outbox = e.outbox ++ l := by
    intro l
    induction l with
    | nil => exact fun e _ => (List.append_nil _).symm
    | cons o rest ih =>
      intro e hl
      obtain ⟨p, m, q, rfl⟩ := hl o (.head _)
      exact (ih _ fun o ho => hl o (.tail _ ho)).trans (List.append_assoc ..)
  exact hsend _ d hpause

/-! ### What an alarm and a change of the timebase leave of the registers -/

theorem Dev.rget_of_regs {d e : Dev} (h : e.regs = d.regs) (r : Reg) : e.rget r = d.rget r := by rw [Dev.rget, h, Dev.rget]

theorem Dev.alarmEdge_regs (was : Bool) (d : Dev) : (Dev.alarmEdge was d).regs = d.regs := by
  simp only [Dev.alarmEdge]
  split
  · rfl
  · simp only [Dev.tally_regs, Dev.event_regs, Dev.out_regs]

theorem Dev.alarm_rget (d : Dev) (f : Fld) (on : Bool) {r : Reg} (hr : r.addr ≠ R.RL_ALARM.addr) : (d.alarm f on).rget r = d.rget r :=
  (Dev.rget_of_regs (Dev.alarmEdge_regs ..) r).trans (Dev.rget_wr_other _ _ _ _ hr)

theorem Dev.setPps_regs (d : Dev) (h : Bool) : (d.setPps h).regs = d.regs := by
  rw [Dev.setPps]
  split
  · rfl
  · rw [Dev.out_regs, Dev.modTb_regs]

theorem Dev.ppsHold_regs (d : Dev) : d.ppsHold.regs = d.regs := by
  rw [Dev.ppsHold]
  split
  · rfl
  · exact Dev.setPps_regs ..

theorem Dev.wrIf_rget (d : Dev) (c : Bool) (q : Reg) (f : Fld) (x : Nat) {r : Reg} (hr : r.addr ≠ q.addr) : (d.wrIf c q f x).rget r = d.rget r := by
  rw [Dev.wrIf]
  split
  · exact Dev.rget_wr_other _ _ _ _ hr
  · rfl

/-- A register that a change of the timebase's state does not write. -/
structure Reg.beyondTime (r : Reg) : Prop where
  stat : r.addr ≠ R.TB_STAT.addr
  freq : r.addr ≠ R.TB_FREQ.addr
  alarm : r.addr ≠ R.RL_ALARM.addr

section
variable {r : Reg} (hr : r.beyondTime) (d : Dev)
include hr

theorem Dev.tbGo_rget (s : Nat) : (d.tbGo s).rget r = d.rget r := by
  obtain ⟨hstat, hfreq, halarm⟩ := hr
  simp only [Dev.tbGo]
  split
  · rfl
  · rw [Dev.rget_of_regs (Dev.ppsHold_regs _), Dev.timeAlarm, Dev.alarm_rget _ _ _ halarm, Dev.rget_of_regs (Dev.event_regs ..),
      Dev.rget_of_regs (Dev.tally_regs ..), Dev.rget_of_regs (Dev.modTb_regs ..), Dev.rget_of_regs (Dev.modTb_regs ..),
      Dev.wrIf_rget _ _ _ _ _ hstat, Dev.steerEnter, Dev.rget_wr_other _ _ _ _ hfreq, Dev.rget_wr_other _ _ _ _ hstat]

theorem Dev.qualEdge_rget (was : Bool) : (Dev.qualEdge was d).rget r = d.rget r := by
  simp only [Dev.qualEdge]
  split
  · rfl
  · split
    · split
      · exact Dev.tbGo_rget hr ..
      · rfl
    · split
      · split <;> exact Dev.tbGo_rget hr ..
      · exact Dev.tbGo_rget hr ..
      · rfl

theorem Dev.setQual_rget (f : Fld) (q : Bool) : (d.setQual f q).rget r = d.rget r := by
  simp only [Dev.setQual]
  split
  · rfl
  · rw [Dev.qualEdge_rget hr, Dev.rget_of_regs (Dev.tally_regs ..), Dev.rget_wr_other _ _ _ _ hr.1]

theorem Dev.ptpPortLeft_rget (p : Nat) : (d.ptpPortLeft p).rget r = d.rget r := by
  rw [Dev.ptpPortLeft]
  split
  · exact (Dev.setQual_rget hr ..).trans (Dev.rget_of_regs (Dev.modTb_regs ..) r)
  · rfl

end

/-! ### The states of a port -/

/-- A port that loses its link, before its debounce (R49). -/
def Dev.linkLost (d : Dev) (p : Nat) (lock loc rem : Bool) : Dev :=
  let u := ((d.setPortSt p 4).ptpPortLeft p).setFaults p loc rem
  if lock then u.setLocks p false else u

theorem Dev.setLocks_rget (d : Dev) (p : Nat) (on : Bool) {r : Reg} (hr : r.addr ≠ (R.PT_PSTAT p).addr) : (d.setLocks p on).rget r = d.rget r := by
  rw [Dev.setLocks, Dev.rget_wr_other _ _ _ _ hr, Dev.rget_wr_other _ _ _ _ hr]

theorem Dev.linkLost_rget (d : Dev) (p : Nat) (lock loc rem : Bool) {r : Reg} (htime : r.beyondTime) (hr : r.addr ≠ (R.PT_PSTAT p).addr) :
    (d.linkLost p lock loc rem).rget r = d.rget r := by
  have hu : (((d.setPortSt p 4).ptpPortLeft p).setFaults p loc rem).rget r = d.rget r := by
    rw [Dev.setFaults, Dev.rget_wr_other _ _ _ _ hr, Dev.rget_wr_other _ _ _ _ hr, Dev.ptpPortLeft_rget htime, Dev.setPortSt,
      Dev.rget_wr_other _ _ _ _ hr]
  simp only [Dev.linkLost]
  split
  · exact (Dev.setLocks_rget _ _ _ hr).trans hu
  · exact hu

theorem Dev.linkLost_debounce (d : Dev) (p : Nat) (lock loc rem : Bool) :
    (d.linkLost p lock loc rem).rd (R.PT_TMR p) F.PT_TMR_ld_debounce = d.rd (R.PT_TMR p) F.PT_TMR_ld_debounce := by
  have htime : (R.PT_TMR p).beyondTime := by
    refine ⟨?_, ?_, ?_⟩ <;> simp only [R.PT_TMR, R.TB_STAT, R.TB_FREQ, R.RL_ALARM] <;> omega
  rw [Dev.rd, Dev.linkLost_rget d p lock loc rem htime (by simp only [R.PT_TMR, R.PT_PSTAT]; omega), Dev.rd]

/-- Settles O27: every event by the branch that its port's state takes. -/
theorem portsAndGates : Obligations.PortsAndGates := by
  refine ⟨?states, ?flow⟩
  case states =>
    intro d p lock loc rem lost lost'
    refine ⟨fun hup hc _ => exec_next rfl ?loss, fun h _ => exec_next rfl (if_pos h), fun h _ => exec_next rfl (if_pos h),
      fun h _ => exec_next rfl (if_pos h), fun h hf _ => exec_next rfl (if_pos ?fault), fun h _ => exec_next rfl (if_pos h),
      fun h _ => exec_next rfl (if_pos h), fun h hl => ⟨_, fun _ => exec_next rfl (if_pos ?cal), ?valid, fun r hr => Dev.rget_wr_other _ _ _ _ hr⟩⟩
    case loss =>
      rw [← Dev.linkLost_debounce d p lock loc rem]
      simp only [hup, hc, ne_eq, not_true_eq_false, decide_false, Bool.not_true, Bool.or_self, Bool.false_eq_true, if_false]
      rfl
    case fault => simp only [h, decide_true, Bool.true_and, Bool.or_eq_true, hf]
    case cal => simp only [h, decide_true, Bool.true_and, hl, ne_eq, not_false_eq_true]
    case valid =>
      rw [Dev.on, Dev.rd_wr_self _ _ _ _ (by decide)]
      rfl
  case flow =>
    intro d p pfc hold release mask row q kind st was m wd scope ctl x
    refine ⟨fun h _ => exec_next rfl (if_neg (not_not.2 h)), fun h => ⟨fun _ => exec_next rfl (if_pos h), _, fun _ => exec_next rfl (if_pos h),
      Dev.sendPause_outbox ..⟩, fun _ => rfl, fun hto hh hb hw _ => exec_next rfl ?watchdog, fun hw hs _ => exec_next rfl ?discarded,
      fun hp ht _ => exec_next rfl ?change, fun hr hs _ => exec_next rfl ?boundary, fun a b hp hb _ => exec_next rfl ?supervision,
      fun hr hup _ => exec_next rfl ?ptp, fun _ => rfl⟩
    case watchdog =>
      simp only [was, wd, st] at hb hw
      simp only [hto, hh, hb, hw, ne_eq, not_true_eq_false, decide_false, Bool.not_true, Bool.or_self, Bool.false_eq_true, if_false]
      rfl
    case discarded =>
      simp only [was, wd, st, scope] at hw hs
      simp only [hw, hs, decide_true, Bool.and_self, if_true]
      rfl
    case change =>
      simp only [ctl] at hp
      simp only [hp, Nat.not_lt.2 ht, Bool.not_true, decide_false, Bool.or_self, Bool.false_eq_true, if_false]
      rfl
    case boundary =>
      have hrun : (d.port p).run.isEmpty = false := List.isEmpty_eq_false_iff.2 hr
      have hsend : (((d.shape p).modPort p fun y => { y with entry := (y.gateAt d.now).1 }).port p).sending = none := by
        rw [Dev.port_modPort]
        exact (Dev.shape_sending ..).trans hs
      simp only [hrun, Bool.false_eq_true, if_false]
      simp only [Dev.shape, Dev.modPort_now] at hsend ⊢
      simp only [hsend]
    case supervision => simp only [hp, Nat.not_lt.2 hb, if_false]
    case ptp =>
      simp only [hr, hup, ne_eq, not_true_eq_false, decide_false, Bool.or_self, Bool.false_eq_true, if_false]
      rfl

end Sys2Proof.Machine
end

/-! ## Clocks, sources of time and station time (R51 to R72) -/
section
namespace Sys2Proof.Machine

theorem R.TB_CTL_beyondTime : R.TB_CTL.beyondTime := ⟨by decide, by decide, by decide⟩

/-- A change of a source's qualification leaves the choice of the source. -/
theorem Dev.setQual_tsrc (d : Dev) (f : Fld) (q : Bool) : (d.setQual f q).tsrc = d.tsrc := by
  rw [Dev.tsrc, Dev.rd, Dev.setQual_rget R.TB_CTL_beyondTime, Dev.tsrc, Dev.rd]

theorem Dev.modTb_tsrc (d : Dev) (f : Timebase → Timebase) : (d.modTb f).tsrc = d.tsrc := rfl

/-! ### The pulse per second -/

theorem Dev.setUtcAt_now (d : Dev) (t : Nat) (v : Word64) : (d.setUtcAt t v).now = d.now := by
  simp only [Dev.setUtcAt]
  split
  · rfl
  · split <;> rfl

theorem Dev.setUtcAt_rget (d : Dev) (t : Nat) (v : Word64) {r : Reg} (hr : r.addr ≠ R.TB_UTC.addr) : (d.setUtcAt t v).rget r = d.rget r := by
  simp only [Dev.setUtcAt]
  split
  · rfl
  · split <;> exact Dev.rset_rget_of_ne _ _ hr

/-- A pin's stamp is of the instant and the cable delay alone. -/
theorem Dev.pinStamp_congr {d e : Dev} (hnow : e.now = d.now) (hpps : e.rget R.TB_PPS = d.rget R.TB_PPS) : e.pinStamp = d.pinStamp := by
  rw [Dev.pinStamp, hnow, Dev.rd, hpps, Dev.pinStamp, Dev.rd]

theorem Dev.setUtc_pinStamp (d : Dev) (f : Timebase → Timebase) (v : Word64) : ((d.modTb f).setUtc v).pinStamp = d.pinStamp :=
  Dev.pinStamp_congr (Dev.setUtcAt_now ..) (Dev.setUtcAt_rget _ _ _ (by decide))

section
variable {d : Dev}

theorem Dev.onTime_tsrc (c : Prop) [Decidable c] (u : Dev) (f : Fld) : (if c then u.setQual f true else u).tsrc = u.tsrc := by
  split
  · exact Dev.setQual_tsrc ..
  · rfl

theorem ppsInEdge_first (wide : Bool) (h : d.tb.ppsLast = none) :
    Does (.ppsInEdge wide) d (d.modTb fun t => { t with ppsLast := some d.pinStamp, ppsRun := 0 }) := by
  refine fun _ => exec_next rfl ?_
  simp only [h, Bool.and_false, Bool.false_and, Bool.false_eq_true, if_false, Option.isNone_none, Bool.not_true]

theorem ppsInEdge_late (wide : Bool) {l : Int} (h : d.tb.ppsLast = some l) (hl : ppsInterval l d.pinStamp = false) :
    Does (.ppsInEdge wide) d ((d.modTb fun t => { t with ppsLast := some d.pinStamp, ppsRun := 0 }).setQual F.TB_STAT_pps_qual false) := by
  refine fun _ => exec_next rfl ?_
  simp only [h, hl, Bool.and_false, Bool.false_and, Bool.false_eq_true, if_false, Option.isNone_some, Bool.not_false, Bool.and_true, if_true]

theorem ppsInEdge_onTime {l : Int} (h : d.tb.ppsLast = some l) (hl : ppsInterval l d.pinStamp = true) (hsrc : d.tsrc ≠ 1) :
    Does (.ppsInEdge true) d
      (let n := (d.tb.ppsRun + 1).min 4
       let u := d.modTb fun t => { t with ppsLast := some d.pinStamp, ppsRun := n }
       if 4 ≤ n then u.setQual F.TB_STAT_pps_qual true else u) := by
  refine fun _ => exec_next rfl ?_
  simp only [h, hl, Bool.and_self, if_true, Bool.true_and, Bool.not_true, Bool.false_and, Bool.false_eq_true, if_false, decide_eq_true_eq]
  refine if_neg ?_
  rw [Bool.and_eq_true, decide_eq_true_eq, Dev.onTime_tsrc]
  exact fun h => hsrc h.1

end

/-- LOCKED with the oven ready has lasted the 1,000 s of R62. -/
theorem Dev.heldLong {d : Dev} {t : Nat} (h : d.tb.holdFrom = some t) (hl : t + 1000 * unitsPerSec ≤ d.now) :
    d.tb.holdFrom.any (fun t => decide (t + 1000 * unitsPerSec ≤ d.now)) = true := by
  rw [h, Option.any_some, decide_eq_true_eq]
  exact hl

theorem holdValidSet_does {d : Dev} (hst : d.tbSt = 2) (hlong : d.tb.holdFrom.any (fun t => decide (t + 1000 * unitsPerSec ≤ d.now)) = true) :
    Does .holdValidSet d (d.wr R.TB_STAT F.TB_STAT_hold_valid 1) := by
  refine fun _ => exec_next rfl ?_
  simp only [hlong, hst, beq_self_eq_true, Bool.and_self]
  rfl

/-- A command does what another does from a state where both have the same effect. -/
theorem exec_same {c c' : Instr} {d d' e f f' : Dev} {q : List Instr} (hc : exec c { dev := d, pending := q } = .next { dev := f, pending := q })
    (hc' : exec c' { dev := d', pending := q } = .next { dev := f', pending := q }) (hf : f = f')
    (he : exec c' { dev := d', pending := q } = .next { dev := e, pending := q }) :
    exec c { dev := d, pending := q } = .next { dev := e, pending := q } := by rw [hc, hf, ← hc', he]

/-- Settles O28: every event by its branch; the tests that follow a change of the qualification see the same choice of source. -/
theorem clocksAndSources : Obligations.ClocksAndSources := by
  refine ⟨?references, ?sources⟩
  case references =>
    intro d isl b n failed m counted
    refine ⟨fun _ => rfl, fun _ => rfl, fun _ => rfl, fun _ => rfl, fun hm _ => exec_next rfl ?few, fun hm hq _ => exec_next rfl ?enough,
      fun _ => rfl, fun a ha hrev hq ht _ => exec_next rfl ?revert, fun h _ => exec_next rfl ?oven, fun t hst ht hl => holdValidSet_does hst (Dev.heldLong ht hl),
      fun hst hm _ => exec_next rfl ?expiry⟩
    case few => exact if_neg fun h => Nat.not_le.2 hm (of_decide_eq_true (Bool.and_eq_true_iff.1 h).1)
    case enough => exact if_pos (Bool.and_eq_true_iff.2 ⟨decide_eq_true hm, (congrArg not hq).trans rfl⟩)
    case revert =>
      simp only [ha, hrev, hq, ht, decide_true, Bool.and_self, if_true]
    case oven =>
      simp only [Dev.modTb, Dev.wr_tb, h, Option.isNone_none, Bool.and_true, decide_eq_true_eq]
      rfl
    case expiry => exact if_pos (Bool.and_eq_true_iff.2 ⟨decide_eq_true hst, decide_eq_true hm⟩)
  case sources =>
    intro d wide soy year off st tai
    have hrun (hr : 7 ≤ d.tb.ptpRun) : (d.tb.ptpRun + 1).min 8 = 8 := Nat.min_eq_right (Nat.succ_le_succ hr)
    refine ⟨fun h => ppsInEdge_first wide h, fun l hw h hi hs => ?_, fun l h hi => ppsInEdge_late wide h hi,
      fun h _ => exec_next rfl (if_pos h), fun s₀ l h hs hr hsrc _ => exec_next rfl ?third, fun s₀ l h hs hsrc _ => exec_next rfl ?gap,
      fun o leap sec tq e hext he q => ?ext, fun _ => rfl, fun p hp hup hr => ⟨fun _ => exec_next rfl ?ptp, fun o leap sec _ => exec_next rfl ?announce⟩,
      fun p late hp hup hsrc _ => exec_next rfl ?stale, fun _ => rfl⟩
    · subst hw
      exact ppsInEdge_onTime h hi hs
    case third =>
      have hok := decide_eq_true hs
      simp only [tai] at hok
      simp only [h, hok, hr, if_true, Nat.reduceAdd, Nat.min_self]
      refine if_neg ?_
      simp only [Bool.and_eq_true, decide_eq_true_eq, Dev.setQual_tsrc, Dev.modTb_tsrc, hsrc, false_and, not_false_eq_true]
    case gap =>
      simp only [tai] at hs
      simp only [h, hs, decide_false, Bool.false_eq_true, if_false, OfNat.one_ne_ofNat]
      refine if_neg ?_
      simp only [Bool.and_eq_true, decide_eq_true_eq, Dev.modTb_tsrc, hsrc, false_and, not_false_eq_true]
    case ext =>
      refine exec_same rfl rfl ?_ (he q)
      simp only [hext, if_true]
      rw [Dev.setUtc_pinStamp]
    case ptp =>
      simp only [hp, hup, hrun hr, Bool.false_eq_true, if_false, ne_eq, not_true_eq_false, decide_true, Bool.true_or]
    case announce =>
      simp only [hp, hup, hrun hr, Bool.false_eq_true, if_false, ne_eq, not_true_eq_false, decide_true, Bool.true_or]
    case stale =>
      simp only [hp, hup, if_false, ne_eq, not_true_eq_false, if_true, OfNat.zero_ne_ofNat, decide_false, Bool.not_true, Bool.and_false, Bool.or_self]
      refine if_neg ?_
      simp only [Bool.and_eq_true, decide_eq_true_eq, Dev.setQual_tsrc, Dev.modTb_tsrc, hsrc, false_and, not_false_eq_true]

/-! ### Steps, leaps and ticks -/

theorem Dev.phasorStepped_now (d : Dev) : d.phasorStepped.now = d.now := by
  refine foldl_keeps (fun e : Dev => e.now) (fun e x => ?_) _ _
  dsimp only
  split <;> rfl

theorem Dev.phasorStepped_tb (d : Dev) : d.phasorStepped.tb = d.tb := by
  refine foldl_keeps (fun e : Dev => e.tb) (fun e x => ?_) _ _
  dsimp only
  split <;> rfl

/-- Gate lists and the phasor engine follow a step of station time (R63). -/
def Dev.followStep (d : Dev) (old : Nat) : Dev := ((List.range 32).foldl (fun (d : Dev) p => d.gateStep p old) d).phasorStepped

theorem Dev.followStep_now (d : Dev) (old : Nat) : (d.followStep old).now = d.now := by
  rw [Dev.followStep, Dev.phasorStepped_now]
  generalize List.range 32 = l
  exact foldl_keeps (f := fun (d : Dev) p => d.gateStep p old) (fun e : Dev => e.now) (fun _ _ => rfl) l d

theorem Dev.followStep_tb (d : Dev) (old : Nat) : (d.followStep old).tb = d.tb := by
  rw [Dev.followStep, Dev.phasorStepped_tb]
  generalize List.range 32 = l
  exact foldl_keeps (f := fun (d : Dev) p => d.gateStep p old) (fun e : Dev => e.tb) (fun _ _ => rfl) l d

/-- A step from `old` to `new` is counted and recorded, and delays count from the new time (R63). -/
def Dev.stepTo (d : Dev) (old new : Nat) : Dev :=
  let word (t i : Nat) : Nat := time96 t / 2 ^ (32 * i) % 2 ^ 32
  let d : Dev := { d with now := new }
  let d := (d.inc R.TB_STAT F.TB_STAT_step_cnt).tally 0x0203 0
    [d.tbSt, d.tbSt, word old 0, word old 1, word old 2, word new 0, word new 1, word new 2]
  { d with dr := { d.dr with delays := d.dr.delays.map (fun (e : Nat × List Delay) => (e.1, e.2.map (fun y => { y with entered := new }))) } }

theorem Dev.stepTo_now (d : Dev) (old new : Nat) : (d.stepTo old new).now = new := by
  simp only [Dev.stepTo, Dev.tally_now, Dev.inc_now]

theorem Dev.stepTo_tb (d : Dev) (old new : Nat) : (d.stepTo old new).tb = d.tb := by
  simp only [Dev.stepTo, Dev.tally_tb, Dev.inc_tb]

section
variable {d : Dev} {t : Nat} {x : Int} {rest : List (Nat × Int)} (hs : d.tb.steps = (t, x) :: rest)
include hs

theorem stepTakesEffect_does (hst : d.tbSt = 1) (hen : d.on R.TB_CTL F.TB_CTL_step_en = true) : Does .stepTakesEffect d
    (((d.modTb fun t => { t with steps := rest }).stepTo (d.stepAt t) ((d.stepAt t : Int) + x).toNat).followStep (d.stepAt t)) := by
  refine fun _ => exec_next rfl ?_
  simp only [hs, hst, hen, beq_self_eq_true, Bool.and_self, Bool.not_true, Bool.false_eq_true, if_false]
  rfl

theorem stepTakesEffect_lapses (hst : d.tbSt ≠ 1) : Does .stepTakesEffect d (d.modTb fun t => { t with steps := rest }) := by
  refine fun _ => exec_next rfl ?_
  simp only [hs, beq_eq_false_iff_ne.2 hst, Bool.false_and, Bool.not_false, if_true]

end

/-- A pending leap second takes effect (R66): `v` is TB_UTC, `n` the new offset. -/
theorem leapTakesEffect_does {d : Dev} {n : Nat} (ht : F.TB_UTC_leap_tai.get (d.rget R.TB_UTC) ≤ d.taiLow)
    (hn : F.TB_UTC_leap.get (d.rget R.TB_UTC) = 1 ∧ n = F.TB_UTC_utc_offset.get (d.rget R.TB_UTC) + 1 ∨
      F.TB_UTC_leap.get (d.rget R.TB_UTC) = 2 ∧ n = F.TB_UTC_utc_offset.get (d.rget R.TB_UTC) + 65535) :
    let begun := (secOf d.now - (d.taiLow - F.TB_UTC_leap_tai.get (d.rget R.TB_UTC))) * unitsPerSec
    Does .leapTakesEffect d ((d.modTb (fun t => { t with leapAt := some begun, leapDel := F.TB_UTC_leap.get (d.rget R.TB_UTC) == 2 })).setUtcAt begun
      (F.TB_UTC_leap.put (F.TB_UTC_utc_offset.put (d.rget R.TB_UTC) n) 0)) := by
  refine fun _ => exec_next rfl ?_
  obtain ⟨hl, rfl⟩ | ⟨hl, rfl⟩ := hn
  · simp only [hl, gt_iff_lt, Nat.not_lt.2 ht, Nat.reduceEqDiff, decide_false, Bool.or_self, Bool.false_eq_true, if_false, if_true]
  · simp only [hl, gt_iff_lt, Nat.not_lt.2 ht, Nat.reduceEqDiff, decide_false, Bool.or_self, Bool.false_eq_true, if_false]

/-- Settles O29: every event by its branch. -/
theorem stationTime : Obligations.StationTime := by
  intro d
  refine ⟨fun t x rest hs hst hen => ⟨_, stepTakesEffect_does hs hst hen, ?_, ?_⟩, fun y rest hs hst => stepTakesEffect_lapses hs hst, ?leap,
    fun t ht hsec _ => exec_next rfl ?tick, fun h hns _ => exec_next rfl (if_pos ?rise), fun h _ => exec_next rfl (if_pos h)⟩
  · rw [Dev.followStep_now, Dev.stepTo_now]
  · rw [Dev.followStep_tb, Dev.stepTo_tb]
    rfl
  case leap =>
    intro v hl ht n
    refine leapTakesEffect_does ht ?_
    rcases hl with hl | hl
    · exact .inl ⟨hl, if_pos hl⟩
    · exact .inr ⟨hl, if_neg (hl ▸ by decide)⟩
  case tick => simp only [ht, hsec, if_true, Dev.tickExp]
  case rise => exact Bool.and_eq_true_iff.2 ⟨h, beq_iff_eq.2 hns⟩

end Sys2Proof.Machine
end

/-! ## Power and Lull (R437 to R451) -/
section
namespace Sys2Proof.Machine

/-! ### What ramps, islands and alarms leave of the registers -/

/-- A register that no power domain's state stands in. -/
def Reg.beyondDoms (r : Reg) : Prop := ∀ k, r.addr ≠ (R.PW_DOM k).addr

theorem R.PW_LSTAT_beyondDoms : R.PW_LSTAT.beyondDoms := fun k => by simp only [R.PW_LSTAT, R.PW_DOM]; omega

theorem Dev.rampFrom_rget {r : Reg} (hr : r.beyondDoms) (l busy : List Nat) (d : Dev) : (d.rampFrom busy l).2.rget r = d.rget r := by
  induction l generalizing busy d with
  | nil => rfl
  | cons k rest ih =>
    simp only [Dev.rampFrom]
    rw [ih]
    split
    · exact Dev.rget_wr_other _ _ _ _ (hr k)
    · rfl

theorem Dev.rampFrom_bo (l busy : List Nat) (d : Dev) : (d.rampFrom busy l).2.bo = d.bo := by
  induction l generalizing busy d with
  | nil => rfl
  | cons k rest ih =>
    simp only [Dev.rampFrom]
    rw [ih]
    split <;> rfl

theorem Dev.rampGo_rget {r : Reg} (hr : r.beyondDoms) (d : Dev) : d.rampGo.rget r = d.rget r := Dev.rampFrom_rget hr ..

theorem Dev.rampGo_bo (d : Dev) : d.rampGo.bo = d.bo := Dev.rampFrom_bo ..

theorem Dev.rampAsk_rget {r : Reg} (hr : r.beyondDoms) (d : Dev) (k : Nat) : (d.rampAsk k).rget r = d.rget r := by
  rw [Dev.rampAsk]
  split
  · rfl
  · exact Dev.rampGo_rget hr _

theorem Dev.rampAsk_bo (d : Dev) (k : Nat) : (d.rampAsk k).bo = d.bo := by
  rw [Dev.rampAsk]
  split
  · rfl
  · exact Dev.rampGo_bo _

/-! ### The power state -/

theorem Dev.powerMode_congr {d e : Dev} (h : e.rget R.PW_LSTAT = d.rget R.PW_LSTAT) : e.powerMode = d.powerMode := by
  rw [Dev.powerMode, Dev.rd, h, Dev.powerMode, Dev.rd]

theorem Dev.setPower_powerMode (d : Dev) {m : Nat} (hm : m < 8) : (d.setPower m).powerMode = m := by
  have hwr : (d.wr R.PW_LSTAT F.PW_LSTAT_mode m).powerMode = m := (Dev.rd_wr_self _ _ _ _ (by decide)).trans (Nat.mod_eq_of_lt hm)
  simp only [Dev.setPower]
  split
  · exact hwr
  · exact (Dev.powerMode_congr (Dev.rget_of_regs (Dev.out_regs ..) _)).trans hwr

theorem Dev.galAlarms_rget (d : Dev) {r : Reg} (hr : r.addr ≠ R.RL_ALARM.addr) : d.galAlarms.rget r = d.rget r := by
  rw [Dev.galAlarms, Dev.alarm_rget _ _ _ hr, Dev.alarm_rget _ _ _ hr]

theorem Dev.showState_regs (d : Dev) (s : Nat) : (d.showState s).regs = d.regs := by
  rw [Dev.showState]
  split
  · rfl
  · split <;> rfl

/-! ### VMAIN no longer valid -/

/-- A domain's state after some domains were written OFF. -/
theorem domSt_foldl_off (l : List Nat) (d : Dev) (k : Nat) :
    (l.foldl (fun d k => d.wr (R.PW_DOM k) F.PW_DOM_state 0) d).domSt k = if k ∈ l then 0 else d.domSt k := by
  induction l generalizing d with
  | nil => rfl
  | cons j rest ih =>
    refine (ih _).trans ?_
    by_cases hk : k = j
    · subst hk
      have hself : (d.wr (R.PW_DOM k) F.PW_DOM_state 0).domSt k = 0 := Dev.rd_wr_self _ _ _ _ (by decide)
      rw [hself, ite_self, if_pos (.head _)]
    · have hother : (d.wr (R.PW_DOM j) F.PW_DOM_state 0).domSt k = d.domSt k :=
        Dev.rd_wr_other _ _ _ _ _ (by simp only [R.PW_DOM]; omega)
      simp only [hother, List.mem_cons, hk, false_or]

theorem domsOff_bo (l : List Nat) (d : Dev) : (l.foldl (fun d k => d.wr (R.PW_DOM k) F.PW_DOM_state 0) d).bo = d.bo :=
  foldl_keeps (f := fun (d : Dev) k => d.wr (R.PW_DOM k) F.PW_DOM_state 0) (fun e : Dev => e.bo) (fun _ _ => rfl) l d

theorem domsOff_rget {r : Reg} (hr : r.beyondDoms) (l : List Nat) (d : Dev) :
    (l.foldl (fun d k => d.wr (R.PW_DOM k) F.PW_DOM_state 0) d).rget r = d.rget r :=
  foldl_keeps (f := fun (d : Dev) k => d.wr (R.PW_DOM k) F.PW_DOM_state 0) (fun e : Dev => e.rget r) (fun _ k => Dev.rget_wr_other _ _ _ _ (hr k)) l d

theorem Dev.isleStop_rget (d : Dev) (isl : Nat) {r : Reg} (hr : r.addr ≠ (R.CK_ISLSTAT isl).addr) : (d.isleStop isl).rget r = d.rget r :=
  (Dev.rget_wr_other _ _ _ _ hr).trans (Dev.rget_wr_other _ _ _ _ hr)

/-- A register that no island's state stands in. -/
def Reg.beyondIsles (r : Reg) : Prop := ∀ i, r.addr ≠ (R.CK_ISLSTAT i).addr

theorem R.PW_LSTAT_beyondIsles : R.PW_LSTAT.beyondIsles := fun i => by simp only [R.PW_LSTAT, R.CK_ISLSTAT]; omega

theorem R.PW_DOM_beyondIsles {k : Nat} (hk : k < 50) : (R.PW_DOM k).beyondIsles := fun i => by simp only [R.PW_DOM, R.CK_ISLSTAT]; omega

theorem islesStop_rget {r : Reg} (hr : r.beyondIsles) (l : List Nat) (d : Dev) : (l.foldl Dev.isleStop d).rget r = d.rget r :=
  foldl_keeps (fun e : Dev => e.rget r) (fun e i => e.isleStop_rget i (hr i)) l d

theorem islesStop_bo (l : List Nat) (d : Dev) : (l.foldl Dev.isleStop d).bo = d.bo :=
  foldl_keeps (f := Dev.isleStop) (fun e : Dev => e.bo) (fun _ _ => rfl) l d

/-- Every domain and island goes off, in DOWN. -/
def Dev.powerLost (d : Dev) : Dev :=
  (List.range 100).foldl Dev.isleStop ((List.range 50).foldl (fun d k => d.wr (R.PW_DOM k) F.PW_DOM_state 0) (d.setPower 4))

theorem Dev.setPower_bo (d : Dev) (m : Nat) : (d.setPower m).bo = d.bo := by
  simp only [Dev.setPower]
  split
  · rfl
  · rw [Dev.out_bo, Dev.wr_bo]

theorem Dev.powerLost_bo (d : Dev) : d.powerLost.bo = d.bo := by
  rw [Dev.powerLost, islesStop_bo, domsOff_bo, Dev.setPower_bo]

theorem Dev.powerLost_powerMode (d : Dev) : d.powerLost.powerMode = 4 := by
  refine Eq.trans (Dev.powerMode_congr ?_) (d.setPower_powerMode (m := 4) (by decide))
  rw [Dev.powerLost, islesStop_rget R.PW_LSTAT_beyondIsles]
  exact domsOff_rget R.PW_LSTAT_beyondDoms _ _

theorem Dev.powerLost_domSt (d : Dev) {k : Nat} (hk : k < 50) : d.powerLost.domSt k = 0 := by
  rw [Dev.domSt, Dev.rd, Dev.powerLost, islesStop_rget (R.PW_DOM_beyondIsles hk)]
  exact (domSt_foldl_off ..).trans (if_pos (List.mem_range.2 hk))

/-- FAULT_N is driven no longer once VMAIN is not valid (R451). -/
def Dev.tripReleased (d : Dev) : Dev := if d.pw.tripped then { d.out (.pin pinFaultN true) with pw := { d.pw with tripped := false } } else d

theorem Dev.tripReleased_bo (d : Dev) : d.tripReleased.bo = d.bo := by
  rw [Dev.tripReleased]
  split
  · exact Dev.out_bo ..
  · rfl

section
variable {d : Dev}

theorem vmainInvalid_down (h : d.powerMode = 0 ∨ d.powerMode = 4) : Does .vmainInvalid d
    (let u := ({ d with bo := { d.bo with vmain := false } } : Dev).tripReleased
     ({ u with pw := { u.pw with ramp := [] } } : Dev).powerLost) := by
  have hheld : (decide (1 ≤ d.powerMode) && decide (d.powerMode ≤ 3) && d.on R.PW_LSTAT F.PW_LSTAT_store_ok) = false := by
    rcases h with h | h <;> rw [h] <;> rfl
  exact fun _ => exec_next rfl (if_neg (Bool.eq_false_iff.1 hheld))

theorem vmainInvalid_held (h : d.powerMode = 1 ∨ d.powerMode = 2 ∨ d.powerMode = 3) (hok : d.on R.PW_LSTAT F.PW_LSTAT_store_ok = true)
    (htrip : d.pw.tripped = false) : Does .vmainInvalid d { d with bo := { d.bo with vmain := false } } := by
  have hheld : (decide (1 ≤ d.powerMode) && decide (d.powerMode ≤ 3) && d.on R.PW_LSTAT F.PW_LSTAT_store_ok) = true := by
    rw [hok]
    rcases h with h | h | h <;> rw [h] <;> rfl
  refine fun _ => exec_next rfl ((if_pos hheld).trans ?_)
  simp only [htrip, Bool.false_eq_true, if_false]

/-- KA without power: its calendar and counters start again (R445). -/
def Dev.keepLost (d : Dev) : Dev :=
  let d := { d with bg := { d.bg with calSec := 0, calTick := 0, poweredS := 0, cycles := 0, kaHeld := false, kaUtc := 0, coldMin := none, coldMax := none
                                      hourSum := 0, hourN := 0, bands := [] } }
  (d.wr R.BG_KA F.BG_KA_ka_valid 0).wr R.PW_TLIM F.PW_TLIM_trip_cnt 0

theorem vkeepLoss_does (h : d.bo.vmain = false) : Does .vkeepLoss d d.keepLost := fun _ => exec_next rfl (if_neg (Bool.eq_false_iff.1 h))

/-! ### The return of VMAIN -/

/-- Seam leaves self-refresh, and the domains of the run set ramp (R444). -/
def Dev.runRamps (d : Dev) : Dev :=
  let d := d.wrIf (d.domSt 46 == 3) (R.PW_DOM 46) F.PW_DOM_state 2
  (d.pw.run.filter (fun k => d.domSt k == 0)).foldl (fun d k => d.rampAsk k) d

theorem Dev.runRamps_bo (d : Dev) : d.runRamps.bo = d.bo :=
  (foldl_keeps (fun e : Dev => e.bo) Dev.rampAsk_bo _ _).trans (Dev.wrIf_bo ..)

theorem Dev.runRamps_rget {r : Reg} (hr : r.beyondDoms) (d : Dev) : d.runRamps.rget r = d.rget r :=
  (foldl_keeps (fun e : Dev => e.rget r) (Dev.rampAsk_rget hr) _ _).trans (Dev.wrIf_rget _ _ _ _ _ (hr 46))

theorem vmainRise_does (hm : d.powerMode = 2) (hdue : d.lullAtEnd ≤ d.now) :
    Does .vmainRise d ({ (d.setPower 3) with bo := { (d.setPower 3).bo with vmain := true } } : Dev).runRamps := by
  refine fun _ => exec_next rfl ?_
  simp only [hm, Nat.not_lt.2 hdue, ne_eq, not_true_eq_false, decide_false, Bool.or_self, Bool.false_eq_true, if_false]
  rw [Dev.setPower_bo]
  rfl

/-! ### The end of RESTORE -/

/-- The last steps of RESTORE (R444): the power state, the device state and the lull alarm. -/
def Dev.restored (d : Dev) : Dev := ((((d.phasorAll.setPower 0).showState 1).alarm F.RL_ALARM_lull false).galAlarms).tally 0x0F06 0 [0]

theorem Dev.restored_powerMode (d : Dev) : d.restored.powerMode = 0 := by
  refine Eq.trans (Dev.powerMode_congr ?_) (d.phasorAll.setPower_powerMode (m := 0) (by decide))
  rw [Dev.restored, Dev.rget_of_regs (Dev.tally_regs ..), Dev.galAlarms_rget _ (by decide), Dev.alarm_rget _ _ _ (by decide),
    Dev.rget_of_regs (Dev.showState_regs ..)]

/-- Galleries, islands, planes and ports come back before the power state does (R444). -/
def Dev.unitsBack (d : Dev) : Dev :=
  let d := (d.pw.gals.filter (fun g => d.galState g == 1 || d.galState g == 2)).foldl (fun d g =>
    (((d.resetOver g).setGalState g 3).setRelief g false).supStart (supOf g)) d
  let d := (d.pw.run.filter (fun g => decide (g < 26) && !d.pw.lullGals.contains g)).foldl (fun d g => d.imageBack g) d
  let d := d.pw.lullGals.foldl (fun d g => d.isleBack g) d
  let d := ((d.isleBack 86).isleBack 87).runLink
  let other := 1 - d.lullPlane
  let d : Dev :=
    if d.domSt (40 + other) = 2 && d.pw.run.contains (40 + other) && d.planeFenced other then
      let d := d.wr R.XC_CFG (if other = 0 then F.XC_CFG_fenced_a else F.XC_CFG_fenced_b) 0
      let d := d.wr R.RL_FENCE (if other = 0 then F.RL_FENCE_plane_a else F.RL_FENCE_plane_b) 0
      d.alarm F.RL_ALARM_plane_single false
    else d
  let d : Dev := match d.pw.plmap with
    | some v => if d.planeFenced 0 || d.planeFenced 1 then d else d.plmapWrite v
    | none => d
  if d.devState = 4 then d
  else (List.range 32).foldl (fun (d : Dev) p => if d.portSt p = 0 && d.portOn p then (d.setPortSt p 1).dropCal p else d) d

theorem restoreComplete_does (hm : d.powerMode = 3) (hall : d.pw.run.all (fun k => d.domSt k == 2 || d.domSt k == 4) = true) :
    Does .restoreComplete d d.unitsBack.restored := by
  have hgo : (decide (d.powerMode ≠ 3) || !d.pw.run.all (fun k => d.domSt k == 2 || d.domSt k == 4)) = false := by rw [hm, hall]; rfl
  exact fun _ => exec_next rfl ((if_neg (Bool.eq_false_iff.1 hgo)).trans (by rfl))

end

/-- Settles O31: every event by its branch; the ends in a power state by the registers that the way there leaves. -/
theorem powerAndLull : Obligations.PowerAndLull := by
  refine ⟨?events, ?lull⟩
  case events =>
    intro d dom isl mode lull trips
    refine ⟨fun hm hl _ => exec_next rfl ?fall, fun hm hl _ => exec_next rfl ?down, fun hm _ => exec_next rfl ?again, fun hm _ => exec_next rfl (if_neg hm),
      fun hm hd => ⟨_, vmainRise_does hm hd, by rw [Dev.runRamps_bo], ?rise⟩, fun hm _ => exec_next rfl (if_pos ?low),
      fun hm => ⟨_, vmainInvalid_down hm, ?novmain, Dev.powerLost_powerMode _, fun k => Dev.powerLost_domSt _ k.isLt⟩,
      fun hm hok ht => vmainInvalid_held hm hok ht, fun h _ => exec_next rfl (if_pos h), fun h => ?keep, fun h => ⟨fun _ => exec_next rfl ?ramped,
      fun _ => exec_next rfl ?failed⟩, fun lo hi hr hlo ht _ => exec_next rfl ?thermal, fun hm ht _ => exec_next rfl ?trip⟩
    case fall =>
      have hgo : (decide (d.devState = 0) || !d.on R.PW_LSTAT F.PW_LSTAT_lull_en) = false := by rw [hl.2, decide_eq_false hl.1]; rfl
      simp only [mode] at hm
      simp only [hm, hgo, Bool.false_eq_true, if_false]
    case down =>
      have hgo : (decide (d.devState = 0) || !d.on R.PW_LSTAT F.PW_LSTAT_lull_en) = true := by
        by_contra h
        simp only [Bool.or_eq_true, decide_eq_true_eq, Bool.not_eq_true', not_or, Bool.not_eq_false] at h
        exact hl h
      simp only [mode] at hm
      simp only [hm, hgo, if_true]
    case again =>
      simp only [mode] at hm
      simp only [hm]
    case rise =>
      exact (Dev.powerMode_congr (Dev.runRamps_rget R.PW_LSTAT_beyondDoms _)).trans (d.setPower_powerMode (m := 3) (by decide))
    case low => rcases hm with h | h | h <;> rw [show d.powerMode = _ from h] <;> rfl
    case novmain =>
      rw [Dev.powerLost_bo]
      exact congrArg Boot.vmain (Dev.tripReleased_bo _)
    case keep =>
      refine ⟨_, vkeepLoss_does h, ?_, Dev.rd_wr_self _ _ _ _ (by decide), rfl, rfl, rfl⟩
      rw [Dev.on, Dev.keepLost, Dev.rd_wr_other _ _ _ _ _ (by decide), Dev.rd_wr_self _ _ _ _ (by decide)]
      rfl
    case ramped =>
      simp only [h, ne_eq, not_true_eq_false, if_false, if_true]
    case failed =>
      simp only [h, ne_eq, not_true_eq_false, Bool.false_eq_true, if_false]
    case thermal =>
      cases hf : d.pw.steps.find isl with
      | none => simp only [hr, hf, Nat.not_le.2 hlo, decide_false, Bool.or_self, Bool.false_eq_true, if_false]
      | some t => simp only [hr, hf, Nat.not_le.2 hlo, Nat.not_lt.2 (ht t hf), decide_false, Bool.or_self, Bool.false_eq_true, if_false]
    case trip =>
      simp only [trips] at ht
      simp only [mode] at hm
      simp only [if_neg hm, if_pos ht]
      rfl
  case lull =>
    intro d
    refine ⟨fun h _ => exec_next rfl (if_neg (not_not.2 h)), fun hm hall => ⟨_, d.unitsBack, restoreComplete_does hm hall, rfl, Dev.restored_powerMode _⟩⟩

end Sys2Proof.Machine
end

/-! ## Background work, the policies and the ledger (R470 to R485) -/
section
namespace Sys2Proof.Machine

/-! ### Ageing (R472) -/

/-- The greatest slowdown of the ranged islands, as BG_AGE shows it. -/
def slowMax (slow : List (Fin 100 × Fin 10001)) : Nat :=
  ((slow.filter (fun e => (isleRange e.1).isSome)).foldl (fun (m : Nat) e => m.max e.2.val) 0).min 0xFFF

theorem slowMax_eq (slow : List (Fin 100 × Fin 10001)) :
    slowMax slow = min (((slow.filter (fun x => (isleRange x.1).isSome)).map (fun x => x.2.val)).foldl max 0) 0xFFF := by
  rw [List.foldl_map]
  rfl

theorem Dev.policyOn_congr {d e : Dev} {p : Nat} (hfix : e.policyFixed p = d.policyFixed p) (hboot : e.rget R.SY_BOOT = d.rget R.SY_BOOT)
    (hstat : e.rget R.PW_LSTAT = d.rget R.PW_LSTAT) : e.policyOn p = d.policyOn p := by
  simp only [Dev.policyOn, Dev.rd, hfix, hboot, hstat]

theorem ageingMeasure_does {d : Dev} (slow : List (Fin 100 × Fin 10001)) (h : d.policyOn 6 = false) :
    Does (.ageingMeasure slow) d (d.wr R.BG_AGE F.BG_AGE_slow_max (slowMax slow)) := by
  have hoff : (d.wr R.BG_AGE F.BG_AGE_slow_max (slowMax slow)).policyOn 6 = false := by
    rw [← h]
    exact Dev.policyOn_congr rfl (Dev.rget_wr_other _ _ _ _ (by decide)) (Dev.rget_wr_other _ _ _ _ (by decide))
  exact fun _ => exec_next rfl (if_neg (Bool.eq_false_iff.1 hoff))

/-- Settles O32: every item by its own branch. -/
theorem scrubAndCalibration : Obligations.ScrubAndCalibration := by
  intro d g mem core w ecc region i q temp off isl slow area pt u a swept
  refine ⟨fun hen hon _ => exec_next rfl ?gallery, fun hen he _ => exec_next rfl ?overman, fun hen => ⟨fun _ => exec_next rfl ?rule,
    fun _ => exec_next rfl (if_pos hen)⟩, fun hen hon hf => ⟨fun _ => exec_next rfl ?corrected, fun _ => exec_next rfl ?lost⟩,
    fun hen _ => exec_next rfl ?nor, fun _ => rfl, fun _ => rfl, fun _ => rfl, fun _ => rfl, fun ho hb _ => exec_next rfl ?sensor,
    fun h => ⟨_, ageingMeasure_does slow h, ?slow, fun r hr => Dev.rget_wr_other _ _ _ _ hr⟩⟩
  case gallery => 
    simp only [hen, hon, Bool.not_true, ne_eq, not_true_eq_false, decide_false, Bool.or_self, Bool.false_eq_true, if_false]
    rfl
  case overman => simp only [hen, he, if_true]
  case rule => simp only [hen, Bool.true_and, Bool.true_or, if_true]
  case corrected => simp only [hen, hon, hf, Bool.not_true, ne_eq, not_true_eq_false, decide_false, Bool.or_self, Bool.false_eq_true, if_false]
  case lost => simp only [hen, hon, hf, Bool.not_true, ne_eq, not_true_eq_false, decide_false, Bool.or_self, Bool.false_eq_true, if_false]
  case nor => simp only [hen, Bool.and_self, if_true]
  case sensor => simp only [ho, hb, decide_true, Bool.not_false, Bool.and_self, if_true]
  case slow =>
    rw [Dev.rd_wr_self _ _ _ _ (by decide), ← slowMax_eq]
    exact Nat.mod_eq_of_lt (lt_of_le_of_lt (Nat.min_le_right ..) (by decide))

/-! ### The policies (R474 to R481) -/

section
variable {d : Dev}

/-- The galleries that a rotation may take out when its policy has affinity maps disregarded (R474). -/
theorem filter_affOk (l : List Nat) {b : Bool} (hb : b = true) (f : Nat → Bool) : l.filter (fun g => b || f g) = l := by
  rw [hb]
  exact List.filter_eq_self.2 fun _ _ => rfl

theorem thermalPolicy_down {g : Fin 26} {t : Int} (hon : d.policyOn 0 = true) (ht : ((d.policyParam 0 % 256 : Nat) : Int) * 16 ≤ t)
    (hf : 600 < d.rd (R.CK_ISLCFG g) F.CK_ISLCFG_freq_req) (hd : d.stepDue (16 + g) (msU 100) = true) : Does (.thermalPolicyStep g t) d
      ((d.stepMade (16 + g)).freqPolicy g ((d.rd (R.CK_ISLCFG g) F.CK_ISLCFG_freq_req - 50).max 600)) := by
  refine fun _ => exec_next rfl ?_
  simp only [hon, ht, hf, hd, Bool.not_true, Bool.false_eq_true, if_false, if_true, decide_true, Bool.and_self]

theorem thermalPolicy_up {g : Fin 26} {t : Int} (hon : d.policyOn 0 = true) (ht : t < (((d.policyParam 0 % 256 : Nat) : Int) - 5) * 16)
    (hf : d.rd (R.CK_ISLCFG g) F.CK_ISLCFG_freq_req < d.freqWritten g) (hd : d.stepDue (16 + g) unitsPerSec = true) : Does (.thermalPolicyStep g t) d
      ((d.stepMade (16 + g)).freqPolicy g ((d.rd (R.CK_ISLCFG g) F.CK_ISLCFG_freq_req + 50).min (d.freqWritten g))) := by
  refine fun _ => exec_next rfl ?_
  have hcool : ¬((d.policyParam 0 % 256 : Nat) : Int) * 16 ≤ t := by omega
  simp only [hon, ht, hcool, hf, hd, Bool.not_true, Bool.false_eq_true, if_false, if_true, decide_true, Bool.and_self]

theorem refreshPolicy_does {count : Nat} (hon : d.policyOn 4 = true) (hd : d.stepDue 4 (3600 * unitsPerSec) = true)
    (hc : d.policyParam 4 % 2 ^ 16 < count) (h70 : 70 < d.rd R.SM_CFG F.SM_CFG_dbl_c) :
    let v := (d.rd R.SM_CFG F.SM_CFG_dbl_c - 5).max 70
    Does (.refreshPolicyStep count) d
      ((((d.stepMade 4).modBg (fun b => { b with coolHours := 0 })).wr R.SM_CFG F.SM_CFG_dbl_c v).policyChange 4 v 0) := by
  intro v
  have hv : v ≠ d.rd R.SM_CFG F.SM_CFG_dbl_c := (Nat.max_lt.2 ⟨Nat.sub_lt (by omega) (by decide), h70⟩).ne
  have hgo : (!d.policyOn 4 || !d.stepDue 4 (3600 * unitsPerSec)) = false := by rw [hon, hd]; rfl
  refine fun _ => exec_next rfl ((if_neg (Bool.eq_false_iff.1 hgo)).trans ((if_pos hc).trans ?_))
  rw [if_pos (c := 70 < (d.stepMade 4).rd R.SM_CFG F.SM_CFG_dbl_c) h70]
  exact if_neg hv

theorem freezePolicy_does {p : Fin 4} {count : Nat} (hon : d.policyOn 5 = true) (hd : d.stepDue (8 + p) (60 * unitsPerSec) = true)
    (hc : d.policyParam 5 % 256 < count) :
    let top := (4 * (d.bg.holdSet.get none p).getD (F.ST_MOVE_hold_ms.get (R.ST_MOVE p).reset)).min 65535
    top ≠ d.rd (R.ST_MOVE p) F.ST_MOVE_hold_ms → Does (.freezePolicyStep p count) d
      ((((d.stepMade (8 + p)).modBg (fun b => { b with quiet := b.quiet.set 0 p 0 })).wr (R.ST_MOVE p) F.ST_MOVE_hold_ms top).policyChange 5 top p) := by
  intro top hne
  have hgo : (!d.policyOn 5 || !d.stepDue (8 + p) (60 * unitsPerSec)) = false := by rw [hon, hd]; rfl
  have hn : (if count = 0 then (d.stepMade (8 + p)).bg.quiet.get 0 p + 1 else 0) = 0 := if_neg (by omega)
  refine fun _ => exec_next rfl ((if_neg (Bool.eq_false_iff.1 hgo)).trans ?_)
  dsimp only
  rw [hn]
  exact (if_pos hc).trans (if_neg hne)

theorem rotationStep_does {o r : Nat} (hon : d.policyOn 1 = true) (hb : d.tkBusy = false) (hf : d.on R.RL_FORCE F.RL_FORCE_busy = false)
    (hq : d.rl.queue = []) (ha : bitAt (d.policyParam 1) 16 = true) (ho : d.byStress (fun a b => b < a) d.activeGals = some o)
    (hr : d.byStress (fun a b => a < b) ((List.range 26).filter (fun g => d.inRelief g && d.galState g == 2)) = some r)
    (hs : (d.bg.stress.get 0 o).max (d.bg.stress.get 0 r)
      ≤ 100 * ((d.bg.stress.get 0 o).max (d.bg.stress.get 0 r) - (d.bg.stress.get 0 o).min (d.bg.stress.get 0 r)))
    (hlt : d.bg.stress.get 0 r < d.bg.stress.get 0 o) (hd : d.stepDue 1 (d.policyParam 1 % 2 ^ 16 * 3600 * unitsPerSec) = true) :
    Does .rotationStep d ((d.stepMade 1).swapStart o r 7) := by
  have hgo : (!d.policyOn 1 || d.tkBusy || d.on R.RL_FORCE F.RL_FORCE_busy || !d.rl.queue.isEmpty
      || !d.stepDue 1 (d.policyParam 1 % 2 ^ 16 * 3600 * unitsPerSec)) = false := by rw [hon, hb, hf, hq, hd]; rfl
  have hact : ((d.stepMade 1).activeGals.filter fun g => bitAt ((d.stepMade 1).policyParam 1) 16 || !(d.stepMade 1).affinityNamed g) = d.activeGals :=
    filter_affOk _ ha _
  refine fun _ => exec_next rfl ((if_neg (Bool.eq_false_iff.1 hgo)).trans ?_)
  dsimp only
  rw [hact, show (d.stepMade 1).byStress (fun a b => decide (b < a)) d.activeGals = some o from ho,
    show (d.stepMade 1).byStress (fun a b => decide (a < b)) ((List.range 26).filter fun g => (d.stepMade 1).inRelief g && (d.stepMade 1).galState g == 2)
      = some r from hr]
  exact if_pos (Bool.and_eq_true_iff.2 ⟨decide_eq_true hs, decide_eq_true hlt⟩)

end

/-! ### The calendar (R483) -/

/-- A second of the calendar with VMAIN: it follows station time where that is set. -/
def Dev.calendarGoes (d : Dev) : Dev :=
  let set := d.tbSt = 2 || d.tbSt = 3
  let sec := if set then secOf d.now else d.bg.calSec + 1
  d.modBg (fun b => { b with calSec := sec % 2 ^ 48, calTick := if set then 0 else b.calTick, poweredS := b.poweredS + 1
                             ledgerDue := b.ledgerDue || sec % 3600 == 0 })

theorem calendarSecond_does {d : Dev} (hv : d.bo.vmain = true) (hh : (d.bg.poweredS + 1) % 3600 ≠ 0) : Does .calendarSecond d d.calendarGoes := by
  have hgo : (!d.bo.vmain) = false := by rw [hv]; rfl
  exact fun _ => exec_next rfl ((if_neg (Bool.eq_false_iff.1 hgo)).trans (if_neg hh))

theorem Dev.calendarGoes_set {d : Dev} (h : d.tbSt = 2 ∨ d.tbSt = 3) :
    d.calendarGoes.bg.calSec = secOf d.now % 2 ^ 48 ∧ d.calendarGoes.bg.calTick = 0 := by
  have hset : (decide (d.tbSt = 2) || decide (d.tbSt = 3)) = true := by simpa only [Bool.or_eq_true, decide_eq_true_eq] using h
  constructor
  · simp only [Dev.calendarGoes, Dev.modBg, hset, if_true]
  · simp only [Dev.calendarGoes, Dev.modBg, hset, if_true]

theorem Dev.calendarGoes_free {d : Dev} (h : ¬(d.tbSt = 2 ∨ d.tbSt = 3)) : d.calendarGoes.bg.calSec = (d.bg.calSec + 1) % 2 ^ 48 := by
  have hset : (decide (d.tbSt = 2) || decide (d.tbSt = 3)) = false := by
    rw [Bool.or_eq_false_iff]
    exact ⟨decide_eq_false fun h2 => h (.inl h2), decide_eq_false fun h3 => h (.inr h3)⟩
  simp only [Dev.calendarGoes, Dev.modBg, hset, Bool.false_eq_true, if_false]

/-- Settles O33: every step of a policy by the branch its measure takes. -/
theorem policiesAndLedger : Obligations.PoliciesAndLedger := by
  refine ⟨?policies, ?ledger⟩
  case policies =>
    intro d g pw tj t count o r p soft f c h top so sr cooled
    exact ⟨fun _ => rfl, thermalPolicy_down, thermalPolicy_up, refreshPolicy_does, freezePolicy_does, rotationStep_does⟩
  case ledger =>
    intro d vmon therm rest t u set seq a
    refine ⟨fun _ => rfl, fun h _ => exec_next rfl (if_pos (congrArg not h)),
      fun hv hh => ⟨_, calendarSecond_does hv hh, rfl, Dev.calendarGoes_set, Dev.calendarGoes_free⟩, fun hdue hm => ?write⟩
    case write =>
      intro v bs
      have hgo : (!d.bg.ledgerDue || decide (d.powerMode = 4)) = false := by rw [hdue, decide_eq_false hm]; rfl
      exact fun _ => exec_next rfl ((if_neg (Bool.eq_false_iff.1 hgo)).trans (by rfl))

end Sys2Proof.Machine
end

/-! ## Relief (R398 to R425) -/
section
namespace Sys2Proof.Machine

section
variable {d : Dev}

/-- A shared island of the packet path is fenced once (R420). -/
theorem Dev.fenceUnit_isle {r : TkReq} (hk : r.kind = 4) (hu : r.unit < 34) (hf : d.isleFenced r.unit = false) :
    d.fenceUnit r = ({ d with rl := { d.rl with isles := d.rl.isles ++ [r.unit] } } : Dev).alarm F.RL_ALARM_unit true := by
  have hlow : (decide (34 ≤ r.unit) && decide (r.unit ≤ 37)) = false := by rw [decide_eq_false (Nat.not_le.2 hu)]; rfl
  have hhigh : (decide (38 ≤ r.unit) && decide (r.unit ≤ 41)) = false := by rw [decide_eq_false (show ¬38 ≤ r.unit by omega)]; rfl
  simp only [Dev.fenceUnit, hk, hf, hlow, hhigh, Bool.false_eq_true, if_false]

theorem Dev.fenceNext_cons {r : TkReq} {rest : List TkReq} (h : d.rl.detected = r :: rest) :
    d.fenceNext = (({ d with rl := { d.rl with detected := rest } } : Dev).fenceUnit r).tkFence := by simp only [Dev.fenceNext, h]

/-- The last gallery to leave is relief now (R412). -/
theorem Dev.leaveCheck_one {g : Nat} (hl : d.rl.leaving = [g]) (hs : d.slotsUsed g = 0) :
    d.leaveCheck = (let u := (d.setGalState g 2).setRelief g true
      ({ u with rl := { u.rl with leaving := [] }, bg := { u.bg with ledgerDue := true } } : Dev).galAlarms) := by
  have hout : d.rl.leaving.filter (fun g => d.slotsUsed g == 0) = [g] := by
    rw [hl]
    exact List.filter_eq_self.2 fun x hx => by rw [List.mem_singleton.1 hx, hs]; rfl
  have hrest : ([g].filter fun x => !([g].contains x)) = [] := List.filter_eq_nil_iff.2 fun x hx => by
    rw [List.contains_iff_mem.2 hx]
    exact Bool.false_ne_true
  simp only [Dev.leaveCheck, hout, List.foldl_cons, List.foldl_nil, List.isEmpty_cons, Bool.false_eq_true, if_false]
  rw [show ((d.setGalState g 2).setRelief g true).rl.leaving = [g] from hl, hrest]

theorem Dev.coreCFails_fenced (hom : d.cg.om ≠ 1) (hab : d.on R.RL_FENCE F.RL_FENCE_om_ab = false) :
    d.coreCFails = (d.wr R.RL_FENCE F.RL_FENCE_om_c 1).alarm F.RL_ALARM_unit true := by
  have hab' : (d.wr R.RL_FENCE F.RL_FENCE_om_c 1).on R.RL_FENCE F.RL_FENCE_om_ab = false := by
    have hbeside : (d.wr R.RL_FENCE F.RL_FENCE_om_c 1).rd R.RL_FENCE F.RL_FENCE_om_ab = d.rd R.RL_FENCE F.RL_FENCE_om_ab :=
      Dev.rd_wr_beside _ _ _ _ (by decide) (by decide)
    rw [Dev.on, hbeside]
    exact hab
  have hgo : (decide (d.cg.om = 1) || (d.wr R.RL_FENCE F.RL_FENCE_om_c 1).on R.RL_FENCE F.RL_FENCE_om_ab) = false := by
    rw [hab', decide_eq_false hom]
    rfl
  exact if_neg (Bool.eq_false_iff.1 hgo)

end

/-- Settles O34: every command by its branch. -/
theorem reliefCommands : Obligations.ReliefCommands := by
  intro d isl rail b n
  refine ⟨fun r rest h => ⟨fun _ => exec_next rfl (Dev.fenceNext_cons h),
    fun hk hu hf _ => exec_next rfl ((Dev.fenceNext_cons h).trans (congrArg Dev.tkFence (Dev.fenceUnit_isle hk hu hf)))⟩, fun r g hs hc hg _ => exec_next rfl ?taken,
    fun r hs hc hg _ => exec_next rfl ?shared, fun o ho ha => ?swap, fun g ho hl hs _ => exec_next rfl ?left, fun _ => exec_next rfl ?phase,
    fun t ht hdue _ => exec_next rfl ?expiry, fun _ => rfl, fun hom hab _ => exec_next rfl (Dev.coreCFails_fenced hom hab), fun _ => rfl, fun _ => rfl⟩
  case taken => simp only [hs, hc, hg, ne_eq, not_true_eq_false, if_false]
  case shared => simp only [hs, hc, hg, ne_eq, not_true_eq_false, if_false]
  case swap =>
    intro r u one u' u'' _
    refine exec_next rfl ?_
    simp only [ho, Option.isSome_some, if_true, Dev.swapDone, ha, Bool.not_true, Bool.false_eq_true, if_false]
    rfl
  case left =>
    simp only [ho, Option.isSome_none, Bool.false_eq_true, if_false]
    exact Dev.leaveCheck_one hl hs
  case phase => rfl
  case expiry =>
    simp only [ht, Nat.not_lt.2 hdue, if_false]

end Sys2Proof.Machine
end

/-! ## Seam (R382 to R403) -/
section
namespace Sys2Proof.Machine

/-! ### The end of a takeover (R418) -/

section
variable {r : Reg} (hr : r.addr ≠ R.RL_TKSTAT.addr) (d : Dev)
include hr

theorem Dev.tkShow_rget (kind unit cause step : Nat) : (d.tkShow kind unit cause step).rget r = d.rget r := by
  simp only [Dev.tkShow, Dev.rget_wr_other _ _ _ _ hr]

theorem Dev.tkFence_rget : d.tkFence.rget r = d.rget r := by
  rw [Dev.tkFence]
  split
  · rfl
  · split
    · exact Dev.tkShow_rget hr ..
    · simp only [Dev.rget_wr_other _ _ _ _ hr]

/-- With nothing queued, the relief controller only goes idle. -/
theorem Dev.tkIdle_rget (hq : d.rl.queue = []) (hb : d.rl.beyond = []) : d.tkIdle.rget r = d.rget r := by
  have hidle (e : Dev) (he : e.rl.queue.length + e.rl.beyond.length = 0) :
      (({ e with rl := { e.rl with cur := none } } : Dev).tkNext (e.rl.queue.length + e.rl.beyond.length)).tkFence.rget r = e.rget r := by
    rw [he, Dev.tkFence_rget hr]
    rfl
  rw [Dev.tkIdle, hidle _ (by simp only [Dev.wr_rl, hq, hb, List.length_nil]), Dev.rget_wr_other _ _ _ _ hr, Dev.rget_wr_other _ _ _ _ hr]

end

/-! ### The end of sparing (R391) -/

/-- A field of three bits takes a new value in a word. -/
theorem bitsOf_replace {v l x : Nat} (hl : l < 4) (hx : x < 8) :
    bitsOf ((v - bitsOf v (3 * l) 3 * 2 ^ (3 * l) + x * 2 ^ (3 * l)) % 2 ^ 64) (3 * l) 3 = x := by
  unfold bitsOf
  interval_cases l <;> omega

theorem Dev.setPhys_smPhys (d : Dev) {l ph : Nat} (hl : l < 4) (hp : ph < 8) : (d.setPhys l ph).smPhys l = ph := by
  rw [Dev.smPhys, Dev.setPhys, Dev.rset_rget, BitVec.toNat_ofNat]
  exact bitsOf_replace hl hp

/-- The map switches to the spare channel. -/
def Dev.spareOn (d : Dev) (l sp : Nat) (cmd : Bool) : Dev :=
  let src := d.smPhys l
  let d := (d.wr R.SM_SPARE F.SM_SPARE_done 536870912).wr R.SM_SPARE F.SM_SPARE_busy 0
  let d := d.wr (R.SM_CHSTAT src) F.SM_CHSTAT_state (if cmd then 0 else 4)
  let d := (d.wr (R.SM_CHSTAT sp) F.SM_CHSTAT_state 2).setPhys l sp
  { d with sm := { d.sm with sparing := none } }

/-- The relief controller counts and reports a sparing of channel `src`. -/
def Dev.spareCounted (d : Dev) (src : Nat) : Dev :=
  let d := (d.wr R.RL_TKSTAT F.RL_TKSTAT_dur_us (((d.now - d.rl.since) / usU 1).min 65535)).tkIdle.wr R.RL_FORCE F.RL_FORCE_busy 0
  ((d.tkCount F.RL_CNT_seam).event 0x42 (2 * 256 + src) 1).alarm F.RL_ALARM_seam_spare d.smSpare.isNone

theorem sparingComplete_does {d : Dev} {l sp : Nat} {cmd : Bool} (h : d.sm.sparing = some (l, sp, cmd)) :
    Does .sparingComplete d ((d.spareOn l sp cmd).spareCounted (d.smPhys l)) := by
  refine fun _ => exec_next rfl ?_
  dsimp -zeta only
  split
  · next hn => exact absurd (hn.symm.trans h) (by simp only [reduceCtorEq, not_false_eq_true])
  · next l' sp' cmd' hs =>
    obtain ⟨rfl, rfl, rfl⟩ : l' = l ∧ sp' = sp ∧ cmd' = cmd := by simpa only [Option.some.injEq, Prod.mk.injEq] using hs.symm.trans h
    rfl

/-- A register that the count of a takeover does not write. -/
def Reg.beyondRelief (r : Reg) : Prop :=
  r.addr ≠ R.RL_TKSTAT.addr ∧ r.addr ≠ R.RL_FORCE.addr ∧ r.addr ≠ R.RL_CNT.addr ∧ r.addr ≠ R.RL_ALARM.addr

theorem Dev.inc_rget (d : Dev) (q : Reg) (f : Fld) (n : Nat) {r : Reg} (hr : r.addr ≠ q.addr) : (d.inc q f n).rget r = d.rget r := by
  simp only [Dev.inc]
  split_ifs <;> exact Dev.rget_wr_other _ _ _ _ hr

theorem Dev.spareCounted_rget {r : Reg} (hr : r.beyondRelief) {d : Dev} (hq : d.rl.queue = []) (hb : d.rl.beyond = []) (src : Nat) :
    (d.spareCounted src).rget r = d.rget r := by
  obtain ⟨hstat, hforce, hcnt, halarm⟩ := hr
  simp only [Dev.spareCounted]
  rw [Dev.alarm_rget _ _ _ halarm, Dev.rget_of_regs (Dev.event_regs ..)]
  refine (Dev.inc_rget _ _ _ _ hcnt).trans ((Dev.rget_wr_other _ _ _ _ hforce).trans ((Dev.tkIdle_rget hstat _ ?_ ?_).trans (Dev.rget_wr_other _ _ _ _ hstat)))
  · exact hq
  · exact hb

theorem Dev.spareOn_smPhys (d : Dev) {l sp : Nat} (hl : l < 4) (hsp : sp < 5) (cmd : Bool) : (d.spareOn l sp cmd).smPhys l = sp :=
  Dev.setPhys_smPhys _ hl (by omega)

theorem Dev.setPhys_rget (d : Dev) (l ph : Nat) {r : Reg} (hr : r.addr ≠ R.SM_CHMAP.addr) : (d.setPhys l ph).rget r = d.rget r :=
  Dev.rset_rget_of_ne _ _ hr

theorem Dev.spareOn_smState (d : Dev) {l sp : Nat} (hsp : sp < 5) (cmd : Bool) : (d.spareOn l sp cmd).smState sp = 2 := by
  have hmap : (R.SM_CHSTAT sp).addr ≠ R.SM_CHMAP.addr := by simp only [R.SM_CHSTAT, R.SM_CHMAP]; omega
  have hon (e : Dev) : ((e.wr (R.SM_CHSTAT sp) F.SM_CHSTAT_state 2).setPhys l sp).smState sp = 2 := by
    rw [Dev.smState, Dev.rd, Dev.setPhys_rget _ _ _ hmap]
    exact Dev.rd_wr_self _ _ _ _ (by decide)
  exact hon _

theorem Dev.alarm_sm (d : Dev) (f : Fld) (on : Bool) : (d.alarm f on).sm = d.sm := by
  simp only [Dev.alarm, Dev.alarmEdge]
  split
  · exact Dev.wr_sm ..
  · rw [Dev.tally_sm, Dev.event_sm, Dev.out_sm, Dev.wr_sm]

theorem Dev.tkFence_sm (d : Dev) : d.tkFence.sm = d.sm := by
  rw [Dev.tkFence]
  split
  · rfl
  · split <;> rfl

theorem Dev.tkIdle_sm {d : Dev} (hq : d.rl.queue = []) (hb : d.rl.beyond = []) : d.tkIdle.sm = d.sm := by
  have hidle (e : Dev) (he : e.rl.queue.length + e.rl.beyond.length = 0) :
      (({ e with rl := { e.rl with cur := none } } : Dev).tkNext (e.rl.queue.length + e.rl.beyond.length)).tkFence.sm = e.sm := by
    rw [he, Dev.tkFence_sm]
    rfl
  rw [Dev.tkIdle, hidle _ (by simp only [Dev.wr_rl, hq, hb, List.length_nil]), Dev.wr_sm, Dev.wr_sm]

theorem Dev.spareCounted_sm {d : Dev} (hq : d.rl.queue = []) (hb : d.rl.beyond = []) (src : Nat) : (d.spareCounted src).sm = d.sm := by
  simp only [Dev.spareCounted]
  rw [Dev.alarm_sm, Dev.event_sm]
  refine (Dev.inc_sm ..).trans ((Dev.wr_sm ..).trans ((Dev.tkIdle_sm ?_ ?_).trans (Dev.wr_sm ..)))
  · exact hq
  · exact hb

theorem refreshes {st : Nat} (h : st = 2 ∨ st = 3) : ¬((decide (st ≠ 2) && decide (st ≠ 3)) = true) := by
  rcases h with rfl | rfl <;> decide

theorem polls {st : Nat} (h0 : st ≠ 0) (h4 : st ≠ 4) : ¬((decide (st = 0) || decide (st = 4)) = true) := by
  rw [decide_eq_false h0, decide_eq_false h4]
  decide

theorem Dev.spareOn_rl (d : Dev) (l sp : Nat) (cmd : Bool) : (d.spareOn l sp cmd).rl = d.rl := rfl

theorem notWarm {hot : Bool} {thr therm : Int} (hc : hot = false) (ht : therm < thr - 3) : ¬((hot || decide (thr ≤ therm)) = true) := by
  rw [hc, decide_eq_false (by omega)]
  decide

theorem tracks {en : Bool} {st : Nat} (hen : en = true) (h : st = 2 ∨ st = 3) : ¬((!en || (decide (st ≠ 2) && decide (st ≠ 3))) = true) := by
  rw [hen]
  rcases h with rfl | rfl <;> decide

theorem Dev.copyOn_now (d : Dev) : d.copyOn.now = d.now := by
  simp only [Dev.copyOn]
  split
  · rfl
  · split <;> rfl

/-- Settles O36: every command by its branch. -/
theorem seamCommands : Obligations.SeamCommands := by
  intro d c hot therm width dev moved log st n open_ chst polled thr cool tracked
  refine ⟨fun hst hn => ?few, fun hst hn => ?all, fun h0 h4 hh => ?warm, fun h0 h4 hc ht hd hn => ?cools, fun t h0 h4 hc ht hd hn hl => ?cool,
    fun hst ht hw => ?wide, fun hst ht hw hm => ?narrow, fun x rest h => ?near, fun h => ?window, fun r h hs => ?stale, fun r h hs => ?granted,
    fun l sp cmd h hl hsp hq hb => ⟨_, sparingComplete_does h, ?done, ?map, ?active⟩, fun _ => rfl⟩
  case done =>
    rw [Dev.spareCounted_sm ((congrArg Relief.queue (d.spareOn_rl l sp cmd)).trans hq) ((congrArg Relief.beyond (d.spareOn_rl l sp cmd)).trans hb)]
    rfl
  case map =>
    have hmap : R.SM_CHMAP.beyondRelief := ⟨by decide, by decide, by decide, by decide⟩
    rw [Dev.smPhys, Dev.spareCounted_rget hmap ((congrArg Relief.queue (d.spareOn_rl l sp cmd)).trans hq)
      ((congrArg Relief.beyond (d.spareOn_rl l sp cmd)).trans hb), ← Dev.smPhys]
    exact Dev.spareOn_smPhys d hl hsp cmd
  case active =>
    have hst : (R.SM_CHSTAT sp).beyondRelief := by
      refine ⟨?_, ?_, ?_, ?_⟩ <;> simp only [R.SM_CHSTAT, R.RL_TKSTAT, R.RL_FORCE, R.RL_CNT, R.RL_ALARM] <;> omega
    rw [Dev.smState, Dev.rd, Dev.spareCounted_rget hst ((congrArg Relief.queue (d.spareOn_rl l sp cmd)).trans hq)
      ((congrArg Relief.beyond (d.spareOn_rl l sp cmd)).trans hb), ← Dev.rd, ← Dev.smState]
    exact Dev.spareOn_smState d hsp cmd
  case few => exact fun _ => exec_next rfl ((if_neg (refreshes hst)).trans (if_pos hn))
  case all => exact fun _ => exec_next rfl ((if_neg (refreshes hst)).trans (if_neg (Nat.not_lt.2 hn)))
  case warm =>
    refine fun _ => exec_next rfl ((if_neg (polls h0 h4)).trans (if_pos ?_))
    rcases hh with hh | hh
    · rw [hh]; rfl
    · exact Bool.or_eq_true_iff.2 (.inr (decide_eq_true hh))
  case cools =>
    refine fun _ => exec_next rfl ((if_neg (polls h0 h4)).trans ((if_neg (notWarm hc ht)).trans ((if_pos hd).trans ((if_pos ht).trans ?_))))
    simp only [Dev.wr_sm, hn]
    rfl
  case cool =>
    refine fun _ => exec_next rfl ((if_neg (polls h0 h4)).trans ((if_neg (notWarm hc ht)).trans ((if_pos hd).trans ((if_pos ht).trans ?_))))
    simp only [Dev.wr_sm, hn]
    exact if_neg (Nat.not_lt.2 hl)
  case wide =>
    refine fun _ => exec_next rfl ((if_neg (tracks ht hst)).trans (if_neg ?_))
    rw [decide_eq_false (Nat.not_lt.2 hw)]
    exact Bool.false_ne_true
  case narrow =>
    refine fun _ => exec_next rfl ((if_neg (tracks ht hst)).trans (if_pos ?_))
    exact Bool.and_eq_true_iff.2 ⟨decide_eq_true hw, congrArg not hm⟩
  case near =>
    refine fun _ => exec_next rfl ?_
    simp only [h]
  case window => exact fun _ => exec_next rfl ((if_neg h).trans (by simp only [Dev.copyOn_now]))
  case stale =>
    intro rest
    refine fun _ => exec_next rfl ?_
    simp only [h, hs, if_true]
    rfl
  case granted =>
    intro rest u u' u''
    refine ⟨fun _ => exec_next rfl ?_, fun _ => exec_next rfl ?_, fun _ => exec_next rfl ?_⟩
    all_goals
      simp only [h, hs, Bool.false_eq_true, if_false]
      rfl

end Sys2Proof.Machine
end

/-! ## The tables and the phasor engine (R104 to R125, R215 to R233) -/
section
namespace Sys2Proof.Machine

/-! ### Learning and the lock of the tables -/

theorem learnApply_does {d : Dev} {p : Fin 4} {l : Learn} {rest : List Learn} (hq : d.st.learnQ.get [] p = l :: rest) (hl : d.tblLocked p = false) :
    Does (.learnApply p) d (({ d with st := { d.st with learnQ := d.st.learnQ.set [] p rest } } : Dev).learnApply p l) := by
  refine fun _ => exec_next rfl ?_
  simp only [hq, hl, Bool.false_eq_true, if_false]

/-- A station that no entry names takes the free way of its set (R109). -/
theorem Dev.learnApply_new {d : Dev} {p w : Nat} {l : Learn} (hf : (d.stRepairSet p (stSet l.mac l.fid)).stFind p l.mac l.fid = none)
    (hw : (d.stRepairSet p (stSet l.mac l.fid)).stFree p (stSet l.mac l.fid) = some w) : d.learnApply p l =
      ((d.stRepairSet p (stSet l.mac l.fid)).setStation p w
        (seSeal (SE.valid.put (SE.port.put (SE.queue.put (SE.fid.put (SE.mac.put 0 l.mac) l.fid) l.tclass) l.port) 1))).inc (R.ST_PCNT p) F.ST_PCNT_learned := by
  simp only [Dev.learnApply, hf, hw]

/-- The tables' lock runs out, and what was staged goes (R122). -/
def Dev.lockLapsed (d : Dev) : Dev :=
  let tbl := d.rd R.ST_DMACTL F.ST_DMACTL_tbl
  let d := { d with st := { d.st with staged := [] } }
  ((d.wr R.ST_DMACTL F.ST_DMACTL_lock 0).wr R.ST_DMASTAT F.ST_DMASTAT_lock_to 1).tally 0x0405 tbl

theorem Dev.lockLapsed_lock (d : Dev) : d.lockLapsed.on R.ST_DMACTL F.ST_DMACTL_lock = false := by
  rw [Dev.on, Dev.rd, Dev.lockLapsed, Dev.rget_of_regs (Dev.tally_regs ..), Dev.rget_wr_other _ _ _ _ (by decide), ← Dev.rd,
    Dev.rd_wr_self _ _ _ _ (by decide)]
  rfl

theorem Dev.lockLapsed_to (d : Dev) : d.lockLapsed.on R.ST_DMASTAT F.ST_DMASTAT_lock_to = true := by
  rw [Dev.on, Dev.rd, Dev.lockLapsed, Dev.rget_of_regs (Dev.tally_regs ..), ← Dev.rd, Dev.rd_wr_self _ _ _ _ (by decide)]
  rfl

theorem lockTimeout_does {d : Dev} (h : d.on R.ST_DMACTL F.ST_DMACTL_lock = true) : Does .lockTimeout d d.lockLapsed := by
  have hgo : (!d.on R.ST_DMACTL F.ST_DMACTL_lock) = false := by rw [h]; rfl
  exact fun _ => exec_next rfl (if_neg (Bool.eq_false_iff.1 hgo))

/-- Settles O38: every command by its branch. -/
theorem tableCommands : Obligations.TableCommands := by
  intro d p l rest i
  refine ⟨?learn, fun hl hc _ => exec_next rfl (if_neg ?_), fun _ => rfl, fun h => ⟨_, lockTimeout_does h, d.lockLapsed_lock, d.lockLapsed_to, rfl,
    fun _ => rfl⟩, fun _ => rfl⟩
  case learn =>
    intro hq hl u v
    exact ⟨learnApply_does hq hl, fun w hf hw q => (learnApply_does hq hl q).trans (by rw [Dev.learnApply_new hf hw])⟩
  · rw [hl, hc]
    decide

/-! ### The phasor engine -/

/-- The state block that the Overman writes again for a binding (R224): word 0 with valid and resync set. -/
def blockAgain (d : Dev) (b : Nat) (c : BindCopy) : List Byte :=
  let w := leNat (c.block.take 8)
  let f := match d.ph.lastFreq.get none b with
    | some f => f
    | none => singleR ((f0Of (PB.f60 w) : Int) * one80) false
  leBytes 8 (withBit (withBit w 63 true) 62 true) ++ leBytes 8 (f * 2 ^ 32 + (realOf f / 2 ^ 55).toNat % 2 ^ 32) ++ List.replicate 48 0
    ++ (c.block.drop 64).take 32

theorem blockAgain_word (d : Dev) (b : Nat) (c : BindCopy) :
    (blockAgain d b c).take 8 = leBytes 8 (withBit (withBit (leNat (c.block.take 8)) 63 true) 62 true) := by
  simp only [blockAgain, List.append_assoc]
  exact List.take_left' (length_leBytes ..)

/-- Settles O39: every command by its branch. -/
theorem phasorCommands : Obligations.PhasorCommands := by
  intro d g slot set o b w x fr dl
  refine ⟨fun hl hv ho hf hd _ => exec_next rfl (if_pos ?_), fun y rest hl ht _ => exec_next rfl ?block, fun k hk _ => exec_next rfl ?report,
    fun h _ => exec_next rfl (if_pos h), fun c hr hc hv => ⟨blockAgain d b c, fun _ => exec_next rfl ?again, blockAgain_word ..⟩⟩
  · have hdue : (decide (dl < nowNs d) || decide (dl = nowNs d) && !d.stepWaits g slot) = true := by
      rcases hd with hd | ⟨hd, hs⟩
      · exact Bool.or_eq_true_iff.2 (.inl (decide_eq_true hd))
      · exact Bool.or_eq_true_iff.2 (.inr (Bool.and_eq_true_iff.2 ⟨decide_eq_true hd, congrArg not hs⟩))
    have hfr : (fr != 0) = true := bne_iff_ne.2 hf
    simp only [Bool.and_eq_true]
    exact ⟨⟨⟨⟨congrArg not hl, hv⟩, ho⟩, hfr⟩, hdue⟩
  case block => 
    simp only [hl, ht, Bool.false_eq_true, if_false]
  case report => simp only [hk]
  case again =>
    have hlost : (!d.ph.rewrite.contains b.val) = false := by rw [hr]; rfl
    have hgo : (!d.on (R.PH_BIND b) F.PH_BIND_valid) = false := by rw [hv]; rfl
    refine (if_neg (Bool.eq_false_iff.1 hlost)).trans ?_
    simp only [hc]
    exact if_neg (Bool.eq_false_iff.1 hgo)

end Sys2Proof.Machine
end

/-! ## The event recorder, the maintenance bus and the test access port (R434, R483 to R500) -/
section
namespace Sys2Proof.Machine

/-! ### Records on their way -/

/-- A protected code passes its limit always (R489). -/
theorem Dev.tallyPass_of_protected (d : Dev) {c : Nat} (h : tallyProtected c = true) : d.tallyPass c = (true, d) := by
  have hgo : (tallyProtected c || decide (F.TL_LIM_rate.get (d.tlLim c) = 0xFFFF)) = true := by rw [h]; rfl
  exact if_pos hgo

theorem Dev.tallyArrive_of_protected (d : Dev) {r : TallyReq} (h : tallyProtected r.code = true) (hc : r.code ≠ 0x0301) :
    d.tallyArrive r = d.tallyTake r := by
  rw [Dev.tallyArrive, d.tallyPass_of_protected h]
  exact (if_neg Bool.false_ne_true).trans (if_neg hc)

theorem tallyRecord_does {d : Dev} {r : TallyReq} {rest : List TallyReq} (ht : d.tl.transit = r :: rest) (ho : d.tlOpen = true) :
    Does .tallyRecord d ((d.modTl (fun t => { t with transit := rest })).tallyArrive r) := by
  refine fun _ => exec_next rfl ?_
  simp only [ht, ho, Bool.not_true, Bool.false_eq_true, if_false]

theorem tallyCredit_one {d : Dev} {c : Nat} {t : Option Nat} (ht : d.tl.tokens = [(c, t)]) (hl : d.tl.limIn = []) : Does .tallyCredit d (d.creditCode c) := by
  refine fun _ => exec_next rfl ?_
  simp only [ht, hl, List.map_cons, List.map_nil, List.filter_nil, List.append_nil, List.foldl_cons, List.foldl_nil]

/-- A suppressed second that has passed leaves one record of its count (R490). -/
theorem Dev.suppEnd_passed {d : Dev} {c n f l : Nat} (hs : d.tl.supp.find c = some (n, f, l)) (hp : secOf l < secOf d.now) :
    d.suppEnd c = (d.modTl (fun t => { t with supp := t.supp.del c })).tallyTake
      { code := 0x0001, unit := c, data := timeWords f ++ timeWords l, count := n, time := d.now } := by
  rw [Dev.suppEnd, hs]
  exact if_neg (Nat.not_le.2 hp)

/-! ### Chunks and blocks -/

/-- A chunk that is not the block's last and takes all that waits. -/
theorem Dev.tlChunk_all {d : Dev} {x : Nat × BitVec 512} {rest : List (Nat × BitVec 512)} (hq : d.tl.queue = x :: rest) (hr : rest.length < 16)
    (h0 : d.tl.chunks ≠ 0) (h255 : d.tl.chunks < 255) :
    d.tlChunk = d.modTl (fun t => { t with
      queue := []
      nand := (x :: rest).foldl (fun m e => m.put e.1 e.2) t.nand
      first := (x :: rest).foldl (fun m e => if e.1 < d.rd R.TL_STAT F.TL_STAT_first_cnt then m.put e.1 e.2 else m) t.first
      held := t.held.put t.block (((t.held.find t.block).map (·.1)).getD x.1, ((x :: rest).getLast (by simp)).1)
      chunks := t.chunks + 1 }) := by
  have htake : d.tl.queue.take 16 = x :: rest := by rw [hq]; exact List.take_of_length_le hr
  have hdrop : d.tl.queue.drop 16 = [] := by rw [hq]; exact List.drop_eq_nil_of_le hr
  have hgo : ¬ 256 ≤ d.tl.chunks + 1 := by omega
  simp only [Dev.tlChunk, htake, List.head?_cons, List.getLast?_eq_getLast_of_ne_nil (List.cons_ne_nil x rest), if_neg h0, hdrop, Dev.modTl]
  exact if_neg hgo

theorem Dev.tlOverflow_of_none {d : Dev} (h : d.tl.lost = 0) : d.tlOverflow = d := by
  have hgo : (decide (d.tl.lost = 0) || decide (256 ≤ d.tl.queue.length)) = true := by rw [h]; rfl
  exact if_pos hgo

theorem chunkProgram_does {d : Dev} (ho : d.tlOpen = true) : Does .chunkProgram d d.tlChunk.tlOverflow :=
  fun _ => exec_next rfl (if_pos ho)

/-- A block that Tally did not hold for bad. -/
theorem blockFresh {d : Dev} {b : Nat} (ho : d.tlOpen = true) (hb : d.tl.retired.contains b = false) (h8 : 8 ≤ b) :
    (!d.tlOpen || d.tl.retired.contains b || decide (b < 8)) = false := by
  rw [ho, hb, decide_eq_false (Nat.not_lt.2 h8)]
  rfl

/-! ### The recorder closes and opens -/

/-- What Tally writes as it closes: all that waits, and the close. -/
def Dev.tallyEnded (d : Dev) : Dev := ((d.tlFlush 32).tallyTake { code := 0x0003, data := [(d.tlFlush 32).tl.downFrom], time := (d.tlFlush 32).now }).tlFlush 32

/-- Tally is closed and every domain is off (R494, R439). -/
def Dev.tallyClosed (d : Dev) : Dev := (List.range 50).foldl (fun d k => d.wr (R.PW_DOM k) F.PW_DOM_state 0)
  ((d.tallyEnded.wr R.TL_STAT F.TL_STAT_open 0).modTl (fun t => { t with lossy := false }))

theorem domsOff_rget_of_mem {r : Reg} {l : List Nat} (hr : ∀ k ∈ l, r.addr ≠ (R.PW_DOM k).addr) (d : Dev) :
    (l.foldl (fun d k => d.wr (R.PW_DOM k) F.PW_DOM_state 0) d).rget r = d.rget r := by
  induction l generalizing d with
  | nil => rfl
  | cons k rest ih =>
    exact (ih (fun j hj => hr j (List.mem_cons_of_mem _ hj)) _).trans (Dev.rget_wr_other _ _ _ _ (hr k List.mem_cons_self))

theorem R.TL_STAT_off_doms : ∀ k ∈ List.range 50, R.TL_STAT.addr ≠ (R.PW_DOM k).addr := fun k hk => by
  have := List.mem_range.1 hk
  simp only [R.TL_STAT, R.PW_DOM]
  omega

theorem Dev.tallyClosed_open (d : Dev) : d.tallyClosed.on R.TL_STAT F.TL_STAT_open = false := by
  have h : d.tallyClosed.rget R.TL_STAT = (d.tallyEnded.wr R.TL_STAT F.TL_STAT_open 0).rget R.TL_STAT :=
    (domsOff_rget_of_mem R.TL_STAT_off_doms _).trans (Dev.rget_of_regs rfl _)
  rw [Dev.on, Dev.rd, h, ← Dev.rd, Dev.rd_wr_self _ _ _ _ (by decide)]
  rfl

theorem Dev.tallyClosed_domSt (d : Dev) (k : Fin 50) : d.tallyClosed.domSt k = 0 :=
  (domSt_foldl_off ..).trans (if_pos (List.mem_range.2 k.isLt))

theorem tallyClose_does {d : Dev} (hm : d.rd R.PW_LSTAT F.PW_LSTAT_mode = 4) (ho : d.tlOpen = true) : Does .tallyClose d d.tallyClosed := by
  have hgo : (decide (d.rd R.PW_LSTAT F.PW_LSTAT_mode ≠ 4) || !d.tlOpen) = false := by rw [hm, ho]; rfl
  exact fun _ => exec_next rfl (if_neg (Bool.eq_false_iff.1 hgo))

/-- After a close nothing is torn (R495). -/
theorem Dev.tallyOpen_closed {d : Dev} (torn : Nat) (ho : d.tlOpen = false) (hl : d.tl.lossy = false) (hc : d.tl.chunks < 256) :
    d.tallyOpen torn = (((d.wr R.TL_STAT F.TL_STAT_open 1).inc R.TL_LOST F.TL_LOST_torn 0).modTl (fun t => { t with lossy := true })).tallyTake
      { code := 0x0002, data := [b2n ((d.tl.nand.getLast?).map (fun e => bitsOf e.2.toNat 144 16) == some 0x0003), 0], time := d.now } := by
  have hgo : ¬ 256 ≤ ((d.wr R.TL_STAT F.TL_STAT_open 1).inc R.TL_LOST F.TL_LOST_torn 0).tl.chunks := by
    rw [Dev.inc_tl, Dev.wr_tl]
    omega
  simp only [Dev.tallyOpen, ho, hl, Bool.false_eq_true, if_false, if_true, if_neg hgo, Dev.modTl, Dev.inc_now, Dev.wr_now]

/-! ### Reading out -/

theorem smbRecordRead_does {d : Dev} {r : BitVec 512} (hu : d.smbUp = true) (h1 : d.tl.ptr.1 ≤ 1) (hr : d.tallyAt d.tl.ptr.1 d.tl.ptr.2 = some r) :
    Does .smbRecordRead d ((d.out (.smb (leBytes 64 r.toNat))).modTl (fun t => { t with ptr := (d.tl.ptr.1, (d.tl.ptr.2 + 1) % 2 ^ 32) })) := by
  refine fun _ => exec_next rfl ?_
  simp only [hu, Bool.not_true, Bool.false_eq_true, if_false, if_pos h1, hr]

/-! ### The test access port -/

theorem Dev.nonceEnd_fails (d : Dev) : d.nonceEnd.rd R.DB_STAT F.DB_STAT_fail_cnt = d.rd R.DB_STAT F.DB_STAT_fail_cnt :=
  have h : ((d.modDb (fun x => { x with nonce := none })).wr R.DB_STAT F.DB_STAT_nonce 0).rd R.DB_STAT F.DB_STAT_fail_cnt
      = (d.modDb (fun x => { x with nonce := none })).rd R.DB_STAT F.DB_STAT_fail_cnt := Dev.rd_wr_beside _ _ _ _ (by decide) (by decide)
  h

theorem Dev.unlockTry_verified {d : Dev} (hn : d.nonceStands = true) (hb : d.unlockBarred = false) :
    (d.unlockTry true).2 = (d.nonceEnd.wr R.DB_STAT F.DB_STAT_unlocked 1).tally 0x1201 0 [1] := by
  simp only [Dev.unlockTry, hn, hb, Bool.true_and, Bool.false_eq_true, if_false, if_true]

theorem Dev.unlockTry_failed {d : Dev} (hb : d.unlockBarred = false) :
    (d.unlockTry false).2 = d.nonceEnd.wr R.DB_STAT F.DB_STAT_fail_cnt (d.rd R.DB_STAT F.DB_STAT_fail_cnt + 1) := by
  simp only [Dev.unlockTry, hb, Bool.false_and, Bool.false_eq_true, if_false, Dev.nonceEnd_fails]

/-- The outputs of J3 follow the boundary register. -/
def Dev.drive (d : Dev) (v : BitVec 14) : Dev := scanPins.foldl (fun d e => d.out (.pin e.2 (bitAt v.toNat e.1))) d

theorem Dev.drive_db (d : Dev) (v : BitVec 14) : (d.drive v).db = d.db :=
  foldl_keeps (f := fun (d : Dev) (e : Nat × Nat) => d.out (.pin e.2 (bitAt v.toNat e.1))) (fun e : Dev => e.db) (fun _ _ => Dev.out_db ..) _ d

theorem Dev.setIr_ir (d : Dev) (ir : Nat) : (d.setIr ir).db.ir = ir := by
  rw [Dev.setIr]
  split
  · exact congrArg Debug.ir (foldl_keeps (f := fun (d : Dev) (e : Nat × Nat) => d.out (.pin e.2 (d.ownLevel e.1))) (fun e : Dev => e.db)
      (fun _ _ => Dev.out_db ..) _ _)
  · rfl

/-- SAMPLE_PRELOAD: the pins as they stand are shifted out, and the boundary register takes what is shifted in (R500). -/
def Dev.sampled (d : Dev) (pins load : BitVec 14) : Dev :=
  ((d.setIr 2).modDb (fun x => { x with boundary := load })).out
    (.tdo ((List.range 14).map (fun i => if [2, 3, 4, 5, 10, 13].contains i then d.ownLevel i else bitAt pins.toNat i)))

/-- EXTEST of an unlocked device: the outputs follow the boundary register as it stands and then as shifted in (R500). -/
def Dev.scanDriven (d : Dev) (load : BitVec 14) : Dev :=
  (((d.modDb (fun x => { x with ir := 0, extest := false })).drive d.db.boundary).drive load).modDb (fun x => { x with boundary := load, extest := true })

theorem Dev.scanDriven_ir (d : Dev) (load : BitVec 14) : (d.scanDriven load).db.ir = 0 := by
  have h (e : Dev) : (e.modDb (fun x => { x with boundary := load, extest := true })).db.ir = e.db.ir := rfl
  rw [Dev.scanDriven, h, Dev.drive_db, Dev.drive_db]
  rfl

/-- EXTEST while debug is locked acts as BYPASS, and drives the pins while it is not. -/
theorem extest_locked {d : Dev} {load : BitVec 14} (h : d.on R.DB_STAT F.DB_STAT_unlocked = false) :
    Does (.extest load) d ((d.setIr 0xFF).bypassShift (bitsOut 14 load.toNat)) := by
  have hgo : (!d.on R.DB_STAT F.DB_STAT_unlocked) = true := by rw [h]; rfl
  exact fun _ => exec_next rfl (if_pos hgo)

theorem extest_unlocked {d : Dev} {load : BitVec 14} (h : d.on R.DB_STAT F.DB_STAT_unlocked = true) :
    Does (.extest load) d ((d.scanDriven load).out (.tdo ((List.range 14).map (fun i => bitAt d.db.boundary.toNat i)))) := by
  have hgo : (!d.on R.DB_STAT F.DB_STAT_unlocked) = false := by rw [h]; rfl
  exact fun _ => exec_next rfl (if_neg (Bool.eq_false_iff.1 hgo))

theorem dbacc_refused {d : Dev} {off : Fin 67108864} {data : Word32} (h : (d.setIr 0x20).on R.DB_STAT F.DB_STAT_unlocked = false)
    (hb : blockOf off = 0x13) : Does (.dbacc true off data) d ((d.setIr 0x20).inc R.DB_STAT F.DB_STAT_ref_cnt) := by
  have hgo : (!(d.setIr 0x20).on R.DB_STAT F.DB_STAT_unlocked && decide (blockOf off = 0x13)) = true := by rw [h, hb]; rfl
  exact fun _ => exec_next rfl ((if_pos rfl).trans (if_pos hgo))

theorem dbacc_unlocked {d : Dev} {off : Fin 67108864} {data : Word32} (h : (d.setIr 0x20).on R.DB_STAT F.DB_STAT_unlocked = true) :
    Does (.dbacc true off data) d ((d.setIr 0x20).busWrite .tap off 4 (BitVec.ofNat 64 data.toNat) false) := by
  have hgo : (!(d.setIr 0x20).on R.DB_STAT F.DB_STAT_unlocked && decide (blockOf off = 0x13)) = false := by rw [h]; rfl
  exact fun _ => exec_next rfl ((if_pos rfl).trans (if_neg (Bool.eq_false_iff.1 hgo)))

/-- Settles O40: every command by its branch. -/
theorem tallyAndTap : Obligations.TallyAndTap := by
  refine ⟨?recorder, ?port⟩
  case recorder =>
    intro d code b erase torn area index
    refine ⟨?record, fun c t => tallyCredit_one, fun _ => rfl, ?suppressed, chunkProgram_does, ?chunk, ?first, ?pool,
      fun hm ho => ⟨_, tallyClose_does hm ho, d.tallyClosed_open, d.tallyClosed_domSt⟩, ?opens, ?anew, ?smb⟩
    case record =>
      intro r rest ht ho u
      exact ⟨tallyRecord_does ht ho, fun hp hc q => (tallyRecord_does ht ho q).trans (by rw [Dev.tallyArrive_of_protected _ hp hc])⟩
    case suppressed =>
      exact fun n f l hs hp ho _ => exec_next rfl ((if_pos ho).trans (Dev.suppEnd_passed hs hp))
    case chunk =>
      intro x rest ho hq hr h0 h255 hl stop q
      refine (chunkProgram_does ho q).trans ?_
      rw [Dev.tlChunk_all hq hr h0 h255, Dev.tlOverflow_of_none]
      exact hl
    case first =>
      exact fun ho hb h8 h71 _ => exec_next rfl ((if_neg (Bool.eq_false_iff.1 (blockFresh ho hb h8))).trans (if_pos h71))
    case pool =>
      intro ho hb h71 hbl q
      have h8 : 8 ≤ b.val := by omega
      exact exec_next rfl ((if_neg (Bool.eq_false_iff.1 (blockFresh ho hb h8))).trans
        ((if_neg (Nat.not_le.2 h71)).trans (if_neg (not_not_intro hbl))))
    case opens => exact fun h _ => exec_next rfl (if_neg (not_not_intro h))
    case anew =>
      intro h ho hl hc last q
      exact exec_next rfl ((if_neg (not_not_intro h)).trans (Dev.tallyOpen_closed torn ho hl hc))
    case smb =>
      intro hu
      have hgo : (!d.smbUp) = false := by rw [hu]; rfl
      exact ⟨fun _ => exec_next rfl (if_neg (Bool.eq_false_iff.1 hgo)), fun _ => exec_next rfl (if_pos hu),
        fun r h1 hr => smbRecordRead_does hu h1 hr, fun _ => exec_next rfl (if_neg (Bool.eq_false_iff.1 hgo))⟩
  case port =>
    intro d tdi pins load ok off data shifted unlocked
    refine ⟨fun _ => rfl, fun _ => rfl, ⟨d.sampled pins load, fun _ => rfl, ?boundary, ?ir, Dev.out_regs ..⟩, extest_locked, ?driven, fun _ => rfl, fun _ => rfl, ?unlock,
      fun _ => rfl, fun _ => rfl, dbacc_refused, dbacc_unlocked, ?expiry, fun _ => rfl⟩
    case boundary => rw [Dev.sampled, Dev.out_db]; rfl
    case ir => rw [Dev.sampled, Dev.out_db]; exact Dev.setIr_ir ..
    case driven =>
      exact fun h => ⟨_, extest_unlocked h, by rw [Dev.out_db]; rfl, by rw [Dev.out_db]; rfl, by rw [Dev.out_db]; exact d.scanDriven_ir load,
        List.mem_append_right _ (List.mem_singleton.2 rfl)⟩
    case unlock =>
      intro u hn hb
      exact ⟨fun _ => exec_next rfl (Dev.unlockTry_verified hn hb), fun _ => exec_next rfl (Dev.unlockTry_failed hb)⟩
    case expiry =>
      exact fun h _ => exec_next rfl (if_neg (Bool.eq_false_iff.1 h))

end Sys2Proof.Machine
end

/-! ## The host link, its functions and its queue pairs (R341 to R358) -/
section
namespace Sys2Proof.Machine

/-! ### What the release of cells leaves of the host's state -/

theorem Dev.markLow_hi (d : Dev) (r : Reg) (f : Fld) (x : Nat) : (d.markLow r f x).hi = d.hi := by
  rw [Dev.markLow]
  split <;> rfl

theorem Dev.sendPause_hi (d : Dev) (row : Nat) (on : Bool) : (d.sendPause row on).hi = d.hi := by
  refine foldl_keeps (f := fun (d : Dev) (o : Out) => match o with | .pause p _ _ => (d.out o).stat p 8 | _ => d) (fun e : Dev => e.hi) ?_ _ d
  intro e o
  split
  · exact Dev.out_hi ..
  · rfl

theorem Dev.pauseCheck_hi (d : Dev) (row : Nat) : (d.pauseCheck row).hi = d.hi := by
  simp only [Dev.pauseCheck]
  split
  · rfl
  · split
    · exact Dev.sendPause_hi ..
    · split
      · exact Dev.sendPause_hi ..
      · rfl

theorem Dev.setRow_hi (d : Dev) (row free resv : Nat) : (d.setRow row free resv).hi = d.hi := by
  rw [Dev.setRow, Dev.pauseCheck_hi]
  exact (Dev.markLow_hi ..).trans ((Dev.wr_hi ..).trans (Dev.markLow_hi ..))

theorem Dev.push_hi (d : Dev) (row c : Nat) : (d.push row c).hi = d.hi := Dev.setRow_hi ..

theorem Dev.pushAll_hi (row : Nat) (l : List Nat) (d : Dev) : (d.pushAll row l).hi = d.hi := by
  induction l generalizing d with
  | nil => rfl
  | cons c rest ih => exact (ih _).trans (Dev.push_hi ..)

theorem Dev.useQuota_hi (d : Dev) (tag row add sub : Nat) : (d.useQuota tag row add sub).hi = d.hi := by
  rw [Dev.useQuota]
  split <;> rfl

theorem Dev.prevDrain_hi (d : Dev) : d.prevDrain.hi = d.hi := by
  rw [Dev.prevDrain]
  split <;> rfl

theorem Dev.prevLess_hi (d : Dev) (c : Prop) [Decidable c] (x : Nat) :
    (if c then (d.wr R.AS_RVER F.AS_RVER_prev_cnt x).prevDrain else d).hi = d.hi := by
  split
  · exact Dev.prevDrain_hi _
  · rfl

theorem Dev.tubEnd_hi (d : Dev) (h : Nat) : (d.tubEnd h).hi = d.hi := by
  rw [Dev.tubEnd]
  split
  · rfl
  · exact Dev.prevLess_hi _ _ _

theorem Dev.freeChain_hi (d : Dev) (ptr : Nat) : (d.freeChain ptr).hi = d.hi := by
  simp only [Dev.freeChain]
  split
  · exact (Dev.tubEnd_hi ..).trans ((Dev.pushAll_hi ..).trans (Dev.useQuota_hi ..))
  · exact (Dev.pushAll_hi ..).trans (Dev.useQuota_hi ..)

theorem Dev.binRefuse_hi (d : Dev) (f : Fld) (req tag ptr : Nat) : (d.binRefuse f req tag ptr).hi = d.hi := Dev.inc_hi ..

theorem Dev.dropref_hi (d : Dev) (ptr : Nat) : (d.dropref ptr).hi = d.hi := by
  simp only [Dev.dropref]
  split
  · exact Dev.binRefuse_hi ..
  · split
    · exact Dev.binRefuse_hi ..
    · split
      · exact Dev.binRefuse_hi ..
      · split
        · exact Dev.freeChain_hi ..
        · rfl

theorem Dev.descEnd_hi (d : Dev) (x : Desc) : (d.descEnd x).hi = d.hi := Dev.dropref_hi ..

theorem Dev.descEnds_hi (l : List Desc) (d : Dev) : (d.descEnds l).hi = d.hi := by
  induction l generalizing d with
  | nil => rfl
  | cons x rest ih => exact (ih _).trans (Dev.descEnd_hi ..)

theorem Dev.freeHostQ_hi (d : Dev) (q : Nat) (f : Fld) : (d.freeHostQ q f).hi = d.hi := (Dev.inc_hi ..).trans (Dev.descEnds_hi ..)

theorem Dev.dropHeld_hi (d : Dev) (p : Nat → Bool) : (d.dropHeld p).hi = d.hi := by
  refine foldl_keeps (f := fun (d : Dev) (e : Nat × Frame) =>
    let d := match e.2.cell with | some c => d.freeChain c | none => d
    ({ d with frames := d.frames.del e.1 } : Dev)) (fun e : Dev => e.hi) ?_ _ d
  intro e x
  dsimp only
  split
  · exact Dev.freeChain_hi ..
  · rfl

theorem Dev.msix_hi (d : Dev) (fn e : Nat) : (d.msix fn e).hi = d.hi := by
  rw [Dev.msix]
  split
  · rfl
  · split
    · rfl
    · exact Dev.out_hi ..

theorem Dev.queueError_hi (d : Dev) (q : Nat) (tx : Bool) : (d.queueError q tx).hi = d.hi := by
  rw [Dev.queueError, Dev.msix_hi, Dev.tally_hi, Dev.inc_hi]
  cases tx with
  | false => exact Dev.freeHostQ_hi ..
  | true => exact Dev.dropHeld_hi ..

/-! ### The link and the functions -/

/-- The host's state as PERST_N is asserted (R358). -/
def Dev.perstDown (d : Dev) : Dev :=
  let d := d.wr R.HI_LINK F.HI_LINK_up 0
  { d with hi := { perst := true, bar2 := some (d.rget R.HI_BAR2) } }

theorem Dev.perstDown_up (d : Dev) : d.perstDown.rd R.HI_LINK F.HI_LINK_up = 0 :=
  have h : d.perstDown.rget R.HI_LINK = (d.wr R.HI_LINK F.HI_LINK_up 0).rget R.HI_LINK := Dev.rget_of_regs rfl _
  (congrArg F.HI_LINK_up.get h).trans (Dev.rd_wr_self _ _ _ _ (by decide))

theorem Dev.perstDown_hi (d : Dev) :
    d.perstDown.hi = { perst := true, bar2 := some ((d.wr R.HI_LINK F.HI_LINK_up 0).rget R.HI_BAR2) } := rfl

theorem Dev.linkRate_up (d : Dev) (sp w fl : Nat) :
    (((d.wr R.HI_LINK F.HI_LINK_speed sp).wr R.HI_LINK F.HI_LINK_width w).wr R.HI_LINK F.HI_LINK_flit fl).rd R.HI_LINK F.HI_LINK_up
      = d.rd R.HI_LINK F.HI_LINK_up :=
  (Dev.rd_wr_beside _ _ _ _ (by decide) (by decide)).trans ((Dev.rd_wr_beside _ _ _ _ (by decide) (by decide)).trans
    (Dev.rd_wr_beside _ _ _ _ (by decide) (by decide)))

theorem Dev.lullLink_up (d : Dev) : d.lullLink.rd R.HI_LINK F.HI_LINK_up = d.rd R.HI_LINK F.HI_LINK_up := by
  rw [Dev.lullLink]
  split
  · rfl
  · have h (e : Dev) (x y : Nat) : ((e.wr R.HI_LINK F.HI_LINK_speed x).wr R.HI_LINK F.HI_LINK_width y).rd R.HI_LINK F.HI_LINK_up
        = e.rd R.HI_LINK F.HI_LINK_up :=
      (Dev.rd_wr_beside _ _ _ _ (by decide) (by decide)).trans (Dev.rd_wr_beside _ _ _ _ (by decide) (by decide))
    exact h d _ _

theorem Dev.lullLink_hi (d : Dev) : d.lullLink.hi = d.hi := by
  rw [Dev.lullLink]
  split <;> rfl

theorem Dev.lullLink_mem' (d : Dev) : d.lullLink.mem = d.mem := by
  rw [Dev.lullLink]
  split <;> rfl

/-- The link comes up at the rate and the width that its partner settles (R340). -/
def Dev.linkUp (d : Dev) (sp w fl : Nat) : Dev :=
  ((((d.modHi (fun h => { h with perst := false })).wr R.HI_LINK F.HI_LINK_up 1).wr R.HI_LINK F.HI_LINK_speed (sp % 7 + 1)).wr R.HI_LINK F.HI_LINK_width
    (2 ^ (w % 5))).wr R.HI_LINK F.HI_LINK_flit (if 6 ≤ sp % 7 + 1 then 1 else fl)

theorem Dev.linkUp_up (d : Dev) (sp w fl : Nat) : (d.linkUp sp w fl).rd R.HI_LINK F.HI_LINK_up = 1 := by
  rw [Dev.linkUp, Dev.linkRate_up]
  exact Dev.rd_wr_self _ _ _ _ (by decide)

/-- What follows the link's return: its rate in Lull, and the event of a device at READY. -/
def Dev.linkTold (d : Dev) : Dev :=
  let d := if d.lull then d.lullLink else d
  if d.devState = 1 then d.event 0x00 0 ((d.rget R.SY_IDENT).toNat % 65536) else d

theorem Dev.linkTold_keeps (d : Dev) : d.linkTold.hi = d.hi ∧ d.linkTold.rd R.HI_LINK F.HI_LINK_up = d.rd R.HI_LINK F.HI_LINK_up ∧ d.linkTold.mem = d.mem := by
  have hevent (e : Dev) (c : Prop) [Decidable c] (x : Nat) : (if c then e.event 0x00 0 x else e).hi = e.hi ∧
      (if c then e.event 0x00 0 x else e).rd R.HI_LINK F.HI_LINK_up = e.rd R.HI_LINK F.HI_LINK_up ∧ (if c then e.event 0x00 0 x else e).mem = e.mem := by
    split <;> exact ⟨rfl, rfl, rfl⟩
  simp only [Dev.linkTold]
  split
  · obtain ⟨hh, hr, hm⟩ := hevent d.lullLink (d.lullLink.devState = 1) ((d.lullLink.rget R.SY_IDENT).toNat % 65536)
    exact ⟨hh.trans (Dev.lullLink_hi _), hr.trans (Dev.lullLink_up _), hm.trans (Dev.lullLink_mem' _)⟩
  · exact hevent d (d.devState = 1) ((d.rget R.SY_IDENT).toNat % 65536)

/-- PERST_N is released (R358). -/
def Dev.perstFree (d : Dev) : Dev :=
  ((d.fresh 3).2.fresh 3).2.fresh 1 |>.2.linkUp (d.fresh 3).1 ((d.fresh 3).2.fresh 3).1 (((d.fresh 3).2.fresh 3).2.fresh 1).1 |>.linkTold

theorem perstNRelease_does {d : Dev} (h : d.hi.perst = true) : Does .perstNRelease d d.perstFree := by
  have hgo : (!d.hi.perst) = false := by rw [h]; rfl
  exact fun _ => exec_next rfl (if_neg (Bool.eq_false_iff.1 hgo))

/-- The streams of a function whose keys fail (R357). -/
def Dev.ideFailed (d : Dev) (fn : Nat) : Dev :=
  let d := (d.modHi (fun h => { h with ide := h.ide.set 0 fn 2 })).out (.completion fn 2)
  ((List.range 1024).filter (fun q => d.pairAsg q && d.pairFn q == fn)).foldl (fun d q =>
    let d := if d.txSt q = 0 || d.txSt q = 4 then d else d.queueError q true
    if d.rxSt q = 0 || d.rxSt q = 4 then d else d.queueError q false) d

theorem Dev.queueErrorIf_hi (d : Dev) (q : Nat) (tx : Bool) (c : Prop) [Decidable c] : (if c then d else d.queueError q tx).hi = d.hi := by
  split
  · rfl
  · exact Dev.queueError_hi ..

theorem Dev.ideFailed_ide (d : Dev) (fn : Nat) : (d.ideFailed fn).hi.ide.get 0 fn = 2 := by
  have hfold (l : List Nat) (e : Dev) : (l.foldl (fun d q =>
      let d := if d.txSt q = 0 || d.txSt q = 4 then d else d.queueError q true
      if d.rxSt q = 0 || d.rxSt q = 4 then d else d.queueError q false) e).hi = e.hi :=
    foldl_keeps (f := fun (d : Dev) q =>
      let d := if d.txSt q = 0 || d.txSt q = 4 then d else d.queueError q true
      if d.rxSt q = 0 || d.rxSt q = 4 then d else d.queueError q false) (fun e : Dev => e.hi)
      (fun e q => (Dev.queueErrorIf_hi _ q false _).trans (Dev.queueErrorIf_hi e q true _)) l e
  rw [Dev.ideFailed, hfold, Dev.out_hi]
  exact Tab.get_set_self ..

theorem ideIntegrityFail_does {d : Dev} {fn : Fin 64} (h : d.hi.ide.get 0 fn = 1) : Does (.ideIntegrityFail fn) d (d.ideFailed fn) :=
  fun _ => exec_next rfl (if_neg (not_not_intro h))

/-- No frame waits for a pair: a change of the functions frees none (R352). -/
theorem Dev.foldl_noneFreed (l : List Nat) (d : Dev) (h : ∀ q ∈ l, d.pqQ (hostKey q) = []) :
    l.foldl (fun d q => if (d.pqQ (hostKey q)).isEmpty || d.pairDma q then d else d.freeHostQ q F.HI_QSTAT_rx_drop) d = d := by
  induction l with
  | nil => rfl
  | cons q rest ih =>
    have hgo : ((d.pqQ (hostKey q)).isEmpty || d.pairDma q) = true := by rw [h q List.mem_cons_self]; rfl
    rw [List.foldl_cons, if_pos hgo]
    exact ih (fun j hj => h j (List.mem_cons_of_mem _ hj))

/-! ### BAR2 -/

/-- A read or a write of BAR2 that the window holds. -/
theorem bar2_reached {d : Dev} {off n : Nat} {data : Option (List Byte)} {ide : Bool} (hp : d.hi.perst = false)
    (hn : data = none ∨ ∃ bs, data = some bs ∧ bs.length = n) (hw : off + n ≤ 2 ^ F.HI_BAR2_size_log2.get d.bar2)
    (hi : d.ideRefused 0 ide = false) : Does (.bar2Access off n data false ide) d
      (if 2 ^ 37 < F.HI_BAR2_base.get d.bar2 * 2 ^ 30 + off + n then d.bar2Refuse data.isNone 0 else d.bar2Seam (F.HI_BAR2_base.get d.bar2 * 2 ^ 30 + off) n data) := by
  have hgo : (d.hi.perst || decide (2 ^ F.HI_BAR2_size_log2.get d.bar2 < off + n)) = false := by
    rw [hp, decide_eq_false (Nat.not_lt.2 hw)]
    rfl
  refine fun _ => exec_next rfl ?_
  rcases hn with rfl | ⟨bs, rfl, rfl⟩ <;> exact (if_neg (Bool.eq_false_iff.1 hgo)).trans ((if_neg (Bool.eq_false_iff.1 hi)).trans (if_neg Bool.false_ne_true))

/-! ### Queue pairs -/

/-- A transmit frame takes all of its cells (R348). -/
theorem Dev.txCells_taken {d u v : Dev} {h c : Nat} {g : Frame} (hf : d.frames.find h = some g)
    (hr : d.reserve 8 (tagHost g.txQp) ((g.data.length + 255) / 256) true = (true, u))
    (ht : u.takeChain 8 (tagHost g.txQp) ((g.data.length + 255) / 256) none = (some c, v)) :
    d.txCells h = (v.fillCells 8 (v.chainOf c) g.data).setFrame h
      { g with stage := .wire, cell := some c, stored := g.data.length, pipe := (v.fillCells 8 (v.chainOf c) g.data).txPipe g.txQp } := by
  simp only [Dev.txCells, hf, hr, ht]

theorem txRetry_does {d : Dev} {q : Fin 1024} {h : Nat} {x : Frame} (hw : d.hi.tried.get 0 q + usU 1 / 10 ≤ d.now)
    (hf : d.frames.find? (fun e => e.2.inPort == 32 && e.2.stage == .held && e.2.txQp == q.val) = some (h, x)) :
    Does (.txRetry q) d (d.txCells h) := by
  refine fun _ => exec_next rfl ?_
  simp only [hf, if_neg (Nat.not_lt.2 hw)]

theorem txDoor_running {d : Dev} {fn i tail k : Nat} (hk : d.pairAt fn i = some k) (he : d.on (R.HI_QCFG k) F.HI_QCFG_tx_en = true) :
    d.txDoor fn fn i tail true = d.wr (R.HI_QIDX k) F.HI_QIDX_tx_tail (tail % d.txSize k) := by
  simp only [Dev.txDoor, ne_eq, not_true_eq_false, decide_false, Bool.not_true, Bool.or_self, Bool.false_eq_true, if_false, hk, he]

/-- A running direction keeps its state as its tail moves on. -/
theorem rxDoor_running {d : Dev} {fn i tail k : Nat} (hk : d.pairAt fn i = some k) (he : d.on (R.HI_QCFG k) F.HI_QCFG_rx_en = true)
    (hs : d.rxSt k = 1) : d.rxDoor fn fn i tail true =
      { d.wr (R.HI_QIDX k) F.HI_QIDX_rx_tail (tail % d.rxSize k) with
        bn := { d.bn with posted := d.bn.posted.set 0 k ((d.wr (R.HI_QIDX k) F.HI_QIDX_rx_tail (tail % d.rxSize k)).rxPosted k) } } := by
  have hst : ∀ b : Bin, ({ d.wr (R.HI_QIDX k) F.HI_QIDX_rx_tail (tail % d.rxSize k) with bn := b } : Dev).rxSt k = 1 := fun b =>
    (congrArg F.HI_QSTAT_rx_state.get ((Dev.rget_of_regs rfl _).trans (Dev.rget_wr_other _ _ _ _ (by simp only [R.HI_QSTAT, R.HI_QIDX]; omega)))).trans hs
  simp only [Dev.rxDoor, ne_eq, not_true_eq_false, decide_false, Bool.not_true, Bool.or_self, Bool.false_eq_true, if_false, hk, he]
  split
  next h2 _ => exact absurd ((hst _).symm.trans h2) (by decide)
  next h3 => exact absurd ((hst _).symm.trans h3) (by decide)
  next => rfl

/-- The ring of a pair after a frame: its head moves on, and the frame is counted (R350, R354). -/
def Dev.rxDone (d : Dev) (k : Nat) (x : Desc) (waits head : Nat) : Dev :=
  let d := d.wr (R.HI_QIDX k) F.HI_QIDX_rx_head head
  let d := { d with bn := { d.bn with posted := d.bn.posted.set 0 k (d.rxPosted k) } }
  (((d.descEnd x).inc (R.HI_QCNT k) F.HI_QCNT_rx_frames).completed k).hostHead k waits

/-- A frame goes into the buffers of a pair's descriptors, and they are written back (R349). -/
def Dev.hostPut (d : Dev) (k : Nat) (x : Desc) (waits : Nat) (addrs : List (BitVec 64)) (bs : List Byte) : Dev :=
  let n := d.rxNeed k x
  let i := d.rd (R.HI_QIDX k) F.HI_QIDX_rx_head % d.rxSize k
  let w := rxWrites x (d.rxBuf k) (d.relaxes k) true n bs addrs ((List.range n).map (fun j => d.rxAddr k ((i + j) % d.rxSize k)))
  ((w.1 ++ w.2).foldl Dev.out d).rxDone k x waits ((i + n) % ((w.1 ++ w.2).foldl Dev.out d).rxSize k)

theorem Dev.foldl_out_rxSize (k : Nat) (l : List Out) (d : Dev) : (l.foldl Dev.out d).rxSize k = d.rxSize k :=
  foldl_keeps (f := Dev.out) (fun e : Dev => e.rxSize k)
    (fun e o => congrArg (fun v => ringSize (F.HI_QCFG_rx_size.get v)) (Dev.rget_of_regs (Dev.out_regs e o) (R.HI_QCFG k))) l d

theorem txReady {d : Dev} {q : Nat} {busy : Bool} (hd : d.pairDma q = true) (hs : d.txSt q = 1) (hp : d.txPosted q ≠ 0)
    (hb : busy = false) : (!d.pairDma q || decide (d.txSt q ≠ 1) || decide (d.txPosted q = 0) || busy) = false := by
  rw [hd, hs, hb, decide_eq_false hp]
  rfl

/-- Settles O41: every command by its branch. -/
theorem hostLinkAndQueues : Obligations.HostLinkAndQueues := by
  refine ⟨?link, ?queues⟩
  case link =>
    intro d fn e off n ide a
    refine ⟨⟨d.perstClear.perstDown, fun _ => rfl, Dev.perstDown_hi _, Dev.perstDown_up _⟩,
      fun h => ⟨d.perstFree, perstNRelease_does h, ?hi, ?up, ?mem⟩, fun h _ => exec_next rfl (if_pos h),
      fun h => ⟨_, ideIntegrityFail_does h, d.ideFailed_ide fn⟩, ?unmask, ?bar2, ?km, ?config, ?read, ?beyond⟩
    case hi => exact (Dev.linkTold_keeps _).1
    case up => exact (Dev.linkTold_keeps _).2.1.trans (Dev.linkUp_up ..)
    case mem => exact (Dev.linkTold_keeps _).2.2
    case unmask =>
      intro hp hf he
      have hgo : (d.hi.perst || !d.fnExists fn || decide (msixSize fn ≤ e.val)) = false := by
        rw [hp, hf, decide_eq_false (Nat.not_le.2 he)]
        rfl
      exact fun _ => exec_next rfl (if_neg (Bool.eq_false_iff.1 hgo))
    case bar2 =>
      intro u hp hw hi ha
      refine ⟨fun bs hr q => (bar2_reached hp (.inl rfl) hw hi q).trans ?_, fun bs hn hr q => (bar2_reached hp (.inr ⟨bs, rfl, hn⟩) hw hi q).trans ?_⟩
      · rw [if_neg (Nat.not_lt.2 ha), Dev.bar2Seam, hr]
      · rw [if_neg (Nat.not_lt.2 ha), Dev.bar2Seam, hr]
        rfl
    case km =>
      intro hp hf
      have hgo : (d.hi.perst || !d.fnExists fn) = false := by rw [hp, hf]; rfl
      exact fun _ => exec_next rfl (if_neg (Bool.eq_false_iff.1 hgo))
    case config =>
      intro hp hf hq
      have hgo : (d.hi.perst || !d.fnExists fn) = false := by rw [hp, hf]; rfl
      exact fun _ => exec_next rfl ((if_neg (Bool.eq_false_iff.1 hgo)).trans
        (Dev.foldl_noneFreed _ _ (fun q h => hq ⟨q, List.mem_range.1 h⟩)))
    case read =>
      exact fun hp hw hi ha q => (bar2_reached hp (.inl rfl) hw hi q).trans (by rw [if_neg (Nat.not_lt.2 ha)])
    case beyond =>
      exact fun hp hw hi ha q => (bar2_reached hp (.inl rfl) hw hi q).trans (by rw [if_pos ha]; rfl)
  case queues =>
    intro d by_ fn i tail wide ide tx q desc data addrs low len busy takes body f n
    refine ⟨fun h => ⟨fun _ => exec_next rfl (if_pos h), fun _ => exec_next rfl (if_pos h)⟩,
      fun k h hk he _ => exec_next rfl ((if_pos h).trans (txDoor_running hk he)),
      fun k h hk he hs _ => exec_next rfl ((if_pos h).trans (rxDoor_running hk he hs)), ?frame, ?length, ?retry, ?broken, ?deliver, ?watchdog, ?error,
      ?message, ?expiry⟩
    case frame => 
      rintro ⟨hd, hs, hp, hb⟩ h1 h2 qs
      have hgo : (decide (len = 0) || decide (16379 < len)) = false := by
        rw [decide_eq_false (Nat.pos_iff_ne_zero.1 h1), decide_eq_false (Nat.not_lt.2 h2)]
        rfl
      exact exec_next rfl ((if_neg (Bool.eq_false_iff.1 (txReady hd hs hp hb))).trans (if_neg (Bool.eq_false_iff.1 hgo)))
    case length => 
      rintro ⟨hd, hs, hp, hb⟩ hl qs
      have hgo : (decide (len = 0) || decide (16379 < len)) = true := by
        rw [Bool.or_eq_true, decide_eq_true_iff, decide_eq_true_iff]
        exact hl
      exact exec_next rfl ((if_neg (Bool.eq_false_iff.1 (txReady hd hs hp hb))).trans (if_pos hgo))
    case retry =>
      intro h x hw hf
      refine ⟨txRetry_does hw hf, ?_⟩
      intro g u v c hg hr ht w qs
      exact (txRetry_does hw hf qs).trans (by rw [Dev.txCells_taken hg hr ht])
    case broken =>
      intro k x rest hk hq hg u qs
      refine exec_next rfl ?_
      simp only [hk, hq, hg, Bool.not_false, if_true]
      rfl
    case deliver =>
      intro k x rest hk hq hg hl u h60 c j w v v' qs
      refine exec_next rfl ?_
      simp only [hk, hq, hg, Bool.not_true, Bool.false_eq_true, if_false, if_neg (Nat.not_lt.2 hl)]
      show (if (x.cut (u.mergedBytes x)).length < 60 then u.inc R.XC_LENERR F.XC_LENERR_short_pad else u).hostPut k x rest.length addrs
        (if (x.cut (u.mergedBytes x)).length < 60 then fit 60 (x.cut (u.mergedBytes x)) else x.cut (u.mergedBytes x)) = _
      rw [if_neg (Nat.not_lt.2 h60), if_neg (Nat.not_lt.2 h60), Dev.hostPut, Dev.foldl_out_rxSize]
      rfl
    case watchdog =>
      intro hs hd
      have hgo : (decide (d.rxSt q ≠ 2) || decide (d.now < d.hi.starved.get 0 q + msU ((d.rd R.HI_CFG F.HI_CFG_host_wd_ms).max 1))) = false := by
        rw [hs, decide_eq_false (Nat.not_lt.2 hd)]
        rfl
      exact fun _ => exec_next rfl (if_neg (Bool.eq_false_iff.1 hgo))
    case error =>
      intro h0 h4 hd
      have hgo : (decide ((if tx then d.txSt q else d.rxSt q) = 0) || decide ((if tx then d.txSt q else d.rxSt q) = 4) || !d.pairDma q) = false := by
        rw [decide_eq_false h0, decide_eq_false h4, hd]
        rfl
      exact fun _ => exec_next rfl (if_neg (Bool.eq_false_iff.1 hgo))
    case message =>
      intro h0 h1
      have hgo : (decide (n = 0) || (decide (n < (d.rd (R.HI_QITR q) F.HI_QITR_itr_cnt).max 1) && decide (d.rd (R.HI_QITR q) F.HI_QITR_itr_us ≠ 0))) = false := by
        rw [decide_eq_false h0, decide_eq_false (Nat.not_lt.2 h1)]
        rfl
      exact fun _ => exec_next rfl (if_neg (Bool.eq_false_iff.1 hgo))
    case expiry =>
      intro h0 h1
      have hgo : (decide (n = 0) || decide (d.now < d.hi.doneAt.get 0 q + usU (d.rd (R.HI_QITR q) F.HI_QITR_itr_us))) = false := by
        rw [decide_eq_false h0, decide_eq_false (Nat.not_lt.2 h1)]
        rfl
      exact fun _ => exec_next rfl (if_neg (Bool.eq_false_iff.1 hgo))

end Sys2Proof.Machine
end

/-! ## The map of registers: each stands at its own address, and outside the areas (R3, R507 to R510) -/
section
namespace Sys2Proof.Machine

/-! ### Strided places -/

/-- How far the places of a list of strides reach. -/
def spread : List (Nat × Nat) → Nat
  | [] => 0
  | (s, n) :: r => s * (n - 1) + spread r

/-- Inner strides stay within the outer ones. -/
def nested : List (Nat × Nat) → Bool
  | [] => true
  | (s, _) :: r => decide (spread r < s) && nested r

/-- Two families of places that share no address: one ends before the other begins, or both go by the same outer stride and
share none within it. -/
def apart (b c : Nat) : List (Nat × Nat) → List (Nat × Nat) → Bool
  | (s, n) :: r, (t, m) :: q =>
    decide (b + spread ((s, n) :: r) < c) || decide (c + spread ((t, m) :: q) < b)
      || decide (s = t) && decide (b - min b c + spread r < s) && decide (c - min b c + spread q < s) && apart b c r q
  | ds, es => decide (b + spread ds < c) || decide (c + spread es < b)

theorem le_spread {ds : List (Nat × Nat)} {o : Nat} {ix : List Nat} (h : instancesOf ds o = some ix) : o ≤ spread ds := by
  induction ds generalizing o ix with
  | nil =>
    simp only [instancesOf, Option.ite_none_right_eq_some] at h
    exact Nat.le_of_eq h.1
  | cons x r ih =>
    obtain ⟨s, n⟩ := x
    simp only [instancesOf, Option.ite_none_right_eq_some, Option.map_eq_some_iff] at h
    obtain ⟨hn, ix, hix, -⟩ := h
    have hin := ih hix
    have hout : s * (o / s) ≤ s * (n - 1) := Nat.mul_le_mul_left s (by omega)
    have := Nat.div_add_mod o s
    rw [spread]
    omega

/-- Two places a whole number of strides apart from one start, both within a stride of it, are one place. -/
theorem mod_add_eq {a b m s : Nat} (hm : m ≤ b) (hb : b ≤ a) (h : b - m + (a - b) % s < s) : (a - m) % s = b - m + (a - b) % s := by
  have hsum : a - m = s * ((a - b) / s) + (b - m + (a - b) % s) := by
    have := Nat.div_add_mod (a - b) s
    omega
  rw [hsum, Nat.mul_add_mod, Nat.mod_eq_of_lt h]

theorem apart_sound {b c : Nat} {ds es : List (Nat × Nat)} (h : apart b c ds es = true) {a : Nat} {ix jx : List Nat} (hb : b ≤ a) (hc : c ≤ a)
    (hi : instancesOf ds (a - b) = some ix) (hj : instancesOf es (a - c) = some jx) : False := by
  induction ds, es using apart.induct generalizing a ix jx with
  | case1 s n r t m q ih =>
    have hds := le_spread hi
    have hes := le_spread hj
    simp only [apart, Bool.or_eq_true, Bool.and_eq_true, decide_eq_true_eq] at h
    rcases h with (h | h) | ⟨⟨⟨rfl, hr⟩, hq⟩, hin⟩
    · omega
    · omega
    · simp only [instancesOf, Option.ite_none_right_eq_some, Option.map_eq_some_iff] at hi hj
      obtain ⟨-, ix, hi, -⟩ := hi
      obtain ⟨-, jx, hj, -⟩ := hj
      have hdi := le_spread hi
      have hdj := le_spread hj
      have hx := mod_add_eq (Nat.min_le_left b c) hb (by omega : b - min b c + (a - b) % s < s)
      have hy := mod_add_eq (Nat.min_le_right b c) hc (by omega : c - min b c + (a - c) % s < s)
      have hmb := Nat.min_le_left b c
      have hmc := Nat.min_le_right b c
      refine ih hin (a := b + (a - b) % s) (Nat.le_add_right ..) (by omega) (by rwa [Nat.add_sub_cancel_left]) (jx := jx) ?_
      rwa [show b + (a - b) % s - c = (a - c) % s by omega]
  | case2 ds es hne =>
    have hds := le_spread hi
    have hes := le_spread hj
    simp only [apart, Bool.or_eq_true, decide_eq_true_eq] at h
    omega

/-- The index of a copy is within the strides of its register. -/
def indexIn : List (Nat × Nat) → List Nat → Prop
  | [], ix => ix = []
  | (_, n) :: r, ix => ∃ i jx, ix = i :: jx ∧ i < n ∧ indexIn r jx

theorem instancesOf_of_indexIn {ds : List (Nat × Nat)} (hd : nested ds = true) {ix : List Nat} (h : indexIn ds ix) :
    instancesOf ds (strideAddr 0 ix 0 ds) = some ix := by
  induction ds generalizing ix with
  | nil =>
    subst h
    rfl
  | cons x r ih =>
    obtain ⟨s, n⟩ := x
    obtain ⟨i, jx, rfl, hin, hjx⟩ := h
    simp only [nested, Bool.and_eq_true, decide_eq_true_eq] at hd
    have hr := ih hd.2 hjx
    have hlt : strideAddr 0 jx 0 r < s := Nat.lt_of_le_of_lt (le_spread hr) hd.1
    have haddr : strideAddr 0 (i :: jx) 0 ((s, n) :: r) = s * i + strideAddr 0 jx 0 r := by
      rw [strideAddr, strideAddr_cons, List.getD_cons_zero, strideAddr_add, Nat.add_comm]
    have hdiv : (s * i + strideAddr 0 jx 0 r) / s = i := by
      rw [Nat.mul_add_div (by omega), Nat.div_eq_of_lt hlt, Nat.add_zero]
    rw [haddr, instancesOf, hdiv, if_pos hin, Nat.mul_add_mod, Nat.mod_eq_of_lt hlt, hr]
    rfl

/-! ### The registers of a block -/

/-- The registers of a block lie apart from each other, and inside the block. -/
def blockTidy (b : Nat) : Bool :=
  (blockRegs b).all (fun r => nested (regRow r).dims && decide (blockOf (regRow r).base = b)
    && decide (blockOf ((regRow r).base + spread (regRow r).dims) = b)
    && (blockRegs b).all (fun q => q = r || apart (regRow q).base (regRow r).base (regRow q).dims (regRow r).dims))

theorem blocks_tidy : (List.range 0x41).all blockTidy = true := by decide

theorem blockOf_between {lo hi a b : Nat} (hlo : blockOf lo = b) (hhi : blockOf hi = b) (hb : b ≠ 0x30) (h1 : lo ≤ a) (h2 : a ≤ hi) : blockOf a = b := by
  subst hlo
  simp only [blockOf, Bool.and_eq_true, decide_eq_true_eq] at *
  (repeat' split at *) <;> omega

/-- The block that a register belongs to. -/
def blockIx (id : RegId) : Nat := blockOf (regRow id).base

theorem blockIx_mem (id : RegId) : id ∈ blockRegs (blockIx id) ∧ blockIx id ∈ List.range 0x41 ∧ blockIx id ≠ 0x30 := by
  cases id <;> decide

section
variable {id : RegId} {ix : List Nat} (hix : indexIn (regRow id).dims ix)
include hix

theorem instancesOf_regOf : (regRow id).base ≤ (regOf id ix).addr
    ∧ instancesOf (regRow id).dims ((regOf id ix).addr - (regRow id).base) = some ix := by
  obtain ⟨hmem, hrange, -⟩ := blockIx_mem id
  have htidy := List.all_eq_true.1 (List.all_eq_true.1 blocks_tidy _ hrange) id hmem
  simp only [Bool.and_eq_true] at htidy
  have haddr : (regOf id ix).addr = strideAddr 0 ix 0 (regRow id).dims + (regRow id).base := by
    rw [regOf_addr, ← strideAddr_add, Nat.zero_add]
  rw [haddr, Nat.add_sub_cancel]
  exact ⟨Nat.le_add_left .., instancesOf_of_indexIn htidy.1.1.1 hix⟩

theorem blockOf_regOf : blockOf (regOf id ix).addr = blockIx id := by
  obtain ⟨hmem, hrange, hne⟩ := blockIx_mem id
  have htidy := List.all_eq_true.1 (List.all_eq_true.1 blocks_tidy _ hrange) id hmem
  simp only [Bool.and_eq_true, decide_eq_true_eq] at htidy
  obtain ⟨⟨⟨-, hlo⟩, hhi⟩, -⟩ := htidy
  obtain ⟨hbase, hi⟩ := instancesOf_regOf hix
  have := le_spread hi
  exact blockOf_between hlo hhi hne hbase (by omega)

/-- Every register is found at its own address (R3). -/
theorem findReg_regOf : findReg (regOf id ix).addr = some (id, ix) := by
  obtain ⟨hmem, hrange, -⟩ := blockIx_mem id
  have htidy := List.all_eq_true.1 (List.all_eq_true.1 blocks_tidy _ hrange) id hmem
  simp only [Bool.and_eq_true, List.all_eq_true, Bool.or_eq_true, decide_eq_true_eq] at htidy
  obtain ⟨-, hapart⟩ := htidy
  obtain ⟨hbase, hi⟩ := instancesOf_regOf hix
  have hself : (regRow id).instancesAt (regOf id ix).addr = some ix := by
    rw [RegRow.instancesAt, if_neg (Nat.not_lt.2 hbase)]
    exact hi
  have hother (q : RegId) (hq : q ∈ blockRegs (blockIx id)) (hne : q ≠ id) : (regRow q).instancesAt (regOf id ix).addr = none := by
    refine Option.eq_none_iff_forall_ne_some.2 fun jx hj => ?_
    simp only [RegRow.instancesAt, Option.ite_none_left_eq_some, Nat.not_lt] at hj
    exact apart_sound ((hapart q hq).resolve_left hne) hj.1 hbase hj.2 hi
  rw [findReg, blockOf_regOf hix]
  generalize blockRegs (blockIx id) = l at hmem hother
  induction l with
  | nil => cases hmem
  | cons q rest ih =>
    rw [List.findSome?_cons]
    by_cases hq : q = id
    · rw [hq, hself]
      rfl
    · rw [hother q List.mem_cons_self hq]
      exact ih (List.mem_of_ne_of_mem (Ne.symm hq) hmem) (fun p hp => hother p (List.mem_cons_of_mem _ hp))

end

/-! ### The areas lie apart from the registers -/

/-- The areas of BAR0: a start, and the strides of their bytes (R510). -/
def areaSpans : List (Nat × List (Nat × Nat)) :=
  [(0x302000, [(0x4000, 32), (1, 0x2000)]), (0x401000, [(1, 0xA0)]), (0x402000, [(1, 0x2000)]), (0x610000, [(1, 0x10000)]), (0x800700, [(1, 0xA0)]),
    (0xC20000, [(1, 0x10000)]), (0xD80000, [(1, 0x4100)]), (0xDC0000, [(1, 0x88)]), (0x2010000, [(0x80000, 26), (1, 0x10000)]),
    (0x2040000, [(0x80000, 26), (1, 0x40000)])]

theorem instancesOf_bytes {n o : Nat} (h : o < n) : instancesOf [(1, n)] o = some [o] := by
  simp only [instancesOf, Nat.div_one, if_pos h, Nat.mod_one, if_true, Option.map_some]

theorem instancesOf_rows {s m n o : Nat} (h : o / s < m) (hx : o % s < n) : instancesOf [(s, m), (1, n)] o = some [o / s, o % s] := by
  rw [instancesOf, if_pos h, instancesOf_bytes hx]
  rfl

theorem ite_ne_none {α : Type} {c : Prop} [Decidable c] {x y : Option α} (h : (if c then x else y) ≠ none) : c ∧ x ≠ none ∨ y ≠ none := by
  by_cases hc : c
  · exact .inl ⟨hc, by rwa [if_pos hc] at h⟩
  · exact .inr (by rwa [if_neg hc] at h)

/-- Where an area is, one of the spans reaches. -/
theorem areaOf_reach {a : Nat} (ha : a < 2 ^ 32) (h : areaOf a ≠ none) : ∃ x ∈ areaSpans, x.1 ≤ a ∧ ∃ ix, instancesOf x.2 (a - x.1) = some ix := by
  have hbytes (lo n : Nat) (hm : (lo, [(1, n)]) ∈ areaSpans) (h : lo ≤ a ∧ a < lo + n) :
      ∃ x ∈ areaSpans, x.1 ≤ a ∧ ∃ ix, instancesOf x.2 (a - x.1) = some ix := ⟨_, hm, h.1, _, instancesOf_bytes (by omega)⟩
  have hrows (lo s m n : Nat) (hm : (lo, [(s, m), (1, n)]) ∈ areaSpans) (h1 : lo ≤ a) (h2 : (a - lo) / s < m) (h3 : (a - lo) % s < n) :
      ∃ x ∈ areaSpans, x.1 ≤ a ∧ ∃ ix, instancesOf x.2 (a - x.1) = some ix := ⟨_, hm, h1, _, instancesOf_rows h2 h3⟩
  simp only [areaOf, Bool.and_eq_true, decide_eq_true_eq, if_neg (Nat.not_le.2 ha)] at h
  rcases ite_ne_none h with ⟨hin, h⟩ | h
  · rcases ite_ne_none h with ⟨ho, -⟩ | h
    · exact hrows 0x302000 0x4000 32 0x2000 (by decide) (by omega) (by omega) (by omega)
    · rcases ite_ne_none h with ⟨ho, -⟩ | h
      · exact hrows 0x302000 0x4000 32 0x2000 (by decide) (by omega) (by omega) (by omega)
      · contradiction
  rcases ite_ne_none h with ⟨hin, -⟩ | h
  · exact hbytes 0x401000 0xA0 (by decide) hin
  rcases ite_ne_none h with ⟨hin, -⟩ | h
  · exact hbytes 0x402000 0x2000 (by decide) hin
  rcases ite_ne_none h with ⟨hin, -⟩ | h
  · exact hbytes 0x610000 0x10000 (by decide) hin
  rcases ite_ne_none h with ⟨hin, -⟩ | h
  · exact hbytes 0x800700 0xA0 (by decide) hin
  rcases ite_ne_none h with ⟨hin, -⟩ | h
  · exact hbytes 0xC20000 0x10000 (by decide) hin
  rcases ite_ne_none h with ⟨hin, -⟩ | h
  · exact hbytes 0xD80000 0x4100 (by decide) hin
  rcases ite_ne_none h with ⟨hin, -⟩ | h
  · exact hbytes 0xDC0000 0x88 (by decide) hin
  rcases ite_ne_none h with ⟨hin, h⟩ | h
  · rcases ite_ne_none h with ⟨ho, -⟩ | h
    · exact hrows 0x2010000 0x80000 26 0x10000 (by decide) (by omega) (by omega) (by omega)
    · rcases ite_ne_none h with ⟨ho, -⟩ | h
      · exact hrows 0x2040000 0x80000 26 0x40000 (by decide) (by omega) (by omega) (by omega)
      · contradiction
  · contradiction

theorem blocks_off_areas : (List.range 0x40).all (fun b => (blockRegs b).all (fun r =>
    areaSpans.all (fun x => apart x.1 (regRow r).base x.2 (regRow r).dims))) = true := by decide

theorem areaOf_regOf {id : RegId} {ix : List Nat} (hix : indexIn (regRow id).dims ix) (hlow : (regOf id ix).addr < 2 ^ 32) :
    areaOf (regOf id ix).addr = none := by
  by_contra h
  obtain ⟨x, hx, hle, jx, hj⟩ := areaOf_reach hlow h
  obtain ⟨hmem, hrange, -⟩ := blockIx_mem id
  have hb : blockIx id ∈ List.range 0x40 := by
    rw [← blockOf_regOf hix, List.mem_range, blockOf, if_neg (Nat.not_le.2 hlow)]
    simp only [Bool.and_eq_true, decide_eq_true_eq]
    (repeat' split) <;> omega
  have hoff := List.all_eq_true.1 (List.all_eq_true.1 (List.all_eq_true.1 blocks_off_areas _ hb) id hmem) x hx
  obtain ⟨hbase, hi⟩ := instancesOf_regOf hix
  exact apart_sound hoff hle hbase hj hi

end Sys2Proof.Machine
end

/-! ## Accesses that land, areas and queue heads (R5, R10, R46, R149, R166, R256, R279, R362, R509) -/
section
namespace Sys2Proof.Machine

/-! ### A write or a read of a register at its address -/

theorem indexIn_none : indexIn [] [] := rfl

theorem indexIn_one {s n i : Nat} (h : i < n) : indexIn [(s, n)] [i] := ⟨i, [], rfl, h, rfl⟩

theorem indexIn_two {s n t m i j : Nat} (hi : i < n) (hj : j < m) : indexIn [(s, n), (t, m)] [i, j] := ⟨i, [j], rfl, hi, indexIn_one hj⟩

theorem indexIn_three {s n t m u l i j k : Nat} (hi : i < n) (hj : j < m) (hk : k < l) : indexIn [(s, n), (t, m), (u, l)] [i, j, k] :=
  ⟨i, [j, k], rfl, hi, indexIn_two hj hk⟩

section
variable {d : Dev} {src : Src} {id : RegId} {ix : List Nat} (hix : indexIn (regRow id).dims ix) (hb : blockIx id ≠ 0x40)
include hix hb

theorem regOf_addr_low : (regOf id ix).addr < 2 ^ 32 := by
  by_contra h
  exact hb ((blockOf_regOf hix).symm.trans (if_pos (Nat.not_lt.1 h)))

theorem areaOf_regOf_low : areaOf (regOf id ix).addr = none := areaOf_regOf hix (regOf_addr_low hix hb)

/-- A write that lands does what its register gives it (R3, R8). -/
theorem Dev.busWrite_lands (h : d.lands src (regOf id ix) = true) (hid : id ≠ .PT_TSDLY) (v : Word64) (pass : Bool) :
    d.busWrite src (regOf id ix).addr (regWidth id) v pass = if blockIx id = 0x20 then d.glWrite id ix (d.eff id ix v) src
      else d.regEffect id ix (d.rget (regOf id ix)) (d.eff id ix v) pass := by
  have hlow := regOf_addr_low hix hb
  simp only [Dev.lands, Dev.answers, Bool.and_eq_true, beq_iff_eq, Bool.not_eq_true', Bool.or_eq_true, decide_eq_true_eq] at h
  obtain ⟨⟨⟨hpath, hserved⟩, hlock⟩, hgrant⟩ := h
  rw [Dev.busWrite_served (findReg_regOf hix) (areaOf_regOf_low hix hb) hpath hserved,
    Dev.regWrite_lands hlock hid (.inl (hgrant.resolve_right (Nat.not_le.2 hlow))), blockOf_regOf hix]

/-- A register that answers a read shows its value, and does what a read of it does (R4, R6). -/
theorem Dev.busRead_answers (h : d.answers src (regOf id ix) = true) : d.busRead src (regOf id ix).addr (regWidth id) =
    (d.regRead id ix).2.out (.data (srcCode src) (BitVec.ofNat 64 ((d.regRead id ix).1 % 2 ^ (8 * regWidth id)))) := by
  simp only [Dev.answers, Bool.and_eq_true, beq_iff_eq] at h
  exact Dev.busRead_served (findReg_regOf hix) (areaOf_regOf_low hix hb) h.1 h.2

end

/-! ### Areas -/

section
variable {d : Dev} {src : Src} {a : Nat} {size : Nat} {v : Word64} {ar : Area} (hp : d.path src a = .go) (ha : areaOf a = some ar)
  (hs : d.served a = true) (hw : areaWidth ar a size = true) (hg : d.grantOk src = true ∨ ar.expert = false)
include hp ha hs hw hg

/-- A write that an area accepts does what the area gives it (R509). -/
theorem Dev.busWrite_area (pass : Bool) : d.busWrite src a size v pass = d.areaPut src ar a size v := by
  have hgo : (ar.expert && !d.grantOk src) = false := by
    rcases hg with h | h <;> rw [h]
    · exact Bool.and_false _
    · rfl
  simp only [Dev.busWrite, hp, ha, Dev.reachable_of_served hs, hw, Dev.wakeIsles_of_served hs, Dev.areaWrite, hgo, Bool.not_true, Bool.false_eq_true,
    if_false]

end

theorem areaWrite_does {d : Dev} {src : Src} {a : Fin 4296015872} {size : Fin 9} {v : Word64} {ar : Area} (ha : areaOf a = some ar) {e : Dev}
    (h : d.busWrite src a size v true = e) : Does (.areaWrite src a size v) d e := by
  have hgo : (areaOf a).isSome = true := by rw [ha]; rfl
  exact fun _ => exec_next rfl ((if_pos hgo).trans h)

/-- The word of a gallery that is not active reads as it was written (R149). -/
theorem Dev.areaPut_imem {d : Dev} {src : Src} {g a size : Nat} {v : Word64} (h : d.galActive g = false) :
    (d.areaPut src (.imem g) a size v).load a 2 = v.toNat % 2 ^ 14 := by
  have hput (e : Dev) : (e.put a (leBytes 2 (v.toNat % 2 ^ 14))).load a 2 = v.toNat % 2 ^ 14 := by
    refine (e.load_store_self a 2 _).trans ?_
    omega
  have heq : ∃ e : Dev, d.areaPut src (.imem g) a size v = e.put a (leBytes 2 (v.toNat % 2 ^ 14)) := ⟨_, if_neg (Bool.eq_false_iff.1 h)⟩
  obtain ⟨e, he⟩ := heq
  rw [he, hput]

/-! ### The paired write -/

section
variable {d : Dev} {src : Src} (p : Fin 32)

theorem indexIn_PT_TSDLY : indexIn (regRow .PT_TSDLY).dims [p.val] := indexIn_one p.isLt

/-- The paired write lands, or is refused, by the sum of its halves (R5). -/
theorem Dev.busWrite_paired (hp : d.path src (R.PT_TSDLY p).addr = .go) (hs : d.served (R.PT_TSDLY p).addr = true) (v : Word64) :
    d.busWrite src (R.PT_TSDLY p).addr 8 v true = if v.toNat / 2 ^ 32 + v.toNat % 2 ^ 32 = 2 ^ 32 - 1 then d.rset (R.PT_TSDLY p) v
      else d.rwpRefuse src (R.PT_TSDLY p).addr := by
  have hlock : d.dbLocked (regOf .PT_TSDLY [p.val]).addr = false := by
    have hb : (blockOf (regOf .PT_TSDLY [p.val]).addr == 0x13) = false := by rw [blockOf_regOf (indexIn_PT_TSDLY p)]; rfl
    rw [Dev.dbLocked, hb, Bool.false_and]
  have hbus := Dev.busWrite_served (findReg_regOf (indexIn_PT_TSDLY p)) (areaOf_regOf_low (indexIn_PT_TSDLY p) (by decide)) hp hs v true
  refine hbus.trans ?_
  unfold Dev.regWrite
  exact if_neg (Bool.eq_false_iff.1 hlock)

/-- A write of another width is turned away twice (R5, R509). -/
theorem Dev.busWrite_unpaired (hp : d.path src (R.PT_TSDLY p).addr = .go) (hr : d.reachable (R.PT_TSDLY p).addr = true) {size : Nat} (hn : size ≠ 8)
    (v : Word64) : d.busWrite src (R.PT_TSDLY p).addr size v true = (d.busErr src (R.PT_TSDLY p).addr F.SY_BUSERR_width).rwpRefuse src (R.PT_TSDLY p).addr := by
  have hacc : regAccess .PT_TSDLY 0 size = false := by
    rw [regAccess, beq_eq_false_iff_ne.2 (show size ≠ regWidth .PT_TSDLY from hn), Bool.and_false]
  have harea := areaOf_regOf_low (indexIn_PT_TSDLY p) (by decide)
  have hreg := inReg_of_findReg (findReg_regOf (indexIn_PT_TSDLY p))
  change areaOf (R.PT_TSDLY p).addr = none at harea
  change inReg (R.PT_TSDLY p).addr = _ at hreg
  simp only [Dev.busWrite, hp, harea, hreg, hr, hacc, Bool.not_true, Bool.false_eq_true, if_false]
  rfl

end

/-! ### Reads that move a queue on -/

theorem ofNat_answer (x : Nat) : BitVec.ofNat 64 ((BitVec.ofNat 64 x).toNat % 2 ^ (8 * 8)) = BitVec.ofNat 64 x := by
  rw [BitVec.toNat_ofNat, Nat.mod_mod, ← BitVec.toNat_ofNat, BitVec.ofNat_toNat, BitVec.setWidth_eq]

theorem Dev.regRead_TB_NOW_LO (d : Dev) : d.regRead .TB_NOW_LO [] =
    ((BitVec.ofNat 64 (time96 d.now % 2 ^ 64)).toNat, (d.rset R.TB_NOW_LO (d.rget R.TB_NOW_LO)).rset R.TB_NOW_HI (BitVec.ofNat 64 (time96 d.now / 2 ^ 64))) := rfl

/-- The answer of a read goes out behind what waits. -/
theorem Dev.out_data_outbox (d : Dev) (c : Nat) (v : BitVec 64) : (d.out (.data c v)).outbox = d.outbox ++ [.data c v] := rfl

/-- What a read of the clock leaves: the high part stands for its own read (R10). -/
theorem tbNowLoRead_does {d : Dev} {src : Src} (h : d.answers src R.TB_NOW_LO = true) : ∃ e, Does (.tbNowLoRead src) d e
    ∧ e.rget R.TB_NOW_HI = BitVec.ofNat 64 (time96 d.now / 2 ^ 64) ∧ e.outbox = d.outbox ++ [.data (srcCode src) (BitVec.ofNat 64 (time96 d.now))] := by
  refine ⟨_, fun _ => exec_next rfl (Dev.busRead_answers (id := .TB_NOW_LO) (ix := []) indexIn_none (by decide) h), ?_, ?_⟩
  · rw [Dev.rget_of_regs (Dev.out_regs ..), Dev.regRead_TB_NOW_LO]
    exact Dev.rset_rget ..
  · refine (Dev.out_data_outbox ..).trans ?_
    rw [Dev.regRead_TB_NOW_LO]
    have hmod : BitVec.ofNat 64 (time96 d.now % 2 ^ 64) = BitVec.ofNat 64 (time96 d.now) := BitVec.eq_of_toNat_eq (by simp only [BitVec.toNat_ofNat, Nat.mod_mod])
    exact congrArg (fun v => d.outbox ++ [Out.data (srcCode src) v]) ((ofNat_answer _).trans hmod)

theorem ldAnq1Read_does {d : Dev} {src : Src} (h : d.answers src R.LD_ANQ1 = true) : ∃ e, Does (.ldAnq1Read src) d e ∧ e.ld.anoms = d.ld.anoms.drop 1
    ∧ e.outbox = d.outbox ++ [.data (srcCode src) (BitVec.ofNat 64 ((((d.ld.anoms.head?).map (·.toNat)).getD 0) / 2 ^ 64))] := by
  refine ⟨_, fun _ => exec_next rfl (Dev.busRead_answers (id := .LD_ANQ1) (ix := []) indexIn_none (by decide) h), ?_, ?_⟩
  · rw [Dev.out_ld]
    rfl
  · refine (Dev.out_data_outbox ..).trans ?_
    exact congrArg (fun v => d.outbox ++ [Out.data (srcCode src) v]) (ofNat_answer _)

theorem tkRrec1Read_does {d : Dev} {src : Src} (h : d.answers src R.TK_RREC1 = true) : ∃ e, Does (.tkRrec1Read src) d e ∧ e.tk.records = d.tk.records.drop 1
    ∧ e.outbox = d.outbox ++ [.data (srcCode src) (BitVec.ofNat 64 ((((d.tk.records.head?).map (·.toNat)).getD 0) / 2 ^ 64))] := by
  refine ⟨_, fun _ => exec_next rfl (Dev.busRead_answers (id := .TK_RREC1) (ix := []) indexIn_none (by decide) h), ?_, ?_⟩
  · rw [Dev.out_tk]
    rfl
  · refine (Dev.out_data_outbox ..).trans ?_
    exact congrArg (fun v => d.outbox ++ [Out.data (srcCode src) v]) (ofNat_answer _)

theorem Dev.popFault_faults (d : Dev) (g : Nat) : ((d.popFault g).gal g).faults = (d.gal g).faults.drop 1 := by
  have hg (e : Dev) (fs : List (BitVec 192)) (n : Nat) : (((e.modGal g (fun x => { x with faults := fs, headAt := e.now })).wr (R.GL_STAT g)
      F.GL_STAT_f_depth n).gal g).faults = fs := by
    rw [Dev.gal, Dev.wr_gals, ← Dev.gal, Dev.gal_modGal_self]
  simp only [Dev.popFault]
  split
  · exact hg d _ ((d.gal g).faults.drop 1).length
  · exact hg d _ ((d.gal g).faults.drop 1).length

theorem Dev.popFault_outbox (d : Dev) (g : Nat) : (d.popFault g).outbox = d.outbox := by
  simp only [Dev.popFault]
  split <;> rfl

theorem indexIn_GL_FREC2 (g : Fin 26) : indexIn (regRow .GL_FREC2).dims [g.val] := indexIn_one g.isLt

theorem Dev.regRead_GL_FREC2 (d : Dev) (g : Fin 26) : d.regRead .GL_FREC2 [g.val] =
    (bitsOf (BitVec.ofNat 64 (((d.gal g).faults.head?.map (·.toNat)).getD 0 / 2 ^ 128)).toNat 0 64, (d.rset (R.GL_FREC2 g) (d.rget (R.GL_FREC2 g))).popFault g) := by
  have hb : blockOf (regOf .GL_FREC2 [g.val]).addr = 0x20 := (blockOf_regOf (indexIn_GL_FREC2 g)).trans (by decide)
  unfold Dev.regRead
  dsimp only
  rw [hb, if_pos rfl]
  rfl

theorem bitsOf_answer (x : Nat) : BitVec.ofNat 64 (bitsOf (BitVec.ofNat 64 x).toNat 0 64 % 2 ^ (8 * 8)) = BitVec.ofNat 64 x := by
  rw [bitsOf, Nat.pow_zero, Nat.div_one, Nat.mod_mod]
  exact ofNat_answer x

/-- Settles O44: an access lands by the map of registers and areas, and each register and area answers by its own rule. -/
theorem areasAndQueueHeads : Obligations.AreasAndQueueHeads := by
  refine ⟨?areas, ?heads⟩
  case areas =>
    intro d src a size v ar hp ha hs hw hg bs
    have hbus := Dev.busWrite_area (v := v) hp ha hs hw hg true
    refine ⟨areaWrite_does ha hbus, fun _ => exec_next rfl hbus, ?_, ?_, ?_, ?_, ?_, ?_, ?_, ?_⟩
    · rintro p rfl h
      exact areaWrite_does ha (hbus.trans (if_neg (Bool.eq_false_iff.1 h)))
    · rintro p rfl h
      exact areaWrite_does ha (hbus.trans (if_pos h))
    · rintro o rfl
      exact areaWrite_does ha hbus
    · rintro g rfl h
      exact areaWrite_does ha (hbus.trans (if_pos h))
    · rintro g rfl h
      exact ⟨_, areaWrite_does ha hbus, Dev.areaPut_imem h⟩
    · rintro t rfl h
      have hgo : (d.tmplOn t || decide (d.rd (R.DR_TCTL t) F.DR_TCTL_live ≠ 0)) = true := by rw [h]; rfl
      exact areaWrite_does ha (hbus.trans (if_pos hgo))
    · rintro fn f i rfl rfl h
      exact areaWrite_does ha (hbus.trans (if_pos h))
    · rintro fn f i rfl rfl h
      exact areaWrite_does ha (hbus.trans (if_neg (Bool.eq_false_iff.1 h)))
  case heads =>
    intro d src p g size v t
    refine ⟨fun hp hs hn h _ => exec_next rfl ?_, fun hp hs hn h _ => exec_next rfl ?_, fun hp hr hn _ => exec_next rfl (Dev.busWrite_unpaired p hp hr hn v),
      tbNowLoRead_does, ?_, ldAnq1Read_does, tkRrec1Read_does⟩
    · rw [hn]
      exact (Dev.busWrite_paired p hp hs v).trans (if_pos h)
    · rw [hn]
      exact (Dev.busWrite_paired p hp hs v).trans (if_neg h)
    · intro h
      refine ⟨_, fun _ => exec_next rfl (Dev.busRead_answers (indexIn_GL_FREC2 g) (by decide) h), ?_, ?_⟩
      · rw [Dev.gal, Dev.out_gals, ← Dev.gal, Dev.regRead_GL_FREC2]
        exact Dev.popFault_faults ..
      · refine (Dev.out_data_outbox ..).trans ?_
        rw [Dev.regRead_GL_FREC2]
        refine congrArg₂ (fun o v => o ++ [Out.data (srcCode src) v]) (Dev.popFault_outbox ..) (bitsOf_answer _)

end Sys2Proof.Machine
end

/-! ## What a write of a register brings to each of its fields (R4, R7, R8) -/
section
namespace Sys2Proof.Machine

/-! ### The low half of a word -/

theorem Fld.get_low {f : Fld} (h : f.lo + f.w ≤ 32) (v : Word64) : f.get (v &&& 0xFFFFFFFF) = f.get v := by
  have hand : (v &&& 0xFFFFFFFF).toNat = v.toNat % 2 ^ 32 := by
    rw [BitVec.toNat_and]
    exact Nat.and_two_pow_sub_one_eq_mod v.toNat 32
  rw [Fld.get, Fld.get, hand, bitsOf, bitsOf, ← Nat.add_sub_cancel' (show f.lo ≤ 32 by omega), Nat.pow_add, Nat.mod_mul_right_div_self,
    Nat.mod_mod_of_dvd _ (Nat.pow_dvd_pow 2 (by omega))]

theorem Fld.get_setWidth {f : Fld} (h : f.lo + f.w ≤ 32) (v : Word64) : f.get ((v.setWidth 32).setWidth 64) = f.get v := by
  have hand : ((v.setWidth 32).setWidth 64).toNat = v.toNat % 2 ^ 32 := by
    rw [BitVec.toNat_setWidth, BitVec.toNat_setWidth, Nat.mod_eq_of_lt]
    omega
  rw [Fld.get, Fld.get, hand, bitsOf, bitsOf, ← Nat.add_sub_cancel' (show f.lo ≤ 32 by omega), Nat.pow_add, Nat.mod_mul_right_div_self,
    Nat.mod_mod_of_dvd _ (Nat.pow_dvd_pow 2 (by omega))]

/-! ### One field among those of a register -/

/-- Fields worked on one after the other, each in its own bits: a field has what its own step gives it. -/
theorem Fld.get_foldl_self {old : Word64} {step : Word64 → Fld → Word64} {l : List Fld} (hp : l.Pairwise Fld.beside)
    (hstep : ∀ f ∈ l, ∀ e, f.get e = f.get old → ∀ g : Fld, g.beside f → g.get (step e f) = g.get e) {e : Word64} (he : ∀ f ∈ l, f.get e = f.get old)
    {g : Fld} (hg : g ∈ l) : ∃ e', g.get e' = g.get old ∧ g.get (l.foldl step e) = g.get (step e' g) := by
  induction l generalizing e with
  | nil => cases hg
  | cons f l ih =>
    obtain ⟨hpf, hpl⟩ := List.pairwise_cons.1 hp
    have hrest (x : Fld) (hx : x ∈ l) := hstep x (List.mem_cons_of_mem _ hx)
    have hkeep (x : Fld) (hx : x ∈ l) : x.get (step e f) = x.get old :=
      (hstep f List.mem_cons_self e (he f List.mem_cons_self) x (hpf x hx).symm).trans (he x (List.mem_cons_of_mem _ hx))
    rcases List.mem_cons.1 hg with rfl | hg
    · exact ⟨e, he g List.mem_cons_self, Fld.get_foldl hpl hrest hkeep (fun x hx => .inl (hpf x hx))⟩
    · exact ih hpl hrest hkeep hg

section
variable {id : RegId} {f : Fld} (hf : f ∈ (regRow id).flds)
include hf

theorem regRow_fit : f.lo + f.w ≤ 64 :=
  of_decide_eq_true (List.all_eq_true.1 (Bool.and_eq_true_iff.1 (regRow_tidy id)).1 f hf)

omit hf in
theorem regRow_beside (id : RegId) : (regRow id).flds.Pairwise Fld.beside :=
  have h : (regRow id).flds.Pairwise (fun f g => f.lo + f.w ≤ g.lo ∨ g.lo + g.w ≤ f.lo) := of_decide_eq_true (Bool.and_eq_true_iff.1 (regRow_tidy id)).2
  h

/-- A field that is written takes effect as written (R4, R8). -/
theorem RegRow.get_effective (ha : f.acc = .xp ∨ f.acc = .xpwo ∨ f.acc = .rw ∨ f.acc = .wo ∨ f.acc = .rw1c) (old v : Word64) :
    f.get ((regRow id).effective old v true) = f.get v := by
  have hself : ∃ e, f.get e = f.get 0 ∧ f.get ((regRow id).effective old v true) = f.get (match f.acc with
      | .xp => f.put e (if true then f.get v else f.get old)
      | .xpwo => f.put e (if true then f.get v else 0)
      | .rw | .wo | .rw1c => f.put e (f.get v)
      | _ => e) := by
    refine Fld.get_foldl_self (step := fun (e : Word64) (f : Fld) =>
      match f.acc with
      | .xp => f.put e (if true then f.get v else f.get old)
      | .xpwo => f.put e (if true then f.get v else 0)
      | .rw | .wo | .rw1c => f.put e (f.get v)
      | _ => e) (regRow_beside id) (fun g hg e _ h hb => ?_) (fun _ _ => rfl) hf
    have hfit := regRow_fit hg
    split
    · exact Fld.get_put_beside hfit hb ..
    · exact Fld.get_put_beside hfit hb ..
    · exact Fld.get_put_beside hfit hb ..
    · exact Fld.get_put_beside hfit hb ..
    · exact Fld.get_put_beside hfit hb ..
    · rfl
  obtain ⟨e, -, he⟩ := hself
  rw [he]
  rcases ha with h | h | h | h | h <;> rw [h] <;> exact (f.get_put _ _ (regRow_fit hf)).trans (Nat.mod_eq_of_lt (f.get_lt v))

theorem RegRow.stored_step (old eff : Word64) : ∃ e, f.get e = f.get old ∧ f.get ((regRow id).stored old eff) = f.get (match f.acc with
    | .xp | .rw => f.put e (f.get eff)
    | .rw1c => BitVec.ofNat 64 (e.toNat - (f.get old &&& f.get eff) * 2 ^ f.lo)
    | _ => e) := by
  refine Fld.get_foldl_self (old := old) (e := old) (step := fun (e : Word64) (f : Fld) =>
      match f.acc with
      | .xp | .rw => f.put e (f.get eff)
      | .rw1c => BitVec.ofNat 64 (e.toNat - (f.get old &&& f.get eff) * 2 ^ f.lo)
      | _ => e) (regRow_beside id) (fun g hg e he h hb => ?_) (fun _ _ => rfl) hf
  have hfit := regRow_fit hg
  split
  · exact Fld.get_put_beside hfit hb ..
  · exact Fld.get_put_beside hfit hb ..
  · rw [← Fld.put_sub g e (he ▸ Nat.and_le_left)]
    exact Fld.get_put_beside hfit hb ..
  · rfl

/-- A field that holds what is written holds what took effect (R4). -/
theorem RegRow.get_stored (ha : f.acc = .xp ∨ f.acc = .rw) (old eff : Word64) : f.get ((regRow id).stored old eff) = f.get eff := by
  obtain ⟨e, -, h⟩ := RegRow.stored_step hf old eff
  rw [h]
  rcases ha with ha | ha <;> rw [ha] <;> exact (f.get_put _ _ (regRow_fit hf)).trans (Nat.mod_eq_of_lt (f.get_lt eff))

/-- A field that is not held as written keeps what it held (R4). -/
theorem RegRow.get_stored_kept (ha : f.acc = .ro ∨ f.acc = .xpwo ∨ f.acc = .wo ∨ f.acc = .rc) (old eff : Word64) :
    f.get ((regRow id).stored old eff) = f.get old := by
  obtain ⟨e, he, h⟩ := RegRow.stored_step hf old eff
  rw [h, ← he]
  rcases ha with ha | ha | ha | ha <;> rw [ha]

end

/-- A field that a write over the bus reaches. -/
def RegRow.takes (row : RegRow) (f : Fld) : Bool :=
  decide (f ∈ row.flds) && decide (f.acc = .xp ∨ f.acc = .xpwo ∨ f.acc = .rw ∨ f.acc = .wo ∨ f.acc = .rw1c) && (row.wide || decide (f.lo + f.w ≤ 32))

section
variable {id : RegId} {f : Fld} (hf : (regRow id).takes f = true)
include hf

theorem regRow_takes : f ∈ (regRow id).flds ∧ (f.acc = .xp ∨ f.acc = .xpwo ∨ f.acc = .rw ∨ f.acc = .wo ∨ f.acc = .rw1c)
    ∧ ((regRow id).wide = true ∨ f.lo + f.w ≤ 32) := by
  simp only [RegRow.takes, Bool.and_eq_true, Bool.or_eq_true, decide_eq_true_eq] at hf
  exact ⟨hf.1.1, hf.1.2, hf.2⟩

/-- What a write brings to a field is the field's part of the value written. -/
theorem Dev.get_eff (d : Dev) (ix : List Nat) (v : Word64) : f.get (d.eff id ix v) = f.get v := by
  obtain ⟨hmem, hacc, hwide⟩ := regRow_takes hf
  rw [Dev.eff, RegRow.get_effective hmem hacc]
  split
  · rfl
  next h => exact Fld.get_low (hwide.resolve_left h) v

theorem Dev.get_eff_put (d : Dev) (ix : List Nat) (v : Word64) (x : Nat) : f.get (d.eff id ix (f.put v x)) = x % 2 ^ f.w :=
  (Dev.get_eff hf d ix _).trans (f.get_put _ _ (regRow_fit (regRow_takes hf).1))

theorem Dev.get_eff_beside (d : Dev) (ix : List Nat) {g : Fld} (hg : g.lo + g.w ≤ 64) (h : g.lo + g.w ≤ f.lo ∨ f.lo + f.w ≤ g.lo) (v : Word64) (x : Nat) :
    f.get (d.eff id ix (g.put v x)) = f.get v :=
  (Dev.get_eff hf d ix _).trans (Fld.get_put_beside hg (Or.symm h) v x)

end

theorem Dev.rd_rset_self (d : Dev) (r : Reg) (f : Fld) (v : Word64) : (d.rset r v).rd r f = f.get v := by
  rw [Dev.rd, Dev.rset_rget]

/-- A field that a write does not set keeps its value in the register as stored. -/
theorem Dev.rd_wrote_kept {id : RegId} {f : Fld} (hf : f ∈ (regRow id).flds) (ha : f.acc = .ro ∨ f.acc = .xpwo ∨ f.acc = .wo ∨ f.acc = .rc) (d : Dev)
    (ix : List Nat) (v : Word64) : (d.wrote id ix v).rd (regOf id ix) f = d.rd (regOf id ix) f :=
  (Dev.rd_rset_self ..).trans (RegRow.get_stored_kept hf ha ..)

theorem Dev.rd_wrote {id : RegId} {f : Fld} (hf : f ∈ (regRow id).flds) (ha : f.acc = .xp ∨ f.acc = .rw) (hw : (regRow id).takes f = true) (d : Dev)
    (ix : List Nat) (v : Word64) : (d.wrote id ix v).rd (regOf id ix) f = f.get v :=
  (Dev.rd_rset_self ..).trans ((RegRow.get_stored hf ha ..).trans (Dev.get_eff hw d ix v))

theorem Dev.rd_wrote_other (d : Dev) (id : RegId) (ix : List Nat) (v : Word64) {r : Reg} (f : Fld) (h : r.addr ≠ (regOf id ix).addr) :
    (d.wrote id ix v).rd r f = d.rd r f :=
  congrArg f.get (Dev.rset_rget_of_ne _ _ h)

end Sys2Proof.Machine
end

/-! ## Writes of a gallery's registers and of DB_TCMD (R158, R165 to R168, R208 to R210, R334, R501, R502) -/
section
namespace Sys2Proof.Machine

theorem Dev.glWrite_lands {d : Dev} {src : Src} {id : RegId} {ix : List Nat} (hix : indexIn (regRow id).dims ix) (hb : blockIx id = 0x20)
    (h : d.lands src (regOf id ix) = true) (v : Word64) : d.busWrite src (regOf id ix).addr (regWidth id) v true
      = (d.wrote id ix v).glAfterWrite id ix (d.rget (regOf id ix)) (d.eff id ix v) (d.modeOf id ix) src := by
  have hid : id ≠ .PT_TSDLY := by
    rintro rfl
    revert hb
    decide
  rw [Dev.busWrite_lands hix (by rw [hb]; decide) h hid, if_pos hb]
  rfl

section
variable {d : Dev} {src : Src} (g : Fin 26)

/-! ### Threads -/

/-- A write of GL_TCTL that leaves the mode goes by its kill and reset bits (R167). -/
theorem Dev.glTctl_action (d : Dev) {k : Nat} (hk : isSup k = false) {old v : Word64} (hi : F.GL_TCTL_imask.get v = F.GL_TCTL_imask.get old)
    (hp : F.GL_TCTL_prio.get v = F.GL_TCTL_prio.get old) (hw : F.GL_TCTL_ddr_win.get v = F.GL_TCTL_ddr_win.get old) (was : BitVec 8 × Nat × Nat) (src : Src) :
    d.glTctl k old v was src = if F.GL_TCTL_kill.get v = 1 then d.killThread k 9 else if F.GL_TCTL_rst.get v = 1 then d.resetThread k else d := by
  simp only [Dev.glTctl, hi, hp, hw, if_true, hk, Bool.false_and, Bool.false_eq_true, if_false]

theorem indexIn_GL_TCTL (c t : Fin 8) : indexIn (regRow .GL_TCTL).dims [g.val, c.val, t.val] := indexIn_three g.isLt c.isLt t.isLt

theorem Dev.glTctl_kill {c t : Fin 8} (h : d.lands src (R.GL_TCTL g c t) = true) (hk : isSup (thrKey g c t) = false) : Does (.glTctlKill src g c t) d
    ((d.wrote .GL_TCTL [g.val, c.val, t.val] (F.GL_TCTL_kill.put (d.rget (R.GL_TCTL g c t)) 1)).killThread (thrKey g c t) 9) := by
  refine fun _ => exec_next rfl ((Dev.glWrite_lands (indexIn_GL_TCTL g c t) (by decide) h _).trans ?_)
  refine (Dev.glTctl_action _ hk (Dev.get_eff_beside (by decide) _ _ (by decide) (by decide) _ _) (Dev.get_eff_beside (by decide) _ _ (by decide) (by decide) _ _)
    (Dev.get_eff_beside (by decide) _ _ (by decide) (by decide) _ _) _ _).trans ?_
  exact if_pos (Dev.get_eff_put (by decide) _ _ _ _)

theorem Dev.glTctl_rst {c t : Fin 8} (h : d.lands src (R.GL_TCTL g c t) = true) (hk : isSup (thrKey g c t) = false)
    (h0 : d.rd (R.GL_TCTL g c t) F.GL_TCTL_kill = 0) : Does (.glTctlRst src g c t) d
      ((d.wrote .GL_TCTL [g.val, c.val, t.val] (F.GL_TCTL_rst.put (d.rget (R.GL_TCTL g c t)) 1)).resetThread (thrKey g c t)) := by
  refine fun _ => exec_next rfl ((Dev.glWrite_lands (indexIn_GL_TCTL g c t) (by decide) h _).trans ?_)
  refine (Dev.glTctl_action _ hk (Dev.get_eff_beside (by decide) _ _ (by decide) (by decide) _ _) (Dev.get_eff_beside (by decide) _ _ (by decide) (by decide) _ _)
    (Dev.get_eff_beside (by decide) _ _ (by decide) (by decide) _ _) _ _).trans ?_
  have hkill : F.GL_TCTL_kill.get (d.eff .GL_TCTL [g.val, c.val, t.val] (F.GL_TCTL_rst.put (d.rget (R.GL_TCTL g c t)) 1)) = 0 :=
    (Dev.get_eff_beside (by decide) _ _ (by decide) (by decide) _ _).trans h0
  exact (if_neg (by rw [hkill]; decide)).trans (if_pos (Dev.get_eff_put (by decide) _ _ _ _))

/-! ### Cores and the gallery -/

theorem indexIn_GL_CTL : indexIn (regRow .GL_CTL).dims [g.val] := indexIn_one g.isLt

theorem bitAt_none (i : Nat) : bitAt 0 i = false := by rw [bitAt, Nat.zero_div]; rfl

/-- No core is named: none is reset. -/
theorem foldl_noCore (l : List Nat) (b : Nat → Bool) (d : Dev) (g : Nat) :
    l.foldl (fun (d : Dev) c => if bitAt 0 c && b c then d.resetCore g c else d) d = d := by
  induction l with
  | nil => rfl
  | cons c rest ih =>
    rw [List.foldl_cons, bitAt_none, Bool.false_and, if_neg Bool.false_ne_true]
    exact ih

theorem Dev.glCtl_galRst (d : Dev) (g : Nat) {v : Word64} (src : Src) (hc : F.GL_CTL_core_rst.get v = 0) (hg : F.GL_CTL_gal_rst.get v = 1) :
    d.glCtl g v src = (if trusted src then d.resetGallery g else d).supStart (supOf g) := by
  rw [Dev.glCtl, hc, foldl_noCore, hg, decide_eq_true rfl, Bool.true_and]

theorem Dev.glCtl_coreRst (d : Dev) (g : Nat) {v : Word64} {m : Nat} (src : Src) (hc : F.GL_CTL_core_rst.get v = m) (hg : F.GL_CTL_gal_rst.get v = 0) :
    d.glCtl g v src = ((List.range 8).foldl (fun (e : Dev) n => if bitAt m n && (n != 0 || trusted src) then e.resetCore g n else e) d).supStart (supOf g) := by
  rw [Dev.glCtl, hc, hg]
  exact congrArg (fun e : Dev => e.supStart (supOf g)) (if_neg Bool.false_ne_true)

/-- A supervisor may run from now on: nothing else of the register changes (R160). -/
theorem wrote_supRun (d : Dev) : d.wrote .GL_CTL [g.val] (F.GL_CTL_sup_run.put (d.rget (R.GL_CTL g)) 1) = d.wr (R.GL_CTL g) F.GL_CTL_sup_run 1 :=
  congrArg (fun x => d.rset (R.GL_CTL g) (F.GL_CTL_sup_run.put (d.rget (R.GL_CTL g)) x))
    (Dev.get_eff_put (id := .GL_CTL) (f := F.GL_CTL_sup_run) (by decide) d [g.val] (d.rget (R.GL_CTL g)) 1)

section
variable (h : d.lands src (R.GL_CTL g) = true)
include h

theorem glCtlGalRst_does (h0 : d.rd (R.GL_CTL g) F.GL_CTL_core_rst = 0) : Does (.glCtlGalRst src g) d
    ((if trusted src then (d.wrote .GL_CTL [g.val] (F.GL_CTL_gal_rst.put (d.rget (R.GL_CTL g)) 1)).resetGallery g
      else d.wrote .GL_CTL [g.val] (F.GL_CTL_gal_rst.put (d.rget (R.GL_CTL g)) 1)).supStart (supOf g)) :=
  fun _ => exec_next rfl ((Dev.glWrite_lands (indexIn_GL_CTL g) (by decide) h _).trans (Dev.glCtl_galRst _ _ _
    ((Dev.get_eff_beside (by decide) _ _ (by decide) (by decide) _ _).trans h0) (Dev.get_eff_put (by decide) _ _ _ _)))

theorem glCtlCoreRst_does (mask : Fin 256) (h0 : d.rd (R.GL_CTL g) F.GL_CTL_gal_rst = 0) : Does (.glCtlCoreRst src g mask) d
    (((List.range 8).foldl (fun (e : Dev) n => if bitAt mask.val n && (n != 0 || trusted src) then e.resetCore g n else e)
      (d.wrote .GL_CTL [g.val] (F.GL_CTL_core_rst.put (d.rget (R.GL_CTL g)) mask.val))).supStart (supOf g)) :=
  fun _ => exec_next rfl ((Dev.glWrite_lands (indexIn_GL_CTL g) (by decide) h _).trans (Dev.glCtl_coreRst _ _ _
    ((Dev.get_eff_put (by decide) _ _ _ _).trans (Nat.mod_eq_of_lt mask.isLt)) ((Dev.get_eff_beside (by decide) _ _ (by decide) (by decide) _ _).trans h0)))

theorem glCtlSupRun_does (h0 : d.rd (R.GL_CTL g) F.GL_CTL_gal_rst = 0) (h1 : d.rd (R.GL_CTL g) F.GL_CTL_core_rst = 0) :
    Does (.glCtlSupRun src g) d ((d.wr (R.GL_CTL g) F.GL_CTL_sup_run 1).supStart (supOf g)) := by
  refine fun _ => exec_next rfl ((Dev.glWrite_lands (indexIn_GL_CTL g) (by decide) h _).trans ?_)
  refine (Dev.glCtl_coreRst _ _ _ ((Dev.get_eff_beside (by decide) _ _ (by decide) (by decide) _ _).trans h1)
    ((Dev.get_eff_beside (by decide) _ _ (by decide) (by decide) _ _).trans h0)).trans ?_
  rw [foldl_noCore]
  exact congrArg (fun e : Dev => e.supStart (supOf g)) (wrote_supRun g d)

end

/-! ### Events and the Rose -/

theorem indexIn_GL_TSOFT : indexIn (regRow .GL_TSOFT).dims [g.val] := indexIn_one g.isLt

theorem glTsoft_does (n : Fin 64) (h : d.lands src (R.GL_TSOFT g) = true) : Does (.glTsoft src g n) d
    ((d.wrote .GL_TSOFT [g.val] (F.GL_TSOFT_thread.put (d.rget (R.GL_TSOFT g)) n.val)).pendSource (g.val * 64 + n.val) 1) := by
  refine fun _ => exec_next rfl ((Dev.glWrite_lands (indexIn_GL_TSOFT g) (by decide) h _).trans ?_)
  exact congrArg (fun k => (d.wrote .GL_TSOFT [g.val] (F.GL_TSOFT_thread.put (d.rget (R.GL_TSOFT g)) n.val)).pendSource (g.val * 64 + k) 1)
    ((Dev.get_eff_put (by decide) _ _ _ _).trans (Nat.mod_eq_of_lt n.isLt))

theorem indexIn_GL_ROSECTL (c : Fin 8) : indexIn (regRow .GL_ROSECTL).dims [g.val, c.val] := indexIn_two g.isLt c.isLt

/-- What GL_ROSECTL is written with as the shadow is committed. -/
def roseWord (d : Dev) (g c : Nat) : Word64 :=
  ((F.GL_ROSECTL_commit.put (F.GL_ROSECTL_err.put (d.rget (R.GL_ROSECTL g c)) 0) 1).setWidth 32).setWidth 64

theorem glRosectlCommit_does (c : Fin 8) (h : d.lands src (R.GL_ROSECTL g c) = true) :
    Does (.glRosectlCommit src g c) d ((d.wrote .GL_ROSECTL [g.val, c.val] (roseWord d g c)).roseCommit g c) := by
  refine fun _ => exec_next rfl ((Dev.glWrite_lands (indexIn_GL_ROSECTL g c) (by decide) h _).trans (if_pos ?_))
  refine (Dev.get_eff (by decide) _ _ _).trans ?_
  exact (Fld.get_setWidth (by decide) _).trans (Fld.get_put _ _ _ (by decide))

theorem wrote_rosePending (d : Dev) (g c : Nat) (v : Word64) :
    (d.wrote .GL_ROSECTL [g, c] v).on (R.GL_ROSECTL g c) F.GL_ROSECTL_pending = d.on (R.GL_ROSECTL g c) F.GL_ROSECTL_pending :=
  congrArg (· == 1) (Dev.rd_wrote_kept (by decide) (by decide) d [g, c] v)

/-! ### The generator -/

theorem indexIn_GL_GENCMD : indexIn (regRow .GL_GENCMD).dims [g.val] := indexIn_one g.isLt

theorem glGencmdGo_does (v : Word64) (h : d.lands src (R.GL_GENCMD g) = true) (hb : d.on (R.GL_GENCMD g) F.GL_GENCMD_busy = false) :
    Does (.glGencmdGo src g v) d ((d.wrote .GL_GENCMD [g.val] (F.GL_GENCMD_go.put v 1)).genStart g (d.eff .GL_GENCMD [g.val] (F.GL_GENCMD_go.put v 1))) := by
  have hbusy : ¬ F.GL_GENCMD_busy.get (d.rget (R.GL_GENCMD g)) = 1 := by
    intro h1
    rw [Dev.on, Dev.rd, h1] at hb
    exact absurd hb (by decide)
  exact fun _ => exec_next rfl ((Dev.glWrite_lands (indexIn_GL_GENCMD g) (by decide) h _).trans ((if_neg hbusy).trans
    (if_pos (Dev.get_eff_put (by decide) _ _ _ _))))

/-- A frame that is right and has its cells is copied (R334). -/
theorem Dev.genStart_taken {d u : Dev} {g : Nat} {e : Word64} (h1 : 64 ≤ F.GL_GENCMD_length.get e) (h2 : F.GL_GENCMD_length.get e ≤ 16383)
    (h3 : 0x100000 ≤ F.GL_GENCMD_src.get e) (h4 : F.GL_GENCMD_src.get e + (F.GL_GENCMD_length.get e - 4) ≤ 0x300000) (h5 : F.GL_GENCMD_src.get e % 8 = 0)
    (hr : d.reserve 10 (tagGen g) ((F.GL_GENCMD_length.get e + 255) / 256) (F.GL_GENCMD_queue.get e == 7) = (true, u)) :
    d.genStart g e = (u.wr (R.GL_GENCMD g) F.GL_GENCMD_busy 1).modGal g (fun y => { y with gen := some (F.GL_GENCMD_src.get e, e) }) := by
  have hgo : (decide (F.GL_GENCMD_length.get e < 64) || decide (16383 < F.GL_GENCMD_length.get e) || decide (F.GL_GENCMD_src.get e < 0x100000)
      || decide (0x300000 < F.GL_GENCMD_src.get e + (F.GL_GENCMD_length.get e - 4)) || decide (F.GL_GENCMD_src.get e % 8 ≠ 0)) = false := by
    rw [decide_eq_false (Nat.not_lt.2 h1), decide_eq_false (Nat.not_lt.2 h2), decide_eq_false (Nat.not_lt.2 h3), decide_eq_false (Nat.not_lt.2 h4),
      decide_eq_false (not_not_intro h5)]
    rfl
  simp only [Dev.genStart, if_neg (Bool.eq_false_iff.1 hgo), hr]

/-! ### The Face tile -/

theorem indexIn_GL_FCCTL : indexIn (regRow .GL_FCCTL).dims [g.val] := indexIn_one g.isLt

theorem Dev.setFace_faceState (d : Dev) (g : Nat) {s : Nat} (hs : s < 8) : (d.setFace g s).faceState g = s :=
  (Dev.rd_wr_self _ _ _ _ (by decide)).trans (Nat.mod_eq_of_lt hs)

theorem Dev.faceState_congr {d e : Dev} (h : e.regs = d.regs) (g : Nat) : e.faceState g = d.faceState g := congrArg F.GL_FCSTAT_state.get (Dev.rget_of_regs h _)

theorem Dev.faceState_wr (d : Dev) (g : Nat) {r : Reg} (f : Fld) (x : Nat) (h : (R.GL_FCSTAT g).addr ≠ r.addr) : (d.wr r f x).faceState g = d.faceState g :=
  Dev.rd_wr_other _ _ _ _ _ h

theorem R.GL_FCSTAT_ne_ISLSTAT (g : Fin 26) : (R.GL_FCSTAT g).addr ≠ (R.CK_ISLSTAT g).addr := by
  simp only [R.GL_FCSTAT, R.CK_ISLSTAT]
  omega

theorem Dev.isleFreq_faceState (d : Dev) (g : Fin 26) (mhz : Nat) : (d.isleFreq g mhz).faceState g = d.faceState g := by
  rw [Dev.isleFreq]
  split
  · rfl
  · dsimp only
    split
    · exact Dev.faceState_wr _ _ _ _ (R.GL_FCSTAT_ne_ISLSTAT g)
    · exact Dev.faceState_wr _ _ _ _ (R.GL_FCSTAT_ne_ISLSTAT g)

theorem Dev.faceLimit_faceState (d : Dev) (g : Fin 26) : (d.faceLimit g).faceState g = d.faceState g := by
  simp only [Dev.faceLimit]
  split
  · exact Dev.isleFreq_faceState ..
  · rfl

theorem Dev.freqAsk_faceState (d : Dev) (g : Fin 26) (mhz : Nat) : (d.freqAsk g mhz).faceState g = d.faceState g := by
  simp only [Dev.freqAsk]
  split
  · rfl
  · split
    · rfl
    · refine (Dev.faceState_congr (Dev.modGal_regs ..) _).trans ?_
      split
      · rfl
      · exact Dev.faceState_wr _ _ _ _ (R.GL_FCSTAT_ne_ISLSTAT g)

/-- The tile after a write of GL_FCCTL, by the actions it takes (R208 to R210). -/
def Dev.faceActs (d : Dev) (g : Nat) (load clear run : Bool) : Dev :=
  let d := if load then d.faceLoad g else d
  let d := if clear then d.faceClear g else d
  let d := d.faceRun g run
  if d.faceState g = 3 then d.faceLimit g else d

theorem Dev.faceLoad_loads {d : Dev} {g : Nat} (h : d.faceState g = 0 ∨ d.faceState g = 2 ∨ d.faceState g = 4) : d.faceLoad g =
    (d.setFace g 1).modGal g (fun x => { x with face := { x.face with loading := some (d.rd (R.GL_FCLOAD g) F.GL_FCLOAD_addr * 64), bad := [] } }) := by
  have hgo : (decide (d.faceState g = 0) || decide (d.faceState g = 2) || decide (d.faceState g = 4)) = true := by
    rcases h with h | h | h <;> rw [h] <;> rfl
  exact if_pos hgo

/-- A tile that neither is ready nor runs stays as it is when it is told to clear or to run. -/
theorem Dev.faceActs_rest {d : Dev} {g : Nat} (h : d.faceState g = 0 ∨ d.faceState g = 1) (clear run : Bool) : d.faceActs g false clear run = d := by
  have hclear : d.faceClear g = d := by
    refine if_neg ?_
    rcases h with h | h <;> rw [h] <;> decide
  have hrun : d.faceRun g run = d := by
    cases run with
    | false =>
      refine (if_neg Bool.false_ne_true).trans (if_neg ?_)
      rcases h with h | h <;> rw [h] <;> decide
    | true =>
      refine (if_pos rfl).trans (if_neg ?_)
      rcases h with h | h <;> rw [h] <;> decide
  have hlim : ¬ d.faceState g = 3 := by rcases h with h | h <;> rw [h] <;> decide
  simp only [Dev.faceActs, Bool.false_eq_true, if_false, hclear, ite_self, hrun, if_neg hlim]

theorem Dev.busWrite_face (h : d.lands src (R.GL_FCCTL g) = true) (v : Word64) : d.busWrite src (R.GL_FCCTL g).addr 4 v true =
    (d.wrote .GL_FCCTL [g.val] v).faceActs g (decide (F.GL_FCCTL_load.get v = 1)) (decide (F.GL_FCCTL_clear.get v = 1)) (F.GL_FCCTL_run.get v == 1) := by
  refine (Dev.glWrite_lands (indexIn_GL_FCCTL g) (by decide) h v).trans ?_
  simp only [Dev.glAfterWrite, Dev.faceActs, decide_eq_true_eq, List.getD_cons_zero]
  rw [Dev.get_eff (by decide), Dev.get_eff (by decide), Dev.get_eff (by decide)]

theorem Dev.wrote_faceState (d : Dev) (v : Word64) : (d.wrote .GL_FCCTL [g.val] v).faceState g = d.faceState g :=
  Dev.rd_wrote_other _ _ _ _ _ (by simp only [R.GL_FCSTAT, regOf, List.getD_cons_zero, R.GL_FCCTL]; omega)

/-- A load begins from any state but RUN and LOAD (R208). -/
theorem Dev.faceActs_load {d : Dev} (h : d.faceState g = 0 ∨ d.faceState g = 2 ∨ d.faceState g = 4) (clear run : Bool) :
    d.faceActs g true clear run =
      (d.setFace g 1).modGal g (fun x => { x with face := { x.face with loading := some (d.rd (R.GL_FCLOAD g) F.GL_FCLOAD_addr * 64), bad := [] } }) := by
  have hone : (d.faceLoad g).faceState g = 1 := by
    rw [Dev.faceLoad_loads h]
    exact (Dev.faceState_congr (Dev.modGal_regs ..) _).trans (d.setFace_faceState g (by decide))
  exact (Dev.faceActs_rest (.inr hone) clear run).trans (Dev.faceLoad_loads h)

theorem Dev.faceEmpty_faceState (d : Dev) : (d.faceEmpty g).faceState g = 0 := by
  have h (e : Dev) : (((e.rset (R.GL_FCID g) 0).rset (R.GL_FCINFO g) 0)).faceState g = e.faceState g := by
    refine congrArg F.GL_FCSTAT_state.get ((Dev.rset_rget_of_ne _ _ ?_).trans (Dev.rset_rget_of_ne _ _ ?_))
    · simp only [R.GL_FCSTAT, R.GL_FCINFO]
      omega
    · simp only [R.GL_FCSTAT, R.GL_FCID]
      omega
  exact (Dev.faceState_congr rfl _).trans ((h (d.setFace g 0)).trans (d.setFace_faceState g (by decide)))

theorem Dev.faceActs_clear {d : Dev} (h : d.faceState g = 2 ∨ d.faceState g = 4) (run : Bool) : d.faceActs g false true run = d.faceEmpty g := by
  have hclear : d.faceClear g = d.faceEmpty g := by
    refine if_pos ?_
    rcases h with h | h <;> rw [h] <;> decide
  refine Eq.trans ?_ (Dev.faceActs_rest (.inl (Dev.faceEmpty_faceState g d)) false run)
  exact congrArg (fun e : Dev => e.faceActs g false false run) hclear

theorem Dev.faceActs_runs {d : Dev} (h : d.faceState g = 2) : (d.faceActs g false false true).faceState g = 3 := by
  have hstart : (d.faceStart g).faceState g = 3 := (Dev.faceLimit_faceState _ g).trans (d.setFace_faceState g (by decide))
  have hrun : d.faceRun g true = d.faceStart g := (if_pos rfl).trans (if_pos h)
  simp only [Dev.faceActs, Bool.false_eq_true, if_false, hrun, hstart, if_true]
  exact (Dev.faceLimit_faceState _ g).trans hstart

theorem Dev.faceActs_stops {d : Dev} (h : d.faceState g = 3) : (d.faceActs g false false false).faceState g = 2 := by
  have hstop : (d.faceRun g false).faceState g = 2 := by
    have hset := (d.faceFlush g).setFace_faceState g (s := 2) (by decide)
    simp only [Dev.faceRun, Bool.false_eq_true, if_false, h, if_true]
    split
    · exact (Dev.freqAsk_faceState _ g _).trans hset
    · exact hset
  simp only [Dev.faceActs, Bool.false_eq_true, if_false, hstop, Nat.reduceEqDiff]

section
variable (h : d.lands src (R.GL_FCCTL g) = true)
include h

theorem Dev.act_face (f : Fld) (x : Nat) (l c r : Bool) (hl : decide (F.GL_FCCTL_load.get (f.put (d.rget (R.GL_FCCTL g)) x) = 1) = l)
    (hc : decide (F.GL_FCCTL_clear.get (f.put (d.rget (R.GL_FCCTL g)) x) = 1) = c) (hr : (F.GL_FCCTL_run.get (f.put (d.rget (R.GL_FCCTL g)) x) == 1) = r) :
    d.act32 src (R.GL_FCCTL g) f x = (d.wrote .GL_FCCTL [g.val] (f.put (d.rget (R.GL_FCCTL g)) x)).faceActs g l c r := by
  subst hl hc hr
  exact Dev.busWrite_face g h _

end

/-! ### DB_TCMD -/

theorem indexIn_DB_TCMD : indexIn (regRow .DB_TCMD).dims [] := indexIn_none

theorem Fld.get_ofNat32 (f : Fld) (x : Nat) : f.get ((BitVec.ofNat 32 x).setWidth 64) = bitsOf (x % 2 ^ 32) f.lo f.w := by
  rw [Fld.get, BitVec.toNat_setWidth, BitVec.toNat_ofNat, Nat.mod_eq_of_lt (b := 2 ^ 64)]
  omega

theorem Dev.tcmd_one (d : Dev) {k : Nat} (hk : k < 1664) : d.tcmd 0 k false = d.holdThread k ∧ d.tcmd 1 k false = d.resumeThread k
    ∧ d.tcmd 2 k false = d.stepThread k ∧ d.tcmd 3 k false = d.killThread k 10 :=
  ⟨if_neg (Nat.not_le.2 hk), if_neg (Nat.not_le.2 hk), if_neg (Nat.not_le.2 hk), if_neg (Nat.not_le.2 hk)⟩

/-- A write of DB_TCMD does its operation to the thread it names (R501, R502). -/
theorem Dev.tcmdWrite_one {n : Fin 2048} (h : d.lands src R.DB_TCMD = true) {op : Nat} (ho : op < 4) :
    d.tcmdWrite src op n false = d.tcmd op n false := by
  have hn := n.isLt
  have hbus := Dev.busWrite_lands (id := .DB_TCMD) (ix := []) indexIn_DB_TCMD (by decide) h (by decide)
    ((BitVec.ofNat 32 (op * 2 ^ 30 + b2n false * 2 ^ 29 + n)).setWidth 64) true
  have hop : F.DB_TCMD_op.get (d.eff .DB_TCMD [] ((BitVec.ofNat 32 (op * 2 ^ 30 + b2n false * 2 ^ 29 + n)).setWidth 64)) = op := by
    rw [Dev.get_eff (by decide), Fld.get_ofNat32]
    simp only [b2n, Bool.false_eq_true, if_false, bitsOf, F.DB_TCMD_op]
    omega
  have hthread : F.DB_TCMD_thread.get (d.eff .DB_TCMD [] ((BitVec.ofNat 32 (op * 2 ^ 30 + b2n false * 2 ^ 29 + n)).setWidth 64)) = n := by
    rw [Dev.get_eff (by decide), Fld.get_ofNat32]
    simp only [b2n, Bool.false_eq_true, if_false, bitsOf, F.DB_TCMD_thread]
    omega
  have hall : F.DB_TCMD_all.get (d.eff .DB_TCMD [] ((BitVec.ofNat 32 (op * 2 ^ 30 + b2n false * 2 ^ 29 + n)).setWidth 64)) = 0 := by
    rw [Dev.get_eff (by decide), Fld.get_ofNat32]
    simp only [b2n, Bool.false_eq_true, if_false, bitsOf, F.DB_TCMD_all]
    omega
  refine (hbus.trans (if_neg (by decide))).trans ?_
  show d.tcmd (F.DB_TCMD_op.get _) (F.DB_TCMD_thread.get _) (F.DB_TCMD_all.get _ == 1) = _
  rw [hop, hthread, hall]
  rfl

theorem Dev.holdThread_ready {k : Nat} (h : (d.thr k).st = .ready) :
    d.holdThread k = ((d.setThr k { d.thr k with st := .hold, heldFrom := .ready }).galTrace k 9 (d.thr k).pc.toNat).limits := by
  simp only [Dev.holdThread, h]

theorem Dev.stepThread_held {k : Nat} (h : (d.thr k).st = .hold) : d.stepThread k = d.setThr k { d.thr k with stepping := true } := by
  have hgo : ((d.thr k).st != .hold) = false := by rw [h]; rfl
  exact if_neg (Bool.eq_false_iff.1 hgo)

theorem Dev.resumeThread_held {k : Nat} (h : (d.thr k).st = .hold) :
    d.resumeThread k = (d.setThr k { d.thr k with st := (d.thr k).heldFrom, stepping := false }).limits.drainCheck k := by
  have hgo : ((d.thr k).st != .hold) = false := by rw [h]; rfl
  exact if_neg (Bool.eq_false_iff.1 hgo)

end

/-- Settles O46: a write that lands brings its value to the register's fields, and the register starts what they name. -/
theorem galleryRegisterCommands : Obligations.GalleryRegisterCommands := by
  intro d src g c t v k tc ctl fc act rs
  refine ⟨fun h hk h0 => Dev.glTctl_rst g h hk h0, fun h hk => Dev.glTctl_kill g h hk, ?trusted, ?untrusted, fun mask h h0 => glCtlCoreRst_does g h mask h0,
    fun h h0 h1 => glCtlSupRun_does g h h0 h1, ?soft, ?commit, ?again, ?gen, ?load, ?clear, ?runs, ?stops, ?debug⟩
  case trusted =>
    intro h ht h0 q
    exact (glCtlGalRst_does g h h0 q).trans (by rw [if_pos ht])
  case untrusted =>
    intro h ht h0 q
    exact (glCtlGalRst_does g h h0 q).trans (by rw [if_neg (Bool.eq_false_iff.1 ht)])
  case soft =>
    intro n h
    refine ⟨_, glTsoft_does g n h, ?_⟩
    rw [Dev.pendSource, Dev.thr_modThr_self]
    rfl
  case commit =>
    intro h hp
    have hgo := (wrote_rosePending d g c (roseWord d g c)).trans hp
    refine ⟨_, glRosectlCommit_does g c h, ?_⟩
    rw [Dev.roseCommit, if_neg (Bool.eq_false_iff.1 hgo), Dev.on, Dev.rd_wr_self _ _ _ _ (by decide)]
    rfl
  case again =>
    intro h hp
    have hgo := (wrote_rosePending d g c (roseWord d g c)).trans hp
    refine ⟨_, glRosectlCommit_does g c h, ?_⟩
    rw [Dev.roseCommit, if_pos hgo, Dev.on, Dev.rd_wr_self _ _ _ _ (by decide)]
    rfl
  case gen =>
    intro h hb x e len from_
    refine ⟨glGencmdGo_does g v h hb, ?_⟩
    intro u h1 h2 h3 h4 h5 hr q
    exact (glGencmdGo_does g v h hb q).trans (by rw [Dev.genStart_taken h1 h2 h3 h4 h5 hr])
  case load =>
    intro h hs
    have hu := Dev.wrote_faceState g d (F.GL_FCCTL_load.put (d.rget (R.GL_FCCTL g)) 1)
    rw [← hu] at hs
    refine ⟨_, fun _ => exec_next rfl ((Dev.act_face g h _ _ true _ _ (by rw [Fld.get_put _ _ _ (by decide)]; rfl) rfl rfl).trans
      (Dev.faceActs_load g hs _ _)), ?_, ?_⟩
    · exact (Dev.faceState_congr (Dev.modGal_regs ..) _).trans (Dev.setFace_faceState _ g (by decide))
    · rw [Dev.gal_modGal_self]
      exact congrArg (fun n => some (n * 64)) (Dev.rd_wrote_other _ _ _ _ _ (by simp only [R.GL_FCLOAD, regOf, List.getD_cons_zero, R.GL_FCCTL]; omega))
  case clear =>
    intro h h0 hs
    have hu := Dev.wrote_faceState g d (F.GL_FCCTL_clear.put (d.rget (R.GL_FCCTL g)) 1)
    rw [← hu] at hs
    have hload : F.GL_FCCTL_load.get (F.GL_FCCTL_clear.put (d.rget (R.GL_FCCTL g)) 1) = 0 := (Fld.get_put_above _ _ _ (by decide) (by decide)).trans h0
    exact ⟨_, fun _ => exec_next rfl ((Dev.act_face g h _ _ false true _ (by rw [hload]; rfl) (by rw [Fld.get_put _ _ _ (by decide)]; rfl) rfl).trans
      (Dev.faceActs_clear g hs _)), Dev.faceEmpty_faceState g _⟩
  case runs =>
    intro h ha hs
    obtain ⟨h0, h1⟩ := Nat.add_eq_zero_iff.1 ha
    have hload : F.GL_FCCTL_load.get (F.GL_FCCTL_run.put (d.rget (R.GL_FCCTL g)) 1) = 0 := (Fld.get_put_above _ _ _ (by decide) (by decide)).trans h0
    have hclear : F.GL_FCCTL_clear.get (F.GL_FCCTL_run.put (d.rget (R.GL_FCCTL g)) 1) = 0 := (Fld.get_put_above _ _ _ (by decide) (by decide)).trans h1
    exact ⟨_, fun _ => exec_next rfl (Dev.act_face g h F.GL_FCCTL_run 1 false false true (by rw [hload]; rfl) (by rw [hclear]; rfl)
      (by rw [Fld.get_put _ _ _ (by decide)]; rfl)), Dev.faceActs_runs g ((Dev.wrote_faceState g d _).trans hs)⟩
  case stops =>
    intro h ha hs
    obtain ⟨h0, h1⟩ := Nat.add_eq_zero_iff.1 ha
    have hload : F.GL_FCCTL_load.get (F.GL_FCCTL_run.put (d.rget (R.GL_FCCTL g)) 0) = 0 := (Fld.get_put_above _ _ _ (by decide) (by decide)).trans h0
    have hclear : F.GL_FCCTL_clear.get (F.GL_FCCTL_run.put (d.rget (R.GL_FCCTL g)) 0) = 0 := (Fld.get_put_above _ _ _ (by decide) (by decide)).trans h1
    exact ⟨_, fun _ => exec_next rfl (Dev.act_face g h F.GL_FCCTL_run 0 false false false (by rw [hload]; rfl) (by rw [hclear]; rfl)
      (by rw [Fld.get_put _ _ _ (by decide)]; rfl)), Dev.faceActs_stops g ((Dev.wrote_faceState g d _).trans hs)⟩
  case debug =>
    intro n hn h
    obtain ⟨h0, h1, h2, h3⟩ := d.tcmd_one hn
    have hhalt : Does (.dbTcmdHalt src n false) d (d.holdThread n) := fun _ => exec_next rfl ((Dev.tcmdWrite_one h (by decide)).trans h0)
    have hresume : Does (.dbTcmdResume src n false) d (d.resumeThread n) := fun _ => exec_next rfl ((Dev.tcmdWrite_one h (by decide)).trans h1)
    have hstep : Does (.dbTcmdStep src n false) d (d.stepThread n) := fun _ => exec_next rfl ((Dev.tcmdWrite_one h (by decide)).trans h2)
    have hkill : Does (.dbTcmdKill src n false) d (d.killThread n 10) := fun _ => exec_next rfl ((Dev.tcmdWrite_one h (by decide)).trans h3)
    refine ⟨hhalt, hresume, hstep, hkill, fun hr q => (hhalt q).trans (by rw [Dev.holdThread_ready hr]),
      fun hh => ⟨fun q => (hstep q).trans (by rw [Dev.stepThread_held hh]), fun q => (hresume q).trans (by rw [Dev.resumeThread_held hh])⟩, ?_⟩
    intro hb q
    exact (hkill q).trans (by rw [Dev.killThread, if_neg (Bool.eq_false_iff.1 hb)])

end Sys2Proof.Machine
end

/-! ## Writes that start something at a control register (R12, R29, R46, R53 to R63, R89 to R92, R121, R122, R128, R251, R270, R283, R310, R352, R391, R410, R450, R467) -/
section
namespace Sys2Proof.Machine

/-! ### The register's own rule -/

theorem Dev.regEffect_lands {d : Dev} {src : Src} {id : RegId} {ix : List Nat} (hix : indexIn (regRow id).dims ix)
    (hb : blockIx id ≠ 0x40 ∧ blockIx id ≠ 0x20 ∧ id ≠ .PT_TSDLY) (h : d.lands src (regOf id ix) = true) (v : Word64) (pass : Bool) :
    d.busWrite src (regOf id ix).addr (regWidth id) v pass = d.regEffect id ix (d.rget (regOf id ix)) (d.eff id ix v) pass :=
  (Dev.busWrite_lands hix hb.1 h hb.2.2 v pass).trans (if_neg hb.2.1)

theorem Fld.put_bottom (f : Fld) (x : Nat) (hl : f.lo = 0) (hw : f.w ≤ 64) : (f.put 0 x).toNat = x % 2 ^ f.w := by
  have hx : x % 2 ^ f.w < 2 ^ 64 := Nat.lt_of_lt_of_le (Nat.mod_lt _ (Nat.two_pow_pos _)) (Nat.pow_le_pow_right (by decide) hw)
  have h0 : (0 : Word64).toNat = 0 := rfl
  rw [Fld.put, hl, BitVec.toNat_ofNat, h0, Nat.zero_sub, Nat.zero_add, Nat.pow_zero, Nat.mul_one, Nat.mod_eq_of_lt hx]

/-- A register of one field over all of it takes the value written. -/
theorem Fld.put_whole (v : Word64) {f : Fld} (hl : f.lo = 0) (hw : f.w = 64) : f.put 0 (f.get v) = v := by
  refine BitVec.eq_of_toNat_eq ?_
  rw [f.put_bottom _ hl (by omega), Fld.get, bitsOf, hl, hw, Nat.pow_zero, Nat.div_one, Nat.mod_mod]
  exact Nat.mod_eq_of_lt v.isLt

/-- What a refused write leaves of a field: one that its writer clears goes, and the others stay. -/
theorem Dev.get_regClears {id : RegId} {f : Fld} (hf : f ∈ (regRow id).flds) (d : Dev) (ix : List Nat) (old eff : Word64) (h : f.acc ≠ .rw1c ∨ f.get eff = 0) :
    f.get ((d.regClears id ix old eff).rget (regOf id ix)) = f.get old := by
  have hself : ∃ e, f.get e = f.get old ∧ f.get ((d.regClears id ix old eff).rget (regOf id ix)) = f.get (match f.acc with
      | .rw1c => BitVec.ofNat 64 (e.toNat - (f.get old &&& f.get eff) * 2 ^ f.lo)
      | _ => e) := by
    rw [Dev.regClears, Dev.rset_rget]
    refine Fld.get_foldl_self (step := fun (e : Word64) (f : Fld) =>
      match f.acc with
      | .rw1c => BitVec.ofNat 64 (e.toNat - (f.get old &&& f.get eff) * 2 ^ f.lo)
      | _ => e) (regRow_beside id) (fun g hg e he h hb => ?_) (fun _ _ => rfl) hf
    split
    · rw [← Fld.put_sub g e (he ▸ Nat.and_le_left)]
      exact Fld.get_put_beside (regRow_fit hg) hb ..
    · rfl
  obtain ⟨e, he, hg⟩ := hself
  rw [hg, ← he]
  split
  next ha =>
    rw [h.resolve_left (not_not_intro ha), Nat.and_zero, Nat.zero_mul, Nat.sub_zero, BitVec.ofNat_toNat, BitVec.setWidth_eq]
  · rfl

/-- A write that clears nothing leaves the register as it is. -/
theorem Dev.regClears_none (d : Dev) {id : RegId} (ix : List Nat) (old eff : Word64) (h : ∀ f ∈ (regRow id).flds, f.acc = .rw1c → f.get eff = 0) :
    d.regClears id ix old eff = d.rset (regOf id ix) old := by
  rw [Dev.regClears]
  congr 1
  generalize (regRow id).flds = l at h
  induction l with
  | nil => rfl
  | cons f rest ih =>
    rw [List.foldl_cons]
    split
    next ha =>
      rw [h f List.mem_cons_self ha, Nat.and_zero, Nat.zero_mul, Nat.sub_zero, BitVec.ofNat_toNat, BitVec.setWidth_eq]
      exact ih (fun g hg => h g (List.mem_cons_of_mem _ hg))
    · exact ih (fun g hg => h g (List.mem_cons_of_mem _ hg))

section
variable {d : Dev} {src : Src}

/-! ### Ports -/

section
variable (p : Fin 32)

theorem indexIn_PT_PCFG : indexIn (regRow .PT_PCFG).dims [p.val] := indexIn_one p.isLt

theorem indexIn_PT_GCLCTL : indexIn (regRow .PT_GCLCTL).dims [p.val] := indexIn_one p.isLt

theorem gclWord_commit (w length : Nat) : F.PT_GCLCTL_commit.get (BitVec.ofNat 64 (w * 2 ^ 32 + length * 2 ^ 11 + 1)) = 1 := by
  rw [Fld.get, BitVec.toNat_ofNat]
  simp only [bitsOf, F.PT_GCLCTL_commit]
  omega

/-- A gate list that is right becomes pending at its commit (R46). -/
theorem ptGclctlCommit_pends {w : Word32} {length : Fin 2048} (h : d.lands src (R.PT_GCLCTL p) = true) (hp : d.on (R.PT_GCLCTL p) F.PT_GCLCTL_pending = false)
    (ha : (d.wrote .PT_GCLCTL [p.val] (BitVec.ofNat 64 (w.toNat * 2 ^ 32 + length.val * 2 ^ 11 + 1))).adminOk p = true) :
    Does (.ptGclctlCommit src p w length) d (((d.wrote .PT_GCLCTL [p.val] (BitVec.ofNat 64 (w.toNat * 2 ^ 32 + length.val * 2 ^ 11 + 1))).wr (R.PT_GCLCTL p)
      F.PT_GCLCTL_pending 1).modPort p (fun x => { x with commitAt := d.now })) := by
  refine fun _ => exec_next rfl ((Dev.regEffect_lands (indexIn_PT_GCLCTL p) (by decide) h _ true).trans ?_)
  have hkept : (d.wrote .PT_GCLCTL [p.val] (BitVec.ofNat 64 (w.toNat * 2 ^ 32 + length.val * 2 ^ 11 + 1))).on (R.PT_GCLCTL p) F.PT_GCLCTL_pending = false :=
    (congrArg (· == 1) (Dev.rd_wrote_kept (by decide) (by decide) d [p.val] _)).trans hp
  have hgo : ((d.wrote .PT_GCLCTL [p.val] (BitVec.ofNat 64 (w.toNat * 2 ^ 32 + length.val * 2 ^ 11 + 1))).on (R.PT_GCLCTL p) F.PT_GCLCTL_pending
      || !(d.wrote .PT_GCLCTL [p.val] (BitVec.ofNat 64 (w.toNat * 2 ^ 32 + length.val * 2 ^ 11 + 1))).adminOk p) = false := by rw [hkept, ha]; rfl
  refine (if_neg ?_).trans ((if_pos ((Dev.get_eff (by decide) _ _ _).trans (gclWord_commit ..))).trans (if_neg (Bool.eq_false_iff.1 hgo)))
  refine Bool.eq_false_iff.1 ?_
  show (d.on (R.PT_GCLCTL p) F.PT_GCLCTL_pending && _) = false
  rw [hp, Bool.false_and]

/-- While a list is pending its length and its cycle stay (R46). -/
theorem ptGclctlCommit_refused {w : Word32} {length : Fin 2048} (h : d.lands src (R.PT_GCLCTL p) = true) (hp : d.on (R.PT_GCLCTL p) F.PT_GCLCTL_pending = true) :
    Does (.ptGclctlCommit src p w length) d ((d.regClears .PT_GCLCTL [p.val] (d.rget (R.PT_GCLCTL p))
      (d.eff .PT_GCLCTL [p.val] (BitVec.ofNat 64 (w.toNat * 2 ^ 32 + length.val * 2 ^ 11 + 1)))).wr (R.PT_GCLCTL p) F.PT_GCLCTL_err 1) := by
  refine fun _ => exec_next rfl ((Dev.regEffect_lands (indexIn_PT_GCLCTL p) (by decide) h _ true).trans (if_pos ?_))
  refine Bool.and_eq_true_iff.2 ⟨hp, ?_⟩
  refine (if_pos hp).trans ?_
  refine Bool.or_eq_true_iff.2 (.inl (Bool.or_eq_true_iff.2 (.inl ?_)))
  exact beq_iff_eq.2 ((Dev.get_eff (by decide) _ _ _).trans (gclWord_commit ..))

end

/-! ### The time base -/

theorem eff_TB_STEP (d : Dev) (v : Word64) : d.eff .TB_STEP [] v = v := Fld.put_whole v (f := F.TB_STEP_offset) rfl rfl

theorem toSigned_toNat (w : Word32) : toSigned 32 w.toNat = w.toInt := by
  have := w.isLt
  rw [toSigned, BitVec.toInt_eq_toNat_cond, Nat.mod_eq_of_lt w.isLt]
  split <;> split <;> omega

theorem eff_TB_FREQ (d : Dev) (w : Word32) : toSigned 32 (d.eff .TB_FREQ [] (w.setWidth 64)).toNat = w.toInt := by
  have hput : (d.eff .TB_FREQ [] (w.setWidth 64)).toNat = F.TB_FREQ_steer.get (w.setWidth 64 &&& 0xFFFFFFFF) % 2 ^ 32 :=
    F.TB_FREQ_steer.put_bottom _ rfl (by decide)
  have hget : F.TB_FREQ_steer.get (w.setWidth 64) = w.toNat := by
    have := w.isLt
    rw [Fld.get, BitVec.toNat_setWidth, Nat.mod_eq_of_lt (b := 2 ^ 64) (by omega)]
    simp only [bitsOf, F.TB_FREQ_steer]
    omega
  rw [hput, Fld.get_low (by decide), hget, Nat.mod_eq_of_lt w.isLt, toSigned_toNat]

theorem tbStepWrite_does {v : Word64} {f : Dev} (h : d.lands src R.TB_STEP = true) (hv : d.tbStepWrite v = f) : Does (.tbStepWrite src v) d f := by
  refine fun _ => exec_next rfl ((Dev.regEffect_lands (id := .TB_STEP) (ix := []) indexIn_none (by decide) h v true).trans ?_)
  show d.tbStepWrite (d.eff .TB_STEP [] v) = f
  rw [eff_TB_STEP, hv]

theorem tbStepWrite_asks {d : Dev} {v : Word64} (hs : d.tbSt = 1) (he : d.on R.TB_CTL F.TB_CTL_step_en = true) (hv : v ≠ 0) :
    d.tbStepWrite v = d.askStep v.toInt := by
  have hgo : (decide (d.tbSt ≠ 1) || !d.on R.TB_CTL F.TB_CTL_step_en) = false := by rw [hs, he]; rfl
  exact (if_neg (Bool.eq_false_iff.1 hgo)).trans (if_neg hv)

theorem tbStepWrite_refused {d : Dev} {v : Word64} (h : d.tbSt ≠ 1 ∨ d.on R.TB_CTL F.TB_CTL_step_en = false) :
    d.tbStepWrite v = d.wr R.TB_STAT F.TB_STAT_step_ref 1 := by
  have hgo : (decide (d.tbSt ≠ 1) || !d.on R.TB_CTL F.TB_CTL_step_en) = true := by
    rcases h with h | h
    · rw [decide_eq_true h]
      rfl
    · rw [h]
      exact Bool.or_true _
  exact if_pos hgo

theorem tbFreqWrite_does {w : Word32} {f : Dev} (h : d.lands src R.TB_FREQ = true) (hv : d.tbFreqWrite (d.eff .TB_FREQ [] (w.setWidth 64)).toNat = f) :
    Does (.tbFreqWrite src w) d f :=
  fun _ => exec_next rfl ((Dev.regEffect_lands (id := .TB_FREQ) (ix := []) indexIn_none (by decide) h (w.setWidth 64) true).trans hv)

theorem tbUtcWrite_sets {d : Dev} {u : Word64} (h : F.TB_UTC_leap.get u = 0 ∨ d.taiLow < F.TB_UTC_leap_tai.get u) : d.tbUtcWrite u = d.setUtc u := by
  have hgo : (decide (F.TB_UTC_leap.get u ≠ 0) && decide (F.TB_UTC_leap_tai.get u ≤ d.taiLow)) = false := by
    rcases h with h | h
    · rw [h]
      rfl
    · rw [decide_eq_false (Nat.not_le.2 h), Bool.and_false]
  exact if_neg (Bool.eq_false_iff.1 hgo)

/-! ### The switch and the tokens -/

theorem eff_XC_PLMAP (d : Dev) (v : Word64) : d.eff .XC_PLMAP [] v = v := Fld.put_whole v (f := F.XC_PLMAP_map) rfl rfl

theorem xcPlmapWrite_does {v : Word64} (h : d.lands src R.XC_PLMAP = true) : Does (.xcPlmapWrite src v) d (d.plmapWrite v) := by
  refine fun _ => exec_next rfl ((Dev.regEffect_lands (id := .XC_PLMAP) (ix := []) indexIn_none (by decide) h v true).trans ?_)
  show d.plmapWrite (d.eff .XC_PLMAP [] v) = _
  rw [eff_XC_PLMAP]

theorem plmapWrite_map {d : Dev} {v : Word64} (h : (d.rget R.XC_PLMAP ^^^ v) &&& d.rget R.XC_PLMOVE = 0) : (d.plmapWrite v).rget R.XC_PLMAP = v := by
  simp only [Dev.plmapWrite, if_neg (not_not_intro h)]
  exact (Dev.rset_rget_of_ne _ _ (by decide)).trans (Dev.rset_rget ..)

theorem indexIn_TK_CHAN (c : Fin 1024) : indexIn (regRow .TK_CHAN).dims [c.val] := indexIn_one c.isLt

theorem tkChanWrite_does {c : Fin 1024} {v : Word64} (h : d.lands src (R.TK_CHAN c) = true) :
    Does (.tkChanWrite src c v) d (d.chanWrite c (d.eff .TK_CHAN [c.val] v)) :=
  fun _ => exec_next rfl (Dev.regEffect_lands (indexIn_TK_CHAN c) (by decide) h v true)

theorem chanWrite_fields {d : Dev} {c : Nat} {v : Word64} (h : d.chanBad c v = false) : (d.chanWrite c v).rd (R.TK_CHAN c) F.TK_CHAN_depth
    = F.TK_CHAN_depth.get v ∧ (d.chanWrite c v).rd (R.TK_CHAN c) F.TK_CHAN_gal_mask = F.TK_CHAN_gal_mask.get v := by
  simp only [Dev.chanWrite, h, Bool.false_eq_true, if_false]
  exact ⟨(Dev.rd_wr_beside _ _ _ _ (by decide) (by decide)).trans ((Dev.rd_wr_self _ _ _ _ (by decide)).trans (Nat.mod_eq_of_lt (Fld.get_lt ..))),
    (Dev.rd_wr_self _ _ _ _ (by decide)).trans (Nat.mod_eq_of_lt (Fld.get_lt ..))⟩

theorem tkFrel_does {lock : Fin 4096} (h : d.lands src R.TK_FREL = true) : Does (.tkFrel src lock) d (d.abandonLock lock 4) := by
  have hl := lock.isLt
  refine fun _ => exec_next rfl ((Dev.regEffect_lands (id := .TK_FREL) (ix := []) indexIn_none (by decide) h ((BitVec.ofNat 32 lock).setWidth 64) true).trans ?_)
  have hlock : F.TK_FREL_lock.get (d.eff .TK_FREL [] ((BitVec.ofNat 32 lock).setWidth 64)) = lock := by
    rw [Dev.get_eff (by decide), Fld.get_ofNat32]
    simp only [bitsOf, F.TK_FREL_lock]
    omega
  exact congrArg (fun n => d.forceRelease n) hlock

/-! ### Templates, the sweep and the queue pairs -/

theorem indexIn_DR_TCTL (t : Fin 256) : indexIn (regRow .DR_TCTL).dims [t.val] := indexIn_one t.isLt

/-- A write of a small number brings each field its own bits. -/
theorem Fld.get_ofNat (f : Fld) {x : Nat} (h : x < 2 ^ 64) : f.get (BitVec.ofNat 64 x) = bitsOf x f.lo f.w := by
  rw [Fld.get, BitVec.toNat_ofNat, Nat.mod_eq_of_lt h]

/-- A template's switch goes by its own bit alone (R128). -/
theorem drTctlEn_does {t : Fin 256} (en : Bool) (h : d.lands src (R.DR_TCTL t) = true) (hne : d.on (R.DR_TCTL t) F.DR_TCTL_en ≠ en) :
    Does (.drTctlEn src t en) d ((d.rset (R.DR_TCTL t) (d.rget (R.DR_TCTL t))).tmplEnable t en) := by
  refine fun _ => exec_next rfl ((Dev.regEffect_lands (indexIn_DR_TCTL t) (by decide) h (BitVec.ofNat 64 (b2n en)) true).trans ?_)
  have hget (f : Fld) (hf : (regRow .DR_TCTL).takes f = true) : f.get (d.eff .DR_TCTL [t.val] (BitVec.ofNat 64 (b2n en))) = bitsOf (b2n en) f.lo f.w :=
    (Dev.get_eff hf _ _ _).trans (f.get_ofNat (by cases en <;> decide))
  have hen : F.DR_TCTL_en.get (d.eff .DR_TCTL [t.val] (BitVec.ofNat 64 (b2n en))) = b2n en := by
    rw [hget _ (by decide)]
    cases en <;> rfl
  have hclear : d.regClears .DR_TCTL [t.val] (d.rget (R.DR_TCTL t)) (d.eff .DR_TCTL [t.val] (BitVec.ofNat 64 (b2n en)))
      = d.rset (R.DR_TCTL t) (d.rget (R.DR_TCTL t)) := by
    refine Dev.regClears_none d [t.val] _ _ (fun f hf ha => ?_)
    simp only [regRow, Row.DR_TCTL, List.mem_cons, List.not_mem_nil, or_false] at hf
    rcases hf with rfl | rfl | rfl | rfl
    · cases ha
    · rw [hget _ (by decide)]
      cases en <;> rfl
    · rw [hget _ (by decide)]
      cases en <;> rfl
    · cases ha
  have hchange : ¬ F.DR_TCTL_en.get (d.eff .DR_TCTL [t.val] (BitVec.ofNat 64 (b2n en))) = F.DR_TCTL_en.get (d.rget (R.DR_TCTL t)) := by
    rw [hen]
    intro hold
    refine hne ?_
    rw [Dev.on, Dev.rd, ← hold]
    cases en <;> rfl
  show (if F.DR_TCTL_en.get (d.eff .DR_TCTL [t.val] (BitVec.ofNat 64 (b2n en))) = F.DR_TCTL_en.get (d.rget (R.DR_TCTL t)) then _
    else Dev.tmplEnable _ t _) = _
  rw [if_neg hchange, hen]
  exact congrArg₂ (fun (e : Dev) b => e.tmplEnable t b) hclear (by cases en <;> rfl)

/-- What a flush of the store is asked for with. -/
def sweepWord (d : Dev) (kind : Nat) (pin : Bool) : Word64 :=
  F.LD_SWEEP_flush.put (F.LD_SWEEP_flush_pin.put (F.LD_SWEEP_flush_kind.put (d.rget R.LD_SWEEP) kind) (b2n pin)) 1

theorem ldSweepFlush_does {kind : Fin 256} {pin : Bool} (h : d.lands src R.LD_SWEEP = true) :
    Does (.ldSweepFlush src kind pin) d (d.wrote .LD_SWEEP [] (sweepWord d kind pin)).sweepFlush :=
  fun _ => exec_next rfl ((Dev.regEffect_lands (id := .LD_SWEEP) (ix := []) indexIn_none (by decide) h (sweepWord d kind pin) true).trans
    (if_pos (Dev.get_eff_put (by decide) _ _ _ _)))

theorem sweepFlush_fields (d : Dev) (kind : Fin 256) (pin : Bool) : (d.wrote .LD_SWEEP [] (sweepWord d kind pin)).sweepFlush.rd R.LD_SWEEP F.LD_SWEEP_flushing = 1
    ∧ (d.wrote .LD_SWEEP [] (sweepWord d kind pin)).sweepFlush.rd R.LD_SWEEP F.LD_SWEEP_flush_kind = kind.val
    ∧ (d.wrote .LD_SWEEP [] (sweepWord d kind pin)).sweepFlush.rd R.LD_SWEEP F.LD_SWEEP_flush_pin = b2n pin := by
  have hreg (e : Dev) (f : Fld) : e.sweepFlush.rd R.LD_SWEEP f = (e.wr R.LD_SWEEP F.LD_SWEEP_flushing 1).rd R.LD_SWEEP f :=
    congrArg f.get (Dev.rget_of_regs rfl _)
  have hbeside (e : Dev) (f : Fld) (hf : f.lo + f.w ≤ F.LD_SWEEP_flushing.lo ∨ F.LD_SWEEP_flushing.lo + F.LD_SWEEP_flushing.w ≤ f.lo) :
      (e.wr R.LD_SWEEP F.LD_SWEEP_flushing 1).rd R.LD_SWEEP f = e.rd R.LD_SWEEP f := Dev.rd_wr_beside _ _ _ _ (by decide) hf
  refine ⟨(hreg ..).trans (Dev.rd_wr_self _ _ _ _ (by decide)), ?_, ?_⟩
  · rw [hreg, hbeside _ _ (by decide)]
    refine (Dev.rd_wrote (id := .LD_SWEEP) (ix := []) (by decide) (by decide) (by decide) d _).trans ?_
    rw [sweepWord, Fld.get_put_above _ _ _ (by decide) (by decide), Fld.get_put_above _ _ _ (by decide) (by decide), Fld.get_put _ _ _ (by decide)]
    exact Nat.mod_eq_of_lt kind.isLt
  · rw [hreg, hbeside _ _ (by decide)]
    refine (Dev.rd_wrote (id := .LD_SWEEP) (ix := []) (by decide) (by decide) (by decide) d _).trans ?_
    rw [sweepWord, Fld.get_put_above _ _ _ (by decide) (by decide), Fld.get_put _ _ _ (by decide)]
    cases pin <;> rfl

theorem indexIn_HI_QCFG (q : Fin 1024) : indexIn (regRow .HI_QCFG).dims [q.val] := indexIn_one q.isLt

/-- A pair that is off and stays off takes its configuration and nothing else (R345). -/
theorem qcfgWrite_off {d : Dev} {q : Nat} {x : Word64} (hb : d.qcfgBad q x = false) (h1 : F.HI_QCFG_rx_en.get x = 0)
    (h2 : F.HI_QCFG_rx_en.get (d.rget (R.HI_QCFG q)) = 0) (h3 : F.HI_QCFG_tx_en.get x = 0) (h4 : F.HI_QCFG_tx_en.get (d.rget (R.HI_QCFG q)) = 0) :
    (d.qcfgWrite q x).2 = d.rset (R.HI_QCFG q) x := by
  simp only [Dev.qcfgWrite, hb, h1, h2, h3, h4, Bool.false_eq_true, if_false, if_true, Nat.reduceEqDiff]

/-! ### Sparing, domains and the warm reset -/

/-- What SM_SPARE is written with to spare a channel. -/
def spareWord (chan : Nat) : Word64 := BitVec.ofNat 64 (32 + chan)

theorem smSpareStart_does {chan : Fin 8} (h : d.lands src R.SM_SPARE = true) :
    Does (.smSpareStart src chan) d ((d.wrote .SM_SPARE [] (spareWord chan)).spareRequest chan) := by
  have hc := chan.isLt
  refine fun _ => exec_next rfl ((Dev.regEffect_lands (id := .SM_SPARE) (ix := []) indexIn_none (by decide) h (spareWord chan) true).trans ?_)
  have hstart : F.SM_SPARE_start.get (d.eff .SM_SPARE [] (spareWord chan)) = 1 := by
    rw [Dev.get_eff (by decide), spareWord, Fld.get_ofNat _ (by omega)]
    simp only [bitsOf, F.SM_SPARE_start]
    omega
  have hsrc : F.SM_SPARE_src.get (d.eff .SM_SPARE [] (spareWord chan)) = chan := by
    rw [Dev.get_eff (by decide), spareWord, Fld.get_ofNat _ (by omega)]
    simp only [bitsOf, F.SM_SPARE_src]
    omega
  exact (if_pos hstart).trans (congrArg (fun n => (d.wrote .SM_SPARE [] (spareWord chan)).spareRequest n) hsrc)

theorem Dev.smSpare_congr {d e : Dev} (h : ∀ r : Reg, r.addr ≠ R.SM_SPARE.addr → e.rget r = d.rget r) : e.smSpare = d.smSpare := by
  have hst (c : Nat) : e.smState c = d.smState c :=
    congrArg F.SM_CHSTAT_state.get (h (R.SM_CHSTAT c) (by simp only [R.SM_CHSTAT, R.SM_SPARE]; omega))
  have hfence : e.rd R.RL_FENCE F.RL_FENCE_seam_ch = d.rd R.RL_FENCE F.RL_FENCE_seam_ch := congrArg F.RL_FENCE_seam_ch.get (h R.RL_FENCE (by decide))
  simp only [Dev.smSpare, hst, hfence]

section
variable {d u : Dev} {n : Nat} (hr : ∀ r : Reg, r.addr ≠ R.SM_SPARE.addr → u.rget r = d.rget r)
  (hk : u.rd R.SM_SPARE F.SM_SPARE_busy = d.rd R.SM_SPARE F.SM_SPARE_busy)
include hr hk

theorem Dev.spareGuard : ((u.wr R.SM_SPARE F.SM_SPARE_src n).on R.SM_SPARE F.SM_SPARE_busy || (u.wr R.SM_SPARE F.SM_SPARE_src n).smSpare.isNone || decide (3 < n)
    || decide ((u.wr R.SM_SPARE F.SM_SPARE_src n).smState n ≠ 2))
      = (d.on R.SM_SPARE F.SM_SPARE_busy || d.smSpare.isNone || decide (3 < n) || decide (d.smState n ≠ 2)) := by
  have hall (r : Reg) (h : r.addr ≠ R.SM_SPARE.addr) : (u.wr R.SM_SPARE F.SM_SPARE_src n).rget r = d.rget r := (Dev.rget_wr_other _ _ _ _ h).trans (hr r h)
  have hbusy : (u.wr R.SM_SPARE F.SM_SPARE_src n).on R.SM_SPARE F.SM_SPARE_busy = d.on R.SM_SPARE F.SM_SPARE_busy :=
    congrArg (· == 1) ((Dev.rd_wr_beside _ _ _ _ (by decide) (by decide)).trans hk)
  have hst : (u.wr R.SM_SPARE F.SM_SPARE_src n).smState n = d.smState n :=
    congrArg F.SM_CHSTAT_state.get (hall (R.SM_CHSTAT n) (by simp only [R.SM_CHSTAT, R.SM_SPARE]; omega))
  rw [hbusy, Dev.smSpare_congr hall, hst]

theorem Dev.spareRequest_starts (hn : n < 4) (hb : d.on R.SM_SPARE F.SM_SPARE_busy = false) (hs : d.smSpare.isSome = true) (ht : d.smState n = 2) :
    u.spareRequest n = (u.wr R.SM_SPARE F.SM_SPARE_src n).spareStart n true := by
  have hno : d.smSpare.isNone = false := by
    rw [← Option.not_isSome, hs]
    rfl
  refine if_neg (Bool.eq_false_iff.1 ((Dev.spareGuard hr hk).trans ?_))
  rw [hb, hno, decide_eq_false (by omega), ht]
  rfl

theorem Dev.spareRequest_busy (hb : d.on R.SM_SPARE F.SM_SPARE_busy = true) :
    u.spareRequest n = (u.wr R.SM_SPARE F.SM_SPARE_src n).wr R.SM_SPARE F.SM_SPARE_err 1 := by
  refine if_pos ((Dev.spareGuard hr hk).trans ?_)
  rw [hb]
  rfl

end

theorem indexIn_PW_DOM (k : Fin 50) : indexIn (regRow .PW_DOM).dims [k.val] := indexIn_one k.isLt

theorem pwDomReq_does {dom : Fin 50} {req : Fin 4} (h : d.lands src (R.PW_DOM dom) = true) :
    Does (.pwDomReq src dom req) d ((d.rset (R.PW_DOM dom) (d.rget (R.PW_DOM dom))).domReq dom req) := by
  have hr := req.isLt
  refine fun _ => exec_next rfl ((Dev.regEffect_lands (indexIn_PW_DOM dom) (by decide) h ((BitVec.ofNat 32 req).setWidth 64) true).trans ?_)
  have hget (f : Fld) (hf : (regRow .PW_DOM).takes f = true) : f.get (d.eff .PW_DOM [dom.val] ((BitVec.ofNat 32 req).setWidth 64)) = bitsOf req f.lo f.w := by
    rw [Dev.get_eff hf, Fld.get_ofNat32, Nat.mod_eq_of_lt (by omega)]
  have hreq : F.PW_DOM_req.get (d.eff .PW_DOM [dom.val] ((BitVec.ofNat 32 req).setWidth 64)) = req := by
    rw [hget _ (by decide)]
    simp only [bitsOf, F.PW_DOM_req]
    omega
  have hclear : d.regClears .PW_DOM [dom.val] (d.rget (R.PW_DOM dom)) (d.eff .PW_DOM [dom.val] ((BitVec.ofNat 32 req).setWidth 64))
      = d.rset (R.PW_DOM dom) (d.rget (R.PW_DOM dom)) := by
    refine Dev.regClears_none d [dom.val] _ _ (fun f hf ha => ?_)
    simp only [regRow, Row.PW_DOM, List.mem_cons, List.not_mem_nil, or_false] at hf
    rcases hf with rfl | rfl | rfl | rfl
    · cases ha
    · rw [hget _ (by decide)]
      simp only [bitsOf, F.PW_DOM_err]
      omega
    · cases ha
    · cases ha
  exact congrArg₂ (fun (e : Dev) n => e.domReq dom n) hclear hreq

/-- A domain that is off and may come on is switched on (R448). -/
theorem Dev.domReq_on {d : Dev} {dom : Nat} (h : d.domRefused dom 1 = false) (hs : d.domSt dom = 0) :
    d.domReq dom 1 = (d.wr (R.PW_DOM dom) F.PW_DOM_req 1).rampAsk dom := by
  have hgo : (decide ((1 : Nat) = 1) && decide (d.domSt dom = 0)) = true := by rw [hs]; rfl
  exact (if_neg (Bool.eq_false_iff.1 h)).trans (if_pos hgo)

theorem syRstWarm_does (h : d.lands src R.SY_RST = true) : Does (.syRstWarm src) d d.warmRequest := by
  refine fun _ => exec_next rfl ((Dev.regEffect_lands (id := .SY_RST) (ix := []) indexIn_none (by decide) h ((1 : Word32).setWidth 64) true).trans (if_pos ?_))
  rw [Dev.get_eff (by decide)]
  rfl

end

end Sys2Proof.Machine
end

/-! ## Rule versions, the tables' DMA, rule commands and forced actions (R89 to R92, R121, R122, R410) -/
section
namespace Sys2Proof.Machine

section
variable {d : Dev} {src : Src}

/-! ### A rule version is committed or retired -/

/-- AS_RVER written with its own value. -/
def Dev.rverKept (d : Dev) : Dev := d.rset R.AS_RVER (d.rget R.AS_RVER)

/-- A write of AS_RVER without its error bit goes by its two commands, the retirement first (R92). -/
theorem asRver_does {v : Nat} (h : d.lands src R.AS_RVER = true) (hv : v < 2 ^ 64) (he : bitsOf v 1 1 = 0) :
    d.busWrite src R.AS_RVER.addr 8 (BitVec.ofNat 64 v) true =
      if bitsOf v 0 1 = 1 then (if bitsOf v 2 1 = 1 then d.rverKept.ruleRetire else d.rverKept).ruleCommit.2
      else if bitsOf v 2 1 = 1 then d.rverKept.ruleRetire else d.rverKept := by
  refine (Dev.regEffect_lands (id := .AS_RVER) (ix := []) indexIn_none (by decide) h (BitVec.ofNat 64 v) true).trans ?_
  have hget (f : Fld) (hf : (regRow .AS_RVER).takes f = true) : f.get (d.eff .AS_RVER [] (BitVec.ofNat 64 v)) = bitsOf v f.lo f.w :=
    (Dev.get_eff hf _ _ _).trans (f.get_ofNat hv)
  have hclear : d.regClears .AS_RVER [] (d.rget R.AS_RVER) (d.eff .AS_RVER [] (BitVec.ofNat 64 v)) = d.rverKept := by
    refine Dev.regClears_none d [] _ _ (fun f hf ha => ?_)
    simp only [regRow, Row.AS_RVER, List.mem_cons, List.not_mem_nil, or_false] at hf
    rcases hf with rfl | rfl | rfl | rfl | rfl | rfl | rfl | rfl | rfl
    case inr.inr.inr.inr.inr.inr.inr.inl => exact (hget _ (by decide)).trans he
    all_goals cases ha
  have hcommit : F.AS_RVER_commit.get (d.eff .AS_RVER [] (BitVec.ofNat 64 v)) = bitsOf v 0 1 := hget _ (by decide)
  have hretire : F.AS_RVER_retire.get (d.eff .AS_RVER [] (BitVec.ofNat 64 v)) = bitsOf v 2 1 := hget _ (by decide)
  show (if F.AS_RVER_commit.get (d.eff .AS_RVER [] (BitVec.ofNat 64 v)) = 1 then
      (if F.AS_RVER_retire.get (d.eff .AS_RVER [] (BitVec.ofNat 64 v)) = 1 then Dev.ruleRetire (d.regClears .AS_RVER [] (d.rget R.AS_RVER) (d.eff .AS_RVER [] (BitVec.ofNat 64 v)))
        else d.regClears .AS_RVER [] (d.rget R.AS_RVER) (d.eff .AS_RVER [] (BitVec.ofNat 64 v))).ruleCommit.2
    else (if F.AS_RVER_retire.get (d.eff .AS_RVER [] (BitVec.ofNat 64 v)) = 1 then Dev.ruleRetire (d.regClears .AS_RVER [] (d.rget R.AS_RVER) (d.eff .AS_RVER [] (BitVec.ofNat 64 v)))
      else d.regClears .AS_RVER [] (d.rget R.AS_RVER) (d.eff .AS_RVER [] (BitVec.ofNat 64 v)))) = _
  rw [hclear, hcommit, hretire]

theorem asRverCommit_does (h : d.lands src R.AS_RVER = true) : Does (.asRverCommit src) d d.rverKept.ruleCommit.2 := by
  have hbus := (asRver_does (v := 1) h (by decide) (by decide)).trans (if_pos (by decide))
  rw [if_neg (by decide)] at hbus
  exact fun _ => exec_next rfl hbus

theorem asRverRetire_does (h : d.lands src R.AS_RVER = true) : Does (.asRverRetire src false) d d.rverKept.ruleRetire := by
  have hbus := (asRver_does (v := 4) h (by decide) (by decide)).trans (if_neg (by decide))
  rw [if_pos (by decide)] at hbus
  exact fun _ => exec_next rfl hbus

theorem asRverRetire_commits (h : d.lands src R.AS_RVER = true) : Does (.asRverRetire src true) d d.rverKept.ruleRetire.ruleCommit.2 := by
  have hbus := (asRver_does (v := 5) h (by decide) (by decide)).trans (if_pos (by decide))
  rw [if_pos (by decide)] at hbus
  exact fun _ => exec_next rfl hbus

/-- A register written with its own value reads as before. -/
theorem Dev.rverKept_rd (d : Dev) (f : Fld) : d.rverKept.rd R.AS_RVER f = d.rd R.AS_RVER f := congrArg f.get (Dev.rset_rget ..)

/-- What a commit leaves (R90, R91). -/
theorem Dev.ruleCommit_taken {d : Dev} (hp : d.on R.AS_RVER F.AS_RVER_prev_live = false) (hs : d.stageReady = true) :
    d.ruleCommit.2.curVer = (d.curVer + 1) % 16 ∧ d.ruleCommit.2.curSlot = 1 - d.curSlot ∧ d.ruleCommit.2.on R.AS_RVER F.AS_RVER_prev_live = true
      ∧ d.ruleCommit.2.stageReady = false ∧ d.ruleCommit.2.rd R.AS_RVER F.AS_RVER_prev_ver = d.curVer := by
  have hgo : (d.on R.AS_RVER F.AS_RVER_prev_live || !d.stageReady) = false := by rw [hp, hs]; rfl
  have hv : d.curVer < 16 := Fld.get_lt ..
  have hsl : d.curSlot < 2 := Fld.get_lt ..
  simp only [Dev.ruleCommit, hgo, Bool.false_eq_true, if_false]
  simp (disch := decide) only [Dev.curVer, Dev.curSlot, Dev.stageReady, Dev.on, Dev.rd_wr_self, Dev.rd_wr_beside]
  simp only [Dev.curVer, Dev.curSlot] at hv hsl
  refine ⟨?_, ?_, rfl, rfl, ?_⟩
  · exact Nat.mod_mod ..
  · exact Nat.mod_eq_of_lt (by simp only [F.AS_RVER_cur_slot]; omega)
  · exact Nat.mod_eq_of_lt hv

theorem Dev.ruleCommit_regs (d : Dev) : (∀ r : Reg, r.addr ≠ R.AS_RVER.addr → d.ruleCommit.2.rget r = d.rget r)
    ∧ d.ruleCommit.2 = { d with regs := d.ruleCommit.2.regs } := by
  rw [Dev.ruleCommit]
  split
  · exact ⟨fun r hr => Dev.rget_wr_other _ _ _ _ hr, rfl⟩
  · refine ⟨fun r hr => ?_, rfl⟩
    simp (disch := exact hr) only [Dev.rget_wr_other]

theorem Dev.ruleCommit_refused {d : Dev} (hp : d.on R.AS_RVER F.AS_RVER_prev_live = true) : d.ruleCommit.2 = d.wr R.AS_RVER F.AS_RVER_err 1 := by
  have hgo : (d.on R.AS_RVER F.AS_RVER_prev_live || !d.stageReady) = true := by rw [hp]; rfl
  rw [Dev.ruleCommit, if_pos hgo]

/-- While a version drains, its retirement ends it for every frame that still counts (R92). -/
theorem ruleRetire_live (h : d.on R.AS_RVER F.AS_RVER_prev_live = true) : d.rverKept.ruleRetire =
    (({ d.rverKept with frames := d.rverKept.frames.map (fun (e : Nat × Frame) =>
      (e.1, if e.2.counts && e.2.ver == d.rd R.AS_RVER F.AS_RVER_prev_ver then { e.2 with retired := true } else e.2)) } : Dev).wr
        R.AS_RVER F.AS_RVER_prev_cnt 0).prevEnds := by
  have hgo : (!d.rverKept.on R.AS_RVER F.AS_RVER_prev_live) = false := by rw [Dev.on, d.rverKept_rd, ← Dev.on, h]; rfl
  rw [Dev.ruleRetire, if_neg (Bool.eq_false_iff.1 hgo), d.rverKept_rd]

/-! ### The tables' DMA and its lock -/

theorem stDmactl_does (h : d.lands src R.ST_DMACTL = true) (v : Word64) :
    d.write64 src R.ST_DMACTL v = d.dmaCtlWrite (d.eff .ST_DMACTL [] v) :=
  Dev.regEffect_lands (id := .ST_DMACTL) (ix := []) indexIn_none (by decide) h v true

/-- The fields of a transfer as they are written. -/
def Dev.dmaSet (d : Dev) (v : Word64) : Dev :=
  [F.ST_DMACTL_count, F.ST_DMACTL_index, F.ST_DMACTL_tbl, F.ST_DMACTL_op].foldl (fun d f => d.wr R.ST_DMACTL f (f.get v)) d

theorem Dev.dmaSet_rd (d : Dev) (v : Word64) : (d.dmaSet v).rd R.ST_DMACTL F.ST_DMACTL_count = F.ST_DMACTL_count.get v
    ∧ (d.dmaSet v).rd R.ST_DMACTL F.ST_DMACTL_index = F.ST_DMACTL_index.get v ∧ (d.dmaSet v).rd R.ST_DMACTL F.ST_DMACTL_tbl = F.ST_DMACTL_tbl.get v
    ∧ (d.dmaSet v).rd R.ST_DMACTL F.ST_DMACTL_busy = d.rd R.ST_DMACTL F.ST_DMACTL_busy
    ∧ (d.dmaSet v).rd R.ST_DMACTL F.ST_DMACTL_lock = d.rd R.ST_DMACTL F.ST_DMACTL_lock := by
  simp (disch := decide) only [Dev.dmaSet, List.foldl_cons, List.foldl_nil, Dev.rd_wr_self, Dev.rd_wr_beside, and_true]
  exact ⟨Nat.mod_eq_of_lt (Fld.get_lt ..), Nat.mod_eq_of_lt (Fld.get_lt ..), Nat.mod_eq_of_lt (Fld.get_lt ..)⟩

section
variable {v : Word64} (he : F.ST_DMACTL_err.get v = 0)
include he

/-- While the tables are unlocked and idle a write with start begins a transfer (R121). -/
theorem Dev.dmaCtlWrite_start (hl : d.on R.ST_DMACTL F.ST_DMACTL_lock = false) (hb : d.on R.ST_DMACTL F.ST_DMACTL_busy = false)
    (hs : F.ST_DMACTL_start.get v = 1) (hv : F.ST_DMACTL_lock.get v = 0) : d.dmaCtlWrite v = (d.dmaSet v).dmaStart := by
  simp only [Dev.dmaCtlWrite, he, hl, hb, hs, hv, Nat.reduceEqDiff, if_false, Bool.false_and, Bool.and_false, Bool.false_eq_true, if_true]
  rfl

/-- The lock of the tables (R122). -/
theorem Dev.dmaCtlWrite_lock (hl : d.on R.ST_DMACTL F.ST_DMACTL_lock = false) (hs : F.ST_DMACTL_start.get v = 0) (hv : F.ST_DMACTL_lock.get v = 1) :
    d.dmaCtlWrite v = (d.dmaSet v).wr R.ST_DMACTL F.ST_DMACTL_lock 1 := by
  simp only [Dev.dmaCtlWrite, he, hl, hs, hv, Nat.reduceEqDiff, if_false, Bool.false_and, decide_false, Bool.false_eq_true, if_true]
  rfl

theorem Dev.dmaCtlWrite_unlock (hl : d.on R.ST_DMACTL F.ST_DMACTL_lock = true) (ht : F.ST_DMACTL_tbl.get v = d.rd R.ST_DMACTL F.ST_DMACTL_tbl)
    (hs : F.ST_DMACTL_start.get v = 0) (hv : F.ST_DMACTL_lock.get v = 0) : d.dmaCtlWrite v = (d.dmaSet v).unlock := by
  simp only [Dev.dmaCtlWrite, he, hl, hs, hv, ht, Nat.reduceEqDiff, if_false, Bool.false_and, decide_false, Bool.false_eq_true, if_true, ne_eq,
    not_true_eq_false, Bool.and_false]
  rfl

end

theorem Dev.dmaStart_none {d : Dev} (h : d.rd R.ST_DMACTL F.ST_DMACTL_count = 0) : d.dmaStart.on R.ST_DMACTL F.ST_DMACTL_err = true := by
  have hgo : (d.on R.ST_DMACTL F.ST_DMACTL_busy || decide (d.rd R.ST_DMACTL F.ST_DMACTL_count = 0) || decide (4 < d.rd R.ST_DMACTL F.ST_DMACTL_tbl)
      || decide (tblSize (d.rd R.ST_DMACTL F.ST_DMACTL_tbl) < d.rd R.ST_DMACTL F.ST_DMACTL_index + d.rd R.ST_DMACTL F.ST_DMACTL_count)) = true := by
    rw [decide_eq_true h, Bool.or_true]
    rfl
  have herr : d.dmaStart = d.wr R.ST_DMACTL F.ST_DMACTL_err 1 := if_pos hgo
  rw [herr, Dev.on, Dev.rd_wr_self _ _ _ _ (by decide)]
  rfl

theorem Dev.dmaStart_starts {d : Dev} {n i tbl : Nat} (hb : d.rd R.ST_DMACTL F.ST_DMACTL_busy = 0) (hl : d.rd R.ST_DMACTL F.ST_DMACTL_lock = 0)
    (hn : d.rd R.ST_DMACTL F.ST_DMACTL_count = n) (hi : d.rd R.ST_DMACTL F.ST_DMACTL_index = i) (ht : d.rd R.ST_DMACTL F.ST_DMACTL_tbl = tbl)
    (h0 : n ≠ 0) (h4 : tbl ≤ 4) (hsize : i + n ≤ tblSize tbl) : d.dmaStart.on R.ST_DMACTL F.ST_DMACTL_busy = true
      ∧ d.dmaStart.rd R.ST_DMASTAT F.ST_DMASTAT_done = n % 2 ^ F.ST_DMASTAT_done.w := by
  have hgo : (d.on R.ST_DMACTL F.ST_DMACTL_busy || decide (n = 0) || decide (4 < tbl) || decide (tblSize tbl < i + n)) = false := by
    rw [Dev.on, hb, decide_eq_false h0, decide_eq_false (Nat.not_lt.2 h4), decide_eq_false (Nat.not_lt.2 hsize)]
    rfl
  have hroom : (decide (d.rd R.ST_DMACTL F.ST_DMACTL_op = 1) && d.tblLocked 4 && decide (64 < d.st.staged.length + n)) = false := by
    rw [Dev.tblLocked, Dev.on, hl]
    exact (congrArg (· && _) (Bool.and_false _)).trans rfl
  simp only [Dev.dmaStart, hn, hi, ht, hgo, hroom, Bool.false_eq_true, if_false]
  refine ⟨congrArg (· == 1) (Dev.rd_wr_self _ _ _ _ (by decide)), ?_⟩
  exact (Dev.rd_wr_other _ _ _ _ _ (by decide)).trans (Dev.rd_wr_self _ _ _ _ (by decide))

theorem Dev.unlock_keeps (d : Dev) : d.unlock.on R.ST_DMACTL F.ST_DMACTL_lock = false ∧ d.unlock.st.staged = [] :=
  ⟨congrArg (· == 1) (Dev.rd_wr_self _ _ _ _ (by decide)), rfl⟩

/-- What ST_DMACTL is written with to start a transfer. -/
def startWord (d : Dev) (op : Bool) (tbl index count : Nat) : Word64 :=
  F.ST_DMACTL_start.put (F.ST_DMACTL_count.put (F.ST_DMACTL_index.put (F.ST_DMACTL_tbl.put (F.ST_DMACTL_op.put
    (F.ST_DMACTL_err.put (d.rget R.ST_DMACTL) 0) (b2n op)) tbl) index) count) 1

theorem startWord_fields (d : Dev) (op : Bool) (tbl : Fin 8) (index : Fin 262144) (count : Fin 524288) (ix : List Nat) :
    F.ST_DMACTL_err.get (d.eff .ST_DMACTL ix (startWord d op tbl index count)) = 0
      ∧ F.ST_DMACTL_start.get (d.eff .ST_DMACTL ix (startWord d op tbl index count)) = 1
      ∧ F.ST_DMACTL_lock.get (d.eff .ST_DMACTL ix (startWord d op tbl index count)) = d.rd R.ST_DMACTL F.ST_DMACTL_lock
      ∧ F.ST_DMACTL_tbl.get (d.eff .ST_DMACTL ix (startWord d op tbl index count)) = tbl
      ∧ F.ST_DMACTL_index.get (d.eff .ST_DMACTL ix (startWord d op tbl index count)) = index
      ∧ F.ST_DMACTL_count.get (d.eff .ST_DMACTL ix (startWord d op tbl index count)) = count := by
  simp (disch := decide) only [startWord, Dev.get_eff, Fld.get_put, Fld.get_put_above, Fld.get_put_below]
  exact ⟨rfl, rfl, rfl, Nat.mod_eq_of_lt tbl.isLt, Nat.mod_eq_of_lt index.isLt, Nat.mod_eq_of_lt count.isLt⟩

/-- A bit that is not set is zero. -/
theorem Dev.rd_of_off {d : Dev} {r : Reg} {f : Fld} (h : d.on r f = false) (hw : f.w = 1) : d.rd r f = 0 := by
  have hlt := d.rd_lt r f
  have hne := beq_eq_false_iff_ne.1 h
  rw [hw] at hlt
  omega

theorem stDmactlStart_does {op : Bool} {tbl : Fin 8} {index : Fin 262144} {count : Fin 524288} (h : d.lands src R.ST_DMACTL = true)
    (hb : d.on R.ST_DMACTL F.ST_DMACTL_busy = false) (hl : d.on R.ST_DMACTL F.ST_DMACTL_lock = false) :
    Does (.stDmactlStart src op tbl index count) d (d.dmaSet (d.eff .ST_DMACTL [] (startWord d op tbl index count))).dmaStart := by
  obtain ⟨he, hs, hlock, -⟩ := startWord_fields d op tbl index count []
  exact fun _ => exec_next rfl ((stDmactl_does h _).trans (Dev.dmaCtlWrite_start he hl hb hs (hlock.trans (Dev.rd_of_off hl rfl))))

/-- What ST_DMACTL is written with to take or leave the lock. -/
def lockWord (d : Dev) (tbl : Nat) (lock : Bool) : Word64 :=
  F.ST_DMACTL_lock.put (F.ST_DMACTL_tbl.put (F.ST_DMACTL_err.put (d.rget R.ST_DMACTL) 0) tbl) (b2n lock)

theorem lockWord_fields (d : Dev) (tbl : Fin 8) (lock : Bool) (ix : List Nat) :
    F.ST_DMACTL_err.get (d.eff .ST_DMACTL ix (lockWord d tbl lock)) = 0
      ∧ F.ST_DMACTL_start.get (d.eff .ST_DMACTL ix (lockWord d tbl lock)) = d.rd R.ST_DMACTL F.ST_DMACTL_start
      ∧ F.ST_DMACTL_lock.get (d.eff .ST_DMACTL ix (lockWord d tbl lock)) = b2n lock
      ∧ F.ST_DMACTL_tbl.get (d.eff .ST_DMACTL ix (lockWord d tbl lock)) = tbl := by
  simp (disch := decide) only [lockWord, Dev.get_eff, Fld.get_put, Fld.get_put_above, Fld.get_put_below]
  exact ⟨rfl, rfl, by cases lock <;> rfl, Nat.mod_eq_of_lt tbl.isLt⟩

/-! ### Rule commands -/

/-- What AS_RCMD is written with. -/
def rcmdWord (op : Nat) (flag : Bool) (index : Nat) : Word64 := (BitVec.ofNat 32 (2 ^ 31 + op * 2 ^ 28 + b2n flag * 2 ^ 27 + index)).setWidth 64

theorem rcmdWord_fields (op : Fin 4) (flag : Bool) (index : Fin 32768) : F.AS_RCMD_start.get (rcmdWord op flag index) = 1
    ∧ F.AS_RCMD_op.get (rcmdWord op flag index) = op ∧ F.AS_RCMD_flag.get (rcmdWord op flag index) = b2n flag
    ∧ F.AS_RCMD_index.get (rcmdWord op flag index) = index := by
  have ho := op.isLt
  have hi := index.isLt
  have hf : b2n flag ≤ 1 := by cases flag <;> decide
  simp only [rcmdWord]
  generalize b2n flag = b at hf
  simp only [Fld.get_ofNat32, bitsOf, F.AS_RCMD_start, F.AS_RCMD_op, F.AS_RCMD_flag, F.AS_RCMD_index]
  refine ⟨?_, ?_, ?_, ?_⟩ <;> omega

theorem asRcmdStart_does {op : Fin 4} {i : Fin 32768} {flag : Bool} (h : d.lands src R.AS_RCMD = true) :
    Does (.asRcmdStart src op i flag) d (d.wrote .AS_RCMD [] (rcmdWord op flag i)).rcmdStart :=
  fun _ => exec_next rfl ((Dev.regEffect_lands (id := .AS_RCMD) (ix := []) indexIn_none (by decide) h (rcmdWord op flag i) true).trans
    (if_pos ((Dev.get_eff (by decide) _ _ _).trans (rcmdWord_fields op flag i).1)))

section
variable (op : Fin 4) (flag : Bool) (i : Fin 32768)

/-- A rule command's fields stand in the register when it starts. -/
theorem wrote_rcmd (d : Dev) : (d.wrote .AS_RCMD [] (rcmdWord op flag i)).rd R.AS_RCMD F.AS_RCMD_op = op
    ∧ (d.wrote .AS_RCMD [] (rcmdWord op flag i)).on R.AS_RCMD F.AS_RCMD_flag = flag
    ∧ (d.wrote .AS_RCMD [] (rcmdWord op flag i)).rd R.AS_RCMD F.AS_RCMD_index = i := by
  obtain ⟨-, hop, hflag, hindex⟩ := rcmdWord_fields op flag i
  have hrd (f : Fld) (hf : f ∈ (regRow .AS_RCMD).flds) (ha : f.acc = .xp ∨ f.acc = .rw) (hw : (regRow .AS_RCMD).takes f = true) :
      (d.wrote .AS_RCMD [] (rcmdWord op flag i)).rd R.AS_RCMD f = f.get (rcmdWord op flag i) := Dev.rd_wrote hf ha hw d [] _
  refine ⟨(hrd _ (by decide) (by decide) (by decide)).trans hop, ?_, (hrd _ (by decide) (by decide) (by decide)).trans hindex⟩
  rw [Dev.on, hrd _ (by decide) (by decide) (by decide), hflag]
  cases flag <;> rfl

end

section
variable {d : Dev} {i : Nat} (hi : d.rd R.AS_RCMD F.AS_RCMD_index = i)
include hi

/-- A rule is read into the window of rule commands (R89). -/
theorem Dev.rcmdStart_read (ho : d.rd R.AS_RCMD F.AS_RCMD_op = 0) : d.rcmdStart = d.put rwinAddr (d.rule i).image := by
  rw [Dev.rcmdStart, ho, hi]
  rfl

theorem Dev.rcmdStart_flag (ho : d.rd R.AS_RCMD F.AS_RCMD_op = 2) (hs : d.stageReady = true) :
    d.rcmdStart = d.setRule i ((d.rule i).setSlot (1 - d.curSlot) (d.on R.AS_RCMD F.AS_RCMD_flag)) := by
  have hgo : (!d.stageReady) = false := by rw [hs]; rfl
  rw [Dev.rcmdStart, ho, hi]
  simp only [Dev.ruleFlag, hgo, Bool.false_eq_true, if_false, if_true]

/-- Nothing is written while the staging copy runs (R91). -/
theorem Dev.rcmdStart_early (ho : d.rd R.AS_RCMD F.AS_RCMD_op = 1) (hs : d.stageReady = false) : d.rcmdStart = d.wr R.AS_RCMD F.AS_RCMD_err 1 := by
  have hgo : (!d.stageReady) = true := by rw [hs]; rfl
  rw [Dev.rcmdStart, ho, hi]
  simp only [Dev.ruleWrite, hgo, Bool.false_eq_true, if_false, if_true, Bool.true_or]

end

theorem Rule.length_image (r : Rule) : r.image.length = 160 := by
  simp only [Rule.image, List.length_append, length_leBytes, List.length_replicate]

/-! ### A forced action of Relief -/

/-- What RL_FORCE is written with. -/
def forceWord (kind : Nat) (ret : Bool) (unit : Nat) : Word64 :=
  F.RL_FORCE_go.put (F.RL_FORCE_unit.put (F.RL_FORCE_ret.put (F.RL_FORCE_kind.put 0 kind) (b2n ret)) unit) 1

theorem rlForceGo_does {kind : Fin 4} {ret : Bool} {unit : Fin 32} {pass : Bool} (h : d.lands src R.RL_FORCE = true) :
    Does (.rlForceGo src kind ret unit pass) d ((d.wrote .RL_FORCE [] (forceWord kind ret unit)).forceGo kind ret unit pass) := by
  refine fun _ => exec_next rfl ((Dev.regEffect_lands (id := .RL_FORCE) (ix := []) indexIn_none (by decide) h (forceWord kind ret unit) pass).trans ?_)
  have hfields : F.RL_FORCE_go.get (d.eff .RL_FORCE [] (forceWord kind ret unit)) = 1
      ∧ F.RL_FORCE_kind.get (d.eff .RL_FORCE [] (forceWord kind ret unit)) = kind
      ∧ F.RL_FORCE_ret.get (d.eff .RL_FORCE [] (forceWord kind ret unit)) = b2n ret
      ∧ F.RL_FORCE_unit.get (d.eff .RL_FORCE [] (forceWord kind ret unit)) = unit := by
    simp (disch := decide) only [forceWord, Dev.get_eff, Fld.get_put, Fld.get_put_above, Fld.get_put_below]
    exact ⟨rfl, Nat.mod_eq_of_lt kind.isLt, by cases ret <;> rfl, Nat.mod_eq_of_lt unit.isLt⟩
  obtain ⟨hgo, hkind, hret, hunit⟩ := hfields
  have hback : (F.RL_FORCE_ret.get (d.eff .RL_FORCE [] (forceWord kind ret unit)) == 1) = ret := by
    rw [hret]
    cases ret <;> rfl
  show (if F.RL_FORCE_go.get (d.eff .RL_FORCE [] (forceWord kind ret unit)) = 1 then
      (d.wrote .RL_FORCE [] (forceWord kind ret unit)).forceGo (F.RL_FORCE_kind.get (d.eff .RL_FORCE [] (forceWord kind ret unit)))
        (F.RL_FORCE_ret.get (d.eff .RL_FORCE [] (forceWord kind ret unit)) == 1) (F.RL_FORCE_unit.get (d.eff .RL_FORCE [] (forceWord kind ret unit))) pass
    else _) = _
  rw [if_pos hgo, hkind, hback, hunit]

/-- A spare Overman is asked for as if the controller itself had found the failure (R412). -/
theorem Dev.forceGo_overman {d : Dev} (unit : Nat) (pass : Bool) (hb : d.on R.RL_FORCE F.RL_FORCE_busy = false) (ho : d.cg.om = 0)
    (hf : d.on R.RL_FENCE F.RL_FENCE_om_c = false) : d.forceGo 3 false unit pass = d.detect { kind := 3, unit := 0, cause := 0 } := by
  have hgo : (decide (d.cg.om ≠ 0) || d.on R.RL_FENCE F.RL_FENCE_om_c) = false := by rw [ho, hf]; rfl
  simp only [Dev.forceGo, Dev.force, hb, hgo, Bool.false_eq_true, if_false]

/-! ### The lock of the tables -/

theorem stDmactlLock_does {tbl : Fin 8} {lock : Bool} (h : d.lands src R.ST_DMACTL = true) :
    Does (.stDmactlLock src tbl lock) d (d.dmaCtlWrite (d.eff .ST_DMACTL [] (lockWord d tbl lock))) :=
  fun _ => exec_next rfl (stDmactl_does h _)

end

end Sys2Proof.Machine
end

/-! ## Every control register together -/
section
namespace Sys2Proof.Machine

section
variable {d : Dev} {src : Src}

theorem stDmactlLock_takes {tbl : Fin 8} (h : d.lands src R.ST_DMACTL = true) (hs : d.on R.ST_DMACTL F.ST_DMACTL_start = false)
    (hl : d.on R.ST_DMACTL F.ST_DMACTL_lock = false) : ∃ e, Does (.stDmactlLock src tbl true) d e ∧ e.on R.ST_DMACTL F.ST_DMACTL_lock = true
      ∧ e.rd R.ST_DMACTL F.ST_DMACTL_tbl = tbl.val := by
  obtain ⟨he, hstart, hlock, htbl⟩ := lockWord_fields d tbl true []
  refine ⟨_, stDmactlLock_does h, ?_⟩
  rw [Dev.dmaCtlWrite_lock he hl (hstart.trans (Dev.rd_of_off hs rfl)) hlock]
  refine ⟨congrArg (· == 1) (Dev.rd_wr_self _ _ _ _ (by decide)), ?_⟩
  exact (Dev.rd_wr_beside _ _ _ _ (by decide) (by decide)).trans ((d.dmaSet_rd _).2.2.1.trans htbl)

theorem stDmactlLock_leaves {tbl : Fin 8} (h : d.lands src R.ST_DMACTL = true) (hs : d.on R.ST_DMACTL F.ST_DMACTL_start = false)
    (hl : d.on R.ST_DMACTL F.ST_DMACTL_lock = true) (ht : tbl.val = d.rd R.ST_DMACTL F.ST_DMACTL_tbl) :
    ∃ e, Does (.stDmactlLock src tbl false) d e ∧ e.on R.ST_DMACTL F.ST_DMACTL_lock = false ∧ e.st.staged = [] := by
  obtain ⟨he, hstart, hlock, htbl⟩ := lockWord_fields d tbl false []
  refine ⟨_, stDmactlLock_does h, ?_⟩
  rw [Dev.dmaCtlWrite_unlock he hl (htbl.trans ht) (hstart.trans (Dev.rd_of_off hs rfl)) hlock]
  exact Dev.unlock_keeps _

theorem stDmactlStart_busy {op : Bool} {tbl : Fin 8} {index : Fin 262144} {count : Fin 524288} (h : d.lands src R.ST_DMACTL = true)
    (hb : d.on R.ST_DMACTL F.ST_DMACTL_busy = false) (hl : d.on R.ST_DMACTL F.ST_DMACTL_lock = false) (h0 : count.val ≠ 0) (h4 : tbl.val ≤ 4)
    (hsize : index.val + count.val ≤ tblSize tbl) : ∃ e, Does (.stDmactlStart src op tbl index count) d e ∧ e.on R.ST_DMACTL F.ST_DMACTL_busy = true
      ∧ e.rd R.ST_DMASTAT F.ST_DMASTAT_done = count.val % 2 ^ F.ST_DMASTAT_done.w := by
  obtain ⟨-, -, -, htbl, hindex, hcount⟩ := startWord_fields d op tbl index count []
  obtain ⟨hn, hi, ht, hbusy, hlock⟩ := d.dmaSet_rd (d.eff .ST_DMACTL [] (startWord d op tbl index count))
  exact ⟨_, stDmactlStart_does h hb hl, Dev.dmaStart_starts (hbusy.trans (Dev.rd_of_off hb rfl)) (hlock.trans (Dev.rd_of_off hl rfl))
    (hn.trans hcount) (hi.trans hindex) (ht.trans htbl) h0 h4 hsize⟩

theorem stDmactlStart_empty {op : Bool} {tbl : Fin 8} {index : Fin 262144} {count : Fin 524288} (h : d.lands src R.ST_DMACTL = true)
    (hb : d.on R.ST_DMACTL F.ST_DMACTL_busy = false) (hl : d.on R.ST_DMACTL F.ST_DMACTL_lock = false) (h0 : count.val = 0) :
    ∃ e, Does (.stDmactlStart src op tbl index count) d e ∧ e.on R.ST_DMACTL F.ST_DMACTL_err = true := by
  obtain ⟨-, -, -, -, -, hcount⟩ := startWord_fields d op tbl index count []
  exact ⟨_, stDmactlStart_does h hb hl, Dev.dmaStart_none ((d.dmaSet_rd _).1.trans (hcount.trans h0))⟩

theorem asRcmd_reads {op : Fin 4} {i : Fin 32768} {flag : Bool} (h : d.lands src R.AS_RCMD = true) (ho : op.val = 0) :
    ∃ e, Does (.asRcmdStart src op i flag) d e ∧ e.bytes rwinAddr 160 = (d.rule i).image := by
  obtain ⟨hop, -, hi⟩ := wrote_rcmd op flag i d
  refine ⟨_, asRcmdStart_does h, ?_⟩
  rw [Dev.rcmdStart_read hi (hop.trans ho)]
  refine (congrArg _ (Rule.length_image (d.rule i)).symm).trans ?_
  exact Dev.bytes_put_self (d.wrote .AS_RCMD [] (rcmdWord op flag i)) rwinAddr (d.rule i).image

theorem wrote_stageReady (v : Word64) : (d.wrote .AS_RCMD [] v).stageReady = d.stageReady ∧ (d.wrote .AS_RCMD [] v).curSlot = d.curSlot :=
  ⟨congrArg (· == 1) (Dev.rd_wrote_other d .AS_RCMD [] v _ (by decide)), Dev.rd_wrote_other d .AS_RCMD [] v _ (by decide)⟩

theorem asRcmd_flags {op : Fin 4} {i : Fin 32768} {flag : Bool} (h : d.lands src R.AS_RCMD = true) (ho : op.val = 2) (hs : d.stageReady = true) :
    ∃ e, Does (.asRcmdStart src op i flag) d e ∧ e.rule i = (d.rule i).setSlot (1 - d.curSlot) flag := by
  obtain ⟨hop, hflag, hi⟩ := wrote_rcmd op flag i d
  obtain ⟨hready, hslot⟩ := wrote_stageReady (d := d) (rcmdWord op flag i)
  refine ⟨_, asRcmdStart_does h, ?_⟩
  rw [Dev.rcmdStart_flag hi (hop.trans ho) (hready.trans hs), hflag, hslot]
  exact Tab.get_set_self ..

theorem asRcmd_early {op : Fin 4} {i : Fin 32768} {flag : Bool} (h : d.lands src R.AS_RCMD = true) (ho : op.val = 1) (hs : d.stageReady = false) :
    ∃ e, Does (.asRcmdStart src op i flag) d e ∧ e.on R.AS_RCMD F.AS_RCMD_err = true ∧ e.rule i = d.rule i := by
  obtain ⟨hop, -, hi⟩ := wrote_rcmd op flag i d
  refine ⟨_, asRcmdStart_does h, ?_⟩
  rw [Dev.rcmdStart_early hi (hop.trans ho) ((wrote_stageReady _).1.trans hs)]
  exact ⟨congrArg (· == 1) (Dev.rd_wr_self _ _ _ _ (by decide)), rfl⟩

/-- While a list is pending, a commit shows its error and leaves length and cycle (R46). -/
theorem ptGclctl_refused (p : Fin 32) {w : Word32} {length : Fin 2048} (h : d.lands src (R.PT_GCLCTL p) = true)
    (hp : d.on (R.PT_GCLCTL p) F.PT_GCLCTL_pending = true) : ∃ e, Does (.ptGclctlCommit src p w length) d e ∧ e.on (R.PT_GCLCTL p) F.PT_GCLCTL_err = true
      ∧ e.rd (R.PT_GCLCTL p) F.PT_GCLCTL_length = d.rd (R.PT_GCLCTL p) F.PT_GCLCTL_length
      ∧ e.rd (R.PT_GCLCTL p) F.PT_GCLCTL_cycle = d.rd (R.PT_GCLCTL p) F.PT_GCLCTL_cycle :=
  ⟨_, ptGclctlCommit_refused p h hp, congrArg (· == 1) (Dev.rd_wr_self _ _ _ _ (by decide)),
    (Dev.rd_wr_beside _ _ _ _ (by decide) (by decide)).trans (Dev.get_regClears (by decide) d _ _ _ (.inl (by decide))),
    (Dev.rd_wr_beside _ _ _ _ (by decide) (by decide)).trans (Dev.get_regClears (by decide) d _ _ _ (.inl (by decide)))⟩

end

/-- A release by force of a held lock records its owner (R270). -/
theorem Dev.abandonLock_held {d : Dev} {i : Nat} (h : (d.lock i).held = true) : d.abandonLock i 4
    = (d.relRecord 4 0 0x7FF (recOwner (d.lock i).jobHeld (d.lock i).owner) i).passLock i true := if_pos h


theorem Dev.tmplEnable_good {d : Dev} {t : Nat} (h : d.tmplGood t = true) : d.tmplEnable t true = d.wr (R.DR_TCTL t) F.DR_TCTL_en 1 :=
  (if_neg (by decide)).trans (if_pos h)

theorem Dev.tmplEnable_bad {d : Dev} {t : Nat} (h : d.tmplGood t = false) : d.tmplEnable t true = d.wr (R.DR_TCTL t) F.DR_TCTL_bad 1 :=
  (if_neg (by decide)).trans (if_neg (Bool.eq_false_iff.1 h))

theorem Dev.rverKept_ver (d : Dev) : d.rverKept.curVer = d.curVer ∧ d.rverKept.curSlot = d.curSlot := ⟨d.rverKept_rd _, d.rverKept_rd _⟩

/-- Settles O45. -/
theorem controlRegisters : Obligations.ControlRegisters := by
  refine ⟨?part1, ?part2⟩
  case part1 =>
    intro d src v w p c q lock t dom req chan kind pin w64 keep rv
    refine ⟨?pcfg, ?gcl, fun length => ptGclctl_refused p, ?tbctl, ?step, ?stepRef, ?freq, ?freqFree, ?utc, ?plmap, ?plmapStay, ?chanBad, ?chan,
      tkFrel_does, ?frelHeld, ?tmplOn, ?tmplBad, ?tmplOff, ?sweep, ?qcfg, ?qcfgOff, ?spare, ?spareBusy, pwDomReq_does, ?domOn, ?warm, ?warmIgn,
      ?commit, ?commitErr, ?retire, ?retires⟩
    case pcfg =>
      intro h hok
      exact fun _ => exec_next rfl (Dev.regEffect_lands (indexIn_PT_PCFG p) (by decide) h w64 true)
    case gcl =>
      intro length h v u hp ha
      exact ptGclctlCommit_pends p h hp ha
    case tbctl =>
      intro h
      exact fun _ => exec_next rfl (Dev.regEffect_lands (id := .TB_CTL) (ix := []) indexIn_none (by decide) h w64 true)
    case step => exact fun h hs he hv => tbStepWrite_does h (tbStepWrite_asks hs he hv)
    case stepRef => exact fun h hr => tbStepWrite_does h (tbStepWrite_refused hr)
    case freq =>
      intro h hs
      refine tbFreqWrite_does h ((if_neg (not_not_intro hs)).trans ?_)
      rw [eff_TB_FREQ]
    case freqFree => exact fun h hs => tbFreqWrite_does h (if_pos hs)
    case utc =>
      intro u h hl
      exact fun _ => exec_next rfl ((Dev.regEffect_lands (id := .TB_UTC) (ix := []) indexIn_none (by decide) h v true).trans (tbUtcWrite_sets hl))
    case plmap =>
      intro h h0
      have hmap := plmapWrite_map h0
      exact ⟨_, xcPlmapWrite_does h, hmap, fun n _ => congrArg (fun x : Word64 => b2n (bitAt x.toNat n)) hmap⟩
    case plmapStay =>
      intro h h0
      have hdoes := xcPlmapWrite_does (v := v) h
      rwa [Dev.plmapWrite, if_pos h0] at hdoes
    case chanBad =>
      intro h hb
      have hdoes := tkChanWrite_does (v := v) h
      rwa [Dev.chanWrite, if_pos hb] at hdoes
    case chan =>
      intro h hb
      obtain ⟨hdepth, hmask⟩ := chanWrite_fields hb
      exact ⟨_, tkChanWrite_does h, hdepth.trans (Dev.get_eff (by decide) ..), hmask.trans (Dev.get_eff (by decide) ..)⟩
    case frelHeld =>
      intro l h hl
      exact Dev.abandonLock_held hl ▸ tkFrel_does h
    case tmplOn =>
      intro h hen hg
      have hon := Dev.tmplEnable_good (d := keep (R.DR_TCTL t)) hg
      exact hon ▸ drTctlEn_does true h (by rw [hen]; decide)
    case tmplBad =>
      intro h hen hg
      have hbad := Dev.tmplEnable_bad (d := keep (R.DR_TCTL t)) hg
      exact hbad ▸ drTctlEn_does true h (by rw [hen]; decide)
    case tmplOff => exact fun h hen => drTctlEn_does false h (by rw [hen]; decide)
    case sweep => exact fun h => ⟨_, ldSweepFlush_does h, sweepFlush_fields d kind pin⟩
    case qcfg => exact fun h _ => exec_next rfl (Dev.regEffect_lands (indexIn_HI_QCFG q) (by decide) h v true)
    case qcfgOff =>
      intro x old h hb h1 h2 h3 h4
      exact fun _ => exec_next rfl ((Dev.regEffect_lands (indexIn_HI_QCFG q) (by decide) h v true).trans (qcfgWrite_off hb h1 h2 h3 h4))
    case spare =>
      intro h hc hb hs ht
      have hgo := Dev.spareRequest_starts (u := d.wrote .SM_SPARE [] (spareWord chan)) (fun r hr => Dev.rset_rget_of_ne _ _ hr)
        (Dev.rd_wrote_kept (by decide) (by decide) d [] _) hc hb hs ht
      exact hgo ▸ smSpareStart_does h
    case spareBusy =>
      intro h hb
      have hgo := Dev.spareRequest_busy (u := d.wrote .SM_SPARE [] (spareWord chan)) (n := chan) (fun r hr => Dev.rset_rget_of_ne _ _ hr)
        (Dev.rd_wrote_kept (by decide) (by decide) d [] _) hb
      refine ⟨_, smSpareStart_does h, ?_⟩
      rw [hgo]
      exact Dev.rd_wr_self _ _ _ _ (by decide)
    case domOn =>
      intro u h hr hs
      exact Dev.domReq_on hr hs ▸ pwDomReq_does h
    case warm =>
      intro h hr hw
      have hgo : (d.bo.warmReq || d.bo.warm) = false := by rw [hr, hw]; rfl
      exact (if_neg (Bool.eq_false_iff.1 hgo) : d.warmRequest = _) ▸ syRstWarm_does h
    case warmIgn =>
      intro h hr
      have hgo : (d.bo.warmReq || d.bo.warm) = true := Bool.or_eq_true_iff.2 hr
      exact (if_pos hgo : d.warmRequest = _) ▸ syRstWarm_does h
    case commit =>
      intro h hp hs
      have hlive : d.rverKept.on R.AS_RVER F.AS_RVER_prev_live = false := (congrArg (· == 1) (d.rverKept_rd _)).trans hp
      have hready : d.rverKept.stageReady = true := (congrArg (· == 1) (d.rverKept_rd _)).trans hs
      obtain ⟨hver, hslot, hprev, hstage, hold⟩ := Dev.ruleCommit_taken hlive hready
      obtain ⟨hregs, hrest⟩ := d.rverKept.ruleCommit_regs
      exact ⟨_, asRverCommit_does h, hver.trans (congrArg (fun n => (n + 1) % 16) d.rverKept_ver.1), hslot.trans (congrArg (1 - ·) d.rverKept_ver.2), hprev, hstage,
        hold.trans (d.rverKept_rd _), fun r hr => (hregs r hr).trans (Dev.rset_rget_of_ne _ _ hr), hrest⟩
    case commitErr =>
      intro h hp
      have hlive : d.rverKept.on R.AS_RVER F.AS_RVER_prev_live = true := (congrArg (· == 1) (d.rverKept_rd _)).trans hp
      obtain ⟨hregs, hrest⟩ := d.rverKept.ruleCommit_regs
      refine ⟨_, asRverCommit_does h, ?_, ?_, ?_, fun r hr => (hregs r hr).trans (Dev.rset_rget_of_ne _ _ hr), hrest⟩ <;> rw [Dev.ruleCommit_refused hlive]
      · exact congrArg (· == 1) (Dev.rd_wr_self _ _ _ _ (by decide))
      · exact (Dev.rd_wr_beside _ _ _ _ (by decide) (by decide)).trans (d.rverKept_rd _)
      · exact (Dev.rd_wr_beside _ _ _ _ (by decide) (by decide)).trans (d.rverKept_rd _)
    case retire =>
      intro h hp u old
      exact ruleRetire_live hp ▸ asRverRetire_does h
    case retires => exact fun h => ⟨asRverRetire_does h, asRverRetire_commits h⟩
  case part2 =>
    intro d src op tbl index count rop i flag kind ret unit pass c
    refine ⟨stDmactlStart_busy, stDmactlStart_empty, stDmactlLock_takes, stDmactlLock_leaves, asRcmd_reads, asRcmd_flags, asRcmd_early, ?force⟩
    intro h v u
    refine ⟨rlForceGo_does h, ?_⟩
    intro hk hr hb ho hf
    have hgo := Dev.forceGo_overman (d := u) unit pass hb ho hf
    rw [← hgo, ← hk, ← hr]
    exact rlForceGo_does h

end Sys2Proof.Machine
end

/-! ## Which registers the release of cells, a port's end and a device fault write (R307, R316, R317, R335, R426) -/
section
namespace Sys2Proof.Machine

theorem foldl_keeps_mem {α β σ : Type} {f : σ → α → σ} (g : σ → β) {l : List α} (h : ∀ s, ∀ x ∈ l, g (f s x) = g s) (s : σ) :
    g (l.foldl f s) = g s := by
  induction l generalizing s with
  | nil => rfl
  | cons x xs ih =>
    exact (ih (fun s y hy => h s y (List.mem_cons_of_mem _ hy)) _).trans (h s x List.mem_cons_self)

/-! ### The release of cells -/

/-- A register that the release of cells does not write: it writes the counts of the rows and columns, the quotas and the drain of a rule version. -/
def Reg.beyondCells (r : Reg) : Prop :=
  r.addr ≠ R.AS_RVER.addr ∧ (r.addr < 0x900180 ∨ 0x900380 ≤ r.addr) ∧ (r.addr < 0xA00000 ∨ 0xA03000 ≤ r.addr)

theorem bitsOf_lt (x lo w : Nat) : bitsOf x lo w < 2 ^ w := Nat.mod_lt _ (Nat.two_pow_pos _)

theorem quotaOf_lt {tag q : Nat} (h : quotaOf tag = some q) : q < 34 := by
  rw [quotaOf] at h
  split at h <;> simp only [Option.some.injEq, reduceCtorEq, tagId] at h <;> omega

theorem Dev.setPq_regs (d : Dev) (k : Nat) (l : List Desc) : (d.setPq k l).regs = d.regs := rfl

theorem Dev.rget_xc (d : Dev) (x : Crosscut) (r : Reg) : ({ d with xc := x } : Dev).rget r = d.rget r := rfl

theorem Dev.rget_devState (d : Dev) (n : Nat) (r : Reg) : ({ d with devState := n } : Dev).rget r = d.rget r := rfl

theorem Dev.out_rget (d : Dev) (o : Out) (r : Reg) : (d.out o).rget r = d.rget r := Dev.rget_of_regs (Dev.out_regs ..) r

theorem Dev.markLow_rget (d : Dev) (q : Reg) (f : Fld) (x : Nat) {r : Reg} (hr : r.addr ≠ q.addr) : (d.markLow q f x).rget r = d.rget r := by
  rw [Dev.markLow]
  split
  · exact Dev.rget_wr_other _ _ _ _ hr
  · rfl

theorem Dev.sendPause_rget (d : Dev) (row : Nat) (on : Bool) (r : Reg) : (d.sendPause row on).rget r = d.rget r := by
  refine foldl_keeps (f := fun (d : Dev) (o : Out) => match o with | .pause p _ _ => (d.out o).stat p 8 | _ => d) (fun e : Dev => e.rget r) ?_ _ d
  intro e o
  split
  · exact Dev.out_rget ..
  · rfl

theorem Dev.pauseCheck_rget (d : Dev) (row : Nat) (r : Reg) : (d.pauseCheck row).rget r = d.rget r := by
  simp only [Dev.pauseCheck]
  split
  · rfl
  · split
    · exact Dev.sendPause_rget ..
    · split
      · exact Dev.sendPause_rget ..
      · rfl

section
variable {r : Reg} (hr : r.beyondCells) (d : Dev)
include hr

theorem Dev.setRow_rget {row : Nat} (hrow : row < 16) (free resv : Nat) : (d.setRow row free resv).rget r = d.rget r := by
  obtain ⟨-, hxc, hbn⟩ := hr
  have hstat : r.addr ≠ (R.BN_ROWSTAT row).addr := by simp only [R.BN_ROWSTAT]; omega
  have hrows : r.addr ≠ (R.XC_ROWSTAT row).addr := by simp only [R.XC_ROWSTAT]; omega
  rw [Dev.setRow, Dev.pauseCheck_rget]
  exact (Dev.markLow_rget _ _ _ _ hrows).trans ((Dev.rget_wr_other _ _ _ _ hrows).trans ((Dev.markLow_rget _ _ _ _ hstat).trans
    ((Dev.rget_wr_other _ _ _ _ hstat).trans (Dev.rget_wr_other _ _ _ _ hstat))))

theorem Dev.push_rget {row : Nat} (hrow : row < 16) (c : Nat) : (d.push row c).rget r = d.rget r := Dev.setRow_rget hr _ hrow ..

theorem Dev.pushAll_rget {row : Nat} (hrow : row < 16) (l : List Nat) : (d.pushAll row l).rget r = d.rget r := by
  induction l generalizing d with
  | nil => rfl
  | cons c rest ih => exact (ih _).trans (Dev.push_rget hr _ hrow _)

theorem Dev.useQuota_rget (tag : Nat) {row : Nat} (hrow : row < 16) (add sub : Nat) : (d.useQuota tag row add sub).rget r = d.rget r := by
  rw [Dev.useQuota]
  split
  · rfl
  next q hq =>
    have hlt := quotaOf_lt hq
    obtain ⟨-, -, hbn⟩ := hr
    exact Dev.rget_wr_other _ _ _ _ (by simp only [R.BN_QUOTA]; omega)

theorem Dev.prevDrain_rget : d.prevDrain.rget r = d.rget r := by
  rw [Dev.prevDrain]
  split
  · exact Dev.rget_wr_other _ _ _ _ hr.1
  · rfl

theorem Dev.prevLess_rget (c : Prop) [Decidable c] (x : Nat) : (if c then (d.wr R.AS_RVER F.AS_RVER_prev_cnt x).prevDrain else d).rget r = d.rget r := by
  split
  · exact (Dev.prevDrain_rget hr _).trans (Dev.rget_wr_other _ _ _ _ hr.1)
  · rfl

theorem Dev.tubEnd_rget (h : Nat) : (d.tubEnd h).rget r = d.rget r := by
  rw [Dev.tubEnd]
  split
  · rfl
  · exact Dev.prevLess_rget hr _ _ _

theorem Dev.freeChain_rget (ptr : Nat) : (d.freeChain ptr).rget r = d.rget r := by
  have hrow : ptrRow ptr < 16 := bitsOf_lt ..
  have hpush (own : Nat) (cs : List Nat) : ((d.useQuota own (ptrRow ptr) 0 cs.length).pushAll (ptrRow ptr) cs).rget r = d.rget r :=
    (Dev.pushAll_rget hr _ hrow _).trans (Dev.useQuota_rget hr _ _ hrow _ _)
  simp only [Dev.freeChain]
  split
  · exact (Dev.tubEnd_rget hr _ _).trans (hpush ..)
  · exact hpush ..

theorem Dev.binRefuse_rget (f : Fld) (req tag ptr : Nat) : (d.binRefuse f req tag ptr).rget r = d.rget r := by
  obtain ⟨-, -, hbn⟩ := hr
  have hbad : r.addr ≠ R.BN_BAD.addr := by simp only [R.BN_BAD]; omega
  have herr : r.addr ≠ R.BN_ERR.addr := by simp only [R.BN_ERR]; omega
  rw [Dev.binRefuse, Dev.rget_of_regs (Dev.tally_regs ..), Dev.rget_wr_other _ _ _ _ hbad, Dev.rget_wr_other _ _ _ _ hbad,
    Dev.rget_wr_other _ _ _ _ hbad, Dev.inc_rget _ _ _ _ herr]

theorem Dev.dropref_rget (ptr : Nat) : (d.dropref ptr).rget r = d.rget r := by
  simp only [Dev.dropref]
  split
  · exact Dev.binRefuse_rget hr ..
  · split
    · exact Dev.binRefuse_rget hr ..
    · split
      · exact Dev.binRefuse_rget hr ..
      · split
        · exact Dev.freeChain_rget hr ..
        · rfl

theorem Dev.descEnd_rget (x : Desc) : (d.descEnd x).rget r = d.rget r := by
  have hcol : D.dcol.get x.w < 16 := bitsOf_lt ..
  refine (Dev.dropref_rget hr _ _).trans (Dev.rget_wr_other _ _ _ _ ?_)
  obtain ⟨-, hxc, -⟩ := hr
  simp only [R.XC_COL]
  omega

theorem Dev.descEnds_rget (l : List Desc) : (d.descEnds l).rget r = d.rget r := by
  induction l generalizing d with
  | nil => rfl
  | cons x rest ih => exact (ih _).trans (Dev.descEnd_rget hr ..)

end

/-! ### A port's end and a device fault -/

/-- A register that no port's end writes. -/
def Reg.beyondPorts (r : Reg) : Prop :=
  r.beyondCells ∧ r.beyondTime ∧ (r.addr < 0x900400 ∨ 0x900600 ≤ r.addr) ∧ ∀ p, r.addr ≠ (R.PT_PSTAT p).addr

theorem R.SY_BOOT_beyondPorts : R.SY_BOOT.beyondPorts :=
  ⟨⟨by decide, by decide, by decide⟩, ⟨by decide, by decide, by decide⟩, by decide, fun p => by simp only [R.SY_BOOT, R.PT_PSTAT]; omega⟩

theorem R.RL_FAULT_beyondPorts : R.RL_FAULT.beyondPorts :=
  ⟨⟨by decide, by decide, by decide⟩, ⟨by decide, by decide, by decide⟩, by decide, fun p => by simp only [R.RL_FAULT, R.PT_PSTAT]; omega⟩

section
variable {r : Reg} (hr : r.beyondPorts) (d : Dev) {p : Nat} (hp : p < 32)
include hr hp

theorem Reg.beyondPorts.ne_port : r.addr ≠ (R.XC_PORT p).addr ∧ r.addr ≠ (R.XC_PCNT p).addr := by
  obtain ⟨-, -, hxc, -⟩ := hr
  constructor <;> simp only [R.XC_PORT, R.XC_PCNT] <;> omega

theorem Dev.endSending_rget (f : Fld) : (d.endSending p f).rget r = d.rget r :=
  (Dev.inc_rget _ _ _ _ (hr.ne_port hp).2).trans (Dev.descEnds_rget hr.1 ..)

theorem Dev.freeQueue_rget (q : Nat) (f : Fld) : (d.freeQueue p q (R.XC_PCNT p) f).rget r = d.rget r :=
  (Dev.rget_wr_other _ _ _ _ (hr.ne_port hp).1).trans ((Dev.inc_rget _ _ _ _ (hr.ne_port hp).2).trans (Dev.descEnds_rget hr.1 ..))

theorem Dev.toDiscard_rget (f : Fld) : (d.toDiscard p f).rget r = d.rget r := by
  refine (Dev.rget_wr_other _ _ _ _ (hr.ne_port hp).1).trans (Eq.trans ?_ (Dev.endSending_rget hr d hp f))
  exact foldl_keeps (f := fun d q => Dev.freeQueue d p q (R.XC_PCNT p) f) (fun e : Dev => e.rget r) (fun e q => Dev.freeQueue_rget hr e hp q f) _ _

theorem Dev.requeue_rget : (d.requeue p).rget r = d.rget r := by
  rw [Dev.requeue, Dev.syncQueued, Dev.rget_wr_other _ _ _ _ (hr.ne_port hp).1]
  refine Eq.trans (b := (d.modPort p Port.idle).rget r) ?_ (Dev.rget_of_regs (Dev.modPort_regs ..) r)
  refine foldl_keeps (fun e : Dev => e.rget r) ?_ _ _
  intro e x
  exact Dev.rget_of_regs (Dev.setPq_regs ..) r

theorem Dev.linkDown_rget : (d.linkDown p).rget r = d.rget r := by
  have hcount (was : Nat) : (((d.tally 0x0101 p [was]).event 0x10 p was).stat p 10).rget r = d.rget r := Dev.rget_of_regs rfl r
  rw [Dev.linkDown, ← hcount (d.portSt p)]
  generalize ((d.tally 0x0101 p [d.portSt p]).event 0x10 p (d.portSt p)).stat p 10 = e
  dsimp only
  split
  · rfl
  · split
    · exact (Dev.rget_xc ..).trans ((Dev.rget_wr_other _ _ _ _ (hr.ne_port hp).1).trans (Dev.requeue_rget hr _ hp))
    · exact Dev.toDiscard_rget hr _ hp _

theorem Dev.portLeave_rget (s : Nat) : (d.portLeave p s).rget r = d.rget r := by
  obtain ⟨-, htime, -, hstat⟩ := id hr
  simp only [Dev.portLeave]
  refine (Dev.ptpPortLeft_rget htime _ _).trans ((Dev.rget_wr_other _ _ _ _ (hstat p)).trans ((Dev.rget_wr_other _ _ _ _ (hstat p)).trans ?_))
  split
  · exact Dev.linkDown_rget hr _ hp
  · rfl

end

/-- A device fault takes every port down. -/
theorem portsLeave_rget {r : Reg} (hr : r.beyondPorts) (d : Dev) :
    ((List.range 32).foldl (fun d p => if d.portSt p = 0 then d else d.portLeave p 0) d).rget r = d.rget r := by
  refine foldl_keeps_mem (f := fun (d : Dev) p => if d.portSt p = 0 then d else d.portLeave p 0) (fun e : Dev => e.rget r) ?_ d
  intro e p hp
  split
  · rfl
  · exact Dev.portLeave_rget hr e (List.mem_range.1 hp) 0

theorem Dev.deviceFault_rget {r : Reg} (hr : r.beyondPorts) (d : Dev) (f : Fld) : (d.deviceFault f).rget r = (d.wr R.RL_FAULT f 1).rget r := by
  rw [Dev.deviceFault, Dev.rget_of_regs (Dev.event_regs ..), Dev.rget_devState, Dev.out_rget, Dev.rget_of_regs (Dev.ppsHold_regs _), portsLeave_rget hr,
    Dev.rget_of_regs (Dev.tally_regs ..), Dev.out_rget]

theorem Dev.deviceFault_devState (d : Dev) (f : Fld) : (d.deviceFault f).devState = 4 := rfl

end Sys2Proof.Machine
end

/-! ## Start-up and the resets (R455 to R468) -/
section
namespace Sys2Proof.Machine

/-! ### What a domain's start, an alarm and a failed start-up leave -/

theorem Dev.isleStart_rget (d : Dev) (isl : Nat) {r : Reg} (hr : r.addr ≠ (R.CK_ISLSTAT isl).addr) : (d.isleStart isl).rget r = d.rget r := by
  rw [Dev.isleStart]
  split
  · exact (Dev.rget_wr_other _ _ _ _ hr).trans (Dev.rget_wr_other _ _ _ _ hr)
  · exact (Dev.rget_wr_other _ _ _ _ hr).trans (Dev.rget_wr_other _ _ _ _ hr)

/-- The islands of a domain start. -/
theorem islesStart_rget {r : Reg} (hr : ∀ i, i < 100 → r.addr ≠ (R.CK_ISLSTAT i).addr) (k : Nat) (d : Dev) :
    ((domIsles k).foldl Dev.isleStart d).rget r = d.rget r :=
  foldl_keeps_mem (fun e : Dev => e.rget r) (fun e i hi => e.isleStart_rget i (hr i (List.mem_range.1 (List.mem_filter.1 hi).1))) d

/-- A register that no domain's start writes. -/
def Reg.beyondStart (r : Reg) : Prop := (∀ k, k < 50 → r.addr ≠ (R.PW_DOM k).addr) ∧ ∀ i, i < 100 → r.addr ≠ (R.CK_ISLSTAT i).addr

theorem Dev.domsOn_rget {r : Reg} (hr : r.beyondStart) {l : List Nat} (hl : ∀ k ∈ l, k < 50) (d : Dev) : (d.domsOn l).rget r = d.rget r :=
  foldl_keeps_mem (f := fun (d : Dev) k => (domIsles k).foldl Dev.isleStart (d.wr (R.PW_DOM k) F.PW_DOM_state 2)) (fun e : Dev => e.rget r)
    (fun _ k hk => (islesStart_rget hr.2 k _).trans (Dev.rget_wr_other _ _ _ _ (hr.1 k (hl k hk)))) d

theorem R.SY_BOOT_beyondStart : R.SY_BOOT.beyondStart :=
  ⟨fun k _ => by simp only [R.SY_BOOT, R.PW_DOM]; omega, fun i _ => by simp only [R.SY_BOOT, R.CK_ISLSTAT]; omega⟩

theorem Dev.domsOn_domSt (l : List Nat) (d : Dev) {k : Nat} (hk : k < 50) : (d.domsOn l).domSt k = if k ∈ l then 2 else d.domSt k := by
  have hisles (j : Nat) (e : Dev) : ((domIsles j).foldl Dev.isleStart e).domSt k = e.domSt k :=
    congrArg F.PW_DOM_state.get (islesStart_rget (fun i _ => R.PW_DOM_beyondIsles hk i) j e)
  induction l generalizing d with
  | nil => rfl
  | cons j rest ih =>
    refine (ih _).trans ?_
    rw [hisles]
    by_cases hj : k = j
    · subst hj
      have hself : (d.wr (R.PW_DOM k) F.PW_DOM_state 2).domSt k = 2 := Dev.rd_wr_self _ _ _ _ (by decide)
      rw [hself, ite_self, if_pos (.head _)]
    · have hother : (d.wr (R.PW_DOM j) F.PW_DOM_state 2).domSt k = d.domSt k := Dev.rd_wr_other _ _ _ _ _ (by simp only [R.PW_DOM]; omega)
      simp only [hother, List.mem_cons, hj, false_or]

theorem Dev.toStage_stage (d : Dev) {n : Nat} (hn : n < 256) : (d.toStage n).stage = n := (Dev.rd_wr_self _ _ _ _ (by decide)).trans (Nat.mod_eq_of_lt hn)

theorem Dev.stage_congr {d e : Dev} (h : e.rget R.SY_BOOT = d.rget R.SY_BOOT) : e.stage = d.stage := congrArg F.SY_BOOT_stage.get h

theorem Dev.wr_regs_congr {d e : Dev} (h : e.regs = d.regs) (q : Reg) (f : Fld) (x : Nat) : (e.wr q f x).regs = (d.wr q f x).regs := by
  rw [Dev.wr, Dev.wr, Dev.rget_of_regs h, Dev.rset, Dev.rset, h]

theorem Dev.startFail_rget {r : Reg} (hr : r.beyondPorts) (d : Dev) (code : Nat) (f : Fld) :
    (d.startFail code f).rget r = (((d.wr R.SY_BOOT F.SY_BOOT_fail code).toStage 15).wr R.RL_FAULT f 1).rget r := by
  rw [Dev.startFail, Dev.deviceFault_rget hr]
  exact Dev.rget_of_regs (Dev.wr_regs_congr (Dev.tally_regs ..) ..) r

/-- A failed start-up stands in the register of start-up, and the device is down (R465). -/
theorem Dev.startFail_shows (d : Dev) {code : Nat} (hc : code < 256) (f : Fld) : (d.startFail code f).stage = 15
    ∧ (d.startFail code f).rd R.SY_BOOT F.SY_BOOT_fail = code ∧ (d.startFail code f).devState = 4 := by
  have hboot : (d.startFail code f).rget R.SY_BOOT = ((d.wr R.SY_BOOT F.SY_BOOT_fail code).toStage 15).rget R.SY_BOOT :=
    (Dev.startFail_rget R.SY_BOOT_beyondPorts ..).trans (Dev.rget_wr_other _ _ _ _ (by decide))
  refine ⟨(Dev.stage_congr hboot).trans (Dev.toStage_stage _ (by decide)), (congrArg F.SY_BOOT_fail.get hboot).trans ?_, Dev.deviceFault_devState ..⟩
  exact (Dev.rd_wr_beside _ _ _ _ (by decide) (by decide)).trans ((Dev.rd_wr_self _ _ _ _ (by decide)).trans (Nat.mod_eq_of_lt hc))

theorem Dev.startFail_fault (d : Dev) (code : Nat) {f : Fld} (hf : f.lo + f.w ≤ 64) (h1 : f.w = 1) : (d.startFail code f).on R.RL_FAULT f = true := by
  have hfault : (d.startFail code f).rd R.RL_FAULT f = 1 := by
    refine (congrArg f.get (Dev.startFail_rget R.RL_FAULT_beyondPorts ..)).trans ((Dev.rd_wr_self _ _ _ _ hf).trans ?_)
    rw [h1]
    rfl
  rw [Dev.on, hfault]
  rfl

/-! ### The end of every stage -/

section
variable {d : Dev}

theorem strapSample_does (h : d.stage = 1) (bootSel lullEn : Bool) : Does (.strapSample bootSel lullEn) d
    ((d.wr R.SY_BOOT F.SY_BOOT_boot_sel (b2n bootSel)).wr R.PW_LSTAT F.PW_LSTAT_lull_en (b2n lullEn)) :=
  fun _ => exec_next rfl (if_neg (not_not_intro h))

/-- The end of the stage that runs. -/
theorem stageEnd_does {e : StageEnd} {u : Dev} (h : match e with
    | .straps => d.stage = 1 ∧ d.endStraps = u
    | .verify a b l c => d.stage = 2 ∧ d.endVerify a b l c = u
    | .calib => d.stage = 3 ∧ d.endCalib = u
    | .ramp ok => d.stage = 4 ∧ d.endRamp ok = u
    | .train passed => d.stage = 5 ∧ d.endTrain passed = u
    | .lode bad rows => (d.stage = 6 ∨ d.stage = 5 ∧ d.bo.lodeUp = false) ∧ d.endLode bad rows = u
    | .selftest bad fail => d.stage = 7 ∧ d.endSelftest bad fail = u
    | .config imgs bits => d.stage = 8 ∧ d.endConfig imgs bits = u
    | .ready => d.stage = 9 ∧ d.endReady = u
    | .apply reqs ports => d.stage = 10 ∧ d.endApply reqs ports = u) : Does (.startupStageEnd e) d u := by
  refine fun _ => exec_next rfl ?_
  cases e
  case lode bad rows =>
    obtain ⟨hs, hu⟩ := h
    refine Eq.trans (if_pos ?_) hu
    rcases hs with hs | ⟨hs, hl⟩ <;> simp [hs]
    exact hl
  all_goals exact (if_pos h.1).trans h.2

theorem endStraps_does (h : d.stage = 1) : ∃ e, Does (.startupStageEnd .straps) d e ∧ e.stage = 2 :=
  ⟨_, stageEnd_does ⟨h, rfl⟩, Dev.toStage_stage _ (by decide)⟩

theorem Dev.rget_bo (d : Dev) (x : Boot) (r : Reg) : ({ d with bo := x } : Dev).rget r = d.rget r := rfl

theorem Dev.runSlot_slot (d : Dev) {slot : Nat} (hs : slot < 2) : (d.runSlot slot).rd R.SY_BOOT F.SY_BOOT_slot = slot := by
  rw [Dev.runSlot, Dev.rd, Dev.rget_bo, Dev.rget_wr_other _ _ _ _ (by decide), Dev.rget_wr_other _ _ _ _ (by decide)]
  refine (Dev.rd_wr_beside _ _ _ _ (by decide) (by decide)).trans ((Dev.rd_wr_self _ _ _ _ (by decide)).trans (Nat.mod_eq_of_lt hs))

/-- Every Overman core starts in lockstep after the chosen slot's image (R457, R458). -/
def Dev.lockstepUp (d : Dev) (slot : Nat) : Dev := ((d.runSlot slot).domsOn [48]).toStage 3

theorem Dev.endVerify_first {a b : Bool} (coreC : Bool) {first : Nat} (hf : (d.bo.active + d.rd R.SY_BOOT F.SY_BOOT_boot_sel) % 2 = first)
    (hg : d.imageGood (d.bytes (slotAddr first) 256) (if first = 0 then a else b) = true) : d.endVerify a b true coreC = d.lockstepUp first := by
  subst hf
  exact (if_pos hg).trans (if_pos rfl)

theorem Dev.lockstepUp_shows (d : Dev) {slot : Nat} (hs : slot < 2) : (d.lockstepUp slot).stage = 3 ∧ (d.lockstepUp slot).rd R.SY_BOOT F.SY_BOOT_slot = slot
    ∧ (d.lockstepUp slot).domSt 48 = 2 := by
  refine ⟨Dev.toStage_stage _ (by decide), (Dev.rd_wr_beside _ _ _ _ (by decide) (by decide)).trans ?_,
    (Dev.rd_wr_other _ _ _ _ _ (by decide)).trans ((Dev.domsOn_domSt [48] _ (by decide)).trans (if_pos (.head _)))⟩
  exact (congrArg F.SY_BOOT_slot.get (Dev.domsOn_rget R.SY_BOOT_beyondStart (by decide) _)).trans (d.runSlot_slot hs)

theorem Dev.endVerify_none {a b : Bool} (lock coreC : Bool) {first : Nat} (hf : (d.bo.active + d.rd R.SY_BOOT F.SY_BOOT_boot_sel) % 2 = first)
    (hg : d.imageGood (d.bytes (slotAddr first) 256) (if first = 0 then a else b) = false)
    (ho : d.imageGood (d.bytes (slotAddr (1 - first)) 256) (if 1 - first = 0 then a else b) = false) : d.endVerify a b lock coreC =
      (((d.slotRefused first).wr R.SY_BOOT F.SY_BOOT_fallback 1).slotRefused (1 - first)).startFail 1 F.RL_FAULT_boot := by
  subst hf
  exact (if_neg (Bool.eq_false_iff.1 hg)).trans (if_neg (Bool.eq_false_iff.1 ho))

end

end Sys2Proof.Machine
end

/-! ## Start-up from the calibration to the last stage (R384, R401, R403, R448, R460 to R465) -/
section
namespace Sys2Proof.Machine

section
variable {d : Dev}

/-! ### Calibration and the ramp -/

theorem Dev.bytes_of_mem {d e : Dev} (h : e.mem = d.mem) (a n : Nat) : e.bytes a n = d.bytes a n :=
  Dev.bytes_congr _ _ (fun _ _ => Dev.byte_of_mem h _)

theorem delaysLoaded_mem (d : Dev) (l : List Nat) : (l.foldl (fun d p => Dev.loadDelay d p) d).mem = d.mem :=
  foldl_keeps (f := fun d p => Dev.loadDelay d p) (fun e : Dev => e.mem) (fun _ _ => Dev.loadDelay_mem ..) l d

/-- A calibration set that is whole and has its complement is loaded (R461). -/
theorem Dev.endCalib_whole (hok : leNat ((d.bytes calValue 8192).drop 8188) = crc32c ((d.bytes calValue 8192).take 8188))
    (hc : d.bytes calValue 8192 = (d.bytes calComp 8192).map (fun b => ~~~ b)) :
    d.endCalib = ((List.range 32).foldl (fun d p => Dev.loadDelay d p) (d.put (calAddr 0) (d.bytes calValue 8192))).toStage 4 := by
  have hgo : (leNat ((d.bytes calValue 8192).drop 8188) == crc32c ((d.bytes calValue 8192).take 8188)) = true := beq_iff_eq.2 hok
  rw [Dev.endCalib]
  dsimp only
  rw [if_pos hgo, if_pos hc]

theorem endCalib_does (h : d.stage = 3) (hok : leNat ((d.bytes calValue 8192).drop 8188) = crc32c ((d.bytes calValue 8192).take 8188))
    (hc : d.bytes calValue 8192 = (d.bytes calComp 8192).map (fun b => ~~~ b)) :
    ∃ e, Does (.startupStageEnd .calib) d e ∧ e.stage = 4 ∧ e.bytes (calAddr 0) 8192 = d.bytes calValue 8192 := by
  refine ⟨_, stageEnd_does ⟨h, Dev.endCalib_whole hok hc⟩, Dev.toStage_stage _ (by decide), ?_⟩
  have hput := Dev.bytes_put_self d (calAddr 0) (d.bytes calValue 8192)
  rw [d.length_bytes] at hput
  rw [Dev.bytes_of_mem (d := d.put (calAddr 0) (d.bytes calValue 8192)), hput]
  exact (Dev.wr_mem ..).trans (delaysLoaded_mem _ _)

/-- Every domain comes up (R448). -/
theorem Dev.endRamp_domSt {k : Nat} (hk : k < 50) : (d.endRamp true).domSt k = 2 := by
  have hup : (d.domsOn (List.range 50)).domSt k = 2 := (Dev.domsOn_domSt _ _ hk).trans (if_pos (List.mem_range.2 hk))
  refine Eq.trans (congrArg F.PW_DOM_state.get ?_) hup
  refine (Dev.rget_wr_other _ _ _ _ (by simp only [R.PW_DOM, R.SY_BOOT]; omega)).trans ?_
  refine (foldl_keeps (fun e : Dev => e.rget (R.PW_DOM k)) ?_ (List.range 5) _).trans ?_
  · intro e c
    exact Dev.rget_wr_other _ _ _ _ (by simp only [R.PW_DOM, R.SM_CHSTAT]; omega)
  · refine foldl_keeps (f := fun (d : Dev) r => d.wr (R.BN_ROWSTAT r) F.BN_ROWSTAT_rebuild 1) (fun e : Dev => e.rget (R.PW_DOM k)) ?_ _ _
    intro e r
    exact Dev.rget_wr_other _ _ _ _ (by simp only [R.PW_DOM, R.BN_ROWSTAT]; omega)

theorem endRamp_does (h : d.stage = 4) : ∃ e, Does (.startupStageEnd (.ramp true)) d e ∧ e.stage = 5 ∧ ∀ k, k < 50 → e.domSt k = 2 :=
  ⟨_, stageEnd_does ⟨h, rfl⟩, Dev.toStage_stage _ (by decide), fun _ hk => Dev.endRamp_domSt hk⟩

theorem endRamp_fails (h : d.stage = 4) : ∃ e, Does (.startupStageEnd (.ramp false)) d e ∧ e.stage = 15 ∧ e.rd R.SY_BOOT F.SY_BOOT_fail = 5 ∧ e.devState = 4 :=
  ⟨_, stageEnd_does ⟨h, rfl⟩, Dev.startFail_shows d (by decide) _⟩

/-! ### Training of the memory -/

/-- The states of the channels, given one by one. -/
def Dev.chanStates (d : Dev) (l : List Nat) (s : Nat) : Dev := l.foldl (fun d c => d.wr (R.SM_CHSTAT c) F.SM_CHSTAT_state s) d

theorem Dev.chanStates_smState (l : List Nat) {s : Nat} (hs : s < 8) (d : Dev) (c : Nat) : (d.chanStates l s).smState c = if c ∈ l then s else d.smState c := by
  induction l generalizing d with
  | nil => rfl
  | cons j rest ih =>
    refine (ih _).trans ?_
    by_cases hj : c = j
    · subst hj
      have hself : (d.wr (R.SM_CHSTAT c) F.SM_CHSTAT_state s).smState c = s := (Dev.rd_wr_self _ _ _ _ (by decide)).trans (Nat.mod_eq_of_lt hs)
      rw [hself, ite_self, if_pos (.head _)]
    · have hother : (d.wr (R.SM_CHSTAT j) F.SM_CHSTAT_state s).smState c = d.smState c := Dev.rd_wr_other _ _ _ _ _ (by simp only [R.SM_CHSTAT]; omega)
      simp only [hother, List.mem_cons, hj, false_or]

theorem Dev.chanStates_rget (l : List Nat) (s : Nat) (d : Dev) {r : Reg} (hr : ∀ c, r.addr ≠ (R.SM_CHSTAT c).addr) : (d.chanStates l s).rget r = d.rget r :=
  foldl_keeps (f := fun (d : Dev) c => d.wr (R.SM_CHSTAT c) F.SM_CHSTAT_state s) (fun e : Dev => e.rget r) (fun _ c => Dev.rget_wr_other _ _ _ _ (hr c)) l d

/-- After training the four channels in use are up and the fifth stands by (R384). -/
def Dev.trainedUp (d : Dev) : Dev :=
  let u := (d.chanStates (List.range 5) 3).chanStates (List.range 4) 2
  { u with bo := { u.bo with trained := true } }

/-- A channel in use is found by the map, which here names each by its own number. -/
theorem chansPlaced {l : List Nat} {d : Dev} (h : ∀ c ∈ l, d.smPhys c = c) :
    l.foldl (fun d l => d.wr (R.SM_CHSTAT (Dev.smPhys d l)) F.SM_CHSTAT_state 2) d = d.chanStates l 2 := by
  induction l generalizing d with
  | nil => rfl
  | cons j rest ih =>
    rw [List.foldl_cons, h j List.mem_cons_self]
    refine ih (fun c hc => Eq.trans ?_ (h c (List.mem_cons_of_mem _ hc)))
    exact congrArg (fun v : Word64 => bitsOf v.toNat (3 * c) 3) (Dev.rget_wr_other _ _ _ _ (by simp only [R.SM_CHMAP, R.SM_CHSTAT]; omega))

theorem Dev.endTrain_all (hl : d.ledgerNewest = none) (hs : ∀ c, c < 5 → d.smState c ≠ 4) (hp : ∀ l, l < 4 → d.smPhys l = l) :
    d.endTrain 0x1F = d.trainedUp.afterPair := by
  have hgood (c : Nat) (hc : c < 5) : (bitAt (0x1F : BitVec 5).toNat c && d.smState c != 4) = true := by
    refine Bool.and_eq_true_iff.2 ⟨?_, bne_iff_ne.2 (hs c hc)⟩
    decide +revert
  have hlost : (List.range 4).filter (fun l => !(bitAt (0x1F : BitVec 5).toNat (d.smPhys l) && d.smState (d.smPhys l) != 4)) = [] := by
    refine List.filter_eq_nil_iff.2 (fun l hmem => ?_)
    have hlt := List.mem_range.1 hmem
    rw [hp l hlt, hgood l (by omega)]
    decide
  have hchans : (List.range 5).foldl (fun (e : Dev) c => e.wr (R.SM_CHSTAT c) F.SM_CHSTAT_state
      (if bitAt (0x1F : BitVec 5).toNat c && d.smState c != 4 then 3 else 4)) d = d.chanStates (List.range 5) 3 := by
    refine List.foldl_ext _ _ _ (fun e c hmem => ?_)
    rw [if_pos (hgood c (List.mem_range.1 hmem))]
  have hphys (l : Nat) (hmem : l ∈ List.range 4) : (d.chanStates (List.range 5) 3).smPhys l = l := by
    refine Eq.trans (congrArg (fun v : Word64 => bitsOf v.toNat (3 * l) 3) ?_) (hp l (List.mem_range.1 hmem))
    exact Dev.chanStates_rget _ _ _ (fun c => by simp only [R.SM_CHMAP, R.SM_CHSTAT]; omega)
  rw [Dev.endTrain, hl]
  dsimp only
  rw [hlost, hchans, chansPlaced hphys]
  rfl

theorem Dev.chanStates_bo (l : List Nat) (s : Nat) (d : Dev) : (d.chanStates l s).bo = d.bo :=
  foldl_keeps (f := fun (d : Dev) c => d.wr (R.SM_CHSTAT c) F.SM_CHSTAT_state s) (fun e : Dev => e.bo) (fun _ _ => rfl) l d

/-- The self-test follows when both the memory and the flow store are up. -/
theorem Dev.afterPair_trained (h : d.bo.trained = true) : d.afterPair = d.toStage (if d.bo.lodeUp then 7 else 6) := if_pos h

theorem Dev.trainedUp_lodeUp (d : Dev) : d.trainedUp.bo.lodeUp = d.bo.lodeUp := by
  have hbo : ((d.chanStates (List.range 5) 3).chanStates (List.range 4) 2).bo = d.bo := (Dev.chanStates_bo ..).trans (Dev.chanStates_bo ..)
  exact Eq.trans (b := ((d.chanStates (List.range 5) 3).chanStates (List.range 4) 2).bo.lodeUp) rfl (congrArg Boot.lodeUp hbo)

theorem Dev.trainedUp_smState (d : Dev) : (∀ c, c < 4 → d.trainedUp.smState c = 2) ∧ d.trainedUp.smState 4 = 3 := by
  have hbo (c : Nat) : d.trainedUp.smState c = ((d.chanStates (List.range 5) 3).chanStates (List.range 4) 2).smState c :=
    congrArg F.SM_CHSTAT_state.get (Dev.rget_bo ..)
  constructor
  · intro c hc
    rw [hbo, Dev.chanStates_smState _ (by decide), if_pos (List.mem_range.2 hc)]
  · rw [hbo, Dev.chanStates_smState _ (by decide), if_neg (by decide), Dev.chanStates_smState _ (by decide), if_pos (by decide)]

theorem Dev.toStage_smState (d : Dev) (n c : Nat) : (d.toStage n).smState c = d.smState c :=
  Dev.rd_wr_other _ _ _ _ _ (by simp only [R.SM_CHSTAT, R.SY_BOOT]; omega)

theorem endTrain_does (h : d.stage = 5) (hl : d.ledgerNewest = none) (hs : ∀ c, c < 5 → d.smState c ≠ 4) (hp : ∀ l, l < 4 → d.smPhys l = l) :
    ∃ e, Does (.startupStageEnd (.train 0x1F)) d e ∧ e.bo.trained = true ∧ e.stage = (if d.bo.lodeUp then 7 else 6) ∧ (∀ c, c < 4 → e.smState c = 2)
      ∧ e.smState 4 = 3 := by
  refine ⟨_, stageEnd_does ⟨h, (Dev.endTrain_all hl hs hp).trans (Dev.afterPair_trained rfl)⟩, rfl, ?_,
    fun c hc => (Dev.toStage_smState ..).trans (d.trainedUp_smState.1 c hc), (Dev.toStage_smState ..).trans d.trainedUp_smState.2⟩
  rw [d.trainedUp_lodeUp]
  exact Dev.toStage_stage _ (by split <;> decide)

/-! ### The flow store -/

/-- The flow store is up without a fault (R263). -/
theorem Dev.endLode_well : d.endLode 0 [] = { d with bo := { d.bo with lodeUp := true } }.afterPair := rfl

theorem endLode_first (h : d.stage = 5) (hl : d.bo.lodeUp = false) (ht : d.bo.trained = false) :
    ∃ e, Does (.startupStageEnd (.lode 0 [])) d e ∧ e.bo.lodeUp = true ∧ e.stage = 5 :=
  ⟨_, stageEnd_does ⟨.inr ⟨h, hl⟩, Dev.endLode_well.trans (if_neg (Bool.eq_false_iff.1 ht))⟩, rfl, h⟩

theorem endLode_second (h : d.stage = 6) (ht : d.bo.trained = true) : ∃ e, Does (.startupStageEnd (.lode 0 [])) d e ∧ e.stage = 7 :=
  ⟨_, stageEnd_does ⟨.inl h, Dev.endLode_well.trans ((if_pos ht).trans (congrArg (Dev.toStage _) (if_pos rfl)))⟩, Dev.toStage_stage _ (by decide)⟩

theorem endLode_does (h : d.stage = 5 ∨ d.stage = 6) (hl : d.bo.lodeUp = false) (bad : BitVec 4) (rows : List (Fin 8388608)) :
    Does (.startupStageEnd (.lode bad rows)) d (d.endLode bad rows) :=
  stageEnd_does ⟨h.elim (fun h => .inr ⟨h, hl⟩) .inl, rfl⟩

/-! ### The self-test, the configuration and the last stages -/

theorem endSelftest_does (h : d.stage = 7) (gals : BitVec 26) : ∃ e, Does (.startupStageEnd (.selftest gals none)) d e ∧ e.stage = 8
    ∧ e.bo.galBad = (List.range 26).filter (fun g => bitAt gals.toNat g) :=
  ⟨_, stageEnd_does ⟨h, rfl⟩, Dev.toStage_stage _ (by decide), rfl⟩

theorem endSelftest_fails (h : d.stage = 7) (gals : BitVec 26) (f : Fin 4) : ∃ e, Does (.startupStageEnd (.selftest gals (some f))) d e
    ∧ e.stage = 15 ∧ e.rd R.SY_BOOT F.SY_BOOT_fail = 4 ∧ e.devState = 4 :=
  ⟨_, stageEnd_does ⟨h, rfl⟩, Dev.startFail_shows d (by decide) _⟩

/-- The four units that the configuration starts. -/
def Dev.unitsOn (d : Dev) : Dev :=
  (((d.wr R.LD_CFG F.LD_CFG_en 1).wr R.SM_CFG F.SM_CFG_en 1).wr R.XC_CFG F.XC_CFG_en 1).wr R.HI_CFG F.HI_CFG_en 1

theorem Dev.unitsOn_on (d : Dev) : d.unitsOn.on R.LD_CFG F.LD_CFG_en = true ∧ d.unitsOn.on R.SM_CFG F.SM_CFG_en = true
    ∧ d.unitsOn.on R.XC_CFG F.XC_CFG_en = true ∧ d.unitsOn.on R.HI_CFG F.HI_CFG_en = true := by
  simp (disch := decide) only [Dev.unitsOn, Dev.on, Dev.rd_wr_other, Dev.rd_wr_self]
  exact ⟨rfl, rfl, rfl, rfl⟩

theorem Dev.galAlarms_toStage_on {r : Reg} (ha : r.addr ≠ R.RL_ALARM.addr) (hb : r.addr ≠ R.SY_BOOT.addr) (d : Dev) (n : Nat) (f : Fld) :
    (d.galAlarms.toStage n).on r f = d.on r f :=
  congrArg (· == 1) ((Dev.rd_wr_other _ _ _ _ _ hb).trans (congrArg f.get (d.galAlarms_rget ha)))

theorem endConfig_does (h : d.stage = 8) (imgs bits : List (Fin 26 × List Byte)) : ∃ e, Does (.startupStageEnd (.config imgs bits)) d e ∧ e.stage = 9
    ∧ e.on R.LD_CFG F.LD_CFG_en = true ∧ e.on R.SM_CFG F.SM_CFG_en = true ∧ e.on R.XC_CFG F.XC_CFG_en = true ∧ e.on R.HI_CFG F.HI_CFG_en = true := by
  obtain ⟨u, hu⟩ : ∃ u : Dev, d.endConfig imgs bits = u.unitsOn.galAlarms.toStage 9 := ⟨_, rfl⟩
  obtain ⟨hld, hsm, hxc, hhi⟩ := u.unitsOn_on
  exact ⟨_, stageEnd_does ⟨h, hu⟩, Dev.toStage_stage _ (by decide), (Dev.galAlarms_toStage_on (by decide) (by decide) ..).trans hld,
    (Dev.galAlarms_toStage_on (by decide) (by decide) ..).trans hsm, (Dev.galAlarms_toStage_on (by decide) (by decide) ..).trans hxc,
    (Dev.galAlarms_toStage_on (by decide) (by decide) ..).trans hhi⟩

theorem Dev.endReady_devState (h : d.devState = 0) : d.endReady.devState = 1 := by
  have hshow : d.showState 1 = { d with devState := 1 } := by simp [Dev.showState, h]
  rw [Dev.endReady, hshow]
  split <;> rfl

theorem endReady_does (h : d.stage = 9) (hs : d.devState = 0) : ∃ e, Does (.startupStageEnd .ready) d e ∧ e.stage = 10 ∧ e.devState = 1 :=
  ⟨_, stageEnd_does ⟨h, rfl⟩, Dev.toStage_stage _ (by decide), Dev.endReady_devState hs⟩

theorem endApply_does (h : d.stage = 10) (reqs : List (BitVec 16 × List Byte)) (ports : BitVec 32) :
    ∃ e, Does (.startupStageEnd (.apply reqs ports)) d e ∧ e.stage = 11 ∧ e.bo.warm = false :=
  ⟨_, stageEnd_does ⟨h, rfl⟩, Dev.toStage_stage _ (by decide), rfl⟩

/-- A stage that takes twice its time fails start-up (R465). -/
theorem stageTimeout_does (h1 : 1 ≤ d.stage) (h10 : d.stage ≤ 10) (ht : d.bo.began + msU (2 * stageMax d.stage) < d.now) :
    ∃ e, Does .stageTimeout d e ∧ e.stage = 15 ∧ e.rd R.SY_BOOT F.SY_BOOT_fail = 6 ∧ e.devState = 4 ∧ e.on R.RL_FAULT F.RL_FAULT_boot = true := by
  have hgo : (decide (1 ≤ d.stage) && decide (d.stage ≤ 10) && decide (d.bo.began + msU (2 * stageMax d.stage) < d.now)) = true := by
    rw [decide_eq_true h1, decide_eq_true h10, decide_eq_true ht]
    rfl
  obtain ⟨hstage, hfail, hdown⟩ := Dev.startFail_shows d (code := 6) (by decide) F.RL_FAULT_boot
  exact ⟨_, fun _ => exec_next rfl (if_pos hgo), hstage, hfail, hdown, Dev.startFail_fault d 6 (by decide) rfl⟩

end

end Sys2Proof.Machine
end

/-! ## The cold and the warm reset (R440, R460, R467, R468, R480) -/
section
namespace Sys2Proof.Machine

/-! ### What the steps of a reset leave -/

/-- What the later steps of a reset leave as its first one gave it; of the timebase the islands' voltages are left out. -/
structure Settled where
  now : Nat
  mem : List Host.Cell
  threads : Tab Thread
  frames : Tab Frame
  devState : Nat
  as : Assay
  nand : Tab (BitVec 512)
  tb : Timebase

def Dev.settled (d : Dev) : Settled := ⟨d.now, d.mem, d.threads, d.frames, d.devState, d.as, d.tl.nand, { d.tb with volt := [] }⟩

theorem Dev.wr_settled (d : Dev) (r : Reg) (f : Fld) (x : Nat) : (d.wr r f x).settled = d.settled := (rfl)

theorem Dev.modBg_settled (d : Dev) (f : Background → Background) : (d.modBg f).settled = d.settled := (rfl)

theorem Dev.modBg_rget (d : Dev) (f : Background → Background) (r : Reg) : (d.modBg f).rget r = d.rget r := (rfl)

theorem Dev.out_settled (d : Dev) (o : Out) : (d.out o).settled = d.settled := by
  cases o
  case pin n on =>
    rw [Dev.out]
    split <;> rfl
  all_goals rfl

theorem Dev.alarm_settled (d : Dev) (f : Fld) (on : Bool) : (d.alarm f on).settled = d.settled := by
  have hwr : (d.wr R.RL_ALARM f (b2n on)).settled = d.settled := rfl
  rw [Dev.alarm, ← hwr, Dev.alarmEdge]
  split
  · rfl
  · exact Dev.out_settled ..

theorem Dev.pinsAfter_settled (d old : Dev) : (d.pinsAfter old).settled = d.settled := by
  have hone (e : Dev) (c : Prop) [Decidable c] (o : Out) : (if c then e.out o else e).settled = e.settled := by
    split
    · exact Dev.out_settled ..
    · rfl
  exact (hone _ _ _).trans ((hone _ _ _).trans (hone _ _ _))

theorem Dev.pinsAfter_rget (d old : Dev) (r : Reg) : (d.pinsAfter old).rget r = d.rget r := by
  have hone (e : Dev) (c : Prop) [Decidable c] (o : Out) : (if c then e.out o else e).rget r = e.rget r := by
    split
    · exact Dev.out_rget ..
    · rfl
  exact (hone _ _ _).trans ((hone _ _ _).trans (hone _ _ _))

section
variable (old d : Dev)

theorem Dev.undoRepair_settled (k : Nat) : (d.undoRepair k).settled = d.settled := by
  rw [Dev.undoRepair]
  split <;> rfl

theorem Dev.undoRepair_rget (k : Nat) (r : Reg) : (d.undoRepair k).rget r = d.rget r := by
  rw [Dev.undoRepair]
  split <;> rfl

theorem Dev.uncountRepair_settled (k : Nat) : (d.uncountRepair k).settled = d.settled := by
  rw [Dev.uncountRepair]
  split <;> rfl

/-- The spares that are left, of a quadrant and for it. -/
def Dev.keepSpares (q : Nat) : Dev := (d.keepFld old (R.LD_REPAIR q) F.LD_REPAIR_rows_left).keepFld old (R.LD_REPAIR q) F.LD_REPAIR_banks_left

theorem Dev.keepRepairs_settled : (d.keepRepairs old).settled = d.settled := by
  refine (foldl_keeps Dev.settled (fun e k => e.uncountRepair_settled k) old.ld.unlogged _).trans ?_
  refine (foldl_keeps Dev.settled (fun e k => e.undoRepair_settled k) _ _).trans ?_
  exact foldl_keeps (f := fun (d : Dev) q => Dev.keepSpares old d q) Dev.settled (fun _ _ => rfl) (List.range 4) _

section
variable {r : Reg} (hr : ∀ q, q < 4 → r.addr ≠ (R.LD_REPAIR q).addr)
include hr

theorem Dev.uncountRepair_rget (k : Nat) : (d.uncountRepair k).rget r = d.rget r := by
  rw [Dev.uncountRepair]
  split
  · exact Dev.rget_wr_other _ _ _ _ (hr _ (Nat.mod_lt _ (by decide)))
  · exact Dev.rget_wr_other _ _ _ _ (hr _ (Nat.mod_lt _ (by decide)))

theorem Dev.keepRepairs_rget : (d.keepRepairs old).rget r = d.rget r := by
  refine (foldl_keeps (fun e : Dev => e.rget r) (fun e k => e.uncountRepair_rget hr k) old.ld.unlogged _).trans ?_
  refine (foldl_keeps (fun e : Dev => e.rget r) (fun e k => e.undoRepair_rget k r) _ _).trans ?_
  refine foldl_keeps_mem (f := fun (d : Dev) q => Dev.keepSpares old d q) (fun e : Dev => e.rget r) (l := List.range 4) (fun e q hq => ?_) _
  have hq := hr q (List.mem_range.1 hq)
  exact (Dev.rget_wr_other _ _ _ _ hq).trans (Dev.rget_wr_other _ _ _ _ hq)

end

theorem Dev.ledgerBack_settled : d.ledgerBack.settled = d.settled := by
  unfold Dev.ledgerBack
  generalize d.ledgerNewest = newest
  cases newest with
  | none => rfl
  | some x =>
    dsimp only
    rw [Dev.wr_settled, Dev.modBg_settled]

theorem Dev.ledgerBack_rget {r : Reg} (hr : r.addr ≠ R.RL_GALSTAT.addr) : d.ledgerBack.rget r = d.rget r := by
  unfold Dev.ledgerBack
  generalize d.ledgerNewest = newest
  cases newest with
  | none => rfl
  | some x =>
    dsimp only
    rw [Dev.rget_wr_other _ _ _ _ hr, Dev.modBg_rget]

/-! ### The cold reset -/

theorem Dev.byte_norCells {d e : Dev} (h : e.mem = norCells d.mem) (x : Nat) : e.byte x = if 2 ^ 44 ≤ x ∧ x < 2 ^ 45 then d.byte x else memDefault x := by
  rw [Dev.byte, h]
  split
  next hx =>
    exact Tab.get_filter_of_pos d.mem (fun a => decide (2 ^ 44 ≤ a) && decide (a < 2 ^ 45)) _ (by rw [decide_eq_true hx.1, decide_eq_true hx.2]; rfl)
  next hx =>
    refine Tab.get_filter_of_neg d.mem (fun a => decide (2 ^ 44 ≤ a) && decide (a < 2 ^ 45)) _ ?_
    rw [← Bool.decide_and]
    exact decide_eq_false hx

theorem Dev.coldFields_settled : (d.coldFields old).settled = d.settled := rfl

theorem Dev.coldDev_settled : d.coldDev.settled = ⟨0, norCells d.mem, [], [], 0, {}, d.tl.nand, {}⟩ := by
  rw [Dev.coldDev, Dev.pinsAfter_settled, Dev.ledgerBack_settled, Dev.keepRepairs_settled]
  rfl

/-- A register that a cold start does not read back. -/
def Reg.beyondCold (r : Reg) : Prop := r.addr ≠ R.RL_GALSTAT.addr ∧ (∀ q, q < 4 → r.addr ≠ (R.LD_REPAIR q).addr) ∧ r.addr ≠ R.BG_KA.addr
  ∧ r.addr ≠ R.PW_TLIM.addr ∧ r.addr ≠ R.TL_STAT.addr ∧ r.addr ≠ R.TL_WEAR.addr

theorem Dev.coldDev_rget {r : Reg} (hr : r.beyondCold) : d.coldDev.rget r = (d.coldBase.keepFld d R.SY_BOOT F.SY_BOOT_fuse_ver).rget r := by
  obtain ⟨hgal, hrep, hka, hlim, hstat, hwear⟩ := hr
  rw [Dev.coldDev, Dev.pinsAfter_rget, Dev.ledgerBack_rget _ hgal, Dev.keepRepairs_rget _ _ hrep]
  simp (disch := assumption) only [Dev.coldFields, Dev.keepFld, List.foldl_cons, List.foldl_nil, Dev.rget_wr_other]

theorem Dev.coldDev_stage : d.coldDev.stage = 1 := by
  refine (congrArg F.SY_BOOT_stage.get (d.coldDev_rget (r := R.SY_BOOT) ?_)).trans ((Dev.rd_wr_beside _ _ _ _ (by decide) (by decide)).trans resetState.2.1)
  exact ⟨by decide, fun q _ => by simp only [R.SY_BOOT, R.LD_REPAIR]; omega, by decide, by decide, by decide, by decide⟩

theorem Dev.coldDev_domSt {k : Nat} (hk : k < 50) : d.coldDev.domSt k = 0 := by
  refine (congrArg F.PW_DOM_state.get (d.coldDev_rget (r := R.PW_DOM k) ?_)).trans
    ((Dev.rd_wr_other _ _ _ _ _ (by simp only [R.PW_DOM, R.SY_BOOT]; omega)).trans (resetState.2.2.1 k hk))
  refine ⟨?_, fun q hq => ?_, ?_, ?_, ?_, ?_⟩ <;>
    simp only [R.PW_DOM, R.RL_GALSTAT, R.LD_REPAIR, R.BG_KA, R.PW_TLIM, R.TL_STAT, R.TL_WEAR] <;> omega

end

theorem coldReset_starts {d : Dev} (h : d.powerMode = 4) : ∃ e, Does .coldReset d e ∧ e.stage = 1 ∧ e.now = 0 ∧ (∀ k, k < 50 → e.domSt k = 0) ∧ e.threads = []
    ∧ e.frames = [] ∧ e.devState = 0 ∧ (∀ x, e.byte x = if 2 ^ 44 ≤ x ∧ x < 2 ^ 45 then d.byte x else memDefault x) := by
  have hset := d.coldDev_settled
  exact ⟨_, fun _ => exec_next rfl (if_neg (not_not_intro h)), d.coldDev_stage, congrArg Settled.now hset, fun _ hk => d.coldDev_domSt hk,
    congrArg Settled.threads hset, congrArg Settled.frames hset, congrArg Settled.devState hset, Dev.byte_norCells (congrArg Settled.mem hset)⟩

theorem coldReset_powered {d : Dev} (h : d.powerMode ≠ 4) : Does .coldReset d { d with bo := { d.bo with vmain := true } } :=
  fun _ => exec_next rfl (if_pos h)

end Sys2Proof.Machine
end

/-! ## The warm reset, and start-up as a whole (R467, R468) -/
section
namespace Sys2Proof.Machine

section
variable (old : Dev)

theorem Dev.isleStart_settled (d : Dev) (i : Nat) : (d.isleStart i).settled = d.settled := by
  rw [Dev.isleStart]
  split <;> rfl

theorem Dev.domsOn_settled (d : Dev) (l : List Nat) : (d.domsOn l).settled = d.settled :=
  foldl_keeps (f := fun (d : Dev) k => (domIsles k).foldl Dev.isleStart (d.wr (R.PW_DOM k) F.PW_DOM_state 2)) Dev.settled
    (fun _ k => (foldl_keeps Dev.settled Dev.isleStart_settled (domIsles k) _).trans (Dev.wr_settled ..)) l d

/-- Registers taken over as a whole hold what they held before. -/
theorem keepRegs_rget {r : Reg} (l : List Reg) (hne : ∀ q ∈ l, q = r ∨ r.addr ≠ q.addr) (d : Dev) (h : d.rget r = old.rget r ∨ r ∈ l) :
    (l.foldl (fun (d : Dev) q => Dev.keepReg d old q) d).rget r = old.rget r := by
  induction l generalizing d with
  | nil => exact h.resolve_right List.not_mem_nil
  | cons q rest ih =>
    refine ih (fun q' hq => hne q' (List.mem_cons_of_mem _ hq)) _ ?_
    rcases hne q List.mem_cons_self with heq | hq
    · exact .inl (heq ▸ Dev.rset_rget ..)
    · refine h.imp (fun h => (Dev.rset_rget_of_ne _ _ hq).trans h) (fun h => ?_)
      exact (List.mem_cons.1 h).resolve_left (fun he => hq (congrArg Reg.addr he))

theorem warmRegs_apart {r : Reg} (h : r ∈ warmRegs) : ∀ q ∈ warmRegs, q = r ∨ r.addr ≠ q.addr := by
  decide +revert

/-- The registers that a warm reset takes over as a whole. -/
def Dev.regsKept (d : Dev) : Dev := warmRegs.foldl (fun (d : Dev) r => d.keepReg old r) d

theorem Dev.regsKept_settled (d : Dev) : (Dev.regsKept old d).settled = d.settled := by
  have hone (e : Dev) (r : Reg) : (e.keepReg old r).settled = e.settled := rfl
  exact foldl_keeps Dev.settled hone warmRegs d

/-- The registers and fields of a warm reset before the domains that are on. -/
def Dev.warmKept (d : Dev) : Dev :=
  let d := Dev.regsKept old d
  let d := ([F.SY_BOOT_fuse_ver, F.SY_BOOT_boot_sel]).foldl (fun (d : Dev) f => d.keepFld old R.SY_BOOT f) d
  let d := (d.wr R.SY_BOOT F.SY_BOOT_warm 1).toStage 2
  let d := ([F.PW_LSTAT_lull_en, F.PW_LSTAT_store_ok]).foldl (fun (d : Dev) f => d.keepFld old R.PW_LSTAT f) d
  (d.keepFld old R.PW_TLIM F.PW_TLIM_trip_cnt).keepFld old R.DB_STAT F.DB_STAT_fail_cnt

theorem Dev.warmFields_eq (d : Dev) :
    d.warmFields old = ((Dev.warmKept old d).domsOn [47, 48, 49]).keepFld old R.RL_GALSTAT F.RL_GALSTAT_relief := rfl

theorem Dev.warmKept_settled (d : Dev) : (Dev.warmKept old d).settled = d.settled := by
  simp only [Dev.warmKept, Dev.toStage, Dev.keepFld, List.foldl_cons, List.foldl_nil, Dev.wr_settled]
  exact Dev.regsKept_settled old d

theorem Dev.warmDev_settled : old.warmDev.settled = ⟨old.now, norCells old.mem, [], [], if old.devState = 4 then 4 else 0, {}, old.tl.nand,
    { old.tb with volt := [] }⟩ := by
  rw [Dev.warmDev, Dev.pinsAfter_settled, Dev.timeAlarm, Dev.alarm_settled, Dev.keepRepairs_settled, Dev.warmFields_eq]
  exact (Dev.wr_settled ..).trans ((Dev.domsOn_settled ..).trans (Dev.warmKept_settled ..))

/-- A register that the steps of a warm reset after the kept ones do not write. -/
def Reg.beyondWarm (r : Reg) : Prop :=
  r.beyondStart ∧ (∀ q, q < 4 → r.addr ≠ (R.LD_REPAIR q).addr) ∧ r.addr ≠ R.RL_GALSTAT.addr ∧ r.addr ≠ R.RL_ALARM.addr

theorem Dev.warmDev_rget {r : Reg} (hr : r.beyondWarm) : old.warmDev.rget r = (Dev.warmKept old old.warmBase).rget r := by
  obtain ⟨hstart, hrep, hgal, halarm⟩ := hr
  rw [Dev.warmDev, Dev.pinsAfter_rget, Dev.timeAlarm, Dev.alarm_rget _ _ _ halarm, Dev.keepRepairs_rget _ _ hrep, Dev.warmFields_eq, Dev.keepFld,
    Dev.rget_wr_other _ _ _ _ hgal, Dev.domsOn_rget hstart (by decide)]

theorem Dev.warmDev_kept {r : Reg} (hr : r.beyondWarm) (hmem : r ∈ warmRegs) (hfld : ∀ q ∈ [R.SY_BOOT, R.PW_LSTAT, R.PW_TLIM, R.DB_STAT], r.addr ≠ q.addr) :
    old.warmDev.rget r = old.rget r := by
  have hboot := hfld R.SY_BOOT (by decide)
  have hpower := hfld R.PW_LSTAT (by decide)
  have hlim := hfld R.PW_TLIM (by decide)
  have hdb := hfld R.DB_STAT (by decide)
  rw [old.warmDev_rget hr]
  refine Eq.trans ?_ (keepRegs_rget old warmRegs (warmRegs_apart hmem) old.warmBase (.inr hmem))
  simp (disch := assumption) only [Dev.warmKept, Dev.toStage, Dev.keepFld, List.foldl_cons, List.foldl_nil, Dev.rget_wr_other]
  rfl

theorem Dev.warmDev_boot : old.warmDev.stage = 2 ∧ old.warmDev.on R.SY_BOOT F.SY_BOOT_warm = true
    ∧ old.warmDev.rd R.SY_BOOT F.SY_BOOT_boot_sel = old.rd R.SY_BOOT F.SY_BOOT_boot_sel := by
  have hrget (f : Fld) : old.warmDev.rd R.SY_BOOT f = (Dev.warmKept old old.warmBase).rd R.SY_BOOT f :=
    congrArg f.get (old.warmDev_rget (r := R.SY_BOOT)
      ⟨R.SY_BOOT_beyondStart, fun q _ => by simp only [R.SY_BOOT, R.LD_REPAIR]; omega, by decide, by decide⟩)
  simp only [Dev.stage, Dev.on, hrget]
  simp (disch := decide) only [Dev.warmKept, Dev.toStage, Dev.keepFld, List.foldl_cons, List.foldl_nil, Dev.rd_wr_other, Dev.rd_wr_self, Dev.rd_wr_beside]
  exact ⟨rfl, rfl, Nat.mod_eq_of_lt (old.rd_lt ..)⟩

end

section
variable {d : Dev}

theorem warmResetBegin_waits (h : d.devState = 3 ∨ (List.range 64).any d.waiting = true) : Does .warmResetBegin d d := by
  refine fun _ => exec_next rfl (if_pos ?_)
  rcases h with h | h
  · simp [h]
  · simp [h]

theorem warmResetBegin_does (hr : d.bo.warmReq = true) (hp : d.powerMode = 0) (hs : d.devState ≠ 3) (hw : (List.range 64).any d.waiting = false) (hg : ∀ k, k < 4 → d.on (R.CG_GRANT k) F.CG_GRANT_valid = false) :
    Does .warmResetBegin d d.warmDev := by
  have hgo : (!d.bo.warmReq || decide (d.devState = 3) || decide (d.powerMode ≠ 0) || (List.range 64).any d.waiting) = false := by
    rw [hr, hp, decide_eq_false hs, hw]
    rfl
  have hend (k : Nat) (hk : k < 4) : d.grantEnd k = d := if_pos (by rw [hg k hk]; rfl)
  have hnone : (List.range 4).foldl Dev.grantEnd d = d := by
    show (((d.grantEnd 0).grantEnd 1).grantEnd 2).grantEnd 3 = d
    rw [hend 0 (by decide), hend 1 (by decide), hend 2 (by decide), hend 3 (by decide)]
  exact fun _ => exec_next rfl ((if_neg (Bool.eq_false_iff.1 hgo)).trans (congrArg Dev.warmDev hnone))

end

/-- Settles O52. -/
theorem startUp : Obligations.StartUp := by
  refine ⟨?stages, ?warm⟩
  case stages =>
    intro d bootSel lullEn a b lock coreC passed bad gals imgs bits reqs ports f rows boot first good v after
    refine ⟨coldReset_starts, coldReset_powered, fun h => strapSample_does h bootSel lullEn, endStraps_does, ?first, ?neither, endCalib_does, endRamp_does,
      endRamp_fails, ?train, endLode_first, endLode_second, fun h hl => endLode_does h hl bad rows, fun h => endSelftest_does h gals,
      fun h => endSelftest_fails h gals f, fun h => endConfig_does h imgs bits, endReady_does, fun h => endApply_does h reqs ports, stageTimeout_does⟩
    case first =>
      intro h hg hl
      subst hl
      obtain ⟨hstage, hslot, hdom⟩ := d.lockstepUp_shows (slot := first) (Nat.mod_lt _ (by decide))
      exact ⟨_, stageEnd_does ⟨h, Dev.endVerify_first coreC rfl hg⟩, hstage, hslot, hdom⟩
    case neither =>
      intro h hg ho
      exact ⟨_, stageEnd_does ⟨h, Dev.endVerify_none lock coreC rfl hg ho⟩, Dev.startFail_shows _ (by decide) _⟩
    case train =>
      intro h hl hs hp h1
      subst h1
      exact endTrain_does h hl hs hp
  case warm =>
    intro d hr hp
    refine ⟨warmResetBegin_waits, fun hs hw hg => ?_⟩
    have hset := d.warmDev_settled
    have hkept (r : Reg) (hr : r.beyondWarm) (hmem : r ∈ warmRegs) (hfld : ∀ q ∈ [R.SY_BOOT, R.PW_LSTAT, R.PW_TLIM, R.DB_STAT], r.addr ≠ q.addr) :
        d.warmDev.rget r = d.rget r := d.warmDev_kept hr hmem hfld
    obtain ⟨hstage, hwarm, hsel⟩ := d.warmDev_boot
    have htb : d.warmDev.tb = { d.tb with volt := d.warmDev.tb.volt } :=
      congrArg (fun s : Settled => { s.tb with volt := d.warmDev.tb.volt }) hset
    refine ⟨_, warmResetBegin_does hr hp hs hw hg, hstage, hwarm, congrArg Settled.now hset, htb, hkept _ ?_ (by decide) (by decide),
      hkept _ ?_ (by decide) (by decide), hkept _ ?_ (by decide) (by decide), hsel, congrArg Settled.nand hset, congrArg Settled.threads hset,
      congrArg Settled.frames hset, congrArg (fun s : Settled => s.as.rules) hset, Dev.byte_norCells (congrArg Settled.mem hset)⟩
    all_goals
      refine ⟨⟨fun k hk => ?_, fun i hi => ?_⟩, fun q _ => ?_, by decide, by decide⟩ <;>
        simp only [R.TB_CTL, R.TB_FREQ, R.RL_FAULT, R.PW_DOM, R.CK_ISLSTAT, R.LD_REPAIR] <;> omega

end Sys2Proof.Machine
end

/-! ## Requests of the Cage that pass their checks (R363, R370) -/
section
namespace Sys2Proof.Machine

section
variable {d e : Dev} {fn : Fin 64} {code : Nat} {c : Cmd} {ok : Bool} {img : Option (List Byte)} {bad : Option (Nat × Bool)} {cmd : Instr} {bs : List Byte}

/-- A request that passes its checks runs its command. -/
theorem Dev.cageRun_asked (ha : d.asked fn code c (d.request fn ok img bad) = true) {a : Ans} (hrun : c.run (d.request fn ok img bad) d = (some a, e)) :
    d.cageRun fn code c ⟨fn, [], ok, img, bad⟩ = e.reply fn (d.reqHdr fn) a := by
  simp only [Dev.asked, Bool.and_eq_true, beq_iff_eq, Option.isNone_iff_eq_none] at ha
  obtain ⟨⟨⟨⟨hwait, hcode⟩, hstatus⟩, hbad⟩, hregs⟩ := ha
  have hgo : (!d.waiting fn || decide ((d.reqHdr fn).code ≠ code) || (d.reqStatus fn (d.reqHdr fn) (some c) (d.request fn ok img bad)).isSome) = false := by
    rw [hwait, hcode, hstatus]
    simp
  have hreach : ((c.regs (d.request fn ok img bad)).any fun a => !d.reachable a) = false := by
    rw [← Bool.not_eq_true', List.not_any_eq_all_not]
    simpa using hregs
  have hcmd : d.runCmd c (d.request fn ok img bad) = (some a, e) := by
    rw [Dev.runCmd, hbad]
    exact (if_neg (Bool.eq_false_iff.1 hreach)).trans hrun
  refine (if_neg (Bool.eq_false_iff.1 hgo)).trans ?_
  show (match (d.runCmd c (d.request fn ok img bad)).1 with
    | some a => (d.runCmd c (d.request fn ok img bad)).2.reply fn (d.reqHdr fn) a
    | none => (d.runCmd c (d.request fn ok img bad)).2) = _
  rw [hcmd]

/-- A command that answers with bytes. -/
theorem cage_gives (hexec : ∀ q, exec cmd ⟨d, q⟩ = State.go ⟨d, q⟩ (fun d => d.cageRun fn code c ⟨fn, [], ok, img, bad⟩))
    (ha : d.asked fn code c (d.request fn ok img bad) = true) (hrun : c.run (d.request fn ok img bad) d = (ansOk bs, e)) : Gives cmd d fn e bs :=
  fun q => exec_next (hexec q) (Dev.cageRun_asked ha hrun)

/-- A command whose effect may be refused, and is taken. -/
theorem takenOr_taken {w : Nat} {x : Bool × Dev} (h : x.1 = true) : takenOr w x = (ansOk, x.2) := congrArg (·, x.2) (if_pos h)

theorem takenThen_taken {w : Nat} {x : Bool × Dev} {f : Dev → List Byte × Dev} (h : x.1 = true) :
    takenThen w x f = (ansOk (f x.2).1, (f x.2).2) := if_pos h

/-- A command whose effect may be refused, is taken, and is answered with parts. -/
theorem cage_shows {w : Nat} {x : Bool × Dev} {ps : List Part}
    (hexec : ∀ q, exec cmd ⟨d, q⟩ = State.go ⟨d, q⟩ (fun d => d.cageRun fn code c ⟨fn, [], ok, img, bad⟩))
    (ha : d.asked fn code c (d.request fn ok img bad) = true)
    (hrun : c.run (d.request fn ok img bad) d = takenThen w x (fun e => e.parts fn false ps)) (hx : x.1 = true) : Shows cmd d fn x.2 false ps :=
  cage_gives hexec ha (hrun.trans (takenThen_taken hx))

/-- A command that only reads, and clears what it is asked to. -/
theorem cage_reads {lvl : Level} {len : Nat} {badArgs : CmdIn → List BadArg} {ps : CmdIn → List Part} {l : List Part}
    (hexec : ∀ q, exec cmd ⟨d, q⟩ = State.go ⟨d, q⟩ (fun d => d.cageRun fn code (readCmd lvl len badArgs ps true) ⟨fn, [], ok, img, bad⟩))
    (ha : d.asked fn code (readCmd lvl len badArgs ps true) (d.request fn ok img bad) = true) (hps : ps (d.request fn ok img bad) = l) :
    Shows cmd d fn d (d.request fn ok img bad).clr l :=
  hps ▸ cage_gives hexec ha rfl

/-- A command that writes images: none of them is refused. -/
theorem cage_writes {lvl : Level} {pf : Bool} {len status : Nat} {badArgs : CmdIn → List BadArg} {ims : CmdIn → List (RegId × List Nat × Word64)}
    {ps : CmdIn → List Part}
    (hexec : ∀ q, exec cmd ⟨d, q⟩ = State.go ⟨d, q⟩ (fun d => d.cageRun fn code (writeCmd lvl pf len badArgs ims ps status) ⟨fn, [], ok, img, bad⟩))
    (ha : d.asked fn code (writeCmd lvl pf len badArgs ims ps status) (d.request fn ok img bad) = true) :
    Writes cmd d fn (ims (d.request fn ok img bad)) (ps (d.request fn ok img bad)) :=
  fun h => cage_shows hexec ha rfl h

end

/-! ## Device-wide commands (R375, R391, R412, R475 to R477, R484, R489, R498) -/

theorem Dev.cmdTallyRead_run {i : CmdIn} {d : Dev} {rs : List (BitVec 512)} (hrs : d.tallyRun (i.u 1 0) (i.u 4 4) (i.u 1 8) = rs) (h : rs ≠ []) :
    cmdTallyRead.run i d = (ansOk (leBytes 8 rs.length ++ rs.flatMap (fun r => leBytes 64 r.toNat)), d) := by
  cases rs with
  | nil => exact absurd rfl h
  | cons r rest =>
    simp only [cmdTallyRead, hrs]

/-- Settles O51. -/
theorem cageDeviceCommands : Obligations.CageDeviceCommands := by
  intro d fn ok i j A B spare force v t on p staged set rs lost lim
  refine ⟨fun h => cage_gives (fun _ => rfl) h rfl, fun h hs => cage_gives (fun _ => rfl) h (takenOr_taken hs), fun h => cage_gives (fun _ => rfl) h rfl,
    fun h hf => cage_gives (fun _ => rfl) h (takenOr_taken hf), fun h => cage_gives (fun _ => rfl) h rfl, fun h => cage_gives (fun _ => rfl) h rfl,
    fun h => cage_gives (fun _ => rfl) h rfl, fun h => cage_gives (fun _ => rfl) h rfl, fun h => cage_gives (fun _ => rfl) h rfl,
    fun h h0 => cage_gives (fun _ => rfl) h (if_pos h0), ?calibCommit,
    fun h hn => cage_gives (fun _ => rfl) h (Dev.cmdTallyRead_run rfl hn), fun h => cage_gives (fun _ => rfl) h rfl,
    fun h hl => cage_gives (fun _ => rfl) h (takenOr_taken hl), fun h => cage_gives (fun _ => rfl) h rfl, ?unlock, fun h => cage_gives (fun _ => rfl) h rfl⟩
  case calibCommit =>
    intro h h1 hg
    refine cage_gives (fun _ => rfl) h ((if_neg ?_).trans (if_pos hg))
    rw [h1]
    decide
  case unlock =>
    intro h hn hu
    refine cage_gives (fun _ => rfl) h ((if_neg ?_).trans (takenOr_taken hu))
    rw [hn]
    decide

end Sys2Proof.Machine
end

/-! ## Cage commands of the ports, of time and of Assay (R29, R36, R40, R41, R46, R62, R63, R66, R76, R81, R89 to R93, R96, R372) -/
section
namespace Sys2Proof.Machine

section
variable {d : Dev} {i : CmdIn}

/-- The admin gate list of a port with the words and the two registers that a request brings (R46). -/
def Dev.gateLoaded (d : Dev) (i : CmdIn) : Dev :=
  ((d.put (adminAddr i.unit + 4 * i.u 2 8) (i.bytes (4 * i.u 2 10) 32)).putImgs [(.PT_GCLCTL, [i.unit], i.w64 16), (.PT_GCLBASE, [i.unit], i.w64 24)]).2

theorem cmdGateListLoad_run (hp : d.on (R.PT_GCLCTL i.unit) F.PT_GCLCTL_pending = false) : cmdGateListLoad.run i d =
    if i.u 1 12 = 1 && !(d.gateLoaded i).adminOk i.unit then (ansErr 8, (d.gateLoaded i).gclCommit i.unit)
    else answered ((if i.u 1 12 = 1 then (d.gateLoaded i).gclCommit i.unit else d.gateLoaded i).parts i.fn false [.s .PT_GCLCTL [i.unit]]) :=
  if_neg (Bool.eq_false_iff.1 hp)

theorem cmdGateListLoad_loads (hp : d.on (R.PT_GCLCTL i.unit) F.PT_GCLCTL_pending = false) (h : i.u 1 12 = 0) :
    cmdGateListLoad.run i d = answered ((d.gateLoaded i).parts i.fn false [.s .PT_GCLCTL [i.unit]]) := by
  rw [cmdGateListLoad_run hp, h]
  rfl

theorem cmdGateListLoad_commits (hp : d.on (R.PT_GCLCTL i.unit) F.PT_GCLCTL_pending = false) (h : i.u 1 12 = 1)
    (hok : (d.gateLoaded i).adminOk i.unit = true) :
    cmdGateListLoad.run i d = answered (((d.gateLoaded i).gclCommit i.unit).parts i.fn false [.s .PT_GCLCTL [i.unit]]) := by
  rw [cmdGateListLoad_run hp, h, hok]
  rfl

/-- Where a request's security association stands at its port, and what it holds (R35, R36). -/
def CmdIn.saKey (i : CmdIn) : Nat := if i.u 1 8 == 1 then 256 + i.u 1 9 * 4 + i.u 1 10 else i.u 1 10

def CmdIn.sa (i : CmdIn) : MacSa := { suite := i.u 1 11, sci := i.u 8 16, pn := i.u 8 24, ssci := i.u 4 32, salt := i.u 12 36, key := i.u 32 48 }

/-- The key does not stay in the request's area (R36). -/
def Dev.areaWiped (d : Dev) (i : CmdIn) : Dev := d.wipe (cageBase i.fn + 0x100) (cageBase i.fn + 0x900)

theorem cmdMacsecSaSet_installs (h : i.u 1 12 = 1) : cmdMacsecSaSet.run i d = (ansOk, (d.areaWiped i).modPort i.unit (fun x =>
    { x with sas := x.sas.put i.saKey i.sa, txAn := if i.u 1 8 == 1 then x.txAn else i.u 1 10 })) := by
  simp only [cmdMacsecSaSet, if_pos h]
  rfl

theorem cmdMacsecSaSet_removes (h : i.u 1 12 ≠ 1) :
    cmdMacsecSaSet.run i d = (ansOk, (d.areaWiped i).modPort i.unit (fun x => { x with sas := x.sas.del i.saKey })) := by
  simp only [cmdMacsecSaSet, if_neg h]
  rfl

/-- A port's or the clock's PTP parameters, as a request brings them (R40). -/
def CmdIn.ptp (i : CmdIn) : PtpCfg :=
  { role := i.u 1 8, profile := i.u 1 9, flags := i.u 1 10, logSync := i.u 1 11, asym := i.u 4 12, inLat := i.u 4 16, egLat := i.u 4 20 }

/-- Two-step PTP is taken as it is. -/
theorem cmdPtpConfig_run (h : bitAt (i.u 1 10) 0 = false) : cmdPtpConfig.run i d =
    (ansOk, if i.unit < 32 then d.modPort i.unit (fun x => { x with ptp := i.ptp }) else { d with pt := { d.pt with clock := i.ptp } }) := by
  refine if_neg (Bool.eq_false_iff.1 ?_)
  show (bitAt (i.u 1 10) 0 && _) = false
  rw [h, Bool.false_and]

/-- Two ports with each other as peers, of opposite LANs (R41). -/
def Dev.pairSet (d : Dev) (i : CmdIn) : Dev :=
  let e := (d.fwSet .PT_RED [i.unit] [(F.PT_RED_role, i.u 1 8), (F.PT_RED_peer, i.u 1 9), (F.PT_RED_lan_b, i.u 1 10)]).2
  (e.fwSet .PT_RED [i.u 1 9] [(F.PT_RED_role, i.u 1 8), (F.PT_RED_peer, i.unit), (F.PT_RED_lan_b, 1 - i.u 1 10)]).2

theorem cmdRedPairSet_run : cmdRedPairSet.run i d = answered ((d.pairSet i).parts i.fn false [.s .PT_RED [i.unit], .s .PT_RED [i.u 1 9]]) := rfl

theorem not_stageReady (h : d.stageReady = true) : ¬ (!d.stageReady) = true := by
  rw [h]
  decide

theorem cmdRuleFlag_run (h : d.stageReady = true) :
    cmdRuleFlag.run i d = (ansOk, d.setRule i.unit ((d.rule i.unit).setSlot (1 - d.curSlot) (i.u 1 8 == 1))) := by
  refine (if_neg (not_stageReady h)).trans ?_
  rw [Dev.ruleFlag, if_neg (not_stageReady h)]

end

/-- Settles O48. -/
theorem cagePortsAndAssay : Obligations.CagePortsAndAssay := by
  refine ⟨?ports, ?assay⟩
  case ports =>
    intro d fn i A p an rx key sa wiped ptp gate gate' stats
    refine ⟨fun h => cage_writes (fun _ => rfl) h, fun h => cage_gives (fun _ => rfl) h rfl, fun h => cage_gives (fun _ => rfl) h rfl,
      fun h hp h0 => cage_gives (fun _ => rfl) h (cmdGateListLoad_loads hp h0), fun h hp h1 hok => cage_gives (fun _ => rfl) h (cmdGateListLoad_commits hp h1 hok),
      fun h h1 => cage_gives (fun _ => rfl) h (cmdMacsecSaSet_installs h1), fun h h1 => cage_gives (fun _ => rfl) h (cmdMacsecSaSet_removes h1),
      ?ptpPort, ?ptpClock, fun h => cage_gives (fun _ => rfl) h cmdRedPairSet_run, fun h => cage_writes (fun _ => rfl) h, fun h => cage_gives (fun _ => rfl) h rfl,
      fun h => cage_writes (fun _ => rfl) h, fun h hx => cage_shows (fun _ => rfl) h rfl hx⟩
    case ptpPort =>
      intro h h0 hp
      exact cage_gives (fun _ => rfl) h ((cmdPtpConfig_run h0).trans (congrArg (ansOk, ·) (if_pos hp)))
    case ptpClock =>
      intro h h0 hp
      exact cage_gives (fun _ => rfl) h ((cmdPtpConfig_run h0).trans (congrArg (ansOk, ·) (if_neg (Nat.not_lt.2 hp))))
  case assay =>
    intro d fn i A u
    refine ⟨fun h hs hw => cage_gives (fun _ => rfl) h ((if_neg (not_stageReady hs)).trans (takenOr_taken hw)),
      fun h hs => cage_gives (fun _ => rfl) h (cmdRuleFlag_run hs), fun h => cage_gives (fun _ => rfl) h rfl,
      fun h hs => cage_gives (fun _ => rfl) h (if_neg (not_stageReady hs)), fun h hs => cage_gives (fun _ => rfl) h (if_neg (not_stageReady hs)),
      fun h hc => cage_shows (fun _ => rfl) h rfl hc, fun h => cage_gives (fun _ => rfl) h rfl, ?retire,
      fun h => cage_writes (fun _ => rfl) h, fun h => cage_gives (fun _ => rfl) h rfl, fun h => cage_writes (fun _ => rfl) h,
      fun h => cage_gives (fun _ => rfl) h rfl⟩
    case retire =>
      intro h hl
      refine cage_gives (fun _ => rfl) h (if_neg ?_)
      rw [hl]
      decide

end Sys2Proof.Machine
end

/-! ## Cage commands of Lode, the Token board, Hoist, Crosscut and Bin (R239, R242, R256 to R260, R268, R277, R279, R283, R284, R307, R308, R310, R319, R320, R330, R374) -/
section
namespace Sys2Proof.Machine

section
variable {d e : Dev} {i : CmdIn} {x : LRes}

theorem cmdLodeOp_run (h : d.fwLode (i.u 1 0) (i.u 1 1 == 1) (i.bytes 32 8) 0 i.bad = (some x, e)) :
    cmdLodeOp.run i d = (ansOk (lodeReply x (i.u 1 1 == 1)), e) := by
  simp only [cmdLodeOp, h]

theorem cmdLodeRead_run (h : d.fwLode 9 (i.u 1 4 == 1) (indexArgs i.unit) 0 i.bad = (some x, e)) :
    cmdLodeRead.run i d = (ansOk (lodeReply x (i.u 1 4 == 1)), e) := by
  simp only [cmdLodeRead, h]

theorem cmdLodeWrite_run (h : d.fwLode 10 false (indexArgs i.unit) (BitVec.ofNat 512 (i.u 64 8)) none = (some x, e)) :
    cmdLodeWrite.run i d = (ansOk (leBytes 8 x.word), e) := by
  simp only [cmdLodeWrite, h, Option.bind_some]

/-- The fields of a flush stay as they stood before the timeouts are set (R259). -/
theorem cmdLodeAgeSet_run (h : (d.putImg .LD_TMO [i.unit] (i.w64 8)).2.rget R.LD_SWEEP = d.rget R.LD_SWEEP) : cmdLodeAgeSet.run i d =
    (ansOk, ((d.putImg .LD_TMO [i.unit] (i.w64 8)).2.putImg .LD_SWEEP []
      (F.LD_SWEEP_flush_kind.put (F.LD_SWEEP_flush_pin.put (i.w64 16) (F.LD_SWEEP_flush_pin.get (d.rget R.LD_SWEEP)))
        (F.LD_SWEEP_flush_kind.get (d.rget R.LD_SWEEP)))).2) := by
  simp only [cmdLodeAgeSet, h]

theorem cmdLodeFlush_run (h : d.on R.LD_SWEEP F.LD_SWEEP_flushing = false) : cmdLodeFlush.run i d =
    (ansOk, (d.fwSet .LD_SWEEP [] [(F.LD_SWEEP_flush_kind, i.u 1 0), (F.LD_SWEEP_flush_pin, i.u 1 1), (F.LD_SWEEP_flush, 1)]).2) :=
  if_neg (Bool.eq_false_iff.1 h)

theorem cmdLodeExportSet_run {u : Dev} {y : Bool × Dev} (hu : (d.fwSet .LD_KIND [i.u 1 0] [(F.LD_KIND_exp_rm, i.u 1 1), (F.LD_KIND_active_sw, i.u 1 2)]).2 = u)
    (hy : u.putImgs [(.LD_EXPRING, [], i.w64 8), (.LD_EXPIDX, [], i.w64 16)] = y) (h : y.1 = true) : cmdLodeExportSet.run i d = (ansOk, y.2) := by
  simp only [cmdLodeExportSet, hu, hy, takenOr_taken h]

/-- The oldest records of locks are taken off their queue (R279). -/
def Dev.recordsTaken (d : Dev) (n : Nat) : Dev := { d with tk := { d.tk with records := d.tk.records.drop n } }

theorem cmdLockStatus_run {x : List Byte × Dev} (hx : d.parts i.fn false [.s .TK_LOCK [i.unit]] = x) : cmdLockStatus.run i d =
    (ansOk (x.1 ++ leBytes 8 (x.2.tk.records.take (i.u 1 4)).length ++ (x.2.tk.records.take (i.u 1 4)).flatMap (fun r => leBytes 16 r.toNat)),
      (x.2.recordsTaken (i.u 1 4)).wr R.TK_RSTAT F.TK_RSTAT_depth (x.2.recordsTaken (i.u 1 4)).tk.records.length) := by
  subst hx
  rfl

theorem cmdLockForceRelease_run {x : List Byte × Dev} (hx : d.parts i.fn false [.s .TK_LOCK [i.unit]] = x) :
    cmdLockForceRelease.run i d = (ansOk x.1, x.2.abandonLock i.unit 4) := by
  subst hx
  rfl

/-- The parts of a function's reply on the switch. -/
def switchParts (n : Nat) : List Part :=
  if n < 32 then [.s .XC_PORT [n], .c .XC_PORT [n], .c .XC_PCNT [n]]
  else if n < 44 then [.s .XC_ROWSTAT [n - 32], .c .XC_ROWSTAT [n - 32], .c .XC_ROWREF [n - 32]]
  else if n < 56 then [.s .XC_COL [n - 44], .c .XC_COL [n - 44]]
  else [.c .XC_ERR [], .c .XC_LENERR []] ++ (List.range 15).map (fun s => .c .XC_MIRCNT [s + 1])

theorem switchParts_row {n : Nat} (h : 32 ≤ n) (h' : n < 44) :
    switchParts n = [.s .XC_ROWSTAT [n - 32], .c .XC_ROWSTAT [n - 32], .c .XC_ROWREF [n - 32]] :=
  (if_neg (by omega)).trans (if_pos h')

theorem switchParts_col {n : Nat} (h : 44 ≤ n) (h' : n < 56) : switchParts n = [.s .XC_COL [n - 44], .c .XC_COL [n - 44]] :=
  (if_neg (by omega)).trans ((if_neg (by omega)).trans (if_pos h'))

theorem switchParts_rest {n : Nat} (h : n = 56) :
    switchParts n = [.c .XC_ERR [], .c .XC_LENERR []] ++ (List.range 15).map (fun s => .c .XC_MIRCNT [s + 1]) :=
  (if_neg (by omega)).trans ((if_neg (by omega)).trans (if_neg (by omega)))

end

/-- Settles O50. -/
theorem cageLodeAndSwitch : Obligations.CageLodeAndSwitch := by
  refine ⟨?lode, ?switch⟩
  case lode =>
    intro d fn bad i A m u swept kinds rings tmo cfg lock recs left ho
    refine ⟨fun x e h hx => cage_gives (fun _ => rfl) h (cmdLodeOp_run hx), fun x e h hx => cage_gives (fun _ => rfl) h (cmdLodeRead_run hx),
      fun x e h hx => cage_gives (fun _ => rfl) h (cmdLodeWrite_run hx), fun h hf => cage_gives (fun _ => rfl) h (cmdLodeFlush_run hf), fun h hr => cage_gives (fun _ => rfl) h (cmdLodeExportSet_run rfl rfl hr),
      fun h => cage_gives (fun _ => rfl) h rfl, fun h => cage_reads (fun _ => rfl) h rfl, fun h hs => cage_gives (fun _ => rfl) h (cmdLodeAgeSet_run hs),
      fun h => cage_gives (fun _ => rfl) h rfl, fun h => cage_writes (fun _ => rfl) h, fun h => cage_gives (fun _ => rfl) h (cmdLockStatus_run rfl),
      fun h => cage_writes (fun _ => rfl) h, fun h => cage_writes (fun _ => rfl) h, fun h hu => cage_reads (fun _ => rfl) h (if_pos hu),
      fun h hu => cage_reads (fun _ => rfl) h (if_neg (Nat.not_lt.2 hu)), fun h => cage_gives (fun _ => rfl) h (cmdLockForceRelease_run rfl),
      fun h => cage_gives (fun _ => rfl) h rfl, fun h => cage_gives (fun _ => rfl) h rfl, fun h => cage_writes (fun _ => rfl) h⟩
  case switch =>
    intro d fn i A n
    refine ⟨fun h => cage_writes (fun _ => rfl) h, fun h => cage_gives (fun _ => rfl) h rfl, fun h => cage_writes (fun _ => rfl) h,
      fun h => cage_writes (fun _ => rfl) h, fun h => cage_writes (fun _ => rfl) h, fun h => cage_reads (fun _ => rfl) h rfl,
      fun h => cage_reads (fun _ => rfl) h rfl, fun h hn => cage_reads (fun _ => rfl) h (if_pos hn),
      fun h hn hn' => cage_reads (fun _ => rfl) h (switchParts_row hn hn'), fun h hn hn' => cage_reads (fun _ => rfl) h (switchParts_col hn hn'),
      fun h hn => cage_reads (fun _ => rfl) h (switchParts_rest hn), fun h => cage_writes (fun _ => rfl) h, fun h => cage_writes (fun _ => rfl) h,
      fun h => cage_writes (fun _ => rfl) h, fun h => cage_gives (fun _ => rfl) h rfl, fun h => cage_writes (fun _ => rfl) h⟩

end Sys2Proof.Machine
end

/-! ## The Cage's system and host commands, its doorbell, its events and the takeovers (R345, R352, R362 to R368, R371, R376, R377, R380, R456, R457, R467) -/
section
namespace Sys2Proof.Machine

/-! ### The commands -/

section
variable {d e : Dev} {i : CmdIn}

theorem cmdExpertGrant_run {k : Nat} (hr : d.on (R.CG_RIGHTS (i.u 1 0)) F.CG_RIGHTS_expert_ok = true) (hg : d.grantGive (i.u 1 0) (i.u 4 4) = some (k, e)) :
    cmdExpertGrant.run i d = (ansOk (leBytes 8 (e.rget (R.CG_GRANT k)).toNat), e) := by
  refine (if_neg ?_).trans ?_
  · rw [hr]
    decide
  · rw [Dev.grantAns, hg]

theorem cmdExpertRelease_run {k : Nat} (hg : d.grantOf (i.u 1 0) = some k) : cmdExpertRelease.run i d = (ansOk, d.grantEnd k) := by
  simp only [cmdExpertRelease, hg]

/-- The image of an update that is whole and good fills its slot (R457). -/
theorem cmdFwUpdate_run {bs : List Byte} (hs : d.rd R.SY_BOOT F.SY_BOOT_slot ≠ i.u 1 12) (hread : d.smRead 0 (i.u 8 0) (i.u 4 8) = (.ok bs, e))
    (hg : e.imageGood (bs.take 256) i.ok = true) (hl : leNat ((bs.drop 16).take 4) + 256 = bs.length) : cmdFwUpdate.run i d =
      (ansOk, (e.wipe (slotAddr (i.u 1 12)) (slotAddr (i.u 1 12) + slotBytes)).put (slotAddr (i.u 1 12)) bs) := by
  refine (if_neg hs).trans ?_
  rw [hread]
  refine if_pos ?_
  rw [hg, decide_eq_true hl]
  rfl

theorem cmdFwActivate_run (hg : d.imageGood (d.bytes (slotAddr (i.u 1 0)) 256) i.ok = true) : cmdFwActivate.run i d =
    (ansOk, if i.u 1 1 = 1 then ({ d with bo := { d.bo with active := i.u 1 0 } } : Dev).warmRequest else { d with bo := { d.bo with active := i.u 1 0 } }) := by
  refine if_neg ?_
  rw [hg]
  decide

theorem cmdQueueAssign_run {x : Bool × Dev}
    (hx : d.fwSet .HI_QCFG [i.unit] (taking [F.HI_QCFG_asg, F.HI_QCFG_fn, F.HI_QCFG_lidx, F.HI_QCFG_vec] (i.w64 8)) = x) (h : x.1 = true) :
    cmdQueueAssign.run i d = answered (x.2.parts i.fn false [.s .HI_QCFG [i.unit]]) := by
  have hgo : ¬ (!x.1) = true := by
    rw [h]
    decide
  simp only [cmdQueueAssign, hx, if_neg hgo]
  rfl

theorem onPair_some {p : Nat} (hp : d.pairAt i.fn i.unit = some p) (f : Nat → Option Ans × Dev) : onPair i d f = f p := by
  unfold onPair
  generalize d.pairAt i.fn i.unit = o at hp
  subst hp
  rfl

theorem cmdQueueSetup_run {p : Nat} {x : Bool × Dev} (hp : d.pairAt i.fn i.unit = some p)
    (hx : d.fwSet .HI_QCFG [p] (taking [F.HI_QCFG_weight, F.HI_QCFG_rx_buf, F.HI_QCFG_rx_size, F.HI_QCFG_tx_size, F.HI_QCFG_vec] (i.w64 8)) = x)
    (h : x.1 = true) : cmdQueueSetup.run i d =
      (ansOk, (x.2.putImgs [(.HI_QTXBASE, [p], i.w64 16), (.HI_QRXBASE, [p], i.w64 24), (.HI_QITR, [p], i.w64 32)]).2) := by
  simp only [cmdQueueSetup, onPair_some hp, hx, takenThen_taken h]

theorem cmdQueueEnable_run {p : Nat} (hp : d.pairAt i.fn i.unit = some p) (he : d.on R.HI_CFG F.HI_CFG_en = true) : cmdQueueEnable.run i d =
    answered ((d.fwSet .HI_QCFG [p] [(F.HI_QCFG_tx_en, i.u 1 8 % 2), (F.HI_QCFG_rx_en, i.u 1 8 / 2 % 2)]).2.parts i.fn false [.s .HI_QSTAT [p]]) := by
  simp only [cmdQueueEnable, onPair_some hp, he, Bool.not_true, Bool.false_eq_true, if_false]

theorem cmdQueueStats_run {p : Nat} (hp : d.pairAt i.fn i.unit = some p) : cmdQueueStats.run i d =
    answered (d.parts i.fn i.clr [.s .HI_QIDX [p], .s .HI_QSTAT [p], .c .HI_QSTAT [p], .c .HI_QCNT [p]]) := by
  simp only [cmdQueueStats, onPair_some hp]

end

/-! ### The doorbell (R362) -/

/-- The first word of a function's area is a register. -/
theorem areaOf_none {a : Nat} (ha : 2 ^ 32 ≤ a) (hfn : (a - 2 ^ 32) / 0x4000 < 64) (ho : (a - 2 ^ 32) % 0x4000 = 0) : areaOf a = none := by
  rw [areaOf, if_pos ha]
  simp only [ho, if_neg (Nat.not_le.2 hfn)]
  simp

theorem areaOf_CG_DOOR (fn : Fin 64) : areaOf (R.CG_DOOR fn).addr = none := by
  have h := fn.isLt
  refine areaOf_none ?_ ?_ ?_ <;> simp only [R.CG_DOOR] <;> omega

theorem indexIn_CG_DOOR (fn : Fin 64) : indexIn (regRow .CG_DOOR).dims [fn.val] := indexIn_one fn.isLt

section
variable {d : Dev} {src : Src} {fn : Fin 64}

theorem cageDoorbell_does (h : d.answers src (R.CG_DOOR fn) = true) : Does (.cageDoorbell src fn 1) d (d.cageDoor fn) := by
  simp only [Dev.answers, Bool.and_eq_true, beq_iff_eq] at h
  obtain ⟨hpath, hserved⟩ := h
  have hfind := findReg_regOf (indexIn_CG_DOOR fn)
  have hblock := blockOf_regOf (indexIn_CG_DOOR fn)
  have hhigh : 2 ^ 32 ≤ (R.CG_DOOR fn).addr := by
    simp only [R.CG_DOOR]
    omega
  have hlock : d.dbLocked (regOf .CG_DOOR [fn.val]).addr = false := by
    rw [Dev.dbLocked, hblock]
    rfl
  refine fun _ => exec_next rfl ((Dev.busWrite_served hfind (areaOf_CG_DOOR fn) hpath hserved ((1 : Word32).setWidth 64) true).trans ?_)
  rw [Dev.regWrite_lands hlock (by decide) (.inr ⟨hhigh, fun old w => discards_functionArea hfind hhigh old w⟩), hblock, if_neg (by decide)]
  refine if_pos ?_
  rw [Dev.get_eff (by decide)]
  rfl

theorem Dev.cageDoor_taken {d : Dev} {fn : Nat} (hb : d.on (R.CG_STAT fn) F.CG_STAT_busy = false) (hs : d.devState = 1 ∨ d.devState = 2 ∨ d.devState = 3) :
    d.cageDoor fn = ((d.wr (R.CG_STAT fn) F.CG_STAT_done 0).wr (R.CG_STAT fn) F.CG_STAT_busy 1).wr (R.CG_STAT fn) F.CG_STAT_tag
      (d.load (cageBase fn + 0x102) 1) := by
  have hgo : (d.on (R.CG_STAT fn) F.CG_STAT_busy || !(d.devState == 1 || d.devState == 2 || d.devState == 3)) = false := by
    rw [hb]
    rcases hs with h | h | h <;> rw [h] <;> rfl
  exact if_neg (Bool.eq_false_iff.1 hgo)

theorem Dev.cageDoor_refused {d : Dev} {fn : Nat} (hb : d.on (R.CG_STAT fn) F.CG_STAT_busy = true) : d.cageDoor fn = d.cageRefuse fn :=
  if_pos (by rw [hb]; rfl)

theorem Dev.load_one_lt (d : Dev) (a : Nat) : d.load a 1 < 256 := by
  simp only [Dev.load, Dev.bytes, leNat]
  have := (d.byte a).isLt
  omega

theorem cageDoorbell_taken (h : d.answers src (R.CG_DOOR fn) = true) (hb : d.on (R.CG_STAT fn) F.CG_STAT_busy = false)
    (hs : d.devState = 1 ∨ d.devState = 2 ∨ d.devState = 3) : ∃ e, Does (.cageDoorbell src fn 1) d e ∧ e.on (R.CG_STAT fn) F.CG_STAT_busy = true
      ∧ e.on (R.CG_STAT fn) F.CG_STAT_done = false ∧ e.rd (R.CG_STAT fn) F.CG_STAT_tag = d.load (cageBase fn + 0x102) 1
      ∧ (∀ r : Reg, r.addr ≠ (R.CG_STAT fn).addr → e.rget r = d.rget r) := by
  refine ⟨_, Dev.cageDoor_taken hb hs ▸ cageDoorbell_does h, ?_, ?_, ?_, fun r hr => ?_⟩
  · simp (disch := decide) only [Dev.on, Dev.rd_wr_beside, Dev.rd_wr_self]
    rfl
  · simp (disch := decide) only [Dev.on, Dev.rd_wr_beside, Dev.rd_wr_self]
    rfl
  · exact (Dev.rd_wr_self _ _ _ _ (by decide)).trans (Nat.mod_eq_of_lt (d.load_one_lt _))
  · rw [Dev.rget_wr_other _ _ _ _ hr, Dev.rget_wr_other _ _ _ _ hr, Dev.rget_wr_other _ _ _ _ hr]

/-- A count leaves the fields beside it. -/
theorem Dev.rd_inc_beside (d : Dev) (r : Reg) {f g : Fld} (n : Nat) (hf : f.lo + f.w ≤ 64) (h : g.lo + g.w ≤ f.lo ∨ f.lo + f.w ≤ g.lo) :
    (d.inc r f n).rd r g = d.rd r g := by
  rw [Dev.inc]
  split
  · exact Dev.rd_wr_beside _ _ _ _ hf h
  · split
    · exact Dev.rd_wr_beside _ _ _ _ hf h
    · exact Dev.rd_wr_beside _ _ _ _ hf h

theorem cageDoorbell_refused (h : d.answers src (R.CG_DOOR fn) = true) (hb : d.on (R.CG_STAT fn) F.CG_STAT_busy = true) :
    ∃ e, Does (.cageDoorbell src fn 1) d e ∧ e.on (R.CG_STAT fn) F.CG_STAT_busy = true ∧ e.on (R.CG_STAT fn) F.CG_STAT_err = true
      ∧ (∀ r : Reg, r.addr ≠ (R.CG_STAT fn).addr → e.rget r = d.rget r) := by
  refine ⟨_, Dev.cageDoor_refused hb ▸ cageDoorbell_does h, ?_, ?_, fun r hr => ?_⟩
  · rw [← hb]
    exact congrArg (· == 1) ((Dev.rd_wr_beside _ _ _ _ (by decide) (by decide)).trans (Dev.rd_inc_beside _ _ _ (by decide) (by decide)))
  · exact congrArg (· == 1) (Dev.rd_wr_self _ _ _ _ (by decide))
  · exact (Dev.rget_wr_other _ _ _ _ hr).trans (Dev.inc_rget _ _ _ _ hr)

/-! ### Requests that a check refuses, and events -/

theorem badRequest_does {s : Nat} (hw : d.waiting fn = true)
    (hs : d.reqStatus fn (d.reqHdr fn) (cmdOf (d.reqHdr fn).code) (d.request fn true none none) = some s) :
    Does (.badRequest fn) d (d.reply fn (d.reqHdr fn) ⟨s, 0xFF, []⟩) := by
  have hgo : ¬ (!d.waiting fn) = true := by
    rw [hw]
    decide
  refine fun _ => exec_next rfl ((if_neg hgo).trans ?_)
  rw [Dev.request] at hs
  rw [hs]

theorem Dev.reqStatus_unknown {h : Hdr} (hg : h.good = true) (hl : h.length ≤ 2032) (i : CmdIn) : d.reqStatus fn h none i = some 1 := by
  have hgo : ¬ (!h.good) = true := by
    rw [hg]
    decide
  exact (if_neg hgo).trans (if_neg (Nat.not_lt.2 hl))

theorem Dev.reqStatus_header {h : Hdr} (hg : h.good = false) (c : Option Cmd) (i : CmdIn) : d.reqStatus fn h c i = some 2 := by
  refine if_pos ?_
  rw [hg]
  rfl

theorem eventWrite_does {ev : Event} {rest : List Event} (h : d.events = ev :: rest) : Does .eventWrite d
    (((List.range 64).filter (fun fn => d.fnExists fn && bitAt (d.evMask fn) (ev.code / 16))).foldl (fun (x : Dev) fn => x.eventPut ev fn)
      { d with events := rest }) := by
  refine fun _ => exec_next rfl ?_
  simp only [h]
  rfl

theorem grantExpiry_does {k : Fin 4} (hv : d.on (R.CG_GRANT k) F.CG_GRANT_valid = true) (hg : d.granted (d.rd (R.CG_GRANT k) F.CG_GRANT_fn) = false) :
    Does (.grantExpiry k) d (d.grantEnd k) :=
  fun _ => exec_next rfl (if_pos (by rw [hv, hg]; rfl))

theorem counterPoll_does {a : Fin 67108864} {id : RegId} {ix : List Nat} (hf : findReg a = some (id, ix)) (hp : polled id = true)
    (hr : d.reachable a = true) : Does (.counterPoll a) d (d.pollReg id ix).2 := by
  refine fun _ => exec_next rfl ?_
  rw [hf]
  exact if_pos (by rw [hp, hr]; rfl)

/-! ### The takeovers (R380, R416) -/

theorem Dev.omTakeover_spare (cause : Nat) (h0 : d.cg.om = 0) (hab : d.on R.RL_FENCE F.RL_FENCE_om_ab = false)
    (hc : d.on R.RL_FENCE F.RL_FENCE_om_c = false) :
    let u := ((d.wr R.RL_FENCE F.RL_FENCE_om_ab 1).event 0x01 0 cause).tally 0x0F05 768
    d.omTakeover cause = { u with
      devState := if u.devState = 4 then 4 else 3
      cg := { u.cg with lost := (List.range 64).filter (fun n => u.on (R.CG_STAT n) F.CG_STAT_busy), was := u.devState }
      rl := { u.rl with takeovers := u.rl.takeovers + 1 } } := by
  refine (if_neg ?_).trans (if_neg (Bool.eq_false_iff.1 hc))
  rw [hab, h0]
  decide

theorem Dev.alarm_cg (d : Dev) (f : Fld) (on : Bool) : (d.alarm f on).cg = d.cg := by
  simp only [Dev.alarm, Dev.alarmEdge]
  split
  · exact Dev.wr_cg ..
  · exact Dev.out_cg ..

theorem Dev.alarm_devState (d : Dev) (f : Fld) (on : Bool) : (d.alarm f on).devState = d.devState := by
  simp only [Dev.alarm, Dev.alarmEdge]
  split
  · exact Dev.wr_devState ..
  · exact Dev.out_devState ..

theorem Dev.msix_cg (d : Dev) (fn e : Nat) : (d.msix fn e).cg = d.cg := by
  rw [Dev.msix]
  split
  · rfl
  · split
    · exact Dev.put_cg ..
    · exact Dev.out_cg ..

theorem Dev.msix_rget (d : Dev) (fn e : Nat) (r : Reg) : (d.msix fn e).rget r = d.rget r := by
  rw [Dev.msix]
  split
  · rfl
  · split
    · exact Dev.rget_of_regs (Dev.put_regs ..) r
    · exact Dev.out_rget ..

/-- A reply leaves what the Overman keeps of a takeover. -/
theorem Dev.reply_was (d : Dev) (fn : Nat) (h : Hdr) (a : Ans) : (d.reply fn h a).cg.was = d.cg.was := by
  simp only [Dev.reply, Dev.msix_cg, Dev.put_cg]

theorem Dev.rget_cg (d : Dev) (x : Cage) (r : Reg) : ({ d with cg := x } : Dev).rget r = d.rget r := rfl

/-- A reply writes the function's own registers alone, which lie past the device's. -/
theorem Dev.reply_rget (d : Dev) (fn : Nat) (h : Hdr) (a : Ans) {r : Reg} (hr : r.addr < 2 ^ 32) : (d.reply fn h a).rget r = d.rget r := by
  have hne : r.addr ≠ (R.CG_STAT fn).addr := by
    simp only [R.CG_STAT]
    omega
  simp only [Dev.reply]
  rw [Dev.msix_rget]
  rw [Dev.rget_cg, Dev.rget_wr_other _ _ _ _ hne, Dev.rget_wr_other _ _ _ _ hne]
  exact Dev.rget_of_regs ((Dev.put_regs ..).trans (Dev.put_regs ..)) r

/-- The requests taken when the Overman failed are answered with status 0x0C. -/
def Dev.lostAnswered (d : Dev) : Dev :=
  (d.cg.lost.filter (fun fn => d.on (R.CG_STAT fn) F.CG_STAT_busy)).foldl (fun (d : Dev) fn => d.reply fn (d.reqHdr fn) ⟨0x0C, 0xFF, []⟩) d

theorem Dev.lostAnswered_was (d : Dev) : d.lostAnswered.cg.was = d.cg.was :=
  foldl_keeps (f := fun (d : Dev) fn => d.reply fn (d.reqHdr fn) ⟨0x0C, 0xFF, []⟩) (fun e => e.cg.was) (fun _ _ => Dev.reply_was ..) _ d

theorem Dev.lostAnswered_om_ab (d : Dev) : d.lostAnswered.on R.RL_FENCE F.RL_FENCE_om_ab = d.on R.RL_FENCE F.RL_FENCE_om_ab :=
  congrArg (fun w => F.RL_FENCE_om_ab.get w == 1) (foldl_keeps (f := fun (d : Dev) fn => d.reply fn (d.reqHdr fn) ⟨0x0C, 0xFF, []⟩)
    (fun e => e.rget R.RL_FENCE) (fun _ _ => Dev.reply_rget _ _ _ _ (by decide)) _ d)

theorem takeoverComplete_does (hs : d.devState = 3) : ∃ e, Does .takeoverComplete d e ∧ e.cg.om = b2n (d.on R.RL_FENCE F.RL_FENCE_om_ab)
    ∧ e.cg.lost = [] ∧ e.devState = d.cg.was := by
  have hrun : Does .takeoverComplete d (if d.lostAnswered.on R.RL_FENCE F.RL_FENCE_om_ab then
      (({ d.lostAnswered with devState := d.lostAnswered.cg.was, cg := { d.lostAnswered.cg with lost := [], om := 1 } } : Dev).event 0x02 0 0).alarm
        F.RL_ALARM_om_single true
    else ({ d.lostAnswered with devState := d.lostAnswered.cg.was, cg := { d.lostAnswered.cg with lost := [], om := 0 } } : Dev).alarm
        F.RL_ALARM_om_single false) :=
    fun _ => exec_next rfl (if_neg (fun h => h hs))
  refine ⟨_, hrun, ?_⟩
  rw [← Dev.lostAnswered_was d, ← Dev.lostAnswered_om_ab d]
  generalize d.lostAnswered = x
  cases x.on R.RL_FENCE F.RL_FENCE_om_ab
  · simp only [Bool.false_eq_true, if_false, Dev.alarm_cg, Dev.alarm_devState, b2n, and_self]
  · simp only [if_true, Dev.alarm_cg, Dev.alarm_devState, Dev.event_cg, Dev.event_devState, b2n, and_self]

end

/-- Settles O47. -/
theorem cageSystem : Obligations.CageSystem := by
  refine ⟨fun d fn ok => ?commands, fun d src fn k a => ?others⟩
  case commands =>
    intro i n A B id f slot q base
    refine ⟨fun h => cage_gives (fun _ => rfl) h rfl, fun h => cage_gives (fun _ => rfl) h rfl, fun h => cage_gives (fun _ => rfl) h rfl,
      fun h => cage_gives (fun _ => rfl) h rfl, fun k e h hr hg => cage_gives (fun _ => rfl) h (cmdExpertGrant_run hr hg),
      fun k h hg => cage_gives (fun _ => rfl) h (cmdExpertRelease_run hg), fun h => cage_writes (fun _ => rfl) h,
      fun bs e h hs hread hg hl => cage_gives (fun _ => rfl) h (cmdFwUpdate_run hs hread hg hl),
      fun h hg => cage_gives (fun _ => rfl) h (cmdFwActivate_run hg), fun h => cage_gives (fun _ => rfl) h rfl,
      fun h hx => cage_gives (fun _ => rfl) h (cmdQueueAssign_run rfl hx),
      fun p h hp hx => cage_gives (fun _ => rfl) h (cmdQueueSetup_run hp rfl hx),
      fun p h hp he => cage_gives (fun _ => rfl) h (cmdQueueEnable_run hp he),
      fun p h hp => cage_gives (fun _ => rfl) h (cmdQueueStats_run hp), fun h => cage_reads (fun _ => rfl) h rfl,
      fun h => cage_writes (fun _ => rfl) h⟩
  case others =>
    intro door st h code
    refine ⟨cageDoorbell_taken, cageDoorbell_refused, fun s hw hs => badRequest_does hw hs,
      fun hw hg hl hc => badRequest_does hw (hc ▸ Dev.reqStatus_unknown hg hl _), fun hw hg => badRequest_does hw (Dev.reqStatus_header hg _ _),
      fun ev rest hev => eventWrite_does hev, grantExpiry_does, fun id ix => counterPoll_does, ?_, fun _ => exec_next rfl rfl, fun _ => exec_next rfl rfl,
      fun _ => exec_next rfl rfl, takeoverComplete_does⟩
    intro h0 hab hc taken
    exact ⟨fun _ => exec_next rfl (Dev.omTakeover_spare 0 h0 hab hc), fun _ => exec_next rfl (Dev.omTakeover_spare 1 h0 hab hc),
      fun _ => exec_next rfl (Dev.omTakeover_spare 2 h0 hab hc)⟩

end Sys2Proof.Machine
end

/-! ## Lode at its software port, and its own work (R232 to R263) -/
section
namespace Sys2Proof.Machine

/-! ### The software port (R240, R243) -/

/-- The argument block of the software port. -/
def Dev.swArgs (d : Dev) : Nat := leNat (d.bytes swWin 32)
/-- The home quadrant of the software port's operation. -/
def Dev.swQuad (d : Dev) : Nat := quadOf (bucketsOf d.swArgs).1

/-- The software port was started with a function, and nothing holds the operation up. -/
structure Dev.SwReady (d : Dev) (fn : Nat) : Prop where
  busy : d.on R.LD_SWCMD F.LD_SWCMD_busy = true
  started : d.rd R.LD_SWCMD F.LD_SWCMD_fn = fn
  room : d.swHeld = false
  enabled : d.on R.LD_CFG F.LD_CFG_en = true
  good : lodeBad fn d.swArgs = false
  home : d.quadFenced d.swQuad = false
  unfailed : d.kickFailed .port = false
  moved : d.kickWaits .port = false

/-- What the software port makes of an answer: the window takes the status word and the records, and the port is free. -/
def Dev.swAnswer (d : Dev) (x : LRes × Dev) : Dev :=
  let u := x.2.countOp d.swQuad x.1
  let u := (u.put swWin (leBytes 4 x.1.word)).put (swWin + 32) (leBytes 64 x.1.r.toNat)
  let u := if d.on R.LD_SWCMD F.LD_SWCMD_pair_out then u.put (swWin + 96) (leBytes 64 x.1.ext.toNat) else u
  (u.wr R.LD_SWCMD F.LD_SWCMD_status x.1.status).wr R.LD_SWCMD F.LD_SWCMD_busy 0

/-- The operation that the software port's window names, its word in error told apart. -/
def Dev.swOp (d : Dev) (fn : Nat) (bad : LodeErr) : Option LRes × Dev :=
  let b := bucketsOf d.swArgs
  let m := d.meetsWord b.1 b.2 bad.at
  let ext := d.on R.LD_SWCMD F.LD_SWCMD_pair_out
  if LA.idx d.swArgs then m.2.lodeByIdx fn d.swArgs d.swQuad (if LA.idx d.swArgs then LA.index d.swArgs else 0) (BitVec.ofNat 512 (d.load (swWin + 32) 64)) ext m.1
  else m.2.lodeByKey .port fn d.swArgs d.swQuad b.1 b.2 ext m.1

section
variable {d : Dev} {fn i : Nat}

/-- An operation that nothing holds up runs. -/
theorem Dev.SwReady.lodeOp (h : d.SwReady fn) (bad : LodeErr) :
    d.lodeOp .port fn (d.bytes swWin 32) (BitVec.ofNat 512 (d.load (swWin + 32) 64)) true (d.on R.LD_SWCMD F.LD_SWCMD_pair_out) bad.at =
      d.swOp fn bad := by
  have hen : ¬ (!d.on R.LD_CFG F.LD_CFG_en) = true := by
    rw [h.enabled]
    decide
  have hgood : ¬ (lodeBad fn d.swArgs || (decide (fn = 10) && !true)) = true := by
    rw [h.good]
    simp
  refine (if_neg hen).trans ((if_neg hgood).trans ((if_neg (Bool.eq_false_iff.1 h.home)).trans
    ((if_neg (Bool.eq_false_iff.1 h.unfailed)).trans (if_neg (Bool.eq_false_iff.1 h.moved)))))

/-- An operation that has its answer leaves it in the window. -/
theorem Dev.SwReady.swFn (h : d.SwReady fn) {bad : LodeErr} {x : LRes × Dev} (hx : d.swOp fn bad = lodeAns d.swQuad x) : d.swFn fn bad = d.swAnswer x := by
  have hgo : (d.on R.LD_SWCMD F.LD_SWCMD_busy && d.rd R.LD_SWCMD F.LD_SWCMD_fn == fn && !d.swHeld) = true := by
    rw [h.busy, h.started, h.room, beq_self_eq_true]
    rfl
  refine (if_pos hgo).trans ?_
  rw [Dev.swRun, h.lodeOp, hx]
  rfl

/-- The record of the window's key. -/
def Dev.swFound (d : Dev) : Option Nat :=
  let b := bucketsOf d.swArgs
  (d.findIn b.1 (LA.kind d.swArgs) (LA.key d.swArgs)).or
    (if d.quadFenced (quadOf b.2) then none else d.findIn b.2 (LA.kind d.swArgs) (LA.key d.swArgs))

theorem Dev.swOp_key {bad : LodeErr} (hidx : LA.idx d.swArgs = false) (hm : ∀ b1 b2, (d.meetsWord b1 b2 bad.at).2 = d) :
    d.swOp fn bad = d.lodeByKey .port fn d.swArgs d.swQuad (bucketsOf d.swArgs).1 (bucketsOf d.swArgs).2 (d.on R.LD_SWCMD F.LD_SWCMD_pair_out)
      (d.meetsWord (bucketsOf d.swArgs).1 (bucketsOf d.swArgs).2 bad.at).1 := by
  simp only [Dev.swOp, hidx, hm, Bool.false_eq_true, if_false]

theorem Dev.meetsBad_none (d : Dev) (i : Nat) (ext : Bool) : d.meetsBad i ext none = false := by
  simp [Dev.meetsBad]

/-- A function runs on the record that holds the key. -/
theorem Dev.swOp_found (hidx : LA.idx d.swArgs = false) (hf : d.swFound = some i) :
    d.swOp fn none = lodeAns d.swQuad ((d.dropKick .port).applyFn fn d.swArgs i 0) := by
  rw [Dev.swOp_key hidx fun _ _ => rfl, Dev.lodeByKey]
  rw [Dev.swFound] at hf
  simp only [hf]
  exact if_neg (Bool.eq_false_iff.1 (Dev.meetsBad_none ..))

/-- An insertion goes to the place that is free for it. -/
theorem Dev.swOp_inserts (hidx : LA.idx d.swArgs = false) (hf : d.swFound = none) (htwo : d.quadFenced (quadOf (bucketsOf d.swArgs).2) = false)
    (hplace : (if LA.pair d.swArgs then d.placePair (bucketsOf d.swArgs).1 (bucketsOf d.swArgs).2
      else d.placeSingle (bucketsOf d.swArgs).1 (bucketsOf d.swArgs).2) = some i) :
    d.swOp 1 none = lodeAns d.swQuad ((d.dropKick .port).insertAt 1 d.swArgs i) := by
  rw [Dev.swOp_key hidx fun _ _ => rfl, Dev.lodeByKey]
  rw [Dev.swFound] at hf
  simp only [hf]
  refine (if_neg (by simp [Dev.meetsWord, LodeErr.at])).trans ?_
  rw [htwo, Dev.lodeMiss, if_neg Bool.false_ne_true, if_neg (by simp), hplace]

/-- A record with an uncorrectable word is scrapped (R262). -/
theorem Dev.swOp_lost {c : Fin 33554432} (hidx : LA.idx d.swArgs = false) (hf : d.swFound = some i) (hc : c.val = i) :
    d.swOp fn (some (c, false)) = lodeAns d.swQuad ({ status := 3, idx := i }, (d.dropKick .port).scrapWay i) := by
  subst hc
  rw [Dev.swOp_key hidx fun _ _ => rfl, Dev.lodeByKey]
  rw [Dev.swFound] at hf
  simp only [hf]
  exact if_pos (by simp [Dev.meetsBad, Dev.meetsWord, LodeErr.at])

theorem Dev.swOp_index (hidx : LA.idx d.swArgs = true) : d.swOp fn none =
    d.lodeByIdx fn d.swArgs d.swQuad (LA.index d.swArgs) (BitVec.ofNat 512 (d.load (swWin + 32) 64)) (d.on R.LD_SWCMD F.LD_SWCMD_pair_out) none := by
  rw [Dev.swOp, if_pos hidx, if_pos hidx]
  rfl

/-- RDX reads the record that the window names. -/
theorem Dev.swOp_reads (hidx : LA.idx d.swArgs = true) (hi : LA.index d.swArgs = i) : d.swOp 9 none = lodeAns d.swQuad
    ({ status := 0, idx := i, r := d.lrec i, ext := if L.pair.get (d.lrec i) = 1 then d.lrec (i + 1) else 0 }, d) := by
  rw [Dev.swOp_index hidx, hi]
  refine (if_neg ?_).trans (if_pos rfl)
  rw [Dev.meetsBad_none]
  decide

/-- WRX writes the record that the window names. -/
theorem Dev.swOp_writes (hidx : LA.idx d.swArgs = true) (hi : LA.index d.swArgs = i) :
    d.swOp 10 none = lodeAns d.swQuad (d.wrx i (BitVec.ofNat 512 (d.load (swWin + 32) 64))) := by
  rw [Dev.swOp_index hidx, hi]
  refine (if_neg ?_).trans ((if_neg (by decide)).trans (if_pos rfl))
  rw [Dev.meetsBad_none]
  decide

/-! ### What a function makes of its record -/

/-- A supervised GOOSE record that has not expired in the meantime takes the message (R253). -/
theorem Dev.applyFn_supGoose {a : Nat} (hk : L.kind.get (d.lrec i) = 0x43) (hx : L.armed.get (d.lrec i) = 0 ∨ L.idle.get (d.lrec i) = 0)
    (hv : (supGoose (d.lrec i) (LA.operand a)).verdict ≠ 4) :
    let j := supGoose (d.lrec i) (LA.operand a)
    d.applyFn 3 a i 0 = d.applyDone i (L.kind.get (d.lrec i)) 0
      { j with r := L.expired.put (L.armed.put (L.deadline.put j.r (msTime d.now + supTime j.r)) 1) 0, arms := true } := by
  have hlive : (decide (L.armed.get (d.lrec i) = 1) && decide (L.idle.get (d.lrec i) = 1)) = false := by
    rcases hx with h | h <;> simp [h]
  simp only [Dev.applyFn, hlive, Bool.false_eq_true, if_false, Dev.applySup, hk, if_true]
  exact if_neg hv

/-- The sequence function on a record of kind 0x40 (R250). -/
theorem Dev.applyFn_seqDiscard {a : Nat} (hk : L.kind.get (d.lrec i) = 0x40) : d.applyFn 6 a i 0 = d.applyDone i (L.kind.get (d.lrec i)) 0
    (seqDiscard (d.lrec i) (L.idle.get (d.lrec i) == 1 || d.rd (R.LD_KIND 0x40) F.LD_KIND_forget_ms ≤ d.msSince (d.lrec i))
      (LA.operand a % 2 ^ 16)) :=
  if_pos hk

end

/-! ### Displacement, watch, sweep and exported records (R236, R255 to R261) -/

section
variable {d : Dev}

theorem displacementMove_does {n : Fin 1024} {x : Kick} {a b : Nat} {rest : List (Nat × Nat)} (hk : d.ld.kicks[n.val]? = some x)
    (hm : x.moves = (a, b) :: rest) (hfree : d.wayFree b = true) (hmov : d.movableRec a = true) (hother : d.otherBucket a = b / 4)
    (hg : L.kind.get (d.lrec a) ≠ 0x43) (hsv : L.kind.get (d.lrec a) ≠ 0x44) :
    let u := (d.setRec a 0).setRec b (d.lrec a)
    Does (.displacementMove n) d
      { u with ld := { u.ld with kicks := u.ld.kicks.map (fun y => if y.who = x.who then { x with moves := rest } else y) } } := by
  intro u q
  have hgo : (d.wayFree b && d.movableRec a && d.otherBucket a == b / 4) = true := by
    rw [hfree, hmov, hother, beq_self_eq_true]
    rfl
  have hwatch : ((decide (L.kind.get (d.lrec a) = 0x43) || decide (L.kind.get (d.lrec a) = 0x44)) && decide (L.watched.get (d.lrec a) = 1)) = false := by
    simp [hg, hsv]
  have hmove : d.kickMove x =
      { u with ld := { u.ld with kicks := u.ld.kicks.map (fun y => if y.who = x.who then { x with moves := rest } else y) } } := by
    simp only [Dev.kickMove, hm, hgo, if_true, hwatch, Bool.false_eq_true, if_false]
    rfl
  refine exec_next rfl (Eq.trans ?_ hmove)
  simp only [hk]

theorem watchExpiry_does {slot : Fin 65536} {i dl : Nat} (hen : d.on R.LD_CFG F.LD_CFG_watch_en = true) (hw : d.ld.watch.find slot = some (i, dl))
    (hdl : (msTime d.now + 2 ^ 24 - dl) % 2 ^ 24 < 2 ^ 23) :
    Does (.watchExpiry slot) d ((d.expireRec i (d.lrec i)).2.lput i (d.expireRec i (d.lrec i)).1) := by
  refine fun _ => exec_next rfl ((if_neg ?_).trans ?_)
  · rw [hen]
    decide
  · rw [hw]
    exact if_pos hdl

theorem Dev.flushTurn_rget (d : Dev) (b : Nat) (r : Reg) : (d.flushTurn b).rget r = d.rget r := by
  rw [Dev.flushTurn]
  split
  · rfl
  · split <;> rfl

theorem lodeSweepVisit_does (hb : d.ld.sweepAt + 1 < 2 ^ 23) (hf : d.quadFenced (quadOf d.ld.sweepAt) = false) :
    let u := (List.range 4).foldl (fun e w => e.sweepWay (d.ld.sweepAt * 4 + w)) (d.flushTurn d.ld.sweepAt)
    Does .lodeSweepVisit d { u with ld := { u.ld with sweepAt := d.ld.sweepAt + 1 } } := by
  intro u q
  have hopen : ¬ (d.flushTurn d.ld.sweepAt).quadFenced (quadOf d.ld.sweepAt) = true := by
    rw [Dev.quadFenced, Dev.on, Dev.rd, Dev.flushTurn_rget]
    exact Bool.eq_false_iff.1 hf
  refine exec_next rfl ((if_pos hb).trans ?_)
  rw [if_neg hopen]

theorem exportWrite_sends {e : List Byte} {rest : List (List Byte)} (he : d.ld.exports = e :: rest) (hen : d.on R.LD_EXPRING F.LD_EXPRING_en = true)
    (hring : (d.rd R.LD_EXPIDX F.LD_EXPIDX_wr_idx + 2 ^ 32 - d.rd R.LD_EXPIDX F.LD_EXPIDX_rd_idx) % 2 ^ 32 ≠
      ringRecs (d.rd R.LD_EXPRING F.LD_EXPRING_size_log2) 128) :
    let w := d.rd R.LD_EXPIDX F.LD_EXPIDX_wr_idx
    let u := ({ d with ld := { d.ld with exports := rest } } : Dev).smWrite 4
      (d.rd R.LD_EXPRING F.LD_EXPRING_base * 4096 + w % ringRecs (d.rd R.LD_EXPRING F.LD_EXPRING_size_log2) 128 * 128) e
    Does .exportWrite d (if u.1 then (u.2.wr R.LD_EXPIDX F.LD_EXPIDX_wr_idx ((w + 1) % 2 ^ 32)).inc R.LD_EXPSTAT F.LD_EXPSTAT_exported
      else u.2.inc R.LD_EXPSTAT F.LD_EXPSTAT_lost) := by
  intro w u q
  refine exec_next rfl ?_
  simp only [he]
  refine if_neg ?_
  simp only [Bool.or_eq_true, Bool.not_eq_true', decide_eq_true_eq, not_or]
  exact ⟨fun h => Bool.false_ne_true (h.symm.trans hen), hring⟩

theorem exportWrite_loses {e : List Byte} {rest : List (List Byte)} (he : d.ld.exports = e :: rest) (hen : d.on R.LD_EXPRING F.LD_EXPRING_en = false) :
    Does .exportWrite d (({ d with ld := { d.ld with exports := rest } } : Dev).inc R.LD_EXPSTAT F.LD_EXPSTAT_lost) := by
  refine fun _ => exec_next rfl ?_
  simp only [he]
  refine if_pos ?_
  simp only [Bool.or_eq_true, Bool.not_eq_true']
  exact .inl hen

/-! ### Repair and anomalies (R256, R263) -/

theorem Dev.logRepair_repairs (d : Dev) (k : Nat) : (d.logRepair k).ld.repairs = d.ld.repairs := by
  rw [Dev.logRepair]
  split <;> rfl

theorem Dev.logRepair_rget (d : Dev) (k : Nat) (r : Reg) : (d.logRepair k).rget r = d.rget r := by
  rw [Dev.logRepair]
  split <;> rfl

theorem repairStep_goes {k : Fin 1049600} {m : Nat} (hk : d.ld.repairs.get none k = some m) (hm : m + 1 < if k.val < 2 ^ 20 then 8 else 8192) :
    Does (.repairStep k) d { d with ld := { d.ld with repairs := d.ld.repairs.set none k (some (m + 1)) } } := by
  refine fun _ => exec_next rfl ?_
  simp only [hk]
  refine if_pos ?_
  split at hm
  · rw [if_neg (by simpa using ‹k.val < 2 ^ 20›)]
    exact hm
  · rw [if_pos (by simpa using ‹¬ k.val < 2 ^ 20›)]
    exact hm

/-- The last step of a repair: one row or bank fewer is left in its quadrant. -/
def Dev.repairEnds (d : Dev) (k q : Nat) (bank : Bool) : Dev :=
  let d := { d with ld := { d.ld with repairs := d.ld.repairs.set none k none } }
  let r := R.LD_REPAIR q
  let d := if bank then d.wr r F.LD_REPAIR_banks_left (d.rd r F.LD_REPAIR_banks_left - 1)
    else d.wr r F.LD_REPAIR_rows_left (d.rd r F.LD_REPAIR_rows_left - 1)
  ((d.inc r F.LD_REPAIR_row_fix).tally 0x0904 q [k]).logRepair k

theorem Dev.repairEnds_repairs (d : Dev) (k q : Nat) (bank : Bool) : (d.repairEnds k q bank).ld.repairs = d.ld.repairs.set none k none := by
  cases bank <;> exact (Dev.logRepair_repairs ..).trans (congrArg Lode.repairs (Dev.inc_ld ..))

/-- One less than a field's value fits the field. -/
theorem Dev.rd_wr_pred (d : Dev) (r : Reg) (f : Fld) (hf : f.lo + f.w ≤ 64) : (d.wr r f (d.rd r f - 1)).rd r f = d.rd r f - 1 :=
  (Dev.rd_wr_self _ _ _ _ hf).trans (Nat.mod_eq_of_lt (Nat.lt_of_le_of_lt (Nat.sub_le _ _) (Fld.get_lt _ _)))

theorem Dev.repairEnds_banks (d : Dev) (k q : Nat) :
    (d.repairEnds k q true).rd (R.LD_REPAIR q) F.LD_REPAIR_banks_left = d.rd (R.LD_REPAIR q) F.LD_REPAIR_banks_left - 1 := by
  rw [Dev.repairEnds, Dev.rd, Dev.logRepair_rget]
  exact (Dev.rd_inc_beside _ _ _ (by decide) (by decide)).trans (Dev.rd_wr_pred _ _ _ (by decide))

theorem Dev.repairEnds_rows (d : Dev) (k q : Nat) :
    (d.repairEnds k q false).rd (R.LD_REPAIR q) F.LD_REPAIR_rows_left = d.rd (R.LD_REPAIR q) F.LD_REPAIR_rows_left - 1 := by
  rw [Dev.repairEnds, Dev.rd, Dev.logRepair_rget]
  exact (Dev.rd_inc_beside _ _ _ (by decide) (by decide)).trans (Dev.rd_wr_pred _ _ _ (by decide))

theorem repairStep_ends {k : Fin 1049600} {m : Nat} (hk : d.ld.repairs.get none k = some m) (hm : (if k.val < 2 ^ 20 then 8 else 8192) ≤ m + 1) :
    Does (.repairStep k) d (d.repairEnds k ((if 2 ^ 20 ≤ k.val then k.val - 2 ^ 20 else k.val / 1024) % 4) (decide (2 ^ 20 ≤ k.val))) := by
  refine fun _ => exec_next rfl ?_
  simp only [hk]
  refine (if_neg ?_).trans ?_
  · split at hm
    · rw [if_neg (by simpa using ‹k.val < 2 ^ 20›)]
      exact Nat.not_lt.2 hm
    · rw [if_pos (by simpa using ‹¬ k.val < 2 ^ 20›)]
      exact Nat.not_lt.2 hm
  · simp only [Dev.repairEnds, decide_eq_true_eq]

theorem anomalyDrain_does {e : BitVec 128} {rest : List (BitVec 128)} (h : d.ld.anoms = e :: rest) : ∃ u, Does .anomalyDrain d u ∧ u.ld.anoms = rest
    ∧ u.ld.fwd = (if 16384 ≤ d.ld.fwd.length then d.ld.fwd else d.ld.fwd ++ [e])
    ∧ u.rd R.LD_ANSTAT F.LD_ANSTAT_depth = rest.length % 2 ^ F.LD_ANSTAT_depth.w := by
  have hrun : Does .anomalyDrain d ((((({ d with ld := { d.ld with
      anoms := rest, fwd := if 16384 ≤ d.ld.fwd.length then d.ld.fwd else d.ld.fwd ++ [e] } } : Dev).wr R.LD_ANSTAT F.LD_ANSTAT_depth rest.length).event
        0x30 (bitsOf e.toNat 124 4) (bitsOf e.toNat 64 32) e.toNat).tally 0x0901 (quadOf (bitsOf e.toNat 96 25 / 4))
        [bitsOf e.toNat 0 32, bitsOf e.toNat 32 32, bitsOf e.toNat 64 32, bitsOf e.toNat 96 32])) := by
    refine fun _ => exec_next rfl ?_
    simp only [h]
  exact ⟨_, hrun, rfl, rfl, Dev.rd_wr_self _ _ _ _ (by decide)⟩

/-! ### The age policy (R259) -/

theorem foldl_fixed_mem {α σ : Type} {f : σ → α → σ} {s : σ} : ∀ {l : List α}, (∀ x ∈ l, f s x = s) → l.foldl f s = s
  | [], _ => rfl
  | x :: xs, h => by
    rw [List.foldl_cons, h x List.mem_cons_self]
    exact foldl_fixed_mem fun y hy => h y (List.mem_cons_of_mem _ hy)

/-- A walk in which every step but one leaves the state as it is, before and after that one, makes that one step. -/
theorem foldl_only {α σ : Type} [DecidableEq α] {f : σ → α → σ} {c : α} {s : σ} : ∀ {l : List α}, (∀ x ∈ l, x ≠ c → f s x = s) →
    (∀ x ∈ l, x ≠ c → f (f s c) x = f s c) → l.Nodup → c ∈ l → l.foldl f s = f s c
  | x :: xs, hs, hc, hd, hm => by
    obtain ⟨hx, hxs⟩ := List.nodup_cons.1 hd
    by_cases hxc : x = c
    · subst hxc
      exact foldl_fixed_mem fun y hy => hc y (List.mem_cons_of_mem _ hy) fun h => hx (h ▸ hy)
    · rw [List.foldl_cons, hs x List.mem_cons_self hxc]
      exact foldl_only (fun y hy => hs y (List.mem_cons_of_mem _ hy)) (fun y hy => hc y (List.mem_cons_of_mem _ hy)) hxs
        ((List.mem_cons.1 hm).resolve_left (Ne.symm hxc))

/-- A class that does not adapt keeps its limit. -/
theorem Dev.agePolicy_fixed {c : Nat} (h : d.on (R.LD_TMO c) F.LD_TMO_adapt = false) : d.agePolicy c = d := by
  refine if_pos ?_
  rw [h]
  simp

/-- A table that is more than four fifths full shortens the limit of a class above its floor. -/
theorem Dev.agePolicy_shortens {c : Nat} (hp : d.policyOn 3 = true) (h : d.on (R.LD_TMO c) F.LD_TMO_adapt = true)
    (hocc : 4 * 33554432 < 5 * d.rd R.LD_OCC F.LD_OCC_occ) (hlim : d.rd (R.LD_TMO c) F.LD_TMO_floor < d.rd (R.LD_TMO c) F.LD_TMO_limit) :
    d.agePolicy c = (d.wr (R.LD_TMO c) F.LD_TMO_limit (d.rd (R.LD_TMO c) F.LD_TMO_limit - 1)).policyChange 3 (d.rd (R.LD_TMO c) F.LD_TMO_limit - 1) c := by
  refine (if_neg ?_).trans (if_pos ?_)
  · rw [hp, h]
    simp only [Bool.not_true, Bool.or_self, Bool.false_or, decide_eq_true_eq]
    omega
  · simp only [Bool.and_eq_true, decide_eq_true_eq]
    exact ⟨hocc, hlim⟩

theorem agePolicyStep_one {c : Fin 16} (hp : d.policyOn 3 = true) (h : d.on (R.LD_TMO c) F.LD_TMO_adapt = true)
    (hothers : ∀ c' : Fin 16, c' ≠ c → d.on (R.LD_TMO c') F.LD_TMO_adapt = false) (hocc : 4 * 33554432 < 5 * d.rd R.LD_OCC F.LD_OCC_occ)
    (hlim : d.rd (R.LD_TMO c) F.LD_TMO_floor < d.rd (R.LD_TMO c) F.LD_TMO_limit) : Does .agePolicyStep d
      ((d.wr (R.LD_TMO c) F.LD_TMO_limit (d.rd (R.LD_TMO c) F.LD_TMO_limit - 1)).policyChange 3 (d.rd (R.LD_TMO c) F.LD_TMO_limit - 1) c) := by
  have hkeeps (x : Nat) (hx : x ∈ List.range 16) (hxc : x ≠ c.val) : d.on (R.LD_TMO x) F.LD_TMO_adapt = false :=
    hothers ⟨x, List.mem_range.1 hx⟩ fun h => hxc (congrArg Fin.val h)
  rw [← Dev.agePolicy_shortens hp h hocc hlim]
  refine fun _ => exec_next rfl (foldl_only (fun x hx hxc => Dev.agePolicy_fixed (hkeeps x hx hxc)) (fun x hx hxc => ?_) List.nodup_range
    (List.mem_range.2 c.isLt))
  refine Dev.agePolicy_fixed ?_
  have hne : (R.LD_TMO x).addr ≠ (R.LD_TMO c).addr := by
    simp only [R.LD_TMO]
    omega
  rw [Dev.agePolicy_shortens hp h hocc hlim, ← hkeeps x hx hxc]
  exact congrArg (· == 1) (Dev.rd_wr_other _ _ _ _ _ hne)

end

/-- Settles O37. -/
theorem lode : Obligations.Lode := by
  refine ⟨fun d i => ?port, fun d n slot k => ?work⟩
  case port =>
    intro a q v r op fld ready twoFenced found hit named answer done
    have hready {fn : Nat} : ready fn → d.SwReady fn := fun ⟨hb, hs, hr, he, hg, hq, hk, hm⟩ => ⟨hb, hs, hr, he, hg, hq, hk, hm⟩
    have hdone {fn : Nat} {c : Instr} {x : LRes × Dev} (hc : ∀ p, exec c ⟨d, p⟩ = State.go ⟨d, p⟩ (fun d => d.swFn fn none)) (hr : ready fn)
        (hx : d.swOp fn none = lodeAns d.swQuad x) : Does c d (answer x) := fun p => exec_next (hc p) ((hready hr).swFn hx)
    have hhit {fn : Nat} {c : Instr} {x : LRes × Dev} (hc : ∀ p, exec c ⟨d, p⟩ = State.go ⟨d, p⟩ (fun d => d.swFn fn none)) (h : hit fn)
        (hx : v.applyFn fn a i 0 = x) : Does c d (answer x) := hdone hc h.1 (hx ▸ Dev.swOp_found h.2.1 h.2.2)
    refine ⟨fun h => hhit (fun _ => rfl) h rfl, fun h => hhit (fun _ => rfl) h rfl,
      fun hr hidx hf htwo hplace => hdone (fun _ => rfl) hr (Dev.swOp_inserts hidx hf htwo hplace), fun h => hhit (fun _ => rfl) h rfl,
      fun h hk hx hv => hhit (fun _ => rfl) h (Dev.applyFn_supGoose hk hx hv), fun h => hhit (fun _ => rfl) h rfl,
      fun h => hhit (fun _ => rfl) h rfl, fun h hk => hhit (fun _ => rfl) h (Dev.applyFn_seqDiscard hk), fun h => hhit (fun _ => rfl) h rfl,
      fun h => hhit (fun _ => rfl) h rfl, fun ⟨hr, hidx, hi⟩ => hdone (fun _ => rfl) hr (Dev.swOp_reads hidx hi),
      fun ⟨hr, hidx, hi⟩ => hdone (fun _ => rfl) hr (Dev.swOp_writes hidx hi),
      fun c ⟨hr, hidx, hf⟩ hc p => exec_next rfl ((hready hr).swFn (Dev.swOp_lost hidx hf hc))⟩
  case work =>
    intro b r ways ring w
    refine ⟨fun x a b' rest => displacementMove_does, fun i dl => watchExpiry_does, lodeSweepVisit_does, fun e rest => exportWrite_sends,
      fun e rest => exportWrite_loses, fun m => repairStep_goes, fun m hk hm => ⟨_, repairStep_ends hk hm, Dev.repairEnds_repairs .., ?banks, ?rows⟩,
      fun e rest => anomalyDrain_does, fun _ => exec_next rfl rfl, fun c => agePolicyStep_one⟩
    case banks =>
      intro hk
      rw [decide_eq_true hk]
      exact Dev.repairEnds_banks ..
    case rows =>
      intro hk
      rw [decide_eq_false (Nat.not_le.2 hk)]
      exact Dev.repairEnds_rows ..

end Sys2Proof.Machine
end

/-! ## The operations of Bin on a cell that heads no chain (R328, R329, R335) -/
section
namespace Sys2Proof.Machine

theorem Dev.xfer_of_no_head {d : Dev} {ptr old : Nat} (new : Nat) (hp : ptrGood ptr = true) (hh : CE.head.get (d.entry (ptrRow ptr) (ptrIdx ptr)) = 0) :
    d.xfer ptr old new = d.binRefuse F.BN_ERR_owner_err 4 old ptr := by
  refine (if_neg ?_).trans (if_pos ?_)
  · rw [hp]
    decide
  · rw [hh]
    rfl

/-- A new owner of a chain writes no record. -/
theorem Dev.ownAll_tl (row tag : Nat) : ∀ (l : List Nat) (d : Dev), (d.ownAll row tag l).tl = d.tl
  | [], _ => rfl
  | _ :: r, _ => Dev.ownAll_tl row tag r _

theorem Dev.useQuota_none (d : Dev) {tag : Nat} (h : quotaOf tag = none) (row add sub : Nat) : d.useQuota tag row add sub = d := by
  rw [Dev.useQuota, h]

/-- Refutes O26: the clause on a transfer asks that the cell's owner is the requester, and not that the cell is the head of a chain. In the
reset state cell 0 of row 0 is free, so its owner field is 0; a transfer of it by tag 0 is refused and leaves a record, where the statement
has it moved to its new owner with no record. -/
theorem not_switchAndBin : ¬ Obligations.SwitchAndBin := by
  intro h
  obtain ⟨-, -, -, -, -, -, hxfer, -⟩ := h.2 State.reset.dev 0 0 0 0 0 false 0 0 0 0 .host
  have hmoved := (hxfer (by decide) (by decide)).1 []
  have hrefused : exec (.xfer 0 0 0) ⟨State.reset.dev, []⟩ = .next ⟨State.reset.dev.binRefuse F.BN_ERR_owner_err 4 0 0, []⟩ :=
    exec_next rfl (Dev.xfer_of_no_head 0 (by decide) (by decide))
  injection hrefused.symm.trans hmoved with hstate
  injection hstate with hdev
  have hsame := congrArg (fun e : Dev => e.tl.transit.length) hdev
  simp only [Dev.ownAll_tl, Dev.useQuota_none _ (show quotaOf ((0 : Fin 1048576) : Nat) = none from rfl)] at hsame
  exact absurd hsame (by simp [Dev.binRefuse, Dev.tally, State.reset])

end Sys2Proof.Machine
end

/-! ## Draught: dispatch, completion, voids and delays (R135 to R145, R249) -/
section
namespace Sys2Proof.Machine

/-! ### What a count, a trace record and a queue's figures touch

Each lemma here says of one operation which parts of the device it may touch, as an equation: what it leaves alone follows by `rfl`. -/

theorem Tab.get_put_self {α : Type} (m : Tab α) (d : α) (k : Nat) (v : α) : (m.put k v).get d k = v := by
  rw [Tab.get, Tab.find_put_self]
  rfl

theorem Dev.job_setJob_self (d : Dev) (j : Nat) (x : Job) : (d.setJob j x).job j = x := Tab.get_put_self ..

/-- The device with other registers and another supply of free values. -/
def Dev.withRegs (d : Dev) (rs : Tab Word64) (fr : Nat) : Dev := { d with regs := rs, free := fr }

/-- The same with another state of Draught. -/
def Dev.withDr (d : Dev) (rs : Tab Word64) (fr : Nat) (x : Draught) : Dev := { d with regs := rs, free := fr, dr := x }

/-- A step over a list touches what each of its steps may touch. -/
theorem foldl_shape {α σ : Type} {P : σ → Prop} {f : σ → α → σ} (l : List α) {s : σ} (h0 : P s) (h : ∀ t x, P t → P (f t x)) : P (l.foldl f s) :=
  List.foldlRecOn l f h0 fun t ht x _ => h t x ht

section
variable (d : Dev)

theorem Dev.inc_withRegs (r : Reg) (f : Fld) (n : Nat) : ∃ rs fr, d.inc r f n = d.withRegs rs fr := by
  simp only [Dev.inc]
  split
  · exact ⟨_, _, rfl⟩
  · split <;> exact ⟨_, _, rfl⟩

theorem Dev.markHigh_withRegs (r : Reg) (f : Fld) (n : Nat) : ∃ rs fr, d.markHigh r f n = d.withRegs rs fr := by
  rw [Dev.markHigh]
  split <;> exact ⟨_, _, rfl⟩

theorem Dev.syncCq_withRegs (g c : Nat) : ∃ rs fr, d.syncCq g c = d.withRegs rs fr := by
  obtain ⟨rs, fr, h⟩ := (d.wr (R.DR_CQ g c) F.DR_CQ_q_depth (d.dr.cq.get [] (g * 8 + c)).length).markHigh_withRegs (R.DR_CQ g c) F.DR_CQ_q_max
    (d.dr.cq.get [] (g * 8 + c)).length
  exact ⟨rs, fr, h⟩

theorem Dev.traceAdd_withDr (r : BitVec 128) : ∃ rs fr n l, d.traceAdd r = d.withDr rs fr { d.dr with gap := n, trace := l } := by
  rw [Dev.traceAdd]
  split
  · obtain ⟨rs, fr, h⟩ := d.inc_withRegs R.DR_TRSTAT F.DR_TRSTAT_lost 1
    rw [Dev.traceLost, h]
    exact ⟨_, _, _, _, rfl⟩
  · exact ⟨_, _, _, _, rfl⟩

theorem Dev.trace_withDr (ev tmpl g slot : Nat) (tub : Tub) (pipe node core thread status : Nat) :
    ∃ rs fr n l, d.trace ev tmpl g slot tub pipe node core thread status = d.withDr rs fr { d.dr with gap := n, trace := l } := by
  simp only [Dev.trace]
  split
  · exact ⟨_, _, _, _, rfl⟩
  · split
    · exact Dev.traceAdd_withDr d _
    · exact Dev.traceAdd_withDr { d with dr := { d.dr with gap := 0, trace := _ } } _

theorem Dev.jobTrace_withDr (ev j node core thread status : Nat) :
    ∃ rs fr n l, d.jobTrace ev j node core thread status = d.withDr rs fr { d.dr with gap := n, trace := l } :=
  d.trace_withDr ..

theorem Dev.countTurned_only (g : Nat) : ∃ rs fr ld, d.countTurned g = { d.withRegs rs fr with ld := ld } := by
  obtain ⟨rs, fr, h⟩ : ∃ rs fr, (((d.dr.ready.get [] g).filter (d.lodeHeld g)).filter (fun r => !(d.ld.turned.get [] g).contains r)).foldl (fun d r =>
      d.inc (R.LD_QSTAT (d.helperQuad (jobKey g r.slot) (ND.operand (d.tmplNode (d.job (jobKey g r.slot)).tmpl r.node)))) F.LD_QSTAT_q_full) d =
      d.withRegs rs fr := by
    refine foldl_shape (P := fun e : Dev => ∃ rs fr, e = d.withRegs rs fr) _ ⟨d.regs, d.free, rfl⟩ ?_
    rintro _ r ⟨rs, fr, rfl⟩
    exact Dev.inc_withRegs (d.withRegs rs fr) ..
  simp only [Dev.countTurned]
  rw [h]
  exact ⟨_, _, _, rfl⟩

theorem Dev.purgeNodes_withDr (j : Nat) : ∃ rs fr rd cq, d.purgeNodes j = d.withDr rs fr { d.dr with ready := rd, cq := cq } := by
  simp only [Dev.purgeNodes]
  refine foldl_shape (P := fun e : Dev => ∃ rs fr rd cq, e = d.withDr rs fr { d.dr with ready := rd, cq := cq }) _ ⟨d.regs, d.free, _, _, rfl⟩ ?_
  rintro _ c ⟨rs, fr, rd, cq, rfl⟩
  obtain ⟨rs', fr', h⟩ := (d.withDr rs fr { d.dr with
    ready := rd, cq := cq.upd [] (j / 2048 * 8 + c) (fun l => l.filter (fun n => n.slot != j % 2048)) }).syncCq_withRegs (j / 2048) c
  exact ⟨rs', fr', _, _, h⟩

end

/-! ### Dispatch (R136, R139, R249) -/

section
variable {d : Dev} {g : Nat} {r : NodeRef}

/-- The word of the node that a reference names, in its job's template. -/
def Dev.refNode (d : Dev) (g : Nat) (r : NodeRef) : Nat := d.tmplNode (d.job (jobKey g r.slot)).tmpl r.node

/-- A node has left the ready list. -/
def Dev.unready (d : Dev) (g : Nat) (r : NodeRef) : Dev := { d with dr := { d.dr with ready := d.dr.ready.upd [] g (·.erase r) } }

/-- A node is under way: its job notes the instant. -/
def Dev.underWay (d : Dev) (g : Nat) (r : NodeRef) : Dev :=
  d.setJob (jobKey g r.slot) { d.job (jobKey g r.slot) with out := (d.job (jobKey g r.slot)).out ++ [(r.node, d.now)] }

theorem nodeDispatch_does {g : Fin 26} (h : ((d.countTurned g).dr.ready.get [] g).find? ((d.countTurned g).canDispatch g) = some r) :
    Does (.nodeDispatch g) d (((d.countTurned g).unready g r).dispatch g r) := by
  refine fun _ => exec_next rfl ?_
  simp only [h]
  rfl

/-- A node has joined a core queue. -/
def Dev.toCore (d : Dev) (k : Nat) (r : NodeRef) : Dev := { d with dr := { d.dr with cq := d.dr.cq.upd [] k (· ++ [r]) } }

/-- A thread node joins the queue of its core. -/
theorem Dev.dispatch_core {c : Nat} (hk : ND.kind (d.refNode g r) = 0) (hc : d.pickCore g (ND.operand (d.refNode g r)) = some c) :
    ∃ rs fr js n l, d.dispatch g r = d.withDr rs fr { d.dr with
      jobs := js, cq := d.dr.cq.upd [] (g * 8 + c) (· ++ [r]), gap := n, trace := l } := by
  have hrun : d.dispatch g r = ((((d.underWay g r).toCore (g * 8 + c) r).syncCq g c).jobTrace 1 (jobKey g r.slot) r.node c) := by
    have hc' (x : Job) : (d.setJob (jobKey g r.slot) x).pickCore g (ND.operand (d.tmplNode (d.job (jobKey g r.slot)).tmpl r.node)) = some c := hc
    simp only [Dev.refNode] at hk
    simp only [Dev.dispatch, hk, hc']
    rfl
  obtain ⟨rs, fr, h⟩ := ((d.underWay g r).toCore (g * 8 + c) r).syncCq_withRegs g c
  rw [hrun, h]
  obtain ⟨rs', fr', n, l, h'⟩ := (((d.underWay g r).toCore (g * 8 + c) r).withRegs rs fr).jobTrace_withDr 1 (jobKey g r.slot) r.node c 0 0
  exact ⟨_, _, _, _, _, h'⟩

/-- A helper or release node is handed to its engine. -/
theorem Dev.dispatch_engine (h1 : 1 ≤ ND.kind (d.refNode g r)) (h6 : ND.kind (d.refNode g r) ≠ 6) :
    ∃ rs fr gs js n l x, d.dispatch g r = { d.withDr rs fr { d.dr with
        jobs := js, gap := n, trace := l, engine := d.dr.engine ++ [x] } with gals := gs } ∧ x.g = g ∧ x.kind = ND.kind (d.refNode g r)
      ∧ x.op = ND.operand (d.refNode g r) ∧ x.ref = r := by
  obtain ⟨rs, fr, n, l, h⟩ := (d.underWay g r).jobTrace_withDr 1 (jobKey g r.slot) r.node 0 0 0
  simp only [Dev.dispatch]
  split
  case h_1 hk => exact absurd h1 (by rw [Dev.refNode, hk]; decide)
  case h_2 hk => exact absurd hk h6
  case h_3 =>
    rw [show (d.setJob (jobKey g r.slot) _).jobTrace 1 (jobKey g r.slot) r.node = _ from h]
    split <;> exact ⟨_, _, _, _, _, _, _, rfl, rfl, rfl, rfl, rfl⟩

theorem Dev.load_of_mem {d e : Dev} (h : e.mem = d.mem) (a n : Nat) : e.load a n = d.load a n := Dev.load_congr a n fun _ _ => Dev.byte_of_mem h _

theorem Dev.delayDue_congr {d e : Dev} {j : Nat} (op : Nat) (hnow : e.now = d.now) (hmem : e.mem = d.mem) (htub : (e.job j).tub = (d.job j).tub) :
    e.delayDue j op = d.delayDue j op := by
  simp only [Dev.delayDue, Dev.load_of_mem hmem, hnow, htub]

theorem Dev.setDelays_withDr (d : Dev) (g : Nat) (l : List Delay) :
    ∃ rs fr, d.setDelays g l = d.withDr rs fr { d.dr with delays := d.dr.delays.set [] g l } := by
  obtain ⟨rs, fr, h⟩ := ({ d with dr := { d.dr with delays := d.dr.delays.set [] g l } } : Dev).markHigh_withRegs (R.DR_GSTAT g) F.DR_GSTAT_dly_max l.length
  exact ⟨rs, fr, h⟩

/-- A delay node joins the delay list. -/
theorem Dev.dispatch_delay {t : Nat} (hk : ND.kind (d.refNode g r) = 6) (ht : d.delayDue (jobKey g r.slot) (ND.operand (d.refNode g r)) = some t)
    (hl : (d.dr.delays.get [] g).length < 4096) :
    ∃ rs fr js n l, d.dispatch g r = d.withDr rs fr { d.dr with
      jobs := js, gap := n, trace := l, delays := d.dr.delays.set [] g (insertDelay { due := t, entered := d.now, ref := r } (d.dr.delays.get [] g)) } := by
  obtain ⟨rs, fr, n, l, h⟩ := (d.underWay g r).jobTrace_withDr 1 (jobKey g r.slot) r.node 0 0 0
  have hdue : ((d.underWay g r).jobTrace 1 (jobKey g r.slot) r.node).delayDue (jobKey g r.slot) (ND.operand (d.refNode g r)) = some t := by
    have htub : ((d.underWay g r).job (jobKey g r.slot)).tub = (d.job (jobKey g r.slot)).tub := by rw [Dev.underWay, Dev.job_setJob_self]
    rw [h, ← ht]
    exact Dev.delayDue_congr _ rfl rfl htub
  have hrun : d.dispatch g r = ((d.underWay g r).jobTrace 1 (jobKey g r.slot) r.node).setDelays g
      (insertDelay { due := t, entered := ((d.underWay g r).jobTrace 1 (jobKey g r.slot) r.node).now, ref := r }
        (((d.underWay g r).jobTrace 1 (jobKey g r.slot) r.node).dr.delays.get [] g)) := by
    have hroom : ¬ 4096 ≤ (((d.underWay g r).jobTrace 1 (jobKey g r.slot) r.node).dr.delays.get [] g).length := by
      rw [h]
      exact Nat.not_le.2 hl
    simp only [Dev.refNode] at hk hdue
    simp only [Dev.dispatch, hk]
    simp only [Dev.underWay] at hdue hroom ⊢
    simp only [hdue]
    exact if_neg hroom
  rw [hrun, h]
  obtain ⟨rs', fr', h'⟩ := Dev.setDelays_withDr ((d.underWay g r).withDr rs fr { (d.underWay g r).dr with gap := n, trace := l }) g
    (insertDelay { due := t, entered := d.now, ref := r } (d.dr.delays.get [] g))
  exact ⟨_, _, _, _, _, h'⟩

end

/-! ### A node completes (R135, R140, R141) -/

/-- The walk over the successors touches the job's counters and the ready list. -/
theorem Dev.fanout_withDr (d : Dev) (j n : Nat) : ∃ js rd, d.fanout j n = d.withDr d.regs d.free { d.dr with jobs := js, ready := rd }
    ∧ js.get {} j = { d.job j with cnt := (js.get {} j).cnt } := by
  refine foldl_shape (P := fun e : Dev => ∃ js rd, e = d.withDr d.regs d.free { d.dr with jobs := js, ready := rd }
    ∧ js.get {} j = { d.job j with cnt := (js.get {} j).cnt }) _ ⟨_, _, rfl, rfl⟩ ?_
  rintro _ k ⟨js, rd, rfl, hj⟩
  have hput (c : List Nat) : (js.put j { js.get {} j with cnt := c }).get {} j =
      { d.job j with cnt := ((js.put j { js.get {} j with cnt := c }).get {} j).cnt } := by
    rw [Tab.get_put_self, hj]
  dsimp only
  split
  · split <;> exact ⟨_, _, rfl, hput _⟩
  · exact ⟨_, _, rfl, hj⟩

section
variable {d : Dev} {g : Nat} {r : NodeRef} {kind status : Nat} {x : Job}

/-- A job whose node has completed. -/
def Job.completes (x : Job) (n : Nat) : Job := { x with out := x.out.filter (fun o => o.1 != n), done := withBit x.done n true }

/-- A node of a job has completed: its status stands in the context, its successors are still to be told. -/
def Dev.nodeDone (d : Dev) (g : Nat) (r : NodeRef) (kind status : Nat) (x : Job) : Dev :=
  let j := jobKey g r.slot
  let d := d.setJob j (x.completes r.node)
  let d := if kind = 0 then d else d.putStatus j r.node status
  d.jobTrace (if 3 ≤ status then 3 else if kind = 6 then 4 else 2) j r.node 0 0 status

theorem Dev.nodeDone_shape (d : Dev) (g : Nat) (r : NodeRef) (kind status : Nat) (x : Job) : ∃ rs fr m n l, d.nodeDone g r kind status x =
    { d.withDr rs fr { d.dr with jobs := d.dr.jobs.put (jobKey g r.slot) (x.completes r.node), gap := n, trace := l } with mem := m } := by
  simp only [Dev.nodeDone]
  split
  · obtain ⟨rs, fr, n, l, h⟩ := (d.setJob (jobKey g r.slot) (x.completes r.node)).jobTrace_withDr
      (if 3 ≤ status then 3 else if kind = 6 then 4 else 2) (jobKey g r.slot) r.node 0 0 status
    exact ⟨rs, fr, d.mem, n, l, h⟩
  · obtain ⟨rs, fr, n, l, h⟩ := ((d.setJob (jobKey g r.slot) (x.completes r.node)).putStatus (jobKey g r.slot) r.node status).jobTrace_withDr
      (if 3 ≤ status then 3 else if kind = 6 then 4 else 2) (jobKey g r.slot) r.node 0 0 status
    exact ⟨rs, fr, ((d.setJob (jobKey g r.slot) (x.completes r.node)).putStatus (jobKey g r.slot) r.node status).mem, n, l, h⟩

/-- What a node that completes without ending its job leaves: its job has it done, and only counters have changed beside that. -/
def Dev.Completes (d : Dev) (g : Nat) (r : NodeRef) (x : Job) (e : Dev) : Prop :=
  ∃ rs fr m js rd n l, e = { d.withDr rs fr { d.dr with jobs := js, ready := rd, gap := n, trace := l } with mem := m }
    ∧ js.get {} (jobKey g r.slot) = { x.completes r.node with cnt := (js.get {} (jobKey g r.slot)).cnt }

theorem Dev.nodeDone_fanout (d : Dev) (g : Nat) (r : NodeRef) (kind status : Nat) (x : Job) :
    d.Completes g r x ((d.nodeDone g r kind status x).fanout (jobKey g r.slot) r.node) := by
  obtain ⟨rs, fr, m, n, l, h⟩ := d.nodeDone_shape g r kind status x
  have hjob : (d.nodeDone g r kind status x).job (jobKey g r.slot) = x.completes r.node := by
    rw [h]
    exact Tab.get_put_self ..
  obtain ⟨js, rd, hf, hj⟩ := (d.nodeDone g r kind status x).fanout_withDr (jobKey g r.slot) r.node
  rw [hjob] at hj
  rw [hf, h]
  exact ⟨_, _, _, _, _, _, _, rfl, hj⟩

theorem Dev.nodeComplete_absent (h : d.dr.jobs.find (jobKey g r.slot) = none) : d.nodeComplete g r kind status = d.inc (R.DR_GSTAT g) F.DR_GSTAT_late := by
  simp only [Dev.nodeComplete, h]

/-- A completion that ends no job tells the successors of its node. -/
theorem Dev.nodeComplete_tells (hx : d.dr.jobs.find (jobKey g r.slot) = some x) (hg : d.gen (jobKey g r.slot) = r.gen) (hs : x.st = 1)
    (ho : x.out.any (fun o => o.1 == r.node) = true)
    (hv : status < 3 ∨ TH.err_void ((d.nodeDone g r kind status x).tmplHdr x.tmpl) = false) (h1 : kind = 1 → status ≠ 2) :
    d.nodeComplete g r kind status = (d.nodeDone g r kind status x).fanout (jobKey g r.slot) r.node := by
  have hlive : ¬ (decide (d.gen (jobKey g r.slot) ≠ r.gen) || decide (x.st ≠ 1) || !x.out.any (fun o => o.1 == r.node)) = true := by
    rw [hg, hs, ho]
    simp
  have hgo : ¬ (decide (3 ≤ status) && TH.err_void ((d.nodeDone g r kind status x).tmplHdr x.tmpl)) = true := by
    rcases hv with h | h
    · simp [Nat.not_le.2 h]
    · simp [h]
  have hwarn : ¬ (decide (kind = 1) && decide (status = 2)) = true := by
    simp only [Bool.and_eq_true, decide_eq_true_eq, not_and]
    exact h1
  simp only [Dev.nodeComplete, hx]
  exact (if_neg hlive).trans ((if_neg hgo).trans (if_neg hwarn))

theorem Dev.nodeComplete_completes (hx : d.dr.jobs.find (jobKey g r.slot) = some x) (hg : d.gen (jobKey g r.slot) = r.gen) (hs : x.st = 1)
    (ho : x.out.any (fun o => o.1 == r.node) = true)
    (hv : status < 3 ∨ TH.err_void ((d.nodeDone g r kind status x).tmplHdr x.tmpl) = false) (h1 : kind = 1 → status ≠ 2) :
    d.Completes g r x (d.nodeComplete g r kind status) := by
  rw [Dev.nodeComplete_tells hx hg hs ho hv h1]
  exact d.nodeDone_fanout ..

end

section
variable {d e : Dev} {g : Nat} {r : NodeRef} {kind status : Nat} {x : Job}

theorem Dev.Completes.job (h : d.Completes g r x e) :
    e.job (jobKey g r.slot) = { x.completes r.node with cnt := (e.job (jobKey g r.slot)).cnt } := by
  obtain ⟨rs, fr, m, js, rd, n, l, rfl, hj⟩ := h
  exact hj

theorem Dev.Completes.returns (h : d.Completes g r x e) : e.dr.returns = d.dr.returns := by
  obtain ⟨rs, fr, m, js, rd, n, l, rfl, -⟩ := h
  rfl

theorem Dev.Completes.delays (h : d.Completes g r x e) : e.dr.delays = d.dr.delays := by
  obtain ⟨rs, fr, m, js, rd, n, l, rfl, -⟩ := h
  rfl

/-- The context words of a job lie beside the headers of the templates. -/
theorem Dev.putStatus_tmplHdr (d : Dev) (j n status t : Nat) : (d.putStatus j n status).tmplHdr t = d.tmplHdr t := by
  refine Dev.load_congr _ _ fun i hi => Dev.byte_put_other _ _ _ ?_
  rw [length_leBytes]
  simp only [tmplAddr, ctxWord, ctxAddr, sharedAddr]
  omega

theorem Dev.nodeDone_tmplHdr (d : Dev) (g : Nat) (r : NodeRef) (kind status : Nat) (x : Job) (t : Nat) :
    (d.nodeDone g r kind status x).tmplHdr t = d.tmplHdr t := by
  have htrace (e : Dev) (ev j node st : Nat) : (e.jobTrace ev j node 0 0 st).tmplHdr t = e.tmplHdr t := by
    obtain ⟨rs, fr, n, l, h⟩ := e.jobTrace_withDr ev j node 0 0 st
    rw [h]
    exact Dev.load_of_mem rfl ..
  rw [Dev.nodeDone, htrace]
  split
  · exact Dev.load_of_mem rfl ..
  · rw [Dev.putStatus_tmplHdr]
    exact Dev.load_of_mem rfl ..

/-! ### Completions, timeouts and delays -/

theorem nodeComplete_does {q : Nat} {rest : List (Nat × NodeRef × Nat × Nat)} (h : d.dr.returns = (q, r, kind, status) :: rest) :
    Does .nodeComplete d (({ d with dr := { d.dr with returns := rest } } : Dev).nodeComplete q r kind status) := by
  refine fun _ => exec_next rfl ?_
  simp only [h]

theorem helperTimeout_does {g : Fin 26} {slot : Fin 2048} {node : Fin 16} (hx : d.dr.jobs.find (jobKey g slot) = some x) (hs : x.st = 1)
    (ho : x.out.any (fun o => o.1 == node.val && decide (o.2 + usU ((d.rd R.DR_HTO F.DR_HTO_hto_us).max 1) ≤ d.now)) = true)
    (h1 : 1 ≤ ND.kind (d.tmplNode x.tmpl node)) (h5 : ND.kind (d.tmplNode x.tmpl node) ≤ 5) : Does (.helperTimeout g slot node) d
      (d.nodeComplete g { slot := slot, node := node, gen := d.gen (jobKey g slot) } (ND.kind (d.tmplNode x.tmpl node)) 4) := by
  refine fun _ => exec_next rfl ?_
  simp only [hx]
  refine if_pos ?_
  simp only [hs, h1, h5, ho, Bool.and_eq_true, decide_eq_true_eq, and_self]

theorem helperTimeout_completes {g : Fin 26} {slot : Fin 2048} {node : Fin 16} (hx : d.dr.jobs.find (jobKey g slot) = some x) (hs : x.st = 1)
    (ho : x.out.any (fun o => o.1 == node.val && decide (o.2 + usU ((d.rd R.DR_HTO F.DR_HTO_hto_us).max 1) ≤ d.now)) = true)
    (hv : TH.err_void (d.tmplHdr x.tmpl) = false) : d.Completes g { slot := slot, node := node, gen := d.gen (jobKey g slot) } x
      (d.nodeComplete g { slot := slot, node := node, gen := d.gen (jobKey g slot) } (ND.kind (d.tmplNode x.tmpl node)) 4) := by
  refine Dev.nodeComplete_completes hx rfl hs ?_ (.inr ?_) fun _ => by decide
  · obtain ⟨o, hmem, ho⟩ := List.any_eq_true.1 ho
    exact List.any_eq_true.2 ⟨o, hmem, (Bool.and_eq_true_iff.1 ho).1⟩
  · rw [Dev.nodeDone_tmplHdr, hv]

/-- A delay that fires leaves the delay lists to what fires it. -/
theorem Dev.nodeComplete_delays (d : Dev) (g : Nat) (r : NodeRef) : (d.nodeComplete g r 6 0).dr.delays = d.dr.delays := by
  have hlate : (d.inc (R.DR_GSTAT g) F.DR_GSTAT_late).dr.delays = d.dr.delays := congrArg Draught.delays (Dev.inc_dr ..)
  cases hx : d.dr.jobs.find (jobKey g r.slot) with
  | none =>
    rw [Dev.nodeComplete_absent hx]
    exact hlate
  | some x =>
    by_cases hlive : (decide (d.gen (jobKey g r.slot) ≠ r.gen) || decide (x.st ≠ 1) || !x.out.any (fun o => o.1 == r.node)) = true
    · simp only [Dev.nodeComplete, hx]
      rw [if_pos hlive]
      exact hlate
    · simp only [Bool.or_eq_true, decide_eq_true_eq, Bool.not_eq_true', not_or, not_not, Bool.not_eq_false] at hlive
      obtain ⟨⟨hg, hs⟩, ho⟩ := hlive
      exact (Dev.nodeComplete_completes hx hg hs ho (.inl (by decide)) fun h => absurd h (by decide)).delays

/-- The delays that fire at a tick have left the list. -/
theorem Dev.fireDelays_delays (d : Dev) (g tick : Nat) :
    (d.fireDelays g tick).dr.delays.get [] g = (d.dr.delays.get [] g).filter (fun x => tick < x.due.max x.entered) := by
  obtain ⟨rs, fr, h⟩ := d.setDelays_withDr g ((d.dr.delays.get [] g).filter (fun x => tick < x.due.max x.entered))
  have hkeeps := foldl_keeps (f := fun (d : Dev) (x : Delay) => d.nodeComplete g x.ref 6 0) (fun e : Dev => e.dr.delays.get [] g)
    (fun e x => congrArg (Tab.get · [] g) (e.nodeComplete_delays g x.ref)) ((d.dr.delays.get [] g).filter (fun x => x.due.max x.entered ≤ tick))
    (d.setDelays g ((d.dr.delays.get [] g).filter (fun x => tick < x.due.max x.entered)))
  refine hkeeps.trans ?_
  rw [h]
  exact Tab.get_set_self ..

/-- The one delay that fires completes its node. -/
theorem Dev.fireDelays_completes {tick : Nat} {y : Delay} (hdue : (d.dr.delays.get [] g).filter (fun x => x.due.max x.entered ≤ tick) = [y])
    (hx : d.dr.jobs.find (jobKey g y.ref.slot) = some x) (hg : d.gen (jobKey g y.ref.slot) = y.ref.gen) (hs : x.st = 1)
    (ho : x.out.any (fun o => o.1 == y.ref.node) = true) :
    (d.fireDelays g tick).job (jobKey g y.ref.slot) = { x.completes y.ref.node with cnt := ((d.fireDelays g tick).job (jobKey g y.ref.slot)).cnt } := by
  obtain ⟨rs, fr, h⟩ := d.setDelays_withDr g ((d.dr.delays.get [] g).filter (fun x => tick < x.due.max x.entered))
  have hfire : d.fireDelays g tick = (d.setDelays g ((d.dr.delays.get [] g).filter (fun x => tick < x.due.max x.entered))).nodeComplete g y.ref 6 0 := by
    simp only [Dev.fireDelays, hdue, List.foldl_cons, List.foldl_nil]
  rw [hfire]
  refine (Dev.nodeComplete_completes (kind := 6) (status := 0) ?_ ?_ hs ho (.inl (by decide)) fun h => absurd h (by decide)).job
  · rw [h]
    exact hx
  · rw [h]
    exact hg

theorem dispatchTraceDrain_does (hw : d.on R.DR_TRCTL F.DR_TRCTL_wrap = true) (ht : d.dr.trace ≠ []) :
    let n := ringRecs (d.rd R.DR_TRRING F.DR_TRRING_size_log2) 16
    let x := d.ringPut (d.rd R.DR_TRRING F.DR_TRRING_base * 4096) n (d.rd R.DR_TRSTAT F.DR_TRSTAT_wr_idx) true ((d.dr.trace.take 4).map (·.toNat))
    Does .dispatchTraceDrain d (x.2.dispTraceAt n 4 (if n ≤ x.1 then 0 else x.1) true) := by
  intro n x q
  have hout : ¬ (d.dr.trace.take 4).isEmpty = true := by
    cases hl : d.dr.trace with
    | nil => exact absurd hl ht
    | cons a l => simp
  refine exec_next rfl ?_
  simp only [hw, if_true, if_neg hout, Bool.true_and, decide_eq_true_eq]
  rfl

end

/-! ### Voids (R140, R143) -/

section
variable {d : Dev} {x : Job} {j : Nat}

/-- A job that still runs a node goes into DRAIN. -/
theorem Dev.jobVoid_drains (hx : d.dr.jobs.find j = some x) (hs : x.st = 1) (hr : 0 < x.running) :
    (d.jobVoid j false).job j = { x with st := 2, hoistVoid := false, leave := none, drainAt := d.now } := by
  obtain ⟨rs, fr, n, l, h⟩ := d.jobTrace_withDr 6 j 0 0 0 0
  obtain ⟨rs', fr', rd, cq, h'⟩ := (d.withDr rs fr { d.dr with gap := n, trace := l }).purgeNodes_withDr j
  simp only [Dev.jobVoid, hx, hs, hr, if_true, h, h']
  exact Tab.get_put_self ..

theorem Dev.jobVoid_ends (hx : d.dr.jobs.find j = some x) (hs : x.st = 1) (hr : x.running = 0) :
    d.jobVoid j false = (((d.jobTrace 6 j).purgeNodes j).setJob j { x with hoistVoid := false, leave := none }).endVoid j := by
  simp only [Dev.jobVoid, hx, hs, hr, if_true, Nat.lt_irrefl, if_false]

end

end Sys2Proof.Machine
end

/-! ## Hoist: releases, voids and reclaims (R137, R289 to R298) -/
section
namespace Sys2Proof.Machine

/-! ### What Hoist's bookkeeping touches -/

section
variable (d : Dev)

theorem Dev.takeEngine_only (g k : Nat) : ∃ es, (d.takeEngine g k).2 = { d with dr := { d.dr with engine := es } } := by
  rw [Dev.takeEngine]
  split <;> exact ⟨_, rfl⟩

theorem Dev.modFrame_only (h : Nat) (f : Frame → Frame) : ∃ fs, d.modFrame h f = { d with frames := fs } := by
  rw [Dev.modFrame]
  split <;> exact ⟨_, rfl⟩

theorem Dev.syncOcc_withRegs : ∃ rs fr, d.syncOcc = d.withRegs rs fr := by
  simp only [Dev.syncOcc]
  obtain ⟨rs, fr, h⟩ := ((d.wr R.HO_OCC F.HO_OCC_used d.ho.tickets.length).wr R.HO_OCC F.HO_OCC_c7_used
    ((d.wr R.HO_OCC F.HO_OCC_used d.ho.tickets.length).ticketsIn true)).markHigh_withRegs R.HO_OCC F.HO_OCC_occ_max d.ho.tickets.length
  obtain ⟨rs', fr', h'⟩ := (d.withRegs rs fr).markHigh_withRegs R.HO_OCC F.HO_OCC_c7_max (d.ticketsIn true)
  refine ⟨rs', fr', Eq.trans ?_ h'⟩
  exact congrArg (fun e : Dev => e.markHigh R.HO_OCC F.HO_OCC_c7_max (e.ticketsIn true)) h

theorem Dev.freeTicket_xc (t : Nat) : (d.freeTicket t).xc = d.xc := by
  obtain ⟨rs, fr, h⟩ := ({ d with ho := { d.ho with tickets := d.ho.tickets.del t } } : Dev).syncOcc_withRegs
  rw [Dev.freeTicket, h]
  rfl

theorem Dev.bumpHead_xc (dom : Nat) : (d.bumpHead dom).xc = d.xc := rfl

theorem Dev.advance_xc (dom n : Nat) : (d.advance dom n).xc = d.xc := by
  induction n generalizing d with
  | zero => rfl
  | succ n ih =>
    rw [Dev.advance]
    split
    · rw [ih, Dev.bumpHead_xc, Dev.freeTicket_xc]
      split
      · exact Dev.inc_xc ..
      · rfl
    · rfl

theorem Dev.resolve_xc (dom : Nat) : (d.resolve dom).xc = d.xc := d.advance_xc ..

end

/-! ### The release of a job (R137, R296) -/

section
variable {d : Dev} {r : NodeRef} {x : Job} {j : Nat}

/-- A job that has released its frame is DONE, with the tub that Hoist makes of Draught's copy and the context. -/
def Dev.jobReleased (d : Dev) (j n : Nat) (x : Job) : Dev :=
  let tub := Tub.clean (mergeTub x.tub (BitVec.ofNat 256 (d.load (ctxAddr j) 32)))
  ((d.setJob j { x with st := 3, out := x.out.filter (fun o => o.1 != n), tub := tub }).syncDrain (j / 2048)).jobTrace 5 j n

/-- What Hoist keeps of a release: the tub, the edited header, the port select and the job. -/
def Dev.releaseOf (d : Dev) (j : Nat) (x : Job) : Tub × List Byte × Nat × Nat :=
  (Tub.clean (mergeTub x.tub (BitVec.ofNat 256 (d.load (ctxAddr j) 32))),
    d.bytes (ctxWord j 32) ((bitsOf (d.load (ctxWord j 29) 8) 32 9).min 256), bitsOf (d.load (ctxWord j 30) 8) 56 2, j)

theorem Dev.jobReleased_withDr (d : Dev) (j n : Nat) (x : Job) : ∃ rs fr y m l, d.jobReleased j n x =
    d.withDr rs fr { d.dr with jobs := d.dr.jobs.put j { x with st := 3, out := x.out.filter (fun o => o.1 != n), tub := y }, gap := m, trace := l } := by
  obtain ⟨rs, fr, m, l, h⟩ := Dev.jobTrace_withDr ((d.setJob j { x with
    st := 3, out := x.out.filter (fun o => o.1 != n)
    tub := Tub.clean (mergeTub x.tub (BitVec.ofNat 256 (d.load (ctxAddr j) 32))) }).syncDrain (j / 2048)) 5 j n 0 0 0
  exact ⟨rs, fr, _, m, l, h⟩

/-- Hoist takes the release of a job that alone holds its ticket. -/
theorem Dev.releaseNode_alone (hx : d.dr.jobs.find j = some x) (hg : d.gen j = r.gen) (hs : x.st = 1) (ht : (d.tix x.ticket).st = 1)
    (hj : (d.tix x.ticket).jobs = [j]) (ha : d.ahead (d.tix x.ticket).dom (d.tix x.ticket).seq = true) (hb : (d.frame x.frame).bad = false) :
    d.releaseNode j r = (d.jobReleased j r.node x).setTix x.ticket { (d.tix x.ticket).to (d.jobReleased j r.node x).now 2 with
      jobs := [j], rel := some (d.releaseOf j x) } := by
  have hlive : ¬ (decide (d.gen j ≠ r.gen) || decide (x.st ≠ 1) || decide ((d.tix x.ticket).st ≠ 1) || !(d.tix x.ticket).jobs.contains j) = true := by
    simp [hg, hs, ht, hj]
  have hahead : ¬ (!d.ahead (d.tix x.ticket).dom (d.tix x.ticket).seq) = true := by
    rw [ha]
    decide
  have halone : (d.tix x.ticket).jobs.filter (· != j) = [] := by simp [hj]
  have hgood (y : Ticket) : ¬ (((d.jobReleased j r.node x).setTix x.ticket y).frame x.frame).bad = true := by
    obtain ⟨rs, fr, y, n, l, h⟩ := d.jobReleased_withDr j r.node x
    rw [h]
    exact Bool.eq_false_iff.1 hb
  simp only [Dev.releaseNode, hx]
  rw [if_neg hlive, if_neg hahead, halone, List.foldl_nil]
  exact if_neg (hgood _)

/-- The job is then DONE and so is its ticket. -/
theorem Dev.releaseNode_takes (hx : d.dr.jobs.find j = some x) (hg : d.gen j = r.gen) (hs : x.st = 1) (ht : (d.tix x.ticket).st = 1)
    (hj : (d.tix x.ticket).jobs = [j]) (ha : d.ahead (d.tix x.ticket).dom (d.tix x.ticket).seq = true) (hb : (d.frame x.frame).bad = false) :
    ((d.releaseNode j r).job j).st = 3 ∧ ∃ rel, (d.releaseNode j r).tix x.ticket = { (d.tix x.ticket).to d.now 2 with rel := some rel } := by
  obtain ⟨rs, fr, y, n, l, h⟩ := d.jobReleased_withDr j r.node x
  rw [Dev.releaseNode_alone hx hg hs ht hj ha hb, h]
  refine ⟨congrArg Job.st (Tab.get_put_self d.dr.jobs {} j _), d.releaseOf j x, (Tab.get_put_self d.ho.tickets {} x.ticket _).trans ?_⟩
  rw [← hj]
  rfl

theorem releaseNodeComplete_does {g : Fin 26} {e : EngineOp} (he : (d.takeEngine g 7).1 = some e) :
    Does (.releaseNodeComplete g) d ((d.takeEngine g 7).2.releaseNode (jobKey g e.ref.slot) e.ref) := by
  refine fun _ => exec_next rfl ?_
  simp only [he]

theorem releaseNodeComplete_takes {g : Fin 26} {e : EngineOp} (hx : d.dr.jobs.find j = some x) (hg : d.gen j = e.ref.gen)
    (hs : x.st = 1) (ht : (d.tix x.ticket).st = 1) (hj : (d.tix x.ticket).jobs = [j])
    (ha : d.ahead (d.tix x.ticket).dom (d.tix x.ticket).seq = true) (hb : (d.frame x.frame).bad = false) :
    (((d.takeEngine g 7).2.releaseNode j e.ref).job j).st = 3 ∧
      ∃ rel, ((d.takeEngine g 7).2.releaseNode j e.ref).tix x.ticket = { (d.tix x.ticket).to d.now 2 with rel := some rel } := by
  obtain ⟨es, h⟩ := d.takeEngine_only g 7
  rw [h]
  exact Dev.releaseNode_takes (d := { d with dr := { d.dr with engine := es } }) hx hg hs ht hj ha hb

end

/-! ### The release in order (R291, R292) -/

section
variable {d : Dev} {x : Ticket} {k psel q : Nat} {tub : Tub} {eh : List Byte}

/-- A frame that its job dropped is passed over. -/
theorem hoistRelease_drops (hn : d.nextEligible = some (k, x)) (hr : x.rel = some (tub, eh, psel, q)) (h1 : T.drop.get tub = 1)
    (h0 : T.drop_n.get tub = 0) : Does .hoistRelease d ((d.inc R.HO_VCNT1 F.HO_VCNT1_drop).passDone k) := by
  refine fun _ => exec_next rfl ?_
  simp only [Dev.hoistRelease, hn, hr, h1, h0, decide_true, Bool.and_self, if_true]

/-- The enqueue request of a release. -/
def Dev.releaseReq (d : Dev) (x : Ticket) (tub : Tub) (eh : List Byte) (psel q hdr : Nat) : EnqReq :=
  { src := 0, tub := tub, eh := eh, winLen := (d.job q).winLen, orig := false, psel := psel, frame := x.frame, hdr := hdr
    qp := (d.frame x.frame).qp, exc := (d.frame x.frame).exc.getD 0, mirror := (d.frame x.frame).mirror }

/-- The device once a release's request stands with Crosscut. -/
def Dev.requested (d : Dev) (h : Nat) (req : EnqReq) : Dev :=
  let u := (d.inc R.HO_CNT F.HO_CNT_released).modFrame h (fun f => { f with stage := .switched })
  { u with xc := { u.xc with reqs := u.xc.reqs ++ [req] } }

theorem Dev.requested_reqs (d : Dev) (h : Nat) (req : EnqReq) : (d.requested h req).xc.reqs = d.xc.reqs ++ [req] := by
  obtain ⟨fs, hfs⟩ := (d.inc R.HO_CNT F.HO_CNT_released).modFrame_only h (fun f => { f with stage := .switched })
  rw [Dev.requested, hfs]
  exact congrArg (·.reqs ++ [req]) (Dev.inc_xc ..)

/-- What becomes of a ticket whose request stands with Crosscut. -/
def Dev.ticketReleased (d : Dev) (k : Nat) (x : Ticket) (eddy : Bool) : Dev :=
  if eddy then
    (d.setTix k { x.to d.now 3 with jobs := [], rel := none, twin := false }).modFrame x.frame (fun f => { f with ticket := some k })
  else if d.head x.dom = x.seq then ((d.freeTicket k).bumpHead x.dom).resolve x.dom
  else d.setTix k { x.to d.now 5 with jobs := [], rel := none, twin := false }

theorem Dev.ticketReleased_xc (d : Dev) (k : Nat) (x : Ticket) (eddy : Bool) : (d.ticketReleased k x eddy).xc = d.xc := by
  rw [Dev.ticketReleased]
  split
  · obtain ⟨fs, hfs⟩ := (d.setTix k { x.to d.now 3 with jobs := [], rel := none, twin := false }).modFrame_only x.frame
      (fun f => { f with ticket := some k })
    rw [hfs]
    rfl
  · split
    · exact (Dev.resolve_xc ..).trans (Dev.freeTicket_xc ..)
    · rfl

/-- A release that is not a drop hands one request over to Crosscut. -/
theorem Dev.hoistRelease_requests (hn : d.nextEligible = some (k, x)) (hr : x.rel = some (tub, eh, psel, q))
    (h1 : T.drop.get tub = 1 → T.drop_n.get tub ≠ 0) {hdr : Nat} {e : Dev}
    (hh : d.handOver q tub eh (T.dcol.get tub == 9 && T.multicast.get tub == 0) = (hdr, e)) :
    d.hoistRelease = (e.requested x.frame (d.releaseReq x tub eh psel q hdr)).ticketReleased k x (T.dcol.get tub == 9 && T.multicast.get tub == 0) := by
  have hkeep : ¬ (decide (T.drop.get tub = 1) && decide (T.drop_n.get tub = 0)) = true := by
    simpa using h1
  simp only [Dev.hoistRelease, hn, hr, hh]
  exact if_neg hkeep

theorem Dev.hoistRelease_reqs (hn : d.nextEligible = some (k, x)) (hr : x.rel = some (tub, eh, psel, q))
    (h1 : T.drop.get tub = 1 → T.drop_n.get tub ≠ 0) :
    let h := d.handOver q tub eh (T.dcol.get tub == 9 && T.multicast.get tub == 0)
    d.hoistRelease.xc.reqs = h.2.xc.reqs ++ [d.releaseReq x tub eh psel q h.1] := by
  intro h
  rw [Dev.hoistRelease_requests hn hr h1 (e := h.2) (hdr := h.1) rfl, Dev.ticketReleased_xc, Dev.requested_reqs]

end

/-! ### The reorder limit and the reclaims of a fenced gallery (R294, R298, R407) -/

section
variable {d : Dev}

/-- A ticket in RUN that has used up the limit ends with its jobs. -/
theorem Dev.reorderLimit_ends {t : Nat} {x : Ticket} (hx : d.ho.tickets.find t = some x) (hs : x.st = 1)
    (hu : usU ((d.rd R.HO_CFG F.HO_CFG_limit_us).max 1) ≤ x.ran d.now) : d.reorderLimit t =
      ((((d.inc R.HO_VCNT0 F.HO_VCNT0_late).rset R.HO_LATE (BitVec.ofNat 64 (x.dom * 2 ^ 48 + x.seq * 2 ^ 28 + x.jobs.headD 0 / 2048 * 2 ^ 23
        + x.jobs.headD 0 % 2048 * 2 ^ 12 + 1))).tally 0x0B02 x.dom [x.seq]).hoistVoid t) := by
  have hgo : ¬ (decide (x.st ≠ 1) && decide (x.st ≠ 3) || decide (x.ran d.now < usU ((d.rd R.HO_CFG F.HO_CFG_limit_us).max 1))) = true := by
    simp [hs, Nat.not_lt.2 hu]
  have hrun : ¬ x.st = 3 := by
    rw [hs]
    decide
  simp only [Dev.reorderLimit, hx]
  rw [if_neg hgo, if_neg hrun]

theorem hoistReclaim_does {g : Fin 26} (h : d.reclaiming g 0 = true) : Does (.hoistReclaim g) d (d.hoistReclaim g).reclaimNext :=
  fun _ => exec_next rfl (if_pos h)

theorem draughtReclaim_does {g : Fin 26} {r : TkReq} (h : d.reclaiming g 3 = true) (hr : d.rl.cur = some r) :
    Does (.draughtReclaim g) d ((d.draughtReclaim g).reclaimNext.reclaimEnd r) := by
  have hgo : ¬ (!d.reclaiming g 3) = true := by
    rw [h]
    decide
  refine fun _ => exec_next rfl ((if_neg hgo).trans ?_)
  rw [hr]

end

end Sys2Proof.Machine
end

/-! ## The helper engines (R116, R122, R125, R214, R216, R243) -/
section
namespace Sys2Proof.Machine

/-! ### A result and a return (R137, R141) -/

section
variable (d : Dev) (g : Nat) (r : NodeRef)

theorem Dev.putResult_only (off : Nat) (bs : List Byte) : ∃ m gs, d.putResult g r off bs = { d with mem := m, gals := gs } := by
  simp only [Dev.putResult]
  split <;> exact ⟨_, _, rfl⟩

theorem Dev.putResult_dr (off : Nat) (bs : List Byte) : (d.putResult g r off bs).dr = d.dr := by
  obtain ⟨m, gs, h⟩ := d.putResult_only g r off bs
  rw [h]

theorem Dev.goodWords_bytes (a n b m : Nat) : (d.goodWords g a n).bytes b m = d.bytes b m :=
  Dev.bytes_congr _ _ fun _ _ => Dev.byte_of_mem rfl _

/-- A result that is awaited stands in the job's context. -/
theorem Dev.putResult_bytes (off : Nat) (bs : List Byte) (h : d.awaited g r = true) :
    (d.putResult g r off bs).bytes (ctxWord (jobKey g r.slot) off) bs.length = bs := by
  have hput : d.putResult g r off bs = (d.put (ctxWord (jobKey g r.slot) off) bs).goodWords g (ctxWord (jobKey g r.slot) off) bs.length := if_pos h
  rw [hput, Dev.goodWords_bytes, Dev.bytes_put_self]

theorem Dev.helperReturn_returns (kind status : Nat) : (d.helperReturn g r kind status).dr.returns = d.dr.returns ++ [(g, r, kind, status)] := rfl

theorem Dev.helperReturn_bytes (kind status a n : Nat) : (d.helperReturn g r kind status).bytes a n = d.bytes a n :=
  Dev.bytes_congr _ _ fun _ _ => Dev.byte_of_mem rfl _

/-- A result is put and its helper returns. -/
theorem Dev.putResult_returns (off : Nat) (bs : List Byte) (kind status : Nat) :
    ((d.putResult g r off bs).helperReturn g r kind status).dr.returns = d.dr.returns ++ [(g, r, kind, status)] := by
  rw [Dev.helperReturn_returns, Dev.putResult_dr]

theorem Dev.noteGen_dr (fn status record : Nat) : (d.noteGen g r fn status record).dr = d.dr := by
  rw [Dev.noteGen]
  split
  · obtain ⟨fs, h⟩ := d.modFrame_only (d.job (jobKey g r.slot)).frame (fun f => { f with gen := some (bitsOf record 256 16) })
    rw [h]
  · rfl

end

/-! ### Lode's helper (R243, R245) -/

section
variable {d : Dev} {g : Nat} {e : EngineOp}

theorem Dev.lodeAnswer_returns (d : Dev) (g : Nat) (e : EngineOp) (fn : Nat) (x : LRes) :
    (d.lodeAnswer g e fn x).dr.returns = d.dr.returns ++ [(g, e.ref, 1, x.status)] := by
  have hdrop (u : Dev) (j : Nat) (c : Bool) : (if c then u.ctxDrop j else u).dr = u.dr := by
    split
    · rw [Dev.ctxDrop, Dev.put_dr]
    · rfl
  simp only [Dev.lodeAnswer]
  rw [Dev.helperReturn_returns, hdrop, Dev.noteGen_dr, Dev.putResult_dr, Dev.putResult_dr]

theorem Dev.lodeRefuse_returns (d : Dev) (g : Nat) (e : EngineOp) : (d.lodeRefuse g e).dr.returns = d.dr.returns ++ [(g, e.ref, 1, 7)] := by
  simp only [Dev.lodeRefuse]
  rw [Dev.helperReturn_returns, Dev.inc_dr, Dev.putResult_dr, Dev.putResult_dr]

/-- A reserved bit in the operand is a bad argument. -/
theorem Dev.lodeTicket_badArg (bad : Option (Nat × Bool)) (h : bitsOf e.op 4 16 ≠ 0) :
    (d.lodeTicket g e bad).dr.returns = d.dr.returns ++ [(g, e.ref, 1, 7)] := by
  have hrun : d.lodeTicket g e bad = (d.leaveQueue e.quad).lodeRefuse g e := if_pos (by simp [h])
  rw [hrun, Dev.lodeRefuse_returns]
  rfl

/-- An operation that has its answer returns its status. -/
theorem Dev.lodeTicket_answers {bad : Option (Nat × Bool)} {r : LRes} {u : Dev} (hz : bitsOf e.op 4 16 = 0) (hs : bitsOf e.op 1 2 ≠ 3)
    (ha : bitsOf e.op 26 6 ≤ 60) (hr : bitsOf e.op 20 6 + (if bitAt e.op 0 then 16 else 8) ≤ 64)
    (hw : d.wordBad g (ctxWord (jobKey g e.ref.slot) (bitsOf e.op 26 6)) 32 = false)
    (hop : d.lodeOp (.gallery g e.num) (bitsOf e.op 32 8) (leBytes 32 (d.lodeBlock (jobKey g e.ref.slot) e.op)) 0 false (bitAt e.op 0) bad = (some r, u)) :
    (d.lodeTicket g e bad).dr.returns = u.dr.returns ++ [(g, e.ref, 1, r.status)] := by
  have hgood : ¬ (decide (bitsOf e.op 4 16 ≠ 0) || decide (bitsOf e.op 1 2 = 3) || decide (64 < bitsOf e.op 26 6 + 4)
      || decide (64 < bitsOf e.op 20 6 + (if bitAt e.op 0 then 16 else 8))) = true := by
    simp only [Bool.or_eq_true, decide_eq_true_eq, not_or]
    exact ⟨⟨⟨fun h => h hz, hs⟩, by omega⟩, by omega⟩
  have hrun : d.lodeTicket g e bad = (u.leaveQueue e.quad).lodeAnswer g e (bitsOf e.op 32 8) r := by
    refine (if_neg hgood).trans ((if_neg (Bool.eq_false_iff.1 hw)).trans ?_)
    simp only [hop]
  rw [hrun, Dev.lodeAnswer_returns]
  rfl

theorem lodeHelper_does {g : Fin 26} (bad : LodeErr) (he : (d.takeEngine g 1).1 = some e) (ht : d.lodeTurn g e.num = true) :
    Does (.lodeHelper g bad) d ((d.takeEngine g 1).2.lodeTicket g e bad.at) := by
  refine fun _ => exec_next rfl ?_
  simp only [he]
  exact if_pos ht

end

/-! ### The stream, rule and memory helpers (R116, R122, R125) -/

section
variable {d : Dev} {g : Nat} {e : EngineOp}

theorem Dev.streamLook_dr (d : Dev) (sh : Nat) : (d.streamLook sh).2.dr = d.dr := by
  simp only [Dev.streamLook]
  split
  · rfl
  · split
    · rfl
    · rw [Dev.tally_dr, Dev.wr_dr, Dev.wr_dr, Dev.inc_dr]
      rfl

theorem Dev.streamTicket_badArg (h : 62 < HO.res e.op) : (d.streamTicket g e).dr.returns = d.dr.returns ++ [(g, e.ref, 2, 7)] := by
  rw [show d.streamTicket g e = d.helperReturn g e.ref 2 7 from if_pos h, Dev.helperReturn_returns]

theorem Dev.streamTicket_badWord (h : HO.res e.op ≤ 62) (hw : d.wordBad g (ctxWord (jobKey g e.ref.slot) (HO.arg e.op)) 8 = true) :
    (d.streamTicket g e).dr.returns = d.dr.returns ++ [(g, e.ref, 2, 3)] := by
  rw [show d.streamTicket g e = d.helperReturn g e.ref 2 3 from (if_neg (Nat.not_lt.2 h)).trans (if_pos hw), Dev.helperReturn_returns]

theorem Dev.streamTicket_valid (h : HO.res e.op ≤ 62) (hw : d.wordBad g (ctxWord (jobKey g e.ref.slot) (HO.arg e.op)) 8 = false)
    (hv : XE.valid.get (d.streamLook (d.load (ctxWord (jobKey g e.ref.slot) (HO.arg e.op)) 8 % 65536)).1 = 1) :
    (d.streamTicket g e).dr.returns = d.dr.returns ++ [(g, e.ref, 2, 0)] := by
  simp only [Dev.streamTicket]
  rw [if_neg (Nat.not_lt.2 h), if_neg (Bool.eq_false_iff.1 hw), hv, Dev.streamStatus, if_pos (by decide), Dev.putResult_returns, Dev.streamLook_dr]

theorem streamHelper_does {g : Fin 26} (he : (d.takeEngine g 2).1 = some e) : Does (.streamHelper g) d ((d.takeEngine g 2).2.streamTicket g e) := by
  refine fun _ => exec_next rfl ?_
  simp only [he]

theorem Dev.lookupVer_dr (d : Dev) (v : Nat) (retired : Bool) : (d.lookupVer v retired).2.dr = d.dr := by
  rw [Dev.lookupVer]
  split
  · exact Dev.inc_dr ..
  · rfl

theorem Dev.ruleTicket_badArg (h : 56 < HO.arg e.op) : (d.ruleTicket g e).dr.returns = d.dr.returns ++ [(g, e.ref, 3, 7)] := by
  rw [show d.ruleTicket g e = d.helperReturn g e.ref 3 7 from if_pos (by omega), Dev.helperReturn_returns]

theorem Dev.ruleTicket_hits {i : Nat} {r : Rule} (h : HO.arg e.op ≤ 56) (hw : d.wordBad g (ctxWord (jobKey g e.ref.slot) (HO.arg e.op)) 64 = false)
    (hr : (d.lookupVer e.ver (d.frame e.frame).retired).2.searchRules (slotOf (d.lookupVer e.ver (d.frame e.frame).retired).1) (HO.fn e.op % 8)
      (BitVec.ofNat 512 ((d.lookupVer e.ver (d.frame e.frame).retired).2.load (ctxWord (jobKey g e.ref.slot) (HO.arg e.op)) 64)) = .hit i r) :
    (d.ruleTicket g e).dr.returns = d.dr.returns ++ [(g, e.ref, 3, 0)] := by
  simp only [Dev.ruleTicket]
  rw [if_neg (by omega), if_neg (Bool.eq_false_iff.1 hw)]
  simp only [Dev.ruleFind, hr]
  rw [Dev.putResult_returns, Dev.lookupVer_dr]

theorem ruleHelper_does {g : Fin 26} (he : (d.takeEngine g 3).1 = some e) : Does (.ruleHelper g) d ((d.takeEngine g 3).2.ruleTicket g e) := by
  refine fun _ => exec_next rfl ?_
  simp only [he]

theorem Dev.ddrFetch_badArg (h : bitsOf e.op 0 9 = 0 ∨ 256 < bitsOf e.op 0 9) : (d.ddrFetch g e).dr.returns = d.dr.returns ++ [(g, e.ref, 4, 7)] := by
  have hrun : d.ddrFetch g e = d.helperReturn g e.ref 4 7 := by
    refine if_pos ?_
    rcases h with h | h <;> simp [h]
  rw [hrun, Dev.helperReturn_returns]

/-- A fetch that reads its bytes puts them into the job's context. -/
theorem Dev.ddrFetch_reads {bs : List Byte} {u : Dev} (h1 : 1 ≤ bitsOf e.op 0 9) (h256 : bitsOf e.op 0 9 ≤ 256)
    (hr : 8 * HO.res e.op + bitsOf e.op 0 9 ≤ 512) (hw : d.wordBad g (ctxWord (jobKey g e.ref.slot) (HO.arg e.op)) 8 = false)
    (ha : d.load (ctxWord (jobKey g e.ref.slot) (HO.arg e.op)) 8 + bitsOf e.op 0 9 ≤ 2 ^ 37)
    (hread : d.smRead 1 (d.load (ctxWord (jobKey g e.ref.slot) (HO.arg e.op)) 8) (bitsOf e.op 0 9) = (.ok bs, u)) :
    d.ddrFetch g e = (u.putResult g e.ref (HO.res e.op) bs).helperReturn g e.ref 4 0 := by
  have hgood : ¬ (decide (bitsOf e.op 0 9 = 0) || decide (256 < bitsOf e.op 0 9) || decide (512 < 8 * HO.res e.op + bitsOf e.op 0 9)) = true := by
    simp only [Bool.or_eq_true, decide_eq_true_eq, not_or]
    omega
  refine (if_neg hgood).trans ((if_neg (Bool.eq_false_iff.1 hw)).trans ((if_neg (Nat.not_lt.2 ha)).trans ?_))
  simp only [Dev.ddrRead, hread]

theorem ddrFetch_does {g : Fin 26} (he : (d.takeEngine g 4).1 = some e) : Does (.ddrFetch g) d ((d.takeEngine g 4).2.ddrFetch g e) := by
  refine fun _ => exec_next rfl ?_
  simp only [he]

end

/-! ### The phasor engine (R214, R216, R231) -/

section
variable {d : Dev} {g : Nat} {e : EngineOp}

theorem Dev.takePhasor_only (d : Dev) (g : Nat) (p : Nat → Bool) : ∃ es, (d.takePhasor g p).2 = { d with dr := { d.dr with engine := es } } := by
  obtain ⟨es, h⟩ := d.takeEngine_only g 5
  simp only [Dev.takePhasor]
  split
  case h_1 e' d1 hd =>
    split
    · exact ⟨es, (congrArg Prod.snd hd).symm.trans h⟩
    · exact ⟨_, rfl⟩
  case h_2 => exact ⟨_, rfl⟩

theorem Dev.phasorTicket_badFn (h : bitsOf e.op 32 8 ≠ 0) : (d.phasorTicket g e).dr.returns = d.dr.returns ++ [(g, e.ref, 5, 7)] := by
  rw [show d.phasorTicket g e = d.helperReturn g e.ref 5 7 from if_pos h, Dev.helperReturn_returns]

theorem Dev.phasorTicket_steps (h : bitsOf e.op 32 8 = 0) :
    let x := d.phasorStep (jobKey g e.ref.slot) (d.load (ctxWord (jobKey g e.ref.slot) (HO.arg e.op)) 8)
    (d.phasorTicket g e).dr.returns = x.2.2.dr.returns ++ [(g, e.ref, 5, x.1)] := by
  intro x
  rw [Dev.phasorTicket, if_neg (fun hn => hn h)]
  show (match x.2.1 with
    | some v => (x.2.2.putResult g e.ref (bitsOf e.op 20 6) (leBytes 8 v)).helperReturn g e.ref 5 x.1
    | none => x.2.2.helperReturn g e.ref 5 x.1).dr.returns = _
  cases x.2.1 with
  | none => rfl
  | some v => exact Dev.putResult_returns ..

theorem step_does {g : Fin 26} (he : (d.takePhasor g (· != 1)).1 = some e) (hl : d.lull = false) :
    Does (.step g) d ((d.takePhasor g (· != 1)).2.phasorTicket g e) := by
  refine fun _ => exec_next rfl ((if_neg (Bool.eq_false_iff.1 hl)).trans ?_)
  simp only [he]

theorem state_does {g : Fin 26} (he : (d.takePhasor g (· == 1)).1 = some e) (hl : d.lull = false) :
    Does (.state g) d ((d.takePhasor g (· == 1)).2.phasorState g e) := by
  refine fun _ => exec_next rfl ((if_neg (Bool.eq_false_iff.1 hl)).trans ?_)
  simp only [he]

/-- STATE copies a block into the job's context. -/
theorem Dev.phasorState_copies {a : Nat} (ha : d.load (ctxWord (jobKey g e.ref.slot) (HO.arg e.op)) 8 = a) (hs : a % 2 ^ 11 < 1536)
    (hr : HO.res e.op ≤ 56) : d.phasorState g e =
      (d.putResult g e.ref (HO.res e.op) (d.bytes (blockAddr g (a % 2 ^ 11)) 64)).helperReturn g e.ref 5 0 := by
  have hslot : bitsOf (d.load (ctxWord (jobKey g e.ref.slot) (bitsOf e.op 26 6)) 8) 0 11 = a % 2 ^ 11 := by
    rw [← ha, bitsOf, pow_zero, Nat.div_one]
    rfl
  have hgood : ¬ (decide (1536 ≤ a % 2 ^ 11) || decide (56 < bitsOf e.op 20 6)) = true := by
    simp only [Bool.or_eq_true, decide_eq_true_eq, not_or]
    exact ⟨Nat.not_le.2 hs, Nat.not_lt.2 hr⟩
  simp only [Dev.phasorState, hslot]
  exact if_neg hgood

end

end Sys2Proof.Machine
end

/-! ## Admission (R129 to R134) -/
section
namespace Sys2Proof.Machine

/-! ### What the cells and tickets of an admission leave of Draught and of the frames -/

/-- Draught's state and the frames. -/
def Dev.inFlight (d : Dev) : Draught × Tab Frame := (d.dr, d.frames)

theorem Dev.inFlight_iff {d : Dev} {x : Draught} {fs : Tab Frame} : d.inFlight = (x, fs) ↔ d.dr = x ∧ d.frames = fs := Prod.ext_iff

section
variable (d : Dev)

theorem Dev.setJob_inFlight (j : Nat) (y : Job) : (d.setJob j y).inFlight = ({ d.dr with jobs := d.dr.jobs.put j y }, d.frames) := rfl

theorem Dev.withDr_inFlight (rs : Tab Word64) (fr : Nat) (x : Draught) : (d.withDr rs fr x).inFlight = (x, d.frames) := rfl

theorem Dev.withRegs_inFlight (rs : Tab Word64) (fr : Nat) : (d.withRegs rs fr).inFlight = d.inFlight := rfl

theorem Dev.wr_inFlight (r : Reg) (f : Fld) (x : Nat) : (d.wr r f x).inFlight = d.inFlight := rfl

theorem Dev.setEntry_inFlight (row c : Nat) (v : Word64) : (d.setEntry row c v).inFlight = d.inFlight := rfl

theorem Dev.put_inFlight (a : Nat) (bs : List Byte) : (d.put a bs).inFlight = d.inFlight := (rfl)

theorem Dev.store_inFlight (a n x : Nat) : (d.store a n x).inFlight = d.inFlight := (rfl)

theorem Dev.goodWords_inFlight (g a n : Nat) : (d.goodWords g a n).inFlight = d.inFlight := (rfl)

theorem Dev.inc_inFlight (r : Reg) (f : Fld) (n : Nat) : (d.inc r f n).inFlight = d.inFlight := by
  obtain ⟨rs, fr, h⟩ := d.inc_withRegs r f n
  rw [h, Dev.withRegs_inFlight]

theorem Dev.markLow_inFlight (r : Reg) (f : Fld) (x : Nat) : (d.markLow r f x).inFlight = d.inFlight := by
  rw [Dev.markLow]
  split <;> rfl

theorem Dev.sendPause_inFlight (row : Nat) (on : Bool) : (d.sendPause row on).inFlight = d.inFlight := by
  refine foldl_keeps (f := fun (d : Dev) (o : Out) => match o with | .pause p _ _ => (d.out o).stat p 8 | _ => d) (fun e : Dev => e.inFlight) ?_ _ d
  intro e o
  split
  · exact Prod.ext (Dev.out_dr ..) (Dev.out_frames ..)
  · rfl

theorem Dev.pauseCheck_inFlight (row : Nat) : (d.pauseCheck row).inFlight = d.inFlight := by
  simp only [Dev.pauseCheck]
  split
  · rfl
  · split
    · exact Dev.sendPause_inFlight ..
    · split
      · exact Dev.sendPause_inFlight ..
      · rfl

theorem Dev.setRow_inFlight (row free resv : Nat) : (d.setRow row free resv).inFlight = d.inFlight := by
  rw [Dev.setRow, Dev.pauseCheck_inFlight]
  exact (Dev.markLow_inFlight ..).trans ((Dev.wr_inFlight ..).trans (Dev.markLow_inFlight ..))

theorem Dev.push_inFlight (row c : Nat) : (d.push row c).inFlight = d.inFlight := Dev.setRow_inFlight ..

theorem Dev.useQuota_inFlight (tag row add sub : Nat) : (d.useQuota tag row add sub).inFlight = d.inFlight := by
  rw [Dev.useQuota]
  split <;> rfl

theorem Dev.reserve_inFlight (row tag n : Nat) (c7 : Bool) : (d.reserve row tag n c7).2.inFlight = d.inFlight := by
  have hif (c : Bool) (u : Dev) (hu : u.inFlight = d.inFlight) : (if c then (true, u) else (false, d)).2.inFlight = d.inFlight := by
    split
    · exact hu
    · rfl
  exact hif _ _ ((Dev.setRow_inFlight ..).trans (Dev.useQuota_inFlight ..))

theorem Dev.binRefuse_inFlight (f : Fld) (req tag ptr : Nat) : (d.binRefuse f req tag ptr).inFlight = d.inFlight := Dev.inc_inFlight ..

theorem Dev.unreserve_inFlight (row tag n : Nat) : (d.unreserve row tag n).inFlight = d.inFlight := by
  simp only [Dev.unreserve]
  split
  · exact Dev.binRefuse_inFlight ..
  · exact (Dev.setRow_inFlight ..).trans (Dev.useQuota_inFlight ..)

theorem Dev.eddyPool_inFlight : d.eddyPool.inFlight = d.inFlight := by
  simp only [Dev.eddyPool]
  split
  · exact Dev.reserve_inFlight ..
  · split
    · exact Dev.unreserve_inFlight ..
    · rfl

theorem Dev.ownAll_inFlight (row tag : Nat) (l : List Nat) : (d.ownAll row tag l).inFlight = d.inFlight := by
  induction l generalizing d with
  | nil => rfl
  | cons c rest ih => exact (ih _).trans (Dev.setEntry_inFlight ..)

theorem Dev.xfer_inFlight (ptr old new : Nat) : (d.xfer ptr old new).inFlight = d.inFlight := by
  simp only [Dev.xfer]
  split
  · exact Dev.binRefuse_inFlight ..
  · split
    · exact Dev.binRefuse_inFlight ..
    · exact (Dev.ownAll_inFlight ..).trans ((Dev.useQuota_inFlight ..).trans (Dev.useQuota_inFlight ..))

theorem Dev.ownChain_inFlight (h tag : Nat) : (d.ownChain h tag).inFlight = d.inFlight := by
  simp only [Dev.ownChain]
  split
  · rfl
  · split
    · split
      · exact (Dev.xfer_inFlight ..).trans (Dev.setEntry_inFlight ..)
      · rfl
    · exact Dev.xfer_inFlight ..

theorem Dev.syncOcc_inFlight : d.syncOcc.inFlight = d.inFlight := by
  obtain ⟨rs, fr, h⟩ := d.syncOcc_withRegs
  rw [h, Dev.withRegs_inFlight]

theorem Dev.takeTicket_inFlight (x : Ticket) : (d.takeTicket x).2.inFlight = d.inFlight := Dev.syncOcc_inFlight _

end

/-! ### An admission under way -/

/-- Job `j` has entered for frame `h`, which is still there; the admission queues are `adm`. -/
structure Dev.Admitted (d : Dev) (adm : Tab (List Nat)) (h j : Nat) : Prop where
  queues : d.dr.adm = adm
  present : d.frames.find h ≠ none
  frame : (d.job j).frame = h
  running : (d.job j).st = 1

section
variable {d e : Dev} {adm : Tab (List Nat)} {h j : Nat}

theorem Dev.Admitted.of_inFlight (ha : d.Admitted adm h j) (he : e.inFlight = d.inFlight) : e.Admitted adm h j := by
  obtain ⟨hdr, hfr⟩ := Dev.inFlight_iff.1 he
  obtain ⟨hadm, hfind, hframe, hst⟩ := ha
  constructor <;> simpa only [Dev.job, hdr, hfr]

theorem Dev.Admitted.setJob (ha : d.Admitted adm h j) {k : Nat} {y : Job} (hy : k = j → y.frame = h ∧ y.st = 1) : (d.setJob k y).Admitted adm h j := by
  obtain ⟨hadm, hfind, hframe, hst⟩ := ha
  by_cases hk : k = j
  · obtain ⟨hyf, hys⟩ := hy hk
    refine ⟨hadm, hfind, ?_, ?_⟩ <;> rw [← hk, Dev.job_setJob_self]
    · exact hyf
    · exact hys
  · have hjob : (d.setJob k y).job j = d.job j := congrArg (fun o : Option Job => o.getD {}) (Tab.find_put_other _ (Ne.symm hk) _)
    exact ⟨hadm, hfind, hjob ▸ hframe, hjob ▸ hst⟩

theorem Dev.Admitted.modFrame (ha : d.Admitted adm h j) (k : Nat) (f : Frame → Frame) : (d.modFrame k f).Admitted adm h j := by
  obtain ⟨hadm, hfind, hframe, hst⟩ := ha
  rw [Dev.modFrame]
  split
  · exact ⟨hadm, hfind, hframe, hst⟩
  · refine ⟨hadm, ?_, hframe, hst⟩
    by_cases hk : h = k
    · rw [hk]
      exact fun hn => Option.some_ne_none _ ((Tab.find_put_self ..).symm.trans hn)
    · exact fun hn => hfind ((Tab.find_put_other _ hk _).symm.trans hn)

theorem Dev.Admitted.eddyReturn (ha : d.Admitted adm h j) (k : Nat) : (d.eddyReturn k).Admitted adm h j := by
  simp only [Dev.eddyReturn]
  split
  · exact ha
  · refine (ha.modFrame k (fun f => { f with credit := false, eddyCell := none })).of_inFlight ((Dev.eddyPool_inFlight _).trans ?_)
    split
    · exact (Dev.push_inFlight ..).trans ((Dev.useQuota_inFlight ..).trans (Dev.wr_inFlight ..))
    · exact Dev.wr_inFlight ..

end

/-! ### A copy enters a gallery (R131) -/

section
variable (d : Dev) (h g : Nat) (twin : Bool)

theorem Dev.freeSlotOf_lt : d.freeSlotOf g < 2048 := by
  rw [Dev.freeSlotOf]
  cases hf : (List.range 2048).find? (fun s => (d.dr.jobs.find (jobKey g s)).isNone) with
  | none => exact Nat.zero_lt_succ _
  | some s => exact List.mem_range.1 (List.mem_of_find?_eq_some hf)

/-- Nodes without a predecessor are ready at once. -/
theorem Dev.readyAll_only (e : Dev) (j : Nat) (cnt : List Nat) (l : List Nat) :
    ∃ rd, l.foldl (fun d k => if cnt.getD k 0 = 0 then d.readyNode j k else d) e = { e with dr := { e.dr with ready := rd } } := by
  refine foldl_shape (P := fun x : Dev => ∃ rd, x = { e with dr := { e.dr with ready := rd } }) l ⟨e.dr.ready, rfl⟩ ?_
  rintro _ k ⟨rd, rfl⟩
  dsimp only
  split <;> exact ⟨_, rfl⟩

/-- The tub of a copy, as its job gets it. -/
def Dev.entryTub (d : Dev) (h g : Nat) (twin : Bool) : Tub :=
  Tub.clean (T.twin.put (T.job_slot.put (T.gallery.put (d.frame h).tub g) (d.freeSlotOf g)) (b2n twin))

/-- A job's context is filled with its tub, its status words and the frame's header window (R152). -/
def Dev.contextPut (d : Dev) (g j : Nat) (f : Frame) (tub : Tub) : Dev :=
  let d := d.put (ctxAddr j) (leBytes 32 tub.toNat)
  let d := d.store (ctxWord j 28) 8 0
  let d := d.store (ctxWord j 29) 8 (d.gen j * 2 ^ 56 + f.exc.getD 0 * 2 ^ 48 + f.winLen * 2 ^ 32 + f.winLen * 2 ^ 16)
  let d := d.store (ctxWord j 30) 8 f.word30.toNat
  let d := d.store (ctxWord j 31) 8 f.word31.toNat
  let d := d.put (ctxWord j 32) f.window
  ((d.goodWords g (ctxAddr j) 32).goodWords g (ctxWord j 28) 32).goodWords g (ctxWord j 32) f.window.length

theorem Dev.contextPut_inFlight (j : Nat) (f : Frame) (tub : Tub) : (d.contextPut g j f tub).inFlight = d.inFlight := by
  simp only [Dev.contextPut, Dev.goodWords_inFlight, Dev.put_inFlight, Dev.store_inFlight]

/-- The counters of a job that enters: the in-degrees of its nodes. -/
def Dev.entryCounts (d : Dev) (t n : Nat) : List Nat := (List.range 16).map (fun k => if k < n then ND.in_deg (d.tmplNode t k) else 0)

/-- The cells that an entering copy reserves. -/
def Dev.entryReserve (d : Dev) (h g : Nat) : Dev :=
  (d.reserve (d.frame h).row (tagJob g (d.freeSlotOf g)) (1 + TH.res_cells (d.tmplHdr (T.template.get (d.frame h).tub)))
    (T.tclass.get (d.frame h).tub == 7)).2

/-- The copy has its cells and its context. -/
def Dev.entryFilled (d : Dev) (h g : Nat) (twin : Bool) : Dev :=
  (d.entryReserve h g).contextPut g (jobKey g (d.freeSlotOf g)) (d.frame h) (d.entryTub h g twin)

theorem Dev.entryFilled_inFlight : (d.entryFilled h g twin).inFlight = d.inFlight :=
  (Dev.contextPut_inFlight ..).trans (Dev.reserve_inFlight ..)

/-- The job of an entering copy. -/
def Dev.entryJob (d : Dev) (h g : Nat) (twin : Bool) : Job :=
  let t := T.template.get (d.frame h).tub
  { tub := d.entryTub h g twin, tmpl := t, frame := h, cnt := (d.entryFilled h g twin).entryCounts t (TH.n_nodes (d.tmplHdr t))
    resv := 1 + TH.res_cells (d.tmplHdr t), row := (d.frame h).row, winLen := (d.frame h).winLen, pipe := (d.frame h).pipe, twin := twin }

/-- The copy's job stands in its slot. -/
def Dev.entryPlaced (d : Dev) (h g : Nat) (twin : Bool) : Dev :=
  (d.entryFilled h g twin).setJob (jobKey g (d.freeSlotOf g)) (d.entryJob h g twin)

theorem Dev.entryPlaced_inFlight : (d.entryPlaced h g twin).inFlight =
    ({ d.dr with jobs := d.dr.jobs.put (jobKey g (d.freeSlotOf g)) (d.entryJob h g twin) }, d.frames) := by
  obtain ⟨hdr, hfr⟩ := Dev.inFlight_iff.1 (d.entryFilled_inFlight h g twin)
  rw [Dev.entryPlaced, Dev.setJob_inFlight, hdr, hfr]

/-- An entry is counted at its template and its pipe, and traced. -/
def Dev.entryCount (u : Dev) (t pipe j : Nat) : Dev :=
  ((u.wr (R.DR_TCTL t) F.DR_TCTL_live (u.rd (R.DR_TCTL t) F.DR_TCTL_live + 1)).inc (R.DR_PCNT pipe) F.DR_PCNT_admitted).jobTrace 0 j

theorem Dev.entryCount_withDr (u : Dev) (t pipe j : Nat) : ∃ rs fr n l, u.entryCount t pipe j = u.withDr rs fr { u.dr with gap := n, trace := l } := by
  obtain ⟨rs, fr, hinc⟩ := (u.wr (R.DR_TCTL t) F.DR_TCTL_live (u.rd (R.DR_TCTL t) F.DR_TCTL_live + 1)).inc_withRegs (R.DR_PCNT pipe)
    F.DR_PCNT_admitted 1
  rw [Dev.entryCount, hinc]
  exact Dev.jobTrace_withDr (u.withRegs rs fr) 0 j 0 0 0 0

/-- The copy's job stands in its slot, counted and traced. -/
def Dev.entryCounted (d : Dev) (h g : Nat) (twin : Bool) : Dev :=
  (d.entryPlaced h g twin).entryCount (T.template.get (d.frame h).tub) (d.frame h).pipe (jobKey g (d.freeSlotOf g))

theorem Dev.enter_steps : d.enter h g twin = (jobKey g (d.freeSlotOf g), (List.range (TH.n_nodes (d.tmplHdr (T.template.get (d.frame h).tub)))).foldl
    (fun e k => if (d.entryJob h g twin).cnt.getD k 0 = 0 then e.readyNode (jobKey g (d.freeSlotOf g)) k else e) (d.entryCounted h g twin)) := by
  simp only [Dev.enter, Dev.entryCounted, Dev.entryCount, Dev.entryPlaced, Dev.entryJob, Dev.entryFilled, Dev.contextPut, Dev.entryReserve, Dev.entryTub, Dev.entryCounts]
  rfl

/-- Counting and tracing an entry, and readying its first nodes, leaves the jobs and the frames alone. -/
theorem Dev.entryCount_inFlight {u : Dev} {x : Draught} {fs : Tab Frame} (hu : u.inFlight = (x, fs)) (t pipe j : Nat) (cnt l : List Nat) :
    ∃ rd n tr, (l.foldl (fun e k => if cnt.getD k 0 = 0 then e.readyNode j k else e) (u.entryCount t pipe j)).inFlight =
      ({ x with ready := rd, gap := n, trace := tr }, fs) := by
  obtain ⟨hdr, hfr⟩ := Dev.inFlight_iff.1 hu
  obtain ⟨rs, fr, n, tr, hcounted⟩ := u.entryCount_withDr t pipe j
  obtain ⟨rd, hready⟩ := Dev.readyAll_only (u.entryCount t pipe j) j cnt l
  refine ⟨rd, n, tr, ?_⟩
  rw [hready, hcounted, ← hdr, ← hfr]
  rfl

/-- What a copy that enters changes: its job stands in its slot, and nodes may be ready. -/
theorem Dev.enter_inFlight : ∃ rd n l, (d.enter h g twin).2.inFlight = ({ d.dr with
    jobs := d.dr.jobs.put (jobKey g (d.freeSlotOf g)) (d.entryJob h g twin), ready := rd, gap := n, trace := l }, d.frames) := by
  rw [Dev.enter_steps]
  exact Dev.entryCount_inFlight (d.entryPlaced_inFlight h g twin) ..

variable {d h g twin}

/-- The first copy of a frame enters. -/
theorem Dev.enter_admitted {adm : Tab (List Nat)} (hadm : d.dr.adm = adm) (hf : d.frames.find h ≠ none) :
    (d.enter h g twin).2.Admitted adm h (jobKey g (d.freeSlotOf g)) := by
  obtain ⟨rd, n, l, hfl⟩ := d.enter_inFlight h g twin
  obtain ⟨hdr, hfr⟩ := Dev.inFlight_iff.1 hfl
  have hjob : (d.enter h g twin).2.job (jobKey g (d.freeSlotOf g)) = d.entryJob h g twin := by
    rw [Dev.job, hdr]
    exact Tab.get_put_self ..
  refine ⟨?_, ?_, ?_, ?_⟩
  · rw [hdr, ← hadm]
  · rw [hfr]
    exact hf
  · rw [hjob]
    rfl
  · rw [hjob]
    rfl

/-- The copy of a twin enters another gallery. -/
theorem Dev.Admitted.enter {adm : Tab (List Nat)} {a s : Nat} (ha : d.Admitted adm h (jobKey a s)) (hs : s < 2048) (hg : g ≠ a) :
    (d.enter h g twin).2.Admitted adm h (jobKey a s) := by
  obtain ⟨hadm, hfind, hframe, hst⟩ := ha
  obtain ⟨rd, n, l, hfl⟩ := d.enter_inFlight h g twin
  obtain ⟨hdr, hfr⟩ := Dev.inFlight_iff.1 hfl
  have hkey : jobKey a s ≠ jobKey g (d.freeSlotOf g) := by
    have := d.freeSlotOf_lt g
    simp only [jobKey]
    omega
  have hjob : (d.enter h g twin).2.job (jobKey a s) = d.job (jobKey a s) := by
    rw [Dev.job, hdr]
    exact congrArg (fun o : Option Job => o.getD {}) (Tab.find_put_other _ hkey _)
  refine ⟨?_, ?_, ?_, ?_⟩
  · rw [hdr, ← hadm]
  · rw [hfr]
    exact hfind
  · rw [hjob]
    exact hframe
  · rw [hjob]
    exact hst

end

/-! ### The ticket and the frame of an admission (R130, R131) -/

/-- The ticket of an admission names its jobs, the frame's cells go to their new owner, and the frame is in its job. -/
def Dev.admitEnd (d : Dev) (h t : Nat) (twin : Bool) (js : List Nat) (tag : Nat) : Dev :=
  let d := d.setTix t { d.tix t with twin := twin }
  let d := js.foldl (fun d j => d.setJob j { d.job j with ticket := t }) d
  let d := d.ownChain h tag
  (d.eddyReturn h).modFrame h (fun f => { f with stage := .job, ticket := none })

section
variable {d : Dev} {adm : Tab (List Nat)} {h j : Nat}

theorem Dev.Admitted.tickets (ha : d.Admitted adm h j) (t : Nat) (js : List Nat) :
    (js.foldl (fun d j => d.setJob j { d.job j with ticket := t }) d).Admitted adm h j := by
  refine foldl_shape (P := fun e : Dev => e.Admitted adm h j) js ha fun e k he => he.setJob ?_
  obtain ⟨-, -, hframe, hst⟩ := he
  rintro rfl
  exact ⟨hframe, hst⟩

theorem Dev.Admitted.admitEnd (ha : d.Admitted adm h j) (t : Nat) (twin : Bool) (js : List Nat) (tag : Nat) :
    (d.admitEnd h t twin js tag).Admitted adm h j ∧ ((d.admitEnd h t twin js tag).frame h).stage = .job := by
  have htix : (d.setTix t { d.tix t with twin := twin }).Admitted adm h j := ha.of_inFlight rfl
  have hback := ((htix.tickets t js).of_inFlight (Dev.ownChain_inFlight _ h tag)).eddyReturn h
  refine ⟨hback.modFrame .., ?_⟩
  obtain ⟨-, hfind, -, -⟩ := hback
  obtain ⟨f, hf⟩ := Option.ne_none_iff_exists'.1 hfind
  exact congrArg Frame.stage (Dev.frame_of_find (Dev.modFrame_find hf _))

/-- The copies of a frame that have entered. -/
def Dev.entered (d : Dev) (h g : Nat) : Option Nat → Dev
  | none => (d.enter h g false).2
  | some q => ((d.enter h g true).2.enter h q true).2

theorem Dev.entered_admitted {g : Nat} {partner : Option Nat} (hadm : d.dr.adm = adm) (hf : d.frames.find h ≠ none)
    (hp : ∀ q, partner = some q → q ≠ g) : (d.entered h g partner).Admitted adm h (jobKey g (d.freeSlotOf g)) := by
  cases partner with
  | none => exact Dev.enter_admitted hadm hf
  | some q => exact (Dev.enter_admitted hadm hf).enter (d.freeSlotOf_lt g) (hp q rfl)

/-- An admission ends with the ticket of what has entered. -/
theorem Dev.admitTo_ends (d : Dev) (h g : Nat) (partner : Option Nat) : ∃ (e : Dev) (t : Nat) (js : List Nat) (tag : Nat),
    d.admitTo h g partner = e.admitEnd h t partner.isSome js tag ∧ e.inFlight = (d.entered h g partner).inFlight := by
  cases partner with
  | none =>
    rcases he : d.enter h g false with ⟨k, e⟩
    cases ht : (d.frame h).ticket with
    | some t =>
      refine ⟨e.setTix t { (e.tix t).to e.now 1 with jobs := [k], rel := none }, t, [k], tagJob (k / 2048) (k % 2048), ?_, ?_⟩
      · simp only [Dev.admitTo, Option.isSome_none, he, ht]
        rfl
      · rw [Dev.entered, he]
        rfl
    | none =>
      refine ⟨(e.takeTicket { dom := (d.frame h).dom, seq := (d.frame h).seq, cls := T.tclass.get (d.frame h).tub, st := 1, jobs := [k], frame := h, twin := false }).2,
        (e.takeTicket { dom := (d.frame h).dom, seq := (d.frame h).seq, cls := T.tclass.get (d.frame h).tub, st := 1, jobs := [k], frame := h, twin := false }).1,
        [k], tagJob (k / 2048) (k % 2048), ?_, ?_⟩
      · simp only [Dev.admitTo, Option.isSome_none, he, ht]
        rfl
      · rw [Dev.entered, he]
        exact Dev.takeTicket_inFlight ..
  | some q =>
    rcases he : d.enter h g true with ⟨k, e⟩
    rcases he2 : e.enter h q true with ⟨k2, e2⟩
    cases ht : (d.frame h).ticket with
    | some t =>
      refine ⟨e2.setTix t { (e2.tix t).to e2.now 1 with jobs := [k, k2], rel := none }, t, [k, k2], tagTicket t, ?_, ?_⟩
      · simp only [Dev.admitTo, Option.isSome_some, he, he2, ht]
        rfl
      · rw [Dev.entered, he, he2]
        rfl
    | none =>
      refine ⟨(e2.takeTicket { dom := (d.frame h).dom, seq := (d.frame h).seq, cls := T.tclass.get (d.frame h).tub, st := 1, jobs := [k, k2], frame := h, twin := true }).2,
        (e2.takeTicket { dom := (d.frame h).dom, seq := (d.frame h).seq, cls := T.tclass.get (d.frame h).tub, st := 1, jobs := [k, k2], frame := h, twin := true }).1,
        [k, k2], tagTicket (e2.takeTicket { dom := (d.frame h).dom, seq := (d.frame h).seq, cls := T.tclass.get (d.frame h).tub, st := 1, jobs := [k, k2], frame := h, twin := true }).1, ?_, ?_⟩
      · simp only [Dev.admitTo, Option.isSome_some, he, he2, ht]
        rfl
      · rw [Dev.entered, he, he2]
        exact Dev.takeTicket_inFlight ..

theorem Dev.admitTo_admits {g : Nat} {partner : Option Nat} (hadm : d.dr.adm = adm) (hf : d.frames.find h ≠ none)
    (hp : ∀ q, partner = some q → q ≠ g) : (d.admitTo h g partner).Admitted adm h (jobKey g (d.freeSlotOf g))
      ∧ ((d.admitTo h g partner).frame h).stage = .job := by
  obtain ⟨e, t, js, tag, hd, he⟩ := d.admitTo_ends h g partner
  rw [hd]
  exact ((Dev.entered_admitted hadm hf hp).of_inFlight he).admitEnd ..

end

/-! ### An admission queue is considered -/

section
variable {d : Dev} {k h a : Nat} {rest : List Nat}

theorem Dev.partnerOf_ne {g n q : Nat} (hq : d.partnerOf h g n = some q) : q ≠ g := by
  rw [Dev.partnerOf] at hq
  split at hq
  · rename_i hc
    cases hq
    simp only [Bool.and_eq_true, bne_iff_ne] at hc
    exact hc.1.1.1.1.2
  · cases hq

theorem Dev.admission_empty (hq : d.dr.adm.get [] k = []) : d.admission k = d := by
  rw [Dev.admission, hq]
  split <;> rfl

theorem Dev.admPop_adm : (d.admPop k).dr.adm = d.dr.adm.upd [] k (·.drop 1) ∧ (d.admPop k).frames = d.frames := ⟨rfl, rfl⟩

/-- The pipe's next turn starts after gallery `a` (R129). -/
def Dev.turned (d : Dev) (p a : Nat) : Dev :=
  { d with dr := { d.dr with rr := d.dr.rr.set none p (if (a + 1) % 26 = 6 * p then none else some ((a + 1) % 26)) } }

/-- The galleries that pipe `p` may ask, in their turn (R129). -/
def Dev.askOrder (d : Dev) (p : Nat) : List Nat :=
  ((List.range 26).map (fun i => ((d.dr.rr.get none p).getD (6 * p) + i) % 26)).filter (fun x => d.galActive x && d.rl.swapOld != some x)

/-- Count and record a twin that enters alone, where `alone` says so. -/
def Dev.countSingle (u : Dev) (alone : Bool) (p t g slot : Nat) (tub : Tub) : Dev :=
  if alone then (u.inc (R.DR_PCNT p) F.DR_PCNT_twin_single).trace 8 t g slot tub p else u

theorem Dev.countSingle_inFlight (u : Dev) (alone : Bool) (p t g slot : Nat) (tub : Tub) :
    ∃ n l, (u.countSingle alone p t g slot tub).inFlight = ({ u.dr with gap := n, trace := l }, u.frames) := by
  rw [Dev.countSingle]
  split
  · obtain ⟨hdr, hfr⟩ := Dev.inFlight_iff.1 (u.inc_inFlight (R.DR_PCNT p) F.DR_PCNT_twin_single 1)
    obtain ⟨rs, fr, n, l, h⟩ := (u.inc (R.DR_PCNT p) F.DR_PCNT_twin_single).trace_withDr 8 t g slot tub p 0 0 0 0
    exact ⟨n, l, by rw [h, Dev.withDr_inFlight, hdr, hfr]⟩
  · exact ⟨u.dr.gap, u.dr.trace, rfl⟩

theorem Dev.Admitted.countSingle {u : Dev} {adm : Tab (List Nat)} {j : Nat} (ha : u.Admitted adm h j) (alone : Bool)
    (p t g slot : Nat) (tub : Tub) : (u.countSingle alone p t g slot tub).Admitted adm h j := by
  obtain ⟨n, l, he⟩ := u.countSingle_inFlight alone p t g slot tub
  obtain ⟨hdr, hfr⟩ := Dev.inFlight_iff.1 he
  obtain ⟨hadm, hfind, hframe, hst⟩ := ha
  constructor <;> simpa only [Dev.job, hdr, hfr]

/-- A tub that may enter goes to the first gallery that has room for it, as a pair where a partner has room too. -/
theorem Dev.admission_enters (hen : d.on R.DR_CFG F.DR_CFG_adm_en = true) (hq : d.dr.adm.get [] k = h :: rest)
    (htix : 0 < (d.frame h).pass → (d.frame h).ticket.isSome = true) (href : d.refusal h = none)
    (haff : TH.affinity (d.tmplHdr (T.template.get (d.frame h).tub)) = false)
    (hroom : (d.askOrder (k / 2)).find? (fun x => (d.missing x (d.frame h).row (1 + TH.res_cells
      (d.tmplHdr (T.template.get (d.frame h).tub))) (T.tclass.get (d.frame h).tub == 7) (d.frame h).ticket.isSome).isNone) = some a) :
    ∃ q alone slot, (∀ x, q = some x → x ≠ a) ∧ d.admission k = (((d.turned (k / 2) a).admPop k).admitTo h a q).countSingle alone (k / 2)
      (T.template.get (d.frame h).tub) a slot (d.frame h).tub := by
  have hlate : (decide (0 < (d.frame h).pass) && (d.frame h).hasSeq && (d.frame h).ticket.isNone) = false := by
    rcases Nat.eq_zero_or_pos (d.frame h).pass with hz | hz
    · simp [hz]
    · simp [Option.isNone_eq_false_iff.2 (htix hz)]
  refine ⟨if T.tclass.get (d.frame h).tub == 7 && (d.frame h).twin && TH.twin_ok (d.tmplHdr (T.template.get (d.frame h).tub))
      && (d.turned (k / 2) a).on R.DR_CFG F.DR_CFG_twin_en
    then (d.turned (k / 2) a).partnerOf h a (1 + TH.res_cells (d.tmplHdr (T.template.get (d.frame h).tub))) else none, ?_, ?_, ?_, ?_⟩
  rotate_left 2
  · intro x hx
    split at hx
    · exact Dev.partnerOf_ne hx
    · cases hx
  · rw [Dev.admission, if_neg (by rw [hen]; decide), hq]
    refine (if_neg (Bool.eq_false_iff.1 hlate)).trans ?_
    rw [href]
    refine (if_neg (Bool.eq_false_iff.1 haff)).trans ?_
    rw [Dev.askOrder] at hroom
    simp only [hroom]
    rfl

theorem Dev.admission_admits (hen : d.on R.DR_CFG F.DR_CFG_adm_en = true) (hq : d.dr.adm.get [] k = h :: rest)
    (htix : 0 < (d.frame h).pass → (d.frame h).ticket.isSome = true) (href : d.refusal h = none)
    (haff : TH.affinity (d.tmplHdr (T.template.get (d.frame h).tub)) = false) (hf : d.frames.find h ≠ none)
    (hroom : (d.askOrder (k / 2)).find? (fun x => (d.missing x (d.frame h).row (1 + TH.res_cells
      (d.tmplHdr (T.template.get (d.frame h).tub))) (T.tclass.get (d.frame h).tub == 7) (d.frame h).ticket.isSome).isNone) = some a) :
    ∃ s, ((d.admission k).frame h).stage = .job ∧ ((d.admission k).job (jobKey a s)).frame = h ∧ ((d.admission k).job (jobKey a s)).st = 1
      ∧ (d.admission k).dr.adm.get [] k = rest := by
  obtain ⟨q, alone, slot, hqa, he⟩ := Dev.admission_enters hen hq htix href haff hroom
  have hfind : ((d.turned (k / 2) a).admPop k).frames.find h ≠ none := hf
  obtain ⟨ha, hstage⟩ := Dev.admitTo_admits (adm := d.dr.adm.upd [] k (·.drop 1)) rfl hfind hqa
  obtain ⟨n, l, hin⟩ := Dev.countSingle_inFlight (((d.turned (k / 2) a).admPop k).admitTo h a q) alone (k / 2)
    (T.template.get (d.frame h).tub) a slot (d.frame h).tub
  obtain ⟨hadm, -, hframe, hst⟩ := ha.countSingle alone (k / 2) (T.template.get (d.frame h).tub) a slot (d.frame h).tub
  rw [he]
  refine ⟨((d.turned (k / 2) a).admPop k).freeSlotOf a, ?_, hframe, hst, ?_⟩
  · rw [Dev.frame, (Dev.inFlight_iff.1 hin).2]
    exact hstage
  · rw [hadm, Tab.upd, Tab.get_set_self, hq]
    rfl

end

end Sys2Proof.Machine
end

/-! ## Draught, Hoist and the helper engines (R126 to R148, R289 to R303) -/
section
namespace Sys2Proof.Machine

/-! ### Admission -/

section
variable {d : Dev} {p : Fin 4} {c7 : Bool} {h : Nat} {rest : List Nat}

/-- An admission considers the queue of the class asked for, once the other one is empty. -/
theorem admission_does (hempty : c7 = false → d.dr.adm.get [] (p * 2 + 1) = []) : Does (.admission p c7) d (d.admission (p * 2 + b2n c7)) := by
  intro q
  cases c7 with
  | true => rfl
  | false =>
    refine exec_next rfl ?_
    exact congrArg (Dev.admission · (p * 2)) (Dev.admission_empty (hempty rfl))

theorem bareVoid_does {code : Nat} (hq : d.dr.adm.get [] (p * 2 + b2n c7) = h :: rest) (hr : d.refusal h = some code)
    (hen : d.on R.DR_CFG F.DR_CFG_adm_en = true) : Does (.bareVoid p c7) d (d.refuseTub (p * 2 + b2n c7) h code) := by
  refine fun _ => exec_next rfl ?_
  simp only [hq, hr]
  exact if_pos hen

end

/-! ### Dispatch of a ready node -/

section
variable {d : Dev} {g : Fin 26} {r : NodeRef}

theorem nodeDispatch_core {c : Nat} (h : ((d.countTurned g).dr.ready.get [] g).find? ((d.countTurned g).canDispatch g) = some r)
    (hk : ND.kind ((d.countTurned g).refNode g r) = 0) (hc : (d.countTurned g).pickCore g (ND.operand ((d.countTurned g).refNode g r)) = some c) :
    ∃ e, Does (.nodeDispatch g) d e ∧ e.dr.ready.get [] g = (d.dr.ready.get [] g).erase r
      ∧ e.dr.cq.get [] (g * 8 + c) = d.dr.cq.get [] (g * 8 + c) ++ [r] := by
  refine ⟨_, nodeDispatch_does h, ?_⟩
  obtain ⟨rs, fr, js, n, l, he⟩ := Dev.dispatch_core (d := (d.countTurned g).unready g r) hk hc
  obtain ⟨rs', fr', ld, hu⟩ := d.countTurned_only g
  rw [he, hu]
  exact ⟨Tab.get_set_self .., Tab.get_set_self ..⟩

theorem nodeDispatch_engine (h : ((d.countTurned g).dr.ready.get [] g).find? ((d.countTurned g).canDispatch g) = some r)
    (h1 : 1 ≤ ND.kind ((d.countTurned g).refNode g r)) (h6 : ND.kind ((d.countTurned g).refNode g r) ≠ 6) :
    ∃ e x, Does (.nodeDispatch g) d e ∧ e.dr.ready.get [] g = (d.dr.ready.get [] g).erase r ∧ e.dr.engine = d.dr.engine ++ [x]
      ∧ x.g = g.val ∧ x.kind = ND.kind ((d.countTurned g).refNode g r) ∧ x.op = ND.operand ((d.countTurned g).refNode g r) ∧ x.ref = r := by
  obtain ⟨rs, fr, gs, js, n, l, x, he, hx⟩ := Dev.dispatch_engine (d := (d.countTurned g).unready g r) h1 h6
  refine ⟨_, x, nodeDispatch_does h, ?_, ?_, hx⟩
  all_goals
    obtain ⟨rs', fr', ld, hu⟩ := d.countTurned_only g
    rw [he, hu]
  · exact Tab.get_set_self ..
  · rfl

theorem nodeDispatch_delay {t : Nat} (h : ((d.countTurned g).dr.ready.get [] g).find? ((d.countTurned g).canDispatch g) = some r)
    (hk : ND.kind ((d.countTurned g).refNode g r) = 6) (ht : d.delayDue (jobKey g r.slot) (ND.operand ((d.countTurned g).refNode g r)) = some t)
    (hl : (d.dr.delays.get [] g).length < 4096) :
    ∃ e, Does (.nodeDispatch g) d e ∧ e.dr.ready.get [] g = (d.dr.ready.get [] g).erase r
      ∧ e.dr.delays.get [] g = insertDelay { due := t, entered := d.now, ref := r } (d.dr.delays.get [] g) := by
  obtain ⟨rs', fr', ld, hu⟩ := d.countTurned_only g
  have hdue : ((d.countTurned g).unready g r).delayDue (jobKey g r.slot) (ND.operand ((d.countTurned g).refNode g r)) = some t := by
    rw [← ht, hu]
    exact Dev.delayDue_congr _ rfl rfl rfl
  have hroom : (((d.countTurned g).unready g r).dr.delays.get [] g).length < 4096 := by
    rw [hu]
    exact hl
  obtain ⟨rs, fr, js, n, l, he⟩ := Dev.dispatch_delay (d := (d.countTurned g).unready g r) hk hdue hroom
  refine ⟨_, nodeDispatch_does h, ?_⟩
  rw [he, hu]
  exact ⟨Tab.get_set_self .., Tab.get_set_self ..⟩

end

/-! ### What an engine's answer adds to the returns -/

section
variable {d : Dev} {g : Fin 26} {e : EngineOp}

/-- A command answers Draught for node `r` at once. -/
def Dev.Answers (d : Dev) (g : Fin 26) (r : NodeRef) (c : Instr) (kind status : Nat) : Prop :=
  ∃ f, Does c d f ∧ f.dr.returns = d.dr.returns ++ [(g.val, r, kind, status)]

theorem Dev.takeEngine_returns (d : Dev) (g k : Nat) : (d.takeEngine g k).2.dr.returns = d.dr.returns := by
  obtain ⟨es, h⟩ := d.takeEngine_only g k
  rw [h]

theorem Dev.takePhasor_returns (d : Dev) (g : Nat) (p : Nat → Bool) : (d.takePhasor g p).2.dr.returns = d.dr.returns := by
  obtain ⟨es, h⟩ := d.takePhasor_only g p
  rw [h]

theorem Dev.takeEngine_wordBad (d : Dev) (g k a n : Nat) : (d.takeEngine g k).2.wordBad g a n = d.wordBad g a n := by
  obtain ⟨es, h⟩ := d.takeEngine_only g k
  rw [h]
  rfl

theorem Dev.takePhasor_awaited (d : Dev) (g : Nat) (p : Nat → Bool) (r : NodeRef) : (d.takePhasor g p).2.awaited g r = d.awaited g r := by
  obtain ⟨es, h⟩ := d.takePhasor_only g p
  rw [h]
  rfl

theorem Dev.streamLook_fst (d : Dev) (sh : Nat) :
    (d.streamLook sh).1 = if d.st.clearing then 0 else if xeGood (d.streamRaw sh) then d.streamRaw sh else 0 := by
  simp only [Dev.streamLook]
  split
  · rfl
  · split <;> rfl

/-- Taking an engine's operation leaves a stream's look-up as it was. -/
theorem Dev.takeEngine_streamLook (d : Dev) (g k sh : Nat) : ((d.takeEngine g k).2.streamLook sh).1 = (d.streamLook sh).1 := by
  obtain ⟨es, h⟩ := d.takeEngine_only g k
  rw [Dev.streamLook_fst, Dev.streamLook_fst, h]
  rfl

end

/-! ### Each engine's answers -/

section
variable {d : Dev} {g : Fin 26} {e : EngineOp}

theorem lodeHelper_answers {bad : LodeErr} {r : LRes} {u : Dev} (he : (d.takeEngine g 1).1 = some e) (ht : d.lodeTurn g e.num = true)
    (hz : bitsOf e.op 4 16 = 0) (hs : bitsOf e.op 1 2 ≠ 3)
    (ha : bitsOf e.op 26 6 ≤ 60) (hr : bitsOf e.op 20 6 + (if bitAt e.op 0 then 16 else 8) ≤ 64)
    (hw : d.wordBad g (ctxWord (jobKey g e.ref.slot) (bitsOf e.op 26 6)) 32 = false)
    (hop : (d.takeEngine g 1).2.lodeOp (.gallery g e.num) (bitsOf e.op 32 8) (leBytes 32 (d.lodeBlock (jobKey g e.ref.slot) e.op)) 0 false
      (bitAt e.op 0) bad.at = (some r, u)) :
    ∃ f, Does (.lodeHelper g bad) d f ∧ f.dr.returns = u.dr.returns ++ [(g.val, e.ref, 1, r.status)] := by
  have hblock : (d.takeEngine g 1).2.lodeBlock (jobKey g e.ref.slot) e.op = d.lodeBlock (jobKey g e.ref.slot) e.op := by
    simp only [Dev.lodeBlock, Dev.load_of_mem (d.takeEngine_mem g 1)]
  rw [← hblock] at hop
  exact ⟨_, lodeHelper_does bad he ht, Dev.lodeTicket_answers hz hs ha hr (by rw [Dev.takeEngine_wordBad, hw]) hop⟩

theorem lodeHelper_refuses {bad : LodeErr} (he : (d.takeEngine g 1).1 = some e) (ht : d.lodeTurn g e.num = true) (h : bitsOf e.op 4 16 ≠ 0) :
    d.Answers g e.ref (.lodeHelper g bad) 1 7 :=
  ⟨_, lodeHelper_does bad he ht, by rw [Dev.lodeTicket_badArg _ h, Dev.takeEngine_returns]⟩

theorem streamHelper_refuses (he : (d.takeEngine g 2).1 = some e) (h : 62 < HO.res e.op) : d.Answers g e.ref (.streamHelper g) 2 7 :=
  ⟨_, streamHelper_does he, by rw [Dev.streamTicket_badArg h, Dev.takeEngine_returns]⟩

theorem streamHelper_badWord (he : (d.takeEngine g 2).1 = some e) (h : HO.res e.op ≤ 62)
    (hw : d.wordBad g (ctxWord (jobKey g e.ref.slot) (HO.arg e.op)) 8 = true) : d.Answers g e.ref (.streamHelper g) 2 3 :=
  ⟨_, streamHelper_does he, by rw [Dev.streamTicket_badWord h (by rw [Dev.takeEngine_wordBad, hw]), Dev.takeEngine_returns]⟩

theorem streamHelper_answers (he : (d.takeEngine g 2).1 = some e) (h : HO.res e.op ≤ 62)
    (hw : d.wordBad g (ctxWord (jobKey g e.ref.slot) (HO.arg e.op)) 8 = false)
    (hv : XE.valid.get (d.streamLook (d.load (ctxWord (jobKey g e.ref.slot) (HO.arg e.op)) 8 % 65536)).1 = 1) :
    d.Answers g e.ref (.streamHelper g) 2 0 := by
  refine ⟨_, streamHelper_does he, ?_⟩
  rw [Dev.streamTicket_valid h (by rw [Dev.takeEngine_wordBad, hw]) ?_, Dev.takeEngine_returns]
  rw [Dev.takeEngine_streamLook, Dev.load_of_mem (d.takeEngine_mem g 2), hv]

theorem ruleHelper_refuses (he : (d.takeEngine g 3).1 = some e) (h : 56 < HO.arg e.op) : d.Answers g e.ref (.ruleHelper g) 3 7 :=
  ⟨_, ruleHelper_does he, by rw [Dev.ruleTicket_badArg h, Dev.takeEngine_returns]⟩

theorem Dev.takeEngine_frame (d : Dev) (g k h : Nat) : (d.takeEngine g k).2.frame h = d.frame h := by
  obtain ⟨es, hs⟩ := d.takeEngine_only g k
  rw [hs]
  rfl

theorem ruleHelper_answers {i : Nat} {r : Rule} (he : (d.takeEngine g 3).1 = some e) (h : HO.arg e.op ≤ 56)
    (hw : d.wordBad g (ctxWord (jobKey g e.ref.slot) (HO.arg e.op)) 64 = false)
    (hr : let v := (d.takeEngine g 3).2.lookupVer e.ver (d.frame e.frame).retired
      v.2.searchRules (slotOf v.1) (HO.fn e.op % 8) (BitVec.ofNat 512 (v.2.load (ctxWord (jobKey g e.ref.slot) (HO.arg e.op)) 64)) = .hit i r) :
    d.Answers g e.ref (.ruleHelper g) 3 0 := by
  refine ⟨_, ruleHelper_does he, ?_⟩
  rw [Dev.ruleTicket_hits (i := i) (r := r) h (by rw [Dev.takeEngine_wordBad, hw]) ?_, Dev.takeEngine_returns]
  rw [Dev.takeEngine_frame]
  exact hr

theorem ddrFetch_refuses (he : (d.takeEngine g 4).1 = some e) (h : bitsOf e.op 0 9 = 0 ∨ 256 < bitsOf e.op 0 9) :
    d.Answers g e.ref (.ddrFetch g) 4 7 :=
  ⟨_, ddrFetch_does he, by rw [Dev.ddrFetch_badArg h, Dev.takeEngine_returns]⟩

theorem ddrFetch_answers {bs : List Byte} {u : Dev} (he : (d.takeEngine g 4).1 = some e) (h1 : 1 ≤ bitsOf e.op 0 9) (h256 : bitsOf e.op 0 9 ≤ 256)
    (hr : 8 * HO.res e.op + bitsOf e.op 0 9 ≤ 512) (hw : d.wordBad g (ctxWord (jobKey g e.ref.slot) (HO.arg e.op)) 8 = false)
    (ha : d.load (ctxWord (jobKey g e.ref.slot) (HO.arg e.op)) 8 + bitsOf e.op 0 9 ≤ 2 ^ 37)
    (hread : (d.takeEngine g 4).2.smRead 1 (d.load (ctxWord (jobKey g e.ref.slot) (HO.arg e.op)) 8) (bitsOf e.op 0 9) = (.ok bs, u)) :
    ∃ f, Does (.ddrFetch g) d f ∧ f.dr.returns = u.dr.returns ++ [(g.val, e.ref, 4, 0)]
      ∧ (u.awaited g e.ref = true → f.bytes (ctxWord (jobKey g e.ref.slot) (HO.res e.op)) bs.length = bs) := by
  have hload := Dev.load_of_mem (d.takeEngine_mem g 4) (ctxWord (jobKey g e.ref.slot) (HO.arg e.op)) 8
  rw [← hload] at ha hread
  refine ⟨_, ddrFetch_does he, ?_⟩
  rw [Dev.ddrFetch_reads h1 h256 hr (by rw [Dev.takeEngine_wordBad, hw]) ha hread, Dev.putResult_returns, Dev.helperReturn_bytes]
  exact ⟨rfl, Dev.putResult_bytes u g e.ref _ bs⟩

theorem step_refuses (he : (d.takePhasor g (· != 1)).1 = some e) (hl : d.lull = false) (h : bitsOf e.op 32 8 ≠ 0) :
    d.Answers g e.ref (.step g) 5 7 :=
  ⟨_, step_does he hl, by rw [Dev.phasorTicket_badFn h, Dev.takePhasor_returns]⟩

theorem step_answers (he : (d.takePhasor g (· != 1)).1 = some e) (hl : d.lull = false) (h : bitsOf e.op 32 8 = 0) :
    let x := (d.takePhasor g (· != 1)).2.phasorStep (jobKey g e.ref.slot) (d.load (ctxWord (jobKey g e.ref.slot) (HO.arg e.op)) 8)
    ∃ f, Does (.step g) d f ∧ f.dr.returns = x.2.2.dr.returns ++ [(g.val, e.ref, 5, x.1)] := by
  rw [← Dev.load_of_mem (d.takePhasor_mem g (· != 1))]
  exact ⟨_, step_does he hl, Dev.phasorTicket_steps h⟩

theorem state_answers (he : (d.takePhasor g (· == 1)).1 = some e) (hl : d.lull = false) {a : Nat}
    (ha : d.load (ctxWord (jobKey g e.ref.slot) (HO.arg e.op)) 8 = a) (hs : a % 2 ^ 11 < 1536) (hr : HO.res e.op ≤ 56) :
    ∃ f, Does (.state g) d f ∧ f.dr.returns = d.dr.returns ++ [(g.val, e.ref, 5, 0)]
      ∧ (d.awaited g e.ref = true → f.bytes (ctxWord (jobKey g e.ref.slot) (HO.res e.op)) 64 = d.bytes (blockAddr g (a % 2 ^ 11)) 64) := by
  have hmem := d.takePhasor_mem g (· == 1)
  have hbytes : (d.takePhasor g (· == 1)).2.bytes (blockAddr g (a % 2 ^ 11)) 64 = d.bytes (blockAddr g (a % 2 ^ 11)) 64 :=
    Dev.bytes_congr _ _ fun _ _ => Dev.byte_of_mem hmem _
  refine ⟨_, state_does he hl, ?_⟩
  rw [Dev.phasorState_copies (by rw [Dev.load_of_mem hmem, ha]) hs hr, Dev.putResult_returns, Dev.takePhasor_returns, Dev.helperReturn_bytes,
    hbytes]
  refine ⟨rfl, fun haw => ?_⟩
  have hput := Dev.putResult_bytes (d.takePhasor g (· == 1)).2 g e.ref (HO.res e.op) (d.bytes (blockAddr g (a % 2 ^ 11)) 64)
    (by rw [Dev.takePhasor_awaited, haw])
  rwa [Dev.length_bytes] at hput

end

/-- Settles O22. -/
theorem jobsAndHelpers : Obligations.JobsAndHelpers := by
  refine ⟨fun d g slot node p c7 t => ?draught, fun d g bad e => ?engines⟩
  case draught =>
    intro j u limit due ended
    refine ⟨fun _ => rfl, ?admits, fun h rest code => bareVoid_does, ?dispatch, ?complete, ?timeout, fun _ => rfl,
      fun x hx hs hr => ⟨_, fun _ => rfl, Dev.jobVoid_drains hx hs hr⟩, ?void, fun _ => rfl, ?fires, ?trace, ?release, fun _ => rfl,
      fun k x tub eh psel q hn hr => hoistRelease_drops hn hr, ?requests, fun _ => rfl, ?late, hoistReclaim_does, fun r => draughtReclaim_does⟩
    case admits =>
      intro h rest a hen hempty hq htix href haff hf hroom
      have hp : (p.val * 2 + b2n c7) / 2 = p.val := by
        have : b2n c7 < 2 := by cases c7 <;> decide
        omega
      obtain ⟨s, hs⟩ := Dev.admission_admits (a := a) hen hq htix href haff hf (by rw [hp]; exact hroom)
      exact ⟨_, s, admission_does hempty, hs⟩
    case dispatch =>
      intro r h nd
      exact ⟨nodeDispatch_does h, fun c => nodeDispatch_core h, nodeDispatch_engine h, fun t => nodeDispatch_delay h⟩
    case complete =>
      intro q r kind status rest h
      refine ⟨nodeComplete_does h, fun hx => ?_, fun x hx hg hs ho hv hk => ?_⟩
      · rw [← Dev.nodeComplete_absent (kind := kind) (status := status) (d := { d with dr := { d.dr with returns := rest } }) hx]
        exact nodeComplete_does h
      · have hdone := Dev.nodeComplete_completes (d := { d with dr := { d.dr with returns := rest } }) hx hg hs ho (.inl hv) hk
        exact ⟨_, nodeComplete_does h, hdone.returns, hdone.job⟩
    case timeout =>
      intro x hx hs ho h1 h5
      have hdoes := helperTimeout_does hx hs ho h1 h5
      exact ⟨hdoes, fun hv => ⟨_, hdoes, (helperTimeout_completes hx hs ho hv).job⟩⟩
    case void =>
      intro x hx hs hr
      rw [← Dev.jobVoid_ends hx hs hr]
      exact fun _ => rfl
    case fires =>
      exact ⟨_, fun _ => rfl, d.fireDelays_delays g _, fun y x hdue hx hg hs ho => Dev.fireDelays_completes hdue hx hg hs ho⟩
    case trace =>
      intro hw ht n x
      exact dispatchTraceDrain_does hw ht
    case release =>
      intro e he
      refine ⟨releaseNodeComplete_does he, fun x hx hg hs ht hj ha hb => ?_⟩
      obtain ⟨hst, rel, htix⟩ := releaseNodeComplete_takes hx hg hs ht hj ha hb
      exact ⟨_, rel, releaseNodeComplete_does he, hst, htix⟩
    case requests =>
      intro k x tub eh psel q hn hr h1 h
      exact ⟨_, _, fun _ => rfl, Dev.hoistRelease_reqs hn hr h1, rfl, rfl, rfl, rfl, rfl⟩
    case late =>
      intro x hx hs hu
      rw [← Dev.reorderLimit_ends hx hs hu]
      exact fun _ => rfl
  case engines =>
    intro answers blk arg v step
    refine ⟨fun he ht => ⟨lodeHelper_does bad he ht, lodeHelper_refuses he ht, fun r u hz hs ha hr hw => lodeHelper_answers he ht hz hs ha hr hw⟩,
      fun he => ⟨streamHelper_does he, streamHelper_refuses he, streamHelper_badWord he, streamHelper_answers he⟩,
      fun he => ⟨ruleHelper_does he, ruleHelper_refuses he, fun i r h hw hr => ruleHelper_answers he h hw hr⟩,
      fun he => ⟨ddrFetch_does he, ddrFetch_refuses he, fun bs u h1 h256 hr hw ha hread => ddrFetch_answers he h1 h256 hr hw ha hread⟩,
      fun he hl => ⟨step_does he hl, step_refuses he hl, step_answers he hl⟩,
      fun he hl => ⟨state_does he hl, state_answers he hl rfl⟩⟩

end Sys2Proof.Machine
end
